-- ==== Sys2Proof/Word.lean ====
section
/-! DEFINITION. The words of the FJ4 (spec 00, "numbers and units"): a register is 32 bits, a Drone stamp 64 bits of
fine ticks (R29), and memory is bytes. -/

namespace Sys2Proof

/-- One byte of task memory, log store or host memory. -/
abbrev Byte := BitVec 8

/-- One 32-bit register or record word (R5). -/
abbrev Word := BitVec 32

/-- A Drone time: an unsigned 64-bit count of fine ticks of 62.5 ps (R29). -/
abbrev Stamp := BitVec 64

/-- A general register number of a context, G0 to G15. -/
abbrev GReg := Fin 16

end Sys2Proof
end

