-- ==== Sys2Proof/Machine/Bits.lean ====
section
/-! DEFINITION. Fields of words: reading, replacing, sign extension, saturation and byte order. -/

namespace Sys2Proof.Machine

/-- The unsigned field of `len` bits of `w` at bit `lo`. -/
def getF {n : Nat} (w : BitVec n) (lo len : Nat) : Nat := (w.toNat >>> lo) % 2 ^ len

/-- Bit `i` of `w`. -/
def getB {n : Nat} (w : BitVec n) (i : Nat) : Bool := w.getLsbD i

/-- `w` with the field of `len` bits at `lo` replaced by the low `len` bits of `v`. -/
def putF {n : Nat} (w : BitVec n) (lo len v : Nat) : BitVec n :=
  (w &&& ~~~(BitVec.ofNat n ((2 ^ len - 1) <<< lo))) ||| BitVec.ofNat n ((v % 2 ^ len) <<< lo)

/-- `w` with bit `i` set to `b`. -/
def putB {n : Nat} (w : BitVec n) (i : Nat) (b : Bool) : BitVec n := putF w i 1 (if b then 1 else 0)

/-- The two's complement value of the low `len` bits of `v`. -/
def sxNat (len v : Nat) : Int :=
  let u := v % 2 ^ len
  if u < 2 ^ (len - 1) then Int.ofNat u else Int.ofNat u - Int.ofNat (2 ^ len)

/-- The signed field of `len` bits of `w` at `lo`. -/
def getS {n : Nat} (w : BitVec n) (lo len : Nat) : Int := sxNat len (w.toNat >>> lo)

/-- The `len`-bit two's complement code of `v`, as a natural number. -/
def encS (len : Nat) (v : Int) : Nat := (v % Int.ofNat (2 ^ len)).toNat

/-- `v` held within [lo, hi]. -/
def clampInt (lo hi v : Int) : Int := if v < lo then lo else if hi < v then hi else v

/-- A count of `len` bits that saturates. -/
def satNat (len v : Nat) : Nat := min v (2 ^ len - 1)

/-- `w` with its counter field at `lo` stepped up by `k`, saturating. -/
def addSat {n : Nat} (w : BitVec n) (lo len k : Nat) : BitVec n := putF w lo len (satNat len (getF w lo len + k))

/-- The mask of `len` ones at bit `lo`. -/
def maskN (lo len : Nat) : Nat := (2 ^ len - 1) <<< lo

/-- A 32-bit word from a natural number. -/
def toW (n : Nat) : Word := BitVec.ofNat 32 n

/-- A 32-bit word from an integer. -/
def intW (v : Int) : Word := BitVec.ofInt 32 v

/-- The low word of a stamp. -/
def loW (t : Stamp) : Word := toW t.toNat

/-- The high word of a stamp. -/
def hiW (t : Stamp) : Word := toW (t.toNat >>> 32)

/-- The stamp of two words. -/
def stampOf (lo hi : Word) : Stamp := BitVec.ofNat 64 (hi.toNat * 2 ^ 32 + lo.toNat)

/-- A stamp from a natural number. -/
def toS (n : Nat) : Stamp := BitVec.ofNat 64 n

/-- Truth as a bit. -/
def b2n (b : Bool) : Nat := if b then 1 else 0

/-- Sign-extends a value of `len` bits to a word. -/
def sxW (len v : Nat) : Word := intW (sxNat len v)

/-- Byte `i` of a word, byte 0 the least significant (little-endian, R5). -/
def byteOf (w : Word) (i : Nat) : Byte := BitVec.ofNat 8 (w.toNat >>> (8 * i))

/-- The word of four bytes, the first the least significant. -/
def wordOf (b0 b1 b2 b3 : Byte) : Word := toW (b0.toNat + b1.toNat * 2 ^ 8 + b2.toNat * 2 ^ 16 + b3.toNat * 2 ^ 24)

/-- The set bits of a mask of `n` bits, low first. -/
def bitsOf (n : Nat) (m : Nat) : List Nat := (List.range n).filter (fun i => m.testBit i)

/-- Bit-reversal of the low `len` bits of `v`. -/
def bitRev (len v : Nat) : Nat := (List.range len).foldl (fun a i => a + b2n (v.testBit i) * 2 ^ (len - 1 - i)) 0

/-- The bits of a value, the most significant first. -/
def bitsMsb (n v : Nat) : List Bool := (List.range n).map (fun i => v.testBit (n - 1 - i))

/-- A CRC of `n` bits with generator `g` and a seed over a message's bits, no zeros appended. -/
def crcMsb (n g seed : Nat) (bits : List Bool) : Nat :=
  bits.foldl (fun r b => (2 * r % 2 ^ n) ^^^ (if r.testBit (n - 1) != b then g else 0)) seed

/-- Rounds a / b to the nearest, halves up; b > 0. -/
def divRound (a b : Nat) : Nat := (a + b / 2) / b

end Sys2Proof.Machine
end

