-- ==== Sys2Proof/Syntax.lean ====
section
/-! DEFINITION. The commands of the FJ4: one constructor for each row of the spec's table of operations and events
(95, opcode_table.json), with the operands each row needs. Where a row is an event of the device's own (an edge, a
measured quantity, a frame that arrives), what the world outside brings to it is an operand; `ts` is the Drone time at
which the row happens, in the count of the island it happens in (R15). -/

namespace Sys2Proof

/-- Who makes a register access: the masters of R48. -/
inductive Master where
  | host
  | supervisor
  | ctx (x : Fin 128)
  | dma (c : Fin 16)
  deriving DecidableEq, Repr

/-- The four linked 64-bit quantities of "Reading 64-bit quantities" (R47). -/
inductive Linked where
  | droneNow
  | count (t : Fin 64) (pair : Fin 4)
  | capture (g : Fin 512)
  | captureV (g : Fin 512)
  | snap (d : Fin 16)
  deriving DecidableEq, Repr

/-- The registers of the shadow set of a channel (R92), and the pair's BR_DT and BR_MINPW. -/
inductive ShadowReg where
  | period | cmpa | cmpb | frac | act | ratio | pwmctrl | brDt | brMinpw
  deriving DecidableEq, Repr

/-- What the wake watcher watches outside (R239), the alarm apart. -/
inductive WatchSrc where
  | tioPin (p : Fin 256)
  | wakeIn
  | mlink (k : Fin 4)
  | mgmtSelect
  | perst
  deriving DecidableEq, Repr

/-- Who takes an edge that an input filter accepts (R115, R66, R133). -/
inductive Consumer where
  | capture (g : Fin 512)
  | primary (d : Fin 16)
  | phase (d : Fin 16)
  | phm (d : Fin 16) (i : Fin 4)
  deriving DecidableEq, Repr

/-- Who asks the calendar to decide (R144, R146). -/
inductive Requester where
  | keystone
  | supervisor
  | host
  | ctx (x : Fin 128)
  deriving DecidableEq, Repr

/-- Words 0 to 5 of an arm request (R141). -/
structure ArmWords where
  w0 : Word
  w1 : Word
  w2 : Word
  w3 : Word
  w4 : Word
  w5 : Word
  deriving DecidableEq, Repr

/-- The Governor's configuration registers other than GOV_BUDGET_MW (R226, R228). -/
inductive GovReg where
  | share | floor | depth (k : Fin 3) | thresh | thermFact | fcLimit | fcTime | epi (n : Fin 8) | ctrl
  deriving DecidableEq, Repr

/-- PORT_CFG and the mode registers of a port (R262). -/
inductive PortCfgReg where
  | cfg | spi | spi2 | sent | uart | dmemBase | dmemSize | notify
  deriving DecidableEq, Repr

/-- The time-trigger registers of a port (R267). -/
inductive PortTtReg where
  | tt | arg | per | atLo | atHi
  deriving DecidableEq, Repr

/-- The operations a LOCK frame asks of the root (R295): LOCK, WAIT LOCK, UNLOCK. -/
inductive LockOp where
  | acquire | wait | release
  deriving DecidableEq, Repr

/-- The ring registers of a DMA channel (R350). -/
inductive DmaRingReg where
  | baseLo | baseHi | size | head | share
  deriving DecidableEq, Repr

/-- By which path a command packet comes (R312). -/
inductive CmdPath where
  | hostBox (k : Fin 16)
  | supBox (j : Fin 2)
  | ring (c : Fin 16)
  | task (x : Fin 128)
  deriving DecidableEq, Repr

/-- A command packet without its opcode, which the row names (R313). -/
structure Packet where
  path : CmdPath
  tag : BitVec 16
  wait : Bool
  quiet : Bool
  target : Word
  params : List Word
  deriving DecidableEq, Repr

/-- A Mortar frame: header fields and payload words (R278, R291). -/
structure MFrame where
  ty : Nat
  src : Nat
  dst : Nat
  bcast : Bool
  hops : Nat
  payload : List Word
  deriving DecidableEq, Repr

/-- What makes the vectors issue at once, or stops them (R346): the write of HOST_PM, or the endpoint's entry to ASPM L1, to D3hot, to L2,
and its return to D0. -/
inductive PmEvent where
  | write (m : Master) | l1 | d3hot | l2 | d0
  deriving DecidableEq, Repr

/-- A frame as it arrives on a link: its sequence number, the frame, and its CRC word (R278, R279). -/
structure RxFrame where
  seq : Byte
  frame : MFrame
  crc : Word
  deriving DecidableEq, Repr

/-- What the other end's LINK frame tells: number, root flag, depth, role (R281). -/
structure LinkInfo where
  num : Fin 512
  root : Bool
  depth : Nat
  role : Fin 3
  joined : Bool
  comma : Bool
  deriving DecidableEq, Repr

/-- What an MBOX frame asks: a message of words, or the answers ACK, FULL and FREE (R296). -/
inductive PeerOp where
  | data (ws : List Word) | ack | full | free
  deriving DecidableEq, Repr

/-- An MBOX frame: its sender, the mailbox index of each end, and what it carries (R296). -/
structure PeerFrame where
  dev : Fin 512
  srcIdx : Fin 4
  dstIdx : Fin 4
  op : PeerOp
  deriving DecidableEq, Repr

/-- A word of a halted context written through the debug port (R195): 0 to 15 G0 to G15, then PC, SP, PSW, CAUSE and PROG. -/
structure DebugWrite where
  e : Fin 4
  l : Fin 32
  word : Fin 21
  v : Word
  deriving DecidableEq, Repr

/-- A frame on the management SPI: its length in bits, the words A and D, and the CRC byte (R321). `early`: it began before
the previous access had completed (R322). -/
structure MgmtFrame where
  bits : Nat
  a : Word
  d : Word
  crc : Byte
  early : Bool
  deriving DecidableEq, Repr

/-- The guarded memories of R366 that R367 gives an outcome. -/
inductive GuardedMem where
  | taskMemory | calendarEntry | catalogueEntry | logStore | portScript (p : Fin 32) | golden (e : Fin 4)
  | faultStore | governorTable
  deriving DecidableEq, Repr

/-- What the scrubber finds in a word: good, correctable, or uncorrectable (R366, R367). -/
inductive ScrubOutcome where
  | good | corrected | uncorrectable
  deriving DecidableEq, Repr

/-- What a SENT receiver times behind its glitch filter (R264), in fine ticks from falling edge to falling edge: the calibration
pulse, the nibble pulses, status first and CRC last, the pause pulse; and the falling edge that begins the calibration. -/
structure SentObs where
  calib : Nat
  pulses : List Nat
  pause : Option Nat
  start : Stamp
  deriving DecidableEq, Repr

/-- Why a DMA channel halts (R361): the cause code, and the address and direction of the failing access. -/
structure HaltObs where
  cause : Fin 8
  addr : Stamp
  write : Bool
  deriving DecidableEq, Repr

/-- What a start meets in the world: for each step, whether each strategy succeeds, and what the image, the fuses and
the measurements hold (R375 to R380): whether octal discovery of the flash succeeds and VDDIO_S is at 1.8 V; the REFCLK edges
that S1 to S3 take up to the lock, and the nanoseconds of S3 after its last edge and of S4 to S10. -/
structure StartObs where
  recOk : Bool
  s2 : List Bool
  s3 : List Bool
  s4 : List Bool
  s5 : List Bool
  s6 : List Bool
  csVer : Word
  patchLevel : Byte
  patchId : Word
  flashPatch : Bool
  fwKs : Word
  fwSvc : Word
  csDigest : Word
  subsys : Word
  digest : BitVec 256
  s7 : List Bool
  fuseWord : Nat
  calTrims : List Byte
  badTiles : List (Fin 66)
  s10 : List Bool
  v33 : List Bool
  octal : Bool
  octalVolt : Bool
  edges : List Nat
  stepNs : List Nat
  deriving DecidableEq, Repr


/-- The commands, one for each row of the table, in its order. -/
inductive Instr where
  /-- COLD_START (R375): Release of NRESET runs start steps S1–S10 in order, each with the strategy chosen from the start record, ending in READY or START_HALTED. -/
  | coldStart (o : StartObs)
  /-- PLL_LOCK (R30): The main PLL locks and the Drone master changes from 640 fine ticks per REFCLK edge to 16 fine ticks per 1 GHz cycle without a step. -/
  | pllLock (ts : Stamp)
  /-- WARM_START (R377): Exit from Keep-alive runs S1–S10 with S4 skipped and the image digest compared, restarting the Drone at 0 and incrementing DRONE_EPOCH. -/
  | warmStart (o : StartObs)
  /-- FEED_TIMEOUT (R379): No accepted START_FEED_GO arrives within 10 s of the start of S5, and S5 fails. -/
  | feedTimeout (ts : Stamp)
  /-- START_FEED_GO (R379): A write of 1 starts the check of a host-fed image, or sets LEN_ERR when its length is out of range or differs from IMAGE_LEN. -/
  | startFeedGo (m : Master) (accepted : Bool)
  /-- CLR_STRAT (R376): A write of START_CTRL.CLR_STRAT returns every start step to strategy 0 from the next start. -/
  | clrStrat (m : Master)
  /-- CLR_COUNTS (R376): A write of START_CTRL.CLR_COUNTS clears COLD, WARMS, HALTS and every ATTEMPTS of the start record. -/
  | clrCounts (m : Master)
  /-- NRESET_ASSERT (R389): A low pulse on NRESET of 10 µs or more resets the whole device. -/
  | nresetAssert (ns : Nat)
  /-- VDD_BROWNOUT (R389): VDD below 0.74 V for 1 µs or more acts as NRESET until VDD has been at least 0.776 V for 100 µs. -/
  | vddBrownout (ns : Nat)
  /-- BANK_SUPPLY_CHANGE (R388): A VDDIO_Tk supply enters or leaves its range, and PM_BANK_k.PRESENT follows it with the bank's pins driving nothing while it reads 0. -/
  | bankSupplyChange (course : Fin 8) (inRange : Bool)
  /-- ISLAND_WAKE (R17): A register access to a gated island wakes the island and completes once it runs, at most 0.2 µs later, counting in the island-wake counter. -/
  | islandWake (isl : Fin 6)
  /-- REGISTER_WRITE (R6): A write to a register that has no row of its own acts under its access type, or is dropped for width, alignment, reserved offset, privilege, ownership or hold. -/
  | registerWrite (m : Master) (off : Nat) (width : Nat) (v : Word)
  /-- BEACON (R32): Every 1,024 fine ticks the Drone master sends a Gray-coded beacon of its bits [41:10] to every island copy. -/
  | beacon (isl : Fin 91) (drift late : Int) (ts : Stamp)
  /-- ISLAND_RELOAD (R368): Keystone stops a non-tile island whose copy strayed at its next boundary, reloads the copy under R38 and releases it. -/
  | islandReload (isl : Fin 91) (ts : Stamp)
  /-- VERNIER_CALIBRATION (R43): Every 1,024 ns the replica line is measured against one tile period and the working tap code moves by one step when it is more than half a step off. -/
  | vernierCalibration (t : Fin 64) (err : Int) (ts : Stamp)
  /-- PLL_SWITCHOVER (R45): On loss of lock or a frequency error of the main PLL, every clock switches to the standby PLL at a common low phase and the event is counted and recorded. -/
  | pllSwitchover (ts : Stamp)
  /-- PLL_RETRAIN (R45): Keystone retrains the failed PLL, which becomes the standby if it locks and otherwise leaves STBY_LOCK at 0. -/
  | pllRetrain (locks : Bool) (ts : Stamp)
  /-- REFCLK_HOLDOVER (R46): REFCLK stops or leaves ±1 % of 25 MHz and both PLLs enter holdover with HOLDOVER set and a fault record written. -/
  | refclkHoldover (ts : Stamp)
  /-- HOLDOVER_EXIT (R46): After REFCLK has been within tolerance for 100 µs the PLLs relock without a glitch and HOLDOVER clears. -/
  | holdoverExit (ts : Stamp)
  /-- LINKED_LOW_READ (R47): A read of the low word of a linked quantity returns it and copies the high word into the reading master's latch. -/
  | linkedLowRead (m : Master) (q : Linked)
  /-- LINKED_HIGH_READ (R47): A read of the high word of a linked quantity returns the reading master's latch. -/
  | linkedHighRead (m : Master) (q : Linked)
  /-- LINKED_64BIT_READ (R49): A naturally aligned 64-bit PCIe read of a linked quantity returns both words from one instant without changing the host latch. -/
  | linked64bitRead (q : Linked)
  /-- CLR_STATS (R34): A write of DRONE_CTRL.CLR_STATS clears MAX_DEV, every SLEW_CNT and MAX of DRONE_ISL and every vernier UPDATES count. -/
  | clrStats (m : Master)
  /-- CHANNEL_STEP (R54): A channel counter steps after its prescaler count and the matched compares, TOP and BOT actions resolve the output level for that cycle. -/
  | channelStep (g : Fin 512) (ts : Stamp)
  /-- CH_CTRL_WRITE (R64): A write to CH_CTRL changing MODE, LINK or FOL while the channel runs, or carrying a reserved encoding, is dropped and counted; other fields act next cycle. -/
  | chCtrlWrite (m : Master) (g : Fin 512) (v : Word)
  /-- SHADOW_WRITE (R95): A write to a register of the shadow set goes to shadow and active while stopped, to the shadow while running, and is rejected and counted while PENDING is 1. -/
  | shadowWrite (m : Master) (g : Fin 512) (r : ShadowReg) (v : Word)
  /-- INPUT_FILTER_ACCEPT (R115): An input edge that has held its new level for the filter time without a break is accepted and stamped with the Drone time of the original edge. -/
  | inputFilterAccept (consumer : Consumer) (level : Bool) (since : Stamp) (ts : Stamp)
  /-- CAPTURE_LANDING (R66): An accepted capture edge lands in the capture register 3 tile cycles after the edge plus the filter time, setting FULL and counting CAP_CNT. -/
  | captureLanding (g : Fin 512) (ts : Stamp)
  /-- CAPTURE_ACK_READ (R67): A read of CH_CAP_LO returns the capture with FULL and OVERRUN as they stood and then clears both flags. -/
  | captureAckRead (m : Master) (g : Fin 512)
  /-- TILE_START_WRITE (R69): A mask written to TILE_START starts every named channel whose MODE is not OFF in the next tile cycle, loading all shadows. -/
  | tileStartWrite (m : Master) (t : Fin 64) (mask : BitVec 8)
  /-- TILE_STOP_WRITE (R69): A mask written to TILE_STOP stops every named channel in the next tile cycle, freezing its counter and sending pins to SAFE under STOP_SAFE. -/
  | tileStopWrite (m : Master) (t : Fin 64) (mask : BitVec 8)
  /-- TILE_START_ARM (R70): A write to TILE_START_ARM arms, replaces or disarms a Drone-timed start at the time in TILE_START_AT. -/
  | tileStartArm (m : Master) (t : Fin 64) (mask : BitVec 8)
  /-- ARMED_START (R70): The tile's copy reaches the armed nanosecond and the named channels start with ACC set to the fine part of T. -/
  | armedStart (t : Fin 64) (ts : Stamp)
  /-- TILE_COMMIT (R93): A mask written to TILE_COMMIT sets PENDING of each running named channel in the next tile cycle. -/
  | tileCommit (m : Master) (t : Fin 64) (mask : BitVec 8)
  /-- TILE_CLR_CNT (R8): A write of TILE_CTRL.CLR_CNT clears CH_ERRCNT, CH_EVCNT, BR_STAT and TRIP_CNT counts of the tile, keeping a count of the same cycle. -/
  | tileClrCnt (m : Master) (t : Fin 64)
  /-- FOLLOWER_UPDATE (R73): A follower takes its domain's per-tooth update of position, tooth time and step rate and applies it as of its tooth time. -/
  | followerUpdate (t : Fin 64) (f : Fin 4) (ts : Stamp)
  /-- FOLLOWER_ENABLE (R73): A write of FOL_CTRL.EN = 1 loads the follower with its domain's angle, rate, cap and state, and EN = 0 freezes it. -/
  | followerEnable (m : Master) (t : Fin 64) (f : Fin 4) (v : Word)
  /-- SLOT_LOAD (R74): The calendar loads a match slot and the tile judges whether its target lies within four pitches ahead or has passed. -/
  | slotLoad (t : Fin 64) (slot : Fin 16) (ts : Stamp)
  /-- SLOT_FIRE (R75): A waiting slot fires when its follower crosses the target, placing the edge at the interpolated fine part plus SLOT_DELAY. -/
  | slotFire (t : Fin 64) (slot : Fin 16) (ts : Stamp)
  /-- SLOT_CLOSE_DURATION (R76): SLOT_CLOSE ns after the open edge of an OPEN_DUR slot the output goes LOW and the slot frees. -/
  | slotCloseDuration (t : Fin 64) (slot : Fin 16) (ts : Stamp)
  /-- SLOT_CLOSE_ANGLE (R76): The follower crosses SLOT_CLOSE of an OPEN_ANGLE slot and the output goes LOW. -/
  | slotCloseAngle (t : Fin 64) (slot : Fin 16) (ts : Stamp)
  /-- GUARDED (R76): A pair still open SLOT_GUARD ns after its open edge is closed by the guard, which sets GUARDED. -/
  | guarded (t : Fin 64) (slot : Fin 16) (ts : Stamp)
  /-- BURST_END (R76): A BURST slot's counter completes its periods, stops and takes the output LOW. -/
  | burstEnd (t : Fin 64) (slot : Fin 16) (ts : Stamp)
  /-- SLOT_CLEAR (R77): The calendar clears a slot between tile cycles, driving an open output LOW in the next cycle, or finds it already done. -/
  | slotClear (t : Fin 64) (slot : Fin 16) (ts : Stamp)
  /-- PM_PIN_WRITE (R403): A write to PM_PIN takes effect in the next tile cycle, or is dropped whole and counted when it carries a reserved encoding. -/
  | pmPinWrite (m : Master) (pin : Fin 256) (v : Word)
  /-- COURSE_POWER_DOWN (R234): A Course whose R84 conditions have held for 10 µs is powered down with its output pins held by the pad latches. -/
  | coursePowerDown (course : Fin 8) (ts : Stamp)
  /-- COURSE_POWER_UP (R84): An access to a powered-down Course powers it up before the access completes and counts in GOV_WAKE_CNT.COURSE. -/
  | coursePowerUp (course : Fin 8)
  /-- COMMIT (R181): The COMMIT instruction acts as a posted write of its mask to TILE_COMMIT of the named tile. -/
  | commit (x : Fin 128) (rs : GReg) (imm : BitVec 16)
  /-- BR_CTRL_WRITE (R99): A write of BR_CTRL.EN joins or splits a bridge pair, or is dropped and counted if a channel runs, the pair is linked or both trip levels are HIGH. -/
  | brCtrlWrite (m : Master) (t : Fin 64) (pair : Fin 4) (v : Word)
  /-- DEAD_TIME_EXPIRY (R100): The dead time after a command edge expires and the selected side rises if its predicted on-time reaches MINPW, or is counted absent. -/
  | deadTimeExpiry (t : Fin 64) (pair : Fin 4) (ts : Stamp)
  /-- MINPW_EXTENSION (R101): A side that would fall less than MINPW after its rise falls at rise plus MINPW and EXT counts. -/
  | minpwExtension (t : Fin 64) (pair : Fin 4) (ts : Stamp)
  /-- TRIP_ACCEPT (R104): A trip input asserted for FILT ns outside a blanking window latches for every channel that selects it, recording count and start time. -/
  | tripAccept (t : Fin 64) (inB : Bool) (since : Stamp) (ts : Stamp)
  /-- BLANKING_END (R106): A blanking window opened by an output edge closes after BLANK ns and the trip filter may count again. -/
  | blankingEnd (t : Fin 64) (inB : Bool) (ts : Stamp)
  /-- TRIP_CLEAR (R107): A write of 1 to TRIP_STAT.LATCHED clears a channel's latch unless the input is still accepted, and the output keeps the trip level until the next source acts. -/
  | tripClear (m : Master) (t : Fin 64) (mask : BitVec 8)
  /-- TRIP_LVL_WRITE (R109): A write to TRIP_LVL takes effect next cycle, or is dropped whole if it gives a bridge pair both HIGH or carries LEVEL 3. -/
  | tripLvlWrite (m : Master) (t : Fin 64) (v : Word)
  /-- DOMAIN_ENABLE (R118): A write of DOM_CTRL.EN = 1 moves the domain to SEEK, or is refused with CFG_ERR unless every descriptor condition holds. -/
  | domainEnable (m : Master) (d : Fin 16)
  /-- DOMAIN_DISABLE (R161): A write of DOM_CTRL.EN = 0 turns the domain OFF, handled as a loss of SYNC from SYNC and otherwise withdrawing every entry as WITHDRAWN_STALL with DETAIL DISABLED. -/
  | domainDisable (m : Master) (d : Fin 16)
  /-- DOMAIN_CONFIG_WRITE (R119): A write to a domain configuration or descriptor register is dropped while EN = 1 or for a reserved encoding, and otherwise takes effect at the next accepted primary edge. -/
  | domainConfigWrite (m : Master) (d : Fin 16) (off : Nat) (v : Word)
  /-- DOM_CLR_CNT (R8): A write of DOM_CTRL.CLR_CNT clears DOM_CNT_0–DOM_CNT_3 and every PHM_STAT count. -/
  | domClrCnt (m : Master) (d : Fin 16)
  /-- PRIMARY_EDGE (R116): An accepted active primary edge is classified by its period ratio as accepted, noise, long, missed tooth or gap mismatch. -/
  | primaryEdge (d : Fin 16) (ts : Stamp)
  /-- PRIMARY_INACTIVE_EDGE (R117): An accepted inactive primary edge ends a tooth width, against which the index and the WIDTH direction are judged. -/
  | primaryInactiveEdge (d : Fin 16) (ts : Stamp)
  /-- TOOTH_UPDATE (R127): In the cycle after its arrival a tooth update sets the new cap and rate and moves the angle to V(u), by JUMP or by starting a FAST run. -/
  | toothUpdate (d : Fin 16) (ts : Stamp)
  /-- FAST_RUN_END (R127): A FAST run ends in the first cycle in which the angle meets V(k) or reaches the cap. -/
  | fastRunEnd (d : Fin 16) (ts : Stamp)
  /-- TOOTH_LATE (R128): No further accepted edge by t_p + 1.5 × s × T_exp sets DOM_STAT.LATE, raises the LATE event and counts. -/
  | toothLate (d : Fin 16) (ts : Stamp)
  /-- STALL_TIMEOUT (R130): No primary edge, or no mirror message, by the stall time moves a domain in HALF or SYNC to STALL with the stall actions. -/
  | stallTimeout (d : Fin 16) (ts : Stamp)
  /-- SEEK_TIMEOUT (R120): No accepted primary edge in SEEK for STALL_MAX clears the tooth history. -/
  | seekTimeout (d : Fin 16) (ts : Stamp)
  /-- PHASE_TOOTH_EDGE (R123): At a phase tooth's trailing edge the stamped pair is matched against the descriptor, moving HALF to SYNC or judging a contradiction in SYNC. -/
  | phaseToothEdge (d : Fin 16) (ts : Stamp)
  /-- PHM_EDGE (R134): A phase-measurement edge in SYNC is angle-stamped, matched to the nearest nominal angle and folded into the filtered deviation. -/
  | phmEdge (d : Fin 16) (m : Fin 4) (ts : Stamp)
  /-- ANGLE_MESSAGE (R136): A mirror domain applies a received angle message as of its stamp under the source's rate and follows the source's state. -/
  | angleMessage (d : Fin 16) (dev : Fin 512) (w1 : Word) (w2 : Word) (w3 : Word) (w4 : Word) (ts : Stamp)
  /-- DOMAIN_VOTE (R139): A single disagreeing copy of the triple-voted domain logic is outvoted and rewritten without effect and counted. -/
  | domainVote (d : Fin 16) (ts : Stamp)
  /-- CAL_PART_WRITE (R140): A write to CAL_PART_d sets a domain's partition, or is dropped with CFG_ERR if it overlaps, overruns or the domain has entries in use. -/
  | calPartWrite (m : Master) (d : Fin 16) (v : Word)
  /-- CALENDAR_ARM_DECISION (R145): In its decision cycle the calendar checks an arm request in order and stores the entry WITHHELD or ARMED with a handle, or refuses it. -/
  | calendarArmDecision (r : Requester) (ws : ArmWords) (ts : Stamp)
  /-- CALENDAR_CANCEL_DECISION (R158): In its decision cycle the calendar answers a cancel CANCELLED, TOO_LATE, STALE or DENIED by the entry's state. -/
  | calendarCancelDecision (r : Requester) (handle : BitVec 16) (ts : Stamp)
  /-- CALENDAR_FLUSH_DECISION (R159): A flush cancels every WITHHELD, ARMED or STAGED entry of the domain, or of the requesting task, in one decision cycle. -/
  | calendarFlushDecision (r : Requester) (d : Fin 16) (ts : Stamp)
  /-- STAGING (R149): The domain angle reaches an entry's staging point and the calendar loads it into a free slot of its tile, or it waits for one. -/
  | staging (idx : Fin 8192) (ts : Stamp)
  /-- CALENDAR_ACTION_ISSUE (R151): At the crossing of θ' plus its delay the calendar issues a PORT, SNAPSHOT, POST or MORTAR action, at most one per fabric cycle. -/
  | calendarActionIssue (idx : Fin 8192) (ts : Stamp)
  /-- CQ_RD_WRITE (R156): A write of CAL_CQ_RD_d is accepted only within the range from RD to WR, and otherwise dropped with CAL_STAT.CFG_ERR. -/
  | cqRdWrite (m : Master) (d : Fin 16) (v : Word)
  /-- CQ_CONFIG_WRITE (R156): A write of CAL_CQ_BASE_d or CAL_CQ_SIZE_d is dropped while WR ≠ RD or for a LOG2 outside 4–12. -/
  | cqConfigWrite (m : Master) (d : Fin 16) (size : Bool) (v : Word)
  /-- CAL_CLR_CNT (R8): A write of CAL_CTRL.CLR_CNT clears every CAL_CNT and CAL_SLOTUSE count. -/
  | calClrCnt (m : Master)
  /-- ADD (R175): rd = rs + rt with Z, N, C and V set. -/
  | add (x : Fin 128) (rd : GReg) (rs : GReg) (rt : GReg)
  /-- SUB (R175): rd = rs − rt with Z, N, C and V set. -/
  | sub (x : Fin 128) (rd : GReg) (rs : GReg) (rt : GReg)
  /-- AND (R174): Bitwise AND of rs and rt into rd. -/
  | and (x : Fin 128) (rd : GReg) (rs : GReg) (rt : GReg)
  /-- OR (R174): Bitwise OR of rs and rt into rd. -/
  | or (x : Fin 128) (rd : GReg) (rs : GReg) (rt : GReg)
  /-- XOR (R174): Bitwise XOR of rs and rt into rd. -/
  | xor (x : Fin 128) (rd : GReg) (rs : GReg) (rt : GReg)
  /-- SHL (R174): Shift rs left by rt[4:0] into rd. -/
  | shl (x : Fin 128) (rd : GReg) (rs : GReg) (rt : GReg)
  /-- SHR (R174): Shift rs logically right by rt[4:0] into rd. -/
  | shr (x : Fin 128) (rd : GReg) (rs : GReg) (rt : GReg)
  /-- SAR (R174): Shift rs arithmetically right by rt[4:0] into rd. -/
  | sar (x : Fin 128) (rd : GReg) (rs : GReg) (rt : GReg)
  /-- MUL (R174): Low 32 bits of rs × rt into rd. -/
  | mul (x : Fin 128) (rd : GReg) (rs : GReg) (rt : GReg)
  /-- MULH (R174): High 32 bits of the signed product into rd. -/
  | mulh (x : Fin 128) (rd : GReg) (rs : GReg) (rt : GReg)
  /-- MULHU (R174): High 32 bits of the unsigned product into rd. -/
  | mulhu (x : Fin 128) (rd : GReg) (rs : GReg) (rt : GReg)
  /-- DIV (R174): Signed quotient towards 0 into rd, with V set on division by 0 or overflow. -/
  | div (x : Fin 128) (rd : GReg) (rs : GReg) (rt : GReg)
  /-- DIVU (R174): Unsigned quotient into rd, with V set on division by 0. -/
  | divu (x : Fin 128) (rd : GReg) (rs : GReg) (rt : GReg)
  /-- MIN (R174): Signed minimum of rs and rt into rd. -/
  | min (x : Fin 128) (rd : GReg) (rs : GReg) (rt : GReg)
  /-- MAX (R174): Signed maximum of rs and rt into rd. -/
  | max (x : Fin 128) (rd : GReg) (rs : GReg) (rt : GReg)
  /-- CMP (R175): Sets the flags of rs − rt. -/
  | cmp (x : Fin 128) (rs : GReg) (rt : GReg)
  /-- ADDI (R175): rd = rs + simm with Z, N, C and V set. -/
  | addi (x : Fin 128) (rd : GReg) (rs : GReg) (imm : BitVec 16)
  /-- ANDI (R174): Bitwise AND of rs and uimm into rd. -/
  | andi (x : Fin 128) (rd : GReg) (rs : GReg) (imm : BitVec 16)
  /-- ORI (R174): Bitwise OR of rs and uimm into rd. -/
  | ori (x : Fin 128) (rd : GReg) (rs : GReg) (imm : BitVec 16)
  /-- XORI (R174): Bitwise XOR of rs and uimm into rd. -/
  | xori (x : Fin 128) (rd : GReg) (rs : GReg) (imm : BitVec 16)
  /-- SHLI (R174): Shift rs left by imm[4:0] into rd. -/
  | shli (x : Fin 128) (rd : GReg) (rs : GReg) (imm : BitVec 16)
  /-- SHRI (R174): Shift rs logically right by imm[4:0] into rd. -/
  | shri (x : Fin 128) (rd : GReg) (rs : GReg) (imm : BitVec 16)
  /-- SARI (R174): Shift rs arithmetically right by imm[4:0] into rd. -/
  | sari (x : Fin 128) (rd : GReg) (rs : GReg) (imm : BitVec 16)
  /-- CMPI (R175): Sets the flags of rs − simm. -/
  | cmpi (x : Fin 128) (rs : GReg) (imm : BitVec 16)
  /-- MOVI (R174): rd = simm. -/
  | movi (x : Fin 128) (rd : GReg) (imm : BitVec 16)
  /-- MOVHI (R174): rd = uimm << 16. -/
  | movhi (x : Fin 128) (rd : GReg) (imm : BitVec 16)
  /-- MOV (R174): rd = rs. -/
  | mov (x : Fin 128) (rd : GReg) (rs : GReg)
  /-- MFS (R167): Reads a special register into rd, NOW_LO filling the context's latch, or raises ILLEGAL for an undefined number. -/
  | mfs (x : Fin 128) (rd : GReg) (imm : BitVec 16)
  /-- MTS (R167): Writes a special register as the context's privilege allows, ignoring or raising PRIV or ILLEGAL otherwise. -/
  | mts (x : Fin 128) (rs : GReg) (imm : BitVec 16)
  /-- LDW (R171): Loads a word from task memory within a granting window, or raises WINDOW or ALIGN. -/
  | ldw (x : Fin 128) (rd : GReg) (rs : GReg) (imm : BitVec 16)
  /-- LDH (R171): Loads a sign-extended halfword from task memory. -/
  | ldh (x : Fin 128) (rd : GReg) (rs : GReg) (imm : BitVec 16)
  /-- LDHU (R171): Loads a zero-extended halfword from task memory. -/
  | ldhu (x : Fin 128) (rd : GReg) (rs : GReg) (imm : BitVec 16)
  /-- LDB (R171): Loads a sign-extended byte from task memory. -/
  | ldb (x : Fin 128) (rd : GReg) (rs : GReg) (imm : BitVec 16)
  /-- LDBU (R171): Loads a zero-extended byte from task memory. -/
  | ldbu (x : Fin 128) (rd : GReg) (rs : GReg) (imm : BitVec 16)
  /-- STW (R172): Stores rd atomically as a word in the data window. -/
  | stw (x : Fin 128) (rd : GReg) (rs : GReg) (imm : BitVec 16)
  /-- STH (R171): Stores the low 16 bits of rd in the data window. -/
  | sth (x : Fin 128) (rd : GReg) (rs : GReg) (imm : BitVec 16)
  /-- STB (R171): Stores the low 8 bits of rd in the data window. -/
  | stb (x : Fin 128) (rd : GReg) (rs : GReg) (imm : BitVec 16)
  /-- PUSH (R171): Decrements SP by 4 and stores rd there, leaving SP unchanged on a fault. -/
  | push (x : Fin 128) (rd : GReg)
  /-- POP (R171): Loads rd from SP and increments SP by 4. -/
  | pop (x : Fin 128) (rd : GReg)
  /-- REGRD (R176): Reads a BAR0 register as the context's master within CTX_IOMASK and CTX_TILES, or raises WINDOW. -/
  | regrd (x : Fin 128) (rd : GReg) (rs : GReg) (imm : BitVec 16)
  /-- REGWR (R176): Writes a BAR0 register at privilege 0 or 1, dropped and counted for a service write to a HELD unit. -/
  | regwr (x : Fin 128) (rd : GReg) (rs : GReg) (imm : BitVec 16)
  /-- B (R173): Branches to PC + 4 + 4 × simm16. -/
  | b (x : Fin 128) (imm : BitVec 16)
  /-- BEQ (R174): Branches if Z is set. -/
  | beq (x : Fin 128) (imm : BitVec 16)
  /-- BNE (R174): Branches if Z is clear. -/
  | bne (x : Fin 128) (imm : BitVec 16)
  /-- BLT (R174): Branches if N differs from V. -/
  | blt (x : Fin 128) (imm : BitVec 16)
  /-- BGE (R174): Branches if N equals V. -/
  | bge (x : Fin 128) (imm : BitVec 16)
  /-- BLTU (R175): Branches if C is clear, on unsigned less-than. -/
  | bltu (x : Fin 128) (imm : BitVec 16)
  /-- BGEU (R175): Branches if C is set. -/
  | bgeu (x : Fin 128) (imm : BitVec 16)
  /-- CALL (R174): Pushes PC + 4 and branches. -/
  | call (x : Fin 128) (imm : BitVec 16)
  /-- RET (R174): Pops the return address into PC. -/
  | ret (x : Fin 128)
  /-- JR (R174): Sets PC to rs. -/
  | jr (x : Fin 128) (rs : GReg)
  /-- CALLR (R174): Pushes PC + 4 and sets PC to rs. -/
  | callr (x : Fin 128) (rs : GReg)
  /-- WAIT_TIME (R177): Blocks the context until its island copy reaches a Drone time up to 2.147 s ahead. -/
  | waitTime (x : Fin 128) (rd : GReg) (rs : GReg) (arg : BitVec 12)
  /-- WAIT_DELAY (R177): Blocks the context for a number of ns after the first issue, with its deadline kept in the monitor. -/
  | waitDelay (x : Fin 128) (rd : GReg) (rs : GReg) (arg : BitVec 12)
  /-- WAIT_ANGLE (R177): Blocks the context until a domain in SYNC crosses an angle, returning 2 if the domain is or leaves out of SYNC. -/
  | waitAngle (x : Fin 128) (rd : GReg) (rs : GReg) (arg : BitVec 12)
  /-- WAIT_EVENT (R177): Blocks the context until its event queue is not empty and then removes the oldest event and its tag. -/
  | waitEvent (x : Fin 128) (rd : GReg) (rs : GReg) (arg : BitVec 12)
  /-- WAIT_MBOX (R177): Blocks the context until an inbound mailbox is full or an outbound one is empty. -/
  | waitMbox (x : Fin 128) (rd : GReg) (rs : GReg) (arg : BitVec 12)
  /-- WAIT_LOCK (R177): Blocks the context until it acquires a local or system lock. -/
  | waitLock (x : Fin 128) (rd : GReg) (rs : GReg) (arg : BitVec 12)
  /-- WAIT_WAKE (R178): A waiting context's condition is met and it becomes ready within the wake latency with rd written. -/
  | waitWake (x : Fin 128) (ts : Stamp)
  /-- WAIT_TIMEOUT (R178): The timeout of a WAIT expires and rd receives 1, or 0 with tag 0xF for EVENT, without holding any lock. -/
  | waitTimeout (x : Fin 128) (ts : Stamp)
  /-- YIELD (R174): The context goes behind every other ready context of its priority. -/
  | yield (x : Fin 128)
  /-- END (R190): The context enters DONE. -/
  | endTask (x : Fin 128)
  /-- TRAP_CMD (R207): A service call that hands a command packet to the service firmware and parks the context until the reply. -/
  | trapCmd (x : Fin 128)
  /-- TRAP_INFO (R207): A Keystone call that returns the context's number, class, priority and ceiling. -/
  | trapInfo (x : Fin 128)
  /-- TRAP_LOWER (R207): A Keystone call that moves the context to a less urgent class or priority, or returns DENIED. -/
  | trapLower (x : Fin 128)
  /-- TRAP_LIMIT (R207): A Keystone call that returns the context's NOINT_LIMIT. -/
  | trapLimit (x : Fin 128)
  /-- TRAP_UNKNOWN (R207): A TRAP with an unlisted call number completes at once with G0 = OPCODE. -/
  | trapUnknown (x : Fin 128) (imm : BitVec 16)
  /-- TRAP_ANSWER (R207): The answer to a parked TRAP arrives, G0 and G1 receive status and result, PROG clears and PC advances. -/
  | trapAnswer (x : Fin 128) (ts : Stamp)
  /-- RETE (R202): Reports the source complete, checks the frame and restores PSW, CAUSE, PROG, G0–G3 and PC, or raises RETURN. -/
  | rete (x : Fin 128)
  /-- POST (R186): Places rs in the event queue of a global context with tag 3, returning OK, ABSENT or DENIED. -/
  | post (x : Fin 128) (rd : GReg) (rs : GReg) (imm : BitVec 16)
  /-- ARM (R180): Reads a 6-word arm block from a window, submits it to the calendar and waits for the decision. -/
  | arm (x : Fin 128) (rd : GReg) (rs : GReg)
  /-- CANCEL (R180): Submits a cancel of the handle in rs and waits for the calendar's reply. -/
  | cancel (x : Fin 128) (rd : GReg) (rs : GReg)
  /-- CANCEL_FLUSH (R180): With imm[0] = 1 flushes the context's own entries of a domain. -/
  | cancelFlush (x : Fin 128) (rd : GReg) (rs : GReg)
  /-- FABRIC_REPLY (R166): The reply to a context's outstanding fabric request returns and the context may issue again. -/
  | fabricReply (x : Fin 128) (ts : Stamp)
  /-- TILEWR (R181): Posts a write of rd to a permitted offset of a tile block in CTX_TILES, dropped for a HELD or FAILED tile. -/
  | tilewr (x : Fin 128) (rd : GReg) (rs : GReg) (imm : BitVec 16)
  /-- PORTX (R182): Queues a script on a port in CTX_PORTS, returning OK, BUSY, DENIED or ABSENT. -/
  | portx (x : Fin 128) (rd : GReg) (rs : GReg) (imm : BitVec 16)
  /-- LOG (R183): Writes rd as a record of a signal whose catalogue entry names this context, or drops and counts it. -/
  | log (x : Fin 128) (rd : GReg) (rs : GReg)
  /-- MBOX_SEND (R184): Copies words into a mailbox's data registers and sets GO, or returns BUSY or DENIED. -/
  | mboxSend (x : Fin 128) (rd : GReg) (rs : GReg) (imm : BitVec 16)
  /-- MBOX_RECV (R184): Copies a mailbox's data registers to the data window and clears GO, or returns BUSY or DENIED. -/
  | mboxRecv (x : Fin 128) (rd : GReg) (rs : GReg) (imm : BitVec 16)
  /-- MBOX_PEEK (R184): Returns GO and AGE of a mailbox without moving data. -/
  | mboxPeek (x : Fin 128) (rd : GReg) (rs : GReg) (imm : BitVec 16)
  /-- LOCK (R185): Tries a local or system lock and writes 1 if the context acquires or holds it. -/
  | lock (x : Fin 128) (rd : GReg) (imm : BitVec 16)
  /-- UNLOCK (R185): Posts the release of a local or system lock, ignored and counted for a non-holder. -/
  | unlock (x : Fin 128) (imm : BitVec 16)
  /-- TBL1 (R188): Interpolates a 1-D table in resumable steps of header, search and interpolation. -/
  | tbl1 (x : Fin 128) (rd : GReg) (rs : GReg) (rt : GReg)
  /-- TBL2 (R188): Interpolates a 2-D table in resumable steps. -/
  | tbl2 (x : Fin 128) (rd : GReg) (rs : GReg) (rt : GReg)
  /-- BLKCP (R189): Copies rt words ascending, 8 words per resumable step. -/
  | blkcp (x : Fin 128) (rd : GReg) (rs : GReg) (rt : GReg)
  /-- FILL (R189): Writes rs into rt words, 16 words per resumable step. -/
  | fill (x : Fin 128) (rd : GReg) (rs : GReg) (rt : GReg)
  /-- ILLEGAL (R173): An unlisted opcode or a non-zero unused field raises ILLEGAL unless a patch defines it. -/
  | illegal (x : Fin 128) (word : Word)
  /-- CTX_CMD_START (R169): A Keystone write of CTX_CMD.START starts a context from CTX_ENTRY with its registers reset. -/
  | ctxCmdStart (m : Master) (x : Fin 128)
  /-- CTX_CMD_STOP (R192): A Keystone write of CTX_CMD.STOP stops a context at its next boundary. -/
  | ctxCmdStop (m : Master) (x : Fin 128)
  /-- CTX_STOP_EFFECT (R192): Once any outstanding reply is discarded the stop ends the WAIT, empties the queue, releases locks and flushes entries if FLUSH_ON_STOP. -/
  | ctxStopEffect (x : Fin 128) (ts : Stamp)
  /-- ENG_DEBUG_HALT (R195): A JTAG write of ENG_DBG.HALT stops the engine within 16 cycles and freezes every tile with DBG_FREEZE set. -/
  | engDebugHalt (e : Fin 4)
  /-- ENG_DEBUG_STEP (R195): A JTAG write of ENG_DBG.STEP issues one instruction of STEP_CTX on a halted engine. -/
  | engDebugStep (e : Fin 4) (ctx : Fin 32)
  /-- ENG_DEBUG_RESUME (R195): Clearing HALT resumes the engine, tiles unfreeze next cycle and collected waits, replies and machine checks act. -/
  | engDebugResume (e : Fin 4)
  /-- INTERRUPT_ENTRY (R198): A presented request is taken at a boundary, an 8-word frame is pushed and the handler starts from the vector. -/
  | interruptEntry (x : Fin 128) (ts : Stamp)
  /-- NOINT_EXPIRY (R204): The NOINT count reaches CTX_NOINT_LIM, NOINT clears, OVERSTAY is set and counted. -/
  | nointExpiry (x : Fin 128) (ts : Stamp)
  /-- TASK_FAULT (R205): Within 2 µs of a fault Keystone sets the context FAULTED, frees its locks, writes a record and raises source 184. -/
  | taskFault (x : Fin 128) (ts : Stamp)
  /-- SERVICE_FAULT (R206): Keystone restarts a faulted service context within 20 µs and answers its command BUSY. -/
  | serviceFault (x : Fin 128) (during : Option CmdPath) (ts : Stamp)
  /-- MC_PARITY (R212): A parity error on a microword or dispatch entry stops the engine, repairs the word from the golden copy and restarts the instruction. -/
  | mcParity (e : Fin 4) (l : Fin 32) (addr : Fin 8192) (dispatch : Bool) (goldenOk : Bool) (ts : Stamp)
  /-- MC_LOCKSTEP (R214): A lockstep mismatch retries every context of the engine from its last boundary. -/
  | mcLockstep (e : Fin 4) (l : Fin 32) (ts : Stamp)
  /-- MC_MEMORY (R215): A read of an uncorrectable task memory word cancels the instruction and the context is faulted. -/
  | mcMemory (x : Fin 128) (addr : Nat) (ts : Stamp)
  /-- ENGINE_RETIRED (R369): A third lockstep mismatch within 1 ms retires the engine and moves its task contexts to free places on other engines. -/
  | engineRetired (e : Fin 4) (ts : Stamp)
  /-- PATCH_APPLY (R219): Keystone checks a patch package and applies it engine by engine, holding each for at most 20 µs, then sends the completion. -/
  | patchApply (sigOk : Bool) (ts : Stamp)
  /-- BUCKET_REFILL (R222): Every 1 µs the Governor computes refill R and distributes it to the class buckets by share, floor and depth. -/
  | bucketRefill (ts : Stamp)
  /-- ADMISSION_REFRESH (R224): At least every 16 engine cycles the Governor settles charges and refreshes each engine's class admission flags. -/
  | admissionRefresh (e : Fin 4) (ts : Stamp)
  /-- PFIXED_UPDATE (R222): Every 10 µs the Governor updates its estimate P_fixed. -/
  | pfixedUpdate (mw : BitVec 16) (ts : Stamp)
  /-- SENSOR_READING (R229): Every 100 µs the die sensors are read, failed sensors judged and the thermal level changed with hysteresis. -/
  | sensorReading (temps : List Int) (ts : Stamp)
  /-- FORECAST (R232): Every 1 ms the Governor publishes FC_AVG and FC_PEAK and raises FORECAST when FC_PEAK crosses the limit. -/
  | forecast (ts : Stamp)
  /-- GOV_BUDGET_WRITE (R227): A write of GOV_BUDGET_MW stores only the field of the writing path, HOST or SUP. -/
  | govBudgetWrite (m : Master) (v : Word)
  /-- GOV_CONFIG_WRITE (R226): A write of GOV_SHARE, GOV_DEPTH, GOV_THRESH or GOV_THERM_FACT breaking its limits is dropped and counted, otherwise applied from the next interval. -/
  | govConfigWrite (m : Master) (r : GovReg) (v : Word)
  /-- GOV_CLR_CNT (R8): A write of GOV_CTRL.CLR_CNT clears GOV_DEFER_k, GOV_WAKE_CNT and GOV_CNT. -/
  | govClrCnt (m : Master)
  /-- ISLAND_GATE (R233): An engine island idle for 64 cycles, an idle port island or a Mortar island with every link down is gated. -/
  | islandGate (isl : Fin 6) (ts : Stamp)
  /-- GOV_PSTATE_REQ (R235): A write requests a power state, checked in order and answered ACCEPTED or refused. -/
  | govPstateReq (m : Master) (v : Word)
  /-- POWER_STATE_COMMIT (R236): Entry stalls domains, withdraws entries, takes links down, stops tile clocks, parks engines and writes the OK completion at the commit point. -/
  | powerStateCommit (ts : Stamp)
  /-- POWER_STATE_EXIT (R237): A wake event takes the device back to Run, loading copies, followers and channels in the exit steps. -/
  | powerStateExit (aoTicks : Word) (ts : Stamp)
  /-- WATCH_SLOT_FIRE (R239): A watch slot's source fires in Doze or deeper, sets its WW_STAT.CAUSE bit and wakes the device. -/
  | watchSlotFire (src : WatchSrc) (level : Bool) (ts : Stamp)
  /-- ALARM (R240): The always-on counter equals GOV_AO_ALARM and a slot of KIND ALARM fires. -/
  | alarm (ts : Stamp)
  /-- CATALOGUE_WORD0_WRITE (R244): A write to word 0 of a catalogue entry is checked and accepted, clearing DPHASE, PEND and TOTAL, or dropped and recorded in LOG_CFGERR. -/
  | catalogueWord0Write (m : Master) (sig : Fin 131072) (v : Word)
  /-- CATALOGUE_WORD12_WRITE (R244): A write to word 1 or 2 of a catalogue entry is stored only while SRC is OFF and otherwise dropped and counted. -/
  | catalogueWord12Write (m : Master) (sig : Fin 131072) (word2 : Bool) (v : Word)
  /-- LOG_SOURCE_EVENT (R243): A source event of a catalogued signal qualifies its trigger and a record is made when DPHASE was 0. -/
  | logSourceEvent (ts : Stamp)
  /-- RATE_SAMPLE (R243): A Drone nanosecond that is a multiple of TPARAM samples a RATE signal, or the sample is skipped and counted. -/
  | rateSample (sig : Fin 131072) (ts : Stamp)
  /-- ANGLE_TRIGGER (R243): A crossing in SYNC of an ANGLE signal's TPARAM records its sampled value. -/
  | angleTrigger (sig : Fin 131072) (ts : Stamp)
  /-- LOG_RECORD_WRITE (R252): The writer takes a record from its input queue and writes it full or compact at LOG_WR if its class limit allows, preceded by any DROP or MARK. -/
  | logRecordWrite (ts : Stamp)
  /-- MARK (R247): A MARK falls due at log enable, each change of Drone bit 34 and after Nap exit, and is written when it fits. -/
  | mark (ts : Stamp)
  /-- LOG_RING_WRITE (R249): A write of LOG_RING while the log is disabled sets the ring size and resets LOG_WR and LOG_RD, and is dropped otherwise. -/
  | logRingWrite (m : Master) (v : Word)
  /-- LOG_RD_WRITE (R250): A host write of LOG_RD in PULL mode frees ring space, or is dropped and counted if misaligned, out of range or in DMA mode. -/
  | logRdWrite (m : Master) (v : Word)
  /-- LOG_CTRL_WRITE (R259): A write of LOG_CTRL enables or disables the log and selects the drain, queued records being written after EN goes 0. -/
  | logCtrlWrite (m : Master) (v : Word)
  /-- LOG_CLR_CNT (R8): A write of LOG_CTRL.CLR_CNT clears LOG_CNT_k, LOG_CNT_MISC and LOG_CFGERR.COUNT. -/
  | logClrCnt (m : Master)
  /-- LOG_THRESH_WRITE (R252): A write of LOG_THRESH sets the class limits, dropped unless T3 < T2 < T1 and HYST ≤ T3. -/
  | logThreshWrite (m : Master) (v : Word)
  /-- LOG_DRAIN_DESCRIPTOR (R251): The log fills a DMA descriptor with whole records from LOG_RD, closes it and advances LOG_RD once written to host memory. -/
  | logDrainDescriptor (ts : Stamp)
  /-- LOG_FLUSH_EXPIRY (R250): The oldest undrained record has waited LOG_FLUSH ns, setting DATA or closing the drain descriptor. -/
  | logFlushExpiry (ts : Stamp)
  /-- PORT_CFG_WRITE (R262): A write of PORT_CFG or a mode register is applied, or dropped and counted while EN = 1 or for a reserved encoding. -/
  | portCfgWrite (m : Master) (p : Fin 32) (r : PortCfgReg) (v : Word)
  /-- ABORT (R272): A write of PORT_CTRL.ABORT ends the running transaction at the end of its current operation with status ABORTED. -/
  | portAbort (m : Master) (p : Fin 32)
  /-- FLUSH (R272): A write of PORT_CTRL.FLUSH completes every queued transaction FLUSHED. -/
  | portFlush (m : Master) (p : Fin 32)
  /-- PORT_CLR_CNT (R8): A write of PORT_CTRL.CLR_CNT clears PORT_CNT_0–PORT_CNT_2. -/
  | portClrCnt (m : Master) (p : Fin 32)
  /-- TIME_TRIGGER (R267): The port island copy reaches T + k × PERIOD and queues TT_SCRIPT, or counts TT_MISS when the queue is full. -/
  | timeTrigger (p : Fin 32) (ts : Stamp)
  /-- PORT_TT_WRITE (R267): A write to PORT_TT, PORT_TT_AT or PORT_TT_PER plans the time-trigger series afresh. -/
  | portTtWrite (m : Master) (p : Fin 32) (r : PortTtReg) (v : Word)
  /-- TRANSACTION_START (R266): The next queued transaction starts its script at least CS_IDLE after the previous one ended, or completes SCRIPT_ERR for an invalid entry. -/
  | transactionStart (p : Fin 32) (ts : Stamp)
  /-- SCRIPT_CS (R268): A CS step asserts or deasserts a chip select with CS_IDLE, CS_LEAD and CS_LAG timing. -/
  | scriptCs (p : Fin 32) (ts : Stamp)
  /-- XFER (R268): A full-duplex SPI frame or UART byte completes and its received value is stored and offered to the log. -/
  | xfer (p : Fin 32) (rx : Word) (ts : Stamp)
  /-- RECV (R268): A SENT frame or UART byte is taken for the script and stored. -/
  | recv (p : Fin 32) (ts : Stamp)
  /-- TIMEOUT (R268): A RECV finds nothing within TMO and the transaction completes with status TIMEOUT. -/
  | timeout (p : Fin 32) (ts : Stamp)
  /-- SCRIPT_WAIT (R268): A WAIT step ends after its ns from the previous operation or from the loop mark. -/
  | scriptWait (p : Fin 32) (ts : Stamp)
  /-- LOOP (R268): A LOOP step jumps to its target and sets the loop mark until it has jumped COUNT times. -/
  | loop (p : Fin 32) (ts : Stamp)
  /-- SCRIPT_END (R270): The transaction completes with its completion word in PORT_LAST, posted and raising DONE or ERR. -/
  | scriptEnd (p : Fin 32) (ts : Stamp)
  /-- SENT_FRAME (R264): A SENT fast frame or slow message is received, checked and kept, or discarded and counted. -/
  | sentFrame (p : Fin 32) (f : SentObs) (ts : Stamp)
  /-- UART_BYTE (R265): A UART byte is received into the RX FIFO, or lost or discarded and counted. -/
  | uartByte (p : Fin 32) (byte : Byte) (ok : Bool) (ts : Stamp)
  /-- PORT_SCRIPT_WRITE (R271): A write to a script word is dropped and counted while the port is busy. -/
  | portScriptWrite (m : Master) (p : Fin 32) (w : Fin 256) (v : Word)
  /-- PORT_DMEM_PTR_WRITE (R272): A write of PORT_DMEM_PTR takes effect after any MEM store of the same cycle. -/
  | portDmemPtrWrite (m : Master) (p : Fin 32) (v : Word)
  /-- PORT_SWAP (R274): On a port engine fault Keystone maps a spare engine and restarts the running transaction from its last XFER or RECV, or fails the port. -/
  | portSwap (p : Fin 32) (ts : Stamp)
  /-- LINK_TRAIN (R281): A link enabled gains comma alignment and exchanges LINK frames, reaching UP or staying in TRAIN with ROLE_ERR. -/
  | linkTrain (k : Fin 4) (peer : LinkInfo) (ts : Stamp)
  /-- FRAME_RECEIVE (R279): A good frame is acknowledged within 400 ns and delivered or forwarded by route, and a bad one is NAKed and counted. -/
  | frameReceive (k : Fin 4) (f : RxFrame) (ts : Stamp)
  /-- RETRANSMIT_TIMEOUT (R279): No ACK for 2 µs sends again from the oldest unacknowledged frame. -/
  | retransmitTimeout (k : Fin 4) (ts : Stamp)
  /-- LINK_DOWN (R279): Nine sends without ACK or 1 µs without comma alignment takes the link DOWN. -/
  | linkDown (k : Fin 4) (ts : Stamp)
  /-- STANDBY_TAKEOVER (R284): A STANDBY link takes the UP role within 100 µs when the UP link fails, resending unacknowledged frames. -/
  | standbyTakeover (k : Fin 4) (ts : Stamp)
  /-- BEACON_SEND (R285): Every 1,024 ns of the master each link sends a BEACON carrying its launch stamp. -/
  | beaconSend (k : Fin 4) (ts : Stamp)
  /-- BEACON_RECEIVE (R287): A beacon from the UP link gives D and the non-root master slews towards the root. -/
  | beaconReceive (k : Fin 4) (stamp : BitVec 40) (check : Byte) (ts : Stamp)
  /-- DELAY_FRAME (R286): Every 16 beacons the ends exchange DELAY frames and compute delay and offset. -/
  | delayFrame (k : Fin 4) (launch : Stamp) (arrival : Stamp) (ts : Stamp)
  /-- JOIN_JUDGEMENT (R288): A device judges its master against the system time and joins by slewing or stepping, or is refused BUSY, AHEAD, DUP or DEPTH. -/
  | joinJudgement (dup : Bool) (ts : Stamp)
  /-- ML_CTRL_ENABLE (R288): A write of ML_CTRL.EN = 1 starts Mortar, stepping a quiet root's master to 2^52 fine ticks. -/
  | mlCtrlEnable (m : Master)
  /-- ML_CLR_CNT (R8): A write of ML_CTRL.CLR_CNT clears ML_CNT_0 and ML_CNT_1 of every link. -/
  | mlClrCnt (m : Master)
  /-- HOLD_MAX_EXPIRY (R289): A coasting device without an UP path for HOLD_MAX clears ALIGNED and must join again. -/
  | holdMaxExpiry (ts : Stamp)
  /-- SYSSTART_SEND (R294): A root write of ML_SS_GO.SEND broadcasts SYSSTART, or is refused with SS_ERR if T is less than 20 µs ahead. -/
  | sysstartSend (m : Master) (v : Word)
  /-- SYSSTART_RECEIVE (R294): A device receiving SYSSTART arms tile starts, port time triggers and a post as ML_SS_CTRL enables. -/
  | sysstartReceive (start : Stamp) (tag : BitVec 16) (ts : Stamp)
  /-- SYSTEM_LOCK_REQUEST (R295): The root arbitrates a LOCK frame for a system lock in arrival order and replies. -/
  | systemLockRequest (lock : Fin 64) (op : LockOp) (dev : Fin 512) (x : Fin 128) (ts : Stamp)
  /-- DEVICE_LOST (R295): A device whose last path has been down for 100 µs is marked lost by the root, its locks released and a FAULT frame broadcast. -/
  | deviceLost (dev : Fin 512) (ts : Stamp)
  /-- MSG_RECEIVE (R295): A MSG frame is placed in the 16-entry message queue, or dropped and counted when it is full. -/
  | msgReceive (k : Fin 4) (dev : Fin 512) (code : Byte) (payload : Word) (ts : Stamp)
  /-- ML_MSGQ_POP (R295): A write of ML_MSGQ_POP frees the oldest message. -/
  | mlMsgqPop (m : Master)
  /-- PEER_MBOX_RECEIVE (R296): An MBOX frame is stored with GO set and ACKed, answered FULL, or a FREE makes the sender resend. -/
  | peerMboxReceive (f : PeerFrame) (ts : Stamp)
  /-- REMOTE_LOG_RECEIVE (R242): An exported log record received in a LOG frame is offered to REMOTE catalogue sources. -/
  | remoteLogReceive (dev : Fin 512) (rsig : Fin 131072) (value : Word) (ts : Stamp)
  /-- FAULT_NOTICE_RECEIVE (R298): A FAULT frame is kept in ML_FN_LAST and ML_FN_TIME and sets ML_EVT.FAULT on its link. -/
  | faultNoticeReceive (k : Fin 4) (dev : Fin 512) (kind : Byte) (time : Word)
  /-- ALIVE (R291): A link that has carried nothing for 10 µs sends an ALIVE frame. -/
  | alive (k : Fin 4) (ts : Stamp)
  /-- PERST_ASSERT (R302): PERST# resets only the PCIe endpoint and clears the host latch while every other unit runs on. -/
  | perstAssert
  /-- SUP_REQ_WRITE (R308): A management-path write of UNIT_REQ.SUP_REQ holds, releases, runs or pauses a unit, or is dropped and counted. -/
  | supReqWrite (unit : Fin 256) (req : BitVec 3)
  /-- SYS_CLR_CNT (R8): A write of SYS_CTRL.CLR_CNT clears SYS_ACCERR and every UNIT_REQ.DROPS. -/
  | sysClrCnt (m : Master)
  /-- SYS_CMD_MBOX_WRITE (R312): A write of SYS_CMD_MBOX changes only the bits of idle pairs, making them command channels or free. -/
  | sysCmdMboxWrite (m : Master) (v : Word)
  /-- LONG_COMPLETION (R315): A long operation answered ACCEPTED finishes and its completion reply is queued or written over the ACCEPTED reply. -/
  | longCompletion (n : Nat)
  /-- NOP (R319): Command that does nothing and replies OK. -/
  | nop (pk : Packet)
  /-- DEV_INFO (R319): Command that returns identity, capability and version registers. -/
  | devInfo (pk : Packet)
  /-- ECHO (R319): Command that returns its parameter words. -/
  | echo (pk : Packet)
  /-- UNIT_GET (R319): Command that returns UNIT_STATE and UNIT_REQ of a unit. -/
  | unitGet (pk : Packet)
  /-- UNIT_SET (R309): Command that requests OFF, READY, RUN or PAUSED of a unit, and from the supervisor HOLD or release. -/
  | unitSet (pk : Packet)
  /-- UNIT_OWN (R310): Host command that gives direct register ownership of a unit to HOST or SERVICE. -/
  | unitOwn (pk : Packet)
  /-- ACCERR_READ (R319): Command that returns SYS_ACCERR, its address and its source. -/
  | accerrRead (pk : Packet)
  /-- PWR_BUDGET (R227): Command that Keystone carries out by writing GOV_BUDGET_MW.HOST or .SUP by its path. -/
  | pwrBudget (pk : Packet)
  /-- PWR_SHARE (R226): Command that writes GOV_SHARE, GOV_FLOOR and the bucket depths. -/
  | pwrShare (pk : Packet)
  /-- PWR_THERM (R226): Command that writes GOV_THRESH and GOV_THERM_FACT. -/
  | pwrTherm (pk : Packet)
  /-- PWR_STATE (R235): Long command that requests a power state. -/
  | pwrState (pk : Packet)
  /-- PWR_STATUS (R319): Command that returns the Governor's state, thermal and forecast registers. -/
  | pwrStatus (pk : Packet)
  /-- TILE_CH_CFG (R319): Command that configures a stopped channel's registers. -/
  | tileChCfg (pk : Packet)
  /-- TILE_CH_UPDATE (R319): Command that writes selected shadows of a channel and commits them if it runs, or BUSY while PENDING. -/
  | tileChUpdate (pk : Packet)
  /-- TILE_START (R69): Command that starts channels at once or arms a Drone-timed start. -/
  | tileStart (pk : Packet)
  /-- TILE_STOP (R72): Command that stops channels of a tile. -/
  | tileStop (pk : Packet)
  /-- TILE_READ (R319): Command that returns a channel's status, active set and capture without acknowledging. -/
  | tileRead (pk : Packet)
  /-- TILE_BRIDGE (R99): Command that configures a bridge pair. -/
  | tileBridge (pk : Packet)
  /-- TILE_TRIP (R104): Command that configures the tile's trip inputs and routing. -/
  | tileTrip (pk : Packet)
  /-- TILE_TRIP_CLR (R107): Command that clears trip latches of named channels and returns TRIP_STAT. -/
  | tileTripClr (pk : Packet)
  /-- TILE_FOL (R73): Command that writes a follower's FOL_CTRL. -/
  | tileFol (pk : Packet)
  /-- TILE_CTRL (R85): Command that writes TILE_CTRL. -/
  | tileCtrl (pk : Packet)
  /-- PIN_CFG (R403): Command that writes PM_PIN of a run of pins in a Course. -/
  | pinCfg (pk : Packet)
  /-- DOM_CFG (R119): Command that configures a disabled domain's registers and descriptor. -/
  | domCfg (pk : Packet)
  /-- DOM_PHTEETH (R119): Command that writes phase-tooth angles of a disabled domain. -/
  | domPhteeth (pk : Packet)
  /-- DOM_ENABLE (R118): Command that enables or disables a domain. -/
  | domEnable (pk : Packet)
  /-- DOM_RUNTIME (R119): Command that writes a domain's run-time fields. -/
  | domRuntime (pk : Packet)
  /-- DOM_PHM (R133): Command that configures a phase-measurement input. -/
  | domPhm (pk : Packet)
  /-- DOM_STATUS (R319): Command that returns a domain's state, snapshot, tooth and counts. -/
  | domStatus (pk : Packet)
  /-- EV_ARM (R145): Command that arms a calendar entry and returns its handle. -/
  | evArm (pk : Packet)
  /-- EV_CANCEL (R158): Command that cancels a calendar entry by handle. -/
  | evCancel (pk : Packet)
  /-- EV_FLUSH (R159): Command that flushes a domain's entries and returns the count cancelled. -/
  | evFlush (pk : Packet)
  /-- EV_PART (R140): Command that sets a domain's calendar partition. -/
  | evPart (pk : Packet)
  /-- EV_CQ (R156): Command that sets a domain's completion queue base and size. -/
  | evCq (pk : Packet)
  /-- EV_ENTRY (R319): Command that returns words 0–7 of an entry from one instant. -/
  | evEntry (pk : Packet)
  /-- EV_STATUS (R319): Command that returns calendar status and counts of a domain. -/
  | evStatus (pk : Packet)
  /-- CAT_WRITE (R244): Command that writes all four words of a catalogue entry in one checked step. -/
  | catWrite (pk : Packet)
  /-- CAT_READ (R319): Command that returns a catalogue entry. -/
  | catRead (pk : Packet)
  /-- CAT_CLEAR (R319): Long command that sets a range of catalogue entries to SRC OFF. -/
  | catClear (pk : Packet)
  /-- LOG_SETUP (R249): Command that writes the log control, ring, threshold, watermark and flush registers. -/
  | logSetup (pk : Packet)
  /-- LOG_STATUS (R319): Command that returns the log status and counts. -/
  | logStatus (pk : Packet)
  /-- PORT_SETUP (R262): Command that configures a disabled port. -/
  | portSetup (pk : Packet)
  /-- PORT_SCRIPT (R271): Command that writes script words of an idle port. -/
  | portScript (pk : Packet)
  /-- PORT_ENTRY (R271): Command that writes a script entry. -/
  | portEntry (pk : Packet)
  /-- PORT_RUN (R266): Long command that queues a script and completes with its completion word. -/
  | portRun (pk : Packet)
  /-- PORT_TT (R267): Command that sets a port's time trigger. -/
  | portTt (pk : Packet)
  /-- PORT_STOP (R272): Command that aborts the running transaction and or flushes the queue. -/
  | portStop (pk : Packet)
  /-- PORT_STATUS (R319): Command that returns a port's status, last word and counts. -/
  | portStatus (pk : Packet)
  /-- ML_SETUP (R282): Command that writes the device number, Mortar control and hold time. -/
  | mlSetup (pk : Packet)
  /-- ML_LINK (R281): Command that writes a link's control and asymmetry. -/
  | mlLink (pk : Packet)
  /-- ML_SS_SETUP (R294): Command that configures system start actions and channel masks. -/
  | mlSsSetup (pk : Packet)
  /-- ML_SYSSTART (R294): Command that makes the root broadcast SYSSTART. -/
  | mlSysstart (pk : Packet)
  /-- ML_PEER (R296): Command that sets a peer mailbox's target and sender. -/
  | mlPeer (pk : Packet)
  /-- ML_STATUS (R319): Command that returns join, offset, Drone and link status. -/
  | mlStatus (pk : Packet)
  /-- CTX_LOAD (R191): Long command that checks and loads a task image into a context. -/
  | ctxLoad (pk : Packet)
  /-- CTX_START (R190): Command that starts a stopped or done context. -/
  | ctxStart (pk : Packet)
  /-- CTX_STOP (R192): Command that stops a context. -/
  | ctxStop (pk : Packet)
  /-- CTX_STATUS (R319): Command that returns a context's status registers. -/
  | ctxStatus (pk : Packet)
  /-- CTX_POST (R186): Command that posts a value to a context with tag 4. -/
  | ctxPost (pk : Packet)
  /-- CTX_LOWER (R220): Command that lowers a context's class or priority. -/
  | ctxLower (pk : Packet)
  /-- FW_VERSION (R319): Command that returns an engine's control store and firmware versions. -/
  | fwVersion (pk : Packet)
  /-- FW_PATCH (R219): Long command that submits a microcode patch package. -/
  | fwPatch (pk : Packet)
  /-- CAL_READ (R319): Command that returns words of the calibration page. -/
  | calRead (pk : Packet)
  /-- CAL_WRITE (R381): Long command that rewrites calibration words and the CRC and applies the new trims. -/
  | calWrite (pk : Packet)
  /-- FAULT_READ (R374): Command that returns a fault record by index. -/
  | faultRead (pk : Packet)
  /-- FAULT_ACK (R374): Command that sets the highest fault record acknowledged. -/
  | faultAck (pk : Packet)
  /-- START_READ (R319): Command that returns half of the start record. -/
  | startRead (pk : Packet)
  /-- MGMT_READ (R321): A management frame with A[31] = 0 reads a BAR0 register, its result returned in the next frame. -/
  | mgmtRead (f : MgmtFrame)
  /-- MGMT_WRITE (R321): A management frame with A[31] = 1 writes a BAR0 register the supervisor may write. -/
  | mgmtWrite (f : MgmtFrame)
  /-- MGMT_NOP (R321): A NOP management frame only collects the response of the previous access. -/
  | mgmtNop (f : MgmtFrame)
  /-- MB_DATA_WRITE (R328): A sender write to a mailbox data register is stored while GO is 0 and dropped and counted otherwise. -/
  | mbDataWrite (m : Master) (box : Fin 44) (n : Fin 16) (v : Word)
  /-- MB_GO_SET (R328): The sender sets GO, AGE restarts and the GO-set source is raised. -/
  | mbGoSet (m : Master) (box : Fin 44)
  /-- MB_DONE (R328): The receiver writes DONE, GO clears and the GO-cleared source is raised. -/
  | mbDone (m : Master) (box : Fin 44)
  /-- MB_CFG_WRITE (R332): A write of MB_CFG by its permitted writer while GO is 0 assigns the party and NOTE source, else is dropped. -/
  | mbCfgWrite (m : Master) (box : Fin 44) (v : Word)
  /-- MBX_CLR_CNT (R8): A write of MBX_CTRL.CLR_CNT clears every MB_CNT. -/
  | mbxClrCnt (m : Master)
  /-- LOCK_READ (R335): A read of LOCK_k acquires a free lock for the first reader in lock order and returns 1 to its holder. -/
  | lockRead (m : Master) (lock : Fin 256)
  /-- LOCK_RELEASE (R335): A holder's write of LOCK_REL_k frees the lock, raising source 190 if watched, while a non-holder's is counted. -/
  | lockRelease (m : Master) (lock : Fin 256)
  /-- LOCK_CLR_CNT (R8): A write of LOCK_CTRL.CLR_CNT clears NONHOLDER. -/
  | lockClrCnt (m : Master)
  /-- INT_PEND_SET (R340): A write to INT_PEND_SET raises sources as hardware would. -/
  | intPendSet (m : Master) (n : Fin 8) (v : Word)
  /-- INT_PEND_CLR (R344): A write to INT_PEND_CLR clears pending sources, subject to the delivery window. -/
  | intPendClr (m : Master) (n : Fin 8) (v : Word)
  /-- INT_EN_SET (R340): A write to INT_EN_SET enables sources for delivery. -/
  | intEnSet (m : Master) (n : Fin 8) (v : Word)
  /-- INT_EN_CLR (R344): A write to INT_EN_CLR disables sources, subject to the delivery window. -/
  | intEnClr (m : Master) (n : Fin 8) (v : Word)
  /-- INT_ROUTE_WRITE (R339): A write of INT_ROUTE_s sets a source's target and level, dropped if reserved, absent or locked. -/
  | intRouteWrite (m : Master) (src : Fin 256) (v : Word)
  /-- PRV_PEND_SET (R347): A write to PRV_PEND_SET raises private sources 0–7 of an engine. -/
  | prvPendSet (m : Master) (e : Fin 4) (v : Word)
  /-- HOST_EOI (R340): A write of a source number to HOST_EOI completes an active host source, redelivering it if raised meanwhile. -/
  | hostEoi (m : Master) (src : Byte)
  /-- SUP_CLAIM (R343): A supervisor read of SUP_CLAIM returns and delivers the most urgent supervisor-routed source. -/
  | supClaim (m : Master)
  /-- SUP_EOI (R340): A write of a source number to SUP_EOI completes an active supervisor source. -/
  | supEoi (m : Master) (src : Byte)
  /-- VECTOR_ISSUE (R345): A host vector whose count or delay is met issues its MSI-X write and delivers its pending sources. -/
  | vectorIssue (vec : Fin 64) (ts : Stamp)
  /-- SLEEP_INTENT (R346): A write of HOST_PM.SLEEP_INTENT or entry to ASPM L1 issues every vector with events at once. -/
  | sleepIntent (e : PmEvent)
  /-- VECTOR_UNMASK (R348): A vector unmasked or MSI-X enabled issues if its count or delay has been met. -/
  | vectorUnmask (vec : Fin 64) (ts : Stamp)
  /-- VEC_MOD_WRITE (R345): A write of VEC_MOD_v sets moderation, dropped and counted if COUNT ≥ 2 with DELAY 0. -/
  | vecModWrite (m : Master) (vec : Fin 64) (v : Word)
  /-- INT_CLR_CNT (R8): A write of INT_ERR.CLR_CNT clears DROPS and REFIRE. -/
  | intClrCnt (m : Master)
  /-- DMA_TAIL (R356): A write to DMA_TAIL is a doorbell that discards fetches ahead and refetches the descriptor at DMA_HEAD. -/
  | dmaTail (m : Master) (c : Fin 16) (v : Word)
  /-- DESCRIPTOR_FETCH (R355): A fetched descriptor with OWN = 1 is processed, and one with OWN = 0 leaves the channel IDLE at that index. -/
  | descriptorFetch (c : Fin 16) (ts : Stamp)
  /-- COPY (R352): Descriptor operation that copies LEN bytes from SRC to DST in ascending order. -/
  | copy (c : Fin 16) (ts : Stamp)
  /-- FILL_DESCRIPTOR (R352): Descriptor operation that fills LEN bytes at DST with the pattern. -/
  | fillDescriptor (c : Fin 16) (ts : Stamp)
  /-- COMPARE (R352): Descriptor operation that compares SRC with DST or the pattern, stopping at the first difference. -/
  | compare (c : Fin 16) (ts : Stamp)
  /-- COMMAND (R352): Descriptor operation that hands a command packet to the service firmware and writes its reply. -/
  | command (c : Fin 16) (ts : Stamp)
  /-- DMA_BURST (R359): A channel starts a data burst no earlier than its share allows, served in rotation among ready channels. -/
  | dmaBurst (c : Fin 16) (ts : Stamp)
  /-- DESCRIPTOR_COMPLETE (R354): A descriptor completes with data, word 7 and then OWN = 0 written and DONE raised if IRQ. -/
  | descriptorComplete (c : Fin 16) (ts : Stamp)
  /-- DMA_HALT (R361): A bus error, link-down access or uncorrectable word halts the channel and latches the failing address. -/
  | dmaHalt (c : Fin 16) (h : HaltObs) (ts : Stamp)
  /-- DMA_EN_WRITE (R363): A write of DMA_CTRL.EN starts the channel, or with 0 stops it at the end of its burst keeping the descriptor owned. -/
  | dmaEnWrite (m : Master) (c : Fin 16) (on : Bool)
  /-- PAUSE (R358): A write of DMA_CTRL.PAUSE stops the channel at the end of its burst, or resumes it at the next byte. -/
  | pause (m : Master) (c : Fin 16) (on : Bool)
  /-- RESUME (R362): A write of DMA_CTRL.RESUME reruns a halted descriptor from its first byte and acts as a doorbell. -/
  | resume (m : Master) (c : Fin 16)
  /-- SKIP (R362): A write of DMA_CTRL.SKIP completes a halted descriptor with ERR BUS and steps on. -/
  | skip (m : Master) (c : Fin 16)
  /-- DMA_RING_WRITE (R350): A write of the ring registers or DMA_SHARE is accepted while EN = 0 and in range, and dropped and counted otherwise. -/
  | dmaRingWrite (m : Master) (c : Fin 16) (r : DmaRingReg) (v : Word)
  /-- DMA_CLR_CNT (R8): A write of DMA_GCTRL.CLR_CNT clears every DMA_CNT. -/
  | dmaClrCnt (m : Master)
  /-- SCRUB_READ (R367): The scrubber reads a guarded word in an idle fabric cycle, corrects it or acts on an uncorrectable word. -/
  | scrubRead (mem : GuardedMem) (idx : Nat) (outcome : ScrubOutcome) (ts : Stamp)
  /-- TILE_SPARE (R370): A tile control mismatch closes its pad latches and Keystone maps a spare and copies the tile's state. -/
  | tileSpare (t : Fin 64) (ts : Stamp)
  /-- SPARE_RELEASE (R370): At a Drone boundary the pad latches open and the spare runs, delayed edges made in order shifted by H. -/
  | spareRelease (t : Fin 64) (ts : Stamp)
  /-- FLT_ACK_WRITE (R374): A write of FLT_ACK sets the highest index acknowledged, ignoring a lower value. -/
  | fltAckWrite (m : Master) (v : Word)
  /-- IDCODE (R399): JTAG instruction that selects the fixed 32-bit IDCODE. -/
  | idcode
  /-- BYPASS (R399): JTAG instruction that selects the bypass register. -/
  | bypass
  /-- SAMPLE_PRELOAD (R399): JTAG instruction that samples and preloads the boundary register. -/
  | samplePreload (preload : List Bool)
  /-- EXTEST (R399): JTAG instruction that drives covered outputs from the boundary register while units run on unaware. -/
  | extest
  /-- CLAMP (R399): JTAG instruction that holds covered outputs at preloaded levels. -/
  | clamp
  /-- HIGHZ (R399): JTAG instruction that puts covered outputs at high impedance. -/
  | highz
  /-- ENG_DEBUG (R399): JTAG instruction that reaches ENG_DBG and the halted-context view. -/
  | engDebug (write : Option DebugWrite)
  /-- ANGLE_INTERPOLATION (R125): In each domain cycle in HALF and SYNC the angle becomes min(A + S, C) modulo L, holding at the cap with HOLDING set, wrapping through 0 with the WRAP event, and the domain's due crossings of unstaged entries are judged. -/
  | angleInterpolation (d : Fin 16) (ts : Stamp)
  /-- PHASE_LEADING_EDGE (R123): An accepted leading edge of a phase tooth is stamped with the domain's angle and kept for matching at the trailing edge. -/
  | phaseLeadingEdge (d : Fin 16) (ts : Stamp)
  /-- ACK_NAK_RECEIVE (R279): An ACK sequence received frees every frame up to SEQ, and a NAK makes the sender send again from the NAKed frame and count RETRY. -/
  | ackNakReceive (k : Fin 4) (nak : Bool) (seq : Byte)
  /-- PERST_RELEASE (R302): Release of PERST# lets the endpoint leave reset and train its link, and releases WAKE# asserted on a wake. -/
  | perstRelease
  /-- PCIE_LINK_TRAINED (R346): The PCIe link finishes training, WAKE# is released and gathered vectors may issue once MSI-X is enabled and unmasked. -/
  | pcieLinkTrained
  /-- VDD_AO_LOSS (R389): VDD_AO falls below 0.70 V and the always-on domain is lost, so the start record fails its check at the next S1. -/
  | vddAoLoss
  /-- TAP_RESET (R399): TRST# low, or the TAP entering Test-Logic-Reset, loads IDCODE and ends any EXTEST, CLAMP or HIGHZ, so each pin returns to its unit's level in the next tile cycle. -/
  | tapReset
  /-- DROPPED_READ (R306): A read of the wrong width or alignment, of a reserved offset, or denied by privilege returns 0 and counts in SYS_ACCERR with its offset, master and reason. -/
  | droppedRead (m : Master) (off : Nat) (width : Nat)
  deriving DecidableEq, Repr

end Sys2Proof
end

