-- ==== Sys2Proof/Decode.lean ====
section
/-! DEFINITION. The command that a word spells by the table's bits: the table gives no row any bits, so none. And the words
of the task instructions (R173, R174), which the engines fetch: decoder and encoder. -/

namespace Sys2Proof

/-- No row of the table has bits (95, opcode_table.json): a word spells no command. -/
def decodeTableWord (_nbits _w : Nat) : Option Instr := none

open Sys2Proof.Machine (getF)

/-! The fields of R173. -/

def fOp (w : Word) : Nat := getF w 24 8
def fRd (w : Word) : GReg := Fin.ofNat 16 (getF w 20 4)
def fRs (w : Word) : GReg := Fin.ofNat 16 (getF w 16 4)
def fRt (w : Word) : GReg := Fin.ofNat 16 (getF w 12 4)
def fImm (w : Word) : BitVec 16 := w.setWidth 16

/-- The form RR with all three registers: bits [11:0] are 0. -/
def decRRR (x : Fin 128) (w : Word) (c : Fin 128 → GReg → GReg → GReg → Instr) : Instr :=
  if getF w 0 12 = 0 then c x (fRd w) (fRs w) (fRt w) else .illegal x w

/-- The form RI with an immediate below a bound. -/
def immOr (x : Fin 128) (w : Word) (bound : Nat) (i : Instr) : Instr := if (fImm w).toNat < bound then i else .illegal x w

/-- The instruction that context x reads from a word: an unlisted opcode or a non-zero unused field is ILLEGAL (R173). -/
def decodeTask (x : Fin 128) (w : Word) : Instr :=
  match fOp w with
  | 0x01 => decRRR x w .add
  | 0x02 => decRRR x w .sub
  | 0x03 => decRRR x w .and
  | 0x04 => decRRR x w .or
  | 0x05 => decRRR x w .xor
  | 0x06 => decRRR x w .shl
  | 0x07 => decRRR x w .shr
  | 0x08 => decRRR x w .sar
  | 0x09 => decRRR x w .mul
  | 0x0A => decRRR x w .mulh
  | 0x0B => decRRR x w .mulhu
  | 0x0C => decRRR x w .div
  | 0x0D => decRRR x w .divu
  | 0x0E => decRRR x w .min
  | 0x0F => decRRR x w .max
  | 0x10 => if fRd w = 0 ∧ getF w 0 12 = 0 then .cmp x (fRs w) (fRt w) else .illegal x w
  | 0x11 => .addi x (fRd w) (fRs w) (fImm w)
  | 0x13 => .andi x (fRd w) (fRs w) (fImm w)
  | 0x14 => .ori x (fRd w) (fRs w) (fImm w)
  | 0x15 => .xori x (fRd w) (fRs w) (fImm w)
  | 0x16 => immOr x w 0x20 (.shli x (fRd w) (fRs w) (fImm w))
  | 0x17 => immOr x w 0x20 (.shri x (fRd w) (fRs w) (fImm w))
  | 0x18 => immOr x w 0x20 (.sari x (fRd w) (fRs w) (fImm w))
  | 0x1A => if fRd w = 0 then .cmpi x (fRs w) (fImm w) else .illegal x w
  | 0x1C => if fRs w = 0 then .movi x (fRd w) (fImm w) else .illegal x w
  | 0x1D => if fRs w = 0 then .movhi x (fRd w) (fImm w) else .illegal x w
  | 0x1E => if fImm w = 0 then .mov x (fRd w) (fRs w) else .illegal x w
  | 0x20 => if fRs w = 0 ∧ (fImm w).toNat < 16 then .mfs x (fRd w) (fImm w) else .illegal x w
  | 0x21 => if fRd w = 0 ∧ (fImm w).toNat < 16 then .mts x (fRs w) (fImm w) else .illegal x w
  | 0x30 => .ldw x (fRd w) (fRs w) (fImm w)
  | 0x31 => .ldh x (fRd w) (fRs w) (fImm w)
  | 0x32 => .ldhu x (fRd w) (fRs w) (fImm w)
  | 0x33 => .ldb x (fRd w) (fRs w) (fImm w)
  | 0x34 => .ldbu x (fRd w) (fRs w) (fImm w)
  | 0x38 => .stw x (fRd w) (fRs w) (fImm w)
  | 0x39 => .sth x (fRd w) (fRs w) (fImm w)
  | 0x3A => .stb x (fRd w) (fRs w) (fImm w)
  | 0x3C => if fRs w = 0 ∧ fImm w = 0 then .push x (fRd w) else .illegal x w
  | 0x3D => if fRs w = 0 ∧ fImm w = 0 then .pop x (fRd w) else .illegal x w
  | 0x3E => .regrd x (fRd w) (fRs w) (fImm w)
  | 0x3F => .regwr x (fRd w) (fRs w) (fImm w)
  | 0x40 => if fRd w = 0 ∧ fRs w = 0 then .b x (fImm w) else .illegal x w
  | 0x41 => if fRd w = 0 ∧ fRs w = 0 then .beq x (fImm w) else .illegal x w
  | 0x42 => if fRd w = 0 ∧ fRs w = 0 then .bne x (fImm w) else .illegal x w
  | 0x43 => if fRd w = 0 ∧ fRs w = 0 then .blt x (fImm w) else .illegal x w
  | 0x44 => if fRd w = 0 ∧ fRs w = 0 then .bge x (fImm w) else .illegal x w
  | 0x45 => if fRd w = 0 ∧ fRs w = 0 then .bltu x (fImm w) else .illegal x w
  | 0x46 => if fRd w = 0 ∧ fRs w = 0 then .bgeu x (fImm w) else .illegal x w
  | 0x48 => if fRd w = 0 ∧ fRs w = 0 then .call x (fImm w) else .illegal x w
  | 0x49 => if getF w 0 24 = 0 then .ret x else .illegal x w
  | 0x4A => if fRd w = 0 ∧ fImm w = 0 then .jr x (fRs w) else .illegal x w
  | 0x4B => if fRd w = 0 ∧ fImm w = 0 then .callr x (fRs w) else .illegal x w
  | 0x50 => match getF w 12 4 with
    | 0 => .waitTime x (fRd w) (fRs w) (w.setWidth 12)
    | 1 => .waitDelay x (fRd w) (fRs w) (w.setWidth 12)
    | 2 => .waitAngle x (fRd w) (fRs w) (w.setWidth 12)
    | 3 => .waitEvent x (fRd w) (fRs w) (w.setWidth 12)
    | 4 => .waitMbox x (fRd w) (fRs w) (w.setWidth 12)
    | 5 => .waitLock x (fRd w) (fRs w) (w.setWidth 12)
    | _ => .illegal x w
  | 0x51 => if getF w 0 24 = 0 then .yield x else .illegal x w
  | 0x52 => if getF w 0 24 = 0 then .endTask x else .illegal x w
  | 0x53 => if fRd w = 0 ∧ fRs w = 0 then
      (match (fImm w).toNat with
      | 0 => .trapCmd x
      | 0x80 => .trapInfo x
      | 0x81 => .trapLower x
      | 0x82 => .trapLimit x
      | _ => .trapUnknown x (fImm w))
    else .illegal x w
  | 0x54 => if getF w 0 24 = 0 then .rete x else .illegal x w
  | 0x55 => immOr x w 0x80 (.post x (fRd w) (fRs w) (fImm w))
  | 0x60 => if fImm w = 0 then .arm x (fRd w) (fRs w) else .illegal x w
  | 0x61 => if fImm w = 0 then .cancel x (fRd w) (fRs w) else if fImm w = 1 then .cancelFlush x (fRd w) (fRs w) else .illegal x w
  | 0x68 => immOr x w 0x1000 (.tilewr x (fRd w) (fRs w) (fImm w))
  | 0x69 => if fRd w = 0 ∧ (fImm w).toNat < 256 then .commit x (fRs w) (fImm w) else .illegal x w
  | 0x70 => immOr x w 0x1000 (.portx x (fRd w) (fRs w) (fImm w))
  | 0x71 => if fImm w = 0 then .log x (fRd w) (fRs w) else .illegal x w
  | 0x72 => match getF w 14 2 with
    | 0 => .mboxSend x (fRd w) (fRs w) (fImm w)
    | 1 => .mboxRecv x (fRd w) (fRs w) (fImm w)
    | 2 => .mboxPeek x (fRd w) (fRs w) (fImm w)
    | _ => .illegal x w
  | 0x73 => if fRs w = 0 ∧ (fImm w).toNat < 512 then .lock x (fRd w) (fImm w) else .illegal x w
  | 0x74 => if fRd w = 0 ∧ fRs w = 0 ∧ (fImm w).toNat < 512 then .unlock x (fImm w) else .illegal x w
  | 0x78 => decRRR x w .tbl1
  | 0x79 => decRRR x w .tbl2
  | 0x7A => decRRR x w .blkcp
  | 0x7B => decRRR x w .fill
  | _ => .illegal x w

/-- A word of form RR, and of form RI. -/
def encR (op : Nat) (rd rs rt : GReg) : Word := BitVec.ofNat 32 (op * 2 ^ 24 + rd.val * 2 ^ 20 + rs.val * 2 ^ 16 + rt.val * 2 ^ 12)
def encI (op : Nat) (rd rs : GReg) (imm : BitVec 16) : Word :=
  BitVec.ofNat 32 (op * 2 ^ 24 + rd.val * 2 ^ 20 + rs.val * 2 ^ 16 + imm.toNat)

/-- The word of a task instruction (R173, R174); of any other command, which has none, 0. -/
def encodeTask (i : Instr) : Word :=
  match i with
  | .add _ rd rs rt => encR 0x01 rd rs rt
  | .sub _ rd rs rt => encR 0x02 rd rs rt
  | .and _ rd rs rt => encR 0x03 rd rs rt
  | .or _ rd rs rt => encR 0x04 rd rs rt
  | .xor _ rd rs rt => encR 0x05 rd rs rt
  | .shl _ rd rs rt => encR 0x06 rd rs rt
  | .shr _ rd rs rt => encR 0x07 rd rs rt
  | .sar _ rd rs rt => encR 0x08 rd rs rt
  | .mul _ rd rs rt => encR 0x09 rd rs rt
  | .mulh _ rd rs rt => encR 0x0A rd rs rt
  | .mulhu _ rd rs rt => encR 0x0B rd rs rt
  | .div _ rd rs rt => encR 0x0C rd rs rt
  | .divu _ rd rs rt => encR 0x0D rd rs rt
  | .min _ rd rs rt => encR 0x0E rd rs rt
  | .max _ rd rs rt => encR 0x0F rd rs rt
  | .tbl1 _ rd rs rt => encR 0x78 rd rs rt
  | .tbl2 _ rd rs rt => encR 0x79 rd rs rt
  | .blkcp _ rd rs rt => encR 0x7A rd rs rt
  | .fill _ rd rs rt => encR 0x7B rd rs rt
  | .addi _ rd rs imm => encI 0x11 rd rs imm
  | .andi _ rd rs imm => encI 0x13 rd rs imm
  | .ori _ rd rs imm => encI 0x14 rd rs imm
  | .xori _ rd rs imm => encI 0x15 rd rs imm
  | .ldw _ rd rs imm => encI 0x30 rd rs imm
  | .ldh _ rd rs imm => encI 0x31 rd rs imm
  | .ldhu _ rd rs imm => encI 0x32 rd rs imm
  | .ldb _ rd rs imm => encI 0x33 rd rs imm
  | .ldbu _ rd rs imm => encI 0x34 rd rs imm
  | .stw _ rd rs imm => encI 0x38 rd rs imm
  | .sth _ rd rs imm => encI 0x39 rd rs imm
  | .stb _ rd rs imm => encI 0x3A rd rs imm
  | .regrd _ rd rs imm => encI 0x3E rd rs imm
  | .regwr _ rd rs imm => encI 0x3F rd rs imm
  | .shli _ rd rs imm => encI 0x16 rd rs imm
  | .shri _ rd rs imm => encI 0x17 rd rs imm
  | .sari _ rd rs imm => encI 0x18 rd rs imm
  | .post _ rd rs imm => encI 0x55 rd rs imm
  | .tilewr _ rd rs imm => encI 0x68 rd rs imm
  | .portx _ rd rs imm => encI 0x70 rd rs imm
  | .cmp _ rs rt => encR 0x10 0 rs rt
  | .cmpi _ rs imm => encI 0x1A 0 rs imm
  | .movi _ rd imm => encI 0x1C rd 0 imm
  | .movhi _ rd imm => encI 0x1D rd 0 imm
  | .mov _ rd rs => encI 0x1E rd rs 0
  | .mfs _ rd imm => encI 0x20 rd 0 imm
  | .mts _ rs imm => encI 0x21 0 rs imm
  | .push _ rd => encI 0x3C rd 0 0
  | .pop _ rd => encI 0x3D rd 0 0
  | .b _ imm => encI 0x40 0 0 imm
  | .beq _ imm => encI 0x41 0 0 imm
  | .bne _ imm => encI 0x42 0 0 imm
  | .blt _ imm => encI 0x43 0 0 imm
  | .bge _ imm => encI 0x44 0 0 imm
  | .bltu _ imm => encI 0x45 0 0 imm
  | .bgeu _ imm => encI 0x46 0 0 imm
  | .call _ imm => encI 0x48 0 0 imm
  | .ret _ => encI 0x49 0 0 0
  | .yield _ => encI 0x51 0 0 0
  | .endTask _ => encI 0x52 0 0 0
  | .rete _ => encI 0x54 0 0 0
  | .jr _ rs => encI 0x4A 0 rs 0
  | .callr _ rs => encI 0x4B 0 rs 0
  | .waitTime _ rd rs arg => encI 0x50 rd rs (BitVec.ofNat 16 (0 + arg.toNat))
  | .waitDelay _ rd rs arg => encI 0x50 rd rs (BitVec.ofNat 16 (4096 + arg.toNat))
  | .waitAngle _ rd rs arg => encI 0x50 rd rs (BitVec.ofNat 16 (8192 + arg.toNat))
  | .waitEvent _ rd rs arg => encI 0x50 rd rs (BitVec.ofNat 16 (12288 + arg.toNat))
  | .waitMbox _ rd rs arg => encI 0x50 rd rs (BitVec.ofNat 16 (16384 + arg.toNat))
  | .waitLock _ rd rs arg => encI 0x50 rd rs (BitVec.ofNat 16 (20480 + arg.toNat))
  | .trapCmd _ => encI 0x53 0 0 0
  | .trapInfo _ => encI 0x53 0 0 0x80
  | .trapLower _ => encI 0x53 0 0 0x81
  | .trapLimit _ => encI 0x53 0 0 0x82
  | .trapUnknown _ imm => encI 0x53 0 0 imm
  | .arm _ rd rs => encI 0x60 rd rs 0
  | .cancel _ rd rs => encI 0x61 rd rs 0
  | .cancelFlush _ rd rs => encI 0x61 rd rs 1
  | .commit _ rs imm => encI 0x69 0 rs imm
  | .log _ rd rs => encI 0x71 rd rs 0
  | .mboxSend _ rd rs imm => encI 0x72 rd rs imm
  | .mboxRecv _ rd rs imm => encI 0x72 rd rs imm
  | .mboxPeek _ rd rs imm => encI 0x72 rd rs imm
  | .lock _ rd imm => encI 0x73 rd 0 imm
  | .unlock _ imm => encI 0x74 0 0 imm
  | .illegal _ word => word
  | _ => 0

/-- The bound of an immediate that R174 does not use whole: the bits above are 0. -/
def immBound (i : Instr) : Nat × BitVec 16 :=
  match i with
  | .shli _ _ _ imm => (0x20, imm)
  | .shri _ _ _ imm => (0x20, imm)
  | .sari _ _ _ imm => (0x20, imm)
  | .post _ _ _ imm => (0x80, imm)
  | .tilewr _ _ _ imm => (0x1000, imm)
  | .portx _ _ _ imm => (0x1000, imm)
  | .mfs _ _ imm => (0x10, imm)
  | .mts _ _ imm => (0x10, imm)
  | .commit _ _ imm => (0x100, imm)
  | .lock _ _ imm => (0x200, imm)
  | .unlock _ imm => (0x200, imm)
  | _ => (0x10000, 0)

/-- The context of a task instruction; none for every other command. -/
def taskCtx (i : Instr) : Option (Fin 128) :=
  match i with
  | .add x _ _ _ => some x
  | .sub x _ _ _ => some x
  | .and x _ _ _ => some x
  | .or x _ _ _ => some x
  | .xor x _ _ _ => some x
  | .shl x _ _ _ => some x
  | .shr x _ _ _ => some x
  | .sar x _ _ _ => some x
  | .mul x _ _ _ => some x
  | .mulh x _ _ _ => some x
  | .mulhu x _ _ _ => some x
  | .div x _ _ _ => some x
  | .divu x _ _ _ => some x
  | .min x _ _ _ => some x
  | .max x _ _ _ => some x
  | .tbl1 x _ _ _ => some x
  | .tbl2 x _ _ _ => some x
  | .blkcp x _ _ _ => some x
  | .fill x _ _ _ => some x
  | .addi x _ _ _ => some x
  | .andi x _ _ _ => some x
  | .ori x _ _ _ => some x
  | .xori x _ _ _ => some x
  | .ldw x _ _ _ => some x
  | .ldh x _ _ _ => some x
  | .ldhu x _ _ _ => some x
  | .ldb x _ _ _ => some x
  | .ldbu x _ _ _ => some x
  | .stw x _ _ _ => some x
  | .sth x _ _ _ => some x
  | .stb x _ _ _ => some x
  | .regrd x _ _ _ => some x
  | .regwr x _ _ _ => some x
  | .shli x _ _ _ => some x
  | .shri x _ _ _ => some x
  | .sari x _ _ _ => some x
  | .post x _ _ _ => some x
  | .tilewr x _ _ _ => some x
  | .portx x _ _ _ => some x
  | .cmp x _ _ => some x
  | .cmpi x _ _ => some x
  | .movi x _ _ => some x
  | .movhi x _ _ => some x
  | .mov x _ _ => some x
  | .mfs x _ _ => some x
  | .mts x _ _ => some x
  | .push x _ => some x
  | .pop x _ => some x
  | .b x _ => some x
  | .beq x _ => some x
  | .bne x _ => some x
  | .blt x _ => some x
  | .bge x _ => some x
  | .bltu x _ => some x
  | .bgeu x _ => some x
  | .call x _ => some x
  | .ret x => some x
  | .yield x => some x
  | .endTask x => some x
  | .rete x => some x
  | .jr x _ => some x
  | .callr x _ => some x
  | .waitTime x _ _ _ => some x
  | .waitDelay x _ _ _ => some x
  | .waitAngle x _ _ _ => some x
  | .waitEvent x _ _ _ => some x
  | .waitMbox x _ _ _ => some x
  | .waitLock x _ _ _ => some x
  | .trapCmd x => some x
  | .trapInfo x => some x
  | .trapLower x => some x
  | .trapLimit x => some x
  | .trapUnknown x _ => some x
  | .arm x _ _ => some x
  | .cancel x _ _ => some x
  | .cancelFlush x _ _ => some x
  | .commit x _ _ => some x
  | .log x _ _ => some x
  | .mboxSend x _ _ _ => some x
  | .mboxRecv x _ _ _ => some x
  | .mboxPeek x _ _ _ => some x
  | .lock x _ _ => some x
  | .unlock x _ => some x
  | .illegal x _ => some x
  | _ => none

/-- A task instruction whose word R173 allows: immediates in their bounds, the mailbox operation that of the row, and for
TRAP_UNKNOWN and ILLEGAL no listed call and no other instruction's word. -/
def TaskWf (i : Instr) : Bool :=
  (taskCtx i).isSome && decide ((immBound i).2.toNat < (immBound i).1) &&
  (match i with
   | .mboxSend _ _ _ imm => getF imm 14 2 == 0
   | .mboxRecv _ _ _ imm => getF imm 14 2 == 1
   | .mboxPeek _ _ _ imm => getF imm 14 2 == 2
   | .trapUnknown _ imm => !(imm.toNat == 0 || imm.toNat == 0x80 || imm.toNat == 0x81 || imm.toNat == 0x82)
   | .illegal x word => decodeTask x word == .illegal x word
   | _ => true)

end Sys2Proof
end

