-- ==== Sys2Proof/Machine/RegMap.lean ====
section
/-! DEFINITION. The register names of the FJ4 and the BAR0 map (spec 13 R304 and the register tables of 01-16).
A register instance is a name with its instance indices (R11); the table `regMap` gives, for each name, its offset,
its instance rule and which bits a write reaches by access type (R6). -/

namespace Sys2Proof.Machine

/-- Every register the spec's tables introduce, by the manual's name. -/
inductive RegName where
  | sysId
  | sysRev
  | sysCaps0
  | sysCaps1
  | sysCaps2
  | sysCaps3
  | sysAccerr
  | sysAccerrAddr
  | sysAccerrSrc
  | sysCtrl
  | sysCmdMbox
  | sysCmdStat
  | sysMgmt
  | unitState
  | unitReq
  | droneNowLo
  | droneNowHi
  | droneStat
  | droneCtrl
  | droneEpoch
  | droneSlept
  | pllStat
  | droneIsl
  | droneVern
  | chCtrl
  | chPresc
  | chCount
  | chPeriod
  | chCmpa
  | chCmpb
  | chFrac
  | chAct
  | chRatio
  | chPwmctrl
  | chAperiod
  | chAcmpa
  | chAcmpb
  | chAfrac
  | chAact
  | chPwmstat
  | chCapLo
  | chCapHi
  | chCapvLo
  | chCapvHi
  | chStat
  | chIen
  | chErrcnt
  | chEvcnt
  | tileCtrl
  | tileStart
  | tileStop
  | tileCommit
  | tileStartAtLo
  | tileStartAtHi
  | tileStartArm
  | tileStat
  | tileSum
  | tripCtrlA
  | tripCtrlB
  | tripBlankA
  | tripBlankB
  | tripLvl
  | tripStat
  | tripCnt
  | tripTimeA
  | tripTimeB
  | brCtrl
  | brDt
  | brMinpw
  | brStat
  | folCtrl
  | folAngle
  | folStat
  | slotCtrl
  | slotAngle
  | slotDelay
  | slotClose
  | slotGuard
  | pmPin
  | pmBank
  | pmTrip
  | domCtrl
  | domIn
  | domFilt
  | domRatio
  | domStall
  | domDir
  | domMirror
  | domStat
  | domAngle
  | domSnapLo
  | domSnapHi
  | domTooth
  | domTtime
  | domPeriod
  | domRate
  | domPredErr
  | domEvt
  | domIen
  | domCnt0
  | domCnt1
  | domCnt2
  | domCnt3
  | domPat0
  | domPat1
  | domPat2
  | domPhRise
  | domPhFall
  | phmCtrl
  | phmWin
  | phmLast
  | phmDev
  | phmAvg
  | phmStat
  | phmNom0
  | phmNom1
  | phmNom2
  | phmNom3
  | phmNom4
  | phmNom5
  | phmNom6
  | phmNom7
  | calCtrl
  | calStat
  | calSupnote
  | calSupnoteCnt
  | calPart
  | calDstat
  | calEvt
  | calIen
  | calCqBase
  | calCqSize
  | calCqWr
  | calCqRd
  | calCnt0
  | calCnt1
  | calCnt2
  | calCnt3
  | calSlotuse
  | entryW0
  | entryW1
  | entryW2
  | entryW3
  | entryW4
  | entryW5
  | entryW6
  | entryW7
  | engStat
  | engIssue
  | engIdle
  | engDbg
  | csVer
  | csPatch
  | csPatchId
  | csDigest
  | csFwKs
  | csFwSvc
  | csStat
  | mcLast
  | mcTime
  | ctxCtrl
  | ctxCmd
  | ctxStat
  | ctxPc
  | ctxEntry
  | codeBase
  | codeSize
  | dataBase
  | dataSize
  | tabBase
  | tabSize
  | ctxIomask
  | ctxTilesLo
  | ctxTilesHi
  | ctxPorts
  | ctxNointLim
  | ctxErrcnt
  | ctxIssued
  | ctxCause
  | ctxFaultPc
  | govCtrl
  | govBudgetMw
  | govShare
  | govFloor
  | govPfixed
  | govRefill
  | govStat
  | govTj
  | govThresh
  | govThermFact
  | govFc
  | govFcLimit
  | govFcTime
  | govWakeCnt
  | govIsl
  | govCnt
  | govPstateReq
  | govPstate
  | govEvt
  | govIen
  | govAoCnt
  | govAoAlarm
  | wwStat
  | govDepth
  | govLevel
  | govDefer
  | govTs
  | govEpi
  | govEnergy
  | wwSlot
  | logCtrl
  | logRing
  | logWr
  | logRd
  | logFill
  | logThresh
  | logWmark
  | logFlush
  | logStat
  | logEvt
  | logIen
  | logReccnt
  | logCntMisc
  | logCfgerr
  | logCnt
  | catW0
  | catW1
  | catW2
  | catW3
  | portCfg
  | portCtrl
  | portStat
  | portSpi
  | portSpi2
  | portSent
  | portUart
  | portTt
  | portTtArg
  | portTtPer
  | portTtAtLo
  | portTtAtHi
  | portDmemBase
  | portDmemSize
  | portDmemPtr
  | portNotify
  | portLast
  | portEvt
  | portIen
  | portCnt0
  | portCnt1
  | portCnt2
  | portRes
  | portScrEntry
  | portScript
  | mlCtrl
  | mlDev
  | mlStat
  | mlOffset
  | mlHold
  | mlSsAtLo
  | mlSsAtHi
  | mlSsGo
  | mlSsCtrl
  | mlSsTilesLo
  | mlSsTilesHi
  | mlSsPorts
  | mlMsgqHdr
  | mlMsgqVal
  | mlMsgqPop
  | mlFnLast
  | mlFnTime
  | mlSsChmask
  | mlSlockOwner
  | mlPmbDst
  | mlPmbSrc
  | mlLctrl
  | mlLstat
  | mlDelay
  | mlAsym
  | mlCnt0
  | mlCnt1
  | mlEvt
  | mlIen
  | mbData
  | mbCtrl
  | mbCfg
  | mbCnt
  | mbxCtrl
  | lock
  | lockRel
  | lockOwner
  | lockWatch
  | lockFreed
  | lockStat
  | lockCtrl
  | intRoute
  | intEnSet
  | intEnClr
  | intPendSet
  | intPendClr
  | intActive
  | prvRoute
  | prvEnSet
  | prvEnClr
  | prvPendSet
  | prvPendClr
  | prvActive
  | hostPm
  | hostEoi
  | supClaim
  | supEoi
  | intErr
  | vecMod
  | vecStat
  | msixAddrLo
  | msixAddrHi
  | msixData
  | msixVctrl
  | msixPba
  | dmaCtrl
  | dmaRingLo
  | dmaRingHi
  | dmaRingSize
  | dmaHead
  | dmaTail
  | dmaShare
  | dmaStat
  | dmaProg
  | dmaErrAddrLo
  | dmaErrAddrHi
  | dmaErrDir
  | dmaEvt
  | dmaIen
  | dmaCnt
  | dmaGctrl
  | fltSeq
  | fltAck
  | fltStat
  | fltSpare
  | fltMem
  | fltScrub
  | fltMemLim
  | fltEvt
  | fltIen
  | startCtrl
  | startFeedLen
  | startFeedGo
  | startFeed
  | fltMove
  | startRec
  | fltRec
  | calPage
  | calstat
  deriving DecidableEq, Repr

/-- One register instance: its name and up to two instance indices (0 where the register has none). -/
structure RegKey where
  name : RegName
  i : Nat := 0
  j : Nat := 0
  deriving DecidableEq, Repr

/-- One row of the register map: BAR0 offset of instance (0, 0), the counts and strides of the two indices, and the
bits that a write stores (RW, WL), clears (W1C), sets (W1S) or acts on (WO) (R6). Bits in none of them are RO or
reserved and ignore writes (R7). -/
structure RegDef where
  name : RegName
  base : Nat
  n1 : Nat
  s1 : Nat
  n2 : Nat
  s2 : Nat
  rw : Nat
  w1c : Nat
  w1s : Nat
  wo : Nat
  deriving DecidableEq, Repr

/-- Register map, part 0: SYS_ID to CH_PWMSTAT. -/
def regMap0 : List RegDef := [
  ⟨.sysId, 0x0, 1, 0x0, 1, 0x0, 0x0, 0x0, 0x0, 0x0⟩,
  ⟨.sysRev, 0x4, 1, 0x0, 1, 0x0, 0x0, 0x0, 0x0, 0x0⟩,
  ⟨.sysCaps0, 0x10, 1, 0x0, 1, 0x0, 0x0, 0x0, 0x0, 0x0⟩,
  ⟨.sysCaps1, 0x14, 1, 0x0, 1, 0x0, 0x0, 0x0, 0x0, 0x0⟩,
  ⟨.sysCaps2, 0x18, 1, 0x0, 1, 0x0, 0x0, 0x0, 0x0, 0x0⟩,
  ⟨.sysCaps3, 0x1c, 1, 0x0, 1, 0x0, 0x0, 0x0, 0x0, 0x0⟩,
  ⟨.sysAccerr, 0x20, 1, 0x0, 1, 0x0, 0x0, 0x0, 0x0, 0x0⟩,
  ⟨.sysAccerrAddr, 0x24, 1, 0x0, 1, 0x0, 0x0, 0x0, 0x0, 0x0⟩,
  ⟨.sysAccerrSrc, 0x28, 1, 0x0, 1, 0x0, 0x0, 0x0, 0x0, 0x0⟩,
  ⟨.sysCtrl, 0x30, 1, 0x0, 1, 0x0, 0x0, 0x0, 0x0, 0x80000000⟩,
  ⟨.sysCmdMbox, 0x40, 1, 0x0, 1, 0x0, 0x3ffff, 0x0, 0x0, 0x0⟩,
  ⟨.sysCmdStat, 0x44, 1, 0x0, 1, 0x0, 0x0, 0x0, 0x0, 0x0⟩,
  ⟨.sysMgmt, 0x50, 1, 0x0, 1, 0x0, 0x0, 0x0, 0x0, 0x0⟩,
  ⟨.unitState, 0x1000, 256, 0x4, 1, 0x0, 0x0, 0x0, 0x0, 0x0⟩,
  ⟨.unitReq, 0x1400, 256, 0x4, 1, 0x0, 0x70, 0x0, 0x0, 0x0⟩,
  ⟨.droneNowLo, 0x60000, 1, 0x0, 1, 0x0, 0x0, 0x0, 0x0, 0x0⟩,
  ⟨.droneNowHi, 0x60004, 1, 0x0, 1, 0x0, 0x0, 0x0, 0x0, 0x0⟩,
  ⟨.droneStat, 0x60008, 1, 0x0, 1, 0x0, 0x0, 0x0, 0x0, 0x0⟩,
  ⟨.droneCtrl, 0x6000c, 1, 0x0, 1, 0x0, 0x0, 0x0, 0x0, 0x1⟩,
  ⟨.droneEpoch, 0x60010, 1, 0x0, 1, 0x0, 0x0, 0x0, 0x0, 0x0⟩,
  ⟨.droneSlept, 0x60014, 1, 0x0, 1, 0x0, 0x0, 0x0, 0x0, 0x0⟩,
  ⟨.pllStat, 0x60020, 1, 0x0, 1, 0x0, 0x0, 0x0, 0x0, 0x0⟩,
  ⟨.droneIsl, 0x60100, 128, 0x4, 1, 0x0, 0x0, 0x0, 0x0, 0x0⟩,
  ⟨.droneVern, 0x60400, 64, 0x4, 1, 0x0, 0x0, 0x0, 0x0, 0x0⟩,
  ⟨.chCtrl, 0x100000, 64, 0x1000, 8, 0x80, 0x37fff, 0x0, 0x0, 0x0⟩,
  ⟨.chPresc, 0x100004, 64, 0x1000, 8, 0x80, 0xffff, 0x0, 0x0, 0x0⟩,
  ⟨.chCount, 0x100008, 64, 0x1000, 8, 0x80, 0xffffffff, 0x0, 0x0, 0x0⟩,
  ⟨.chPeriod, 0x10000c, 64, 0x1000, 8, 0x80, 0xffffffff, 0x0, 0x0, 0x0⟩,
  ⟨.chCmpa, 0x100010, 64, 0x1000, 8, 0x80, 0xffffffff, 0x0, 0x0, 0x0⟩,
  ⟨.chCmpb, 0x100014, 64, 0x1000, 8, 0x80, 0xffffffff, 0x0, 0x0, 0x0⟩,
  ⟨.chFrac, 0x100018, 64, 0x1000, 8, 0x80, 0xffffff, 0x0, 0x0, 0x0⟩,
  ⟨.chAct, 0x10001c, 64, 0x1000, 8, 0x80, 0xfff, 0x0, 0x0, 0x0⟩,
  ⟨.chRatio, 0x100020, 64, 0x1000, 8, 0x80, 0xffffffff, 0x0, 0x0, 0x0⟩,
  ⟨.chPwmctrl, 0x100024, 64, 0x1000, 8, 0x80, 0x3, 0x0, 0x0, 0x0⟩,
  ⟨.chAperiod, 0x100028, 64, 0x1000, 8, 0x80, 0x0, 0x0, 0x0, 0x0⟩,
  ⟨.chAcmpa, 0x10002c, 64, 0x1000, 8, 0x80, 0x0, 0x0, 0x0, 0x0⟩,
  ⟨.chAcmpb, 0x100030, 64, 0x1000, 8, 0x80, 0x0, 0x0, 0x0, 0x0⟩,
  ⟨.chAfrac, 0x100034, 64, 0x1000, 8, 0x80, 0x0, 0x0, 0x0, 0x0⟩,
  ⟨.chAact, 0x100038, 64, 0x1000, 8, 0x80, 0x0, 0x0, 0x0, 0x0⟩,
  ⟨.chPwmstat, 0x10003c, 64, 0x1000, 8, 0x80, 0x0, 0x0, 0x0, 0x0⟩]

/-- Register map, part 1: CH_CAP_LO to PM_BANK. -/
def regMap1 : List RegDef := [
  ⟨.chCapLo, 0x100040, 64, 0x1000, 8, 0x80, 0x0, 0x0, 0x0, 0x0⟩,
  ⟨.chCapHi, 0x100044, 64, 0x1000, 8, 0x80, 0x0, 0x0, 0x0, 0x0⟩,
  ⟨.chCapvLo, 0x100048, 64, 0x1000, 8, 0x80, 0x0, 0x0, 0x0, 0x0⟩,
  ⟨.chCapvHi, 0x10004c, 64, 0x1000, 8, 0x80, 0x0, 0x0, 0x0, 0x0⟩,
  ⟨.chStat, 0x100050, 64, 0x1000, 8, 0x80, 0x0, 0x4fa, 0x0, 0x0⟩,
  ⟨.chIen, 0x100054, 64, 0x1000, 8, 0x80, 0x7ff, 0x0, 0x0, 0x0⟩,
  ⟨.chErrcnt, 0x100058, 64, 0x1000, 8, 0x80, 0x0, 0x0, 0x0, 0x0⟩,
  ⟨.chEvcnt, 0x10005c, 64, 0x1000, 8, 0x80, 0x0, 0x0, 0x0, 0x0⟩,
  ⟨.tileCtrl, 0x100400, 64, 0x1000, 1, 0x0, 0x1, 0x0, 0x0, 0x2⟩,
  ⟨.tileStart, 0x100404, 64, 0x1000, 1, 0x0, 0x0, 0x0, 0x0, 0xff⟩,
  ⟨.tileStop, 0x100408, 64, 0x1000, 1, 0x0, 0x0, 0x0, 0x0, 0xff⟩,
  ⟨.tileCommit, 0x10040c, 64, 0x1000, 1, 0x0, 0x0, 0x0, 0x0, 0xff⟩,
  ⟨.tileStartAtLo, 0x100410, 64, 0x1000, 1, 0x0, 0xffffffff, 0x0, 0x0, 0x0⟩,
  ⟨.tileStartAtHi, 0x100414, 64, 0x1000, 1, 0x0, 0xffffffff, 0x0, 0x0, 0x0⟩,
  ⟨.tileStartArm, 0x100418, 64, 0x1000, 1, 0x0, 0xff, 0x0, 0x0, 0x0⟩,
  ⟨.tileStat, 0x10041c, 64, 0x1000, 1, 0x0, 0x0, 0x100, 0x0, 0x0⟩,
  ⟨.tileSum, 0x100420, 64, 0x1000, 1, 0x0, 0x0, 0x0, 0x0, 0x0⟩,
  ⟨.tripCtrlA, 0x100580, 64, 0x1000, 1, 0x0, 0x1fffff03, 0x0, 0x0, 0x0⟩,
  ⟨.tripCtrlB, 0x100584, 64, 0x1000, 1, 0x0, 0x1fffff03, 0x0, 0x0, 0x0⟩,
  ⟨.tripBlankA, 0x100588, 64, 0x1000, 1, 0x0, 0xff, 0x0, 0x0, 0x0⟩,
  ⟨.tripBlankB, 0x10058c, 64, 0x1000, 1, 0x0, 0xff, 0x0, 0x0, 0x0⟩,
  ⟨.tripLvl, 0x100590, 64, 0x1000, 1, 0x0, 0xffffffff, 0x0, 0x0, 0x0⟩,
  ⟨.tripStat, 0x100594, 64, 0x1000, 1, 0x0, 0x0, 0xff, 0x0, 0x0⟩,
  ⟨.tripCnt, 0x100598, 64, 0x1000, 1, 0x0, 0x0, 0x0, 0x0, 0x0⟩,
  ⟨.tripTimeA, 0x10059c, 64, 0x1000, 1, 0x0, 0x0, 0x0, 0x0, 0x0⟩,
  ⟨.tripTimeB, 0x1005a0, 64, 0x1000, 1, 0x0, 0x0, 0x0, 0x0, 0x0⟩,
  ⟨.brCtrl, 0x100500, 64, 0x1000, 4, 0x10, 0x1, 0x0, 0x0, 0x0⟩,
  ⟨.brDt, 0x100504, 64, 0x1000, 4, 0x10, 0xffffffff, 0x0, 0x0, 0x0⟩,
  ⟨.brMinpw, 0x100508, 64, 0x1000, 4, 0x10, 0xffff, 0x0, 0x0, 0x0⟩,
  ⟨.brStat, 0x10050c, 64, 0x1000, 4, 0x10, 0x0, 0x0, 0x0, 0x0⟩,
  ⟨.folCtrl, 0x100600, 64, 0x1000, 4, 0x10, 0xf1, 0x0, 0x0, 0x0⟩,
  ⟨.folAngle, 0x100604, 64, 0x1000, 4, 0x10, 0x0, 0x0, 0x0, 0x0⟩,
  ⟨.folStat, 0x100608, 64, 0x1000, 4, 0x10, 0x0, 0x0, 0x0, 0x0⟩,
  ⟨.slotCtrl, 0x100800, 64, 0x1000, 16, 0x20, 0x0, 0x0, 0x0, 0x0⟩,
  ⟨.slotAngle, 0x100804, 64, 0x1000, 16, 0x20, 0x0, 0x0, 0x0, 0x0⟩,
  ⟨.slotDelay, 0x100808, 64, 0x1000, 16, 0x20, 0x0, 0x0, 0x0, 0x0⟩,
  ⟨.slotClose, 0x10080c, 64, 0x1000, 16, 0x20, 0x0, 0x0, 0x0, 0x0⟩,
  ⟨.slotGuard, 0x100810, 64, 0x1000, 16, 0x20, 0x0, 0x0, 0x0, 0x0⟩,
  ⟨.pmPin, 0xc0000, 256, 0x4, 1, 0x0, 0x3f7fff, 0x0, 0x0, 0x0⟩,
  ⟨.pmBank, 0xc0800, 8, 0x4, 1, 0x0, 0x0, 0x0, 0x0, 0x0⟩]

/-- Register map, part 2: PM_TRIP to PHM_NOM_5. -/
def regMap2 : List RegDef := [
  ⟨.pmTrip, 0xc0a00, 64, 0x4, 1, 0x0, 0x3f3f, 0x0, 0x0, 0x0⟩,
  ⟨.domCtrl, 0x80000, 16, 0x1000, 1, 0x0, 0xfff, 0x0, 0x0, 0x80000000⟩,
  ⟨.domIn, 0x80004, 16, 0x1000, 1, 0x0, 0x1ffff, 0x0, 0x0, 0x0⟩,
  ⟨.domFilt, 0x80008, 16, 0x1000, 1, 0x0, 0x3ff03ff, 0x0, 0x0, 0x0⟩,
  ⟨.domRatio, 0x8000c, 16, 0x1000, 1, 0x0, 0xffffffff, 0x0, 0x0, 0x0⟩,
  ⟨.domStall, 0x80010, 16, 0x1000, 1, 0x0, 0x1ffffff, 0x0, 0x0, 0x0⟩,
  ⟨.domDir, 0x80014, 16, 0x1000, 1, 0x0, 0x1ffff, 0x0, 0x0, 0x0⟩,
  ⟨.domMirror, 0x80018, 16, 0x1000, 1, 0x0, 0xf01ff, 0x0, 0x0, 0x0⟩,
  ⟨.domStat, 0x80020, 16, 0x1000, 1, 0x0, 0x0, 0x0, 0x0, 0x0⟩,
  ⟨.domAngle, 0x80024, 16, 0x1000, 1, 0x0, 0x0, 0x0, 0x0, 0x0⟩,
  ⟨.domSnapLo, 0x80028, 16, 0x1000, 1, 0x0, 0x0, 0x0, 0x0, 0x0⟩,
  ⟨.domSnapHi, 0x8002c, 16, 0x1000, 1, 0x0, 0x0, 0x0, 0x0, 0x0⟩,
  ⟨.domTooth, 0x80030, 16, 0x1000, 1, 0x0, 0x0, 0x0, 0x0, 0x0⟩,
  ⟨.domTtime, 0x80034, 16, 0x1000, 1, 0x0, 0x0, 0x0, 0x0, 0x0⟩,
  ⟨.domPeriod, 0x80038, 16, 0x1000, 1, 0x0, 0x0, 0x0, 0x0, 0x0⟩,
  ⟨.domRate, 0x8003c, 16, 0x1000, 1, 0x0, 0x0, 0x0, 0x0, 0x0⟩,
  ⟨.domPredErr, 0x80040, 16, 0x1000, 1, 0x0, 0x0, 0x0, 0x0, 0x0⟩,
  ⟨.domEvt, 0x80048, 16, 0x1000, 1, 0x0, 0x0, 0xfff, 0x0, 0x0⟩,
  ⟨.domIen, 0x8004c, 16, 0x1000, 1, 0x0, 0xfff, 0x0, 0x0, 0x0⟩,
  ⟨.domCnt0, 0x80050, 16, 0x1000, 1, 0x0, 0x0, 0x0, 0x0, 0x0⟩,
  ⟨.domCnt1, 0x80054, 16, 0x1000, 1, 0x0, 0x0, 0x0, 0x0, 0x0⟩,
  ⟨.domCnt2, 0x80058, 16, 0x1000, 1, 0x0, 0x0, 0x0, 0x0, 0x0⟩,
  ⟨.domCnt3, 0x8005c, 16, 0x1000, 1, 0x0, 0x0, 0x0, 0x0, 0x0⟩,
  ⟨.domPat0, 0x80100, 16, 0x1000, 1, 0x0, 0x3fff7ff, 0x0, 0x0, 0x0⟩,
  ⟨.domPat1, 0x80104, 16, 0x1000, 1, 0x0, 0xffffff, 0x0, 0x0, 0x0⟩,
  ⟨.domPat2, 0x80108, 16, 0x1000, 1, 0x0, 0xffff, 0x0, 0x0, 0x0⟩,
  ⟨.domPhRise, 0x80140, 16, 0x1000, 16, 0x8, 0xffffffff, 0x0, 0x0, 0x0⟩,
  ⟨.domPhFall, 0x80144, 16, 0x1000, 16, 0x8, 0xffffffff, 0x0, 0x0, 0x0⟩,
  ⟨.phmCtrl, 0x80200, 16, 0x1000, 4, 0x40, 0xff03ff, 0x0, 0x0, 0x0⟩,
  ⟨.phmWin, 0x80204, 16, 0x1000, 4, 0x40, 0xffffff, 0x0, 0x0, 0x0⟩,
  ⟨.phmLast, 0x80228, 16, 0x1000, 4, 0x40, 0x0, 0x0, 0x0, 0x0⟩,
  ⟨.phmDev, 0x8022c, 16, 0x1000, 4, 0x40, 0x0, 0x0, 0x0, 0x0⟩,
  ⟨.phmAvg, 0x80230, 16, 0x1000, 4, 0x40, 0x0, 0x0, 0x0, 0x0⟩,
  ⟨.phmStat, 0x80234, 16, 0x1000, 4, 0x40, 0x0, 0x0, 0x0, 0x0⟩,
  ⟨.phmNom0, 0x80208, 16, 0x1000, 4, 0x40, 0xffffffff, 0x0, 0x0, 0x0⟩,
  ⟨.phmNom1, 0x8020c, 16, 0x1000, 4, 0x40, 0xffffffff, 0x0, 0x0, 0x0⟩,
  ⟨.phmNom2, 0x80210, 16, 0x1000, 4, 0x40, 0xffffffff, 0x0, 0x0, 0x0⟩,
  ⟨.phmNom3, 0x80214, 16, 0x1000, 4, 0x40, 0xffffffff, 0x0, 0x0, 0x0⟩,
  ⟨.phmNom4, 0x80218, 16, 0x1000, 4, 0x40, 0xffffffff, 0x0, 0x0, 0x0⟩,
  ⟨.phmNom5, 0x8021c, 16, 0x1000, 4, 0x40, 0xffffffff, 0x0, 0x0, 0x0⟩]

/-- Register map, part 3: PHM_NOM_6 to MC_TIME. -/
def regMap3 : List RegDef := [
  ⟨.phmNom6, 0x80220, 16, 0x1000, 4, 0x40, 0xffffffff, 0x0, 0x0, 0x0⟩,
  ⟨.phmNom7, 0x80224, 16, 0x1000, 4, 0x40, 0xffffffff, 0x0, 0x0, 0x0⟩,
  ⟨.calCtrl, 0x90000, 1, 0x0, 1, 0x0, 0x0, 0x0, 0x0, 0x1⟩,
  ⟨.calStat, 0x90004, 1, 0x0, 1, 0x0, 0x0, 0x10000, 0x0, 0x0⟩,
  ⟨.calSupnote, 0x90008, 1, 0x0, 1, 0x0, 0x0, 0x0, 0x0, 0x0⟩,
  ⟨.calSupnoteCnt, 0x9000c, 1, 0x0, 1, 0x0, 0x0, 0x0, 0x0, 0x0⟩,
  ⟨.calPart, 0x90100, 16, 0x4, 1, 0x0, 0x3fff1fff, 0x0, 0x0, 0x0⟩,
  ⟨.calDstat, 0x90140, 16, 0x4, 1, 0x0, 0x0, 0x0, 0x0, 0x0⟩,
  ⟨.calEvt, 0x90500, 16, 0x4, 1, 0x0, 0x0, 0x1f, 0x0, 0x0⟩,
  ⟨.calIen, 0x90540, 16, 0x4, 1, 0x0, 0x1f, 0x0, 0x0, 0x0⟩,
  ⟨.calCqBase, 0x90200, 16, 0x10, 1, 0x0, 0x3ffff0, 0x0, 0x0, 0x0⟩,
  ⟨.calCqSize, 0x90204, 16, 0x10, 1, 0x0, 0xf, 0x0, 0x0, 0x0⟩,
  ⟨.calCqWr, 0x90208, 16, 0x10, 1, 0x0, 0x0, 0x0, 0x0, 0x0⟩,
  ⟨.calCqRd, 0x9020c, 16, 0x10, 1, 0x0, 0x1fff, 0x0, 0x0, 0x0⟩,
  ⟨.calCnt0, 0x90400, 16, 0x10, 1, 0x0, 0x0, 0x0, 0x0, 0x0⟩,
  ⟨.calCnt1, 0x90404, 16, 0x10, 1, 0x0, 0x0, 0x0, 0x0, 0x0⟩,
  ⟨.calCnt2, 0x90408, 16, 0x10, 1, 0x0, 0x0, 0x0, 0x0, 0x0⟩,
  ⟨.calCnt3, 0x9040c, 16, 0x10, 1, 0x0, 0x0, 0x0, 0x0, 0x0⟩,
  ⟨.calSlotuse, 0x90600, 64, 0x4, 1, 0x0, 0x0, 0x0, 0x0, 0x0⟩,
  ⟨.entryW0, 0x200000, 8192, 0x20, 1, 0x0, 0x0, 0x0, 0x0, 0x0⟩,
  ⟨.entryW1, 0x200004, 8192, 0x20, 1, 0x0, 0x0, 0x0, 0x0, 0x0⟩,
  ⟨.entryW2, 0x200008, 8192, 0x20, 1, 0x0, 0x0, 0x0, 0x0, 0x0⟩,
  ⟨.entryW3, 0x20000c, 8192, 0x20, 1, 0x0, 0x0, 0x0, 0x0, 0x0⟩,
  ⟨.entryW4, 0x200010, 8192, 0x20, 1, 0x0, 0x0, 0x0, 0x0, 0x0⟩,
  ⟨.entryW5, 0x200014, 8192, 0x20, 1, 0x0, 0x0, 0x0, 0x0, 0x0⟩,
  ⟨.entryW6, 0x200018, 8192, 0x20, 1, 0x0, 0x0, 0x0, 0x0, 0x0⟩,
  ⟨.entryW7, 0x20001c, 8192, 0x20, 1, 0x0, 0x0, 0x0, 0x0, 0x0⟩,
  ⟨.engStat, 0xd0000, 4, 0x4000, 1, 0x0, 0x0, 0x0, 0x0, 0x0⟩,
  ⟨.engIssue, 0xd0004, 4, 0x4000, 1, 0x0, 0x0, 0x0, 0x0, 0x0⟩,
  ⟨.engIdle, 0xd0008, 4, 0x4000, 1, 0x0, 0x0, 0x0, 0x0, 0x0⟩,
  ⟨.engDbg, 0xd0010, 4, 0x4000, 1, 0x0, 0x0, 0x0, 0x0, 0x0⟩,
  ⟨.csVer, 0xd0100, 4, 0x4000, 1, 0x0, 0x0, 0x0, 0x0, 0x0⟩,
  ⟨.csPatch, 0xd0104, 4, 0x4000, 1, 0x0, 0x0, 0x0, 0x0, 0x0⟩,
  ⟨.csPatchId, 0xd0108, 4, 0x4000, 1, 0x0, 0x0, 0x0, 0x0, 0x0⟩,
  ⟨.csDigest, 0xd010c, 4, 0x4000, 1, 0x0, 0x0, 0x0, 0x0, 0x0⟩,
  ⟨.csFwKs, 0xd0110, 4, 0x4000, 1, 0x0, 0x0, 0x0, 0x0, 0x0⟩,
  ⟨.csFwSvc, 0xd0114, 4, 0x4000, 1, 0x0, 0x0, 0x0, 0x0, 0x0⟩,
  ⟨.csStat, 0xd0118, 4, 0x4000, 1, 0x0, 0x0, 0x0, 0x0, 0x0⟩,
  ⟨.mcLast, 0xd0120, 4, 0x4000, 1, 0x0, 0x0, 0x0, 0x0, 0x0⟩,
  ⟨.mcTime, 0xd0124, 4, 0x4000, 1, 0x0, 0x0, 0x0, 0x0, 0x0⟩]

/-- Register map, part 4: CTX_CTRL to GOV_IEN. -/
def regMap4 : List RegDef := [
  ⟨.ctxCtrl, 0xd1000, 4, 0x4000, 32, 0x80, 0x1ff, 0x0, 0x0, 0x0⟩,
  ⟨.ctxCmd, 0xd1004, 4, 0x4000, 32, 0x80, 0x0, 0x0, 0x0, 0x3⟩,
  ⟨.ctxStat, 0xd1008, 4, 0x4000, 32, 0x80, 0x0, 0x0, 0x0, 0x0⟩,
  ⟨.ctxPc, 0xd100c, 4, 0x4000, 32, 0x80, 0x0, 0x0, 0x0, 0x0⟩,
  ⟨.ctxEntry, 0xd1010, 4, 0x4000, 32, 0x80, 0x3ffffc, 0x0, 0x0, 0x0⟩,
  ⟨.codeBase, 0xd1014, 4, 0x4000, 32, 0x80, 0x3fff00, 0x0, 0x0, 0x0⟩,
  ⟨.codeSize, 0xd1018, 4, 0x4000, 32, 0x80, 0x7fff00, 0x0, 0x0, 0x0⟩,
  ⟨.dataBase, 0xd101c, 4, 0x4000, 32, 0x80, 0x3fff00, 0x0, 0x0, 0x0⟩,
  ⟨.dataSize, 0xd1020, 4, 0x4000, 32, 0x80, 0x7fff00, 0x0, 0x0, 0x0⟩,
  ⟨.tabBase, 0xd1024, 4, 0x4000, 32, 0x80, 0x3fff00, 0x0, 0x0, 0x0⟩,
  ⟨.tabSize, 0xd1028, 4, 0x4000, 32, 0x80, 0x7fff00, 0x0, 0x0, 0x0⟩,
  ⟨.ctxIomask, 0xd102c, 4, 0x4000, 32, 0x80, 0x7ffff, 0x0, 0x0, 0x0⟩,
  ⟨.ctxTilesLo, 0xd1030, 4, 0x4000, 32, 0x80, 0xffffffff, 0x0, 0x0, 0x0⟩,
  ⟨.ctxTilesHi, 0xd1034, 4, 0x4000, 32, 0x80, 0xffffffff, 0x0, 0x0, 0x0⟩,
  ⟨.ctxPorts, 0xd1038, 4, 0x4000, 32, 0x80, 0xffffffff, 0x0, 0x0, 0x0⟩,
  ⟨.ctxNointLim, 0xd103c, 4, 0x4000, 32, 0x80, 0xfff, 0x0, 0x0, 0x0⟩,
  ⟨.ctxErrcnt, 0xd1040, 4, 0x4000, 32, 0x80, 0x0, 0x0, 0x0, 0x0⟩,
  ⟨.ctxIssued, 0xd1044, 4, 0x4000, 32, 0x80, 0x0, 0x0, 0x0, 0x0⟩,
  ⟨.ctxCause, 0xd1048, 4, 0x4000, 32, 0x80, 0x0, 0x0, 0x0, 0x0⟩,
  ⟨.ctxFaultPc, 0xd104c, 4, 0x4000, 32, 0x80, 0x0, 0x0, 0x0, 0x0⟩,
  ⟨.govCtrl, 0x50000, 1, 0x0, 1, 0x0, 0x3, 0x0, 0x0, 0x80000000⟩,
  ⟨.govBudgetMw, 0x50004, 1, 0x0, 1, 0x0, 0xffffffff, 0x0, 0x0, 0x0⟩,
  ⟨.govShare, 0x50008, 1, 0x0, 1, 0x0, 0xffffff, 0x0, 0x0, 0x0⟩,
  ⟨.govFloor, 0x5000c, 1, 0x0, 1, 0x0, 0xffff, 0x0, 0x0, 0x0⟩,
  ⟨.govPfixed, 0x50030, 1, 0x0, 1, 0x0, 0x0, 0x0, 0x0, 0x0⟩,
  ⟨.govRefill, 0x50034, 1, 0x0, 1, 0x0, 0x0, 0x0, 0x0, 0x0⟩,
  ⟨.govStat, 0x50038, 1, 0x0, 1, 0x0, 0x0, 0x80, 0x0, 0x0⟩,
  ⟨.govTj, 0x5003c, 1, 0x0, 1, 0x0, 0x0, 0x0, 0x0, 0x0⟩,
  ⟨.govThresh, 0x50060, 1, 0x0, 1, 0x0, 0xfffffff, 0x0, 0x0, 0x0⟩,
  ⟨.govThermFact, 0x50064, 1, 0x0, 1, 0x0, 0xffffff, 0x0, 0x0, 0x0⟩,
  ⟨.govFc, 0x500a0, 1, 0x0, 1, 0x0, 0x0, 0x0, 0x0, 0x0⟩,
  ⟨.govFcLimit, 0x500a4, 1, 0x0, 1, 0x0, 0xffff, 0x0, 0x0, 0x0⟩,
  ⟨.govFcTime, 0x500a8, 1, 0x0, 1, 0x0, 0x0, 0x0, 0x0, 0x0⟩,
  ⟨.govWakeCnt, 0x500d0, 1, 0x0, 1, 0x0, 0x0, 0x0, 0x0, 0x0⟩,
  ⟨.govIsl, 0x500d4, 1, 0x0, 1, 0x0, 0x0, 0x0, 0x0, 0x0⟩,
  ⟨.govCnt, 0x500d8, 1, 0x0, 1, 0x0, 0x0, 0x0, 0x0, 0x0⟩,
  ⟨.govPstateReq, 0x500e0, 1, 0x0, 1, 0x0, 0x0, 0x0, 0x0, 0xf⟩,
  ⟨.govPstate, 0x500e4, 1, 0x0, 1, 0x0, 0x0, 0x0, 0x0, 0x0⟩,
  ⟨.govEvt, 0x500f0, 1, 0x0, 1, 0x0, 0x0, 0xff, 0x0, 0x0⟩,
  ⟨.govIen, 0x500f4, 1, 0x0, 1, 0x0, 0xff, 0x0, 0x0, 0x0⟩]

/-- Register map, part 5: GOV_AO_CNT to PORT_TT_AT_LO. -/
def regMap5 : List RegDef := [
  ⟨.govAoCnt, 0x50100, 1, 0x0, 1, 0x0, 0x0, 0x0, 0x0, 0x0⟩,
  ⟨.govAoAlarm, 0x50104, 1, 0x0, 1, 0x0, 0xffffffff, 0x0, 0x0, 0x0⟩,
  ⟨.wwStat, 0x50108, 1, 0x0, 1, 0x0, 0x0, 0x3ffff, 0x0, 0x0⟩,
  ⟨.govDepth, 0x50010, 3, 0x4, 1, 0x0, 0xffff, 0x0, 0x0, 0x0⟩,
  ⟨.govLevel, 0x50020, 3, 0x4, 1, 0x0, 0x0, 0x0, 0x0, 0x0⟩,
  ⟨.govDefer, 0x500c0, 3, 0x4, 1, 0x0, 0x0, 0x0, 0x0, 0x0⟩,
  ⟨.govTs, 0x50040, 8, 0x4, 1, 0x0, 0x0, 0x0, 0x0, 0x0⟩,
  ⟨.govEpi, 0x50080, 8, 0x4, 1, 0x0, 0xffff, 0x0, 0x0, 0x0⟩,
  ⟨.govEnergy, 0x500b0, 4, 0x4, 1, 0x0, 0x0, 0x0, 0x0, 0x0⟩,
  ⟨.wwSlot, 0x50140, 16, 0x4, 1, 0x0, 0x1fff, 0x0, 0x0, 0x0⟩,
  ⟨.logCtrl, 0x2200000, 1, 0x0, 1, 0x0, 0xf3, 0x0, 0x0, 0x80000000⟩,
  ⟨.logRing, 0x2200004, 1, 0x0, 1, 0x0, 0x1f, 0x0, 0x0, 0x0⟩,
  ⟨.logWr, 0x2200008, 1, 0x0, 1, 0x0, 0x0, 0x0, 0x0, 0x0⟩,
  ⟨.logRd, 0x220000c, 1, 0x0, 1, 0x0, 0x1ffffff, 0x0, 0x0, 0x0⟩,
  ⟨.logFill, 0x2200010, 1, 0x0, 1, 0x0, 0x0, 0x0, 0x0, 0x0⟩,
  ⟨.logThresh, 0x2200014, 1, 0x0, 1, 0x0, 0xfffffff, 0x0, 0x0, 0x0⟩,
  ⟨.logWmark, 0x2200018, 1, 0x0, 1, 0x0, 0x1ffffff, 0x0, 0x0, 0x0⟩,
  ⟨.logFlush, 0x220001c, 1, 0x0, 1, 0x0, 0xffffffff, 0x0, 0x0, 0x0⟩,
  ⟨.logStat, 0x2200020, 1, 0x0, 1, 0x0, 0x0, 0x20, 0x0, 0x0⟩,
  ⟨.logEvt, 0x2200024, 1, 0x0, 1, 0x0, 0x0, 0xf, 0x0, 0x0⟩,
  ⟨.logIen, 0x2200028, 1, 0x0, 1, 0x0, 0xf, 0x0, 0x0, 0x0⟩,
  ⟨.logReccnt, 0x2200040, 1, 0x0, 1, 0x0, 0x0, 0x0, 0x0, 0x0⟩,
  ⟨.logCntMisc, 0x2200044, 1, 0x0, 1, 0x0, 0x0, 0x0, 0x0, 0x0⟩,
  ⟨.logCfgerr, 0x2200048, 1, 0x0, 1, 0x0, 0x0, 0x0, 0x0, 0x0⟩,
  ⟨.logCnt, 0x2200030, 4, 0x4, 1, 0x0, 0x0, 0x0, 0x0, 0x0⟩,
  ⟨.catW0, 0x2000000, 131072, 0x10, 1, 0x0, 0xffffff, 0x0, 0x0, 0x0⟩,
  ⟨.catW1, 0x2000004, 131072, 0x10, 1, 0x0, 0xffffffff, 0x0, 0x0, 0x0⟩,
  ⟨.catW2, 0x2000008, 131072, 0x10, 1, 0x0, 0xffffffff, 0x0, 0x0, 0x0⟩,
  ⟨.catW3, 0x200000c, 131072, 0x10, 1, 0x0, 0x0, 0x0, 0x0, 0x0⟩,
  ⟨.portCfg, 0xa0000, 32, 0x800, 1, 0x0, 0x7, 0x0, 0x0, 0x0⟩,
  ⟨.portCtrl, 0xa0004, 32, 0x800, 1, 0x0, 0x0, 0x0, 0x0, 0x80000003⟩,
  ⟨.portStat, 0xa0008, 32, 0x800, 1, 0x0, 0x0, 0x0, 0x0, 0x0⟩,
  ⟨.portSpi, 0xa0010, 32, 0x800, 1, 0x0, 0xffff1fff, 0x0, 0x0, 0x0⟩,
  ⟨.portSpi2, 0xa0014, 32, 0x800, 1, 0x0, 0x307ff, 0x0, 0x0, 0x0⟩,
  ⟨.portSent, 0xa0018, 32, 0x800, 1, 0x0, 0xff01ffff, 0x0, 0x0, 0x0⟩,
  ⟨.portUart, 0xa001c, 32, 0x800, 1, 0x0, 0x1fffff, 0x0, 0x0, 0x0⟩,
  ⟨.portTt, 0xa0020, 32, 0x800, 1, 0x0, 0x3f01, 0x0, 0x0, 0x0⟩,
  ⟨.portTtArg, 0xa0024, 32, 0x800, 1, 0x0, 0xffffffff, 0x0, 0x0, 0x0⟩,
  ⟨.portTtPer, 0xa0028, 32, 0x800, 1, 0x0, 0xffffffff, 0x0, 0x0, 0x0⟩,
  ⟨.portTtAtLo, 0xa002c, 32, 0x800, 1, 0x0, 0xffffffff, 0x0, 0x0, 0x0⟩]

/-- Register map, part 6: PORT_TT_AT_HI to ML_CNT_0. -/
def regMap6 : List RegDef := [
  ⟨.portTtAtHi, 0xa0030, 32, 0x800, 1, 0x0, 0xffffffff, 0x0, 0x0, 0x0⟩,
  ⟨.portDmemBase, 0xa0040, 32, 0x800, 1, 0x0, 0x3ffffc, 0x0, 0x0, 0x0⟩,
  ⟨.portDmemSize, 0xa0044, 32, 0x800, 1, 0x0, 0x7ffffc, 0x0, 0x0, 0x0⟩,
  ⟨.portDmemPtr, 0xa0048, 32, 0x800, 1, 0x0, 0x3ffffc, 0x0, 0x0, 0x0⟩,
  ⟨.portNotify, 0xa004c, 32, 0x800, 1, 0x0, 0xff, 0x0, 0x0, 0x0⟩,
  ⟨.portLast, 0xa0050, 32, 0x800, 1, 0x0, 0x0, 0x0, 0x0, 0x0⟩,
  ⟨.portEvt, 0xa0054, 32, 0x800, 1, 0x0, 0x0, 0xf, 0x0, 0x0⟩,
  ⟨.portIen, 0xa0058, 32, 0x800, 1, 0x0, 0xf, 0x0, 0x0, 0x0⟩,
  ⟨.portCnt0, 0xa0060, 32, 0x800, 1, 0x0, 0x0, 0x0, 0x0, 0x0⟩,
  ⟨.portCnt1, 0xa0064, 32, 0x800, 1, 0x0, 0x0, 0x0, 0x0, 0x0⟩,
  ⟨.portCnt2, 0xa0068, 32, 0x800, 1, 0x0, 0x0, 0x0, 0x0, 0x0⟩,
  ⟨.portRes, 0xa0100, 32, 0x800, 64, 0x4, 0x0, 0x0, 0x0, 0x0⟩,
  ⟨.portScrEntry, 0xa0200, 32, 0x800, 64, 0x4, 0x1ff, 0x0, 0x0, 0x0⟩,
  ⟨.portScript, 0xa0400, 32, 0x800, 256, 0x4, 0xffffffff, 0x0, 0x0, 0x0⟩,
  ⟨.mlCtrl, 0x70000, 1, 0x0, 1, 0x0, 0x3, 0x0, 0x0, 0x80000000⟩,
  ⟨.mlDev, 0x70004, 1, 0x0, 1, 0x0, 0x1ff, 0x0, 0x0, 0x0⟩,
  ⟨.mlStat, 0x70008, 1, 0x0, 1, 0x0, 0x0, 0x1000, 0x0, 0x0⟩,
  ⟨.mlOffset, 0x7000c, 1, 0x0, 1, 0x0, 0x0, 0x0, 0x0, 0x0⟩,
  ⟨.mlHold, 0x70010, 1, 0x0, 1, 0x0, 0x3ff, 0x0, 0x0, 0x0⟩,
  ⟨.mlSsAtLo, 0x70020, 1, 0x0, 1, 0x0, 0xffffffff, 0x0, 0x0, 0x0⟩,
  ⟨.mlSsAtHi, 0x70024, 1, 0x0, 1, 0x0, 0xffffffff, 0x0, 0x0, 0x0⟩,
  ⟨.mlSsGo, 0x70028, 1, 0x0, 1, 0x0, 0xffff0000, 0x0, 0x0, 0x1⟩,
  ⟨.mlSsCtrl, 0x7002c, 1, 0x0, 1, 0x0, 0x3ff, 0x0, 0x0, 0x0⟩,
  ⟨.mlSsTilesLo, 0x70030, 1, 0x0, 1, 0x0, 0xffffffff, 0x0, 0x0, 0x0⟩,
  ⟨.mlSsTilesHi, 0x70034, 1, 0x0, 1, 0x0, 0xffffffff, 0x0, 0x0, 0x0⟩,
  ⟨.mlSsPorts, 0x70038, 1, 0x0, 1, 0x0, 0xffffffff, 0x0, 0x0, 0x0⟩,
  ⟨.mlMsgqHdr, 0x70320, 1, 0x0, 1, 0x0, 0x0, 0x0, 0x0, 0x0⟩,
  ⟨.mlMsgqVal, 0x70324, 1, 0x0, 1, 0x0, 0x0, 0x0, 0x0, 0x0⟩,
  ⟨.mlMsgqPop, 0x70328, 1, 0x0, 1, 0x0, 0x0, 0x0, 0x0, 0x1⟩,
  ⟨.mlFnLast, 0x70330, 1, 0x0, 1, 0x0, 0x0, 0x0, 0x0, 0x0⟩,
  ⟨.mlFnTime, 0x70334, 1, 0x0, 1, 0x0, 0x0, 0x0, 0x0, 0x0⟩,
  ⟨.mlSsChmask, 0x70100, 64, 0x4, 1, 0x0, 0xff, 0x0, 0x0, 0x0⟩,
  ⟨.mlSlockOwner, 0x70200, 64, 0x4, 1, 0x0, 0x0, 0x0, 0x0, 0x0⟩,
  ⟨.mlPmbDst, 0x70300, 4, 0x4, 1, 0x0, 0xdff, 0x0, 0x0, 0x0⟩,
  ⟨.mlPmbSrc, 0x70310, 4, 0x4, 1, 0x0, 0xdff, 0x0, 0x0, 0x0⟩,
  ⟨.mlLctrl, 0x70800, 4, 0x40, 1, 0x0, 0x37, 0x0, 0x0, 0x0⟩,
  ⟨.mlLstat, 0x70804, 4, 0x40, 1, 0x0, 0x0, 0x0, 0x0, 0x0⟩,
  ⟨.mlDelay, 0x70808, 4, 0x40, 1, 0x0, 0x0, 0x0, 0x0, 0x0⟩,
  ⟨.mlAsym, 0x7080c, 4, 0x40, 1, 0x0, 0xffff, 0x0, 0x0, 0x0⟩,
  ⟨.mlCnt0, 0x70810, 4, 0x40, 1, 0x0, 0x0, 0x0, 0x0, 0x0⟩]

/-- Register map, part 7: ML_CNT_1 to DMA_CTRL. -/
def regMap7 : List RegDef := [
  ⟨.mlCnt1, 0x70814, 4, 0x40, 1, 0x0, 0x0, 0x0, 0x0, 0x0⟩,
  ⟨.mlEvt, 0x70818, 4, 0x40, 1, 0x0, 0x0, 0x7f, 0x0, 0x0⟩,
  ⟨.mlIen, 0x7081c, 4, 0x40, 1, 0x0, 0x7f, 0x0, 0x0, 0x0⟩,
  ⟨.mbData, 0x20000, 48, 0x80, 16, 0x4, 0xffffffff, 0x0, 0x0, 0x0⟩,
  ⟨.mbCtrl, 0x20040, 48, 0x80, 1, 0x0, 0x0, 0x0, 0x1, 0x2⟩,
  ⟨.mbCfg, 0x20044, 48, 0x80, 1, 0x0, 0x1ff00ff, 0x0, 0x0, 0x0⟩,
  ⟨.mbCnt, 0x20048, 48, 0x80, 1, 0x0, 0x0, 0x0, 0x0, 0x0⟩,
  ⟨.mbxCtrl, 0x21800, 1, 0x0, 1, 0x0, 0x0, 0x0, 0x0, 0x1⟩,
  ⟨.lock, 0x30000, 256, 0x4, 1, 0x0, 0x0, 0x0, 0x0, 0x0⟩,
  ⟨.lockRel, 0x30400, 256, 0x4, 1, 0x0, 0x0, 0x0, 0x0, 0x1⟩,
  ⟨.lockOwner, 0x30800, 256, 0x4, 1, 0x0, 0x0, 0x0, 0x0, 0x0⟩,
  ⟨.lockWatch, 0x30c00, 8, 0x4, 1, 0x0, 0xffffffff, 0x0, 0x0, 0x0⟩,
  ⟨.lockFreed, 0x30c40, 8, 0x4, 1, 0x0, 0x0, 0xffffffff, 0x0, 0x0⟩,
  ⟨.lockStat, 0x30c20, 1, 0x0, 1, 0x0, 0x0, 0x0, 0x0, 0x0⟩,
  ⟨.lockCtrl, 0x30c24, 1, 0x0, 1, 0x0, 0x0, 0x0, 0x0, 0x1⟩,
  ⟨.intRoute, 0x10000, 256, 0x4, 1, 0x0, 0xbf0f1f07, 0x0, 0x0, 0x0⟩,
  ⟨.intEnSet, 0x10400, 8, 0x4, 1, 0x0, 0x0, 0x0, 0xffffffff, 0x0⟩,
  ⟨.intEnClr, 0x10420, 8, 0x4, 1, 0x0, 0x0, 0xffffffff, 0x0, 0x0⟩,
  ⟨.intPendSet, 0x10440, 8, 0x4, 1, 0x0, 0x0, 0x0, 0xffffffff, 0x0⟩,
  ⟨.intPendClr, 0x10460, 8, 0x4, 1, 0x0, 0x0, 0xffffffff, 0x0, 0x0⟩,
  ⟨.intActive, 0x10480, 8, 0x4, 1, 0x0, 0x0, 0x0, 0x0, 0x0⟩,
  ⟨.prvRoute, 0x11000, 4, 0x100, 32, 0x4, 0xf1f, 0x0, 0x0, 0x0⟩,
  ⟨.prvEnSet, 0x11080, 4, 0x100, 1, 0x0, 0x0, 0x0, 0xffffffff, 0x0⟩,
  ⟨.prvEnClr, 0x11084, 4, 0x100, 1, 0x0, 0x0, 0xffffffff, 0x0, 0x0⟩,
  ⟨.prvPendSet, 0x11088, 4, 0x100, 1, 0x0, 0x0, 0x0, 0xffffffff, 0x0⟩,
  ⟨.prvPendClr, 0x1108c, 4, 0x100, 1, 0x0, 0x0, 0xffffffff, 0x0, 0x0⟩,
  ⟨.prvActive, 0x11090, 4, 0x100, 1, 0x0, 0x0, 0x0, 0x0, 0x0⟩,
  ⟨.hostPm, 0x12000, 1, 0x0, 1, 0x0, 0x0, 0x0, 0x0, 0x1⟩,
  ⟨.hostEoi, 0x12004, 1, 0x0, 1, 0x0, 0x0, 0x0, 0x0, 0xff⟩,
  ⟨.supClaim, 0x12008, 1, 0x0, 1, 0x0, 0x0, 0x0, 0x0, 0x0⟩,
  ⟨.supEoi, 0x1200c, 1, 0x0, 1, 0x0, 0x0, 0x0, 0x0, 0xff⟩,
  ⟨.intErr, 0x12010, 1, 0x0, 1, 0x0, 0x0, 0x0, 0x0, 0x80000000⟩,
  ⟨.vecMod, 0x13000, 64, 0x4, 1, 0x0, 0x80ffffff, 0x0, 0x0, 0x0⟩,
  ⟨.vecStat, 0x13100, 64, 0x4, 1, 0x0, 0x0, 0x0, 0x0, 0x0⟩,
  ⟨.msixAddrLo, 0x1c000, 64, 0x10, 1, 0x0, 0xffffffff, 0x0, 0x0, 0x0⟩,
  ⟨.msixAddrHi, 0x1c004, 64, 0x10, 1, 0x0, 0xffffffff, 0x0, 0x0, 0x0⟩,
  ⟨.msixData, 0x1c008, 64, 0x10, 1, 0x0, 0xffffffff, 0x0, 0x0, 0x0⟩,
  ⟨.msixVctrl, 0x1c00c, 64, 0x10, 1, 0x0, 0x1, 0x0, 0x0, 0x0⟩,
  ⟨.msixPba, 0x1d000, 2, 0x4, 1, 0x0, 0x0, 0x0, 0x0, 0x0⟩,
  ⟨.dmaCtrl, 0x40000, 16, 0x100, 1, 0x0, 0x33, 0x0, 0x0, 0xc⟩]

/-- Register map, part 8: DMA_RING_LO to CALSTAT. -/
def regMap8 : List RegDef := [
  ⟨.dmaRingLo, 0x40004, 16, 0x100, 1, 0x0, 0xffffffff, 0x0, 0x0, 0x0⟩,
  ⟨.dmaRingHi, 0x40008, 16, 0x100, 1, 0x0, 0xffffffff, 0x0, 0x0, 0x0⟩,
  ⟨.dmaRingSize, 0x4000c, 16, 0x100, 1, 0x0, 0xffff, 0x0, 0x0, 0x0⟩,
  ⟨.dmaHead, 0x40010, 16, 0x100, 1, 0x0, 0xffff, 0x0, 0x0, 0x0⟩,
  ⟨.dmaTail, 0x40014, 16, 0x100, 1, 0x0, 0xffff, 0x0, 0x0, 0x0⟩,
  ⟨.dmaShare, 0x40018, 16, 0x100, 1, 0x0, 0x7ff, 0x0, 0x0, 0x0⟩,
  ⟨.dmaStat, 0x4001c, 16, 0x100, 1, 0x0, 0x0, 0x0, 0x0, 0x0⟩,
  ⟨.dmaProg, 0x40020, 16, 0x100, 1, 0x0, 0x0, 0x0, 0x0, 0x0⟩,
  ⟨.dmaErrAddrLo, 0x40024, 16, 0x100, 1, 0x0, 0x0, 0x0, 0x0, 0x0⟩,
  ⟨.dmaErrAddrHi, 0x40028, 16, 0x100, 1, 0x0, 0x0, 0x0, 0x0, 0x0⟩,
  ⟨.dmaErrDir, 0x4002c, 16, 0x100, 1, 0x0, 0x0, 0x0, 0x0, 0x0⟩,
  ⟨.dmaEvt, 0x40030, 16, 0x100, 1, 0x0, 0x0, 0x7, 0x0, 0x0⟩,
  ⟨.dmaIen, 0x40034, 16, 0x100, 1, 0x0, 0x7, 0x0, 0x0, 0x0⟩,
  ⟨.dmaCnt, 0x40038, 16, 0x100, 1, 0x0, 0x0, 0x0, 0x0, 0x0⟩,
  ⟨.dmaGctrl, 0x41000, 1, 0x0, 1, 0x0, 0x0, 0x0, 0x0, 0x1⟩,
  ⟨.fltSeq, 0xe0000, 1, 0x0, 1, 0x0, 0x0, 0x0, 0x0, 0x0⟩,
  ⟨.fltAck, 0xe0004, 1, 0x0, 1, 0x0, 0xffffffff, 0x0, 0x0, 0x0⟩,
  ⟨.fltStat, 0xe0008, 1, 0x0, 1, 0x0, 0x0, 0x0, 0x0, 0x0⟩,
  ⟨.fltSpare, 0xe000c, 1, 0x0, 1, 0x0, 0x0, 0x0, 0x0, 0x0⟩,
  ⟨.fltMem, 0xe0010, 1, 0x0, 1, 0x0, 0x0, 0x0, 0x0, 0x0⟩,
  ⟨.fltScrub, 0xe0014, 1, 0x0, 1, 0x0, 0x0, 0x0, 0x0, 0x0⟩,
  ⟨.fltMemLim, 0xe0018, 1, 0x0, 1, 0x0, 0xffff, 0x0, 0x0, 0x0⟩,
  ⟨.fltEvt, 0xe0020, 1, 0x0, 1, 0x0, 0x0, 0xff, 0x0, 0x0⟩,
  ⟨.fltIen, 0xe0024, 1, 0x0, 1, 0x0, 0xff, 0x0, 0x0, 0x0⟩,
  ⟨.startCtrl, 0xe0840, 1, 0x0, 1, 0x0, 0x0, 0x0, 0x0, 0x3⟩,
  ⟨.startFeedLen, 0xe0850, 1, 0x0, 1, 0x0, 0x3fffff, 0x0, 0x0, 0x0⟩,
  ⟨.startFeedGo, 0xe0854, 1, 0x0, 1, 0x0, 0x0, 0x0, 0x0, 0x1⟩,
  ⟨.startFeed, 0xe0858, 1, 0x0, 1, 0x0, 0x0, 0x0, 0x0, 0x0⟩,
  ⟨.fltMove, 0xe0040, 32, 0x4, 1, 0x0, 0x0, 0x0, 0x0, 0x0⟩,
  ⟨.startRec, 0xe0800, 16, 0x4, 1, 0x0, 0x0, 0x0, 0x0, 0x0⟩,
  ⟨.fltRec, 0xe1000, 64, 0x20, 8, 0x4, 0x0, 0x0, 0x0, 0x0⟩,
  ⟨.calPage, 0xf0000, 1024, 0x4, 1, 0x0, 0x0, 0x0, 0x0, 0x0⟩,
  ⟨.calstat, 0xf1000, 1, 0x0, 1, 0x0, 0x0, 0x0, 0x0, 0x0⟩]

/-- The register map of BAR0: every register of the spec's tables. -/
def regMap : List RegDef :=
  regMap0 ++ regMap1 ++ regMap2 ++ regMap3 ++ regMap4 ++ regMap5 ++ regMap6 ++ regMap7 ++ regMap8

/-- The instance of row `d` that lies at BAR0 offset `off`, if any. -/
def RegDef.at? (d : RegDef) (off : Nat) : Option RegKey :=
  if off < d.base then none
  else
    let r := off - d.base
    let i := if d.s1 = 0 then 0 else r / d.s1
    let r1 := if d.s1 = 0 then r else r % d.s1
    let j := if d.s2 = 0 then 0 else r1 / d.s2
    let r2 := if d.s2 = 0 then r1 else r1 % d.s2
    if i < d.n1 ∧ j < d.n2 ∧ r2 = 0 then some ⟨d.name, i, j⟩ else none

/-- BAR0 offset of instance (i, j) of row `d`. -/
def RegDef.offset (d : RegDef) (i j : Nat) : Nat := d.base + i * d.s1 + j * d.s2

/-- The row of a register name. -/
def RegName.row (n : RegName) : RegDef :=
  (regMap.find? (fun d => d.name == n)).getD ⟨n, 0, 1, 0, 1, 0, 0, 0, 0, 0⟩

/-- The register at a BAR0 offset; none where the map leaves the offset reserved (R7, R304). -/
def regAt (off : Nat) : Option RegKey := regMap.findSome? (fun d => d.at? off)

/-- The BAR0 offset of a register instance. -/
def RegKey.offset (k : RegKey) : Nat := k.name.row.offset k.i k.j

/-- A total order of the register instances, for the canonical form of the register file. -/
def RegKey.ord (k : RegKey) : Nat := (k.name.ctorIdx * 0x40000 + k.i) * 0x400 + k.j

end Sys2Proof.Machine
end

