-- ==== Sys2Proof/Machine/Blocks.lean ====
section
/-! DEFINITION. The blocks of BAR0 (R304) that the registers lie in. -/

namespace Sys2Proof.Machine

/-- A block of the address map (R304). The links and the common part of Mortar are told apart. -/
inductive Block where
  | sys | drone | tile | pins | dom | cal | entry | chanter | gov | log | catalogue | port | mortar | link | mbox | lock | irq | dma | fault | calib
  deriving DecidableEq, Repr

/-- The block a register lies in. -/
def RegName.block : RegName → Block
  | .sysId | .sysRev | .sysCaps0 | .sysCaps1 | .sysCaps2 | .sysCaps3 | .sysAccerr | .sysAccerrAddr | .sysAccerrSrc
  | .sysCtrl | .sysCmdMbox | .sysCmdStat | .sysMgmt | .unitState | .unitReq => .sys
  | .droneNowLo | .droneNowHi | .droneStat | .droneCtrl | .droneEpoch | .droneSlept | .pllStat | .droneIsl
  | .droneVern => .drone
  | .chCtrl | .chPresc | .chCount | .chPeriod | .chCmpa | .chCmpb | .chFrac | .chAct | .chRatio | .chPwmctrl
  | .chAperiod | .chAcmpa | .chAcmpb | .chAfrac | .chAact | .chPwmstat | .chCapLo | .chCapHi | .chCapvLo
  | .chCapvHi | .chStat | .chIen | .chErrcnt | .chEvcnt | .tileCtrl | .tileStart | .tileStop | .tileCommit
  | .tileStartAtLo | .tileStartAtHi | .tileStartArm | .tileStat | .tileSum | .tripCtrlA | .tripCtrlB | .tripBlankA
  | .tripBlankB | .tripLvl | .tripStat | .tripCnt | .tripTimeA | .tripTimeB | .brCtrl | .brDt | .brMinpw | .brStat
  | .folCtrl | .folAngle | .folStat | .slotCtrl | .slotAngle | .slotDelay | .slotClose | .slotGuard => .tile
  | .pmPin | .pmBank | .pmTrip => .pins
  | .domCtrl | .domIn | .domFilt | .domRatio | .domStall | .domDir | .domMirror | .domStat | .domAngle | .domSnapLo
  | .domSnapHi | .domTooth | .domTtime | .domPeriod | .domRate | .domPredErr | .domEvt | .domIen | .domCnt0
  | .domCnt1 | .domCnt2 | .domCnt3 | .domPat0 | .domPat1 | .domPat2 | .domPhRise | .domPhFall | .phmCtrl | .phmWin
  | .phmLast | .phmDev | .phmAvg | .phmStat | .phmNom0 | .phmNom1 | .phmNom2 | .phmNom3 | .phmNom4 | .phmNom5
  | .phmNom6 | .phmNom7 => .dom
  | .calCtrl | .calStat | .calSupnote | .calSupnoteCnt | .calPart | .calDstat | .calEvt | .calIen | .calCqBase
  | .calCqSize | .calCqWr | .calCqRd | .calCnt0 | .calCnt1 | .calCnt2 | .calCnt3 | .calSlotuse => .cal
  | .entryW0 | .entryW1 | .entryW2 | .entryW3 | .entryW4 | .entryW5 | .entryW6 | .entryW7 => .entry
  | .engStat | .engIssue | .engIdle | .engDbg | .csVer | .csPatch | .csPatchId | .csDigest | .csFwKs | .csFwSvc
  | .csStat | .mcLast | .mcTime | .ctxCtrl | .ctxCmd | .ctxStat | .ctxPc | .ctxEntry | .codeBase | .codeSize
  | .dataBase | .dataSize | .tabBase | .tabSize | .ctxIomask | .ctxTilesLo | .ctxTilesHi | .ctxPorts | .ctxNointLim
  | .ctxErrcnt | .ctxIssued | .ctxCause | .ctxFaultPc => .chanter
  | .govCtrl | .govBudgetMw | .govShare | .govFloor | .govPfixed | .govRefill | .govStat | .govTj | .govThresh
  | .govThermFact | .govFc | .govFcLimit | .govFcTime | .govWakeCnt | .govIsl | .govCnt | .govPstateReq
  | .govPstate | .govEvt | .govIen | .govAoCnt | .govAoAlarm | .wwStat | .govDepth | .govLevel | .govDefer | .govTs
  | .govEpi | .govEnergy | .wwSlot => .gov
  | .logCtrl | .logRing | .logWr | .logRd | .logFill | .logThresh | .logWmark | .logFlush | .logStat | .logEvt
  | .logIen | .logReccnt | .logCntMisc | .logCfgerr | .logCnt => .log
  | .catW0 | .catW1 | .catW2 | .catW3 => .catalogue
  | .portCfg | .portCtrl | .portStat | .portSpi | .portSpi2 | .portSent | .portUart | .portTt | .portTtArg
  | .portTtPer | .portTtAtLo | .portTtAtHi | .portDmemBase | .portDmemSize | .portDmemPtr | .portNotify | .portLast
  | .portEvt | .portIen | .portCnt0 | .portCnt1 | .portCnt2 | .portRes | .portScrEntry | .portScript => .port
  | .mlCtrl | .mlDev | .mlStat | .mlOffset | .mlHold | .mlSsAtLo | .mlSsAtHi | .mlSsGo | .mlSsCtrl | .mlSsTilesLo
  | .mlSsTilesHi | .mlSsPorts | .mlMsgqHdr | .mlMsgqVal | .mlMsgqPop | .mlFnLast | .mlFnTime | .mlSsChmask
  | .mlSlockOwner | .mlPmbDst | .mlPmbSrc => .mortar
  | .mlLctrl | .mlLstat | .mlDelay | .mlAsym | .mlCnt0 | .mlCnt1 | .mlEvt | .mlIen => .link
  | .mbData | .mbCtrl | .mbCfg | .mbCnt | .mbxCtrl => .mbox
  | .lock | .lockRel | .lockOwner | .lockWatch | .lockFreed | .lockStat | .lockCtrl => .lock
  | .intRoute | .intEnSet | .intEnClr | .intPendSet | .intPendClr | .intActive | .prvRoute | .prvEnSet | .prvEnClr
  | .prvPendSet | .prvPendClr | .prvActive | .hostPm | .hostEoi | .supClaim | .supEoi | .intErr | .vecMod
  | .vecStat | .msixAddrLo | .msixAddrHi | .msixData | .msixVctrl | .msixPba => .irq
  | .dmaCtrl | .dmaRingLo | .dmaRingHi | .dmaRingSize | .dmaHead | .dmaTail | .dmaShare | .dmaStat | .dmaProg
  | .dmaErrAddrLo | .dmaErrAddrHi | .dmaErrDir | .dmaEvt | .dmaIen | .dmaCnt | .dmaGctrl => .dma
  | .fltSeq | .fltAck | .fltStat | .fltSpare | .fltMem | .fltScrub | .fltMemLim | .fltEvt | .fltIen | .startCtrl
  | .startFeedLen | .startFeedGo | .startFeed | .fltMove | .startRec | .fltRec => .fault
  | .calPage | .calstat => .calib

/-- The unit index of a register (R307); 255 where no unit owns it. A PM_TRIP register counts with its tile. -/
def RegKey.unit (k : RegKey) : Nat :=
  match k.name.block with
  | .tile => k.i
  | .pins =>
    match k.name with
    | .pmPin => 140 + k.i / 32
    | .pmBank => 140 + k.i
    | _ => k.i
  | .dom => 64 + k.i
  | .cal | .entry => 136
  | .port => 84 + k.i
  | .chanter => 80 + k.i
  | .dma => match k.name with | .dmaGctrl => 255 | _ => 120 + k.i
  | .gov => 138
  | .link => 116 + k.i
  | .mortar => 139
  | .catalogue | .log => 137
  | _ => 255

end Sys2Proof.Machine
end

