-- ==== Sys2Proof/Config.lean ====
section
/-! DEFINITION. What the spec leaves open: constants without a body, so that nothing can be proved of their values. Each
is read at State.freeCtr, which steps at every draw (log entry 7). -/

namespace Sys2Proof.Config

/-- A word whose value the spec does not state. -/
opaque freeWord : Nat → BitVec 32

/-- A duration in ns that the spec bounds but does not state (an interruption, R365). -/
opaque freeNs : Nat → Nat

/-- The built-in default of a byte of the calibration page, by its offset (R380, R381): the spec does not state it. -/
opaque defaultCal : Nat → BitVec 8

/-- How many microwords of each energy class (the last argument) the base image's microcode executes for one issue of an opcode,
without the steps of a long instruction (R216, R224): the image is not listed. -/
opaque microwords : Nat → Nat → Nat

/-- The start address of a listed opcode in the base image's dispatch table (R216): likewise. -/
opaque baseStart : Nat → Nat

end Sys2Proof.Config
end

