-- ==== Sys2Proof/Machine/SMap.lean ====
section
/-! DEFINITION. Sparse maps as plain lists in one canonical form: keys strictly rising, and no entry equal to what an
unlisted key reads as. The register file, the memories and every per-unit table of State are such maps. -/

namespace Sys2Proof.Machine

/-- A sparse map: the entries that differ from what an unlisted key reads as. -/
abbrev Table (κ α : Type) := List (κ × α)

/-- What `m` holds at `k`; `d` where `k` is not listed. -/
def Table.get {κ α : Type} [DecidableEq κ] (d : α) : Table κ α → κ → α
  | [], _ => d
  | (j, v) :: r, k => if j = k then v else Table.get d r k

/-- `m` without an entry for `k`. -/
def Table.erase {κ α : Type} [DecidableEq κ] (m : Table κ α) (k : κ) : Table κ α :=
  m.filter (fun e => decide (e.1 ≠ k))

/-- `m` with the entry (k, v) put before the first larger key; `m` has no entry for `k`. -/
def Table.place {κ α : Type} (lt : κ → κ → Bool) (k : κ) (v : α) : Table κ α → Table κ α
  | [] => [(k, v)]
  | (j, w) :: r => if lt k j then (k, v) :: (j, w) :: r else (j, w) :: Table.place lt k v r

/-- `m` with `k` holding `v`, where an unlisted `k` reads `d`. -/
def Table.put {κ α : Type} [DecidableEq κ] [DecidableEq α] (lt : κ → κ → Bool) (d : α) (m : Table κ α) (k : κ) (v : α) :
    Table κ α :=
  if v = d then m.erase k else (m.erase k).place lt k v

/-- The canonical form of a map whose unlisted key `k` reads `d k`. -/
def Table.wf {κ α : Type} [DecidableEq α] (lt : κ → κ → Bool) (d : κ → α) : Table κ α → Bool
  | [] => true
  | (k, v) :: r => decide (v ≠ d k) && r.all (fun e => lt k e.1) && Table.wf lt d r

/-- A map keyed by an instance number. -/
abbrev SMap (α : Type) := Table Nat α

/-- What instance `k` holds. -/
def SMap.at {α : Type} (d : α) (m : SMap α) (k : Nat) : α := Table.get d m k

/-- Instance `k` set to `v`. -/
def SMap.set {α : Type} [DecidableEq α] (d : α) (m : SMap α) (k : Nat) (v : α) : SMap α :=
  Table.put (fun a b => decide (a < b)) d m k v

/-- The canonical form of an instance map with default `d`. -/
def SMap.wf {α : Type} [DecidableEq α] (d : α) (m : SMap α) : Bool :=
  Table.wf (fun a b => decide (a < b)) (fun _ => d) m

end Sys2Proof.Machine
end

