-- ==== Sys2Proof/Machine/State.lean ====
section
/-! DEFINITION. The machine's state as plain data: the register file of BAR0 (RegMap), the memories, and what the spec
makes each unit hold beyond its registers. A map lists only what differs from the value an unlisted instance has. -/

namespace Sys2Proof.Machine

/-- Why the machine stops with a fault: it never does. -/
inductive Fault where
  deriving DecidableEq, Repr

/-- Why a command has no meaning. -/
inductive Refusal where
  /-- Raised by an arm of `exec` for a row whose meaning is not written. Safe: the run stops there. -/
  | notModelled (mnemonic : String)
  deriving DecidableEq, Repr

/-- The parts of the family (R1, R20). -/
inductive Variant where
  | fj4_512 | fj4_384 | fj4_256
  deriving DecidableEq, Repr

/-- A register file: the registers that differ from their reset values. -/
abbrev Regs := Table RegKey Word

/-- Bytes by address, in the canonical form; an unlisted byte reads 0 (log entry 5). -/
abbrev Mem := SMap Byte

/-- What a ball is driven to. -/
inductive Drive where
  | hiz | low | high
  deriving DecidableEq, Repr

/-- What pulls at a ball. -/
inductive Pull where
  | none | down | up
  deriving DecidableEq, Repr

/-- What a channel holds beyond its registers (R57 to R62, R89, R93, R107). -/
structure Chan where
  /-- ACC, 4 bits; at an UPDOWN step to 0 the raw sum until the count leaves 0 (R61, R87). -/
  acc : Nat := 0
  /-- Counting down (R54). -/
  down : Bool := false
  /-- The count of one more (R61, R87) is being made. -/
  hold : Bool := false
  /-- The output level the channel decides, before INV (R59). -/
  level : Bool := false
  /-- The level at the end of the cycle before `cyc` (R59). -/
  prev : Bool := false
  /-- The tile cycle, in ns, of the last decision, and the order of the source that decided (R59). -/
  cyc : Nat := 0
  rank : Nat := 99
  /-- The tile cycle of the last counter step (R54). -/
  stepNs : Nat := 0
  /-- The tile cycle in which PENDING was set, and that of the last hand-over (R93 to R95). -/
  pendNs : Nat := 0
  handNs : Nat := 0
  /-- The output keeps its trip level after a clear until the next source acts (R107). -/
  tripHold : Bool := false
  /-- The PERIOD in force for the present count: after a hand-over at the top the one reached (R94). -/
  top : Nat := 0
  /-- Periods of a BURST still to run; 0: none (R76). -/
  burst : Nat := 0
  /-- The last placed edge and its direction (R60, R61). -/
  edgeAt : Stamp := 0
  edgeUp : Bool := false
  /-- The tile cycle of the last accepted capture edge (R68), and the last landing's stamp (R242). -/
  capNs : Nat := 0
  capPrev : Option Stamp := none
  /-- When the last edge that a pad hold delayed is made (R370). -/
  delayEnd : Stamp := 0
  deriving DecidableEq, Repr

/-- An output edge as a tile launched it (R42): the tile cycle and the tap, the delay code in force (R43), and the correction
by linearity entry and pin skew trim, in ps. -/
structure Launch where
  ns : Nat
  tap : Nat
  code : Nat
  trim : Int
  deriving DecidableEq, Repr

/-- What a bridge pair holds beyond its registers (R100 to R102). -/
structure Bridge where
  /-- The command level. -/
  cmd : Bool := false
  /-- A side waits to rise: which (true: H) and when. -/
  due : Option (Bool × Stamp) := none
  /-- The side that is on rose here. -/
  roseAt : Stamp := 0
  /-- The last fall of a side. -/
  fellAt : Stamp := 0
  /-- A side is kept on to MINPW: which, and until when (R101). -/
  ext : Option (Bool × Stamp) := none
  /-- The active BR_DT and BR_MINPW (R92). -/
  dt : Word := 0
  minpw : Word := 0
  deriving DecidableEq, Repr

/-- What a trip input holds beyond its registers (R104, R106). -/
structure TripIn where
  /-- The filter has accepted the assertion that now stands (R107). -/
  accepted : Bool := false
  /-- The pad instant at which that assertion began. -/
  since : Stamp := 0
  /-- Close of the last blanking window, and whether it is still open. -/
  blankEnd : Stamp := 0
  blanking : Bool := false
  deriving DecidableEq, Repr

/-- What a match slot holds beyond its registers (R74 to R78). -/
structure SlotX where
  /-- The domain of the slot's entry. -/
  dom : Nat := 0
  /-- The tile has judged the target (R74). -/
  judged : Bool := false
  /-- The target, and the close angle of an open slot, in the follower's count. -/
  target : Nat := 0
  closeU : Nat := 0
  /-- The crossing that a load or a tooth update fixed: of the target, and of the close angle. -/
  fire : Option Stamp := none
  close : Option Stamp := none
  /-- The open edge as placed, and as scheduled. -/
  openAt : Stamp := 0
  openDue : Stamp := 0
  /-- Done without an edge (R78). -/
  noEffect : Bool := false
  /-- The calendar has cleared it: the tile cycle of the clear (R77). -/
  clear : Option Nat := none
  /-- An edge of the slot was delayed by a pad hold (R370). -/
  delayed : Bool := false
  deriving DecidableEq, Repr

/-- A segment of an angle trajectory, a domain's or a follower's (R73, R125, R127), from the last change of its course.
Angles are counted in 2^-16 ac and without wrapping: the angle shown is the count modulo the cycle length. -/
structure Traj where
  /-- The angle in cycle `ns`, the ns of the clock at which the segment began. -/
  u : Nat := 0
  ns : Nat := 0
  /-- The step rate S and the cap C. -/
  step : Nat := 0
  cap : Nat := 0
  /-- A FAST run towards V, which has angle `vu` in cycle `vns` and steps at `step` (R127). -/
  fast : Bool := false
  vu : Nat := 0
  vns : Nat := 0
  /-- The angle steps (HALF and SYNC, R120). -/
  run : Bool := false
  /-- The angle before the segment began, where a tooth update began it, and whether it jumped (R75, R127). -/
  pre : Nat := 0
  jumped : Bool := false
  /-- The last cycle whose crossings have been judged. -/
  seen : Nat := 0
  /-- The stamp of the tooth that began it. -/
  te : Stamp := 0
  deriving DecidableEq, Repr

/-- A tooth update on its way to the angle (R127). -/
structure ToothUpd where
  /-- The angle of position P, in 2^-16 ac without wrapping, and its stamp. -/
  pu : Nat
  te : Stamp
  step : Nat
  cap : Nat
  /-- EARLY = FAST holds for it. -/
  fast : Bool
  deriving DecidableEq, Repr

/-- A pattern confirmation in progress (R122, CONFIRM = 1): the position found first and those since. -/
structure Confirm where
  pos : Nat
  left : Nat
  deriving DecidableEq, Repr

/-- What an angle domain holds beyond its registers. -/
structure Dom where
  traj : Traj := {}
  /-- Earlier segments of the trajectory, newest first, as far back as an edge's stamp can lie (R134). -/
  past : List Traj := []
  /-- The stamp of the last accepted real tooth t_p, its position, its angle count, and the positions s to the next
  (R116). -/
  tp : Stamp := 0
  pos : Nat := 0
  pu : Nat := 0
  s : Nat := 1
  /-- The last three per-position periods, T3 first; how many are measured (R126). -/
  t3 : Nat := 0
  t2 : Nat := 0
  t1 : Nat := 0
  periods : Nat := 0
  /-- SEEK: the stamps of the accepted edges of the history, newest first (R122). -/
  hist : List Stamp := []
  /-- SEEK: the candidate's own period; for EXTRA the period before the extra edge (R122). -/
  cand : Option Nat := none
  confirm : Option Confirm := none
  /-- The last active edge and whether it was accepted as a real tooth (R115, R117). -/
  wStart : Stamp := 0
  wTooth : Bool := false
  /-- An extra edge was seen in the present span (R117). -/
  extra : Bool := false
  /-- The angle stamp of the open phase tooth's leading edge (R123). -/
  lead : Option Nat := none
  /-- Contradicting phase teeth in a row, and the last matched tooth (R124, R131). -/
  contra : Nat := 0
  lastPh : Option Nat := none
  /-- The run-time configuration in force: DOM_CTRL, DOM_FILT, DOM_RATIO, DOM_STALL, DOM_DIR as of the last accepted
  primary edge (R119). -/
  ctrl : Word := 0
  filt : Word := 0
  ratio : Word := 0
  stall : Word := 0
  dir : Word := 0
  /-- A tooth update not yet applied, and the last one made (R127). -/
  upd : Option ToothUpd := none
  last : Option ToothUpd := none
  /-- The last accepted primary edge, or mirror message, whatever the state (R130, R137). -/
  lastEdge : Stamp := 0
  /-- Mirror: the source runs under LEAD (R154). -/
  srcLead : Bool := false
  /-- The domain cycle in which REVERSE was entered (R121). -/
  revNs : Nat := 0
  /-- The state before the present one, and the time of the change (R245). -/
  stateWas : Nat := 0
  stateAt : Stamp := 0
  /-- Losses of SYNC, which end an ANGLE WAIT (R177). -/
  losses : Nat := 0
  /-- The filtered deviation accumulators of the four phase-measurement inputs, signed 48 bits (R135). -/
  avg0 : Int := 0
  avg1 : Int := 0
  avg2 : Int := 0
  avg3 : Int := 0
  deriving DecidableEq, Repr

/-- A calendar entry beyond its eight words (R141 to R155). Its occurrence is kept from its first action, or from the
event that ends it, to its record. -/
structure Entry where
  /-- The generation (R142), 1 to 7. -/
  gen : Nat := 1
  /-- The crossing of ANGLE that the next occurrence belongs to, in 2^-16 ac without wrapping (R147). -/
  due : Nat := 0
  /-- The delay after the crossing of θ', in fine ticks (R148). -/
  delay : Nat := 0
  /-- The crossing has been judged by the calendar: its time (R151). -/
  cross : Option Stamp := none
  /-- Waiting for a slot (R150), and staged after such a wait. -/
  waits : Bool := false
  waited : Bool := false
  /-- Its slot was cleared under R78, or it met a hold: it makes no action at its crossing. -/
  noEffect : Bool := false
  /-- Its first action and its last, as placed. -/
  first : Option Stamp := none
  last : Option Stamp := none
  /-- What R153 records: truncated, late, predicted, jumped, and the highest detail. -/
  trunc : Bool := false
  late : Bool := false
  pred : Bool := false
  jumped : Bool := false
  detail : Nat := 0
  /-- The time at which its crossing was judged, and the count crossed, for the error of R129. -/
  judged : Stamp := 0
  target : Nat := 0
  err : Option Int := none
  /-- The span of its first action is still open under LEAD, and its last action is made (R154). -/
  span : Bool := false
  ended : Bool := false
  /-- A trip was latched on the channel at the first action. -/
  trip : Bool := false
  /-- The fabric cycle in which the entry was freed (R142). -/
  freed : Nat := 0
  /-- The crossing of a channel entry that waits for a slot has passed (R150). -/
  passed : Bool := false
  /-- The tile cycle, in ns, of its last action, and the fabric cycle after that in which it ended CANCELLED for a cancel still to
  be answered (R77, R158); kept when the entry is freed. -/
  firedNs : Nat := 0
  cancelled : Nat := 0
  deriving DecidableEq, Repr

/-- What a unit offers to the signal log: source, selector, event value, auxiliary word, stamp (R242). -/
structure Offer where
  src : Nat
  sel : Nat
  value : Word
  aux : Word := 0
  ts : Stamp
  deriving DecidableEq, Repr

/-- A log record made and not yet written (R245). -/
structure LogRec where
  sig : Nat
  cls : Nat
  value : Word
  /-- Word 2, and whether it is an angle or an auxiliary word. -/
  word2 : Word := 0
  ang : Bool := false
  aux : Bool := false
  rem : Bool := false
  snap : Bool := false
  ts : Stamp
  deriving DecidableEq, Repr

/-- What the log keeps of a signal beyond its catalogue entry. -/
structure SigX where
  /-- Its last written value. -/
  written : Word := 0
  /-- A record was written since the entry's last accepted word-0 write and since the log was enabled; a CHANGE has
  triggered; compact records since the last full one (R243, R246). -/
  any : Bool := false
  changed : Bool := false
  compact : Nat := 0
  deriving DecidableEq, Repr

/-- Who queued a port transaction (R266). -/
inductive TxnSrc where
  | time | calendar | task | host | supervisor
  deriving DecidableEq, Repr

/-- A queued port transaction: script, argument, source, the context to notify, the long operation it completes. -/
structure Txn where
  script : Nat
  arg : Word
  src : TxnSrc
  notify : Option Nat := none
  op : Option Nat := none
  /-- The instant of the port island's copy at which it was queued, and its place among those of one port cycle (R272). -/
  came : Stamp := 0
  rank : Nat := 0
  deriving DecidableEq, Repr

/-- Where a transaction restarts after an engine swap (R274): its last XFER or RECV, or its start word; the loop then active, the
chip select then asserted, and whether that operation is done. -/
structure PortCheck where
  pc : Nat
  loop : Option (Nat × Nat) := none
  mark : Stamp
  cs : Nat := 0
  done : Bool := false
  deriving DecidableEq, Repr

/-- A running port transaction (R268). -/
structure PortRun where
  txn : Txn
  /-- The next script word. -/
  pc : Nat
  /-- The active loop: its word and the jumps left. -/
  loop : Option (Nat × Nat) := none
  /-- The loop mark, and the end of the previous operation. -/
  mark : Stamp
  opEnd : Stamp
  /-- The first instant at which an SCLK edge may come, CS_LEAD after the chip select; the last SCLK edge under this chip select;
  whether the previous operation was an XFER (R263). -/
  lead : Stamp
  sclk : Option Stamp := none
  contig : Bool := false
  /-- Where it restarts after a swap; the XFER under way was delivered before the swap, and is not delivered again (R274). -/
  check : PortCheck
  mute : Bool := false
  results : Nat := 0
  swapped : Bool := false
  /-- An ABORT was written, or EN = 0, after which the queue is flushed (R272). -/
  abort : Bool := false
  flush : Bool := false
  deriving DecidableEq, Repr

/-- What a port holds beyond its registers. -/
structure PortX where
  queue : List Txn := []
  run : Option PortRun := none
  /-- UART RX FIFO: byte, start bit, completion; at most 16 (R265). -/
  rx : List (Byte × Stamp × Stamp) := []
  /-- SENT: the latest fast frame and slow message: value, stamp, completion (R268). -/
  fast : Option (Word × Stamp × Stamp) := none
  slow : Option (Word × Stamp × Stamp) := none
  /-- SENT: the last calibration pulse, and the serial bits 2 and 3 gathered, latest last (R264). -/
  calib : Nat := 0
  bits : List (Bool × Bool) := []
  /-- The chip select asserted: 0 none, 1 CS_0, 2 CS_1; when CS last went inactive; the last bit driven on MOSI. -/
  cs : Nat := 0
  csOff : Stamp := 0
  mosi : Bool := false
  /-- When the last transaction ended. -/
  ended : Stamp := 0
  /-- When the last interruption by an engine swap ended (R274). -/
  outTo : Stamp := 0
  /-- The next time trigger (R267). -/
  tt : Option Stamp := none
  deriving DecidableEq, Repr

/-- The link of the PCIe endpoint as the interrupt controller sees it (R302, R346). -/
inductive HostLink where
  | reset | training | up | l1 | l2
  deriving DecidableEq, Repr

/-- A long operation in progress (R315): who asked, and what it completes with. -/
structure LongOp where
  num : Nat
  opcode : Nat
  path : CmdPath
  tag : BitVec 16
  wait : Bool
  quiet : Bool
  target : Nat
  params : List Word
  /-- On a ring, where the reply goes: space, address, bytes, and IRQ of the descriptor (R315). -/
  buf : Nat × Nat × Nat × Bool := (0, 0, 0, false)
  /-- Status and result words, once the operation has finished. -/
  outcome : Option (Nat × List Word) := none
  deriving DecidableEq, Repr

/-- A WAIT in progress (R177, R178): the nesting level and PC it was first issued at, its operands, and its deadline. -/
structure Monitor where
  ilvl : Nat
  pc : Word
  kind : Nat
  arg : Nat
  rd : GReg
  opnd : Word
  /-- The time of the first issue. -/
  since : Stamp
  /-- The end of a DELAY or of a timeout. -/
  deadline : Option Stamp := none
  /-- ANGLE: the crossing waited for, in 2^-16 ac without wrapping, and the count of the domain's losses of SYNC. -/
  due : Nat := 0
  losses : Nat := 0
  deriving DecidableEq, Repr

/-- What the reply to a fabric request will do to its context (R166): registers to write, the new SP, the new PC. -/
structure Reply where
  regs : List (GReg × Word) := []
  sp : Option Word := none
  pc : Word
  /-- Condition codes Z and N are not touched by any of these. The request is one that a stop waits for (R192). -/
  unit : Bool := false
  /-- A LOCK or WAIT LOCK on a system lock: the reply comes from the root (R295). -/
  sysLock : Option Nat := none
  deriving DecidableEq, Repr

/-- A fault on its way to Keystone (R205): its code, its PC, and for MC_MEMORY the address. -/
structure CtxFault where
  code : Nat
  pc : Word
  addr : Nat := 0
  deriving DecidableEq, Repr

/-- A machine check that waits for the resume of a halted engine (R195): the local context, the word that failed with whether
its golden copy is correctable, or none for a lockstep mismatch. -/
structure HeldCheck where
  l : Nat
  word : Option (Nat × Bool)
  deriving DecidableEq, Repr

/-- A parked TRAP (R207): the nesting level and PC it was issued at, its call, the packet of a CMD not yet carried out with
its opcode, the reply buffer and its words, and the answer once there is one: status and result. -/
structure TrapCall where
  ilvl : Nat
  pc : Word
  call : Nat
  pk : Option (Packet × Nat) := none
  buf : Nat := 0
  size : Nat := 0
  answer : Option (Nat × Word) := none
  deriving DecidableEq, Repr

/-- What a context holds beyond its registers (R167 to R179). CTX_STAT keeps its state code. -/
structure Ctx where
  pc : Word := 0
  sp : Word := 0
  psw : Word := 0x1000
  cause : Word := 0
  prog : Word := 0
  /-- The event queue, oldest first: value and tag word, at most 8 (R179). -/
  evq : List (Word × Word) := []
  /-- WAITs in progress, innermost first (R178). -/
  mons : List Monitor := []
  out : Option Reply := none
  fault : Option CtxFault := none
  /-- NOINT was set at this time (R204). -/
  nointAt : Stamp := 0
  /-- A stop was asked for and waits (R192). -/
  stopping : Bool := false
  /-- The next instruction may issue from this time on (R166). -/
  readyAt : Stamp := 0
  /-- TRAPs parked and not yet completed, innermost first (R207). -/
  traps : List TrapCall := []
  deriving DecidableEq, Repr

/-- What a Mortar link holds beyond its registers (R278 to R288). -/
structure Link where
  /-- The number of the next frame sent, and the frames not yet acknowledged: number, frame, times sent. -/
  txSeq : Nat := 0
  unacked : List (Nat × MFrame × Nat) := []
  /-- Frames that wait for their turn, first to be sent first (R280). -/
  txq : List MFrame := []
  /-- The number the next good frame carries. -/
  rxSeq : Nat := 0
  /-- When the link last carried something, and when the oldest frame without an ACK was last sent. -/
  lastTx : Stamp := 0
  ackAt : Stamp := 0
  /-- The other end's role, root flag and joined flag (R281). -/
  peerRole : Nat := 3
  peerRoot : Bool := false
  peerJoined : Bool := false
  /-- The last beacon sent: its launch stamp; the last received: launch and arrival (R285, R286). -/
  sentBeacon : Stamp := 0
  beacon : Option (Stamp × Stamp) := none
  /-- Beacons received since the last DELAY exchange, and DELAY exchanges since the link came up. -/
  beacons : Nat := 0
  total : Nat := 0
  exchanges : Nat := 0
  /-- The beacon interval of the last reroute to this link (R298). -/
  rerouteIv : Option Nat := none
  /-- The last ACK or NAK that this end sent: whether a NAK, and its SEQ (R279). -/
  answer : Option (Bool × Nat) := none
  deriving DecidableEq, Repr

/-- What a DMA channel holds beyond its registers (R351 to R363). -/
structure Dma where
  /-- The descriptor being processed, as it was fetched. -/
  desc : List Word := []
  /-- COMPARE: a difference was found, at the count of bytes done. -/
  diff : Bool := false
  /-- The fabric cycle, plus 1, of the last write of PAUSE, and its master's place in the lock order (R364). -/
  pausedBy : Nat × Nat := (0, 0)
  /-- The earliest start of the next burst (R359). -/
  ready : Stamp := 0
  /-- A doorbell that came while the channel could not fetch (R358, R364). -/
  bell : Bool := false
  /-- COMMAND: the service firmware has taken the packet; its reply, kept (R362), and the operation waited for (R313). -/
  taken : Bool := false
  reply : List Word := []
  waits : Option Nat := none
  /-- A log drain descriptor: when the oldest record in it was written, and that it is closed (R251). -/
  oldest : Stamp := 0
  closed : Bool := false
  deriving DecidableEq, Repr

/-- The instructions of the TAP (R399). -/
inductive JtagInstr where
  | idcode | bypass | samplePreload | extest | clamp | highz | engDebug
  deriving DecidableEq, Repr

/-- A power-state request under way (R235, R236): the state asked for, FORCE, whether the host asked, whether the checks
are still to be made (R372), and the long operation it completes. -/
structure PwrReq where
  target : Nat
  force : Bool
  host : Bool
  unchecked : Bool
  op : Option Nat
  deriving DecidableEq, Repr

set_option maxRecDepth 1024 in
/-- The machine. A field's docstring gives what it holds, the rule that names it and its value at reset. -/
structure State where
  /-- Which part it is (R1, R20); at reset FJ4-512 (log entry 1). -/
  variant : Variant := .fj4_512
  /-- Fuses OWNER_KEY and OWNER_SIGN (SYS_CAPS_2); 0 (log entry 1). -/
  ownerKey : Bool := false
  ownerSign : Bool := false
  /-- The Drone master count, 64 bits (R29, R30); 0. -/
  now : Stamp := 0
  /-- The quarter ticks carried by the Nap advance, 2 bits (R39); 0. -/
  aoRem : Nat := 0
  /-- By how many fine ticks the Drone copy of each island of DRONE_ISL is ahead of the master (R33, R35); 0. -/
  copies : SMap Int := []
  /-- The last beacon sent: master bits [41:10] in Gray code (R32); 0. -/
  beacon : Word := 0
  /-- Trims are in force: start step S7 has been made (R33, R44, R380); no. -/
  trimmed : Bool := false
  /-- Islands whose copy strayed: when it was found and by how much (R368); none. -/
  stray : SMap (Option (Stamp × Int)) := []
  /-- The always-on count noted at Nap entry (R39); 0. -/
  aoEntry : Word := 0
  /-- Every register of BAR0 that does not read its reset value (R304); none. -/
  regs : Regs := []
  /-- The linked-read latch of each master, 32 bits (R47, R48): host 0, supervisor 1, context x 2 + x, DMA channel c
  130 + c; 0. -/
  latch : SMap Word := []
  /-- The data that each master's last register read returned, numbered as `latch`; 0 (the model's own field). -/
  lastRead : SMap Word := []
  /-- The bytes that the last BAR2 read returned (R305); none (the model's own field). -/
  barData : List Byte := []
  /-- The second word that the host's last 64-bit read returned (R49); 0 (the model's own field). -/
  readHi : Word := 0
  /-- The channels beyond their registers, by global channel number 8t + c (R54). -/
  chans : SMap Chan := []
  /-- The bridge pairs, by 4t + pair (R99). -/
  bridges : SMap Bridge := []
  /-- The trip inputs, by 2t, and 2t + 1 for B (R104). -/
  trips : SMap TripIn := []
  /-- The match slots beyond their registers, by 16t + slot (R74). -/
  slots : SMap SlotX := []
  /-- The followers, by 4t + f (R73). -/
  fols : SMap Traj := []
  /-- Since when each tile's clock or state stands still (R85, R86, R370); running. -/
  stopAt : SMap (Option Stamp) := []
  /-- The followers whose domain changed its course while their tile stood still, by 4t + f, rising (R73, R85); none. -/
  folMiss : List Nat := []
  /-- The switchover in progress of each tile: h0 (R370); none. -/
  switching : SMap (Option Stamp) := []
  /-- The last pad hold of each tile, from h0 to h1, while edges are still delayed by it (R370). -/
  holdSpan : SMap (Option (Stamp × Stamp)) := []
  /-- What a closed pad latch holds each pin at, by TIO number (R83); none closed. -/
  padHold : SMap (Option Drive) := []
  /-- What each output pin of a tile frozen by a debug halt keeps (R85), and whether that is a SAFE level; none frozen. -/
  pinStill : SMap (Option (Drive × Bool)) := []
  /-- The last edge launched onto each output pin (R42); none. -/
  launched : SMap (Option Launch) := []
  /-- Since when the tile clocks stand in Doze or deeper (R86), and the last such stays, latest first (R111); running. -/
  clockStop : Option Stamp := none
  stays : List (Stamp × Stamp) := []
  /-- The logic level at each TIO ball, by TIO number (PM_PIN.LEVEL); low (log entry 6). -/
  pinIn : SMap Bool := []
  /-- The Courses whose bank had no supply at S2, rising: their pins drive and read nothing until the next cold start (R388);
  none. -/
  unsensed : List Nat := []
  /-- The level of WAKE_IN (0), activity on MLINK k (1 + k), and MG_CS# low (5), as the wake watcher sees them (R239); low. -/
  lines : SMap Bool := []
  /-- The accepted edges each consumer has not yet taken, oldest first: stamp and level (R115), by consumer number. -/
  edges : SMap (List (Stamp × Bool)) := []
  /-- The angle domains beyond their registers (R112). -/
  doms : SMap Dom := []
  /-- The calendar entries beyond their words (R141). -/
  entries : SMap Entry := []
  /-- The status and result of the calendar's last decision (R145, R158, R159), and the fabric cycle in which it issued
  last (R151). -/
  calAnswer : Nat × Word := (0, 0)
  /-- The fabric cycle of the calendar's last decision, and its place in the lock order (R146). -/
  calTurn : Nat × Nat := (0, 0)
  calIssue : Nat := 0
  /-- What sources have offered to the log and it has not yet judged, oldest first (R242). -/
  offers : List Offer := []
  /-- The value and the auxiliary word of the last event of each source (R242), by evKey; 0. -/
  lastEv : SMap (Word × Word) := []
  /-- The last record in the ring is a MARK (R246); no. -/
  afterMark : Bool := false
  /-- A class drops because of the ring, and because of the input queue, until there is room again (R252); no. -/
  dropping : SMap (Bool × Bool) := []
  /-- The log's input queue, at most 1,024 records (R252). -/
  logQ : List LogRec := []
  /-- The signals beyond their entries. -/
  sigs : SMap SigX := []
  /-- The records in the ring that are not drained: index, bytes, time of writing (R250, R251). -/
  logRecs : List (Nat × Nat × Stamp) := []
  /-- The stamp of the last record in the ring, that of the last MARK that fell due, and the number of the next (R246,
  R247). -/
  logLast : Stamp := 0
  markAt : Stamp := 0
  markSeq : Nat := 0
  /-- When the RATE sampler is free (R243). -/
  sampler : Stamp := 0
  /-- The ports beyond their registers. -/
  portX : SMap PortX := []
  /-- The general registers, by 16 x + r for context x, 32 bits each (R167); 0. -/
  gpr : SMap Word := []
  /-- The contexts beyond their registers (R164). -/
  ctxs : SMap Ctx := []
  /-- The local context that issued last at each priority, by 16 e + priority (R165). -/
  lastIssue : SMap Nat := []
  /-- The next cycle in which each engine can issue (R165); 0. -/
  cycleAt : SMap Stamp := []
  /-- The bucket levels of C1 to C3 in 1/32 pJ (R223), and the energy charged to each class short of the next µJ of
  GOV_ENERGY, in 1/16 pJ (R224); 0. -/
  govFine : SMap Int := []
  govRem : SMap Nat := []
  /-- The admission flags of each engine, bit k for class Ck (R224); 0. -/
  admits : SMap Nat := []
  /-- What the instructions of each engine and class have been charged since the engine's last refresh, in 1/16 pJ, by 4 e + class,
  and when that was (R224); 0. -/
  unsettled : SMap Nat := []
  settledAt : SMap Stamp := []
  /-- What C1 to C3 have drawn since the last forecast, and in the intervals between the nine before it, latest first, in 1/16 pJ
  (R232); 0. -/
  drawNow : Nat := 0
  drawPast : List Nat := []
  /-- When a context of each engine last issued, received a reply or changed its state, and when the conditions of R84 last came to
  hold of each Course (R233, R234); 0. -/
  busyAt : SMap Stamp := []
  courseAt : SMap Stamp := []
  /-- The fine ticks by which the master has been stepped while no engine clock ran (R39, R288), which ENG_IDLE does not count; 0. -/
  idleOff : Nat := 0
  /-- Bad readings in a row, and good ones, of each die sensor (R231); 0. -/
  sensors : SMap (Nat × Nat) := []
  /-- The power-state request under way (R235); none. A wake is latched in a low-power state (R237). -/
  pwrReq : Option PwrReq := none
  waking : Bool := false
  /-- The scrubber's last word, memory and index, and the corrections of the present pass (R367, R374); none. -/
  scrubPos : Nat × Nat := (0, 0)
  passCorr : Nat := 0
  /-- Lockstep mismatches of each engine, latest first (R369); none. -/
  lockTimes : SMap (List Stamp) := []
  /-- A start that waits in S5 for a host-fed image, whether it is warm, and since when (R379); none. -/
  startWait : Option (StartObs × Bool) := none
  feedAt : Stamp := 0
  /-- START_CTRL.CLR_STRAT was written (R376), kept in the always-on domain with the digest of the image of the last cold
  start (R377, as `StartObs.digest` tells it); no, 0. -/
  clrStrat : Bool := false
  imageDigest : BitVec 256 := 0
  /-- FL_RESET# is released, and the boot flash is read in the quad profile (R398); the profile is kept in the always-on domain
  (R377); no. -/
  flashUp : Bool := false
  flashQuad : Bool := false
  /-- The PCIe endpoint has been released by S9 (R375), and the image's subsystem IDs (R301, R378); no, 0. -/
  epUp : Bool := false
  subsys : Word := 0
  /-- The Drone time at which GOV_AO_CNT held the count that the register keeps (R240, log entry 29); 0. -/
  aoAt : Stamp := 0
  /-- The DMA channels beyond their registers. -/
  dmas : SMap Dma := []
  /-- The DMA channel whose burst was served last (R360); 0. -/
  dmaLast : Nat := 0
  /-- What patches have put into the control stores and golden copies (R216 to R219), 4 words by 8,192 e + address, and
  into the dispatch tables, by 256 e + opcode; the base image, which the spec does not list, stands as []; none. -/
  micro : SMap (List Word) := []
  dispatch : SMap (Option Word) := []
  /-- The golden copies of both (R213), and the golden words lost until they are written: 16,384 e + address, with 8,192 added
  for a dispatch entry, rising (R367); as the stores, none. -/
  golden : SMap (List Word) := []
  goldenDispatch : SMap (Option Word) := []
  goldenLost : List Nat := []
  /-- Until when each engine is held for a patch (R219); 0. -/
  patchEnd : SMap Stamp := []
  /-- Machine checks raised on a halted engine, first one first (R195); none. -/
  heldChecks : SMap (List HeldCheck) := []
  /-- The parity repairs of each engine, latest first: address, with 8,192 added for a dispatch entry, and time (R212). -/
  repairs : SMap (List (Nat × Stamp)) := []
  /-- The TAP's instruction, the boundary register as preloaded, and what it sampled last (R399); IDCODE, empty. -/
  jtag : JtagInstr := .idcode
  boundary : List Bool := []
  scanned : List Bool := []
  /-- The 2 KiB retained scratch of the always-on domain (the table of islands in 01, the ladder in 09); every byte 0 (log
  entry 5). -/
  scratch : Mem := []
  /-- The Mortar links beyond their registers. -/
  links : SMap Link := []
  /-- The link towards each device below (R283); none. -/
  routes : SMap (Option Nat) := []
  /-- The message queue, oldest first: code, sender, payload, at most 16 (R295). -/
  msgQ : List (Nat × Nat × Word) := []
  /-- Frames that wait for a path (R298); none. -/
  parked : List MFrame := []
  /-- The slew that the last beacon asked of the master, signed fine ticks in 1,024 ns (R287); 0. -/
  slew : Int := 0
  /-- Since when the device coasts (R289). -/
  coastAt : Stamp := 0
  /-- The root's queue for each system lock: device and context, oldest first (R295); none. -/
  slockQ : SMap (List (Nat × Nat)) := []
  /-- Records of each KIND since cold start (R373). -/
  fltTotal : SMap Nat := []
  /-- Records acknowledged: one above the highest index acknowledged, 0 before the first (R374). -/
  fltAcked : Nat := 0
  /-- The units that UNIT_SET has paused, rising (R309); none. -/
  paused : List Nat := []
  /-- The units that Keystone has marked failed, rising (R308); none. -/
  failed : List Nat := []
  /-- The logical places, tile t or 64 + p for a port, that a spare holds, with the physical number (R52, R274); none. -/
  spares : SMap (Option Nat) := []
  /-- The time, master count, at which each mailbox's GO was set (R330). -/
  goAt : SMap Stamp := []
  /-- To whom each ACTIVE source was delivered (R340, R348): context x as x, the host as 128, the supervisor as 129; none
  as 130. Sources 256 + 32 e + p are private ones. -/
  takenBy : SMap Nat := []
  /-- The time of the first event counted by each vector since its last issue (R345). -/
  vecFirst : SMap Stamp := []
  /-- The fabric cycle, plus 1, in which a mailbox's GO last changed, and what it was before (R333). -/
  goOld : SMap (Nat × Bool) := []
  /-- The fabric cycle, plus 1, in which a shared source was last completed (R348). -/
  doneAt : SMap Nat := []
  /-- MSI-X enable and function mask (R345); off (log entry 2). -/
  msixOn : Bool := false
  msixMask : Bool := false
  /-- The PCIe link (l2 stands for L2 and L3) and the function's power state D3hot (R346); in reset, D0. -/
  hostLink : HostLink := .reset
  d3hot : Bool := false
  /-- WAKE# is asserted (R346); released. -/
  wakePin : Bool := false
  /-- The replies that wait on each mailbox channel, 0-15 host, 16-17 supervisor, oldest first (R318); none. -/
  replies : SMap (List (List Word)) := []
  /-- Long operations in progress, oldest first, and the number the next one takes (R315); none. -/
  longOps : List LongOp := []
  longNext : Nat := 0
  /-- The response to the last management frame that was no NOP: status, data, address (R322); NONE. -/
  mgmtResp : Nat × Word × Nat := (6, 0, 0)
  /-- The response that MG_MISO carried during the last frame (R322); status NONE. -/
  mgmtOut : Nat × Word × Nat := (6, 0, 0)
  /-- Task memory by byte offset, 4 MiB (R170); every byte reads 0 until written (log entry 5). -/
  taskMem : Mem := []
  /-- Task memory words, by byte offset, that are uncorrectable until written, rising; none (R367). -/
  badTm : List Nat := []
  /-- Script words, by 256 p + w, likewise; none (R367). -/
  badScript : List Nat := []
  /-- Log store by byte offset, 16 or 8 MiB (R249); as task memory. -/
  logMem : Mem := []
  /-- Host memory as the FJ4 reaches it by PCIe, by address (R349); as task memory. -/
  hostMem : Mem := []
  /-- The counter that free values are drawn by (the model's own field); 0 (DESIGN CHOICE, log entry 7). -/
  freeCtr : Nat := 0
  /-- The commands that wait, first in, first out; none. -/
  pending : List Instr := []
  deriving DecidableEq, Repr

/-- Reset value of register (i, j) of a name: the value the spec gives for reset, and else 0 (log entries 2 to 4). -/
def RegKey.reset (v : Variant) (k : RegKey) : Word :=
  match k.name with
  | .pmPin => 0x2400
  | .domRatio => 0x8246B428
  | .domStall => 0x0186A004
  | .domCtrl => 0x20
  | .domPat1 => 0x403C80
  | .calStat => 0x2000
  | .calPart =>
    let n := match v with | .fj4_512 => 16 | .fj4_384 => 12 | .fj4_256 => 8
    if k.i < n then toW (k.i * 512 + 512 * 0x10000) else 0
  | .calCqSize => 4
  | .entryW6 => toW (8192 + k.i)
  | .ctxCtrl => if k.j = 0 then 0x3F else if k.j ≤ 2 then 0x7F else 0xBF
  | .ctxStat => 0xF0
  | .govCtrl => 3
  | .govBudgetMw => 0x27102710
  | .govShare => 0x404080
  | .govFloor => 100
  | .govDepth => if k.i = 0 then 500 else 200
  | .govThresh => 0x05877D6E
  | .govThermFact => 0x004080C0
  | .govEpi =>
    match k.i with
    | 0 => 0 | 1 => 0x280 | 2 => 0x500 | 3 => 0x640 | 4 => 0x960 | 5 => 0x780 | 6 => 0xC80 | _ => 0x1900
  | .logRing => match v with | .fj4_512 => 24 | _ => 23
  | .logThresh => 0x08F8E0C0
  | .logFlush => 10000
  | .portStat => toW (k.i * 0x10000)
  | .portSpi => 1023
  | .portSent => 0x181E
  | .portUart => 512
  | .portTtPer => 1000
  | .mlHold => 10
  | .sysCmdMbox => 0x1000F
  | .mbCfg =>
    if 16 ≤ k.i ∧ k.i < 32 then toW ((192 + (k.i - 16)) * 0x10000 + 0x1000000)
    else if k.i = 34 ∨ k.i = 35 then toW ((208 + (k.i - 34)) * 0x10000 + 0x1000000)
    else 0
  | .intRoute => 0xF0004
  | .prvRoute => 0xF00
  | .dmaShare => 0x700
  | .fltMemLim => 64
  | .msixVctrl => 1
  | _ => 0

/-- The machine right after reset. -/
def State.reset : State := {}

end Sys2Proof.Machine
end

