-- ==== Sys2Proof/Machine/Ops.lean ====
section
/-! DEFINITION. The named operations over registers, memories, time and the per-unit tables, and the counts of the
parts (R20). -/

namespace Sys2Proof.Machine

/-- Sets a register in a file whose unlisted registers read their reset value. -/
def Regs.set (v : Variant) (m : Regs) (k : RegKey) (w : Word) : Regs :=
  Table.put (fun a b => decide (a.ord < b.ord)) (k.reset v) m k w

/-- The word a register holds. -/
def State.rd (s : State) (n : RegName) (i : Nat := 0) (j : Nat := 0) : Word :=
  Table.get (RegKey.reset s.variant ⟨n, i, j⟩) s.regs ⟨n, i, j⟩

/-- A register set, whatever its access type: how the hardware itself writes. -/
def State.wr (s : State) (n : RegName) (w : Word) (i : Nat := 0) (j : Nat := 0) : State :=
  { s with regs := s.regs.set s.variant ⟨n, i, j⟩ w }

/-- A field of a register. -/
def State.fld (s : State) (n : RegName) (lo len : Nat) (i : Nat := 0) (j : Nat := 0) : Nat := getF (s.rd n i j) lo len

/-- A bit of a register. -/
def State.flag (s : State) (n : RegName) (b : Nat) (i : Nat := 0) (j : Nat := 0) : Bool := getB (s.rd n i j) b

/-- A field of a register set. -/
def State.setFld (s : State) (n : RegName) (lo len v : Nat) (i : Nat := 0) (j : Nat := 0) : State :=
  s.wr n (putF (s.rd n i j) lo len v) i j

/-- A bit of a register set. -/
def State.setFlag (s : State) (n : RegName) (b : Nat) (v : Bool) (i : Nat := 0) (j : Nat := 0) : State :=
  s.wr n (putB (s.rd n i j) b v) i j

/-- A saturating counter steps. -/
def State.bump (s : State) (n : RegName) (lo len : Nat) (i : Nat := 0) (j : Nat := 0) (k : Nat := 1) : State :=
  s.wr n (addSat (s.rd n i j) lo len k) i j

/-- A wrapping counter steps. -/
def State.bumpW (s : State) (n : RegName) (lo len : Nat) (i : Nat := 0) (j : Nat := 0) (k : Nat := 1) : State :=
  s.setFld n lo len (s.fld n lo len i j + k) i j

/-- Whole register cleared. -/
def State.clr (s : State) (n : RegName) (i : Nat := 0) (j : Nat := 0) : State := s.wr n 0 i j

/-- `f` done for each number of a list, in order. -/
def State.each (s : State) (l : List Nat) (f : State → Nat → State) : State := l.foldl f s

/-- `f` done where `b` holds. -/
def State.when (s : State) (b : Bool) (f : State → State) : State := if b then f s else s

/-- The power state (GOV_PSTATE.STATE): 0 Run to 5 Keep-alive. -/
def State.pstate (s : State) : Nat := s.fld .govPstate 0 3

/-- The count that the master shows at time `ts`: until the PLL locks it only counts REFCLK edges, 640 fine ticks each (R30). -/
def State.countAt (s : State) (ts : Stamp) : Stamp :=
  if s.flag .droneStat 0 then ts else BitVec.ofNat 64 (ts.toNat / 640 * 640)

/-- The master's time reaches `ts`: the count never goes back (R36), and holds in Nap and deeper (R39). -/
def State.reach (s : State) (ts : Stamp) : State :=
  { s with now := if s.now.toNat < (s.countAt ts).toNat ∧ s.pstate < 3 then s.countAt ts else s.now }

/-! The islands that hold a copy of the Drone (R15, DRONE_ISL): tile t as t, a spare place as 64 or 65, and these. An event
is stamped with the copy of its island; the master's own time is the copy's less what the copy is ahead. -/

def islDomain : Nat := 80
def islEngine (e : Nat) : Nat := 84 + e
def islFabric : Nat := 88
def islPort : Nat := 89
def islMortar : Nat := 90
/-- The Drone island, which holds the master itself. -/
def islMaster : Nat := 128

/-- What an island's copy is ahead of the master. -/
def State.ahead (s : State) (i : Nat) : Int := s.copies.at 0 i
def State.setAhead (s : State) (i : Nat) (d : Int) : State := { s with copies := s.copies.set 0 i d }

/-- The copy of island i at present (R15). -/
def State.clock (s : State) (i : Nat) : Stamp := BitVec.ofInt 64 (Int.ofNat s.now.toNat + s.ahead i)

/-- The fabric cycle, of 2 ns, that holds an instant, and the present one. -/
def fabCycle (t : Stamp) : Nat := t.toNat / 32
def State.fabNow (s : State) : Nat := fabCycle (s.clock islFabric)

/-- The master's time at which the copy of island i shows `ts`. -/
def State.masterAt (s : State) (i : Nat) (ts : Stamp) : Stamp := BitVec.ofNat 64 (Int.ofNat ts.toNat - s.ahead i).toNat

/-- Time reaches `ts` by the copy of island i. -/
def State.reachIn (s : State) (i : Nat) (ts : Stamp) : State := s.reach (s.masterAt i ts)

/-- One period of the master's clock passes: 16 fine ticks at 1 GHz, 640 at the reference clock (R30). A device that follows a
root adds 15 or 17 in the first cycle after each 64 ns while its beacons ask for it (R41). -/
def State.tick (s : State) : State :=
  if !s.flag .droneStat 0 then s.reach (s.now + 640)
  else if s.slew ≠ 0 ∧ (s.now.toNat + 16) / 1024 ≠ s.now.toNat / 1024 ∧ s.pstate < 3 then
    let up := decide (0 < s.slew)
    { s.reach (s.now + (if up then 17 else 15)) with slew := if up then s.slew - 1 else s.slew + 1 }
  else s.reach (s.now + 16)

/-- The master is stepped forward to `t`, with no cycle of its clock in between (R39, R288). -/
def State.stepTo (s : State) (t : Stamp) : State := { s with now := t, idleOff := s.idleOff + (t.toNat - s.now.toNat) }

/-- Engine e is held for a patch, which CS_STAT.PATCHING shows (R219). -/
def State.patching (s : State) (e : Nat) : Bool := decide (s.now.toNat < (s.patchEnd.at 0 e).toNat)

/-- Engine e is at work at present (R233). -/
def State.touch (s : State) (e : Nat) : State := { s with busyAt := s.busyAt.set 0 e s.now }

/-- In Still and Doze an event of R237 latches a wake. -/
def State.wakeUp (s : State) : State := if s.pstate = 1 ∨ s.pstate = 2 then { s with waking := true } else s

/-- Whole nanoseconds of a stamp (R29). -/
def nsOf (t : Stamp) : Nat := t.toNat / 16

/-- Fine part of a stamp (R29). -/
def fineOf (t : Stamp) : Nat := t.toNat % 16

/-- Microseconds between two stamps. -/
def usBetween (a b : Stamp) : Nat := (b.toNat - a.toNat) / 16000

/-- A free value is drawn: the counter it is read at steps on. -/
def State.drawn (s : State) : State := { s with freeCtr := s.freeCtr + 1 }

/-! The counts of R20. -/

def State.tiles (s : State) : Nat := match s.variant with | .fj4_512 => 64 | .fj4_384 => 48 | .fj4_256 => 32
def State.courses (s : State) : Nat := s.tiles / 8
def State.pins (s : State) : Nat := s.tiles * 4
def State.domains (s : State) : Nat := s.tiles / 4
def State.engines (s : State) : Nat := s.tiles / 16
def State.ports (s : State) : Nat := s.tiles / 2
def State.linkCount (s : State) : Nat := match s.variant with | .fj4_256 => 2 | _ => 4
def State.spareTiles (s : State) : Nat := match s.variant with | .fj4_256 => 1 | _ => 2
def State.logSize (s : State) : Nat := match s.variant with | .fj4_512 => 0x1000000 | _ => 0x800000
/-- Bridge pairs and trip inputs are fitted (R24). -/
def State.hasBridge (s : State) : Bool := match s.variant with | .fj4_256 => false | _ => true

/-! The per-unit tables. -/

def State.chan (s : State) (g : Nat) : Chan := s.chans.at {} g
def State.setChan (s : State) (g : Nat) (c : Chan) : State := { s with chans := s.chans.set {} g c }
def State.onChan (s : State) (g : Nat) (f : Chan → Chan) : State := s.setChan g (f (s.chan g))
def State.bridge (s : State) (b : Nat) : Bridge := s.bridges.at {} b
def State.setBridge (s : State) (b : Nat) (x : Bridge) : State := { s with bridges := s.bridges.set {} b x }
def State.trip (s : State) (k : Nat) : TripIn := s.trips.at {} k
def State.setTrip (s : State) (k : Nat) (x : TripIn) : State := { s with trips := s.trips.set {} k x }
def State.slotX (s : State) (k : Nat) : SlotX := s.slots.at {} k
def State.setSlotX (s : State) (k : Nat) (x : SlotX) : State := { s with slots := s.slots.set {} k x }
def State.fol (s : State) (k : Nat) : Traj := s.fols.at {} k
def State.setFol (s : State) (k : Nat) (x : Traj) : State := { s with fols := s.fols.set {} k x }
def State.dom (s : State) (d : Nat) : Dom := s.doms.at {} d
def State.setDom (s : State) (d : Nat) (x : Dom) : State := { s with doms := s.doms.set {} d x }
def State.onDom (s : State) (d : Nat) (f : Dom → Dom) : State := s.setDom d (f (s.dom d))
def State.entry (s : State) (e : Nat) : Entry := s.entries.at {} e
def State.setEntry (s : State) (e : Nat) (x : Entry) : State := { s with entries := s.entries.set {} e x }
def State.onEntry (s : State) (e : Nat) (f : Entry → Entry) : State := s.setEntry e (f (s.entry e))
def State.latchOf (s : State) (m : Nat) : Word := s.latch.at 0 m
def State.setLatch (s : State) (m : Nat) (w : Word) : State := { s with latch := s.latch.set 0 m w }
def State.readOf (s : State) (m : Nat) : Word := s.lastRead.at 0 m
def State.setRead (s : State) (m : Nat) (w : Word) : State := { s with lastRead := s.lastRead.set 0 m w }
def State.edgesOf (s : State) (c : Nat) : List (Stamp × Bool) := s.edges.at [] c
def State.setEdges (s : State) (c : Nat) (l : List (Stamp × Bool)) : State := { s with edges := s.edges.set [] c l }
def State.repliesOf (s : State) (c : Nat) : List (List Word) := s.replies.at [] c
def State.setReplies (s : State) (c : Nat) (l : List (List Word)) : State := { s with replies := s.replies.set [] c l }

def State.ctx (s : State) (x : Nat) : Ctx := s.ctxs.at {} x
def State.setCtx (s : State) (x : Nat) (c : Ctx) : State := { s with ctxs := s.ctxs.set {} x c }
def State.onCtx (s : State) (x : Nat) (f : Ctx → Ctx) : State := s.setCtx x (f (s.ctx x))
def State.g (s : State) (x : Nat) (r : GReg) : Word := s.gpr.at 0 (16 * x + r.val)
def State.setG (s : State) (x : Nat) (r : GReg) (w : Word) : State := { s with gpr := s.gpr.set 0 (16 * x + r.val) w }
def State.link (s : State) (k : Nat) : Link := s.links.at {} k
def State.setLink (s : State) (k : Nat) (l : Link) : State := { s with links := s.links.set {} k l }
def State.onLink (s : State) (k : Nat) (f : Link → Link) : State := s.setLink k (f (s.link k))
def State.routeOf (s : State) (dev : Nat) : Option Nat := s.routes.at none dev
def State.setRoute (s : State) (dev : Nat) (k : Option Nat) : State := { s with routes := s.routes.set none dev k }

def State.sig (s : State) (k : Nat) : SigX := s.sigs.at {} k
def State.setSig (s : State) (k : Nat) (x : SigX) : State := { s with sigs := s.sigs.set {} k x }
def State.onSig (s : State) (k : Nat) (f : SigX → SigX) : State := s.setSig k (f (s.sig k))
def State.port (s : State) (p : Nat) : PortX := s.portX.at {} p
def State.setPort (s : State) (p : Nat) (x : PortX) : State := { s with portX := s.portX.set {} p x }
def State.onPort (s : State) (p : Nat) (f : PortX → PortX) : State := s.setPort p (f (s.port p))

/-- The catalogued signals of a source, ascending (R242). -/
def State.signalsOf (s : State) (src sel : Nat) : List Nat :=
  (s.regs.filter (fun e => e.1.name == .catW0 && getF e.2 0 4 == src && s.rd .catW1 e.1.i == toW sel)).map (fun e => e.1.i)

/-- The element goes before the first that it is not above. -/
def insertBy {α : Type} (le : α → α → Bool) (x : α) : List α → List α
  | [] => [x]
  | y :: l => if le x y then x :: y :: l else y :: insertBy le x l

/-- Sorted, equal ones in their order. -/
def sortBy {α : Type} (le : α → α → Bool) (l : List α) : List α := l.foldr (insertBy le) []

/-- A source of the log by its number and selector; that of TASK is a context and a signal, as 128 times the signal (R242). -/
def evKey (src sel : Nat) : Nat := src * 2 ^ 26 + sel

/-- A source has an event: its value, and its auxiliary word, are kept (R242). -/
def State.keepEvent (s : State) (src sel : Nat) (value aux : Word) : State :=
  { s with lastEv := s.lastEv.set (0, 0) (evKey src sel) (value, aux) }

/-- A source event is kept, and is offered to the log where a signal names the source (R242). -/
def State.offer (s : State) (src sel : Nat) (value aux : Word) (ts : Stamp) : State :=
  let s := s.keepEvent src sel value aux
  if (s.signalsOf src sel).isEmpty then s
  else { s with offers := s.offers ++ [{ src := src, sel := sel, value := value, aux := aux, ts := ts }] }

/-! Registers of context x, which lie at engine x / 32, local x mod 32 (R164). -/

def State.cr (s : State) (n : RegName) (x : Nat) : Word := s.rd n (x / 32) (x % 32)
def State.setCr (s : State) (n : RegName) (w : Word) (x : Nat) : State := s.wr n w (x / 32) (x % 32)
def State.cf (s : State) (n : RegName) (lo len x : Nat) : Nat := s.fld n lo len (x / 32) (x % 32)
def State.setCf (s : State) (n : RegName) (lo len v x : Nat) : State := s.setFld n lo len v (x / 32) (x % 32)
/-- The state code of a context (R190). -/
def State.ctxState (s : State) (x : Nat) : Nat := s.cf .ctxStat 0 3 x
def State.setCtxState (s : State) (x v : Nat) : State := (s.setCf .ctxStat 0 3 v x).touch (x / 32)

/-! Bytes and words of the memories; a word is little-endian (R5). -/

def Mem.byte (m : Mem) (a : Nat) : Byte := SMap.at 0 m a
def Mem.putByte (m : Mem) (a : Nat) (b : Byte) : Mem := SMap.set 0 m a b
def Mem.word (m : Mem) (a : Nat) : Word := wordOf (m.byte a) (m.byte (a + 1)) (m.byte (a + 2)) (m.byte (a + 3))
def Mem.half (m : Mem) (a : Nat) : Nat := (m.byte a).toNat + (m.byte (a + 1)).toNat * 256
def Mem.putHalf (m : Mem) (a : Nat) (w : Word) : Mem := (m.putByte a (byteOf w 0)).putByte (a + 1) (byteOf w 1)
def Mem.putWord (m : Mem) (a : Nat) (w : Word) : Mem :=
  (((m.putByte a (byteOf w 0)).putByte (a + 1) (byteOf w 1)).putByte (a + 2) (byteOf w 2)).putByte (a + 3) (byteOf w 3)
/-- Words stored one after another from `a`. -/
def Mem.putWords (m : Mem) (a : Nat) : List Word → Mem
  | [] => m
  | w :: r => Mem.putWords (m.putWord a w) (a + 4) r
/-- Words read one after another from `a`. -/
def Mem.words (m : Mem) (a n : Nat) : List Word := (List.range n).map (fun i => m.word (a + 4 * i))

/-- A word of task memory (R170). -/
def State.tm (s : State) (a : Nat) : Word := s.taskMem.word a
/-- A mark of an uncorrectable word goes once the word is written (R367). -/
def State.healTm (s : State) (a : Nat) : State := { s with badTm := s.badTm.filter (fun b => decide (b / 4 ≠ a / 4)) }
/-- A word of task memory stored. -/
def State.setTm (s : State) (a : Nat) (w : Word) : State := { s with taskMem := s.taskMem.putWord a w }.healTm a

/-- The number of a master in the latch and read tables (R48). -/
def masterIx : Master → Nat
  | .host => 0
  | .supervisor => 1
  | .ctx x => 2 + x.val
  | .dma c => 130 + c.val

/-- The context number of an engine context given as (engine, local). -/
def ctxOf (e l : Nat) : Nat := 32 * e + l

/-- A natural number held in a rising list without repeats. -/
def insertRising (n : Nat) : List Nat → List Nat
  | [] => [n]
  | m :: r => if n < m then n :: m :: r else if n = m then m :: r else m :: insertRising n r

/-- A channel's tile and number. -/
def tileOf (g : Nat) : Nat := g / 8
def chOf (g : Nat) : Nat := g % 8

end Sys2Proof.Machine
end

