-- ==== Sys2Proof/Machine/Units.lean ====
section
/-! DEFINITION. Unit indices, effective states and the fitted units (R2, R20, R307 to R311). -/

namespace Sys2Proof.Machine

/-- The unit of index `u` is fitted (R20, R307). -/
def State.fitted (s : State) (u : Nat) : Bool :=
  if u < 64 then decide (u < s.tiles)
  else if u < 80 then decide (u - 64 < s.domains)
  else if u < 84 then decide (u - 80 < s.engines)
  else if u < 116 then decide (u - 84 < s.ports)
  else if u < 120 then decide (u - 116 < s.linkCount)
  else if u < 140 then true
  else if u < 148 then decide (u - 140 < s.courses)
  else false

/-- An index of DRONE_ISL names a fitted island. -/
def State.islandFitted (s : State) (i : Nat) : Bool :=
  if i < 64 then decide (i < s.tiles)
  else if i < 66 then decide (i - 64 < s.spareTiles)
  else if 84 ≤ i ∧ i < 88 then decide (i - 84 < s.engines)
  else i == islDomain || i == islFabric || i == islPort || i == islMortar

/-- The tile and channel that PM_PIN.SRC names for pin p (R79). -/
def State.pinSrc (s : State) (p : Nat) : Nat × Nat :=
  let src := s.fld .pmPin 0 6 p
  (8 * (p / 32) + src / 8, src % 8)

/-- The output pins of tile t, channel c. -/
def State.pinsOf (s : State) (t c : Nat) : List Nat :=
  ((List.range 32).map (fun i => 32 * (t / 8) + i)).filter (fun p => s.fld .pmPin 6 2 p == 1 && s.pinSrc p == (t, c))

/-- The output pins of a tile. -/
def State.tilePins (s : State) (t : Nat) : List Nat :=
  ((List.range 32).map (fun i => 32 * (t / 8) + i)).filter (fun p => s.fld .pmPin 6 2 p == 1 && (s.pinSrc p).1 == t)

/-- A channel runs (CH_STAT.RUN). -/
def State.running (s : State) (t c : Nat) : Bool := s.flag .chStat 0 t c

/-- TILE_STAT.RUN: a bit for each running channel. -/
def State.runMask (s : State) (t : Nat) : Nat :=
  (List.range 8).foldl (fun a c => a + b2n (s.running t c) * 2 ^ c) 0

/-- An engine is halted by the debug port (R195). -/
def State.halted (s : State) (e : Nat) : Bool := s.flag .engDbg 0 e

/-- A tile with DBG_FREEZE = 1 freezes while an engine is halted (R85, R195). -/
def State.frozen (s : State) (t : Nat) : Bool :=
  s.flag .tileCtrl 0 t && (List.range s.engines).any (fun e => s.halted e)

/-- The state codes of R314. -/
def codeOff : Nat := 1
def codeReady : Nat := 2
def codeRun : Nat := 3
def codePaused : Nat := 4
def codeHeld : Nat := 5
def codeFailed : Nat := 6

/-- The status codes of R314. -/
def stOk : Nat := 0
def stAccepted : Nat := 1
def stBusy : Nat := 0x10
def stState : Nat := 0x20
def stParam : Nat := 0x21
def stOpcode : Nat := 0x22
def stAbsent : Nat := 0x23
def stDenied : Nat := 0x24
def stAuth : Nat := 0x25
def stNospace : Nat := 0x26
def stStale : Nat := 0x27
def stTooLate : Nat := 0x28

/-- The state a unit's own condition gives (R309). A frozen tile reads PAUSED whether or not a channel runs, and a
paused port PAUSED whether or not a transaction runs (DEDUCED, log entry 8). -/
def State.ownCode (s : State) (u : Nat) : Nat :=
  if u < 64 then
    if s.flag .pmBank 2 (u / 8) then codeOff
    else if s.frozen u then codePaused
    else if s.runMask u ≠ 0 then codeRun
    else codeReady
  else if u < 80 then
    if s.flag .domCtrl 0 (u - 64) then (if s.fld .domStat 0 3 (u - 64) = 3 then codeRun else codeReady) else codeOff
  else if u < 84 then
    if s.halted (u - 80) || s.paused.contains u then codePaused else codeRun
  else if u < 116 then
    let p := u - 84
    if !s.flag .portCfg 2 p then codeOff
    else if s.paused.contains u then codePaused
    else if s.flag .portStat 0 p then codeRun
    else codeReady
  else if u < 120 then
    if !s.flag .mlLctrl 0 (u - 116) then codeOff
    else if s.fld .mlLstat 0 2 (u - 116) = 2 then codeRun
    else codeReady
  else if u < 136 then
    let c := u - 120
    if !s.flag .dmaCtrl 0 c then codeOff
    else if s.flag .dmaCtrl 1 c then codePaused
    else if s.flag .dmaStat 0 c then codeRun
    else codeReady
  else if u = 136 ∨ u = 138 then codeRun
  else if u = 137 then (if s.flag .logCtrl 0 then codeRun else codeOff)
  else if u = 139 then (if s.flag .mlCtrl 0 then codeRun else codeOff)
  else if s.flag .pmBank 2 (u - 140) then codeOff
  else codeRun

/-- A Keystone hold or a supervisor hold is in force (R308 step 3). -/
def State.holdSet (s : State) (u : Nat) : Bool := s.flag .unitState 4 u || s.fld .unitReq 4 3 u == 5

/-- The effective state code of a unit (R308). UNIT_STATE is set at S2, so it reads 0 until the fuses are loaded. -/
def State.unitCode (s : State) (u : Nat) : Nat :=
  if !s.fitted u || s.rd .sysId == 0 then 0
  else if s.failed.contains u then codeFailed
  else if s.holdSet u then codeHeld
  else s.ownCode u

def State.held (s : State) (u : Nat) : Bool := s.unitCode u == codeHeld
def State.isFailed (s : State) (u : Nat) : Bool := s.unitCode u == codeFailed

/-- Sets or clears a mark in a rising list. -/
def markRising (l : List Nat) (n : Nat) (b : Bool) : List Nat := if b then insertRising n l else l.filter (· ≠ n)

def State.setPaused (s : State) (u : Nat) (b : Bool) : State := { s with paused := markRising s.paused u b }
def State.setFailed (s : State) (u : Nat) : State := { s with failed := markRising s.failed u true }

/-- The UNIT_SET request values that R309 allows a unit: RUN is 3, PAUSED 4. -/
def unitSetAllows (u v : Nat) : Bool :=
  (v == 3 || v == 4) && ((decide (80 ≤ u) && decide (u < 116)) || (decide (120 ≤ u) && decide (u < 136)))

end Sys2Proof.Machine
end

