-- ==== Sys2Proof/Machine/Events.lean ====
section
/-! DEFINITION. What units tell one another: interrupt sources (R338 to R348), access errors (R306), posted events
(R179), Mortar frames handed to the links (R279 to R283) and fault records (R373, R374). -/

namespace Sys2Proof.Machine

/-! ## Interrupt sources -/

/-- The unit of a shared source is fitted (R19, R23). -/
def State.srcPresent (s : State) (n : Nat) : Bool :=
  if n < 64 then decide (n < s.tiles)
  else if n < 96 then decide (n % 16 < s.domains)
  else if n < 112 then true
  else if n < 144 then decide (n - 112 < s.ports)
  else if n < 148 then decide (n - 144 < s.linkCount)
  else true

/-- A vector counts an event (R345), and WAKE# follows where R346 asks for it. -/
def State.countVector (s : State) (v : Nat) : State :=
  let s := if s.fld .vecStat 0 8 v = 0 then { s with vecFirst := s.vecFirst.set 0 v (s.clock islFabric) } else s
  let s := s.bump .vecStat 0 8 v
  let s := s.when (decide (max 1 (s.fld .vecMod 0 8 v) ≤ s.fld .vecStat 0 8 v)) (·.setFlag .vecStat 31 true v)
  if s.flag .vecMod 31 v && s.hostLink == .l2 then { s with wakePin := true } else s

/-- A shared source is raised (R340, R345); a source of an absent unit never becomes pending (R23). A raise in the fabric cycle of the
source's completion is taken as one while ACTIVE, which delivers it again at once (R341, R348). -/
def State.raise (s : State) (n : Nat) : State :=
  if !s.srcPresent n then s
  else
    let s := s.setFlag .intPendSet (n % 32) true (n / 32)
    let s := s.when (s.flag .intEnSet (n % 32) (n / 32) && decide (s.fld .intRoute 0 3 n < 4)) State.wakeUp
    if !s.flag .intEnSet (n % 32) (n / 32) then s
    else
      let again := s.doneAt.at 0 n == s.fabNow + 1
      let s := if again then s.bumpW .intErr 16 15 else s
      if s.fld .intRoute 0 3 n = 4 then
        (s.countVector (s.fld .intRoute 24 6 n)).when again (·.setFlag .vecStat 31 true (s.fld .intRoute 24 6 n))
      else s

/-- An engine-private source is raised; 30 and 31 are never pending (R339). -/
def State.raisePrv (s : State) (e p : Nat) : State :=
  if e < s.engines ∧ p < 30 then (s.setFlag .prvPendSet p true e).when (s.flag .prvEnSet p e) State.wakeUp else s

/-- An event bit is set, and its source raised where its enable bit is 1. -/
def State.event (s : State) (evt ien : RegName) (b src : Nat) (i : Nat := 0) : State :=
  (s.setFlag evt b true i).when (s.flag ien b i) (·.raise src)

/-- A tile leaves HELD: the SAFE level that a stop left on its pins ends (R82). -/
def State.leaveHeld (s : State) (t : Nat) : State :=
  (s.each (s.tilePins t) (fun s p => s.setFlag .pmPin 26 false p)).each (List.range 8) (fun s c => s.setFlag .chStat 9 false t c)

/-- `f` acts on units whose effective state it may change: source 191 is raised for a change (R338). -/
def State.withUnits (s : State) (us : List Nat) (f : State → State) : State :=
  let s' := f s
  let s' := s'.each (us.filter (fun u => decide (u < 64) && s.held u && !s'.held u)) State.leaveHeld
  us.foldl (fun a u => if s.unitCode u = s'.unitCode u then a else a.raise 191) s'

/-- `withUnits` for one unit. -/
def State.withUnit (s : State) (u : Nat) (f : State → State) : State := s.withUnits [u] f

/-! ## Access errors -/

/-- The reasons of SYS_ACCERR_SRC. -/
inductive AccReason where
  | width | reserved | privilege | mgmtOnly | ownership | hold | bar2 | encoding
  deriving DecidableEq, Repr

def AccReason.code : AccReason → Nat
  | .width => 0 | .reserved => 1 | .privilege => 2 | .mgmtOnly => 3 | .ownership => 4 | .hold => 5 | .bar2 => 6
  | .encoding => 7

/-- SYS_ACCERR_SRC of an access. -/
def accSrc (m : Master) (r : AccReason) : Word :=
  let (k, x) := match m with
    | .host => (0, 0) | .supervisor => (1, 0) | .ctx x => (2, x.val) | .dma c => (3, c.val)
  toW (k + x * 256 + r.code * 65536)

/-- An access is counted in SYS_ACCERR with its offset, master and reason, and source 191 raised (R306, R338). -/
def State.accErr (s : State) (m : Master) (off : Nat) (r : AccReason) : State :=
  let s := match r with
    | .ownership | .hold => s.bumpW .sysAccerr 16 16
    | _ => s.bumpW .sysAccerr 0 16
  ((s.wr .sysAccerrAddr (toW off)).wr .sysAccerrSrc (accSrc m r)).raise 191

/-! ## Posted events -/

/-- A context takes an event: it joins the queue, or is dropped and counted (R179, R192). -/
def State.post (s : State) (x : Nat) (value tag : Word) : State :=
  let st := s.ctxState x
  if (st = 2 ∨ st = 3) ∧ (s.ctx x).evq.length < 8 then s.onCtx x (fun c => { c with evq := c.evq ++ [(value, tag)] })
  else s.bump .ctxStat 16 8 (x / 32) (x % 32)

/-- The tag word of an event (R179). -/
def evTag (src detail : Nat) : Word := toW (src + detail * 256)

/-! ## Mortar -/

/-- The order of precedence of a frame type (R280); DELAY and ALIVE go with LINK (DESIGN CHOICE, log entry 9). -/
def frameRank (ty : Nat) : Nat :=
  match ty with
  | 0 | 1 | 2 | 10 => 0
  | 3 => 1 | 5 => 2 | 4 | 9 => 3 | 6 => 4 | 7 => 5 | _ => 6

/-- A frame put behind those of its own or a higher precedence. -/
def putFrame (f : MFrame) : List MFrame → List MFrame
  | [] => [f]
  | h :: r => if frameRank f.ty < frameRank h.ty then f :: h :: r else h :: putFrame f r

/-- Waiting frames go out, numbered, while fewer than 32 are unacknowledged (R279). -/
def Link.pump (now : Stamp) (l : Link) : List MFrame → Link
  | [] => { l with txq := [] }
  | f :: r =>
    if l.unacked.length < 32 then
      Link.pump now { l with
        txSeq := (l.txSeq + 1) % 256
        unacked := l.unacked ++ [(l.txSeq, f, 1)]
        ackAt := if l.unacked.isEmpty then now else l.ackAt
        lastTx := now } r
    else { l with txq := f :: r }

/-- The link is UP (ML_LSTAT.STATE). -/
def State.linkUp (s : State) (k : Nat) : Bool := decide (k < s.linkCount) && s.fld .mlLstat 0 2 k == 2

/-- A frame is given to a link. -/
def State.sendOn (s : State) (k : Nat) (f : MFrame) : State :=
  s.onLink k (fun l => l.pump s.now (putFrame f l.txq))

/-- The link that carries the uplink at present, if it is UP. -/
def State.uplink (s : State) : Option Nat :=
  (List.range 4).find? (fun k => s.linkUp k && s.flag .mlLstat 3 k)

/-- The UP links to devices below (R283). -/
def State.downlinks (s : State) : List Nat :=
  (List.range 4).filter (fun k => s.linkUp k && s.fld .mlLctrl 1 2 k == 1)

/-- Mortar is enabled and this device is the root. -/
def State.isRoot (s : State) : Bool := s.flag .mlCtrl 0 && s.flag .mlCtrl 1

/-- The device has joined: only then does it carry the frames of the services (R288). -/
def State.joined (s : State) : Bool := s.flag .mlCtrl 0 && (s.flag .mlCtrl 1 || s.fld .mlStat 0 2 == 2)

def State.devNum (s : State) : Nat := s.fld .mlDev 0 9

/-- A frame is routed (R283): by route, else up; a broadcast down every DOWN link and up, but not back. A frame without
a path is discarded and counted; a peer mailbox message waits for one (R298). -/
def State.mlRoute (s : State) (f : MFrame) (frm : Option Nat) : State :=
  if f.bcast then
    let s := s.each (s.downlinks.filter (fun k => frm ≠ some k)) (fun s k => s.sendOn k f)
    match s.uplink with
    | some k => if frm = some k then s else s.sendOn k f
    | none => s
  else
    match (match s.routeOf f.dst with | some k => if s.linkUp k then some k else s.uplink | none => s.uplink) with
    | some k => s.sendOn k f
    | none =>
      if f.ty = 6 then { s with parked := s.parked ++ [f] }
      else s.bump .mlCnt1 24 8 (frm.getD 0)

/-- This device sends a service frame, once it has joined (R288). -/
def State.mlSend (s : State) (ty dst : Nat) (bcast : Bool) (payload : List Word) : State :=
  let f : MFrame := { ty := ty, src := s.devNum, dst := dst, bcast := bcast, hops := 0, payload := payload }
  if s.joined then s.mlRoute f none
  else if ty = 6 then { s with parked := s.parked ++ [f] }
  else s

/-! ## Fault records -/

/-- Bits [35:4] of a stamp. -/
def ns32 (t : Stamp) : Word := toW (t.toNat / 16)

/-- A fault-record event: FLT_EVT bit b, source 182 + b (R374). -/
def State.fltEvent (s : State) (b : Nat) : State := s.event .fltEvt .fltIen b (182 + b)

/-- The sequence numbers of the records kept and not acknowledged (R374). -/
def State.fltOpen (s : State) : List Nat :=
  let seq := (s.rd .fltSeq).toNat
  ((List.range (min seq 64)).map (fun i => seq - min seq 64 + i)).filter (fun i => decide (s.fltAcked ≤ i))

/-- FLT_STAT.UNACK, FULL and FAILURE follow the records. -/
def State.fltRefresh (s : State) : State :=
  let l := s.fltOpen
  let s := s.setFld .fltStat 0 7 (min 64 l.length)
  let s := s.setFlag .fltStat 8 (decide (48 ≤ l.length))
  s.setFlag .fltStat 9 (l.any (fun i => s.flag .fltRec 24 (i % 64) 0))

/-- Keystone writes a fault record (R373, R374) and broadcasts it as a FAULT frame (R291). A task, service or Keystone fault
is no masked fault (DEDUCED, log entry 42). -/
def State.fault (s : State) (kind unit phys : Nat) (failure : Bool) (ns : Nat) (a b : Word)
    (found : Option Stamp := none) : State :=
  let t := found.getD s.now
  let seq := (s.rd .fltSeq).toNat
  let total := satNat 16 (s.fltTotal.at 0 kind + 1)
  let w0 := toW (kind + unit % 256 * 256 + phys % 256 * 65536 + b2n failure * 0x1000000)
  let w3 := toW (t.toNat / 2 ^ 36 % 65536 + (s.rd .droneEpoch).toNat % 65536 * 65536)
  let ws := [w0, toW seq, ns32 t, w3, toW (satNat 32 ns), a, b, toW total]
  let lost := decide (64 ≤ seq ∧ s.fltAcked + 64 ≤ seq)
  let s := ws.zipIdx.foldl (fun s (w, i) => s.wr .fltRec w (seq % 64) i) s
  let s := { s with fltTotal := s.fltTotal.set 0 kind total }
  let s := s.wr .fltSeq (toW (seq + 1))
  let s := s.when lost (·.bump .fltStat 16 8)
  let s := s.fltRefresh
  let s := if failure then s.fltEvent 1 else if 0x10 ≤ kind ∧ kind ≤ 0x12 then s else s.fltEvent 0
  let s := s.when (s.flag .fltStat 8) (·.fltEvent 6)
  s.mlSend 9 0 true [toW s.devNum, toW kind, ns32 t]

/-- A read finds a word uncorrectable: counted, and recorded with the memory's code and the word (R367). -/
def State.lostWord (s : State) (unit code idx : Nat) : State :=
  (s.bump .fltMem 16 8).fault 0x01 unit 0 true 0 (toW idx) (toW code)

end Sys2Proof.Machine
end

