-- ==== Sys2Proof/Machine/Pins.lean ====
section
/-! DEFINITION. What the pin matrix puts on a ball (R59 orders 1 to 3 and R79 to R83), and the pad latches. -/

namespace Sys2Proof.Machine

/-- Channel c is half of an enabled bridge pair (R99). -/
def State.bridged (s : State) (t c : Nat) : Bool := s.hasBridge && s.flag .brCtrl 0 t (c / 2)

/-- The level of a channel's output below R59 order 3: of an enabled pair the even channel is H and the odd one L. -/
def State.outLevel (s : State) (t c : Nat) : Bool :=
  if s.bridged t c then s.flag .brStat (if c % 2 = 0 then 24 else 25) t (c / 2) else (s.chan (8 * t + c)).level

/-- The trip level holds a channel's output: latched (R105), or kept after a clear (R107). -/
def State.tripHolds (s : State) (t c : Nat) : Bool := s.flag .tripStat c t || (s.chan (8 * t + c)).tripHold

/-- What level or HIZ a two-bit level field names. -/
def driveOf (code : Nat) : Drive := match code with | 0 => .low | 1 => .high | _ => .hiz

/-- PM_PIN.INV on a drive. -/
def Drive.inv (d : Drive) (b : Bool) : Drive :=
  match d with
  | .hiz => .hiz
  | .low => if b then .high else .low
  | .high => if b then .low else .high

/-- The pin is at its SAFE level (R82): PM_PIN.SAFE_ACT. -/
def State.pinSafe (s : State) (p : Nat) : Bool :=
  let t := (s.pinSrc p).1
  s.fld .pmPin 6 2 p == 1 && (s.flag .pmPin 26 p || s.held t || s.isFailed t)

/-- The bank of Course k has its supply, and had it at S2, when its level was sensed (R388). -/
def State.bankOn (s : State) (k : Nat) : Bool := s.flag .pmBank 1 k && !s.unsensed.contains k

/-- The level at TIO p as the FJ4 sees it: 0 where the bank has no supply (R388). -/
def State.pinLevel (s : State) (p : Nat) : Bool := s.pinIn.at false p && s.bankOn (p / 32)

/-- What pulls at the ball of TIO p: the pull of PM_PIN while it drives nothing; a ball of an absent Course, and one whose bank is not
in use, is held at a weak pull-down in every power state (R26, R388). -/
def State.pinPull (s : State) (p : Nat) : Pull :=
  if s.pins ≤ p ∨ !s.bankOn (p / 32) then .down
  else match s.fld .pmPin 13 2 p with | 1 => .down | 2 => .up | _ => .none

/-- What the pin matrix drives with the pad latch open. A bank without supply drives nothing (R388). A pin of a tile that a debug
halt freezes keeps what it had (R85), but for a SAFE level and a trip accepted in the halt (R110). -/
def State.openDrive (s : State) (p : Nat) : Drive :=
  let (t, c) := s.pinSrc p
  if s.fld .pmPin 6 2 p ≠ 1 || !s.bankOn (p / 32) then .hiz
  else
  match s.pinStill.at none p with
  | some (d, safe) =>
    if s.held t || s.isFailed t then driveOf (s.fld .pmPin 9 2 p)
    else if !safe && s.flag .tripStat c t then (driveOf (s.fld .tripLvl (4 * c + 2) 2 t)).inv (s.flag .pmPin 8 p)
    else d
  | none =>
  if s.pinSafe p then driveOf (s.fld .pmPin 9 2 p)
  else if s.tripHolds t c then (driveOf (s.fld .tripLvl (4 * c + 2) 2 t)).inv (s.flag .pmPin 8 p)
  else (if s.outLevel t c then Drive.high else .low).inv (s.flag .pmPin 8 p)

/-- What the pin matrix drives on TIO p: the held level where the pad latch is closed (R83). -/
def State.pinDrive (s : State) (p : Nat) : Drive := (s.padHold.at none p).getD (s.openDrive p)

/-- The pad latch of pin p is closed: PM_PIN.HELD. -/
def State.padClosed (s : State) (p : Nat) : Bool := (s.padHold.at none p).isSome

/-- Pad latches close: each pin keeps its level (R83). -/
def State.closePads (s : State) (ps : List Nat) : State :=
  { s with padHold := ps.foldl (fun m p => m.set none p (some (s.pinDrive p))) s.padHold }

/-- A tile freezes under a debug halt: its output pins keep their levels (R85). -/
def State.stillPins (s : State) (t : Nat) : State :=
  s.each (s.tilePins t) (fun s p => { s with pinStill := s.pinStill.set none p (some (s.openDrive p, s.pinSafe p)) })

/-- The halt ends, or a pin is written (R80). -/
def State.freePins (s : State) (ps : List Nat) : State :=
  s.each ps (fun s p => { s with pinStill := s.pinStill.set none p none })

/-- Pad latches open. -/
def State.openPads (s : State) (ps : List Nat) : State :=
  { s with padHold := ps.foldl (fun m p => m.set none p none) s.padHold }

end Sys2Proof.Machine
end

