-- ==== Sys2Proof/Machine/Access.lean ====
section
/-! DEFINITION. Whose register writes act (R2, R194, R208, R226, R304 to R311), and what an access wakes (R17, R84). -/

namespace Sys2Proof.Machine

/-- The privilege ceiling of a context. -/
def State.ceil (s : State) (x : Nat) : Nat := s.cf .ctxCtrl 6 2 x

/-- PSW. Its PRIV is never below the ceiling but in local context 0 (R209). -/
def State.psw (s : State) (x : Nat) : Word :=
  let w := (s.ctx x).psw
  if x % 32 = 0 then w else putF w 4 2 (max (getF w 4 2) (s.ceil x))
def State.ilvl (s : State) (x : Nat) : Nat := getF (s.psw x) 8 5

/-- The privilege a context acts at. -/
def State.privOf (s : State) (x : Nat) : Nat := getF (s.psw x) 4 2

/-- The TRAP that a context is parked on at its present level and PC, and the WAIT (R178, R207). -/
def State.trapHere (s : State) (x : Nat) : Option TrapCall :=
  (s.ctx x).traps.find? (fun c => c.ilvl == s.ilvl x && c.pc == (s.ctx x).pc)
def State.monHere (s : State) (x : Nat) : Option Monitor :=
  (s.ctx x).mons.find? (fun m => m.ilvl == s.ilvl x && m.pc == (s.ctx x).pc)

/-- The master is Keystone: an engine context at privilege 0. -/
def State.isKeystone (s : State) (m : Master) : Bool :=
  match m with | .ctx x => s.privOf x == 0 | _ => false

/-- The master is the service firmware: an engine context at privilege 1. -/
def State.isService (s : State) (m : Master) : Bool :=
  match m with | .ctx x => s.privOf x == 1 | _ => false

/-- The blocks the host may only read (R304). -/
def Block.hostReadOnly : Block → Bool
  | .drone | .chanter | .calib | .entry => true
  | _ => false

/-- The blocks the management path may write (R304): UNIT_REQ, the supervisor's interrupt registers and mailboxes have
rules of their own. -/
def Block.supWrites : Block → Bool
  | .lock | .gov | .fault => true
  | _ => false

/-- Why a write by master m to register k of unit u is dropped, if it is. -/
def State.refusal (s : State) (m : Master) (u : Nat) (k : RegKey) : Option AccReason :=
  match m with
  | .host =>
    if k.name.block.hostReadOnly then some .privilege
    else if s.flag .unitReq 3 u then some .ownership
    else if s.held u then some .hold
    else none
  | .supervisor => if k.name.block.supWrites then none else some .privilege
  | .dma _ => some .privilege
  | .ctx x =>
    if s.privOf x = 0 then none
    else if k.name.block = .chanter then some .privilege
    else if s.privOf x = 1 then (if s.held u then some .hold else none)
    else if k.name.block = .tile then (if s.held u || s.isFailed u then some .hold else none)
    else if k.name.block = .lock then none
    else some .privilege

/-- A dropped write is counted: a context's for a hold in CTX_ERRCNT.HELD_DROP (R176, R181), a host's for a hold or
ownership also in UNIT_REQ.DROPS (R311), the rest in SYS_ACCERR (R306). -/
def State.dropWrite (s : State) (m : Master) (u : Nat) (k : RegKey) (r : AccReason) : State :=
  match m, r with
  | .ctx x, .hold => s.bump .ctxErrcnt 8 8 (x.val / 32) (x.val % 32)
  | .host, .hold | .host, .ownership => (s.bump .unitReq 8 8 u).accErr m k.offset r
  | _, _ => s.accErr m k.offset r

/-- An island of DRONE_ISL holds a copy that runs (R38). -/
def State.copyRuns (s : State) (i : Nat) : Bool :=
  s.islandFitted i && decide (s.pstate < (if i < 66 then 2 else 3)) && !(decide (i < 64) && s.flag .pmBank 2 (i / 8))

/-- The pins of Course k. -/
def coursePins (k : Nat) : List Nat := (List.range 32).map (fun i => 32 * k + i)

/-- The units whose state a Course's power changes. -/
def courseUnits (k : Nat) : List Nat := (140 + k) :: (List.range 8).map (fun i => 8 * k + i)

/-- A powered-down Course powers up, its tiles' Drone copies loaded (R38), and counts (R84, R234). -/
def State.powerUpCourse (s : State) (k : Nat) : State :=
  if !s.flag .pmBank 2 k then s
  else s.wakeUp.withUnits (courseUnits k) (fun s =>
    let s := s.each (List.range 8) (fun s i => s.setAhead (8 * k + i) 0)
    (((s.setFlag .pmBank 2 false k).setFlag .govIsl (8 + k) false).bumpW .govWakeCnt 16 16).openPads (coursePins k))

/-- A gated island, by its bit of GOV_ISL, wakes and counts (R17, R233). -/
def State.wakeIsland (s : State) (b : Nat) : State :=
  if s.flag .govIsl b then (s.wakeUp.setFlag .govIsl b false).bumpW .govWakeCnt 0 16 else s

/-- What an access to a register of unit u wakes (R17, R84). -/
def State.wakeFor (s : State) (u : Nat) : State :=
  if u < 64 then s.powerUpCourse (u / 8)
  else if 80 ≤ u ∧ u < 84 then s.wakeIsland (u - 80)
  else if 84 ≤ u ∧ u < 116 then s.wakeIsland 4
  else if (116 ≤ u ∧ u < 120) ∨ u = 139 then s.wakeIsland 5
  else if 140 ≤ u ∧ u < 148 then s.powerUpCourse (u - 140)
  else s

/-- The instance of a register belongs to an absent unit, island, source or place: it reads 0 and ignores writes (R2, R20,
R23), also where the block that holds it is fitted. -/
def State.keyAbsent (s : State) (k : RegKey) : Bool :=
  (decide (k.unit < 148) && !s.fitted k.unit) ||
  match k.name with
  | .calPart | .calDstat | .calEvt | .calIen | .calCqBase | .calCqSize | .calCqWr | .calCqRd | .calCnt0 | .calCnt1 | .calCnt2
  | .calCnt3 => decide (s.domains ≤ k.i)
  | .calSlotuse | .droneVern => decide (s.tiles ≤ k.i)
  | .droneIsl => !s.islandFitted k.i
  | .prvRoute | .prvEnSet | .prvEnClr | .prvPendSet | .prvPendClr | .prvActive => decide (s.engines ≤ k.i)
  | .unitState | .unitReq => !s.fitted k.i
  | .intRoute => !s.srcPresent k.i
  | _ => false

/-- A register write of master m to register (n, i, j): ignored where the unit is absent (R2); it wakes its island (R17), is
dropped and counted where the master may not make it, and is else `f`. In Nap and deeper nothing reaches a register. -/
def State.gate (s : State) (m : Master) (n : RegName) (i j : Nat) (f : State → State) : State :=
  let k : RegKey := ⟨n, i, j⟩
  if s.keyAbsent k ∨ 3 ≤ s.pstate then s
  else
    let s := s.wakeFor k.unit
    match s.refusal m k.unit k with
    | some r => s.dropWrite m k.unit k r
    | none => f s

/-- A software access `f`: in Nap and deeper nothing reaches a register. It is made in a cycle after that of every row
before it, so that reads of the Drone rise strictly (R36) and a hardware event of the access's own cycle, whose row comes
after it, wins over it (R8, R68; DESIGN CHOICE, log entry 19). -/
def State.onBus (s : State) (f : State → State) : State := if 3 ≤ s.pstate then s else f s.tick

/-- A row that writes register (n, i, j): the access, with the check of rights. -/
def State.access (s : State) (m : Master) (n : RegName) (i j : Nat) (f : State → State) : State :=
  s.onBus (·.gate m n i j f)

end Sys2Proof.Machine
end

