-- ==== Sys2Proof/Machine/Drone.lean ====
section
/-! DEFINITION. The Drone time base (02): lock, beacons, the vernier, the PLLs and holdover. -/

namespace Sys2Proof.Machine

/-- An event of the device's own happens at `ts` by the copy of island i (R15): its effect where the spec's condition holds,
and time passes. In Nap and deeper only the always-on domain runs (09). -/
def State.happens (s : State) (i : Nat) (ts : Stamp) (ok : State → Bool) (f : State → State) : State :=
  let s := s.reachIn i ts
  if decide (s.pstate < 3) && ok s then f s else s

/-- The islands of DRONE_ISL. -/
def islands : List Nat := List.range 66 ++ [80, 84, 85, 86, 87, 88, 89, 90]

/-- The main PLL locks: the master goes over to 1 GHz without a step, at the nearest nanosecond (R30). -/
def State.lockPll (s : State) (ts : Stamp) : State :=
  if s.flag .droneStat 0 then s.reach ts
  else ((s.setFlag .droneStat 0 true).setFlag .pllStat 0 true).reach (toS (divRound ts.toNat 16 * 16))
def execPllLock (ts : Stamp) (s : State) : Host.Outcome State Fault Refusal := .next (s.lockPll ts)

/-! ## Beacons and copies -/

/-- The Gray code of a word, and the word of a Gray code (R32). -/
def grayOf (w : Word) : Word := w ^^^ (w >>> 1)
def ungray (g : Word) : Word := (List.range 32).foldl (fun a k => a ^^^ (g >>> k)) 0

/-- The physical tile in logical place t (R52). -/
def State.physTile (s : State) (t : Nat) : Nat := (s.spares.at none t).getD t

/-- A byte of the calibration page as it is in force: 0 before S7, and a built-in default where the page has failed (R33,
R44, R380). -/
def State.calByte (s : State) (a : Nat) : Byte :=
  if !s.trimmed then 0
  else if s.flag .calstat 0 then byteOf (s.rd .calPage (a / 4)) (a % 4)
  else Config.defaultCal a

/-- The Drone skew trim of an island in fine ticks (R33): the page gives quarters, rounded to the nearest (DESIGN CHOICE, log
entry 89). A spare place has the trim of its own physical tile. -/
def State.skewTrim (s : State) (i : Nat) : Int :=
  let b := s.calByte (if i < 66 then 0x10 + s.physTile i else 0x60 + (i - 80))
  (sxNat 8 b.toNat + 2) / 4

/-- An island's copy is loaded with the master's full count for a beacon instant, before its logic is released; checking goes
on from the next beacon (R38). -/
def State.loadCopy (s : State) (i : Nat) : State := s.setAhead i 0

/-- A copy strays beyond 16 fine ticks: it is kept for Keystone (R35, R368). -/
def State.markStray (s : State) (i : Nat) (d : Int) : State :=
  if d.natAbs ≤ 16 ∨ (s.stray.at none i).isSome then s else { s with stray := s.stray.set none i (some (s.now, d)) }

/-- What an island finds and does at a beacon (R33 to R35): D, the slew of one fine tick that follows when |D| is above 1, and
the maxima. -/
def State.judgeCopy (s : State) (i : Nat) (d : Int) : State :=
  let a := d.natAbs
  let s := s.setFld .droneIsl 0 8 (encS 8 (clampInt (-127) 127 d)) i
  let s := s.when (decide (1 < a)) (fun s => (s.bump .droneIsl 8 16 i).setAhead i (s.ahead i + (if 0 < d then -1 else 1)))
  let s := s.setFld .droneIsl 24 8 (max (s.fld .droneIsl 24 8 i) (satNat 8 a)) i
  let s := s.setFld .droneStat 16 16 (max (s.fld .droneStat 16 16) (satNat 16 a))
  let s := s.setFlag .droneStat 4 (islands.any (fun k => decide (1 < (getS (s.rd .droneIsl k) 0 8).natAbs)))
  s.markStray i d

/-- The beacon of master time `ts` reaches an island (R32): bits [41:10] in Gray code. The world tells by how much the
island's clock tree has moved its copy since its last beacon, and how long the beacon takes; in 64 cycles of 15 to 17 fine
ticks a copy can move by 64 at most (R34, R36). D is the copy at the arrival, less the trim and the beacon's value (R33). The
slew falls in the cycle after the beacon (DESIGN CHOICE, log entry 89). -/
def execBeacon (isl : Fin 91) (drift late : Int) (ts : Stamp) (s : State) : Host.Outcome State Fault Refusal :=
  let i := isl.val
  .next (s.happens islMaster ts (fun s => decide (ts.toNat % 1024 = 0) && s.copyRuns i && s.flag .droneStat 0) (fun s =>
    let s := { s with beacon := grayOf (BitVec.ofNat 32 (ts.toNat / 1024)) }
    let s := s.setAhead i (s.ahead i + clampInt (-63) 63 drift)
    let copy := Int.ofNat ts.toNat + s.ahead i + late - s.skewTrim i
    let d := sxNat 42 (((copy - Int.ofNat ((ungray s.beacon).toNat * 1024)) % 2 ^ 42).toNat)
    s.judgeCopy i d))

/-- Keystone reloads a strayed island that is no tile: stopped, its copy loaded under R38, released (R368). What a spare place
holds is not in use and is reloaded alike. D stays what the last beacon found (log entry 89). -/
def execIslandReload (isl : Fin 91) (ts : Stamp) (s : State) : Host.Outcome State Fault Refusal :=
  let i := isl.val
  .next (s.happens islMaster ts (fun s => decide (64 ≤ i) && (s.stray.at none i).isSome) (fun s =>
    match s.stray.at none i with
    | none => s
    | some (t0, d) =>
      let s := { s with stray := s.stray.set none i none }.loadCopy i
      let unit := if 84 ≤ i ∧ i < 88 then i - 4 else 255
      s.fault 0x0C unit i false ((ts.toNat - t0.toNat) / 16) (intW d) 0 (some t0)))

/-! ## The vernier -/

/-- Where the edge of a pin lies against its fine part k, in ps: the tile's linearity entry of tap k and the pin's skew trim
(R42, R44; 16, calibration page). -/
def State.edgeTrim (s : State) (phys k pin : Nat) : Int :=
  sxNat 8 (s.calByte (0x90 + 16 * phys + k)).toNat + sxNat 8 (s.calByte (0x4B0 + pin)).toNat

/-- A correction of ps in fine ticks of 62.5 ps, rounded to the nearest. -/
def trimTicks (ps : Int) : Int := (4 * ps + 125) / 250

/-- A stamp corrected by a trim: what the path adds is taken off (R42; sign and rounding are DESIGN CHOICES, log entry 89). -/
def trimmedBy (e : Stamp) (ps : Int) : Stamp := BitVec.ofInt 64 (Int.ofNat e.toNat - trimTicks ps)

/-- The pin skew trim (16, calibration page), in ps. -/
def State.pinTrim (s : State) (pin : Nat) : Int := sxNat 8 (s.calByte (0x4B0 + pin)).toNat

/-- An edge of channel (t, c) at e is launched onto its pins (R42, R43). -/
def State.launch (s : State) (t c : Nat) (e : Stamp) : State :=
  s.each (s.pinsOf t c) (fun s p => { s with launched := s.launched.set none p (some {
    ns := nsOf e, tap := fineOf e, code := s.fld .droneVern 0 8 t, trim := s.edgeTrim (s.physTile t) (fineOf e) p }) })

/-- A tile measures its vernier replica against one tile period: `err` is by how much it is too long, in quarters of a
code step. More than half a step moves the code by one, a long line down (R43; the direction, and that a code at its end stays
and the update counts, are DESIGN CHOICES, log entry 10). -/
def execVernierCalibration (t : Fin 64) (err : Int) (ts : Stamp) (s : State) : Host.Outcome State Fault Refusal :=
  .next (s.happens t ts (fun s => decide (ts.toNat % 16384 = 0) && s.copyRuns t) (fun s =>
    let code := s.fld .droneVern 0 8 t
    let s := s.setFlag .droneVern 8 (decide (err.natAbs ≤ 4)) t
    if 2 < err.natAbs then
      (s.setFld .droneVern 0 8 (if 0 < err then code - 1 else min 255 (code + 1)) t).bump .droneVern 16 16 t
    else s))

/-- The main PLL fails: every clock goes over to the standby, if one is locked; else the failure is reported (R45). The
roles change places at each switchover (DEDUCED, log entry 11). -/
def execPllSwitchover (ts : Stamp) (s : State) : Host.Outcome State Fault Refusal :=
  .next (s.happens islMaster ts (fun s => s.flag .droneStat 0) (fun s =>
    let act := s.fld .pllStat 2 1
    if s.flag .pllStat 1 then
      let s := s.setFlag .pllStat 2 (act == 0)
      let s := (s.setFlag .pllStat 0 true).setFlag .pllStat 1 false
      let s := s.bump .pllStat 8 8
      let s := s.setFlag .fltSpare 8 false
      (s.fault 0x09 255 act false 0 0 0).fltEvent 3
    else
      (s.setFlag .pllStat 0 false).fault 0x0A 255 act true 0 0 0))

/-- Keystone retrains the failed PLL: it becomes the standby if it locks (R45). -/
def execPllRetrain (locks : Bool) (ts : Stamp) (s : State) : Host.Outcome State Fault Refusal :=
  .next (s.happens islMaster ts (fun s => s.flag .droneStat 0 && !s.flag .pllStat 1) (fun s =>
    (s.setFlag .pllStat 1 locks).setFlag .fltSpare 8 locks))

/-- HOLDOVER in both registers that show it, and REFCLK_OK, which returns when REFCLK has been in tolerance for the 100 µs that
end the holdover (DESIGN CHOICE, log entry 89: the spec names no earlier instant that a row brings). -/
def State.setHoldover (s : State) (b : Bool) : State :=
  ((s.setFlag .pllStat 5 b).setFlag .droneStat 1 b).setFlag .pllStat 3 (!b)

/-- REFCLK stops or leaves its range (R46). -/
def execRefclkHoldover (ts : Stamp) (s : State) : Host.Outcome State Fault Refusal :=
  .next (s.happens islMaster ts (fun s => !s.flag .droneStat 1) (fun s => (s.setHoldover true).fault 0x0B 255 0 false 0 0 0))

/-- REFCLK has been within tolerance for 100 µs (R46). -/
def execHoldoverExit (ts : Stamp) (s : State) : Host.Outcome State Fault Refusal :=
  .next (s.happens islMaster ts (fun s => s.flag .droneStat 1) (·.setHoldover false))

/-- What DRONE_CTRL.CLR_STATS clears (R34). -/
def State.clrDroneStats (s : State) : State :=
  let s := s.setFld .droneStat 16 16 0
  let s := s.each islands (fun s i => (s.setFld .droneIsl 8 16 0 i).setFld .droneIsl 24 8 0 i)
  s.each (List.range 64) (fun s t => s.setFld .droneVern 16 16 0 t)

/-- A write of DRONE_CTRL.CLR_STATS. The host only reads the Drone block (R304). -/
def execClrStats (m : Master) (s : State) : Host.Outcome State Fault Refusal :=
  .next (s.access m .droneCtrl 0 0 State.clrDroneStats)

end Sys2Proof.Machine
end

