-- ==== Sys2Proof/Machine/Flags.lean ====
section
/-! DEFINITION. The condition codes of the task instructions (R168, R174, R175). -/

namespace Sys2Proof.Machine

def psZ : Nat := 0
def psN : Nat := 1
def psC : Nat := 2
def psV : Nat := 3
def psNoint : Nat := 6
def psOverstay : Nat := 7

/-- Z and N of a result. -/
def flagsZN (psw r : Word) : Word := putB (putB psw psZ (r == 0)) psN r.msb

/-- The flags of a + b: C is the carry out of bit 31. -/
def flagsAdd (psw a b : Word) : Word :=
  let p := putB (flagsZN psw (a + b)) psC (decide (2 ^ 32 ≤ a.toNat + b.toNat))
  putB p psV (decide ((a + b).toInt ≠ a.toInt + b.toInt))

/-- The flags of a − b, which is a + NOT b + 1: C is 1 when there is no borrow. -/
def flagsSub (psw a b : Word) : Word :=
  let p := putB (flagsZN psw (a - b)) psC (decide (b.toNat ≤ a.toNat))
  putB p psV (decide ((a - b).toInt ≠ a.toInt - b.toInt))

/-- The flags of a shift: C is the last bit shifted out, and stays for a shift by 0. -/
def flagsShift (psw r : Word) (out : Option Bool) : Word :=
  match out with
  | some b => putB (flagsZN psw r) psC b
  | none => flagsZN psw r

/-- The shifts of `a` by k < 32: result and last bit out. -/
def shl (a : Word) (k : Nat) : Word × Option Bool := (a <<< k, if k = 0 then none else some (getB a (32 - k)))
def shr (a : Word) (k : Nat) : Word × Option Bool := (a >>> k, if k = 0 then none else some (getB a (k - 1)))
def sar (a : Word) (k : Nat) : Word × Option Bool := (a.sshiftRight k, if k = 0 then none else some (getB a (k - 1)))

/-- The high halves of the products. -/
def mulh (a b : Word) : Word := intW (a.toInt * b.toInt / 2 ^ 32)
def mulhu (a b : Word) : Word := toW (a.toNat * b.toNat / 2 ^ 32)

/-- The quotients towards 0, and whether V is set: a division by 0, and signed the one overflow. -/
def divS (a b : Word) : Word × Bool :=
  if b = 0 then (0, true) else if a = 0x80000000 ∧ b = 0xFFFFFFFF then (0x80000000, true) else (intW (a.toInt.tdiv b.toInt), false)
def divU (a b : Word) : Word × Bool := if b = 0 then (0, true) else (toW (a.toNat / b.toNat), false)

def minS (a b : Word) : Word := if a.toInt ≤ b.toInt then a else b
def maxS (a b : Word) : Word := if a.toInt ≤ b.toInt then b else a

end Sys2Proof.Machine
end

