-- ==== Sys2Proof/Machine/Angle.lean ====
section
/-! DEFINITION. Angle trajectories (R112, R113, R125, R127): how a domain's or a follower's angle steps, in closed
form. Angles count 2^-16 ac and do not wrap, so the angle shown is the count modulo L. -/

namespace Sys2Proof.Machine

/-- Positions per cycle Npc of a domain (R112). -/
def State.npc (s : State) (d : Nat) : Nat :=
  let n := s.fld .domPat0 0 11 d
  if s.flag .domCtrl 1 d then n else 2 * n

/-- The cycle length L, in 2^-16 ac. -/
def State.cycleLen (s : State) (d : Nat) : Nat := s.npc d * 2 ^ 32

/-- V(k) of a tooth update (R127). -/
def Traj.v (t : Traj) (n : Nat) : Nat := t.vu + t.step * (n - t.vns)

/-- The angle in cycle n ≥ t.ns: min(A + S, C) each cycle, and in a FAST run min(A + 8 × S', V, C) (R125, R127). -/
def Traj.angleAt (t : Traj) (n : Nat) : Nat :=
  if !t.run then t.u
  else if t.fast then max t.u (min (t.u + 8 * t.step * (n - t.ns)) (min (t.v n) t.cap))
  else max t.u (min (t.u + t.step * (n - t.ns)) t.cap)

/-- The FAST run still goes on in cycle n: A has met neither V nor the cap (R127). -/
def Traj.fastAt (t : Traj) (n : Nat) : Bool :=
  t.run && t.fast && decide (t.u + 8 * t.step * (n - t.ns) < min (t.v n) t.cap)

/-- The angle stands still from cycle n on. -/
def Traj.freeze (t : Traj) (n : Nat) : Traj :=
  { t with u := t.angleAt n, ns := max n t.ns, run := false, fast := false, pre := t.angleAt n, jumped := false }

/-- The angle holds at the cap in cycle n (R125). -/
def Traj.holds (t : Traj) (n : Nat) : Bool := t.run && decide (t.cap ≤ t.angleAt n)

/-- a / b rounded up. -/
def divUp (a b : Nat) : Nat := if b = 0 then 0 else (a + b - 1) / b

/-- The number of cycles from t.ns in which the trajectory reaches w > t.u, if it does before the cap. -/
def Traj.cyclesTo (t : Traj) (w : Nat) : Option Nat :=
  if !t.run ∨ t.step = 0 ∨ t.cap < w then none
  else if t.fast then some (max (divUp (w - t.u) (8 * t.step)) (divUp (w - t.vu) t.step + t.vns - t.ns))
  else some (divUp (w - t.u) t.step)

/-- The placed instant of a crossing made in cycle k: A_k < w ≤ A_(k+1) (R75). -/
def crossFine (k a b w : Nat) : Stamp := toS (16 * k + (if b ≤ a then 0 else divRound (16 * (w - a)) (b - a)))

/-- The instant at which the trajectory crosses w, placed as R75 places a slot; none if it holds before. -/
def Traj.crossing (t : Traj) (w : Nat) : Option Stamp :=
  if w ≤ t.u then none
  else
    match t.cyclesTo w with
    | none => none
    | some m =>
      let k := t.ns + m - 1
      some (crossFine k (t.angleAt k) (t.angleAt (k + 1)) w)

/-- The next count at or above u that shows angle a (2^-16 ac) in a cycle of length len. -/
def nextAt (u len a : Nat) : Nat := if len = 0 then u else u + (a % len + len - u % len) % len

/-- The next count above u that shows angle a. -/
def nextAbove (u len a : Nat) : Nat := if nextAt u len a = u then u + len else nextAt u len a

/-- The angle shown by a count, in ac (R112). -/
def acOf (u len : Nat) : Nat := if len = 0 then 0 else u % len / 65536

/-- A tooth update applied in cycle n (R127): the new segment, and whether the angle made a JUMP or began a FAST run. -/
def Traj.apply (t : Traj) (x : ToothUpd) (n : Nat) : Traj × Bool × Bool :=
  let a := t.angleAt (n - 1)
  let v := x.pu + x.step * (16 * n - x.te.toNat) / 16
  let base : Traj := { t with
    ns := n, step := x.step, cap := x.cap, vu := v, vns := n, run := true, fast := false, pre := a, jumped := false, te := x.te }
  if x.pu ≤ a + 1 then ({ base with u := max a (min v x.cap) }, false, false)
  else if !x.fast then ({ base with u := max a (min v x.cap), jumped := true }, true, false)
  else ({ base with u := max a (min (a + 8 * x.step) (min v x.cap)), fast := true }, false, !t.fastAt (n - 1))

/-- What crosses w by cycle n: a step of the segment (placed as R75 places it), or the update that began it (at fine part 0),
also where a rise of the rate has moved a target behind the angle at that update (R148, R151). -/
def Traj.crossedBy (t : Traj) (w n : Nat) : Option Stamp :=
  if t.u < w then
    match t.crossing w with
    | some e => if nsOf e ≤ n then some e else none
    | none => none
  else some (toS (16 * t.ns))

/-- The domain's angle count in cycle n. -/
def State.domU (s : State) (d n : Nat) : Nat := (s.dom d).traj.angleAt n

/-- DOM_STAT.STATE. -/
def State.domState (s : State) (d : Nat) : Nat := s.fld .domStat 0 3 d

/-- The segment that held in cycle n. -/
def Dom.segAt (x : Dom) (n : Nat) : Traj :=
  if x.traj.ns ≤ n then x.traj else (x.past.find? (fun t => decide (t.ns ≤ n))).getD x.traj

/-- The angle stamp of an instant, in whole ac (R134). -/
def State.angleStamp (s : State) (d : Nat) (e : Stamp) : Nat :=
  let t := (s.dom d).segAt (nsOf e)
  let a := t.angleAt (nsOf e) + t.step * fineOf e / 16
  if s.cycleLen d = 0 then 0 else divRound a 65536 % (s.cycleLen d / 65536)

/-- DOM_ANGLE and DOM_SNAP_LO. -/
def State.domAngle (s : State) (d : Nat) : Word := toW (acOf (s.domU d (nsOf (s.clock islDomain))) (s.cycleLen d))

/-- DOM_STAT with HOLDING and FAST. -/
def State.domStatView (s : State) (d : Nat) : Word :=
  let t := (s.dom d).traj
  let n := nsOf (s.clock islDomain)
  putB (putB (s.rd .domStat d) 4 (t.holds n)) 5 (t.fastAt n)

/-- The follower f of tile t and the domain it follows. -/
def folIx (t f : Nat) : Nat := 4 * t + f
def State.folDom (s : State) (t f : Nat) : Nat := s.fld .folCtrl 4 4 t f
def State.folOn (s : State) (t f : Nat) : Bool := s.flag .folCtrl 0 t f

/-- The time of a tile: its copy, which stands still for it in a debug halt and with the tile clock stopped (R85, R86, R110). -/
def State.tileClock (s : State) (t : Nat) : Stamp :=
  if (s.switching.at none t).isSome then s.clock t else (s.stopAt.at none t).getD (s.clock t)

/-- FOL_ANGLE: of a disabled follower what it held when EN was cleared (R73). -/
def State.folAngle (s : State) (t f : Nat) : Word :=
  if s.folOn t f then toW (acOf ((s.fol (folIx t f)).angleAt (nsOf (s.tileClock t))) (s.cycleLen (s.folDom t f)))
  else s.rd .folAngle t f

/-- FOL_STAT (R73). -/
def State.folStat (s : State) (t f : Nat) : Word :=
  let w := s.rd .folStat t f
  if !s.folOn t f then putF w 0 5 0
  else
    let tr := s.fol (folIx t f)
    let n := nsOf (s.tileClock t)
    putF w 0 5 (s.domState (s.folDom t f) + 8 * b2n (tr.holds n) + 16 * b2n (tr.fastAt n))

end Sys2Proof.Machine
end

