-- ==== Sys2Proof/Machine/Channel.lean ====
section
/-! DEFINITION. Channels (03, 04): counting, matching, output resolution, the phase accumulator, dither, shadows and
hand-over, ratio mode, bridge pairs and blanking windows. -/

namespace Sys2Proof.Machine

/-! ## The tile summary -/

/-- CH_STAT with its derived bits: SAFE while the tile is HELD or FAILED, HELD while a driven pin's latch is closed. -/
def State.chStatView (s : State) (t c : Nat) : Word :=
  let w := s.rd .chStat t c
  let w := if s.flag .chCtrl 3 t (c - c % 2) then putB w 2 (s.flag .chStat 2 t (c - c % 2)) else w
  let w := putB w 9 (getB w 9 || s.held t || s.isFailed t || (s.pinsOf t c).any (fun p => s.flag .pmPin 26 p))
  putB w 11 ((s.pinsOf t c).any (fun p => s.padClosed p))

/-- TILE_SUM. A slot in error (R78) shows until the slot is loaded again (DESIGN CHOICE, log entry 90). -/
def State.tileSum (s : State) (t : Nat) : Nat :=
  let ch := (List.range 8).foldl (fun a c =>
    a + b2n (decide ((s.chStatView t c &&& s.rd .chIen t c) ≠ 0)) * 2 ^ c) 0
  let sl := (List.range 16).any (fun k => (s.slotX (16 * t + k)).noEffect)
  ch + b2n sl * 256 + b2n (s.fld .tripStat 0 8 t ≠ 0) * 512

/-- `f` acts on a tile: source t is raised when TILE_SUM goes from 0 to non-zero. -/
def State.withSum (s : State) (t : Nat) (f : State → State) : State :=
  let s' := f s
  if s.tileSum t = 0 ∧ s'.tileSum t ≠ 0 then s'.raise t else s'

/-- A dropped write: CH_STAT.CFG_ERR and CH_ERRCNT.CFG_DROP (R64). -/
def State.chDrop (s : State) (t c : Nat) : State := (s.setFlag .chStat 10 true t c).bump .chErrcnt 8 8 t c

/-! ## Pairs and the active set -/

/-- The channel belongs to a linked pair (R65). -/
def State.linked (s : State) (t c : Nat) : Bool := s.flag .chCtrl 3 t (c - c % 2)

/-- The channel that governs c: the even one of a linked or bridge pair. -/
def State.lead (s : State) (t c : Nat) : Nat := if s.linked t c || s.bridged t c then c - c % 2 else c

/-- CH_CTRL.MODE; that of the odd channel of a linked or bridge pair is ignored (R65, R99). -/
def State.modeF (s : State) (t c : Nat) : Nat := if s.lead t c = c then s.fld .chCtrl 0 3 t c else 0

/-- How the counter runs: by MODE, and in a BURST as UP_WRAP (R54, R76). -/
def State.mode (s : State) (t c : Nat) : Nat := if 0 < (s.chan (8 * t + c)).burst then 1 else s.modeF t c

/-- The channels that run and stop together with a governing channel (R65, R99). -/
def State.pairOf (s : State) (t c : Nat) : List Nat := if s.linked t c || s.bridged t c then [c, c + 1] else [c]

/-- Course of tile t: a condition of R84 changes at present. -/
def State.noteCourse (s : State) (t : Nat) : State := { s with courseAt := s.courseAt.set 0 (t / 8) s.now }

/-- CH_STAT.RUN of a channel and its partner. -/
def State.setRun (s : State) (t c : Nat) (b : Bool) : State :=
  (s.withUnit t (fun s => s.each (s.pairOf t c) (fun s c => s.setFlag .chStat 0 b t c))).noteCourse t

/-- A value of one register, or of a linked pair the 64-bit value (R65). -/
def State.wide (s : State) (n : RegName) (t c : Nat) : Nat :=
  (s.rd n t c).toNat + if s.linked t c && c % 2 == 0 then (s.rd n t (c + 1)).toNat * 2 ^ 32 else 0

def State.setWide (s : State) (n : RegName) (v t c : Nat) : State :=
  let s' := s.wr n (toW v) t c
  if s.linked t c && c % 2 == 0 then s'.wr n (toW (v / 2 ^ 32)) t (c + 1) else s'

/-- Tile cycles per count (R54). -/
def State.presc (s : State) (t c : Nat) : Nat := s.fld .chPresc 0 16 t c + 1

/-- The start limit of R56. -/
def periodMin (mode : Nat) : Nat := match mode with | 1 | 3 | 4 => 1 | 2 => 2 | _ => 0

/-- Whether the period in column n of the dither pattern has the extra tick for k (R91). -/
def ditherBit (k n : Nat) : Nat := b2n (decide (bitRev 4 n < k))

/-- What a step is judged by: the active set with the fine parts of the present period (R89, R90). -/
structure Judge where
  mode : Nat
  top : Nat
  ca : Nat
  fa : Nat
  cb : Nat
  fb : Nat
  act : Word
  deriving DecidableEq, Repr

/-- A compare of UPDOWN whose fine part reaches 16 lies at fine 0 of the next count (R90). -/
def normCmp (mode c f : Nat) : Nat × Nat := if mode = 2 ∧ f = 16 then (c + 1, 0) else (c, f)

/-- The judge of a period with the dither column of DPHASE = dph (R89, R90) and PERIOD `top`. -/
def State.judgeWith (s : State) (t c dph top : Nat) : Judge :=
  let m := s.mode t c
  let fr := s.rd .chAfrac t c
  let fine := s.presc t c == 1
  let f (lo : Nat) := if fine then getF fr lo 4 + ditherBit (getF fr (lo + 4) 4) dph else 0
  let (ca, fa) := normCmp m (s.wide .chAcmpa t c) (f 8)
  let (cb, fb) := normCmp m (s.wide .chAcmpb t c) (f 16)
  { mode := m, top := top, ca := ca, fa := fa, cb := cb, fb := fb, act := s.rd .chAact t c }

/-- DPHASE. -/
def State.dphase (s : State) (t c : Nat) : Nat := s.fld .chPwmstat 0 4 t c

/-- The judge of the present period. -/
def State.judgeOf (s : State) (t c : Nat) : Judge := s.judgeWith t c (s.dphase t c) (s.chan (8 * t + c)).top

/-- How a compare of whole value C and fine part f matches at the step to `cnt`: direction down, and fine ticks after
the step (R57, R88). `down`: the step counted down; a step to 0 of UPDOWN, the start's too, counts as down. -/
def Judge.cmp (j : Judge) (c f cnt : Nat) (down : Bool) : Option (Bool × Nat) :=
  if j.top < c then none
  else if j.mode ≠ 2 then (if cnt = c then some (false, f) else none)
  else if c = j.top ∧ 0 < f then none
  else if !down && cnt == c && cnt != 0 then some (false, f)
  else if f = 0 then (if down && cnt == c then some (true, 0) else none)
  else if cnt = c + 1 ∧ (down = true ∨ cnt = j.top) then some (true, 16 - f)
  else none

/-- The action field of a match: A_UP, A_DN, B_UP, B_DN at bit `lo` on. -/
def Judge.cmpAct (j : Judge) (lo : Nat) (m : Option (Bool × Nat)) : Nat × Nat :=
  match m with
  | none => (0, 0)
  | some (dn, f) => (getF j.act (lo + if dn then 2 else 0) 2, f)

/-- The step's deciding source (R59): its order number, action and fine ticks; 0 for no action. -/
def Judge.decides (j : Judge) (cnt : Nat) (down : Bool) : Nat × Nat × Nat :=
  let (b, fb) := j.cmpAct 4 (j.cmp j.cb j.fb cnt down)
  let (a, fa) := j.cmpAct 0 (j.cmp j.ca j.fa cnt down)
  let e := if cnt = 0 then getF j.act 10 2 else if cnt = j.top then getF j.act 8 2 else 0
  if b ≠ 0 then (16, b, fb) else if a ≠ 0 then (17, a, fa) else if e ≠ 0 then (18, e, 0) else (99, 0, 0)

/-- The compare of BEYOND_A and BEYOND_B never matches (R57, R88). -/
def Judge.beyond (j : Judge) (c f : Nat) : Bool := decide (j.top < c) || (j.mode == 2 && c == j.top && decide (0 < f))

/-- CH_PWMSTAT with BEYOND_A and BEYOND_B, which a channel in ANGLE_MATCH does not have. A stopped channel is judged by its
active PERIOD. -/
def State.pwmstatView (s : State) (t c : Nat) : Word :=
  let w := s.rd .chPwmstat t c
  if s.mode t c = 5 then w
  else
    let j := s.judgeWith t c (s.dphase t c) (if s.running t c then (s.chan (8 * t + c)).top else s.wide .chAperiod t c)
    putB (putB w 4 (j.beyond j.ca j.fa)) 5 (j.beyond j.cb j.fb)

/-! ## Output resolution -/

/-- A source of order `rank` acts in tile cycle n (R59, R60): the action, 1 HIGH, 2 LOW, 3 TOGGLE; `fine` ticks after the
cycle; `base` what a TOGGLE inverts where that is not the level of the previous cycle. The second result is the edge. -/
def Chan.decide (c : Chan) (n rank act fine : Nat) (base : Option Bool := none) : Chan × Option (Bool × Stamp) :=
  if act = 0 ∨ (n = c.cyc ∧ c.rank ≤ rank) then (c, none)
  else
    let p := if n = c.cyc then c.prev else c.level
    let l := match act with | 1 => true | 2 => false | _ => !(base.getD p)
    let e := toS (16 * n + fine)
    let c := { c with prev := p, cyc := n, rank := rank, level := l, tripHold := if 18 < rank then c.tripHold else false }
    if l = p then (c, none) else ({ c with edgeAt := e, edgeUp := l }, some (l, e))

/-- A placed edge of channel c is launched (R42), and opens or restarts the blanking windows that name it, which hold the
filter reset (R106). -/
def State.blank (s : State) (t c : Nat) (e : Stamp) : State :=
  (s.launch t c e).each [0, 1] (fun s i =>
    let len := if i = 0 then s.fld .tripCtrlA 16 13 t else s.fld .tripCtrlB 16 13 t
    let on := if i = 0 then s.flag .tripBlankA c t else s.flag .tripBlankB c t
    if on && decide (0 < len) then
      s.setTrip (2 * t + i) { s.trip (2 * t + i) with blankEnd := toS (e.toNat + 16 * len), blanking := true, accepted := false }
    else s)

/-! ## Bridge pairs -/

/-- The dead time before a side rises: DT_RISE for H, DT_FALL for L (R100). -/
def Bridge.deadTime (b : Bridge) (high : Bool) : Nat := getF b.dt (if high then 0 else 16) 16

/-- BR_STAT bit of a side. -/
def sideBit (high : Bool) : Nat := if high then 24 else 25

def State.sideOn (s : State) (t p : Nat) (high : Bool) : Bool := s.flag .brStat (sideBit high) t p

/-- A side rises or falls at `e`: its edge opens blanking windows. -/
def State.setSide (s : State) (t p : Nat) (high on : Bool) (e : Stamp) : State :=
  if s.sideOn t p high == on then s
  else (s.setFlag .brStat (sideBit high) on t p).blank t (2 * p + if high then 0 else 1) e

/-- An absence counts (R100). -/
def State.absent (s : State) (t p : Nat) (high : Bool) : State := s.bump .brStat (if high then 0 else 8) 8 t p

/-- Both sides LOW, and the side the command selects rises after its dead time: a start (R102), and the end of a trip
hold (R107). -/
def State.bridgeStart (s : State) (t p : Nat) (e : Stamp) : State :=
  let b := s.bridge (4 * t + p)
  let cmd := (s.chan (8 * t + 2 * p)).level
  let s := (s.setSide t p true false e).setSide t p false false e
  s.setBridge (4 * t + p) { b with
    cmd := cmd, fellAt := e, ext := none, due := some (cmd, toS (e.toNat + b.deadTime cmd)) }

/-- Both sides LOW for good: a stop (R102). -/
def State.bridgeStop (s : State) (t p : Nat) (e : Stamp) : State :=
  let s := (s.setSide t p true false e).setSide t p false false e
  s.setBridge (4 * t + p) { s.bridge (4 * t + p) with due := none, ext := none, fellAt := e }

/-- The trip level kept after a clear ends on both channels of a pair (R107). -/
def State.endTripHold (s : State) (t p : Nat) : State :=
  (s.onChan (8 * t + 2 * p) (fun c => { c with tripHold := false })).onChan (8 * t + 2 * p + 1)
    (fun c => { c with tripHold := false })

def State.pairTripHold (s : State) (t p : Nat) : Bool :=
  (s.chan (8 * t + 2 * p)).tripHold || (s.chan (8 * t + 2 * p + 1)).tripHold

/-- A command edge of a pair (R100, R101). A side that waited rises before the edge if its on-time up to it reaches MINPW and is
above 0, and is else absent. A side that would fall less
than MINPW after its rise falls at the rise plus MINPW; an extension the command has selected again is dropped
(DEDUCED, log entry 12). -/
def State.bridgeEdge (s : State) (t p : Nat) (up : Bool) (e : Stamp) : State :=
  if s.pairTripHold t p then (s.endTripHold t p).bridgeStart t p e
  else
    let k := 4 * t + p
    let s := match (s.bridge k).due with
      | none => s
      | some (side, w) =>
        if side = up then s
        else if (s.bridge k).ext.isNone ∧ w.toNat + max 1 ((s.bridge k).minpw.toNat % 65536) ≤ e.toNat then
          (s.setBridge k { s.bridge k with due := none, roseAt := w }).setSide t p side true w
        else s.absent t p side
    let b := s.bridge k
    if s.sideOn t p up then s.setBridge k { b with cmd := up, due := none, ext := none }
    else if s.sideOn t p (!up) then
      let minEnd := b.roseAt.toNat + b.minpw.toNat % 65536
      if e.toNat < minEnd then
        s.setBridge k { b with cmd := up, ext := some (!up, toS minEnd), due := some (up, toS (minEnd + b.deadTime up)) }
      else
        (s.setSide t p (!up) false e).setBridge k { b with
          cmd := up, fellAt := e, ext := none, due := some (up, toS (e.toNat + b.deadTime up)) }
    else
      s.setBridge k { b with
        cmd := up, ext := none, due := some (up, toS (max e.toNat b.fellAt.toNat + b.deadTime up)) }

/-- A source acts on a channel's output, with what its edge does: shaping in a bridge pair, else blanking. -/
def State.drive (s : State) (t c n rank act fine : Nat) (base : Option Bool := none) : State :=
  let g := 8 * t + c
  let old := s.chan g
  let (c', e) := old.decide n rank act fine base
  if s.bridged t c then
    let s := s.setChan g { c' with tripHold := old.tripHold }
    match e with
    | some (up, e) => s.bridgeEdge t (c / 2) up e
    | none => s
  else
    let s := s.setChan g c'
    match e with
    | some (_, e) => s.blank t c e
    | none => s

/-! ## The active set: start, hand-over, ratio mode -/

/-- A compare in ratio mode (R98): whole value, fine part, dither value. -/
def ratioCmp (len ratio : Nat) (fine : Bool) : Nat × Nat × Nat :=
  let x := ratio * len / 65536 % 2 ^ 32
  if fine then (x / 256, x / 16 % 16, x % 16) else (x / 256, 0, 0)

/-- The shadow set copied to the active set as one (R94), with the compares of ratio mode derived (R98), and the pair's
BR_DT and BR_MINPW (R92). -/
def State.copySet (s : State) (t c : Nat) : State :=
  let m := s.modeF t c
  let s := s.setWide .chAperiod (s.wide .chPeriod t c) t c
  let s := s.setWide .chAcmpa (s.wide .chCmpa t c) t c
  let s := s.setWide .chAcmpb (s.wide .chCmpb t c) t c
  let s := s.wr .chAfrac (s.rd .chFrac t c) t c
  let s := s.wr .chAact (s.rd .chAct t c) t c
  let fr := s.rd .chFrac t c
  let per := s.wide .chPeriod t c
  let len := if m = 2 then per * 256 else (per + 1) * 256 + getF fr 0 4 * 16 + getF fr 4 4
  let fine := s.presc t c == 1
  let s :=
    if m ≠ 5 ∧ s.flag .chPwmctrl 0 t c then
      let (w, f, k) := ratioCmp len (s.fld .chRatio 0 16 t c) fine
      (s.setWide .chAcmpa w t c).wr .chAfrac (putF (putF (s.rd .chAfrac t c) 8 4 f) 12 4 k) t c
    else s
  let s :=
    if m ≠ 5 ∧ s.flag .chPwmctrl 1 t c then
      let (w, f, k) := ratioCmp len (s.fld .chRatio 16 16 t c) fine
      (s.setWide .chAcmpb w t c).wr .chAfrac (putF (putF (s.rd .chAfrac t c) 16 4 f) 20 4 k) t c
    else s
  let p := c / 2
  if c % 2 = 0 then
    s.setBridge (4 * t + p) { s.bridge (4 * t + p) with dt := s.rd .brDt t p, minpw := s.rd .brMinpw t p }
  else s

/-- PENDING is 1 and was sampled at the end of cycle r - 1 (R94). -/
def State.pendingBy (s : State) (t c r : Nat) : Bool :=
  s.flag .chStat 2 t c && decide ((s.chan (8 * t + c)).pendNs < r)

/-- The hand-over of reload cycle r, where PENDING was sampled; refused whole for a PERIOD below the start limit. The
reload ends a trip level kept after a clear (R107). Only a hand-over that copies shuts the shadow for its cycle: a write in the
cycle of a refused one is taken (DESIGN CHOICE, log entry 91). -/
def State.handOver (s : State) (t c r : Nat) : State :=
  let g := 8 * t + c
  let s :=
    if s.bridged t c then
      (if s.pairTripHold t (c / 2) then (s.endTripHold t (c / 2)).bridgeStart t (c / 2) (toS (16 * r)) else s)
    else s.onChan g (fun k => { k with tripHold := false })
  if !s.pendingBy t c r then s
  else
    let s := s.setFlag .chStat 2 false t c
    if s.wide .chPeriod t c < periodMin (s.mode t c) then s.chDrop t c
    else (s.copySet t c).onChan g (fun k => { k with handNs := r })

/-! ## Steps -/

/-- The flags of a step: TOP, BOT, MATCHA, MATCHB (CH_STAT), its deciding source, and the event it offers to the log
(R242); `fin`: the step that ends a ONE_SHOT, which is no stop of R96: a set that is PENDING then stays so until the next start
(DESIGN CHOICE, log entry 91). -/
def State.judgeStep (s : State) (t c n cnt : Nat) (down : Bool) (base : Option Bool := none) (fin : Bool := false) :
    State :=
  let j := s.judgeOf t c
  let top := cnt == j.top
  let bot := cnt == 0
  let ma := (j.cmp j.ca j.fa cnt down).isSome
  let mb := (j.cmp j.cb j.fb cnt down).isSome
  let s := s.when top (·.setFlag .chStat 3 true t c)
  let s := s.when bot (fun s => (s.setFlag .chStat 4 true t c).bumpW .chEvcnt 16 16 t c)
  let s := s.when ma (·.setFlag .chStat 5 true t c)
  let s := s.when mb (·.setFlag .chStat 6 true t c)
  let s := s.when fin (fun s => (s.setRun t c false).setFlag .chStat 1 true t c)
  let (rank, act, fine) := j.decides cnt down
  let acc := if s.presc t c = 1 then (s.chan (8 * t + c)).acc else 0
  let s := s.drive t c n rank act (fine + acc) base
  let flags := b2n top + 2 * b2n bot + 4 * b2n ma + 8 * b2n mb + 16 * b2n fin
  if flags = 0 then s
  else s.offer 1 (8 * t + c) (toW (s.fld .chEvcnt 16 16 t c + flags * 65536)) 0 (toS (16 * n + acc))

/-- PERIOD_FINE with the dither of a period with column dph, which the step to 0 adds to ACC at P = 1 (R61, R87, R90). -/
def State.fineAt (s : State) (t c dph : Nat) : Nat :=
  if s.presc t c = 1 then s.fld .chAfrac 0 4 t c + ditherBit (s.fld .chAfrac 4 4 t c) dph else 0

/-- That of the present period. -/
def State.fineStep (s : State) (t c : Nat) : Nat := s.fineAt t c (s.dphase t c)

/-- DPHASE steps (R89). -/
def State.ditherStep (s : State) (t c : Nat) : State :=
  s.setFld .chPwmstat 0 4 (s.fld .chPwmstat 0 4 t c + 1) t c

/-- The step to 0 of a running carrier, in cycle r: ACC as given, hand-over, dither phase, then the step's actions. In UPDOWN a
hold for ACC follows the step (R87), which is the reload cycle all the same (DESIGN CHOICE, log entry 91). -/
def State.stepZero (s : State) (t c r acc : Nat) : State :=
  let g := 8 * t + c
  let s := s.onChan g (fun k => { k with acc := acc, hold := false, down := false, stepNs := r })
  let s := (s.handOver t c r).ditherStep t c
  let s := s.onChan g (fun k => { k with top := s.wide .chAperiod t c })
  (s.setWide .chCount 0 t c).judgeStep t c r 0 true

/-- One counter step in tile cycle r. -/
def State.countStep (s : State) (t c r : Nat) : State :=
  let g := 8 * t + c
  let k := s.chan g
  let cnt := s.wide .chCount t c
  let m := s.mode t c
  if m = 2 then
    if cnt = 0 ∧ !k.hold ∧ 16 ≤ k.acc then s.setChan g { k with hold := true, acc := k.acc - 16, stepNs := r }
    else if k.down then
      if cnt ≤ 1 then s.stepZero t c r (k.acc + s.fineStep t c)
      else
        let s := (s.setWide .chCount (cnt - 1) t c).setChan g { k with stepNs := r }
        s.judgeStep t c r (cnt - 1) true
    else
      let n := cnt + 1
      let s := (s.setWide .chCount n t c).setChan g { k with stepNs := r, hold := false, down := decide (k.top ≤ n) }
      let s := s.when (decide (k.top ≤ n) && s.flag .chCtrl 11 t c) (·.handOver t c r)
      s.judgeStep t c r n false
  else if m = 3 then
    let n := cnt + 1
    let s := (s.setWide .chCount n t c).setChan g { k with stepNs := r }
    s.judgeStep t c r n false none (decide (k.top ≤ n))
  else if cnt < k.top then
    let s := (s.setWide .chCount (cnt + 1) t c).setChan g { k with stepNs := r }
    s.judgeStep t c r (cnt + 1) false
  else
    let sum := k.acc + s.fineStep t c
    if !k.hold ∧ 16 ≤ sum then s.setChan g { k with hold := true, stepNs := r }
    else if k.burst = 1 then s
    else (s.setChan g { k with burst := k.burst - 1 }).stepZero t c r (sum % 16)

/-! ## Prediction of the next command edge (R100) -/

/-- The counts at which anything can act. -/
def Judge.counts (j : Judge) : List Nat := [0, j.ca, j.ca + 1, j.cb, j.cb + 1, j.top]

/-- The decisions of one period from its step to 0: offset in counts, action, fine ticks. -/
def Judge.period (j : Judge) : List (Nat × Nat × Nat) :=
  let up := (j.counts.filter (fun n => decide (n ≤ j.top))).map (fun n => (n, n, decide (n = 0)))
  let dn :=
    if j.mode = 2 then (j.counts.filter (fun n => decide (0 < n ∧ n < j.top))).map (fun n => (2 * j.top - n, n, true)) else []
  (up ++ dn).filterMap (fun (o, n, d) =>
    let (_, act, fine) := j.decides n (d && j.mode == 2)
    if act = 0 then none else some (o, act, fine))

/-- The period's decisions, for a step to 0 in cycle `z` with `acc`: cycle of the step, instant of the edge, action; sorted. -/
def periodEvents (ev : List (Nat × Nat × Nat)) (z p acc : Nat) : List (Nat × Nat × Nat) :=
  sortBy (fun a b => decide (a.1 ≤ b.1)) (ev.map (fun (o, act, fine) => (z + o * p, 16 * (z + o * p) + fine + acc, act)))

/-- The first instant at or after `w` at which the level becomes `want`, walking the decisions from `level`. -/
def firstLevel (want : Bool) (w : Nat) : Bool → List (Nat × Nat × Nat) → Option Nat
  | _, [] => none
  | l, (_, e, act) :: r =>
    let l' := match act with | 1 => true | 2 => false | _ => !l
    if l' = want ∧ l ≠ want ∧ w ≤ e then some e else firstLevel want w l' r

/-- The instant of the next command edge to `want` at or after w: from the active set now in force, over the rest of this
period and the two that follow, each with its dither column; none where the command holds. -/
def State.nextCommand (s : State) (t c : Nat) (want : Bool) (w : Nat) : Option Nat :=
  let k := s.chan (8 * t + c)
  let j := s.judgeOf t c
  let p := s.presc t c
  let cnt := s.wide .chCount t c
  let up := j.mode ≠ 2
  let off := if up then cnt + b2n k.hold else if k.down ∧ cnt ≠ j.top then 2 * j.top - cnt else cnt
  let holds := !up && decide (16 ≤ k.acc)
  let acc := if p = 1 then k.acc % 16 else 0
  let z := k.stepNs + (if holds ∨ (k.hold ∧ !up ∧ cnt = 0) then p else 0) - off * p
  let now := periodEvents j.period z p acc |>.filter (fun e => decide (k.stepNs < e.1))
  let dph := s.dphase t c
  let top := s.wide .chAperiod t c
  let next (z acc len d : Nat) : Nat × Nat :=
    let sum := acc + s.fineAt t c d
    (z + len * p + (if 16 ≤ sum then p else 0), sum % 16)
  let len (top : Nat) := if up then top + 1 else 2 * top
  let (z1, a1) := next z acc (len j.top) dph
  let e1 := periodEvents (s.judgeWith t c (dph + 1) top).period z1 p a1
  let (z2, a2) := next z1 a1 (len top) (dph + 1)
  let e2 := periodEvents (s.judgeWith t c (dph + 2) top).period z2 p a2
  firstLevel want w k.level (now ++ e1 ++ e2)

/-! ## Starting and stopping -/

/-- A start in tile cycle n with ACC = acc (R56, R58, R63, R65, R70, R89, R99): refused for a short PERIOD, and for a
MODE that a linked or bridge pair does not allow. The INIT level decides last, against the level of the cycle before (R58). The
start is the reload of a ONE_SHOT, which ends a trip level kept after a clear (R107). -/
def State.startOne (s : State) (t c n acc : Nat) : State :=
  let g := 8 * t + c
  let m := s.modeF t c
  let pairOk := (!s.linked t c || m == 1 || m == 3 || m == 4) && (!s.bridged t c || m == 1 || m == 2)
  if m = 0 ∨ 5 < m then s
  else if s.wide .chPeriod t c < periodMin m ∨ !pairOk then s.setFlag .chStat 10 true t c
  else
    let fine := s.presc t c == 1
    let s := (s.onChan g (fun k => { k with burst := 0, capPrev := none, delayEnd := 0 })).setRun t c true
    let s := s.setFlag .chStat 2 false t c
    let s := s.each (s.pairOf t c) (fun s c => s.setFlag .chStat 9 false t c)
    let s := s.copySet t c
    let s := s.setFld .chPwmstat 0 4 0 t c
    let old := s.chan g
    let init := s.fld .chCtrl 12 2 t c
    let level := match init with | 0 => false | 1 => true | _ => old.level
    let a := if fine then acc else 0
    let s := s.setChan g { old with
      acc := a, down := false, hold := false, stepNs := n, top := s.wide .chAperiod t c
      level := level, prev := if old.cyc = n then old.prev else old.level, cyc := n, rank := 99
      tripHold := old.tripHold && m != 3 }
    let s := if m = 5 then s else (s.setWide .chCount 0 t c).judgeStep t c n 0 true (some level)
    let s := s.drive t c n 98 (if level then 1 else 2) a
    if s.bridged t c then s.bridgeStart t (c / 2) (toS (16 * n + a)) else s

/-- The channels that a start or stop mask names, pairs once by their even channel (R65, R99). -/
def State.named (s : State) (t mask : Nat) : List Nat :=
  (List.range 8).filter (fun c =>
    if s.lead t c ≠ c then false
    else if s.linked t c || s.bridged t c then mask.testBit c || mask.testBit (c + 1)
    else mask.testBit c)

/-- The channels of a mask start in tile cycle n; one that runs is left running, with CFG_ERR (R69). -/
def State.startMask (s : State) (t mask n acc : Nat) : State :=
  s.withSum t (fun s => s.each (s.named t mask) (fun s c =>
    if s.running t c then s.setFlag .chStat 10 true t c else s.startOne t c n acc))

/-- A stop in tile cycle n: a pending set is handed over, the counter and ACC freeze, and pins go to SAFE under
STOP_SAFE (R72, R96, R102). -/
def State.stopOne (s : State) (t c n : Nat) : State :=
  if !s.running t c then s
  else
    let s := if s.flag .chStat 2 t c then
        let s := s.setFlag .chStat 2 false t c
        if s.wide .chPeriod t c < periodMin (s.mode t c) then s.chDrop t c else s.copySet t c
      else s
    let s := s.setRun t c false
    let s := if s.bridged t c then s.bridgeStop t (c / 2) (toS (16 * n)) else s
    s.each ((s.pairOf t c).filter (fun c => s.flag .chCtrl 14 t c)) (fun s c =>
      (s.setFlag .chStat 9 true t c).each (s.pinsOf t c) (fun s p => s.setFlag .pmPin 26 true p))

/-- The channels of a mask stop in tile cycle n. -/
def State.stopMask (s : State) (t mask n : Nat) : State :=
  s.withSum t (fun s => s.each (s.named t mask) (fun s c => s.stopOne t c n))

/-- COMMIT of a mask (R93): PENDING of each running named channel from tile cycle n on. -/
def State.commitMask (s : State) (t mask n : Nat) : State :=
  s.each (s.named t mask) (fun s c =>
    if s.running t c && !s.flag .chStat 2 t c then
      (s.setFlag .chStat 2 true t c).onChan (8 * t + c) (fun k => { k with pendNs := n })
    else s)

end Sys2Proof.Machine
end

