-- ==== Sys2Proof/Machine/Tile.lean ====
section
/-! DEFINITION. The rows of tiles, bridge pairs, trips and the pin matrix (03, 04). Writes act in the first tile cycle
after they arrive: cycle `s.nextNs t`. -/

namespace Sys2Proof.Machine

/-- The tile cycle after the present one. -/
def State.nextNs (s : State) (t : Nat) : Nat := nsOf (s.clock t) + 1

/-! ## Standing still -/

/-- A tile's clock or state stands still: frozen by a debug halt (R85), in a spare switchover (R370), in Doze or deeper
(R86). -/
def State.tileStopped (s : State) (t : Nat) : Bool :=
  s.frozen t || (s.switching.at none t).isSome || decide (2 ≤ s.pstate)

/-- Every timer of a tile put off by d ns: counters, dead times, windows; with `all`, followers and slots as well. -/
def State.shiftTile (s : State) (t d : Nat) (all : Bool) : State :=
  let s := s.each (List.range 8) (fun s c => s.onChan (8 * t + c) (fun k =>
    { k with stepNs := k.stepNs + d, handNs := k.handNs + d, pendNs := k.pendNs + d, cyc := k.cyc + d }))
  let put (e : Stamp) : Stamp := toS (e.toNat + 16 * d)
  let s := s.each (List.range 4) (fun s p =>
    let b := s.bridge (4 * t + p)
    s.setBridge (4 * t + p) { b with
      due := b.due.map (fun x => (x.1, put x.2)), ext := b.ext.map (fun x => (x.1, put x.2))
      roseAt := put b.roseAt, fellAt := put b.fellAt })
  let s := s.each [0, 1] (fun s i =>
    let x := s.trip (2 * t + i)
    if x.blanking then s.setTrip (2 * t + i) { x with blankEnd := put x.blankEnd } else s)
  if !all then s
  else
    let s := s.each (List.range 4) (fun s f =>
      let x := s.fol (4 * t + f)
      s.setFol (4 * t + f) { x with ns := x.ns + d, vns := x.vns + d, seen := x.seen + d })
    s.each (List.range 16) (fun s k =>
      let x := s.slotX (16 * t + k)
      s.setSlotX (16 * t + k) { x with
        fire := x.fire.map put, close := x.close.map put
        openAt := if s.flag .slotCtrl 0 t k then put x.openAt else x.openAt
        openDue := if s.flag .slotCtrl 0 t k then put x.openDue else x.openDue })

/-- Follower f of tile t takes its domain's angle, rate, cap and state as they stand (R73); of a tile that stands still, once it
goes on again. -/
def State.loadFol (s : State) (t f : Nat) : State :=
  let s := s.setFol (folIx t f) (s.dom (s.folDom t f)).traj
  { s with folMiss := markRising s.folMiss (folIx t f) (s.tileStopped t) }

/-- A tile that begins to stand still notes when, and in a debug halt its pins keep their levels; one that goes on again has its
timers put off by the stay. After a
spare switchover what the Drone or an angle times is not put off but delayed by the hold (R370). -/
def State.syncTile (s : State) (t : Nat) : State :=
  match s.stopAt.at none t, s.tileStopped t with
  | none, true =>
    let s := s.when (s.frozen t) (·.stillPins t)
    { s with stopAt := s.stopAt.set none t (some (s.clock t)) }
  | some t0, false =>
    let s := s.freePins (coursePins (t / 8) |>.filter (fun p => (s.pinSrc p).1 == t))
    let s := ({ s with stopAt := s.stopAt.set none t none }).shiftTile t (((s.clock t).toNat - t0.toNat) / 16)
      !(s.holdSpan.at none t).isSome
    s.each ((List.range 4).filter (fun f => s.folOn t f && s.folMiss.contains (folIx t f))) (fun s f => s.loadFol t f)
  | _, _ => s

/-- `syncTile` for every tile. -/
def State.syncTiles (s : State) : State := s.each (List.range 64) State.syncTile

/-- The tile is fitted, its Course is on, and it does not stand still. -/
def State.tileRuns (s : State) (t : Nat) : Bool := decide (t < s.tiles) && !s.tileStopped t && !s.flag .pmBank 2 (t / 8)

/-! ## Counting -/

/-- The angle compares of an ANGLE_MATCH channel in tile cycle n, placed as R75 places a slot (R78). -/
def State.angleCompare (s : State) (t c n : Nat) : State :=
  let f := s.fld .chCtrl 16 2 t c
  let d := s.folDom t f
  let tr := s.fol (folIx t f)
  let len := s.cycleLen d
  if !s.folOn t f || s.fld .domStat 0 3 d ≠ 3 || len = 0 then s
  else
    let a := tr.angleAt n
    let b := tr.angleAt (n + 1)
    let one (s : State) (reg : RegName) (bit lo rank : Nat) : State :=
      let th := (s.rd reg t c).toNat * 65536
      let w := nextAbove a len th
      let j := nextAbove tr.pre len th
      let act := s.fld .chAact lo 2 t c
      if tr.ns = n ∧ j ≤ tr.u then (s.setFlag .chStat bit true t c).drive t c n rank act 0
      else if w ≤ b then
        (s.setFlag .chStat bit true t c).drive t c n rank act ((crossFine n a b w).toNat - 16 * n)
      else s
    one (one s .chAcmpb 6 4 16) .chAcmpa 5 0 17

/-- CHANNEL_STEP (R54): a running channel steps in the tile cycle that its prescaler makes due, if the present one has
reached it. An ANGLE_MATCH channel takes a pending set (R63) and judges its angle compares; in a BURST it reloads at the wraps of
the burst as UP_WRAP does (DESIGN CHOICE, log entry 90). -/
def execChannelStep (g : Fin 512) (ts : Stamp) (s : State) : Host.Outcome State Fault Refusal :=
  let t := tileOf g
  let c := chOf g
  .next (s.happens t ts (fun s => s.tileRuns t && s.running t c && s.lead t c == c) (fun s =>
    s.withSum t (fun s =>
      let n := nsOf ts
      let k := s.chan g
      if s.modeF t c = 5 ∧ k.burst = 0 then
        if k.stepNs < n then
          let s := s.when (s.pendingBy t c n) (·.handOver t c n)
          (s.onChan g (fun k => { k with stepNs := n })).angleCompare t c n
        else s
      else
        let r := k.stepNs + s.presc t c
        if r ≤ n then s.countStep t c r else s)))

/-- CH_CTRL write (R64, R65). -/
def State.writeChCtrl (s : State) (t c : Nat) (v0 : Word) : State :=
  let v := v0 &&& (if c % 2 = 0 then 0x37FFF else 0x37FF7)
  let old := s.rd .chCtrl t c
  let reserved := decide (5 < getF v 0 3) || getF v 4 2 == 3 || getF v 12 2 == 3
  let linkCh := getB v 3 != getB old 3
  let other := s.running t (c + 1 - 2 * (c % 2))
  let locked := s.running t c && (getF v 0 3 != getF old 0 3 || linkCh || getF v 16 2 != getF old 16 2)
  if reserved || locked || (linkCh && other) || (getB v 3 && s.bridged t c) then s.chDrop t c
  else s.wr .chCtrl v t c

/-- CH_PRESC and CH_COUNT, dropped while the channel runs (R64). -/
def State.writeStopped (s : State) (n : RegName) (mask : Word) (t c : Nat) (v : Word) : State :=
  s.withSum t (fun s => if s.running t c then s.chDrop t c else s.wr n (v &&& mask) t c)

/-- The register of a shadow and its writable bits (R92). -/
def shadowReg : ShadowReg → RegName
  | .period => .chPeriod | .cmpa => .chCmpa | .cmpb => .chCmpb | .frac => .chFrac | .act => .chAct
  | .ratio => .chRatio | .pwmctrl => .chPwmctrl | .brDt => .brDt | .brMinpw => .brMinpw

def shadowMask : ShadowReg → Word
  | .frac => 0xFFFFFF | .act => 0xFFF | .pwmctrl => 3 | .brMinpw => 0xFFFF | _ => 0xFFFFFFFF

/-- The active register of a shadow, where it has one of its own. -/
def shadowActive : ShadowReg → Option RegName
  | .period => some .chAperiod | .cmpa => some .chAcmpa | .cmpb => some .chAcmpb | .frac => some .chAfrac
  | .act => some .chAact | _ => none

/-- A write to the shadow set (R63, R95): rejected while PENDING is 1 and in the hand-over cycle, counted on the channel
that governs; to shadow and active while stopped, to the shadow while running. -/
def State.writeShadow (s : State) (t c : Nat) (r : ShadowReg) (v0 : Word) : State :=
  let v := v0 &&& shadowMask r
  let pair := match r with | .brDt | .brMinpw => true | _ => false
  if pair && !s.hasBridge then s
  else
    let l := if pair || s.linked t c then c - c % 2 else c
    let k := s.chan (8 * t + l)
    if s.flag .chStat 2 t l || (k.handNs != 0 && k.handNs == nsOf (s.clock t)) then s.bump .chErrcnt 0 8 t l
    else if pair then
      let s := s.wr (shadowReg r) v t (c / 2)
      if s.running t l then s
      else
        let b := s.bridge (4 * t + c / 2)
        s.setBridge (4 * t + c / 2) { b with dt := s.rd .brDt t (c / 2), minpw := s.rd .brMinpw t (c / 2) }
    else
      let s := s.wr (shadowReg r) v t c
      match shadowActive r with
      | some a => if s.running t l then s else s.wr a v t c
      | none => s

def execShadowWrite (m : Master) (g : Fin 512) (r : ShadowReg) (v : Word) (s : State) :
    Host.Outcome State Fault Refusal :=
  let j := match r with | .brDt | .brMinpw => chOf g / 2 | _ => chOf g
  .next (s.access m (shadowReg r) (tileOf g) j (·.writeShadow (tileOf g) (chOf g) r v))

/-! ## Trip inputs at the ball -/

/-- TRIP_CTRL of an input. -/
def State.tripCtrl (s : State) (t : Nat) (inB : Bool) : Word := if inB then s.rd .tripCtrlB t else s.rd .tripCtrlA t

/-- The pin routed to a trip input, if one is (PM_TRIP). -/
def State.tripPin (s : State) (t : Nat) (inB : Bool) : Option Nat :=
  let lo := if inB then 8 else 0
  if s.flag .pmTrip (lo + 5) t then some (32 * (t / 8) + s.fld .pmTrip lo 5 t) else none

/-- The blanking window of an input is open at the tile's time t (R106, R110). -/
def TripIn.blankAt (x : TripIn) (t : Stamp) : Bool := x.blanking && decide (t.toNat < x.blankEnd.toNat)

/-- The trip input is asserted: enabled, routed, and its pad at the active level (R104). -/
def State.tripIn (s : State) (t : Nat) (inB : Bool) : Bool :=
  match s.tripPin t inB with
  | none => false
  | some p => s.hasBridge && getB (s.tripCtrl t inB) 0 && s.pinIn.at false p == !getB (s.tripCtrl t inB) 1

/-! ## Capture -/

/-- The number of an edge consumer in `State.edges`. -/
def consumerIx : Consumer → Nat
  | .capture g => g
  | .primary d => 512 + d
  | .phase d => 528 + d
  | .phm d i => 544 + 4 * d + i

/-- The pin a consumer watches. -/
def State.consumerPin (s : State) : Consumer → Nat
  | .capture g => 32 * (tileOf g / 8) + s.fld .chCtrl 6 5 (tileOf g) (chOf g)
  | .primary d => s.fld .domIn 0 8 d
  | .phase d => s.fld .domIn 8 8 d
  | .phm d i => s.fld .phmCtrl 16 8 d i

/-- An edge selection field: 0 rising, 1 falling, 2 both. -/
def edgeSel (sel : Nat) (level : Bool) : Bool := sel == 2 || (sel == 0 && level) || (sel == 1 && !level)

/-- The level at a ball changes: a trip input that is no longer asserted is no longer accepted (R107). -/
def State.dropTrips (s : State) (k : Nat) : State :=
  s.each (List.range 16) (fun s i =>
    let x := s.trip (16 * k + i)
    if x.accepted && !s.tripIn (8 * k + i / 2) (i % 2 == 1) then s.setTrip (16 * k + i) { x with accepted := false } else s)
def State.setPin (s : State) (p : Nat) (level : Bool) : State :=
  ({ s with pinIn := s.pinIn.set false p level }).dropTrips (p / 32)

/-- The time of a consumer's filter in ns: IN_FILT of the pin (R66), PRI_FILT as of the last accepted primary edge (R115, R119),
PH_FILT. -/
def State.filterNs (s : State) : Consumer → Nat
  | .capture g => s.fld .pmPin 16 6 (s.consumerPin (.capture g))
  | .primary d => getF (s.dom d).filt 0 10
  | .phase d => getF (s.dom d).filt 16 10
  | .phm d _ => getF (s.dom d).filt 16 10

/-- The island that stamps a consumer's edges: the tile, or the domains'. -/
def consumerIsland : Consumer → Nat
  | .capture g => tileOf g
  | _ => islDomain

/-- The consumer takes an accepted edge of this level: a running CAPTURE channel by CAP_EDGE (R66), a local domain that
is on its primary edges (R115), a cycle domain its phase edges (R124), a phase-measurement input in SYNC (R133). -/
def State.takes (s : State) (c : Consumer) (level : Bool) : Bool :=
  match c with
  | .capture g =>
    let t := tileOf g
    let c := chOf g
    decide (t < s.tiles ∧ s.pstate < 2) && s.running t (s.lead t c) && s.lead t c == c && s.modeF t c == 4 &&
      edgeSel (s.fld .chCtrl 4 2 t c) level
  | .primary d => decide (d.val < s.domains ∧ s.pstate < 3) && s.flag .domCtrl 0 d && !s.flag .domCtrl 2 d
  | .phase d =>
    decide (d.val < s.domains ∧ s.pstate < 3) && s.flag .domCtrl 0 d && !s.flag .domCtrl 2 d && s.flag .domIn 16 d && !s.flag .domCtrl 1 d
  | .phm d i =>
    decide (d.val < s.domains ∧ s.pstate < 3) && s.flag .phmCtrl 0 d i && s.fld .domStat 0 3 d == 3 && edgeSel (s.fld .phmCtrl 1 2 d i) level

/-- An input filter judges, at `ts`, an edge that came at `since` and has stood since then without a break: it is accepted once
it has stood for the filter time (R115, R66). The pad is at the new level. A domain takes the edge with its stamp corrected by
the pin skew trim; a capture keeps the instant until it lands, and loses the second edge of one tile cycle (R68). -/
def execInputFilterAccept (consumer : Consumer) (level : Bool) (since ts : Stamp) (s : State) :
    Host.Outcome State Fault Refusal :=
  let s := (s.reachIn (consumerIsland consumer) ts).setPin (s.consumerPin consumer) level
  let ix := consumerIx consumer
  .next (
    if !s.takes consumer level || decide (ts.toNat < since.toNat + 16 * s.filterNs consumer) then s
    else
      match consumer with
      | .capture g =>
        if (s.chan g).capNs = nsOf since ∧ (s.chan g).capNs ≠ 0 then s.bump .chErrcnt 16 8 (tileOf g) (chOf g)
        else (s.setEdges ix (s.edgesOf ix ++ [(since, level)])).onChan g (fun k => { k with capNs := nsOf since })
      | _ => s.setEdges ix (s.edgesOf ix ++ [(trimmedBy since (s.pinTrim (s.consumerPin consumer)), level)]))

/-- The capture register of an edge (R66): the low word, and the high word with FULL and OVERRUN. -/
def captureWords (e : Stamp) (rising overrun : Bool) : Word × Word :=
  (ns32 e, toW (e.toNat / 2 ^ 36 % 65536 + e.toNat % 16 * 65536 + b2n rising * 2 ^ 20 + b2n overrun * 2 ^ 30 + 2 ^ 31))

/-- CAPTURE_LANDING (R66, R68): 3 tile cycles and the filter time after the edge, corrected by the tap's linearity entry and the
pin skew trim (R42). -/
def execCaptureLanding (g : Fin 512) (ts : Stamp) (s : State) : Host.Outcome State Fault Refusal :=
  let t := tileOf g
  let c := chOf g
  .next (s.happens t ts (fun s => s.tileRuns t) (fun s =>
    match s.edgesOf g with
    | [] => s
    | (at_, up) :: r =>
      if nsOf ts < nsOf at_ + s.filterNs (.capture g) + 3 then s
      else
        let e := trimmedBy at_ (s.edgeTrim (s.physTile t) (fineOf at_) (s.consumerPin (.capture g)))
        s.withSum t (fun s =>
          let full := s.flag .chCapvHi 31 t c
          let (lo, hi) := captureWords e up full
          let gap := match (s.chan g).capPrev with
            | some e' => min 0x7FFFFFFF (nsOf e - nsOf e')
            | none => 0x7FFFFFFF
          let s := s.onChan g (fun k => { k with capPrev := some e })
          let s := s.offer 2 g (toW (gap + b2n up * 2 ^ 31)) 0 e
          let s := ((s.setEdges g r).wr .chCapvLo lo t c).wr .chCapvHi hi t c
          let s := s.when full (·.bump .chErrcnt 24 8 t c)
          (s.bumpW .chEvcnt 0 16 t c).setFlag .chStat 7 true t c)))

/-- The acknowledging read of a capture (R67): the flags clear after it. -/
def State.ackCapture (s : State) (t c : Nat) : State :=
  (s.setFlag .chCapvHi 31 false t c).setFlag .chCapvHi 30 false t c

/-- A read of a low word of a linked quantity: data, and the high word into the reading master's latch (R47). -/
def State.linkedRead (s : State) (m : Master) (lo hi : Word) : State :=
  (s.setRead (masterIx m) lo).setLatch (masterIx m) hi

/-- CAPTURE_ACK_READ (R67). -/
def execCaptureAckRead (m : Master) (g : Fin 512) (s : State) : Host.Outcome State Fault Refusal :=
  let t := tileOf g
  let c := chOf g
  .next (
    if s.tiles ≤ t then s.setRead (masterIx m) 0
    else s.onBus (fun s =>
      let s := s.wakeFor t
      (s.linkedRead m (s.rd .chCapvLo t c) (s.rd .chCapvHi t c)).ackCapture t c))

/-! ## Starting, stopping, committing -/

def execTileStartWrite (m : Master) (t : Fin 64) (mask : BitVec 8) (s : State) : Host.Outcome State Fault Refusal :=
  .next (s.access m .tileStart t 0 (fun s => s.startMask t mask.toNat (s.nextNs t) 0))

/-- The armed time T of a tile (R70): TILE_START_AT as it stands when T is due, not as it stood when the start was armed (DESIGN
CHOICE, log entry 90). -/
def State.armTime (s : State) (t : Nat) : Stamp := stampOf (s.rd .tileStartAtLo t) (s.rd .tileStartAtHi t)

/-- An armed start whose time has passed: in tile cycle n with ACC 0 (R71). -/
def State.lateStart (s : State) (t n : Nat) : State :=
  let mask := s.fld .tileStartArm 0 8 t
  ((s.setFlag .tileStartArm 8 false t).setFlag .tileStat 8 true t).startMask t mask n 0

/-- A write to TILE_START_ARM: arms, replaces, disarms, or starts late (R70, R71). -/
def State.armStart (s : State) (t mask : Nat) : State :=
  let s := s.wr .tileStartArm (toW (mask % 256 + if mask % 256 = 0 then 0 else 256)) t
  if mask % 256 ≠ 0 ∧ nsOf (s.armTime t) < s.nextNs t then s.lateStart t (s.nextNs t) else s

/-- A stop of a mask; an armed start due in the same tile cycle loses the channels stopped (R71). -/
def State.stopTile (s : State) (t mask : Nat) : State :=
  let n := s.nextNs t
  let armed := s.flag .tileStartArm 8 t && nsOf (s.armTime t) == n
  let s := s.stopMask t mask n
  if armed then
    (s.setFlag .tileStartArm 8 false t).startMask t
      ((s.fld .tileStartArm 0 8 t) &&& ((mask ^^^ 255) % 256)) n (fineOf (s.armTime t))
  else s

def execTileStopWrite (m : Master) (t : Fin 64) (mask : BitVec 8) (s : State) : Host.Outcome State Fault Refusal :=
  .next (s.access m .tileStop t 0 (·.stopTile t mask.toNat))

def execTileStartArm (m : Master) (t : Fin 64) (mask : BitVec 8) (s : State) : Host.Outcome State Fault Refusal :=
  .next (s.access m .tileStartArm t 0 (·.armStart t mask.toNat))

/-- The due time of a tile's armed start: T, or after a pad hold that held it up T + H (R370). -/
def State.armDue (s : State) (t : Nat) : Stamp :=
  match s.holdSpan.at none t with
  | some (h0, h1) =>
    let e := (s.armTime t).toNat
    if h0.toNat ≤ e ∧ e < h1.toNat then toS (e + (h1.toNat - h0.toNat)) else s.armTime t
  | none => s.armTime t

/-- ARMED_START (R70, R71): in the nanosecond of T with ACC the fine part of T; later, a late start. -/
def execArmedStart (t : Fin 64) (ts : Stamp) (s : State) : Host.Outcome State Fault Refusal :=
  .next (s.happens t ts (fun s => s.tileRuns t && s.flag .tileStartArm 8 t && decide (nsOf (s.armDue t) ≤ nsOf ts)) (fun s =>
    if nsOf (s.armDue t) = nsOf ts then
      (s.setFlag .tileStartArm 8 false t).startMask t (s.fld .tileStartArm 0 8 t) (nsOf ts) (fineOf (s.armTime t))
    else s.lateStart t (nsOf ts + 1)))

def execTileCommit (m : Master) (t : Fin 64) (mask : BitVec 8) (s : State) : Host.Outcome State Fault Refusal :=
  .next (s.access m .tileCommit t 0 (fun s => s.commitMask t mask.toNat (s.nextNs t)))

/-- What TILE_CTRL.CLR_CNT clears (R8). -/
def State.clrTile (s : State) (t : Nat) : State :=
  let s := s.each (List.range 8) (fun s c => (s.clr .chErrcnt t c).clr .chEvcnt t c)
  let s := s.each (List.range 4) (fun s p => s.setFld .brStat 0 24 0 t p)
  s.clr .tripCnt t

def execTileClrCnt (m : Master) (t : Fin 64) (s : State) : Host.Outcome State Fault Refusal :=
  .next (s.access m .tileCtrl t 0 (·.clrTile t))

/-- A write of TILE_CTRL: DBG_FREEZE, CLR_CNT (R85). -/
def State.writeTileCtrl (s : State) (t : Nat) (v : Word) : State :=
  let s := s.withUnit t (fun s => s.wr .tileCtrl (v &&& 1) t)
  (s.when (getB v 1) (·.clrTile t)).syncTile t

/-! ## Bridge pairs and trips -/

/-- TRIP_LVL gives both channels of a pair HIGH. -/
def bothHigh (lvl : Word) (p : Nat) : Bool := getF lvl (8 * p + 2) 2 == 1 && getF lvl (8 * p + 6) 2 == 1

/-- BR_CTRL.EN (R99). -/
def State.writeBrCtrl (s : State) (t p : Nat) (v : Word) : State :=
  if !s.hasBridge then s
  else
    let c := 2 * p
    let runs := s.running t c || s.running t (c + 1)
    if runs || (getB v 0 && (s.linked t c || bothHigh (s.rd .tripLvl t) p)) then s.withSum t (·.chDrop t c)
    else s.wr .brCtrl (v &&& 1) t p

def execBrCtrlWrite (m : Master) (t : Fin 64) (pair : Fin 4) (v : Word) (s : State) :
    Host.Outcome State Fault Refusal :=
  .next (s.access m .brCtrl t pair (·.writeBrCtrl t pair v))

/-- DEAD_TIME_EXPIRY (R100): the side due rises if its predicted on-time reaches MINPW and is above 0, and else is
absent. -/
def execDeadTimeExpiry (t : Fin 64) (pair : Fin 4) (ts : Stamp) (s : State) : Host.Outcome State Fault Refusal :=
  let k := 4 * t.val + pair.val
  .next (s.happens t ts (fun s => s.tileRuns t && s.bridged t (2 * pair)) (fun s =>
    let b := s.bridge k
    match b.due with
    | none => s
    | some (high, w) =>
      if ts.toNat < w.toNat ∨ b.ext.isSome then s
      else
        let s := s.setBridge k { b with due := none }
        let enough := match s.nextCommand t (2 * pair) (!high) w.toNat with
          | none => true
          | some e => decide (w.toNat + max 1 (b.minpw.toNat % 65536) ≤ e)
        if enough then (s.setBridge k { b with due := none, roseAt := w }).setSide t pair high true w
        else s.absent t pair high))

/-- MINPW_EXTENSION (R101): the side kept on falls at its rise plus MINPW. -/
def execMinpwExtension (t : Fin 64) (pair : Fin 4) (ts : Stamp) (s : State) : Host.Outcome State Fault Refusal :=
  let k := 4 * t.val + pair.val
  .next (s.happens t ts (fun s => s.tileRuns t) (fun s =>
    let b := s.bridge k
    match b.ext with
    | none => s
    | some (high, w) =>
      if ts.toNat < w.toNat then s
      else ((s.setBridge k { b with ext := none, fellAt := w }).setSide t pair high false w).bump .brStat 16 8 t pair))

/-- The channels that select an input (TRIP_LVL). -/
def State.tripChans (s : State) (t : Nat) (inB : Bool) : List Nat :=
  (List.range 8).filter (fun c => s.flag .tripLvl (4 * c + b2n inB) t)

/-- A trip latches for the channels that select the input (R104). -/
def State.latchTrips (s : State) (t : Nat) (inB : Bool) : State :=
  s.each (s.tripChans t inB) (fun s c =>
    ((s.setFlag .tripStat c true t).setFlag .chStat 8 true t c).onChan (8 * t + c) (fun k => { k with tripHold := false }))

/-- The time from a to b in which the tile clocks ran (R111). -/
def State.runTime (s : State) (a b : Nat) : Nat :=
  (b - a) - s.stays.foldl (fun n (t0, t1) => n + (min b t1.toNat - max a t0.toNat)) 0

/-- TRIP_ACCEPT (R104 to R106): the input asserted since `since` without a break has been so for FILT ns outside a
blanking window. Trips stay live in a debug freeze, where an open window stays open (R110), but not with the tile clock stopped,
which no filter counts (R111). -/
def execTripAccept (t : Fin 64) (inB : Bool) (since ts : Stamp) (s : State) : Host.Outcome State Fault Refusal :=
  let i := 2 * t.val + b2n inB
  let s := s.reachIn t ts
  match s.tripPin t inB with
  | none => .next s
  | some p =>
    let s := s.setPin p (!getB (s.tripCtrl t inB) 1)
    let x := s.trip i
    let start := max since.toNat x.blankEnd.toNat
    let filt := max 1 (getF (s.tripCtrl t inB) 8 8)
    .next (
      if !s.tripIn t inB || decide (s.tiles ≤ t.val) || decide (2 ≤ s.pstate) || s.flag .pmBank 2 (t / 8) ||
          x.blankAt (if s.frozen t then s.tileClock t else ts) || decide (s.runTime start ts.toNat < 16 * filt) ||
          (x.accepted && x.since == since) then s
      else
        s.withSum t (fun s =>
          let s := s.setTrip i { x with accepted := true, since := since, blanking := false }
          let s := s.bump .tripCnt (if inB then 16 else 0) 16 t
          let s := if inB then s.wr .tripTimeB (ns32 since) t else s.wr .tripTimeA (ns32 since) t
          s.latchTrips t inB))

/-- TRIP_STAT with the inputs and the open blanking windows. -/
def State.tripStatView (s : State) (t : Nat) : Word :=
  let w := putB (putB (s.rd .tripStat t) 8 (s.tripIn t false)) 9 (s.tripIn t true)
  putB (putB w 10 ((s.trip (2 * t)).blankAt (s.tileClock t))) 11 ((s.trip (2 * t + 1)).blankAt (s.tileClock t))

/-- BLANKING_END (R106): the window closes, and the filter may count again. -/
def execBlankingEnd (t : Fin 64) (inB : Bool) (ts : Stamp) (s : State) : Host.Outcome State Fault Refusal :=
  let i := 2 * t.val + b2n inB
  .next (s.happens t ts (fun s => s.tileRuns t && (s.trip i).blanking && decide ((s.trip i).blankEnd.toNat ≤ ts.toNat)) (fun s =>
    s.setTrip i { s.trip i with blanking := false }))

/-- The input that a channel selects is still accepted (R107). -/
def State.stillTripped (s : State) (t c : Nat) (inB : Bool) : Bool :=
  (s.tripChans t inB).contains c && (s.trip (2 * t + b2n inB)).accepted && s.tripIn t inB

/-- TRIP_STAT.LATCHED written with ones (R107): a latch whose input is still accepted stays and counts again. -/
def State.clearTrips (s : State) (t mask : Nat) : State :=
  if !s.hasBridge then s
  else
    s.withSum t (fun s => s.each ((List.range 8).filter (fun c => mask.testBit c && s.flag .tripStat c t)) (fun s c =>
      let a := s.stillTripped t c false
      let b := s.stillTripped t c true
      if a || b then (s.when a (·.bump .tripCnt 0 16 t)).when b (·.bump .tripCnt 16 16 t)
      else
        ((s.setFlag .tripStat c false t).setFlag .chStat 8 false t c).onChan (8 * t + c)
          (fun k => { k with tripHold := true })))

def execTripClear (m : Master) (t : Fin 64) (mask : BitVec 8) (s : State) : Host.Outcome State Fault Refusal :=
  .next (s.access m .tripStat t 0 (·.clearTrips t mask.toNat))

/-- TRIP_LVL write (R109). -/
def State.writeTripLvl (s : State) (t : Nat) (v : Word) : State :=
  if !s.hasBridge then s
  else
    s.withSum t (fun s =>
      let bad := (List.range 8).filter (fun c => getF v (4 * c + 2) 2 == 3)
      let pairs := (List.range 4).filter (fun p => s.flag .brCtrl 0 t p && bothHigh v p)
      if bad.isEmpty && pairs.isEmpty then s.wr .tripLvl v t
      else (s.each bad (fun s c => s.chDrop t c)).each pairs (fun s p => s.chDrop t (2 * p)))

def execTripLvlWrite (m : Master) (t : Fin 64) (v : Word) (s : State) : Host.Outcome State Fault Refusal :=
  .next (s.access m .tripLvl t 0 (·.writeTripLvl t v))

/-! ## The pin matrix -/

/-- A PM_PIN value carries no reserved encoding: DIR 2-3, SAFE 3, PULL 3 (R403). -/
def pinOk (v : Word) : Bool := decide (getF v 6 2 < 2) && getF v 9 2 != 3 && getF v 13 2 != 3

/-- PM_PIN stored; the write ends a SAFE level left by a stop (R82). -/
def State.storePin (s : State) (p : Nat) (v : Word) : State := (s.wr .pmPin (v &&& 0x3F7FFF) p).freePins [p]

/-- PM_PIN write (R80, R403). -/
def execPmPinWrite (m : Master) (pin : Fin 256) (v : Word) (s : State) : Host.Outcome State Fault Refusal :=
  .next (s.access m .pmPin pin 0 (fun s =>
    if pinOk v then s.storePin pin v else s.accErr m (RegKey.offset ⟨.pmPin, pin, 0⟩) .encoding))

/-- The conditions of R84 for a Course: no channel of its tiles runs, no follower of it is enabled. -/
def State.courseIdle (s : State) (k : Nat) : Bool :=
  (List.range 8).all (fun i =>
    s.runMask (8 * k + i) == 0 && (List.range 4).all (fun f => !s.folOn (8 * k + i) f))

/-- COURSE_POWER_DOWN (R84, R234): once the conditions have held for 10 µs; the pad latches hold every output pin. -/
def execCoursePowerDown (course : Fin 8) (ts : Stamp) (s : State) : Host.Outcome State Fault Refusal :=
  let k := course.val
  .next (s.happens islFabric ts (fun s =>
    decide (k < s.courses) && s.flag .govCtrl 1 && !s.flag .pmBank 2 k && s.courseIdle k &&
      decide ((s.courseAt.at 0 k).toNat + 160000 ≤ ts.toNat)) (fun s =>
    s.withUnits (courseUnits k) (fun s =>
      let s := s.closePads ((coursePins k).filter (fun p => s.fld .pmPin 6 2 p == 1))
      (s.setFlag .pmBank 2 true k).setFlag .govIsl (8 + k) true)))

/-- COURSE_POWER_UP (R84): an access to a powered-down Course. -/
def execCoursePowerUp (course : Fin 8) (s : State) : Host.Outcome State Fault Refusal :=
  .next (s.powerUpCourse course)

/-- ISLAND_WAKE (R17): CE_0 to CE_3, port, Mortar, by the bit of GOV_ISL. -/
def execIslandWake (isl : Fin 6) (s : State) : Host.Outcome State Fault Refusal := .next (s.wakeIsland isl)

/-- BANK_SUPPLY_CHANGE (R388): PM_BANK.PRESENT follows the supply. -/
def execBankSupplyChange (course : Fin 8) (inRange : Bool) (s : State) : Host.Outcome State Fault Refusal :=
  .next (if course.val < s.courses then s.setFlag .pmBank 1 inRange course else s)

end Sys2Proof.Machine
end

