-- ==== Sys2Proof/Machine/Slot.lean ====
section
/-! DEFINITION. Match slots as the tile sees them (R73 to R78): loading, when a slot is due, and what it does to its
channel. The calendar's side stands in Calendar.lean. -/

namespace Sys2Proof.Machine

def slotIx (t k : Nat) : Nat := 16 * t + k
def State.slotValid (s : State) (t k : Nat) : Bool := s.flag .slotCtrl 0 t k
def State.slotCh (s : State) (t k : Nat) : Nat := s.fld .slotCtrl 1 3 t k
def State.slotAct (s : State) (t k : Nat) : Nat := s.fld .slotCtrl 4 4 t k
/-- SLOT_CTRL.PHASE: 0 waiting, 1 open, 2 bursting, 3 done. -/
def State.slotPhase (s : State) (t k : Nat) : Nat := s.fld .slotCtrl 8 2 t k
/-- The index of the slot's entry. -/
def State.slotIdx (s : State) (t k : Nat) : Nat := s.fld .slotCtrl 16 13 t k
def State.onSlot (s : State) (t k : Nat) (f : SlotX → SlotX) : State := s.setSlotX (slotIx t k) (f (s.slotX (slotIx t k)))

/-- The follower of a slot's channel (CH_CTRL.FOL). -/
def State.slotFol (s : State) (t k : Nat) : Nat := s.fld .chCtrl 16 2 t (s.slotCh t k)

/-- The slot may be judged: its follower is enabled and follows the domain of its entry (R78). -/
def State.slotFolOk (s : State) (t k : Nat) : Bool :=
  let f := s.slotFol t k
  s.folOn t f && s.folDom t f == (s.slotX (slotIx t k)).dom

/-- The slots in use of a tile: CAL_SLOTUSE.USED. -/
def State.slotsUsed (s : State) (t : Nat) : Nat := ((List.range 16).filter (fun k => s.slotValid t k)).length

/-- The lowest free slot of a tile (which of the free slots is taken is a DESIGN CHOICE, log entry 14). -/
def State.freeSlot (s : State) (t : Nat) : Option Nat := (List.range 16).find? (fun k => !s.slotValid t k)

/-- The calendar loads a slot; the tile has yet to judge it. -/
def State.fillSlot (s : State) (t k d handle ch act angle delay close guard : Nat) : State :=
  let s := s.wr .slotCtrl (toW (1 + ch * 2 + act * 16 + handle * 65536)) t k
  let s := (s.wr .slotAngle (toW angle) t k).wr .slotDelay (toW (delay % 2 ^ 24)) t k
  let s := (s.wr .slotClose (toW close) t k).wr .slotGuard (toW guard) t k
  let s := s.setSlotX (slotIx t k) { dom := d }
  s.setFld .calSlotuse 8 5 (max (s.fld .calSlotuse 8 5 t) (s.slotsUsed t)) t

/-- A slot frees. -/
def State.dropSlot (s : State) (t k : Nat) : State := (s.setFlag .slotCtrl 0 false t k).setFld .slotCtrl 8 2 3 t k

/-- The tile judges a loaded slot in cycle n (R74): the follower's way to the target d, in ac, at most 262,144, or the
target has passed. A target that the angle has just reached fires in the next cycle (DEDUCED, log entry 15). -/
def State.judgeSlot (s : State) (t k n : Nat) : State :=
  let x := s.slotX (slotIx t k)
  let u := (s.fol (folIx t (s.slotFol t k))).angleAt n
  let len := s.cycleLen x.dom
  let lenAc := len / 65536
  let d := if lenAc = 0 then 0 else ((s.rd .slotAngle t k).toNat + lenAc - acOf u len) % lenAc
  let next : Stamp := toS (16 * (n + 1))
  if 262144 < d then
    (s.setFlag .slotCtrl 12 true t k).onSlot t k (fun x => { x with judged := true, target := u, fire := some next })
  else
    let w := (u / 65536 + d) * 65536
    s.onSlot t k (fun x => { x with judged := true, target := w, fire := if w ≤ u then some next else none })

/-- The crossing of a waiting slot's target, once it is known. -/
def State.slotCross (s : State) (t k : Nat) : Option Stamp :=
  let x := s.slotX (slotIx t k)
  match x.fire with
  | some e => some e
  | none => (s.fol (folIx t (s.slotFol t k))).crossing x.target

/-- When a waiting slot's first edge is due: the crossing plus SLOT_DELAY (R75). -/
def State.slotFireDue (s : State) (t k : Nat) : Option Stamp :=
  if s.slotPhase t k = 0 ∧ (s.slotX (slotIx t k)).judged ∧ (s.slotX (slotIx t k)).clear.isNone then
    (s.slotCross t k).map (fun e => toS (e.toNat + (s.rd .slotDelay t k).toNat))
  else none

/-- When an open slot's own close is due (R76). An angle that the follower crosses before the open edge, delayed by SLOT_DELAY, is
made closes in the tile cycle after that edge (DESIGN CHOICE, log entry 90). -/
def State.slotCloseDue (s : State) (t k : Nat) : Option Stamp :=
  let x := s.slotX (slotIx t k)
  if s.slotPhase t k ≠ 1 ∨ x.clear.isSome then none
  else if s.slotAct t k = 5 then some (toS (x.openDue.toNat + 16 * (s.rd .slotClose t k).toNat))
  else
    let cross := x.close.orElse (fun _ => (s.fol (folIx t (s.slotFol t k))).crossing x.closeU)
    cross.map (fun e => if e.toNat ≤ x.openDue.toNat then toS (16 * (nsOf x.openDue + 1)) else e)

/-- When an open slot's guard is due (R76). -/
def State.guardDue (s : State) (t k : Nat) : Option Stamp :=
  if s.slotPhase t k ≠ 1 ∨ (s.slotX (slotIx t k)).clear.isSome then none
  else some (toS ((s.slotX (slotIx t k)).openDue.toNat + 16 * (s.rd .slotGuard t k).toNat))

/-- The edges of channel c that its slots still owe, as scheduled. -/
def State.slotDues (s : State) (t c : Nat) : List Nat :=
  ((List.range 16).filter (fun k => s.slotValid t k && s.slotCh t k == c)).flatMap (fun k =>
    [s.slotFireDue t k, s.slotCloseDue t k, s.guardDue t k].filterMap (fun o => o.map (·.toNat)))

/-- By how much an edge of channel c due at `e` is delayed by the last pad hold from h0 to h1 (R370): by H where it fell
due in the hold, and after it while a delayed edge of the pin is outstanding. -/
def State.holdDelay (s : State) (t c : Nat) (e : Stamp) : Nat :=
  match s.holdSpan.at none t with
  | none => 0
  | some (h0, h1) =>
    let len := h1.toNat - h0.toNat
    if e.toNat < h0.toNat then 0
    else if e.toNat < h1.toNat then len
    else
      let dues := sortBy (fun a b => decide (a ≤ b)) ((s.slotDues t c).filter (fun d => decide (h0.toNat ≤ d ∧ d < e.toNat)))
      let until_ := dues.foldl (fun u d => if d < h1.toNat ∨ d < u then d + len else u) (s.chan (8 * t + c)).delayEnd.toNat
      if e.toNat < until_ then len else 0

/-- The instant at which an edge due at `e` is made, and whether it was delayed. -/
def State.madeAt (s : State) (t c : Nat) (e : Stamp) : Stamp × Bool :=
  let d := s.holdDelay t c e
  (toS (e.toNat + d), decide (0 < d))

/-- A slot's edge on its channel at instant e: 1 HIGH, 2 LOW, 3 TOGGLE, at the slot's place in R59. -/
def State.slotEdge (s : State) (t k act : Nat) (e : Stamp) (delayed : Bool) : State :=
  let c := s.slotCh t k
  let s := s.drive t c (nsOf e) k act (fineOf e)
  if delayed then
    (s.onChan (8 * t + c) (fun x => { x with delayEnd := e })).onSlot t k (fun x => { x with delayed := true })
  else s

/-- A BURST starts at instant e (R76). -/
def State.burstStart (s : State) (t k : Nat) (e : Stamp) : State :=
  let c := s.slotCh t k
  let n := nsOf e
  let s := s.onChan (8 * t + c) (fun x => { x with
    burst := s.fld .slotGuard 0 16 t k, acc := if s.presc t c = 1 then fineOf e else 0
    down := false, hold := false, stepNs := n, top := s.wide .chAperiod t c })
  ((s.setWide .chCount 0 t c).setFld .chPwmstat 0 4 0 t c).judgeStep t c n 0 true

/-- The instant at which the last period of a burst ends, once the counter stands before its last wrap. -/
def State.burstEnd? (s : State) (t k : Nat) : Option Stamp :=
  let c := s.slotCh t k
  let x := s.chan (8 * t + c)
  let sum := x.acc + s.fineStep t c
  if x.burst = 1 ∧ x.top ≤ s.wide .chCount t c ∧ (x.hold ∨ sum < 16) then
    some (toS (16 * (x.stepNs + s.presc t c) + if s.presc t c = 1 then sum % 16 else 0))
  else if x.burst = 0 then some (toS (16 * x.stepNs))
  else none

/-- A slot's output goes LOW at instant e, and a burst stops. -/
def State.slotLow (s : State) (t k : Nat) (e : Stamp) (delayed : Bool := false) : State :=
  (s.onChan (8 * t + s.slotCh t k) (fun x => { x with burst := 0, hold := false })).slotEdge t k 2 e delayed

/-- The calendar clears a slot, which then does nothing more of its own; the tile makes the clear in cycle n (R77). -/
def State.clearSlot (s : State) (t k n : Nat) : State := s.onSlot t k (fun x => { x with clear := some n })

/-- The crossings that the old segment of follower f made by cycle n - 1, and those of the update it takes in cycle n,
fixed for the slots that wait on it (R75). -/
def State.fixSlots (s : State) (t f n : Nat) (old new : Traj) : State :=
  s.each (List.range 16) (fun s k =>
    if !s.slotValid t k || s.slotFol t k ≠ f then s
    else
      let x := s.slotX (slotIx t k)
      let cross (w : Nat) : Option Stamp :=
        if w ≤ old.angleAt (n - 1) then (old.crossing w).orElse (fun _ => some (toS (16 * n)))
        else if w ≤ new.u then some (toS (16 * n))
        else none
      if s.slotPhase t k = 0 ∧ x.judged ∧ x.fire.isNone then
        let s := s.onSlot t k (fun x => { x with fire := cross x.target })
        if new.jumped ∧ old.angleAt (n - 1) < x.target ∧ x.target ≤ new.u then s.setFlag .slotCtrl 10 true t k else s
      else if s.slotPhase t k = 1 ∧ s.slotAct t k = 4 ∧ x.close.isNone then
        s.onSlot t k (fun x => { x with close := cross x.closeU })
      else s)

end Sys2Proof.Machine
end

