-- ==== Sys2Proof/Machine/Log.lean ====
section
/-! DEFINITION. The signal catalogue and the signal log (10): triggers, records, the ring, drops and the drain by
the host. -/

namespace Sys2Proof.Machine

/-! ## Registers of the log -/

/-- Z (R249). -/
def State.logZ (s : State) : Nat := 2 ^ s.fld .logRing 0 5

/-- LOG_FILL. -/
def State.logFill (s : State) : Nat :=
  let z2 := 2 * s.logZ
  (s.fld .logWr 0 25 + z2 - s.fld .logRd 0 25) % z2

/-- LOG_EVT bit b, source 170 + b. -/
def State.logEvent (s : State) (b : Nat) : State := s.event .logEvt .logIen b (170 + b)

/-- A write counted in LOG_CFGERR with a signal and a status (R244); 0 and 0 for all but refused word-0 writes. -/
def State.logCfgErr (s : State) (sig status : Nat) : State :=
  let n := satNat 7 (s.fld .logCfgerr 17 7 + 1)
  (s.wr .logCfgerr (toW (sig + n * 2 ^ 17 + status % 256 * 2 ^ 24))).logEvent 3

/-! ## Catalogue entries -/

def State.catF (s : State) (lo len sig : Nat) : Nat := s.fld .catW0 lo len sig
def State.catSrc (s : State) (sig : Nat) : Nat := s.catF 0 4 sig

/-- A word-0 write's absent names (R244, R21). -/
def State.catAbsent (s : State) (w0 sel : Word) : Bool :=
  let src := getF w0 0 4
  let trig := getF w0 4 2
  let adom := (getB w0 10 || trig == 2) && decide (s.domains ≤ getF w0 11 4)
  adom || (match src with
    | 1 | 2 => decide (8 * s.tiles ≤ getF sel 0 9)
    | 3 | 6 => decide (s.domains ≤ getF sel 0 4)
    | 4 => decide (s.ports ≤ getF sel 0 5)
    | 5 => decide (32 * s.engines ≤ getF sel 0 7)
    | _ => false)

/-- A word-0 write's reserved codes, ranges and unused bits (R243, R244). -/
def State.catBad (s : State) (w0 sel tp : Word) : Bool :=
  let src := getF w0 0 4
  let trig := getF w0 4 2
  let item := getF sel 4 3
  let unused := match src with
    | 1 | 2 => getF sel 9 23 != 0
    | 3 => getF sel 7 1 != 0 || getF sel 10 22 != 0 || item == 7
    | 4 => getF sel 5 3 != 0 || getF sel 14 18 != 0
    | 5 => getF sel 7 25 != 0
    | 6 => getF sel 4 28 != 0
    | _ => getF sel 26 6 != 0
  let badPhm := src == 3 && item != 5 && item != 6 && getF sel 8 2 != 0
  let item0 := src == 3 && item == 0
  let badTrig := match trig with
    | 0 => tp != 0 || item0
    | 1 => decide (tp.toNat < 100)
    | 2 => decide (s.cycleLen (getF w0 11 4) / 65536 ≤ tp.toNat)
    | _ => src == 1 || src == 6 || item0
  decide (7 < src) || unused || badPhm || badTrig || (getB w0 9 && !getB w0 8)

/-- The status of a word-0 write, with words 1 and 2 as given (R244). -/
def State.catCheck (s : State) (sig : Nat) (w0 sel tp : Word) : Nat :=
  if getF w0 0 4 = 0 then stOk
  else if s.catAbsent w0 sel then stAbsent
  else if s.catBad w0 sel tp then stParam
  else if 8 ≤ ((s.signalsOf (getF w0 0 4) sel.toNat).filter (· ≠ sig)).length then stNospace
  else stOk

/-- An accepted word-0 write: DPHASE, PEND and TOTAL clear, and the signal's history with them. -/
def State.catStore (s : State) (sig : Nat) (w0 : Word) : State :=
  ((s.wr .catW0 (putF w0 24 8 0) sig).wr .catW3 0 sig).onSig sig (fun x => { x with any := false, changed := false })

/-- CATALOGUE_WORD0_WRITE (R244). -/
def State.writeCat0 (s : State) (sig : Nat) (w0 : Word) : State :=
  let st := s.catCheck sig w0 (s.rd .catW1 sig) (s.rd .catW2 sig)
  if st = stOk then s.catStore sig w0 else s.logCfgErr sig st

/-- A write to word 1 or 2, stored only while SRC is OFF (R244). -/
def State.writeCat12 (s : State) (sig : Nat) (word2 : Bool) (v : Word) : State :=
  if s.catSrc sig ≠ 0 then s.logCfgErr 0 0 else s.wr (if word2 then .catW2 else .catW1) v sig

def execCatalogueWord0Write (m : Master) (sig : Fin 131072) (v : Word) (s : State) : Host.Outcome State Fault Refusal :=
  .next (s.access m .catW0 sig 0 (·.writeCat0 sig v))

def execCatalogueWord12Write (m : Master) (sig : Fin 131072) (word2 : Bool) (v : Word) (s : State) :
    Host.Outcome State Fault Refusal :=
  .next (s.access m (if word2 then .catW2 else .catW1) sig 0 (·.writeCat12 sig word2 v))

/-! ## Making records -/

/-- A domain item's present register value (R242). -/
def State.domItem (s : State) (sel : Nat) : Word :=
  let d := sel % 16
  let i := sel / 256 % 4
  match sel / 16 % 8 with
  | 0 => s.domAngle d
  | 1 => s.rd .domTooth d
  | 2 => s.rd .domPeriod d
  | 3 => s.rd .domPredErr d
  | 4 => toW (s.domState d)
  | 5 => s.rd .phmDev d i
  | _ => s.rd .phmAvg d i

/-- CH_COUNT as it reads (R54, "Channel registers"): in ANGLE_MATCH the follower's angle. -/
def State.chCountView (s : State) (t c : Nat) : Word :=
  if s.modeF t c = 5 ∧ (s.chan (8 * t + c)).burst = 0 then s.folAngle t (s.fld .chCtrl 16 2 t c) else s.rd .chCount t c

/-- The sampled value of a signal (R242). -/
def State.sampled (s : State) (sig : Nat) : Word :=
  let sel := (s.rd .catW1 sig).toNat
  match s.catSrc sig with
  | 1 => s.chCountView (sel / 8) (sel % 8)
  | 3 => s.domItem sel
  | 4 => s.rd .portRes (sel % 32) (sel / 256 % 64)
  | src => (s.lastEv.at (0, 0) (evKey src (if src = 5 then 128 * sig + sel else sel))).1

/-- The auxiliary word that goes with a sampled value: that of the last completion, for a CALENDAR signal (R245). -/
def State.sampledAux (s : State) (sig : Nat) : Word :=
  if s.catSrc sig = 6 then (s.lastEv.at (0, 0) (evKey 6 (s.rd .catW1 sig).toNat)).2 else 0

/-- The class limit k of Z, in 1/256 (R252). -/
def State.logT (s : State) (k : Nat) : Nat :=
  match k with | 0 => 256 | 1 => s.fld .logThresh 16 8 | 2 => s.fld .logThresh 8 8 | _ => s.fld .logThresh 0 8

/-- Whether class k drops, because of the ring and because of the queue; LOG_STAT.DROPPING shows either (R252). -/
def State.setDropping (s : State) (k : Nat) (ring queue : Bool) : State :=
  { s with dropping := s.dropping.set (false, false) k (ring, queue) }.setFlag .logStat k (ring || queue)

/-- A record of class k is dropped, by the test of the queue or of the ring: counts, DROPPING, events (R252, R253). -/
def State.logDrop (s : State) (r : LogRec) (queue : Bool) : State :=
  let s := (s.bump .catW3 0 16 r.sig).bump .catW3 16 16 r.sig
  let s := s.bumpW .logCnt 0 32 r.cls
  let s := s.when (!s.flag .logStat r.cls) (·.logEvent 1)
  let (a, b) := s.dropping.at (false, false) r.cls
  let s := s.setDropping r.cls (a || !queue) (b || queue)
  if r.cls ≤ 1 then s.logEvent 2 else s

/-- A class drops until LOG_FILL, or the queue, is below the point of return (R252). -/
def State.logReturn (s : State) (k : Nat) : State :=
  let (a, b) := s.dropping.at (false, false) k
  let back := s.logT k - s.fld .logThresh 24 4
  if a || b then s.setDropping k (a && decide (back * s.logZ ≤ s.logFill * 256)) (b && decide (back * 4 ≤ s.logQ.length)) else s

/-- The fill or the queue has fallen. -/
def State.logReturns (s : State) : State := s.each (List.range 4) State.logReturn

/-- A record reaches the writer's input queue (R252, R254). -/
def State.logArrive (s : State) (r : LogRec) : State :=
  if !s.flag .logCtrl 0 || (r.rem && !s.flag .droneStat 2) then s.bumpW .logCntMisc 16 16
  else if s.flag .logStat r.cls then s.logDrop r (s.dropping.at (false, false) r.cls).2
  else if s.logT r.cls * 4 < s.logQ.length + 1 then s.logDrop r true
  else { s with logQ := s.logQ ++ [r] }

/-- The state of domain d at time ts, which lies at most one change back (R245). -/
def State.domStateAt (s : State) (d : Nat) (ts : Stamp) : Nat :=
  if ts.toNat < (s.dom d).stateAt.toNat then (s.dom d).stateWas else s.domState d

/-- A record of a signal is made (R245): CALENDAR records carry the auxiliary word, ASTAMP ones an angle stamp. -/
def State.logMake (s : State) (sig : Nat) (value aux : Word) (ts : Stamp) (snap : Bool) : State :=
  let src := s.catSrc sig
  let d := s.catF 11 4 sig
  let base : LogRec := {
    sig := sig, cls := s.catF 6 2 sig, value := value, rem := decide (src = 7), snap := snap, ts := ts }
  s.logArrive (
    if src = 6 then { base with word2 := aux, aux := true }
    else if s.catF 10 1 sig = 1 ∧ (s.domStateAt d ts = 2 ∨ s.domStateAt d ts = 3) then
      { base with word2 := toW (s.angleStamp d ts), ang := true }
    else base)

/-- A trigger qualifies: DPHASE steps, and a record is made when it was 0 (R243). -/
def State.logQualify (s : State) (sig : Nat) (value aux : Word) (ts : Stamp) : State :=
  let ph := s.catF 24 8 sig
  let s := s.setFld .catW0 24 8 ((ph + 1) % (s.catF 16 8 sig + 1)) sig
  if ph = 0 then s.logMake sig value aux ts false else s

/-- A source event of one signal: its sampled value, and its trigger (R242, R243). -/
def State.logEventOf (s : State) (o : Offer) (sig : Nat) : State :=
  let x := s.sig sig
  match s.catF 4 2 sig with
  | 0 => s.logQualify sig o.value o.aux o.ts
  | 3 =>
    let diff := (o.value - x.written).toInt.natAbs
    if !x.changed || decide ((s.rd .catW2 sig).toNat < diff) then
      (s.onSig sig (fun x => { x with changed := true })).logQualify sig o.value o.aux o.ts
    else s
  | _ => s

/-- LOG_SOURCE_EVENT (R242, R243): the log takes the oldest event that a source has offered. -/
def execLogSourceEvent (ts : Stamp) (s : State) : Host.Outcome State Fault Refusal :=
  let s := s.reachIn islFabric ts
  .next (match s.offers with
    | [] => s
    | o :: r => ({ s with offers := r }).each (s.signalsOf o.src o.sel) (fun s k => s.logEventOf o k))

/-- RATE_SAMPLE (R243): one sample per fabric cycle of 2 ns; one not taken before the signal's next multiple is
skipped. -/
def execRateSample (sig : Fin 131072) (ts : Stamp) (s : State) : Host.Outcome State Fault Refusal :=
  let per := (s.rd .catW2 sig).toNat
  .next (s.happens islFabric ts (fun s => s.catSrc sig ≠ 0 && s.catF 4 2 sig == 1 && decide (0 < per ∧ ts.toNat % (16 * per) = 0))
    (fun s =>
      let at_ := max ts.toNat s.sampler.toNat
      if ts.toNat + 16 * per ≤ at_ then s.bumpW .logCntMisc 0 16
      else ({ s with sampler := toS (at_ + 32) }).logQualify sig (s.sampled sig) (s.sampledAux sig) ts))

/-- ANGLE_TRIGGER (R243): the domain crosses TPARAM in SYNC in the cycle of ts, by a step or by the update applied in
it. -/
def execAngleTrigger (sig : Fin 131072) (ts : Stamp) (s : State) : Host.Outcome State Fault Refusal :=
  let d := s.catF 11 4 sig
  .next (s.happens islFabric ts (fun s => s.catSrc sig ≠ 0 && s.catF 4 2 sig == 2 && s.domState d == 3 && decide (0 < s.cycleLen d))
    (fun s =>
      let t := (s.dom d).traj
      let n := nsOf ts
      let th := (s.rd .catW2 sig).toNat * 65536
      let w := nextAbove (t.angleAt n) (s.cycleLen d) th
      if t.ns = n ∧ nextAbove t.pre (s.cycleLen d) th ≤ t.u then s.logQualify sig (s.sampled sig) (s.sampledAux sig) (toS (16 * n))
      else if w ≤ t.angleAt (n + 1) then
        s.logQualify sig (s.sampled sig) (s.sampledAux sig) (crossFine n (t.angleAt n) (t.angleAt (n + 1)) w)
      else s))

/-- A SNAPSHOT calendar action (R243). -/
def State.snapshot (s : State) (sig : Nat) (ts : Stamp) : State :=
  if s.catSrc sig = 0 then s.bumpW .logCntMisc 16 16 else s.logMake sig (s.sampled sig) (s.sampledAux sig) ts true

/-! ## Writing records -/

/-- Bytes stored in the ring from index i. -/
def State.ringPut (s : State) (i : Nat) (ws : List Word) : State :=
  { s with logMem := ws.zipIdx.foldl (fun m (w, k) => m.putWord ((i + 4 * k) % s.logZ) w) s.logMem }

/-- LOG_EVT.DATA at the fill level LOG_WMARK; 0: any record (R250). -/
def State.dataEvent (s : State) : State :=
  if !s.flag .logCtrl 1 && decide (max 1 (s.fld .logWmark 0 25) ≤ s.logFill) then s.logEvent 0 else s

/-- A record's words go into the ring at LOG_WR, which advances by them. -/
def State.ringAdd (s : State) (ws : List Word) (ts : Stamp) : State :=
  let i := s.fld .logWr 0 25
  let n := 4 * ws.length
  let s := s.ringPut i ws
  let s := s.wr .logWr (toW ((i + n) % (2 * s.logZ)))
  let s := s.bumpW .logReccnt 0 32
  { s with logRecs := s.logRecs ++ [(i, n, s.clock islFabric)], logLast := ts, afterMark := false }.dataEvent

/-- Word 0 of a full record (R245). -/
def fullWord0 (sig ty cls : Nat) (ang aux rem snap : Bool) (ts : Stamp) : Word :=
  toW (sig + ty * 2 ^ 18 + cls * 2 ^ 21 + b2n ang * 2 ^ 23 + b2n aux * 2 ^ 24 + b2n rem * 2 ^ 25 + fineOf ts * 2 ^ 26 +
    b2n snap * 2 ^ 30)

/-- The words of a full VALUE record. -/
def LogRec.full (r : LogRec) : List Word :=
  [fullWord0 r.sig 0 r.cls r.ang r.aux r.rem r.snap r.ts, ns32 r.ts, r.word2, r.value]

/-- A MARK is written (R247). -/
def State.writeMark (s : State) : State :=
  let t := s.markAt
  let s := s.ringAdd [fullWord0 0 2 0 false false false false t, ns32 t, toW (t.toNat / 2 ^ 36),
    toW ((s.rd .droneEpoch).toNat % 65536 + s.markSeq % 65536 * 65536)] t
  ({ s with markSeq := (s.markSeq + 1) % 65536, afterMark := true }).setFlag .logStat 7 false

/-- A waiting MARK is written as soon as it fits (R247). -/
def State.tryMark (s : State) : State :=
  if s.flag .logStat 7 && decide (s.logFill + 16 ≤ s.logZ) then s.writeMark else s

/-- A MARK falls due at t. -/
def State.markDue (s : State) (t : Stamp) : State := (({ s with markAt := t }).setFlag .logStat 7 true).tryMark

/-- MARK (R247): bit 34 of the fabric copy changes. -/
def execMark (ts : Stamp) (s : State) : Host.Outcome State Fault Refusal :=
  .next (s.happens islFabric ts (fun s => s.flag .logCtrl 0 && decide (s.markAt.toNat / 2 ^ 34 < ts.toNat / 2 ^ 34)) (·.markDue ts))

/-- A record of an exporting signal goes out in a LOG frame (R292); 64 records may wait on a link, and one that finds
them waiting is counted in DROP. -/
def State.logExport (s : State) (r : LogRec) : State :=
  if !s.joined then s
  else
    let ks := (List.range 4).filter (fun k => s.linkUp k)
    match ks.find? (fun k => decide (64 ≤ ((s.link k).txq.filter (fun f => f.ty == 8)).length)) with
    | some k => s.bump .mlCnt1 24 8 k
    | none => s.mlSend 8 0 true r.full

/-- DT of R246. -/
def State.logDt (s : State) (r : LogRec) : Int := (nsOf r.ts : Int) - (nsOf s.logLast : Int)

/-- The record may be compact (R246); `ahead`: a DROP or a MARK precedes it. -/
def State.compactOk (s : State) (r : LogRec) (ahead : Bool) : Bool :=
  let x := s.sig r.sig
  s.catF 8 1 r.sig == 1 && s.catF 10 1 r.sig == 0 && s.catSrc r.sig != 6 && s.catSrc r.sig != 7 && !r.snap && x.any &&
    !ahead && decide (x.compact < 255) && decide (-8192 ≤ s.logDt r) && decide (s.logDt r ≤ 8191)

/-- The words of a compact record. -/
def State.compactWords (s : State) (r : LogRec) : List Word :=
  [toW (r.sig + 2 ^ 17 + encS 14 (s.logDt r) * 2 ^ 18),
   if s.catF 9 1 r.sig = 1 then r.value - (s.sig r.sig).written else r.value]

/-- A record is written, with the MARK that waits and the signal's DROP record ahead of it (R246, R247, R253). -/
def State.writeRec (s : State) (r : LogRec) : State :=
  let mark := s.flag .logStat 7
  let pend := s.fld .catW3 0 16 r.sig
  let compact := s.compactOk r (mark || s.afterMark || decide (0 < pend))
  let size := (if mark then 16 else 0) + (if 0 < pend then 16 else 0) + (if compact then 8 else 16)
  if (s.dropping.at (false, false) r.cls).1 || decide (s.logT r.cls * s.logZ < (s.logFill + size) * 256) then s.logDrop r false
  else
    let s := if mark then s.writeMark else s
    let s :=
      if 0 < pend then
        (s.ringAdd [fullWord0 r.sig 1 r.cls false true false false r.ts, ns32 r.ts, toW (s.fld .catW3 16 16 r.sig),
          toW pend] r.ts).setFld .catW3 0 16 0 r.sig
      else s
    let s := s.ringAdd (if compact then s.compactWords r else r.full) r.ts
    let s := s.onSig r.sig (fun x => { x with
      written := r.value, any := true, compact := if compact then x.compact + 1 else 0 })
    if s.catF 15 1 r.sig = 1 then s.logExport r else s

/-- LOG_RECORD_WRITE (R252, R254): the writer takes the oldest record of its queue. -/
def execLogRecordWrite (ts : Stamp) (s : State) : Host.Outcome State Fault Refusal :=
  let s := s.reachIn islFabric ts
  .next (match s.logQ with
    | [] => s
    | r :: q =>
      let s := { s with logQ := q }.logReturns
      if s.catSrc r.sig = 0 then s.bumpW .logCntMisc 16 16 else s.writeRec r)

/-! ## Registers written -/

/-- LOG_RING (R249). -/
def State.writeLogRing (s : State) (v : Word) : State :=
  let n := getF v 0 5
  if s.flag .logCtrl 0 || decide (n < 16 ∨ s.logSize < 2 ^ n) then s.logCfgErr 0 0
  else
    let s := ((s.wr .logRing (toW n)).wr .logWr 0).wr .logRd 0
    { s with logRecs := [] }.logReturns

def execLogRingWrite (m : Master) (v : Word) (s : State) : Host.Outcome State Fault Refusal :=
  .next (s.access m .logRing 0 0 (·.writeLogRing v))

/-- LOG_RD set: drained records leave, a class may return, and a MARK that waits may fit. -/
def State.setLogRd (s : State) (rd : Nat) : State :=
  let z2 := 2 * s.logZ
  let moved := (rd + z2 - s.fld .logRd 0 25) % z2
  let old := s.fld .logRd 0 25
  let s := s.wr .logRd (toW rd)
  ({ s with logRecs := s.logRecs.filter (fun (i, _, _) => decide (moved ≤ (i + z2 - old) % z2)) }).logReturns.tryMark

/-- LOG_RD in PULL mode (R250, R251). -/
def State.writeLogRd (s : State) (v : Word) : State :=
  let z2 := 2 * s.logZ
  let rd := getF v 0 25
  if s.flag .logCtrl 1 || decide (rd % 8 ≠ 0 ∨ z2 ≤ rd ∨ s.logFill < (rd + z2 - s.fld .logRd 0 25) % z2) then s.logCfgErr 0 0
  else s.setLogRd rd

def execLogRdWrite (m : Master) (v : Word) (s : State) : Host.Outcome State Fault Refusal :=
  .next (s.access m .logRd 0 0 (·.writeLogRd v))

/-- What LOG_CTRL.CLR_CNT clears (R8). -/
def State.clrLog (s : State) : State :=
  (((s.each (List.range 4) (fun s k => s.clr .logCnt k)).clr .logCntMisc).setFld .logCfgerr 17 7 0)

def execLogClrCnt (m : Master) (s : State) : Host.Outcome State Fault Refusal :=
  .next (s.access m .logCtrl 0 0 State.clrLog)

/-- The next record of every signal is full (R246). -/
def State.freshSigs (s : State) : State :=
  { s with sigs := (s.sigs.map (fun e => (e.1, { e.2 with any := false }))).filter (fun e => decide (e.2 ≠ ({} : SigX))) }

/-- LOG_CTRL (R247, R259): enabling writes a MARK and makes every signal's next record full. -/
def State.writeLogCtrl (s : State) (v : Word) : State :=
  let was := s.flag .logCtrl 0
  let s := if getB v 31 then s.clrLog else s
  let s := s.withUnit 137 (fun s => s.wr .logCtrl (v &&& 0xF3))
  let s := s.setFlag .logStat 4 (getB v 0)
  if getB v 0 && !was then s.freshSigs.markDue (s.clock islFabric) else s

def execLogCtrlWrite (m : Master) (v : Word) (s : State) : Host.Outcome State Fault Refusal :=
  .next (s.access m .logCtrl 0 0 (·.writeLogCtrl v))

/-- LOG_THRESH (R252). -/
def State.writeLogThresh (s : State) (v : Word) : State :=
  if getF v 0 8 < getF v 8 8 ∧ getF v 8 8 < getF v 16 8 ∧ getF v 24 4 ≤ getF v 0 8 then s.wr .logThresh (v &&& 0xFFFFFFF)
  else s.logCfgErr 0 0

def execLogThreshWrite (m : Master) (v : Word) (s : State) : Host.Outcome State Fault Refusal :=
  .next (s.access m .logThresh 0 0 (·.writeLogThresh v))

/-- REMOTE_LOG_RECEIVE (R242): an exported record of another device, at its sender's stamp. The stamp's upper bits are
those that place it nearest the present (R248). -/
def execRemoteLogReceive (dev : Fin 512) (rsig : Fin 131072) (value : Word) (ts : Stamp) (s : State) :
    Host.Outcome State Fault Refusal :=
  .next (s.offer 7 (dev.val + rsig.val * 512) value 0 ts)

end Sys2Proof.Machine
end

