-- ==== Sys2Proof/Machine/Port.lean ====
section
/-! DEFINITION. Sensor and actuator ports (11): the queue, time triggers, scripts, SENT and UART reception, swaps. -/

namespace Sys2Proof.Machine

/-- One port cycle, 2.5 ns, in fine ticks. -/
def portCycle : Nat := 40

/-- The first port cycle at or after an instant. -/
def portUp (n : Nat) : Nat := (n + 39) / 40 * 40

def State.portMode (s : State) (p : Nat) : Nat := s.fld .portCfg 0 2 p
def State.portOn (s : State) (p : Nat) : Bool := s.flag .portCfg 2 p
def portUnit (p : Nat) : Nat := 84 + p

/-- PORT_EVT bit b, source 112 + p. -/
def State.portEvent (s : State) (p b : Nat) : State := s.event .portEvt .portIen b (112 + p) p

/-- A dropped write counts in PORT_CNT_2.CFG_DROP (R262). -/
def State.portDrop (s : State) (p : Nat) : State := s.bump .portCnt2 0 8 p

/-- PORT_STAT as it reads. -/
def State.portStatView (s : State) (p : Nat) : Word :=
  let u := portUnit p
  let w := putF (s.rd .portStat p) 4 5 (s.port p).queue.length
  let w := putF (putB w 1 (s.held u)) 24 5 (s.port p).rx.length
  putB (putB w 2 (s.paused.contains u)) 3 (s.isFailed u)

/-! ## The balls -/

/-- A script word's operation in the port's mode (R268): 0 END, 1 CS, 2 XFER, 3 RECV, 4 WAIT, 5 LOOP; 6 where it ends
the transaction with SCRIPT_ERR. -/
def State.scriptOp (s : State) (p : Nat) (r : PortRun) : Nat :=
  let w := s.rd .portScript p r.pc
  let mode := s.portMode p
  let bad (b : Bool) (n : Nat) : Nat := if b then 6 else n
  if 256 ≤ r.pc ∨ s.badScript.contains (256 * p + r.pc) then 6
  else
    match getF w 28 4 with
    | 0 => bad (getF w 0 28 != 0) 0
    | 1 => bad (mode != 1 || decide (2 < getF w 0 28)) 1
    | 2 =>
      let n := getF w 0 6
      let okN := if mode = 3 then n == 8 else decide (4 ≤ n ∧ n ≤ 32)
      bad (mode == 2 || !okN || getF w 6 2 == 3 || getF w 16 12 != 0 || (getF w 6 2 == 2 && decide (255 ≤ r.pc))) 2
    | 3 => bad (mode == 1 || getF w 2 6 != 0) 3
    | 4 => bad (getF w 25 3 != 0) 4
    | 5 => bad (getF w 24 4 != 0 || (match r.loop with | some (k, _) => k != r.pc | none => false)) 5
    | _ => 6

/-- The bit time of a UART, in half fine ticks. -/
def State.uartBit (s : State) (p : Nat) : Nat := 5 * s.fld .portUart 0 20 p

/-- The length of a UART frame in fine ticks: 8N1 or 8E1 (R265). -/
def State.uartFrame (s : State) (p : Nat) : Nat := (if s.flag .portUart 20 p then 11 else 10) * s.uartBit p / 2

/-- One SCLK period in fine ticks (R263). -/
def State.sclkPeriod (s : State) (p : Nat) : Nat := 80 * (s.fld .portSpi 0 10 p + 1)

/-- The first SCLK edge of the XFER under way: half a period after the last of an XFER that it directly follows (R263). -/
def State.firstEdge (s : State) (p : Nat) (r : PortRun) : Nat :=
  match r.contig, r.sclk with
  | true, some e => e.toNat + s.sclkPeriod p / 2
  | _, _ => max r.opEnd.toNat r.lead.toNat

/-- The word that an XFER sends (R268). -/
def State.txWord (s : State) (p : Nat) (r : PortRun) : Word :=
  match getF (s.rd .portScript p r.pc) 6 2 with | 0 => 0 | 1 => r.txn.arg | _ => s.rd .portScript p (r.pc + 1)

/-- Bit k of an SPI frame of n bits as it is sent (R263). -/
def State.spiBit (s : State) (p n k : Nat) (w : Word) : Bool := getB w (if s.flag .portSpi 12 p then k else n - 1 - k)

/-- The levels that an SPI frame under way puts on SCLK and MOSI at `t` (R263): the driving edge is half a period before the
sampling edge. -/
def State.spiWave (s : State) (p : Nat) (r : PortRun) (t : Nat) : Bool × Bool :=
  let n := getF (s.rd .portScript p r.pc) 0 6
  let per := s.sclkPeriod p
  let first := s.firstEdge p r
  let cpol := s.flag .portSpi 10 p
  let clk := decide (first ≤ t ∧ t < first + n * per ∧ (t - first) % per < per / 2)
  let lead := if s.flag .portSpi 11 p then 0 else per / 2
  if t + lead < first then (cpol, (s.port p).mosi)
  else (clk != cpol, s.spiBit p n (min (n - 1) ((t + lead - first) / per)) (s.txWord p r))

/-- The level that a byte under way puts on TX at `t`: start bit, 8 bits, the least significant first, even parity, stop bit (R265). -/
def State.uartWave (s : State) (p : Nat) (r : PortRun) (t : Nat) : Bool :=
  let w := s.txWord p r
  match 2 * (t - r.opEnd.toNat) / s.uartBit p with
  | 0 => decide (t < r.opEnd.toNat)
  | 9 => if s.flag .portUart 20 p then (List.range 8).foldl (fun a k => a != getB w k) false else true
  | k => if k < 9 then getB w (k - 1) else true

/-- What the port drives on PIO_p_b (R261): idle levels, and the waveform of an XFER under way; idle levels alone while a swap
interrupts it (R274). -/
def State.pioDrive (s : State) (p b : Nat) : Drive :=
  let high (x : Bool) : Drive := if x then .high else .low
  let t := (s.clock islPort).toNat
  let x := s.port p
  let cut := decide (t < x.outTo.toNat)
  let cs := if cut then 0 else x.cs
  let busy : Option PortRun := if cut then none else x.run.filter (fun r => s.scriptOp p r == 2)
  if !s.portOn p ∧ x.run.isNone then .hiz
  else
    match s.portMode p, b with
    | 1, 0 => high ((busy.map (fun r => (s.spiWave p r t).1)).getD (s.flag .portSpi 10 p))
    | 1, 1 => high ((busy.map (fun r => (s.spiWave p r t).2)).getD x.mosi)
    | 1, 3 => high ((cs == 1) == s.flag .portSpi2 16 p)
    | 1, 4 => high ((cs == 2) == s.flag .portSpi2 17 p)
    | 3, 0 => high ((busy.map (fun r => s.uartWave p r t)).getD true)
    | _, _ => .hiz

/-- What pulls at PIO_p_b: a weak pull-down on every ball of a port with EN = 0 and on each that its mode does not use (R261), and
on the balls of an absent port (R26). PIO_p_2 of a mode is its input. -/
def State.pioPull (s : State) (p b : Nat) : Pull :=
  let used : Bool := match s.portMode p, b with | 0, _ => false | 1, _ => true | 3, 0 => true | _, 2 => true | _, _ => false
  if (s.portOn p || (s.port p).run.isSome) && used then .none else .down

/-! ## Ends of transactions -/

/-- The completion word (R270). -/
def completionWord (results status : Nat) (swapped : Bool) (script : Nat) : Word :=
  toW (satNat 12 results + status * 4096 + b2n swapped * 32768 + script * 65536)

/-- A long operation finishes: its completion reply may go out (R315). -/
def State.finishOp (s : State) (n status : Nat) (res : List Word) : State :=
  { s with longOps := s.longOps.map (fun o => if o.num = n then { o with outcome := some (status, res) } else o) }

/-- A transaction ends with its completion word (R270). -/
def State.txnDone (s : State) (p : Nat) (t : Txn) (results status : Nat) (swapped : Bool) : State :=
  let w := completionWord results status swapped t.script
  let s := (s.wr .portLast w p).bumpW .portCnt0 0 16 p
  let s := s.portEvent p 0
  let s := if status = 0 then s else (s.bump .portCnt0 16 8 p).portEvent p 1
  let s := match t.notify with
    | some x => s.post x w (evTag 2 p)
    | none => if s.flag .portNotify 7 p then s.post (s.fld .portNotify 0 7 p) w (evTag 2 p) else s
  match t.op with
  | some n => s.finishOp n stOk [w]
  | none => s

/-- Every queued transaction that `which` names completes with a status: FLUSHED 4, FAILED 5 (R272, R274). -/
def State.portDropQueue (s : State) (p status : Nat) (which : Txn → Bool) : State :=
  let q := (s.port p).queue
  (q.filter which).foldl (fun s t => s.txnDone p t 0 status false)
    (s.onPort p (fun x => { x with queue := q.filter (fun t => !which t) }))

def State.portFlushAll (s : State) (p status : Nat) : State := s.portDropQueue p status (fun _ => true)

/-- PORT_CTRL.FLUSH: a trigger of the same port cycle stays queued (R272). -/
def State.portFlush (s : State) (p : Nat) : State :=
  s.portDropQueue p 4 (fun t => decide (t.came.toNat / portCycle < (s.clock islPort).toNat / portCycle))

/-- The running transaction ends at instant e. A port whose EN went 0 flushes its queue then (R272). -/
def State.portFinish (s : State) (p : Nat) (r : PortRun) (status : Nat) (e : Stamp) : State :=
  let s := s.withUnit (portUnit p) (fun s =>
    (s.onPort p (fun x => { x with run := none, ended := e })).setFlag .portStat 0 false p)
  let s := s.txnDone p r.txn r.results status r.swapped
  if r.flush then s.portFlushAll p 4 else s

/-- The instant at which the chip select goes inactive after an operation: CS_LAG after the last SCLK edge (R263). -/
def State.csRelease (s : State) (p : Nat) (r : PortRun) : Nat :=
  max r.opEnd.toNat ((r.sclk.map (fun e => e.toNat + portCycle * s.fld .portSpi 24 8 p)).getD 0)

/-- An aborted transaction ends at the end of its current operation, with CS deasserted after CS_LAG (R272). -/
def State.portAbortNow (s : State) (p : Nat) (r : PortRun) : State :=
  let s := if (s.port p).cs ≠ 0 then s.onPort p (fun x => { x with cs := 0, csOff := toS (s.csRelease p r) }) else s
  s.portFinish p r 3 r.opEnd

/-- The transaction goes on after an operation, or ends where it was aborted. -/
def State.portGo (s : State) (p : Nat) (r : PortRun) : State :=
  if r.abort then s.portAbortNow p r else s.onPort p (fun x => { x with run := some r })

/-! ## The queue -/

/-- A trigger is not queued: QFULL (R266, R273). -/
def State.notQueued (s : State) (p : Nat) : State := (s.bump .portCnt2 16 8 p).portEvent p 3

/-- The place of a trigger among those of one port cycle (R272): time, calendar, then the lock order (R336), the supervisor, the
contexts, the host. -/
def Txn.place (t : Txn) : Nat :=
  match t.src with | .time => 0 | .calendar => 1 | .supervisor => 2 | .task => 3 + t.rank | .host => 131

/-- A transaction joins the queue at `ts`, before those of its port cycle that its place precedes (R272). -/
def queueIn (ts : Stamp) (q : List Txn) (t : Txn) : List Txn :=
  let t := { t with came := ts }
  let behind (x : Txn) : Bool := decide (x.came.toNat / portCycle = ts.toNat / portCycle ∧ t.place < x.place)
  q.takeWhile (fun x => !behind x) ++ t :: q.dropWhile (fun x => !behind x)

/-- A trigger asks for a transaction: queued or not (R266, R273). -/
def State.portTrigger (s : State) (p : Nat) (t : Txn) : Bool × State :=
  let s := s.wakeIsland 4
  let u := portUnit p
  let x := s.port p
  if 16 ≤ x.queue.length || s.isFailed u || (s.held u && t.src != .supervisor) then (false, s.notQueued p)
  else (true, s.setPort p { x with queue := queueIn (s.clock islPort) x.queue t })

/-- The next transaction to start: the head of the queue, on a held port the first that the supervisor queued (R273). -/
def State.nextTxn (s : State) (p : Nat) : Option Txn :=
  if s.held (portUnit p) then (s.port p).queue.find? (fun t => t.src == .supervisor) else (s.port p).queue.head?

/-- TRANSACTION_START (R266). -/
def execTransactionStart (p : Fin 32) (ts : Stamp) (s : State) : Host.Outcome State Fault Refusal :=
  let u := portUnit p
  .next (s.happens islPort ts (fun s => s.portOn p && (s.port p).run.isNone && !s.paused.contains u && !s.isFailed u &&
      decide ((s.port p).ended.toNat + portCycle * s.fld .portSpi2 0 8 p ≤ ts.toNat)) (fun s =>
    match s.nextTxn p with
    | none => s
    | some t =>
      let s := s.wakeIsland 4
      let e := toS (portUp ts.toNat)
      let s := s.onPort p (fun x => { x with queue := x.queue.erase t })
      if !s.flag .portScrEntry 8 p t.script then
        (s.onPort p (fun x => { x with ended := e })).txnDone p t 0 2 false
      else
        let pc := s.fld .portScrEntry 0 8 p t.script
        s.withUnit u (fun s => (s.onPort p (fun x => { x with
          run := some { txn := t, pc := pc, mark := e, opEnd := e, lead := e, check := { pc := pc, mark := e } } })).setFlag
            .portStat 0 true p)))

/-! ## Scripts -/

/-- The running transaction's next word is operation `op`: `f` does it. -/
def State.scriptStep (s : State) (p op : Nat) (ts : Stamp) (f : State → PortRun → State) : State :=
  s.happens islPort ts (fun _ => true) (fun s =>
    match (s.port p).run with
    | none => s
    | some r => if s.scriptOp p r = op then f s r else s)

/-- SCRIPT_CS (R263, R268). -/
def State.scriptCs (s : State) (p : Nat) (r : PortRun) : State :=
  let sel := getF (s.rd .portScript p r.pc) 0 2
  let x := s.port p
  if sel = 0 then
    let e := toS (if x.cs = 0 then r.opEnd.toNat else s.csRelease p r)
    (s.setPort p { x with cs := 0, csOff := if x.cs = 0 then x.csOff else e }).portGo p
      { r with pc := r.pc + 1, opEnd := e, lead := e, sclk := none, contig := false }
  else
    let e := max r.opEnd.toNat (x.csOff.toNat + portCycle * s.fld .portSpi2 0 8 p)
    (s.setPort p { x with cs := sel }).portGo p
      { r with pc := r.pc + 1, opEnd := toS e, lead := toS (e + portCycle * s.fld .portSpi 16 8 p), sclk := none, contig := false }

def execScriptCs (p : Fin 32) (ts : Stamp) (s : State) : Host.Outcome State Fault Refusal :=
  .next (s.scriptStep p 1 ts (fun s r => s.scriptCs p r))

/-- An instant of the port island's copy as a result carries it, to one port cycle (R269). -/
def portStamp (t : Stamp) : Stamp := toS (t.toNat / portCycle * portCycle)

/-- A RECV or XFER word's result goes somewhere: STORE, or MEM with a buffer (R269). -/
def State.stores (s : State) (p : Nat) (w : Word) : Bool := getB w 8 || (getB w 9 && s.rd .portDmemSize p != 0)

/-- A result is stored: PORT_RES and the log, and the buffer in task memory, where a PTR past its end counts as wrapped (R269; log
entry 95). -/
def State.portStore (s : State) (p : Nat) (w : Word) (value : Word) (e : Stamp) : State :=
  let idx := getF w 10 6
  let s := if getB w 8 then (s.wr .portRes value p idx).offer 4 (p + idx * 256) value 0 (portStamp e) else s
  let size := (s.rd .portDmemSize p).toNat
  if getB w 9 && decide (0 < size) then
    let ptr := (s.rd .portDmemPtr p).toNat
    let ptr := if ptr < size then ptr else 0
    let s := s.setTm ((s.rd .portDmemBase p).toNat + ptr) value
    s.wr .portDmemPtr (toW (if size ≤ ptr + 4 then 0 else ptr + 4)) p
  else s

/-- The instants of an SPI frame: its last sampling edge, last edge, and end (R263). -/
def State.spiFrame (s : State) (p : Nat) (r : PortRun) (n : Nat) : Nat × Nat × Nat :=
  let per := s.sclkPeriod p
  let first := s.firstEdge p r
  let last := first + (n - 1) * per + per / 2
  (if s.flag .portSpi 11 p then last else first + (n - 1) * per, last, first + n * per)

/-- The operation under way is done: a swap restarts from it (R274). -/
def State.opDone (s : State) (p : Nat) (r : PortRun) : PortCheck :=
  { pc := r.pc, loop := r.loop, mark := r.mark, cs := (s.port p).cs, done := true }

/-- XFER (R268): a frame is taken once its last edge has come, and its last bit has been sampled SAMPLE_DLY after the sampling
edge (R263). -/
def State.scriptXfer (s : State) (p : Nat) (r : PortRun) (rx : Word) (ts : Stamp) : State :=
  let w := s.rd .portScript p r.pc
  let n := getF w 0 6
  let next := { r with pc := r.pc + (if getF w 6 2 = 2 then 2 else 1), check := s.opDone p r, mute := false }
  if s.portMode p = 3 then
    let e := portUp (r.opEnd.toNat + s.uartFrame p)
    if ts.toNat < e then s else s.portGo p { next with opEnd := toS e, lead := toS e, sclk := none, contig := false }
  else
    let (smp, last, e) := s.spiFrame p r n
    if ts.toNat < max last (smp + portCycle * s.fld .portSpi2 8 3 p) then s
    else
      let value := toW (rx.toNat % 2 ^ n)
      let s := s.onPort p (fun x => { x with mosi := s.spiBit p n (n - 1) (s.txWord p r) })
      let s := if r.mute then s else s.portStore p w value (toS smp)
      s.portGo p { next with
        opEnd := toS e, sclk := some (toS last), contig := true, results := r.results + b2n (!r.mute && s.stores p w) }

def execXfer (p : Fin 32) (rx : Word) (ts : Stamp) (s : State) : Host.Outcome State Fault Refusal :=
  .next (s.scriptStep p 2 ts (fun s r => s.scriptXfer p r rx ts))

/-- The latest instant at which a RECV still takes something. -/
def State.recvDeadline (s : State) (p : Nat) (r : PortRun) : Nat :=
  r.opEnd.toNat + 160000 * getF (s.rd .portScript p r.pc) 16 12

/-- What a RECV would take: value, stamp, completion (R268). -/
def State.recvData (s : State) (p : Nat) (r : PortRun) : Option (Word × Stamp × Stamp) :=
  let w := s.rd .portScript p r.pc
  let x := s.port p
  let c :=
    if s.portMode p = 3 then x.rx.head?.map (fun (b, st, e) => (toW b.toNat, st, e))
    else if getB w 1 then x.slow
    else
      match x.fast with
      | some (v, st, e) => if getB w 0 ∧ e.toNat ≤ r.opEnd.toNat then none else some (v, st, e)
      | none => none
  c.filter (fun (_, _, e) => decide (e.toNat / portCycle ≤ s.recvDeadline p r / portCycle))

/-- RECV (R268). -/
def State.scriptRecv (s : State) (p : Nat) (r : PortRun) : State :=
  match s.recvData p r with
  | none => s
  | some (v, st, e) =>
    let w := s.rd .portScript p r.pc
    let s := if s.portMode p = 3 then s.onPort p (fun x => { x with rx := x.rx.tail }) else s
    let e := toS (portUp (max r.opEnd.toNat e.toNat))
    (s.portStore p w v st).portGo p { r with
      pc := r.pc + 1, opEnd := e, lead := e, sclk := none, contig := false, check := s.opDone p r
      results := r.results + b2n (s.stores p w) }

def execRecv (p : Fin 32) (ts : Stamp) (s : State) : Host.Outcome State Fault Refusal :=
  .next (s.scriptStep p 3 ts (fun s r => s.scriptRecv p r))

/-- TIMEOUT (R268, R272): data that comes in the port cycle of the expiry is taken. -/
def execTimeout (p : Fin 32) (ts : Stamp) (s : State) : Host.Outcome State Fault Refusal :=
  .next (s.scriptStep p 3 ts (fun s r =>
    if (s.recvData p r).isSome || decide (ts.toNat < s.recvDeadline p r) then s
    else s.portFinish p r 1 (toS (s.recvDeadline p r))))

/-- SCRIPT_WAIT (R268). -/
def execScriptWait (p : Fin 32) (ts : Stamp) (s : State) : Host.Outcome State Fault Refusal :=
  .next (s.scriptStep p 4 ts (fun s r =>
    let w := s.rd .portScript p r.pc
    let e := (if getB w 24 then r.mark else r.opEnd).toNat + portUp (16 * getF w 0 24)
    let e := max r.opEnd.toNat e
    if ts.toNat < e then s
    else s.portGo p { r with pc := r.pc + 1, opEnd := toS e, contig := false }))

/-- LOOP (R268). -/
def execLoop (p : Fin 32) (ts : Stamp) (s : State) : Host.Outcome State Fault Refusal :=
  .next (s.scriptStep p 5 ts (fun s r =>
    let w := s.rd .portScript p r.pc
    let left := match r.loop with | some (_, n) => n | none => getF w 0 16
    if left = 0 then s.portGo p { r with pc := r.pc + 1, loop := none }
    else s.portGo p { r with pc := getF w 16 8, mark := r.opEnd, loop := some (r.pc, left - 1) }))

/-- SCRIPT_END (R268, R270): END, or a word that ends the transaction with SCRIPT_ERR. -/
def execScriptEnd (p : Fin 32) (ts : Stamp) (s : State) : Host.Outcome State Fault Refusal :=
  .next (s.happens islPort ts (fun s => decide (((s.port p).run.map (·.opEnd.toNat)).getD 0 ≤ ts.toNat)) (fun s =>
    match (s.port p).run with
    | none => s
    | some r =>
      match s.scriptOp p r with
      | 0 => s.portFinish p r 0 r.opEnd
      | 6 => s.portFinish p r 2 r.opEnd
      | _ => s))

/-! ## Reception -/

/-- A CRC register over a message's bits, with `n` bits, generator `g` and a seed; the message is followed by the zeros
that the caller appends (J2716: PRESUMED, log entry 16). -/
def crcBits (n g seed : Nat) (bits : List Bool) : Nat :=
  bits.foldl (fun r b => (((2 * r + b2n b) % 2 ^ n) ^^^ (if r.testBit (n - 1) then g else 0))) seed

/-- The bits of a value, the most significant first. -/
def msbBits (n v : Nat) : List Bool := (List.range n).map (fun i => v.testBit (n - 1 - i))

/-- A number from bits, the most significant first. -/
def ofMsb (l : List Bool) : Nat := l.foldl (fun a b => 2 * a + b2n b) 0

/-- The 4-bit CRC of J2716, seed 0b0101, recommended or legacy form (R264). -/
def sentCrc (nibbles : List (BitVec 4)) (legacy : Bool) : Nat :=
  crcBits 4 0xD 5 (nibbles.flatMap (fun n => msbBits 4 n.toNat) ++ if legacy then [] else List.replicate 4 false)

/-- A pulse in measured ticks, rounded: the tick is the calibration pulse / 56 (R264). -/
def sentTicks (f : SentObs) (pulse : Nat) : Nat := if f.calib = 0 then 0 else divRound (56 * pulse) f.calib

/-- The nibbles of a frame, status first and CRC last (R264). -/
def sentNibbles (f : SentObs) : List (BitVec 4) := f.pulses.map (fun n => BitVec.ofNat 4 (sentTicks f n - 12))

/-- The frame's pulses are such as R264 asks: a calibration pulse within 25 % of 56 nominal ticks, as many nibbles as NIBBLES says,
each of 12 to 27 ticks, and a pause pulse of 12 to 768 ticks where PAUSE = 1. -/
def State.sentShape (s : State) (p : Nat) (f : SentObs) : Bool :=
  let nominal := 56 * 1600 * s.fld .portSent 0 10 p
  decide (3 * nominal ≤ 4 * f.calib ∧ 4 * f.calib ≤ 5 * nominal ∧ f.pulses.length = s.fld .portSent 10 3 p + 2) &&
  f.pulses.all (fun n => decide (12 ≤ sentTicks f n ∧ sentTicks f n ≤ 27)) &&
  (match f.pause with
   | some n => s.flag .portSent 13 p && decide (12 ≤ sentTicks f n ∧ sentTicks f n ≤ 768)
   | none => !s.flag .portSent 13 p)

/-- SUCC_CHK: the calibration pulse is within 1/64 of the previous one (R264). -/
def State.sentSucc (s : State) (p : Nat) (f : SentObs) : Bool :=
  let prev := (s.port p).calib
  !s.flag .portSent 14 p || prev == 0 || decide (64 * ((f.calib : Int) - prev).natAbs ≤ prev)

/-- The value of a fast frame (R269). -/
def sentWord (f : SentObs) : Word :=
  toW (((sentNibbles f).dropLast.zipIdx.foldl (fun a (n, i) => a + n.toNat * 16 ^ i) 0) + ((sentNibbles f).length - 2) * 2 ^ 28)

/-- The CRC nibble is that of the data nibbles (R264). -/
def sentCrcOk (f : SentObs) (legacy : Bool) : Bool :=
  sentCrc ((sentNibbles f).tail.dropLast) legacy == (((sentNibbles f).getLast?).getD 0).toNat

/-- A slow message that the last frames complete: value and whether its CRC is good (R264, R269, J2716). `b` holds
status bits 3 and 2 of each frame, the oldest first. -/
def slowMessage (b : List (Bool × Bool)) : Option (Word × Bool) :=
  let three := fun (l : List (Bool × Bool)) => l.map (·.1)
  let two := fun (l : List (Bool × Bool)) => l.map (·.2)
  let e := b.drop (b.length - 18)
  let sh := b.drop (b.length - 16)
  let e3 := three e
  let e2 := two e
  if e.length = 18 ∧ e3.take 7 = [true, true, true, true, true, true, false] then
    if e3.getD 12 true = false ∧ e3.getD 17 true = false then
      let data := ofMsb (e2.drop 6)
      let c := e3.getD 7 false
      let hi := ofMsb ((e3.drop 8).take 4)
      let lo := ofMsb ((e3.drop 13).take 4)
      let (id, v) := if c then (hi, data + lo * 4096) else (hi * 16 + lo, data)
      let msg := (e.drop 6).flatMap (fun (x, y) => [y, x])
      let good := decide (crcBits 6 0x19 0x15 (msg ++ List.replicate 6 false) = ofMsb (e2.take 6))
      some (toW (id + v * 256 + 2 ^ 24 + b2n c * 2 ^ 25), good)
    else none
  else if sh.length = 16 ∧ three sh = true :: List.replicate 15 false then
    let s2 := two sh
    let good := decide (crcBits 4 0xD 5 (s2.take 12 ++ List.replicate 4 false) = ofMsb (s2.drop 12))
    some (toW (ofMsb (s2.take 4) + ofMsb ((s2.drop 4).take 8) * 256), good)
  else none

/-- The slow channel takes the status nibble of a good frame (R264). -/
def State.slowBits (s : State) (p : Nat) (f : SentObs) (ts : Stamp) : State :=
  if !s.flag .portSent 16 p then s
  else
    let bits := (s.port p).bits ++ [(getB (((sentNibbles f).head?).getD 0) 3, getB (((sentNibbles f).head?).getD 0) 2)]
    let bits := bits.drop (bits.length - 18)
    match slowMessage bits with
    | none => s.onPort p (fun x => { x with bits := bits })
    | some (v, good) =>
      let s := s.onPort p (fun x => { x with bits := [] })
      if good then s.onPort p (fun x => { x with slow := some (v, f.start, ts) }) else s.bump .portCnt1 24 8 p

/-- A frame or byte is lost: FRAME_ERR (R264, R265, R274). -/
def State.frameErr (s : State) (p : Nat) : State := s.bump .portCnt1 8 8 p

/-- The port receives in a mode: enabled, and an engine serves it (R264, R274). -/
def State.receives (s : State) (p mode : Nat) : Bool := s.portOn p && s.portMode p == mode && !s.isFailed (portUnit p)

/-- SENT_FRAME (R264): `ts` is its end. One in flight when a swap interrupts the port is lost (R274). -/
def execSentFrame (p : Fin 32) (f : SentObs) (ts : Stamp) (s : State) : Host.Outcome State Fault Refusal :=
  .next (s.happens islPort ts (fun s => s.receives p 2) (fun s =>
    let good := s.sentShape p f && s.sentSucc p f
    let cut := decide (f.start.toNat < (s.port p).outTo.toNat)
    let s := s.onPort p (fun x => { x with calib := f.calib })
    if cut ∨ !good then s.frameErr p
    else if !sentCrcOk f (s.flag .portSent 15 p) then s.bump .portCnt1 0 8 p
    else (s.onPort p (fun x => { x with fast := some (sentWord f, f.start, ts) })).slowBits p f ts))

/-- UART_BYTE (R265): a byte completes at `ts`. One in flight when a swap interrupts the port is lost (R274). -/
def execUartByte (p : Fin 32) (byte : Byte) (ok : Bool) (ts : Stamp) (s : State) : Host.Outcome State Fault Refusal :=
  .next (s.happens islPort ts (fun s => s.receives p 3) (fun s =>
    let start := ts.toNat - s.uartFrame p
    if !ok || decide (start < (s.port p).outTo.toNat) then s.frameErr p
    else if 16 ≤ (s.port p).rx.length then s.bump .portCnt1 16 8 p
    else s.onPort p (fun x => { x with rx := x.rx ++ [(byte, toS start, ts)] })))

/-! ## Time triggers -/

/-- T of the time trigger. -/
def State.ttAt (s : State) (p : Nat) : Nat := (stampOf (s.rd .portTtAtLo p) (s.rd .portTtAtHi p)).toNat

/-- The first T + k × PERIOD that the port island's copy has not yet passed (R267). -/
def State.ttNext (s : State) (p : Nat) : Stamp :=
  let per := 16 * (s.rd .portTtPer p).toNat
  let now := (portStamp (s.clock islPort)).toNat
  let t := s.ttAt p
  toS (if now ≤ t then t else t + divUp (now - t) per * per)

/-- A time trigger queues its script, or misses (R266). -/
def State.ttFire (s : State) (p : Nat) : State :=
  let (ok, s) := s.portTrigger p { script := s.fld .portTt 8 6 p, arg := s.rd .portTtArg p, src := .time }
  if ok then s else s.bump .portCnt0 24 8 p

/-- TIME_TRIGGER (R267). -/
def execTimeTrigger (p : Fin 32) (ts : Stamp) (s : State) : Host.Outcome State Fault Refusal :=
  .next (s.happens islPort ts (fun s => s.flag .portTt 0 p && decide (s.pstate < 3)) (fun s =>
    match (s.port p).tt with
    | none => s
    | some w =>
      if ts.toNat / portCycle < w.toNat / portCycle then s
      else
        let next := w.toNat + 16 * (s.rd .portTtPer p).toNat
        (s.onPort p (fun x => { x with tt := some (toS next) })).ttFire p))

/-- A series is planned: at EN 0 to 1 a time already passed triggers at once, any other plan waits (R267). -/
def State.ttPlan (s : State) (p : Nat) (fresh : Bool) : State :=
  let s := if fresh ∧ s.ttAt p < (portStamp (s.clock islPort)).toNat then s.ttFire p else s
  s.onPort p (fun x => { x with tt := some (s.ttNext p) })

/-- PORT_TT_WRITE (R267, R277). -/
def State.writeTt (s : State) (p : Nat) (r : PortTtReg) (v : Word) : State :=
  let on := s.flag .portTt 0 p
  match r with
  | .tt =>
    let s := s.wr .portTt (v &&& 0x3F01) p
    if !getB v 0 then s.onPort p (fun x => { x with tt := none }) else s.ttPlan p !on
  | .arg => s.wr .portTtArg v p
  | .per => if v.toNat < 1000 then s.portDrop p else (s.wr .portTtPer v p).when on (·.ttPlan p false)
  | .atLo => (s.wr .portTtAtLo v p).when on (·.ttPlan p false)
  | .atHi => (s.wr .portTtAtHi v p).when on (·.ttPlan p false)

def ttReg : PortTtReg → RegName
  | .tt => .portTt | .arg => .portTtArg | .per => .portTtPer | .atLo => .portTtAtLo | .atHi => .portTtAtHi

def execPortTtWrite (m : Master) (p : Fin 32) (r : PortTtReg) (v : Word) (s : State) : Host.Outcome State Fault Refusal :=
  .next (s.access m (ttReg r) p 0 (·.writeTt p r v))

/-! ## Registers written -/

def portCfgReg : PortCfgReg → RegName
  | .cfg => .portCfg | .spi => .portSpi | .spi2 => .portSpi2 | .sent => .portSent | .uart => .portUart
  | .dmemBase => .portDmemBase | .dmemSize => .portDmemSize | .notify => .portNotify

/-- EN written 0 (R272). -/
def State.portDisable (s : State) (p : Nat) : State :=
  match (s.port p).run with
  | some r => s.onPort p (fun x => { x with run := some { r with abort := true, flush := true } })
  | none => (s.onPort p (fun x => { x with cs := 0 })).portFlushAll p 4

/-- A value out of a field's range is a reserved encoding (R277). The Keystone region begins at 0x3C0000 (R210). -/
def State.portBad (s : State) (p : Nat) (r : PortCfgReg) (v : Word) : Bool :=
  let keystone := 0x3C0000
  match r with
  | .cfg => getB v 2 && getF v 0 2 == 0
  | .spi => decide (getF v 0 10 < 3)
  | .spi2 | .notify => false
  | .sent => decide (getF v 0 10 < 10 ∨ 900 < getF v 0 10 ∨ getF v 10 3 < 1 ∨ 6 < getF v 10 3)
  | .uart => decide (getF v 0 20 < 512)
  | .dmemBase => decide (v.toNat % 4 ≠ 0 ∨ keystone ≤ v.toNat ∨ keystone < v.toNat + (s.rd .portDmemSize p).toNat)
  | .dmemSize => decide (v.toNat % 4 ≠ 0 ∨ 0x400000 < v.toNat ∨ keystone < v.toNat + (s.rd .portDmemBase p).toNat)

/-- The writable bits of the port's configuration registers. -/
def portMask : PortCfgReg → Word
  | .cfg => 7 | .spi => 0xFFFF1FFF | .spi2 => 0x307FF | .sent => 0xFF01FFFF | .uart => 0x1FFFFF
  | .dmemBase => 0x3FFFFC | .dmemSize => 0x7FFFFC | .notify => 0xFF

/-- PORT_CFG_WRITE (R262, R272, R277). -/
def State.writePortCfg (s : State) (p : Nat) (r : PortCfgReg) (v0 : Word) : State :=
  let v := v0 &&& portMask r
  let on := s.portOn p
  let locked := on && (match r with
    | .cfg => getF v 0 2 != s.portMode p
    | .spi | .spi2 | .sent | .uart => true
    | _ => false)
  if locked || s.portBad p r (match r with | .dmemBase | .dmemSize => v0 | _ => v) then s.portDrop p
  else
    match r with
    | .cfg =>
      let s := s.withUnit (portUnit p) (·.wr .portCfg v p)
      if on && !getB v 2 then s.portDisable p else s
    | _ => s.wr (portCfgReg r) v p

def execPortCfgWrite (m : Master) (p : Fin 32) (r : PortCfgReg) (v : Word) (s : State) :
    Host.Outcome State Fault Refusal :=
  .next (s.access m (portCfgReg r) p 0 (·.writePortCfg p r v))

/-- ABORT (R272): no effect with no transaction running. -/
def State.portStop (s : State) (p : Nat) : State :=
  match (s.port p).run with
  | some r => s.onPort p (fun x => { x with run := some { r with abort := true } })
  | none => s

def execPortAbort (m : Master) (p : Fin 32) (s : State) : Host.Outcome State Fault Refusal :=
  .next (s.access m .portCtrl p 0 (·.portStop p))

def execPortFlush (m : Master) (p : Fin 32) (s : State) : Host.Outcome State Fault Refusal :=
  .next (s.access m .portCtrl p 0 (·.portFlush p))

/-- What PORT_CTRL.CLR_CNT clears (R8). -/
def State.clrPort (s : State) (p : Nat) : State := ((s.clr .portCnt0 p).clr .portCnt1 p).clr .portCnt2 p

def execPortClrCnt (m : Master) (p : Fin 32) (s : State) : Host.Outcome State Fault Refusal :=
  .next (s.access m .portCtrl p 0 (·.clrPort p))

/-- PORT_SCRIPT_WRITE (R271). -/
def State.writeScript (s : State) (p w : Nat) (v : Word) : State :=
  if (s.port p).run.isSome then s.portDrop p
  else { (s.wr .portScript v p w) with badScript := s.badScript.filter (· ≠ 256 * p + w) }

def execPortScriptWrite (m : Master) (p : Fin 32) (w : Fin 256) (v : Word) (s : State) :
    Host.Outcome State Fault Refusal :=
  .next (s.access m .portScript p w (·.writeScript p w v))

def execPortDmemPtrWrite (m : Master) (p : Fin 32) (v : Word) (s : State) : Host.Outcome State Fault Refusal :=
  .next (s.access m .portDmemPtr p 0 (·.wr .portDmemPtr (v &&& 0x3FFFFC) p))

/-! ## Engine faults -/

/-- A spare engine that has not yet replaced another: FLT_SPARE counts those free, of two (R260). -/
def State.freePortEngine (s : State) : Option Nat :=
  match s.fld .fltSpare 4 2 with | 0 => none | n + 1 => some (s.ports + (1 - n))

/-- The running transaction restarts at `up` (R274): an XFER in progress with its chip select asserted anew and CS_LEAD before it, a
RECV in progress as it stands; between two operations from the last XFER, which is not delivered again, or after the last RECV. The
time that CS_IDLE asks counts from the interruption at `ts`. -/
def State.portRestart (s : State) (p : Nat) (r : PortRun) (ts up : Nat) : State :=
  let r := { r with swapped := true, contig := false, sclk := none }
  let x := s.port p
  let go (x : PortX) (r : PortRun) (cs : Nat) : State :=
    let e := if cs = 0 then up else max up ((if x.cs = 0 then x.csOff.toNat else ts) + portCycle * s.fld .portSpi2 0 8 p)
    let lead := if cs = 0 then e else e + portCycle * s.fld .portSpi 16 8 p
    s.setPort p { x with cs := cs, csOff := if x.cs = 0 then x.csOff else toS ts, outTo := toS e
                         run := some { r with opEnd := toS e, lead := toS lead } }
  match s.scriptOp p r with
  | 2 => go x r x.cs
  | 3 => s.setPort p { x with outTo := toS up, run := some { r with opEnd := toS (max r.opEnd.toNat up) } }
  | _ =>
    let c := r.check
    if c.done ∧ s.portMode p ≠ 1 then s.setPort p { x with outTo := toS up, run := some { r with opEnd := toS (max r.opEnd.toNat up) } }
    else go x { r with pc := c.pc, loop := c.loop, mark := c.mark, mute := c.done } c.cs

/-- PORT_SWAP (R274): the outputs go idle; the running transaction restarts. Without a spare the port becomes FAILED. How long the
interruption lasts, at most 100 µs, is free. -/
def execPortSwap (p : Fin 32) (ts : Stamp) (s : State) : Host.Outcome State Fault Refusal :=
  let u := portUnit p
  .next (s.happens islPort ts (fun s => decide (p.val < s.ports) && !s.isFailed u) (fun s =>
    let old := s.fld .portStat 16 6 p
    let at0 := portUp ts.toNat
    match s.freePortEngine with
    | some e =>
      let ns := Config.freeNs s.freeCtr % 100001
      let up := portUp (at0 + 16 * ns)
      let s := s.drawn
      let s := (s.setFld .portStat 16 6 e p).setFlag .unitState 3 true u
      let s := { s with spares := s.spares.set none (64 + p.val) (some e) }
      let left := s.fld .fltSpare 4 2 - 1
      let s := s.setFld .fltSpare 4 2 left
      let s := s.onPort p (fun x => { x with outTo := toS up })
      let s := match (s.port p).run with
        | none => s
        | some r => s.portRestart p r at0 up
      let s := (s.bump .portCnt2 8 8 p).portEvent p 2
      let s := s.fault 0x07 u old false ns 0 (toW e)
      if left = 0 then s.fltEvent 3 else s
    | none =>
      let s := s.withUnit u (fun s => s.setFailed u)
      let s := s.onPort p (fun x => { x with cs := 0 })
      let s := match (s.port p).run with | some r => s.portFinish p r 5 (toS at0) | none => s
      (s.portFlushAll p 5).fault 0x08 u old true 0 0 0))

end Sys2Proof.Machine
end

