-- ==== Sys2Proof/Machine/Calendar.lean ====
section
/-! DEFINITION. The event calendar (06): entries, records, staging, slots' outcomes, arming, cancelling, withdrawal; and
the rows of followers and match slots (R73 to R78). -/

namespace Sys2Proof.Machine

/-! ## Entries -/

def State.eF (s : State) (n : RegName) (lo len idx : Nat) : Nat := s.fld n lo len idx
def State.eDom (s : State) (idx : Nat) : Nat := s.eF .entryW0 0 4 idx
def State.eAct (s : State) (idx : Nat) : Nat := s.eF .entryW0 4 4 idx
def State.eOwner (s : State) (idx : Nat) : Nat := s.eF .entryW0 16 8 idx
def State.eRepeat (s : State) (idx : Nat) : Bool := s.flag .entryW0 8 idx
/-- PHASE: 0 FREE, 1 WITHHELD, 2 ARMED, 3 STAGED, 4 ACTIVE, 5 RECORD. -/
def State.ePhase (s : State) (idx : Nat) : Nat := s.eF .entryW6 16 3 idx
def State.setPhase (s : State) (idx v : Nat) : State := s.setFld .entryW6 16 3 v idx
/-- A channel action goes through a match slot. -/
def State.eChan (s : State) (idx : Nat) : Bool := decide (1 ≤ s.eAct idx ∧ s.eAct idx ≤ 6)
/-- The target tile of a channel entry. -/
def State.eTile (s : State) (idx : Nat) : Nat := s.eF .entryW3 3 6 idx

/-- The entries in use, rising. -/
def State.entriesUsed (s : State) : List Nat :=
  (s.regs.filter (fun e => e.1.name == .entryW6 && decide (getF e.2 16 3 ≠ 0))).map (fun e => e.1.i)

/-- The entries of a domain. -/
def State.entriesOf (s : State) (d : Nat) : List Nat := s.entriesUsed.filter (fun i => s.eDom i == d)

/-- CAL_STAT, CAL_DSTAT and CAL_SLOTUSE as they read. -/
def State.calStatView (s : State) : Word :=
  let size := (List.range s.domains).foldl (fun a d => a + s.fld .calPart 16 14 d) 0
  putB (putF (s.rd .calStat) 0 14 (size - s.entriesUsed.length)) 17 (s.entriesUsed.any (fun i => (s.entry i).waits))
def State.calDstatView (s : State) (d : Nat) : Word :=
  let l := s.entriesOf d
  toW (l.length + (l.filter (fun i => s.ePhase i == 1)).length * 65536)
def State.calSlotuseView (s : State) (t : Nat) : Word := putF (s.rd .calSlotuse t) 0 5 (s.slotsUsed t)

/-- The lead of a negative offset at the domain's rate, in ac, and the delay after θ' (R148). -/
def State.eLead (s : State) (idx : Nat) : Nat × Nat :=
  let o := getS (s.rd .entryW2 idx) 0 24
  let step := (s.dom (s.eDom idx)).traj.step
  if 0 ≤ o then (0, o.toNat)
  else
    let m := o.natAbs
    let lead := divUp (m * step) (2 ^ 20)
    (lead, if step = 0 then 0 else lead * 2 ^ 20 / step - m)

/-- The crossing target θ' of the next occurrence, as a count. -/
def State.eTarget (s : State) (idx : Nat) : Nat := (s.entry idx).due - (s.eLead idx).1 * 65536

/-- The crossing of ANGLE whose θ' is the first to come after count u (R147). -/
def State.firstDue (s : State) (idx u : Nat) : Nat :=
  nextAbove (u + (s.eLead idx).1 * 65536) (s.cycleLen (s.eDom idx)) ((s.rd .entryW1 idx).toNat * 65536)

/-- The domain runs under LEAD, or mirrors a source that does (R154). -/
def State.leads (s : State) (d : Nat) : Bool :=
  if s.flag .domCtrl 2 d then (s.dom d).srcLead else getB (s.dom d).ctrl 3

/-! ## Completion records -/

def State.calEvent (s : State) (d b : Nat) : State := s.event .calEvt .calIen b (80 + d) d

/-- The counter of a status (CAL_CNT_0 to CAL_CNT_3): 16-bit fields wrap, 8-bit ones saturate. -/
def State.countStatus (s : State) (d st : Nat) : State :=
  match st with
  | 0 => s.bumpW .calCnt0 0 16 d
  | 1 => s.bumpW .calCnt0 16 16 d
  | 2 => s.bumpW .calCnt1 0 16 d
  | 3 => s.bump .calCnt1 16 8 d
  | 4 => s.bumpW .calCnt2 0 16 d
  | 5 => s.bump .calCnt1 24 8 d
  | _ => s.bumpW .calCnt3 0 16 d

/-- A completion record is written to domain d's queue, or dropped (R156), and raises what it raises (R157). -/
def State.putRecord (s : State) (d st : Nat) (ws : List Word) : State :=
  let size := 2 ^ s.fld .calCqSize 0 4 d
  let wr := s.fld .calCqWr 0 13 d
  let s := s.countStatus d st
  if (wr + 2 * size - s.fld .calCqRd 0 13 d) % (2 * size) = size then (s.bump .calCnt3 24 8 d).calEvent d 4
  else
    let a := (s.rd .calCqBase d).toNat + 16 * (wr % size)
    let s := ws.zipIdx.foldl (fun s (w, i) => s.setTm (a + 4 * i) w) s
    let s := s.wr .calCqWr (toW ((wr + 1) % (2 * size))) d
    let s := s.calEvent d 0
    match st with
    | 3 => s.calEvent d 1
    | 5 => s.calEvent d 2
    | 6 | 7 => s.calEvent d 3
    | _ => s

/-- NOTIFY (R157): word 0 goes to the entry's owner. -/
def State.notify (s : State) (idx : Nat) (w0 : Word) : State :=
  let d := s.eDom idx
  let o := s.eOwner idx
  if !s.flag .entryW0 9 idx then s
  else if o < 128 then s.post o w0 (evTag 1 d)
  else if o = 0x80 then s.raise (80 + d)
  else ((s.wr .calSupnote w0).bumpW .calSupnoteCnt 0 16).raise 210

/-- One record of an entry: status, detail, its times (R153, R155), NOTIFY and LOGC. -/
def State.record (s : State) (idx st detail : Nat) (time : Stamp) (x : Entry) : State :=
  let d := s.eDom idx
  let act := s.eAct idx
  let dur := match x.first, x.last with
    | some a, some b => if 4 ≤ act ∧ act ≤ 6 then some (satNat 32 ((b.toNat - a.toNat) / 16)) else none
    | _, _ => none
  let err := if st = 2 then x.err else none
  let w0 := toW (s.fld .entryW6 0 16 idx + d * 2 ^ 16 + st * 2 ^ 20 + detail * 2 ^ 24 + b2n err.isSome * 2 ^ 28 +
    b2n dur.isSome * 2 ^ 29 + b2n (s.eRepeat idx) * 2 ^ 30 + b2n x.trip * 2 ^ 31)
  let w2 := toW (encS 16 (clampInt (-32767) 32767 (err.getD 0)) + fineOf time * 65536)
  let w3 := toW (dur.getD 0)
  let s := s.putRecord d st [w0, ns32 time, w2, w3]
  let s := s.setFld .entryW6 20 3 st idx
  let s := s.notify idx w0
  if s.flag .entryW0 10 idx then s.offer 6 d w0 (if dur.isSome then w3 else w2) time else s

/-- The generation after g (R142). -/
def nextGen (g : Nat) : Nat := if g = 7 then 1 else g + 1

/-- An entry becomes free, and its generation and handle step (R142, R155). -/
def State.freeEntry (s : State) (idx : Nat) : State :=
  let x := s.entry idx
  (((s.setPhase idx 0).setFld .entryW6 0 16 (nextGen x.gen * 8192 + idx) idx).wr .entryW7 0 idx).setEntry idx
    { gen := nextGen x.gen, freed := s.fabNow + 1, firedNs := x.firedNs }

/-- A REPEAT entry is armed again in the fabric cycle after its record, for the next crossing after that cycle; in a domain that is OFF nothing can be armed, and it is freed
(R155, R147; DEDUCED, log entry 17). -/
def State.rearm (s : State) (idx : Nat) : State :=
  let d := s.eDom idx
  if s.domState d = 0 then s.freeEntry idx
  else
    let s := (s.bumpW .entryW6 24 8 idx).wr .entryW7 0 idx
    let sync := s.domState d == 3
    let s := s.setPhase idx (if sync then 2 else 1)
    s.setEntry idx {
      gen := (s.entry idx).gen, firedNs := (s.entry idx).firedNs
      due := if sync then s.firstDue idx (s.domU d (2 * (s.fabNow + 2))) else 0 }

/-- The status of an occurrence (R153): the one nearest the top of the table. -/
def Entry.status (x : Entry) : Nat :=
  if x.trunc then 5 else if x.late then 3 else if x.pred then 2 else if x.jumped then 1 else 0

/-- An occurrence ends in its record at `time` where no first action was made. -/
def State.finish (s : State) (idx : Nat) (time : Stamp) : State :=
  let x := s.entry idx
  let s := s.record idx x.status x.detail (x.first.getD time) x
  if s.eRepeat idx then s.rearm idx else s.freeEntry idx

/-- The entry's last action is made: its record is written, or waits for the end of the span under LEAD (R154). -/
def State.ended (s : State) (idx : Nat) (e : Stamp) : State :=
  let s := s.onEntry idx (fun x => { x with last := some e, ended := true })
  if (s.entry idx).span then s.setPhase idx 5 else s.finish idx e

/-- An occurrence ends LATE without an action. -/
def State.lateNow (s : State) (idx detail : Nat) (e : Stamp) : State :=
  (s.onEntry idx (fun x => { x with late := true, detail := max x.detail detail })).finish idx e

/-- An entry ends CANCELLED or withdrawn, and leaves the calendar. -/
def State.endAs (s : State) (idx st detail : Nat) : State :=
  (s.record idx st detail (s.clock islFabric) { s.entry idx with first := none, last := none, err := none }).freeEntry idx

/-! ## Staging -/

def State.calHeld (s : State) : Bool := s.held 136
/-- A tile takes no stagings: HELD or FAILED (R152). -/
def State.tileBars (s : State) (t : Nat) : Bool := s.held t || s.isFailed t

/-- An entry goes into slot k of tile t (R148, R149). -/
def State.stage (s : State) (idx t k : Nat) : State :=
  let d := s.eDom idx
  let (_, delay) := s.eLead idx
  let tgt := s.eTarget idx
  let act := s.eAct idx
  let a := (s.rd .entryW4 idx).toNat
  let b := (s.rd .entryW5 idx).toNat
  let s := s.onEntry idx (fun x => { x with delay := delay, target := tgt, waits := false })
  let s := (s.setPhase idx 3).wr .entryW7 (toW (t + k * 64)) idx
  s.fillSlot t k d (s.fld .entryW6 0 16 idx) (s.eF .entryW3 0 3 idx) act (acOf tgt (s.cycleLen d)) delay
    (if act = 4 ∨ act = 5 then a else 0) (if act = 6 then a % 65536 else b)

/-- The entry may be staged: its staging point, two pitches before θ', is reached by cycle n. -/
def State.stageable (s : State) (idx n : Nat) : Bool :=
  s.ePhase idx == 2 && s.eChan idx && !(s.entry idx).noEffect && s.domState (s.eDom idx) == 3 &&
    decide (s.eTarget idx ≤ s.domU (s.eDom idx) n + 131072 * 65536)

/-- A slot of tile t frees: the waiting entry with the lowest θ' takes it (R150). -/
def State.stageWaiting (s : State) (t : Nat) : State :=
  if s.calHeld || s.tileBars t then s
  else
    match s.freeSlot t with
    | none => s
    | some k =>
      let l := s.entriesUsed.filter (fun i => s.ePhase i == 2 && (s.entry i).waits && s.eTile i == t)
      match sortBy (fun a b => decide (s.eTarget a ≤ s.eTarget b)) l with
      | [] => s
      | i :: _ => (s.onEntry i (fun x => { x with waited := true })).stage i t k

/-- The entries that wait take the slots that are free, once a hold of the tile or the calendar has ended (R150, R152). -/
def State.stageAll (s : State) (t : Nat) : State := s.each (List.range 16) (fun s _ => s.stageWaiting t)

/-- The tile frees a slot, and a waiting entry may take it. -/
def State.releaseSlot (s : State) (t k : Nat) : State := (s.dropSlot t k).stageWaiting t

/-- STAGING (R149, R150): of the entries of the domain for the tile that have reached their staging points, the one with
the lowest θ', then index, goes first. -/
def execStaging (idx : Fin 8192) (ts : Stamp) (s : State) : Host.Outcome State Fault Refusal :=
  let i := idx.val
  .next (s.happens islFabric ts (fun s => s.stageable i (nsOf ts) && !s.calHeld && !s.tileBars (s.eTile i)) (fun s =>
    let t := s.eTile i
    let d := s.eDom i
    let first := (s.entriesOf d).all (fun j =>
      j == i || s.eTile j != t || !s.stageable j (nsOf ts) ||
        decide (s.eTarget i < s.eTarget j ∨ (s.eTarget i = s.eTarget j ∧ i < j)))
    if !first then s
    else
      match s.freeSlot t with
      | some k => s.stage i t k
      | none =>
        if (s.entry i).waits then s
        else (s.onEntry i (fun x => { x with waits := true })).bump .calSlotuse 16 16 t))

/-! ## What slots report -/

/-- A waiting slot is cleared without an edge, its follower being disabled or on another domain; its entry completes at
its due crossing (R78). -/
def State.loseSlot (s : State) (t k : Nat) : State :=
  let idx := s.slotIdx t k
  let s := s.withSum t (·.onSlot t k (fun x => { x with noEffect := true }))
  ((s.onEntry idx (fun x => { x with noEffect := true })).setPhase idx 2).releaseSlot t k

/-- Every waiting slot of a tile is held against its follower (R78). -/
def State.recheckSlots (s : State) (t : Nat) : State :=
  s.each (List.range 16) (fun s k =>
    if s.slotValid t k && s.slotPhase t k == 0 && (s.slotX (slotIx t k)).clear.isNone && !s.slotFolOk t k then s.loseSlot t k
    else s)

/-- SLOT_LOAD (R74, R78). -/
def execSlotLoad (t : Fin 64) (slot : Fin 16) (ts : Stamp) (s : State) : Host.Outcome State Fault Refusal :=
  .next (s.happens t ts (fun s => s.tileRuns t && s.slotValid t slot && !(s.slotX (slotIx t slot)).judged) (fun s =>
    if s.slotFolOk t slot then s.judgeSlot t slot (nsOf ts) else s.loseSlot t slot))

/-- The entry's first action, made at e for a crossing at `cross` (R129, R153, R154). -/
def State.acted (s : State) (idx : Nat) (e cross : Stamp) (target : Nat) (jumped late trip : Bool) (detail : Nat) : State :=
  let d := s.eDom idx
  s.onEntry idx (fun x => { x with
    first := some e, firedNs := nsOf e, judged := cross, target := target, jumped := jumped, late := late, trip := trip
    detail := max x.detail detail, due := x.due + s.cycleLen d
    span := s.leads d && decide ((s.dom d).pu ≤ target) })

/-- A slot fires: its edge due at `due` is made at e (R75, R76, R78, R152). -/
def State.fireSlot (s : State) (t k : Nat) (due e : Stamp) (delayed : Bool) : State :=
  let idx := s.slotIdx t k
  let c := s.slotCh t k
  let act := s.slotAct t k
  let f := s.slotFol t k
  let s := s.onEntry idx (fun x => { x with firedNs := nsOf e })
  if s.calHeld then (s.lateNow idx 10 e).releaseSlot t k
  else if !s.running t c || s.modeF t c != 5 then
    let s := (s.setFlag .slotCtrl 10 false t k).setFlag .slotCtrl 11 false t k
    let s := s.withSum t (·.onSlot t k (fun x => { x with noEffect := true }))
    (s.lateNow idx 8 e).releaseSlot t k
  else
    let x := s.entry idx
    let passed := s.flag .slotCtrl 12 t k
    let cross := (s.slotCross t k).getD e
    let fast := (s.fol (folIx t f)).fastAt (nsOf cross)
    let detail := max (if passed then (if x.waited then 5 else 4) else b2n fast) (if delayed then 2 else 0)
    let s := s.acted idx e cross x.target (s.flag .slotCtrl 10 t k) passed (s.flag .tripStat c t) detail
    if act ≤ 3 then
      ((s.withSum t (·.slotEdge t k act e delayed)).ended idx e).releaseSlot t k
    else
      let s := s.setPhase idx 4
      if act = 6 then (s.withSum t (·.burstStart t k e)).setFld .slotCtrl 8 2 2 t k
      else
        let s := (s.withSum t (·.slotEdge t k 1 e delayed)).setFld .slotCtrl 8 2 1 t k
        let y := s.slotX (slotIx t k)
        let u := max y.target ((s.fol (folIx t f)).angleAt (nsOf cross))
        s.onSlot t k (fun y => { y with
          openAt := e, openDue := due
          closeU := nextAbove u (s.cycleLen y.dom) ((s.rd .slotClose t k).toNat * 65536) })

/-- SLOT_FIRE (R75, R76). -/
def execSlotFire (t : Fin 64) (slot : Fin 16) (ts : Stamp) (s : State) : Host.Outcome State Fault Refusal :=
  .next (s.happens t ts (fun s => s.tileRuns t && s.slotValid t slot && s.domState (s.slotX (slotIx t slot)).dom == 3) (fun s =>
    match s.slotFireDue t slot with
    | none => s
    | some due =>
      let (e, delayed) := s.madeAt t (s.slotCh t slot) due
      if nsOf ts < nsOf e then s else s.fireSlot t slot due e delayed))

/-- An open slot closes at e, by its own close or its guard (R76). -/
def State.closeSlot (s : State) (t k : Nat) (e : Stamp) (delayed guarded : Bool) : State :=
  let idx := s.slotIdx t k
  let s := s.withSum t (·.slotLow t k e delayed)
  let s := if guarded then s.setFlag .slotCtrl 11 true t k else s
  let detail := if guarded then 3 else if delayed then 2 else 0
  let s := s.onEntry idx (fun x => { x with detail := max x.detail detail })
  (s.ended idx e).releaseSlot t k

/-- An open slot's own close, which wins over a guard at the same instant (R76). -/
def State.ownClose (s : State) (t k act : Nat) (ts : Stamp) : State :=
  if !s.slotValid t k || s.slotAct t k != act then s
  else
    match s.slotCloseDue t k, s.guardDue t k with
    | some due, some g =>
      let (e, delayed) := s.madeAt t (s.slotCh t k) due
      if g.toNat < due.toNat ∨ nsOf ts < nsOf e then s else s.closeSlot t k e delayed false
    | _, _ => s

/-- SLOT_CLOSE_DURATION (R76). -/
def execSlotCloseDuration (t : Fin 64) (slot : Fin 16) (ts : Stamp) (s : State) : Host.Outcome State Fault Refusal :=
  .next (s.happens t ts (fun s => s.tileRuns t) (·.ownClose t slot 5 ts))

/-- SLOT_CLOSE_ANGLE (R76). -/
def execSlotCloseAngle (t : Fin 64) (slot : Fin 16) (ts : Stamp) (s : State) : Host.Outcome State Fault Refusal :=
  .next (s.happens t ts (fun s => s.tileRuns t) (·.ownClose t slot 4 ts))

/-- GUARDED (R76). -/
def execGuarded (t : Fin 64) (slot : Fin 16) (ts : Stamp) (s : State) : Host.Outcome State Fault Refusal :=
  .next (s.happens t ts (fun s => s.tileRuns t && s.slotValid t slot) (fun s =>
    match s.guardDue t slot with
    | none => s
    | some g =>
      let (e, delayed) := s.madeAt t (s.slotCh t slot) g
      let own := match s.slotCloseDue t slot with | some d => decide (d.toNat ≤ g.toNat) | none => false
      if own || decide (nsOf ts < nsOf e) then s else s.closeSlot t slot e delayed true))

/-- BURST_END (R76). -/
def execBurstEnd (t : Fin 64) (slot : Fin 16) (ts : Stamp) (s : State) : Host.Outcome State Fault Refusal :=
  .next (s.happens t ts (fun s => s.tileRuns t && s.slotValid t slot && s.slotPhase t slot == 2 &&
      (s.slotX (slotIx t slot)).clear.isNone) (fun s =>
    match s.burstEnd? t slot with
    | none => s
    | some e => if nsOf ts < nsOf e then s else s.closeSlot t slot e false false))

/-- The tile makes a clear in cycle n: an open output, or a burst, goes LOW (R77). -/
def State.makeClear (s : State) (t k n : Nat) : State :=
  let open_ := s.slotPhase t k == 1 || s.slotPhase t k == 2
  (if open_ then s.withSum t (·.slotLow t k (toS (16 * n))) else s).releaseSlot t k

/-- Every clear that still waits is made: before the tile clocks stop (R160, R236). -/
def State.makeClears (s : State) : State :=
  s.each (List.range s.tiles) (fun s t => s.each (List.range 16) (fun s k =>
    match (s.slotX (slotIx t k)).clear with
    | some n => if s.slotValid t k then s.makeClear t k n else s
    | none => s))

/-- SLOT_CLEAR (R77). -/
def execSlotClear (t : Fin 64) (slot : Fin 16) (ts : Stamp) (s : State) : Host.Outcome State Fault Refusal :=
  .next (s.happens t ts (fun s => s.tileRuns t && s.slotValid t slot) (fun s =>
    match (s.slotX (slotIx t slot)).clear with
    | none => s
    | some n => if nsOf ts < n then s else s.makeClear t slot n))

/-! ## Followers -/

/-- The enabled followers of a domain. -/
def State.folsOf (s : State) (d : Nat) : List (Nat × Nat) :=
  (s.regs.filter (fun e => e.1.name == .folCtrl && getB e.2 0 && getF e.2 4 4 == d)).map (fun e => (e.1.i, e.1.j))

/-- The followers of a domain take its angle, rate, cap and state as they stand. -/
def State.loadFols (s : State) (d : Nat) : State :=
  (s.folsOf d).foldl (fun s (t, f) =>
    if s.tileStopped t then { s with folMiss := markRising s.folMiss (folIx t f) true } else s.loadFol t f) s

/-- FOLLOWER_UPDATE (R73, R75): the follower takes its domain's last tooth update in the cycle of ts. -/
def execFollowerUpdate (t : Fin 64) (f : Fin 4) (ts : Stamp) (s : State) : Host.Outcome State Fault Refusal :=
  .next (s.happens t ts (fun s => s.tileRuns t && s.folOn t f && (s.fol (folIx t f)).run) (fun s =>
    match (s.dom (s.folDom t f)).last with
    | none => s
    | some x =>
      let old := s.fol (folIx t f)
      let n := nsOf ts
      if x.te = old.te ∨ n ≤ old.ns then s
      else
        let (new, jumped, _) := old.apply x n
        let s := (s.setFol (folIx t f) new).fixSlots t f n old new
        if jumped then s.bumpW .folStat 16 16 t f else s))

/-- FOL_CTRL (R73): a change of DOMAIN is dropped while a running ANGLE_MATCH channel uses the follower (R64). -/
def State.writeFol (s : State) (t f : Nat) (v : Word) : State :=
  let users := (List.range 8).filter (fun c => s.running t c && s.modeF t c == 5 && s.fld .chCtrl 16 2 t c == f)
  if getF v 4 4 ≠ s.folDom t f ∧ !users.isEmpty then s.withSum t (fun s => s.each users (fun s c => s.chDrop t c))
  else
    let n := nsOf (s.tileClock t)
    let was := s.folOn t f
    let angle := s.folAngle t f
    let s := s.wr .folCtrl (v &&& 0xF1) t f
    let s :=
      if getB v 0 then s.loadFol t f
      else if was then (s.wr .folAngle angle t f).setFol (folIx t f) ((s.fol (folIx t f)).freeze n)
      else s
    (s.noteCourse t).recheckSlots t

def execFollowerEnable (m : Master) (t : Fin 64) (f : Fin 4) (v : Word) (s : State) : Host.Outcome State Fault Refusal :=
  .next (s.access m .folCtrl t f (·.writeFol t f v))

/-- CH_CTRL_WRITE (R64, R65): the slots that wait on the channel are held against its follower (R78). -/
def State.setChCtrl (s : State) (t c : Nat) (v : Word) : State := (s.withSum t (·.writeChCtrl t c v)).recheckSlots t

def execChCtrlWrite (m : Master) (g : Fin 512) (v : Word) (s : State) : Host.Outcome State Fault Refusal :=
  .next (s.access m .chCtrl (tileOf g) (chOf g) (·.setChCtrl (tileOf g) (chOf g) v))

/-! ## Crossings that the calendar judges itself -/

/-- One entry judged on its domain's angle in cycle n (R151, R152, R155, R78). A channel entry that waits for a slot falls due
once. -/
def State.judgeEntry (s : State) (n idx : Nat) : State :=
  let d := s.eDom idx
  let tr := (s.dom d).traj
  let tgt := s.eTarget idx
  let x := s.entry idx
  match tr.crossedBy tgt n with
  | none => s
  | some e =>
    match s.ePhase idx with
    | 2 =>
      if x.cross.isSome || x.passed then s
      else if s.calHeld then s.lateNow idx 10 e
      else if s.eChan idx then
        if s.held (s.eTile idx) then s.lateNow idx 10 e
        else if s.isFailed (s.eTile idx) then s.lateNow idx 11 e
        else if x.noEffect then s.lateNow idx 8 e
        else s.setEntry idx { x with passed := true }
      else
        s.setEntry idx { x with
          cross := some e, delay := (s.eLead idx).2, target := tgt
          jumped := tr.jumped && decide (tr.pre < tgt ∧ tgt ≤ tr.u), detail := b2n (tr.fastAt (nsOf e)) }
    | 4 | 5 =>
      if !s.eRepeat idx then s
      else
        let s := s.record idx 3 7 e { gen := x.gen }
        (s.bumpW .entryW6 24 8 idx).onEntry idx (fun x => { x with due := x.due + s.cycleLen d })
    | _ => s

/-- A domain's angle is judged up to cycle n: WRAP, and the due crossings of its entries (R125, R151). -/
def State.judgeDomain (s : State) (d n : Nat) : State :=
  let x := s.dom d
  let len := s.cycleLen d
  if s.domState d ≠ 3 ∨ len = 0 then s
  else
    let from_ := if x.traj.seen < x.traj.ns then x.traj.pre else x.traj.angleAt x.traj.seen
    let s := if from_ / len < x.traj.angleAt n / len then s.event .domEvt .domIen 11 (64 + d) d else s
    let s := s.setDom d { x with traj := { x.traj with seen := max x.traj.seen n } }
    s.each (s.entriesOf d) (fun s i => s.judgeEntry n i)

/-- The action of a non-channel entry (R143): the detail of a LATE outcome, 0 where it was made. -/
def State.issueAct (s : State) (idx : Nat) (e : Stamp) : Nat × State :=
  let tgt := (s.rd .entryW3 idx).toNat
  let a := s.rd .entryW4 idx
  match s.eAct idx with
  | 7 =>
    let full := decide (16 ≤ (s.port tgt).queue.length)
    let (ok, s) := s.portTrigger tgt { script := getF a 0 6, arg := s.rd .entryW5 idx, src := .calendar }
    (if ok then 0 else if s.held (portUnit tgt) || s.isFailed (portUnit tgt) || !full then 10 else 6, s)
  | 8 => (0, s.snapshot tgt e)
  | 9 => (0, s.post tgt a (evTag 0 (s.eDom idx)))
  | _ => (0, s.mlSend 7 0 true [toW (tgt % 256), a])

/-- The time at which a judged entry's action is due: the crossing plus its delay (R151). -/
def Entry.issueDue (x : Entry) : Option Nat := x.cross.map (fun c => c.toNat + x.delay)

/-- The entries that wait to be issued: due time, the target where a jump made the crossing (R162), index. -/
def State.issueList (s : State) : List (Nat × Nat × Nat) :=
  s.entriesUsed.filterMap (fun i =>
    let x := s.entry i
    if s.ePhase i = 2 then x.issueDue.map (fun t => (t, if x.jumped then x.target else 0, i)) else none)

/-- The order of issue: due time, at a jump target, index (R151, R162). -/
def issueBefore (a b : Nat × Nat × Nat) : Bool :=
  decide (a.1 < b.1 ∨ (a.1 = b.1 ∧ (a.2.1 < b.2.1 ∨ (a.2.1 = b.2.1 ∧ a.2.2 ≤ b.2.2))))

/-- CALENDAR_ACTION_ISSUE (R151): in the first fabric cycle at or after the due time, one action per cycle, in order of
due time and then of index. One that falls due while the calendar is HELD completes LATE (R152). -/
def execCalendarActionIssue (idx : Fin 8192) (ts : Stamp) (s : State) : Host.Outcome State Fault Refusal :=
  let i := idx.val
  .next (s.happens islFabric ts (fun s => s.ePhase i == 2) (fun s =>
    match (s.entry i).issueDue with
    | none => s
    | some due =>
      let cyc := max (divUp due 32) (s.calIssue + 1)
      let x := s.entry i
      let first := s.issueList.all (issueBefore (due, if x.jumped then x.target else 0, i))
      if s.calHeld then (if ts.toNat < due then s else s.lateNow i 10 ts)
      else if !first || decide (fabCycle ts < cyc) then s
      else
        let e := toS (32 * cyc)
        let (late, s) := ({ s with calIssue := cyc }).issueAct i e
        let s := s.acted i e (x.cross.getD e) x.target x.jumped (decide (late ≠ 0)) false (max x.detail late)
        let s := if late ≠ 0 then s.onEntry i (fun x => { x with span := false }) else s
        s.ended i e))

/-! ## Arming -/

/-- The OWNER field of a requester (R141); Keystone's arms carry its context 0 (DEDUCED, log entry 18). -/
def ownerCode : Requester → Nat
  | .keystone => 0
  | .supervisor => 0x81
  | .host => 0x80
  | .ctx x => x

/-- The requester is a task context: an engine context at privilege 2 or 3. -/
def State.taskReq (s : State) : Requester → Bool
  | .ctx x => decide (2 ≤ s.privOf x)
  | _ => false

/-- The unit of an arm's target, and whether what the request names is absent (R145). -/
def State.armAbsent (s : State) (ws : ArmWords) : Bool :=
  let tgt := ws.w3.toNat
  decide (s.domains ≤ getF ws.w0 0 4) || (match getF ws.w0 4 4 with
    | 1 | 2 | 3 | 4 | 5 | 6 => decide (s.tiles ≤ tgt % 512 / 8)
    | 7 => decide (s.ports ≤ tgt % 32)
    | 9 => decide (32 * s.engines ≤ tgt % 128)
    | _ => false)

/-- The target unit of an arm: a tile or a port. -/
def armUnit (ws : ArmWords) : Option Nat :=
  match getF ws.w0 4 4 with
  | 1 | 2 | 3 | 4 | 5 | 6 => some (getF ws.w3 3 6)
  | 7 => some (84 + getF ws.w3 0 5)
  | _ => none

/-- The calendar or the target is FAILED, or HELD for the host or a task (R145). -/
def State.armDenied (s : State) (r : Requester) (ws : ArmWords) : Bool :=
  let us := 136 :: (armUnit ws).toList
  us.any (fun u => s.isFailed u) || ((r == .host || s.taskReq r) && us.any (fun u => s.held u))

/-- Reserved codes, angles out of range, zero values, unused bits (R143 to R145). -/
def State.armBad (s : State) (ws : ArmWords) : Bool :=
  let len := s.cycleLen (getF ws.w0 0 4) / 65536
  let a := ws.w4.toNat
  let b := ws.w5.toNat
  let t := ws.w3.toNat
  getF ws.w0 11 5 != 0 || getF ws.w0 24 8 != 0 || getF ws.w2 24 8 != 0 || decide (len ≤ ws.w1.toNat) ||
    (match getF ws.w0 4 4 with
    | 1 | 2 | 3 => decide (512 ≤ t ∨ a ≠ 0 ∨ b ≠ 0)
    | 4 => decide (512 ≤ t ∨ len ≤ a ∨ b = 0)
    | 5 => decide (512 ≤ t ∨ a = 0 ∨ b = 0)
    | 6 => decide (512 ≤ t ∨ a = 0 ∨ 65536 ≤ a ∨ b ≠ 0)
    | 7 => decide (32 ≤ t ∨ 64 ≤ a)
    | 8 => decide (131072 ≤ t ∨ a ≠ 0 ∨ b ≠ 0)
    | 9 => decide (128 ≤ t ∨ b ≠ 0)
    | 10 => decide (256 ≤ t ∨ b ≠ 0)
    | _ => true)

/-- The lowest free index of a domain's partition (R140, R142). -/
def State.freeIndex (s : State) (d : Nat) : Option Nat :=
  let base := s.fld .calPart 0 13 d
  ((List.range (s.fld .calPart 16 14 d)).map (fun i => base + i)).find? (fun i =>
    s.ePhase i == 0 && decide ((s.entry i).freed ≤ s.fabNow))

/-- The place of a requester in the lock order (R146). -/
def turnOf : Requester → Nat
  | .keystone => 0
  | .supervisor => 1
  | .ctx x => 2 + x
  | .host => 130

/-- A request is decided (R146): in the present fabric cycle, or in the next where one that comes after it in the lock order has
been decided in the present one. -/
def State.calDecides (s : State) (r : Requester) : State :=
  let s := if s.calTurn.1 = s.fabNow ∧ turnOf r < s.calTurn.2 then s.reachIn islFabric (toS (32 * (s.fabNow + 1))) else s
  { s with calTurn := (s.fabNow, turnOf r) }

/-- The calendar decides an arm request (R145, R147): status and result. The due crossing follows the decision cycle. -/
def State.armDecision (s : State) (r : Requester) (ws : ArmWords) : (Nat × Word) × State :=
  let s := s.calDecides r
  let d := getF ws.w0 0 4
  if s.armAbsent ws then ((stAbsent, 0), s)
  else if s.armDenied r ws then ((stDenied, 0), s)
  else if s.domState d = 0 then ((stState, toW (s.unitCode (64 + d))), s)
  else if s.armBad ws then ((stParam, 0), s)
  else
    match s.freeIndex d with
    | none => ((stNospace, 0), s)
    | some i =>
      let gen := (s.entry i).gen
      let handle := gen * 8192 + i
      let sync := s.domState d == 3
      let s := s.wr .entryW0 (putF ws.w0 16 8 (ownerCode r)) i
      let s := [(RegName.entryW1, ws.w1), (.entryW2, ws.w2), (.entryW3, ws.w3), (.entryW4, ws.w4), (.entryW5, ws.w5)].foldl
        (fun s (n, w) => s.wr n w i) s
      let s := (s.wr .entryW6 (toW (handle + (if sync then 2 else 1) * 65536)) i).wr .entryW7 0 i
      let s := s.setEntry i { gen := gen, due := if sync then s.firstDue i (s.domU d (2 * (s.fabNow + 1))) else 0 }
      ((stOk, toW handle), s)

/-- CALENDAR_ARM_DECISION (R145, R146). -/
def execCalendarArmDecision (r : Requester) (ws : ArmWords) (ts : Stamp) (s : State) : Host.Outcome State Fault Refusal :=
  let (a, s) := (s.reachIn islFabric ts).armDecision r ws
  .next { s with calAnswer := a }

/-- When a domain enters SYNC its WITHHELD entries become ARMED for the first crossing after that cycle (R147). -/
def State.releaseEntries (s : State) (d : Nat) : State :=
  s.each ((s.entriesOf d).filter (fun i => s.ePhase i == 1)) (fun s i =>
    (s.setPhase i 2).onEntry i (fun x => { x with due := s.firstDue i (s.domU d (nsOf (s.clock islDomain) + 1)) }))

/-! ## Cancelling -/

/-- The domain whose partition holds an index. -/
def State.partOf (s : State) (idx : Nat) : Option Nat :=
  (List.range s.domains).find? (fun d =>
    decide (s.fld .calPart 0 13 d ≤ idx ∧ idx < s.fld .calPart 0 13 d + s.fld .calPart 16 14 d))

/-- An entry that a cancel may end is cancelled: a staged slot is cleared (R158). -/
def State.cancelEntry (s : State) (idx : Nat) : State :=
  let t := s.fld .entryW7 0 6 idx
  let s := if s.ePhase idx = 3 then s.clearSlot t (s.fld .entryW7 6 4 idx) (s.nextNs t) else s
  s.endAs idx 4 0

/-- The slot of a STAGED entry fires by the tile cycle in which a clear would reach it (R77). -/
def State.firesFirst (s : State) (idx : Nat) : Bool :=
  let t := s.fld .entryW7 0 6 idx
  let k := s.fld .entryW7 6 4 idx
  s.domState (s.eDom idx) == 3 && s.tileRuns t &&
    match s.slotFireDue t k with
    | some due => decide (nsOf (s.madeAt t (s.slotCh t k) due).1 ≤ s.nextNs t)
    | none => false

/-- PHASE and state of an entry that a cancel ends (R158): not a non-channel action already issued, nor one whose slot fires in
the tile cycle of the clear. -/
def State.cancellable (s : State) (idx : Nat) : Bool :=
  s.ePhase idx == 1 || s.ePhase idx == 2 || (s.ePhase idx == 3 && !s.firesFirst idx)

/-- The entry acts in the present tile cycle: a cancel comes too late for it, though its record is written (R77). -/
def Entry.justFired (x : Entry) (n : Nat) : Bool := decide (x.firedNs ≠ 0 ∧ n ≤ x.firedNs)

/-- The calendar decides a cancel (R158). A handle whose entry has ended is STALE, but in the tile cycle of its action TOO_LATE, and
in the fabric cycle of a withdrawal that it outranks CANCELLED. -/
def State.cancelDecision (s : State) (r : Requester) (handle : Nat) : Nat × State :=
  let s := s.calDecides r
  let idx := handle % 8192
  let gen := handle / 8192 % 8
  let x := s.entry idx
  let n := nsOf (s.clock islFabric)
  let ended := s.ePhase idx == 0 && gen != 0 && x.gen == nextGen gen
  let stale := (stStale, match s.partOf idx with | some d => s.bump .calCnt3 16 8 d | none => s)
  let tooLate := (stTooLate, s.bumpW .calCnt2 16 16 (s.eDom idx))
  let denied := s.taskReq r && s.eOwner idx != (ownerCode r)
  if ended && x.cancelled == s.fabNow + 1 then (stOk, s.setEntry idx { x with cancelled := 0 })
  else if ended && x.justFired n then (if denied then (stDenied, s) else tooLate)
  else if s.ePhase idx = 0 ∨ gen = 0 ∨ gen ≠ x.gen then stale
  else if denied then (stDenied, s)
  else if s.cancellable idx && !x.justFired n then (stOk, s.cancelEntry idx)
  else tooLate

/-- CALENDAR_CANCEL_DECISION (R158). -/
def execCalendarCancelDecision (r : Requester) (handle : BitVec 16) (ts : Stamp) (s : State) :
    Host.Outcome State Fault Refusal :=
  let (st, s) := (s.reachIn islFabric ts).cancelDecision r handle.toNat
  .next { s with calAnswer := (st, toW handle.toNat) }

/-- A flush (R159): the entries cancelled, and the state after. -/
def State.flushDecision (s : State) (r : Requester) (d : Nat) : Nat × State :=
  let s := s.calDecides r
  let l := (s.entriesOf d).filter (fun i => s.cancellable i && (!s.taskReq r || s.eOwner i == (ownerCode r)))
  (l.length, s.each l (fun s i => s.cancelEntry i))

/-- CALENDAR_FLUSH_DECISION (R159, R21). -/
def execCalendarFlushDecision (r : Requester) (d : Fin 16) (ts : Stamp) (s : State) : Host.Outcome State Fault Refusal :=
  let s := s.reachIn islFabric ts
  if s.domains ≤ d.val then .next { s with calAnswer := (stAbsent, 0) }
  else
    let (n, s) := s.flushDecision r d
    .next { s with calAnswer := (stOk, toW n) }

/-! ## Withdrawal -/

/-- A cancel that would end the entry waits to be decided in the present fabric cycle: it outranks a withdrawal of that cycle
(R158). -/
def State.cancelWaits (s : State) (idx : Nat) : Bool :=
  s.pending.any (fun c =>
    match c with
    | .calendarCancelDecision r h ts =>
      h.toNat == (s.entry idx).gen * 8192 + idx && decide (fabCycle ts ≤ s.fabNow) &&
        !(s.taskReq r && s.eOwner idx != (ownerCode r))
    | _ => false)

/-- An entry that has not acted is withdrawn with status st, or CANCELLED for a cancel of the same fabric cycle. -/
def State.withdrawn (s : State) (st detail idx : Nat) : State :=
  if s.cancelWaits idx then (s.endAs idx 4 0).onEntry idx (fun x => { x with cancelled := s.fabNow + 1 })
  else s.endAs idx st detail

/-- One entry at the end of SYNC, at STALL, REVERSE or a disable (R154, R160, R161): an open pair or burst is TRUNCATED,
an occurrence whose record waits gets it, any other entry is withdrawn with status st. -/
def State.withdrawEntry (s : State) (st detail : Nat) (heldSpan : Bool) (idx : Nat) : State :=
  let t := s.fld .entryW7 0 6 idx
  let k := s.fld .entryW7 6 4 idx
  let n := s.nextNs t
  let at_ := s.clock islFabric
  match s.ePhase idx with
  | 3 => (s.clearSlot t k n).withdrawn st detail idx
  | 4 =>
    let s := s.clearSlot t k n
    let s := s.onEntry idx (fun x => { x with
      trunc := true, last := some (toS (16 * n)), span := false, detail := max x.detail detail })
    s.finish idx at_
  | 5 => (s.onEntry idx (fun x => { x with pred := heldSpan, err := none, span := false, detail := max x.detail detail })).finish idx at_
  | _ => s.withdrawn st detail idx

/-- Every entry of a domain is withdrawn (R160, R161). The domain has left its state already. -/
def State.withdraw (s : State) (d st detail : Nat) (heldSpan : Bool) : State :=
  s.each (s.entriesOf d) (fun s i => s.withdrawEntry st detail heldSpan i)

/-- A tile becomes HELD (detail 10) or FAILED (11): waiting slots are cleared and their entries wait for their crossings;
open pairs and bursts are TRUNCATED (R152). -/
def State.barTile (s : State) (t detail : Nat) : State :=
  s.each (List.range 16) (fun s k =>
    if !s.slotValid t k || (s.slotX (slotIx t k)).clear.isSome then s
    else
      let idx := s.slotIdx t k
      if s.slotPhase t k = 0 then (s.setPhase idx 2).dropSlot t k
      else
        let e := toS (16 * s.nextNs t)
        let s := s.onChan (8 * t + s.slotCh t k) (fun x => { x with burst := 0 })
        let s := (s.slotEdge t k 2 e false).dropSlot t k
        let s := s.onEntry idx (fun x => { x with
          trunc := true, last := some e, span := false, detail := max x.detail detail })
        s.finish idx (s.clock islFabric))

/-- The end of a span of a LEAD domain by an accepted edge at te (R129, R154): its held entries are FIRED_PREDICTED with
their errors where the span ended in a hold. The arguments are those of the span: position count, stamp, positions. -/
def State.endSpan (s : State) (d : Nat) (heldSpan : Bool) (pu : Nat) (tp te : Stamp) (sp : Nat) : State :=
  s.each ((s.entriesOf d).filter (fun i => (s.entry i).span)) (fun s i =>
    let x := s.entry i
    let run := (te.toNat : Int) - tp.toNat
    let real := if run ≤ 0 then 0 else (2 * 65536 * sp * ((x.judged.toNat : Int) - tp.toNat) + run) / (2 * run)
    let err := ((x.target : Int) - pu) / 65536 - real
    let s := s.setEntry i { x with pred := heldSpan, err := if heldSpan then some err else none, span := false }
    if x.ended then s.finish i te else s)

/-! ## Registers written -/

def State.calErr (s : State) : State := s.setFlag .calStat 16 true

/-- A partition that runs past 8,192 or overlaps another's (R140). -/
def State.partBad (s : State) (d : Nat) (v : Word) : Bool :=
  let base := getF v 0 13
  let size := getF v 16 14
  decide (8192 < base + size) || (List.range s.domains).any (fun e =>
    let b := s.fld .calPart 0 13 e
    let n := s.fld .calPart 16 14 e
    e != d && decide (0 < size ∧ 0 < n ∧ base < b + n ∧ b < base + size))

/-- CAL_PART (R140). -/
def State.writePart (s : State) (d : Nat) (v : Word) : State :=
  if s.partBad d v || !(s.entriesOf d).isEmpty then s.calErr else s.wr .calPart (v &&& 0x3FFF1FFF) d

def execCalPartWrite (m : Master) (d : Fin 16) (v : Word) (s : State) : Host.Outcome State Fault Refusal :=
  .next (s.access m .calPart d 0 (·.writePart d v))

/-- CAL_CQ_RD (R156). -/
def State.writeCqRd (s : State) (d : Nat) (v : Word) : State :=
  let z := 2 * 2 ^ s.fld .calCqSize 0 4 d
  let rd := s.fld .calCqRd 0 13 d
  let n := getF v 0 13
  if n < z ∧ (n + z - rd) % z ≤ (s.fld .calCqWr 0 13 d + z - rd) % z then s.wr .calCqRd (toW n) d else s.calErr

def execCqRdWrite (m : Master) (d : Fin 16) (v : Word) (s : State) : Host.Outcome State Fault Refusal :=
  .next (s.access m .calCqRd d 0 (·.writeCqRd d v))

/-- A queue of 2^log records from base fits below the Keystone region (R156, R210). -/
def queueFits (base log : Nat) : Bool := decide (4 ≤ log ∧ log ≤ 12 ∧ base + 16 * 2 ^ log ≤ 0x3C0000)

/-- CAL_CQ_BASE and CAL_CQ_SIZE (R156, R210). -/
def State.writeCq (s : State) (d : Nat) (size : Bool) (v : Word) : State :=
  let base := v &&& 0x3FFFF0
  if s.fld .calCqWr 0 13 d ≠ s.fld .calCqRd 0 13 d then s.calErr
  else if size then
    (if queueFits (s.rd .calCqBase d).toNat (getF v 0 4) then s.wr .calCqSize (v &&& 0xF) d else s.calErr)
  else if queueFits base.toNat (s.fld .calCqSize 0 4 d) then s.wr .calCqBase base d
  else s.calErr

def execCqConfigWrite (m : Master) (d : Fin 16) (size : Bool) (v : Word) (s : State) : Host.Outcome State Fault Refusal :=
  .next (s.access m (if size then .calCqSize else .calCqBase) d 0 (·.writeCq d size v))

/-- What CAL_CTRL.CLR_CNT clears (R8): every CAL_CNT and the counts of CAL_SLOTUSE. -/
def State.clrCal (s : State) : State :=
  let s := s.each (List.range 16) (fun s d => (((s.clr .calCnt0 d).clr .calCnt1 d).clr .calCnt2 d).clr .calCnt3 d)
  s.each (List.range 64) (fun s t => s.wr .calSlotuse (toW (s.slotsUsed t * 256)) t)

def execCalClrCnt (m : Master) (s : State) : Host.Outcome State Fault Refusal :=
  .next (s.access m .calCtrl 0 0 State.clrCal)

end Sys2Proof.Machine
end

