-- ==== Sys2Proof/Machine/Domain.lean ====
section
/-! DEFINITION. Angle domains (05): tooth acceptance, finding the pattern, states, tooth updates, phase wheel, phase
measurement, mirrors and the domain registers. -/

namespace Sys2Proof.Machine

/-! ## The wheel -/

def State.npos (s : State) (d : Nat) : Nat := s.fld .domPat0 0 11 d
def State.missOf (s : State) (d : Nat) : Nat := s.fld .domPat0 12 2 d
def State.idxMode (s : State) (d : Nat) : Nat := s.fld .domPat0 14 2 d
def State.gapPos (s : State) (d : Nat) : Nat := s.fld .domPat0 16 10 d
def State.revolution (s : State) (d : Nat) : Bool := s.flag .domCtrl 1 d
def State.mirror (s : State) (d : Nat) : Bool := s.flag .domCtrl 2 d
/-- The domain steps its angle: HALF or SYNC. -/
def State.domLive (s : State) (d : Nat) : Bool := s.domState d == 2 || s.domState d == 3

/-- Position p is one of the MISS positions before GAP_POS. -/
def State.missing (s : State) (d p : Nat) : Bool :=
  let n := s.npos d
  let g := (s.gapPos d + n - p % n) % n
  decide (1 ≤ g ∧ g ≤ s.missOf d)

/-- The positions from p to the next real one: MISS + 1 into the gap, else 1. -/
def State.spanOf (s : State) (d p : Nat) : Nat := if s.missing d (p + 1) then s.missOf d + 1 else 1

def State.domEvent (s : State) (d b : Nat) : State := s.event .domEvt .domIen b (64 + d) d

/-- Thresholds of R116 in force: RMIN, RMAX, GMIN, GMAX. -/
def Dom.rmin (x : Dom) : Nat := getF x.ratio 0 8
def Dom.rmax (x : Dom) : Nat := getF x.ratio 8 8
def Dom.gmin (x : Dom) : Nat := getF x.ratio 16 8
def Dom.gmax (x : Dom) : Nat := getF x.ratio 24 8
/-- DOM_CTRL fields in force (R119). -/
def Dom.rate (x : Dom) : Bool := getB x.ctrl 3
def Dom.early (x : Dom) : Bool := getB x.ctrl 4
def Dom.recEn (x : Dom) : Bool := getB x.ctrl 5
def Dom.dirSrc (x : Dom) : Nat := getF x.ctrl 7 2

/-- T_exp, as DOM_PERIOD shows it (R126). -/
def State.tExp (s : State) (d : Nat) : Nat := (s.rd .domPeriod d).toNat

/-- The step rate of an expected period (R126). -/
def stepRate (t : Nat) : Nat := 2 ^ 36 / t

/-! ## Changes of state -/

/-- An ANGLE frame (R292): for an accepted edge, a state change, a change of RATE. -/
def State.exportAngle (s : State) (d : Nat) : State :=
  let x := s.dom d
  if !s.flag .domCtrl 11 d || s.mirror d then s
  else
    let w1 := toW (x.pos + d * 2 ^ 10 + s.domState d * 2 ^ 14 + b2n x.rate * 2 ^ 17 + b2n (s.revolution d) * 2 ^ 18 +
      s.npos d * 2 ^ 19 + s.missOf d * 2 ^ 30)
    let next := if s.npc d = 0 then 0 else (x.pos + x.s) % s.npc d
    s.mlSend 3 0 true [w1, ns32 x.tp, toW (fineOf x.tp + next * 16), s.rd .domRate d]

/-- DOM_STAT.STATE changes (R120): the unit's state, the log's ITEM 4 and the export follow. -/
def State.enter (s : State) (d v : Nat) : State :=
  let was := s.domState d
  let s := s.withUnit (64 + d) (·.setFld .domStat 0 3 v d)
  let s := s.onDom d (fun x => { x with stateWas := was, stateAt := s.clock islDomain })
  (s.offer 3 (d + 64) (toW v) 0 (s.clock islDomain)).exportAngle d

/-- The angle holds from now on, in the domain and its followers. -/
def State.holdAngle (s : State) (d : Nat) : State :=
  let n := nsOf (s.clock islDomain)
  (s.onDom d (fun x => { x with traj := x.traj.freeze n, upd := none, lead := none })).loadFols d

/-- SEEK begins with this history (R120). -/
def Dom.seekFrom (x : Dom) (h : List Stamp) : Dom := { x with hist := h, cand := none, confirm := none, extra := false }

/-- The domain leaves HALF or SYNC for state v; the entries are withdrawn with status st (R160, R161); a status of 0 is
HALF to SEEK, where entries stay WITHHELD. -/
def State.leaveLive (s : State) (d v st detail : Nat) (h : List Stamp) : State :=
  let heldSpan := (s.dom d).traj.holds (nsOf (s.clock islDomain))
  let s := s.judgeDomain d (nsOf (s.clock islDomain))
  let s := (s.enter d v).holdAngle d
  let s := s.onDom d (fun x => { x.seekFrom h with losses := x.losses + 1 })
  if st = 0 then s else s.withdraw d st detail heldSpan

/-- Loss of SYNC, or of HALF, to SEEK (R120). -/
def State.lose (s : State) (d : Nat) (h : List Stamp) : State :=
  let sync := s.domState d == 3
  let s := s.bump .domCnt1 8 8 d
  let s := if sync then s.domEvent d 1 else s
  s.leaveLive d 1 (if sync then 6 else 0) 0 h

/-- STALL is entered (R130, R132). -/
def State.stall (s : State) (d : Nat) : State := ((s.bump .domCnt1 16 8 d).domEvent d 3).leaveLive d 4 7 0 []

/-- Reverse rotation is judged (R131). -/
def State.reverse (s : State) (d : Nat) : State :=
  let s := (s.setFlag .domStat 6 true d).bump .domCnt1 24 8 d
  if s.domLive d then ((s.domEvent d 4).leaveLive d 5 7 0 []).onDom d (fun x => { x with revNs := nsOf (s.clock islDomain) })
  else if s.domState d = 1 then s.onDom d (·.seekFrom [])
  else s

/-- SYNC is entered: the entries are released (R147), and the averages start anew (R133). -/
def State.enterSync (s : State) (d : Nat) : State :=
  let s := (s.domEvent d 0).enter d 3
  let s := s.each (List.range 4) (fun s i => s.setFlag .phmStat 3 false d i)
  let n := nsOf (s.clock islDomain)
  let s := s.onDom d (fun x => { x with contra := 0, traj := { x.traj with seen := n } })
  (s.loadFols d).releaseEntries d

/-- STALL or REVERSE ends; the edge starts the new history (R120). -/
def State.reseek (s : State) (d : Nat) (h : List Stamp) : State :=
  ((s.setFlag .domStat 3 false d).enter d 1).onDom d (·.seekFrom h)

/-! ## Teeth -/

/-- The registers of an accepted tooth, its count, its log events and its frame (R242, R292). -/
def State.showTooth (s : State) (d : Nat) (e : Stamp) (span : Nat) (held recov : Bool) : State :=
  let x := s.dom d
  let s := s.wr .domTooth (toW (x.pos + fineOf e * 2 ^ 16 + span * 2 ^ 20 + b2n held * 2 ^ 23 + b2n recov * 2 ^ 24)) d
  let s := (s.wr .domTtime (ns32 e) d).setFlag .domStat 3 false d
  let s := s.bumpW .domCnt0 0 16 d
  let s := ((s.offer 3 (d + 16) (s.rd .domTooth d) 0 e).offer 3 (d + 32) (s.rd .domPeriod d) 0 e).offer 3 (d + 48) (s.rd .domPredErr d) 0 e
  s.exportAngle d

/-- How an accepted edge is classified (R116, R117): positions on, for a tooth. -/
inductive Tooth where
  | noise | extra | mismatch
  | real (q : Nat) (long recov : Bool)
  deriving DecidableEq, Repr

/-- The classification of an edge at e against position, stamp and T_exp (R116, R117). A recovered span that ends at IDX_POS or
passes it without an extra edge is an index mismatch too. -/
def State.classify (s : State) (d : Nat) (e : Stamp) : Tooth :=
  let x := s.dom d
  let p := x.pos
  let t := s.tExp d
  let m := 100 * (e.toNat - x.tp.toNat)
  let base := x.s * t
  let idx := s.idxMode d == 1 && (p + 1) % s.npos d == s.gapPos d
  let idx2 := s.idxMode d == 1 && (p + 2) % s.npos d == s.gapPos d
  if x.s > 1 then (if x.gmin * base ≤ m ∧ m ≤ x.gmax * base then .real x.s false false else .mismatch)
  else if idx && !x.extra && decide (m ≤ s.fld .domPat1 8 8 d * base) then .extra
  else if m < x.rmin * base then .noise
  else if x.recEn && decide (160 * base < m ∧ m ≤ 250 * base) && !s.missing d (p + s.npc d - 1) && !s.missing d (p + 1) &&
      !s.missing d (p + 2) && !s.missing d (p + 3) then (if (idx || idx2) && !x.extra then .mismatch else .real 2 false true)
  else if idx && !x.extra then .mismatch
  else .real 1 (decide (x.rmax * base < m) || (x.recEn && decide (160 * base < m))) false

/-- The counts and events of a classification (R116). -/
def State.countTooth (s : State) (d : Nat) : Tooth → State
  | .noise => (s.bump .domCnt0 16 8 d).domEvent d 7
  | .real _ long recov =>
    let s := if long then (s.bump .domCnt0 24 8 d).domEvent d 8 else s
    if recov then (s.bump .domCnt1 0 8 d).domEvent d 5 else s
  | _ => s

/-- T_exp after a period (R126): HOLD, or LEAD once three periods are measured. -/
def Dom.expected (x : Dom) : Nat :=
  if x.rate && decide (3 ≤ x.periods) then
    let t := (x.t3 : Int) + ((x.t3 : Int) - x.t1) / 2
    (clampInt (x.t3 - x.t3 / 4 : Nat) (x.t3 + x.t3 / 4 : Nat) t).toNat
  else x.t3

/-- A per-position period is measured. -/
def Dom.period (x : Dom) (t : Nat) : Dom := { x with t1 := x.t2, t2 := x.t3, t3 := t, periods := min 3 (x.periods + 1) }

/-- T_exp and S are formed anew. -/
def State.setRate (s : State) (d t : Nat) : State := (s.wr .domPeriod (toW t) d).wr .domRate (toW (stepRate t)) d

/-- A tooth update on its way reaches the angle in cycle n (R127). -/
def State.applyTooth (s : State) (d n : Nat) : State :=
  match (s.dom d).upd with
  | none => s
  | some u =>
    let s := s.judgeDomain d (n - 1)
    let x := s.dom d
    let (t, jumped, fast) := x.traj.apply u n
    let keep := x.past.filter (fun p => decide (n ≤ p.ns + 2048))
    let s := s.setDom d { x with traj := t, past := x.traj :: keep.take 7, upd := none, last := some u }
    let s := if jumped then s.bumpW .domCnt2 0 16 d else s
    let s := if fast then s.bumpW .domCnt2 16 16 d else s
    s.judgeDomain d n

/-- An edge ends a span as q positions on: the error of prediction, the periods, the rate, and the update that will reach
the angle (R126, R127, R129). -/
def State.acceptTooth (s : State) (d : Nat) (e : Stamp) (q : Nat) (recov : Bool) : State :=
  let x := s.dom d
  let span := if recov then 2 else x.s
  let err := (e.toNat : Int) - (x.tp.toNat + span * s.tExp d : Nat)
  let heldSpan := decide (x.traj.cap ≤ x.traj.angleAt (nsOf e))
  let s := s.wr .domPredErr (intW ((err + 8) / 16)) d
  let s := s.endSpan d heldSpan x.pu x.tp e span
  let x := x.period ((e.toNat - x.tp.toNat) / span)
  let t := x.expected
  let pos := (x.pos + q) % s.npc d
  let nxt := s.spanOf d pos
  let pu := x.pu + q * 2 ^ 32
  let u : ToothUpd := { pu := pu, te := e, step := stepRate t, cap := pu + nxt * 2 ^ 32 - 1, fast := x.early }
  let s := s.setDom d { x with tp := e, pos := pos, pu := pu, s := nxt, extra := false, upd := some u, wTooth := true }
  (s.setRate d t).showTooth d e span heldSpan recov

/-! ## Finding the pattern -/

/-- The pattern is found (R120, R122): the tooth at e is position pos, and T_exp is t. -/
def State.found (s : State) (d pos : Nat) (e : Stamp) (t : Nat) : State :=
  let n := nsOf (s.clock islDomain)
  let x := s.dom d
  let len := s.cycleLen d
  let step := stepRate t
  let nxt := s.spanOf d pos
  let pu := nextAt (x.traj.angleAt n) len (pos * 2 ^ 32)
  let cap := pu + nxt * 2 ^ 32 - 1
  let u := min cap (pu + step * (16 * n - e.toNat) / 16)
  let x := { x.seekFrom [] with
    traj := { u := u, ns := n, step := step, cap := cap, vu := u, vns := n, run := true, pre := u, seen := n, te := e }
    past := [], tp := e, pos := pos, pu := pu, s := nxt, t3 := t, periods := 0, upd := none, last := none, lead := none
    lastPh := none, contra := 0, wTooth := true }
  let s := ((s.setDom d x).setRate d t).showTooth d e 1 false false
  if s.revolution d then s.enterSync d else ((s.domEvent d 2).enter d 2).loadFols d

/-- The pattern shows at position pos, the tooth of e: found, or to be confirmed one revolution later (R122). -/
def State.shows (s : State) (d pos : Nat) (e : Stamp) (t : Nat) : State :=
  if getB (s.dom d).ctrl 6 then
    (s.onDom d (fun x => { x.seekFrom [] with
      confirm := some { pos := pos, left := s.npos d }, tp := e, pos := pos, s := s.spanOf d pos, t3 := t, periods := 0
      wTooth := true })).wr .domPeriod (toW t) d
  else s.found d pos e t

/-- An accepted edge of the history in SEEK. -/
def Dom.keepEdge (x : Dom) (e : Stamp) : Dom := { x with hist := (e :: x.hist).take 3, wTooth := true }

/-- SEEK, IDX_MODE 0 (R122). -/
def State.seekGap (s : State) (d : Nat) (e : Stamp) : State :=
  let x := s.dom d
  let mm := s.missOf d + 1
  match x.hist with
  | [] => s.setDom d (x.keepEdge e)
  | h :: r =>
    let p := e.toNat - h.toNat
    let prev := match r with | h2 :: _ => some (h.toNat - h2.toNat) | [] => none
    let noise := match x.cand, prev with
      | some c, _ => decide (100 * p * mm < x.rmin * c)
      | none, some pp => decide (100 * p < x.rmin * pp)
      | none, none => false
    let next := match x.cand with | some c => decide (100 * p * mm ≤ x.rmax * c) | none => false
    if noise then (s.setDom d { x with wTooth := false }).countTooth d .noise
    else if next then s.shows d ((s.gapPos d + 1) % s.npc d) e p
    else
      let cand := match prev with
        | some pp => if x.gmin * pp * mm ≤ 100 * p ∧ 100 * p ≤ x.gmax * pp * mm then some p else none
        | none => none
      s.setDom d { x.keepEdge e with cand := cand }

/-- SEEK, IDX_MODE EXTRA (R122): `cand` holds the period before the extra tooth. -/
def State.seekExtra (s : State) (d : Nat) (e : Stamp) : State :=
  let x := s.dom d
  match x.hist with
  | h :: h2 :: _ =>
    let p := e.toNat - h.toNat
    let pp := h.toNat - h2.toNat
    if x.cand.isNone && decide (100 * p ≤ s.fld .domPat1 8 8 d * pp) then s.setDom d { x with cand := some pp, wTooth := false }
    else if 100 * p < x.rmin * pp then (s.setDom d { x with wTooth := false }).countTooth d .noise
    else if x.cand.isSome && decide (100 * p ≤ x.rmax * pp) then s.shows d (s.gapPos d) e p
    else s.setDom d { x.keepEdge e with cand := none }
  | _ => s.setDom d (x.keepEdge e)

/-- SEEK, IDX_MODE WIDE or NARROW: the active edge only joins the history; its width is judged at the inactive edge. -/
def State.seekWidth (s : State) (d : Nat) (e : Stamp) : State :=
  let x := s.dom d
  match x.hist with
  | h :: h2 :: _ =>
    if 100 * (e.toNat - h.toNat) < x.rmin * (h.toNat - h2.toNat) then (s.setDom d { x with wTooth := false }).countTooth d .noise
    else s.setDom d (x.keepEdge e)
  | _ => s.setDom d (x.keepEdge e)

/-- A confirmation in progress meets an edge (R122). -/
def State.confirming (s : State) (d : Nat) (c : Confirm) (e : Stamp) : State :=
  let k := s.classify d e
  let s := s.countTooth d k
  let x := s.dom d
  let fail := s.setDom d { x.seekFrom [e] with wTooth := true }
  match k with
  | .noise => s.setDom d { x with wTooth := false }
  | .extra => s.setDom d { x with extra := true, wTooth := false }
  | .mismatch => fail
  | .real q _ recov =>
    if c.left < q then fail
    else
      let t := (e.toNat - x.tp.toNat) / (if recov then 2 else x.s)
      let pos := (x.pos + q) % s.npc d
      let s := s.setDom d { x with
        confirm := some { c with left := c.left - q }, tp := e, pos := pos, s := s.spanOf d pos, t3 := t, extra := false
        wTooth := true }
      let s := s.wr .domPeriod (toW t) d
      if c.left = q ∧ s.idxMode d < 2 then s.found d c.pos e t else s

/-- SEEK meets an accepted edge (R122). -/
def State.seekEdge (s : State) (d : Nat) (e : Stamp) : State :=
  match (s.dom d).confirm with
  | some c => s.confirming d c e
  | none => match s.idxMode d with | 0 => s.seekGap d e | 1 => s.seekExtra d e | _ => s.seekWidth d e

/-! ## Phase teeth -/

/-- The level of a phase tooth: DOM_CTRL.PH_POL. -/
def State.toothLevel (s : State) (d : Nat) : Bool := !s.flag .domCtrl 10 d

/-- a lies within tol of b, modulo len. -/
def nearAngle (a b len tol : Nat) : Bool :=
  let v := (a + len - b % len) % len
  decide (min v (len - v) ≤ tol)

/-- The phase teeth that a pair of edges matches when their angles are shifted by `sh` (R123). -/
def State.phaseMatches (s : State) (d rise fall sh : Nat) : List Nat :=
  let len := s.cycleLen d / 65536
  let tol := s.fld .domPat2 0 16 d
  (List.range (s.fld .domPat1 16 5 d)).filter (fun k =>
    nearAngle rise ((s.rd .domPhRise d k).toNat + sh) len tol && nearAngle fall ((s.rd .domPhFall d k).toNat + sh) len tol)

/-- A matched phase tooth k is the one before the last matched, not the one after it (R131, PHASE_ORDER). -/
def State.phaseBack (s : State) (d k : Nat) : Bool :=
  let x := s.dom d
  let n := s.fld .domPat1 16 5 d
  match x.lastPh with
  | some l => x.dirSrc == 2 && decide (k = (l + n - 1) % n ∧ k ≠ (l + 1) % n)
  | none => false

/-- A phase edge waits that will be judged as reverse rotation: it wins over any other trigger of its cycle (R121). -/
def State.reverseWaits (s : State) (d : Nat) (ts : Stamp) : Bool :=
  match s.edgesOf (528 + d), (s.dom d).lead with
  | (e, level) :: _, some rise =>
    let fall := s.angleStamp d e
    s.domState d == 3 && level != s.toothLevel d && decide (nsOf e ≤ nsOf ts) &&
      (match s.phaseMatches d rise fall 0, s.phaseMatches d rise fall (s.cycleLen d / 65536 / 2) with
      | k :: _, [] => s.phaseBack d k
      | _, _ => false)
  | _, _ => false

/-! ## Primary edges -/

/-- The run-time configuration takes effect (R119). -/
def State.takeConfig (s : State) (d : Nat) : State :=
  s.onDom d (fun x => { x with
    ctrl := s.rd .domCtrl d, filt := s.rd .domFilt d, ratio := s.rd .domRatio d, stall := s.rd .domStall d, dir := s.rd .domDir d })

/-- The active level of the primary wheel: high for rising (DOM_CTRL.PRI_EDGE). -/
def State.activeLevel (s : State) (d : Nat) : Bool := !s.flag .domCtrl 9 d

/-- PRIMARY_EDGE (R115, R116, R120, R122): the domain takes an accepted active edge. REVERSE judged in the same cycle wins over a
loss of SYNC, and the edge of that cycle does not end it (R121). -/
def State.primaryEdge (s : State) (d : Nat) (e : Stamp) : State :=
  let was := (s.dom d).rate
  let s := (s.applyTooth d (nsOf (s.clock islDomain))).takeConfig d
  let s := if was != (s.dom d).rate then s.exportAngle d else s
  let s := s.onDom d (fun x => { x with lastEdge := e, wStart := e, wTooth := true })
  match s.domState d with
  | 1 => (s.setFlag .domStat 3 false d).seekEdge d e
  | 4 => s.reseek d [e]
  | 5 => if (s.dom d).dirSrc = 1 ∨ (s.dom d).revNs = nsOf (s.clock islDomain) then s else s.reseek d [e]
  | 0 => s
  | _ =>
    let k := s.classify d e
    let s := s.countTooth d k
    match k with
    | .noise => s.onDom d (fun x => { x with wTooth := false })
    | .extra => s.onDom d (fun x => { x with extra := true, wTooth := false })
    | .mismatch => if s.reverseWaits d (s.clock islDomain) then s else (s.setFlag .domStat 3 false d).lose d [e]
    | .real q _ recov => s.acceptTooth d e q recov

def execPrimaryEdge (d : Fin 16) (ts : Stamp) (s : State) : Host.Outcome State Fault Refusal :=
  .next (s.happens islDomain ts (fun s => s.flag .domCtrl 0 d && !s.mirror d) (fun s =>
    match s.edgesOf (512 + d) with
    | (e, level) :: r => if level == s.activeLevel d then (s.setEdges (512 + d) r).primaryEdge d e else s
    | [] => s))

/-- The index is judged by a tooth's width (R117): the tooth is classed as the index tooth. -/
def State.widthIndex (s : State) (d w t : Nat) : Bool :=
  (decide (s.fld .domPat1 0 8 d * t ≤ 256 * w)) == (s.idxMode d == 2)

/-- PRIMARY_INACTIVE_EDGE (R117, R122, R131): the tooth that began at x.wStart ends at e. -/
def State.primaryEnd (s : State) (d : Nat) (e : Stamp) : State :=
  let x := s.dom d
  let w := e.toNat - x.wStart.toNat
  if !x.wTooth then s
  else
    let s := s.setDom d { x with wTooth := false }
    if x.dirSrc = 1 then
      let thr := 16 * getF x.dir 0 16
      let rev := if getB x.dir 16 then decide (w < thr) else decide (thr < w)
      if rev then (if s.domState d = 5 then s else s.reverse d)
      else
        let s := s.setFlag .domStat 6 false d
        if s.domState d = 5 then s.reseek d [x.wStart] else s
    else if s.idxMode d < 2 then s
    else if s.domState d = 3 then
      if s.widthIndex d w (s.tExp d) == (x.pos == s.gapPos d) then s else s.lose d [x.wStart]
    else if s.domState d = 1 then
      match x.confirm with
      | some c =>
        if s.widthIndex d w (s.tExp d) != (x.pos == s.gapPos d) then s.onDom d (·.seekFrom [x.wStart])
        else if c.left = 0 then s.found d c.pos x.wStart (s.tExp d)
        else s
      | none =>
        match x.hist with
        | h :: h2 :: _ =>
          let t := h.toNat - h2.toNat
          if s.widthIndex d w t then s.shows d (s.gapPos d) h t else s
        | _ => s
    else s

def execPrimaryInactiveEdge (d : Fin 16) (ts : Stamp) (s : State) : Host.Outcome State Fault Refusal :=
  .next (s.happens islDomain ts (fun s => s.flag .domCtrl 0 d && !s.mirror d) (fun s =>
    match s.edgesOf (512 + d) with
    | (e, level) :: r => if level == s.activeLevel d then s else (s.setEdges (512 + d) r).primaryEnd d e
    | [] => s))

/-- TOOTH_UPDATE (R127): the update is applied in the cycle of ts. -/
def execToothUpdate (d : Fin 16) (ts : Stamp) (s : State) : Host.Outcome State Fault Refusal :=
  .next (s.happens islDomain ts (fun s => s.domLive d) (fun s => if nsOf ts ≤ (s.dom d).traj.ns then s else s.applyTooth d (nsOf ts)))

/-- FAST_RUN_END (R127): from V(k) the angle steps on at S'; at the cap it holds. -/
def execFastRunEnd (d : Fin 16) (ts : Stamp) (s : State) : Host.Outcome State Fault Refusal :=
  let n := nsOf ts
  .next (s.happens islDomain ts (fun s => s.domLive d && (s.dom d).traj.fast && !(s.dom d).traj.fastAt n) (fun s =>
    let s := s.judgeDomain d n
    s.onDom d (fun x => { x with
      past := x.traj :: x.past.take 7
      traj := { x.traj with u := x.traj.angleAt n, ns := n, fast := false, pre := x.traj.angleAt n, jumped := false } })))

/-- ANGLE_INTERPOLATION (R125): the angle has stepped to the cycle of ts. -/
def execAngleInterpolation (d : Fin 16) (ts : Stamp) (s : State) : Host.Outcome State Fault Refusal :=
  .next (s.happens islDomain ts (fun s => s.domLive d) (fun s => s.judgeDomain d (nsOf ts)))

/-! ## Time limits -/

/-- An accepted edge waits to be taken: it goes before a time limit (R121). -/
def State.edgeWaits (s : State) (d : Nat) (ts : Stamp) : Bool :=
  (s.edgesOf (512 + d)).any (fun e => decide (nsOf e.1 ≤ nsOf ts))

/-- TOOTH_LATE (R128). -/
def execToothLate (d : Fin 16) (ts : Stamp) (s : State) : Host.Outcome State Fault Refusal :=
  .next (s.happens islDomain ts (fun s => s.domLive d && !s.mirror d && !s.flag .domStat 3 d && !s.edgeWaits d ts) (fun s =>
    if 2 * (ts.toNat - (s.dom d).tp.toNat) < 3 * (s.dom d).s * s.tExp d then s
    else ((s.setFlag .domStat 3 true d).domEvent d 6).bump .domCnt3 24 8 d))

/-- The stall time after t_p (R130), in fine ticks. -/
def State.stallTime (s : State) (d : Nat) : Nat :=
  let x := s.dom d
  let w := if s.mirror d then s.rd .domStall d else x.stall
  min (getF w 0 8 * x.s * s.tExp d) (getF w 8 17 * 16000)

/-- STALL_TIMEOUT (R130, R137): a mirror counts from its last message. -/
def execStallTimeout (d : Fin 16) (ts : Stamp) (s : State) : Host.Outcome State Fault Refusal :=
  .next (s.happens islDomain ts (fun s => s.domLive d && !s.edgeWaits d ts && !s.reverseWaits d ts) (fun s =>
    let t0 := if s.mirror d then (s.dom d).lastEdge else (s.dom d).tp
    if ts.toNat < t0.toNat + s.stallTime d then s
    else (if s.mirror d then s.setFlag .domStat 7 false d else s).stall d))

/-- SEEK_TIMEOUT (R120). -/
def execSeekTimeout (d : Fin 16) (ts : Stamp) (s : State) : Host.Outcome State Fault Refusal :=
  .next (s.happens islDomain ts (fun s => s.domState d == 1 && !s.edgeWaits d ts) (fun s =>
    if ts.toNat < (s.dom d).lastEdge.toNat + getF (s.dom d).stall 8 17 * 16000 then s else s.onDom d (·.seekFrom [])))

/-! ## Phase wheel -/

/-- PHASE_LEADING_EDGE (R123): stamped, unless it fell before HALF was entered. -/
def execPhaseLeadingEdge (d : Fin 16) (ts : Stamp) (s : State) : Host.Outcome State Fault Refusal :=
  .next (s.happens islDomain ts (fun _ => true) (fun s =>
    match s.edgesOf (528 + d) with
    | [] => s
    | (e, level) :: r =>
      if level != s.toothLevel d then s
      else
        let s := s.setEdges (528 + d) r
        let x := s.dom d
        let since := match x.past.getLast? with | some t => t.ns | none => x.traj.ns
        s.setDom d { x with lead := if s.domLive d && decide (since ≤ nsOf e) then some (s.angleStamp d e) else none }))

/-- The guessed half was wrong: the angle steps forward by L/2 (R123). -/
def State.halfStep (s : State) (d : Nat) : State :=
  let h := s.cycleLen d / 2
  let n := nsOf (s.clock islDomain)
  let s := s.onDom d (fun x =>
    let t := x.traj
    { x with
      traj := { t with
        u := t.angleAt n + h, ns := n, vu := t.v n + h, vns := n, cap := t.cap + h, pre := t.angleAt n + h, jumped := false, seen := n }
      past := [], pu := x.pu + h, pos := (x.pos + s.npc d / 2) % s.npc d
      upd := x.upd.map (fun u => { u with pu := u.pu + h, cap := u.cap + h })
      last := x.last.map (fun u => { u with pu := u.pu + h, cap := u.cap + h }) })
  s.setFld .domTooth 0 10 (s.dom d).pos d

/-- An edge waits that will be judged a gap mismatch: it wins over a phase match (R121). -/
def State.mismatchWaits (s : State) (d : Nat) (ts : Stamp) : Bool :=
  match s.edgesOf (512 + d) with
  | (e, level) :: _ => level == s.activeLevel d && decide (nsOf e ≤ nsOf ts) && s.classify d e == .mismatch
  | [] => false

/-- A phase tooth is judged at its trailing edge (R123, R124, R131). -/
def State.phaseTooth (s : State) (d rise fall : Nat) (ts : Stamp) : State :=
  let x := s.dom d
  let len := s.cycleLen d / 65536
  let here := s.phaseMatches d rise fall 0
  let other := s.phaseMatches d rise fall (len / 2)
  match here, other with
  | [], [] => (s.bump .domCnt3 0 8 d).domEvent d 9
  | _ :: _, _ :: _ => s.bump .domCnt3 8 8 d
  | k :: _, [] =>
    if s.domState d = 2 then (if s.mismatchWaits d ts then s else (s.setDom d { x with lastPh := some k }).enterSync d)
    else
      if s.phaseBack d k then s.reverse d
      else (if x.dirSrc = 2 then s.setFlag .domStat 6 false d else s).setDom d { x with lastPh := some k, contra := 0 }
  | [], k :: _ =>
    if s.domState d = 2 then
      (if s.mismatchWaits d ts then s else ((s.setDom d { x with lastPh := some k }).halfStep d).enterSync d)
    else if s.fld .domPat1 21 3 d ≤ x.contra + 1 then s.lose d []
    else s.setDom d { x with contra := x.contra + 1 }

/-- PHASE_TOOTH_EDGE (R123, R124). -/
def execPhaseToothEdge (d : Fin 16) (ts : Stamp) (s : State) : Host.Outcome State Fault Refusal :=
  .next (s.happens islDomain ts (fun _ => true) (fun s =>
    match s.edgesOf (528 + d) with
    | [] => s
    | (e, level) :: r =>
      if level == s.toothLevel d then s
      else
        let s := s.setEdges (528 + d) r
        match (s.dom d).lead with
        | none => s
        | some a =>
          let fall := s.angleStamp d e
          let s := s.onDom d (fun x => { x with lead := none })
          if s.domLive d then s.phaseTooth d a fall ts else s))

/-! ## Phase measurement -/

def phmNom (j : Nat) : RegName :=
  match j with
  | 0 => .phmNom0 | 1 => .phmNom1 | 2 => .phmNom2 | 3 => .phmNom3 | 4 => .phmNom4 | 5 => .phmNom5 | 6 => .phmNom6 | _ => .phmNom7

/-- a − b as signed in ±L/2 (R134). -/
def devOf (a b len : Nat) : Int := (((a + len - b % len) % len + len / 2) % len : Nat) - (len / 2 : Nat)

def Dom.avg (x : Dom) (i : Nat) : Int := match i with | 0 => x.avg0 | 1 => x.avg1 | 2 => x.avg2 | _ => x.avg3
def Dom.setAvg (x : Dom) (i : Nat) (v : Int) : Dom :=
  match i with
  | 0 => { x with avg0 := v } | 1 => { x with avg1 := v } | 2 => { x with avg2 := v } | _ => { x with avg3 := v }

/-- The nominal angle nearest to a, the lowest j among equals: j and the deviation (R134). -/
def State.nearestNom (s : State) (d i a : Nat) : Option (Nat × Int) :=
  let len := s.cycleLen d / 65536
  (List.range (s.fld .phmCtrl 6 4 d i)).foldl (fun best j =>
    let dev := devOf a (s.rd (phmNom j) d i).toNat len
    match best with
    | some (_, b) => if dev.natAbs < b.natAbs then some (j, dev) else best
    | none => some (j, dev)) none

/-- A phase-measurement edge at e (R134, R135). -/
def State.phmEdge (s : State) (d i : Nat) (e : Stamp) : State :=
  let a := s.angleStamp d e
  let s := s.wr .phmLast (toW a) d i
  match s.nearestNom d i a with
  | none => s.bump .phmStat 8 8 d i
  | some (j, dev) =>
    if s.fld .phmWin 0 24 d i < dev.natAbs then s.bump .phmStat 8 8 d i
    else
      let old := (s.dom d).avg i
      let avg := if s.flag .phmStat 3 d i then old + (dev * 256 - old) / 2 ^ (s.fld .phmCtrl 3 3 d i + 1) else dev * 256
      let shown := clampInt (-2147483648) 2147483647 avg
      let s := s.onDom d (·.setAvg i avg)
      let s := (s.wr .phmDev (intW dev) d i).wr .phmAvg (intW shown) d i
      let s := (((s.setFld .phmStat 0 3 j d i).setFlag .phmStat 3 true d i).setFlag .phmStat 4 (shown != avg) d i).bumpW .phmStat 16 16 d i
      (s.offer 3 (d + 80 + i * 256) (intW dev) 0 e).offer 3 (d + 96 + i * 256) (intW shown) 0 e

def execPhmEdge (d : Fin 16) (i : Fin 4) (ts : Stamp) (s : State) : Host.Outcome State Fault Refusal :=
  let ix := 544 + 4 * d.val + i.val
  .next (s.happens islDomain ts (fun _ => true) (fun s =>
    match s.edgesOf ix with
    | [] => s
    | (e, _) :: r =>
      let s := s.setEdges ix r
      if s.domState d = 3 then s.phmEdge d i e else s))

/-! ## Mirrors -/

/-- The stamp nearest to now with these bits [35:4] and this fine part. -/
def nearStamp (now : Stamp) (ns fine : Nat) : Stamp :=
  let n := nsOf now
  let base := n / 2 ^ 32 * 2 ^ 32 + ns
  let best := if n + 2 ^ 31 < base ∧ 2 ^ 32 ≤ base then base - 2 ^ 32 else if base + 2 ^ 31 < n then base + 2 ^ 32 else base
  toS (16 * best + fine)

/-- A message gives a tooth to a mirror in HALF or SYNC (R136): applied like a tooth of its own. -/
def State.mirrorTooth (s : State) (d pos next : Nat) (e : Stamp) (step : Nat) (lead : Bool) : State :=
  let x := s.dom d
  let npc := s.npc d
  let q := (pos + npc - x.pos) % npc
  let span := (next + npc - pos - 1) % npc + 1
  let heldSpan := decide (x.traj.cap ≤ x.traj.angleAt (nsOf e))
  let s := s.endSpan d heldSpan x.pu x.tp e (max 1 q)
  let s := s.applyTooth d (nsOf (s.clock islDomain))
  let x := s.dom d
  let pu := x.pu + q * 2 ^ 32
  let u : ToothUpd := { pu := pu, te := e, step := step, cap := pu + span * 2 ^ 32 - 1, fast := getB x.ctrl 4 }
  let s := s.setDom d { x with tp := e, pos := pos, pu := pu, s := span, upd := some u, srcLead := lead }
  ((s.wr .domRate (toW step) d).wr .domPeriod (toW (2 ^ 36 / step)) d).showTooth d e (max 1 q) heldSpan false

/-- A mirror enters HALF or SYNC from another state: its angle is set to the source's position (R137, R113). -/
def State.mirrorStart (s : State) (d v pos next : Nat) (e : Stamp) (step : Nat) (lead : Bool) : State :=
  let n := nsOf (s.clock islDomain)
  let x := s.dom d
  let npc := s.npc d
  let span := (next + npc - pos - 1) % npc + 1
  let pu := nextAt (x.traj.angleAt n) (s.cycleLen d) (pos * 2 ^ 32)
  let cap := pu + span * 2 ^ 32 - 1
  let u := min cap (pu + step * (16 * n - e.toNat) / 16)
  let s := s.setDom d { x.seekFrom [] with
    traj := { u := u, ns := n, step := step, cap := cap, vu := u, vns := n, run := true, pre := u, seen := n, te := e }
    past := [], tp := e, pos := pos, pu := pu, s := span, upd := none, last := none, srcLead := lead }
  let s := ((s.wr .domRate (toW step) d).wr .domPeriod (toW (2 ^ 36 / step)) d).showTooth d e 1 false false
  if v = 3 then s.enterSync d else ((s.domEvent d 2).enter d 2).loadFols d

/-- The mirror follows the source into a state that is not HALF or SYNC (R137). -/
def State.mirrorLeave (s : State) (d v : Nat) : State :=
  if s.domState d = v then s
  else if s.domLive d then
    match v with
    | 4 => s.stall d
    | 5 => s.reverse d
    | _ => s.lose d []
  else
    match v with
    | 4 => ((s.bump .domCnt1 16 8 d).domEvent d 3).leaveLive d 4 7 0 []
    | 5 => (((s.setFlag .domStat 6 true d).bump .domCnt1 24 8 d).domEvent d 4).leaveLive d 5 7 0 []
    | _ => s.reseek d []

/-- A message is taken (R136, R137, R292). -/
def State.angleMessage (s : State) (d : Nat) (w1 w2 w3 w4 : Word) : State :=
  let s := (s.setFlag .domStat 7 true d).onDom d (fun x => { x with lastEdge := s.clock islDomain })
  let same := getB w1 18 == s.revolution d && getF w1 19 11 == s.npos d && getF w1 30 2 == s.missOf d
  let pos := getF w1 0 10
  let v := getF w1 14 3
  let e := nearStamp (s.clock islDomain) w2.toNat (getF w3 0 4)
  let next := getF w3 4 10
  let step := w4.toNat
  let lead := getB w1 17
  if !same then ((s.domEvent d 10).bump .domCnt3 16 8 d).mirrorLeave d 1
  else if !s.flag .droneStat 2 then s.mirrorLeave d 1
  else if v = 2 ∨ v = 3 then
    let s := s.onDom d (fun x => { x with ctrl := s.rd .domCtrl d })
    if !s.domLive d then s.mirrorStart d v pos next e step lead
    else if v = 2 ∧ s.domState d = 3 then (s.lose d []).mirrorStart d v pos next e step lead
    else
      let s := if e = (s.dom d).tp then
          (if pos = (s.dom d).pos then s.onDom d (fun x => { x with srcLead := lead }) else s.halfStep d)
        else s.mirrorTooth d pos next e step lead
      if v = 3 ∧ s.domState d = 2 then s.enterSync d else s
  else s.mirrorLeave d (if v = 4 ∨ v = 5 then v else 1)

/-- DRONE_STAT.ALIGNED clears: a mirror in any live state goes to SEEK and stays there (R137). -/
def State.unalign (s : State) : State :=
  (s.setFlag .droneStat 2 false).each ((List.range s.domains).filter (fun d =>
    s.flag .domCtrl 0 d && s.mirror d && s.domState d != 1 && s.domState d != 0)) (fun s d => s.mirrorLeave d 1)

/-- ANGLE_MESSAGE (R136, R137): of the source that DOM_MIRROR names. -/
def execAngleMessage (d : Fin 16) (dev : Fin 512) (w1 w2 w3 w4 : Word) (ts : Stamp) (s : State) :
    Host.Outcome State Fault Refusal :=
  .next (s.happens islDomain ts (fun s => s.flag .domCtrl 0 d && s.mirror d && s.fld .domMirror 0 9 d == dev.val &&
      s.fld .domMirror 16 4 d == getF w1 10 4) (fun s => s.angleMessage d w1 w2 w3 w4))

/-! ## Registers -/

/-- A write that R119 drops. -/
def State.domDrop (s : State) (d : Nat) : State := (s.domEvent d 10).bump .domCnt3 16 8 d

/-- What R118 asks before EN may be 1. -/
def State.domEnableOk (s : State) (d : Nat) : Bool :=
  let cyc := !s.revolution d
  let npos := s.npos d
  let teeth := s.fld .domPat1 16 5 d
  let idx := s.idxMode d
  let len := s.npc d * 65536
  let dirs := s.fld .domCtrl 7 2 d
  decide (4 ≤ npos ∧ s.gapPos d < npos ∧ s.npc d ≤ 1024) &&
  (if cyc then decide (1 ≤ s.missOf d ∧ idx = 0) && s.flag .domIn 16 d && decide (1 ≤ teeth) &&
      decide (1 ≤ s.fld .domPat2 0 16 d) &&
      (List.range teeth).all (fun k => decide ((s.rd .domPhRise d k).toNat < len ∧ (s.rd .domPhFall d k).toNat < len))
    else decide ((1 ≤ s.missOf d ∧ idx = 0) ∨ (s.missOf d = 0 ∧ idx ≠ 0))) &&
  !(dirs == 1 && decide (2 ≤ idx)) && !(dirs == 2 && !(cyc && decide (3 ≤ teeth))) &&
  (s.mirror d || decide (s.fld .domIn 0 8 d < s.pins ∧ (s.flag .domIn 16 d → s.fld .domIn 8 8 d < s.pins)))

/-- The domain is enabled (R120), or stays OFF with CFG_ERR (R118). -/
def State.domEnable (s : State) (d : Nat) : State :=
  if !s.domEnableOk d then (s.setFlag .domCtrl 0 false d).domEvent d 10
  else
    let s := (s.setEdges (512 + d) []).setEdges (528 + d) []
    let s := s.takeConfig d
    (s.onDom d (fun x => { x.seekFrom [] with lastEdge := s.clock islDomain, wTooth := false, srcLead := false })).enter d 1

/-- The domain goes OFF (R161). -/
def State.domDisable (s : State) (d : Nat) : State :=
  let s := s.leaveLive d 0 (if s.domState d = 3 then 6 else 7) 9 []
  (s.setFld .domStat 3 5 0 d).setEdges (512 + d) [] |>.setEdges (528 + d) []

/-- What DOM_CTRL.CLR_CNT clears (R8). -/
def State.clrDom (s : State) (d : Nat) : State :=
  let s := (((s.clr .domCnt0 d).clr .domCnt1 d).clr .domCnt2 d).clr .domCnt3 d
  s.each (List.range 4) (fun s i => s.setFld .phmStat 8 24 0 d i)

/-- DOM_CTRL (R118 to R120). -/
def State.writeDomCtrl (s : State) (d : Nat) (v : Word) : State :=
  let old := s.rd .domCtrl d
  let on := getB old 0
  let fixed := (old ^^^ v) &&& 0x606 != 0
  if getF v 7 2 = 3 ∨ (on ∧ fixed) ∨ (getB v 2 ∧ getB v 11) then s.domDrop d
  else
    let s := if getB v 31 then s.clrDom d else s
    let s := s.wr .domCtrl (v &&& 0xFFF) d
    if on then (if getB v 0 then s else s.domDisable d)
    else if getB v 0 then s.domEnable d
    else s

/-- A write to the domain block carries a reserved encoding, or may not be made while EN = 1 (R119). -/
def State.domBad (s : State) (d : Nat) (n : RegName) (v : Word) : Bool :=
  let on := s.flag .domCtrl 0 d
  match n with
  | .domIn => on || decide (s.pins ≤ getF v 0 8 ∨ s.pins ≤ getF v 8 8)
  | .domMirror | .domPat0 | .domPat2 | .domPhRise | .domPhFall => on
  | .domPat1 => on || decide (16 < getF v 16 5) || getF v 21 3 == 0
  | .domRatio => getF v 0 8 == 0 || decide (getF v 8 8 ≤ getF v 0 8) || decide (getF v 24 8 ≤ getF v 16 8)
  | .domStall => decide (getF v 0 8 < 2 ∨ getF v 8 17 < 1000 ∨ 100000 < getF v 8 17)
  | .phmCtrl => getF v 1 2 == 3 || decide (8 < getF v 6 4) || (getB v 0 && getF v 6 4 == 0) || decide (s.pins ≤ getF v 16 8)
  | _ => false

/-- A register of the domain block written. -/
def State.writeDom (s : State) (k : RegKey) (v : Word) : State :=
  let d := k.i
  match k.name with
  | .domCtrl => s.writeDomCtrl d v
  | .domEvt => s.wr .domEvt (s.rd .domEvt d &&& ~~~v) d
  | n =>
    if s.domBad d n v then s.domDrop d
    else
      let row := n.row
      let old := s.rd n d k.j
      let new := (old &&& ~~~(toW row.rw)) ||| (v &&& toW row.rw)
      let restart := match n with
        | .phmCtrl => getF old 16 8 != getF new 16 8
        | .phmNom0 | .phmNom1 | .phmNom2 | .phmNom3 | .phmNom4 | .phmNom5 | .phmNom6 | .phmNom7 => old != new
        | _ => false
      let s := s.wr n new d k.j
      if restart then s.setFlag .phmStat 3 false d k.j else s

/-- DOMAIN_ENABLE: DOM_CTRL.EN written 1 (R118). -/
def execDomainEnable (m : Master) (d : Fin 16) (s : State) : Host.Outcome State Fault Refusal :=
  .next (s.access m .domCtrl d 0 (fun s => s.writeDomCtrl d (s.rd .domCtrl d ||| 1)))

/-- DOMAIN_DISABLE: DOM_CTRL.EN written 0 (R161). -/
def execDomainDisable (m : Master) (d : Fin 16) (s : State) : Host.Outcome State Fault Refusal :=
  .next (s.access m .domCtrl d 0 (fun s => s.writeDomCtrl d (s.rd .domCtrl d &&& 0xFFE)))

/-- DOMAIN_CONFIG_WRITE (R119): the register at offset `off` of the domain's block. -/
def execDomainConfigWrite (m : Master) (d : Fin 16) (off : Nat) (v : Word) (s : State) :
    Host.Outcome State Fault Refusal :=
  match (if off < 0x1000 then (regAt (0x80000 + d * 0x1000 + off)).filter (fun k => k.name.block == .dom) else none) with
  | some k => .next (s.access m k.name k.i k.j (·.writeDom k v))
  | none => .next (s.access m .domCtrl d 0 (·.accErr m (0x80000 + d * 0x1000 + off) .reserved))

/-- DOM_CLR_CNT (R8). -/
def execDomClrCnt (m : Master) (d : Fin 16) (s : State) : Host.Outcome State Fault Refusal :=
  .next (s.access m .domCtrl d 0 (·.clrDom d))

/-- DOMAIN_VOTE (R139, R373): counted, without effect or record. -/
def execDomainVote (d : Fin 16) (ts : Stamp) (s : State) : Host.Outcome State Fault Refusal :=
  .next (s.happens islDomain ts (fun s => decide (d.val < s.domains)) (fun s =>
    { s with fltTotal := s.fltTotal.set 0 0x0D (satNat 16 (s.fltTotal.at 0 0x0D + 1)) }))

end Sys2Proof.Machine
end

