-- ==== Sys2Proof/Machine/Governor.lean ====
section
/-! DEFINITION. The Governor (09): buckets, admission, temperature, forecast, its registers and island gating. -/

namespace Sys2Proof.Machine

/-- A Governor event: GOV_EVT bit b, source 174 + b. -/
def State.govEvent (s : State) (b : Nat) : State := s.event .govEvt .govIen b (174 + b)

/-- The thermal level (R229): 0 Cool to 3 Critical. -/
def State.thermal (s : State) : Nat := s.fld .govStat 0 2

/-- Class k is stopped by temperature (R230). -/
def State.stopped (s : State) (k : Nat) : Bool := decide ((k = 3 ∧ 2 ≤ s.thermal) ∨ (k = 2 ∧ 3 ≤ s.thermal))

/-- A context of class k may issue on engine e (R220, R224, R230). -/
def State.admitted (s : State) (e k : Nat) : Bool :=
  k == 0 || ((s.admits.at 0 e).testBit k && !s.stopped k)

/-- F in 1/256 (R222, R229); 0 in the register means 256. -/
def State.thermF (s : State) : Nat :=
  let f := match s.thermal with
    | 0 => 0 | 1 => s.fld .govThermFact 0 8 | 2 => s.fld .govThermFact 8 8 | _ => s.fld .govThermFact 16 8
  if f = 0 then 256 else f

/-- B (R222). -/
def State.budget (s : State) : Nat := min (s.fld .govBudgetMw 0 16) (s.fld .govBudgetMw 16 16)

/-- The level of bucket k in 1/32 pJ, and its depth. -/
def State.level (s : State) (k : Nat) : Int := s.govFine.at 0 k
def State.depth (s : State) (k : Nat) : Int := Int.ofNat (s.fld .govDepth 0 16 (k - 1) * 32000000)

/-- A bucket level set; GOV_LEVEL_k shows it in nJ. -/
def State.setLevel (s : State) (k : Nat) (v : Int) : State :=
  ({ s with govFine := s.govFine.set 0 k v }).wr .govLevel (intW (v / 32000)) (k - 1)

/-- Share_k × R / 256 for 1 µs, in 1/32 pJ: R mW for 1 µs is R nJ (R222, R223). -/
def State.shareOf (s : State) (k r : Nat) : Nat := s.fld .govShare (8 * (k - 1)) 8 * r * 125

/-- What bucket k takes of an offer, and the rest (R223): none while it is stopped. -/
def State.fill (s : State) (k : Nat) (offer : Int) : Int × State :=
  let l := s.level k
  if s.stopped k then (offer, s)
  else
    let v := min (l + offer) (max l (s.depth k))
    (offer - (v - l), s.setLevel k v)

/-- BUCKET_REFILL (R222, R223), every 1 µs. -/
def execBucketRefill (ts : Stamp) (s : State) : Host.Outcome State Fault Refusal :=
  .next (s.happens islFabric ts (fun s => decide (s.pstate < 3)) (fun s =>
    let r := s.thermF * (s.budget - s.fld .govPfixed 0 16) / 256
    let s := s.wr .govRefill (toW r)
    let share := s.shareOf 1 r
    let floor := s.fld .govFloor 0 16 * 32000
    let used := decide (share < floor)
    let s := if used && !s.flag .govStat 5 then s.govEvent 6 else s
    let s := s.setFlag .govStat 5 used
    let (x1, s) := s.fill 1 (Int.ofNat (max share floor))
    let (x2, s) := s.fill 2 (Int.ofNat (s.shareOf 2 r) + x1)
    (s.fill 3 (Int.ofNat (s.shareOf 3 r) + x2)).2))

/-- Charges in 1/16 pJ to class k: GOV_ENERGY_k, and the bucket, never below −64 × GOV_EPI_7 (R224). -/
def State.charge (s : State) (k n : Nat) : State :=
  let sum := s.govRem.at 0 k + n
  let s := { s with govRem := s.govRem.set 0 k (sum % 16000000) }
  let s := s.wr .govEnergy (toW ((s.rd .govEnergy k).toNat + sum / 16000000)) k
  if k = 0 then s
  else s.setLevel k (max (s.level k - 2 * n) (min (s.level k) (-(128 * s.fld .govEpi 0 16 7 : Nat) : Int)))

/-- GOV_STAT.ADMIT: class k is admitted on at least one engine. -/
def State.showAdmit (s : State) : State :=
  s.setFld .govStat 2 3 (b2n ((List.range s.engines).any (s.admitted · 1)) + 2 * b2n ((List.range s.engines).any (s.admitted · 2)) +
    4 * b2n ((List.range s.engines).any (s.admitted · 3)))

/-- A context is ready in all respects but admission (R165, R225). -/
def State.readyBut (s : State) (x : Nat) : Bool :=
  s.ctxState x == 2 && (s.ctx x).out.isNone && (s.ctx x).fault.isNone && !(s.ctx x).stopping

/-- A context of class k of engine e is ready and not admitted. -/
def State.defers (s : State) (e k : Nat) : Bool :=
  !s.admitted e k && (List.range 32).any (fun l => s.readyBut (ctxOf e l) && s.cf .ctxCtrl 4 2 (ctxOf e l) == k)

/-- ADMISSION_REFRESH (R224, R225): what the engine's instructions have been charged since its last refresh is settled, and its
flags are refreshed. The flags stood in all its cycles since then, so each class that a context is deferred in now has been
deferred in all of them (DESIGN CHOICE, log entry 92: at most 16 cycles, R224). -/
def execAdmissionRefresh (e : Fin 4) (ts : Stamp) (s : State) : Host.Outcome State Fault Refusal :=
  .next (s.happens islFabric ts (fun s => decide (e.val < s.engines ∧ s.pstate < 3)) (fun s =>
    let cycles := (s.now.toNat - (s.settledAt.at 0 e).toNat) / 20
    let late := [1, 2, 3].filter (s.defers e ·)
    let s := s.each late (fun s k => s.bumpW .govDefer 0 32 (k - 1) 0 cycles)
    let s := s.each (List.range 4) (fun s k =>
      let n := s.unsettled.at 0 (4 * e.val + k)
      let s := s.when (k != 0) (fun s => { s with drawNow := s.drawNow + n })
      { s.charge k n with unsettled := s.unsettled.set 0 (4 * e.val + k) 0 })
    let s := { s with settledAt := s.settledAt.set 0 e s.now }
    let mask := [1, 2, 3].foldl (fun m k => m + b2n (decide (0 < s.level k)) * 2 ^ k) 0
    ({ s with admits := s.admits.set 0 e mask }.when (mask != s.admits.at 0 e) (·.touch e)).showAdmit))

/-- PFIXED_UPDATE (R222), every 10 µs. -/
def execPfixedUpdate (mw : BitVec 16) (ts : Stamp) (s : State) : Host.Outcome State Fault Refusal :=
  .next (s.happens islFabric ts (fun s => decide (s.pstate < 3)) (·.wr .govPfixed (toW mw.toNat)))

/-! ## Temperature -/

/-- The median of a list of readings; of an even number the mean of the middle two (DEDUCED, log entry 20). -/
def median (l : List Int) : Int :=
  let m := sortBy (fun a b => decide (a ≤ b)) l
  let n := m.length
  if n = 0 then 0 else if n % 2 = 1 then m.getD (n / 2) 0 else (m.getD (n / 2 - 1) 0 + m.getD (n / 2) 0) / 2

def State.sensorFailed (s : State) (i : Nat) : Bool := s.flag .govTs 17 i

/-- A sensor's reading is judged against the median (R231): failed after three bad ones, restored after three good. -/
def State.judgeSensor (s : State) (i : Nat) (x med : Int) : State :=
  let bad := decide (x < -880 ∨ 2800 < x ∨ 240 < (x - med).natAbs)
  let (b, g) := s.sensors.at (0, 0) i
  let (b, g) := if bad then (min 3 (b + 1), 0) else (0, min 3 (g + 1))
  let s := { s with sensors := s.sensors.set (0, 0) i (b, g) }
  if b = 3 ∧ !s.sensorFailed i then (s.setFlag .govTs 17 true i).govEvent 5
  else if g = 3 ∧ s.sensorFailed i then (s.setFlag .govTs 17 false i).govEvent 5
  else s

/-- The threshold of a thermal level, in 1/16 °C. -/
def State.thresh (s : State) (l : Nat) : Int := Int.ofNat (s.fld .govThresh (8 * (l - 1)) 8 * 16)

/-- The thermal level that a temperature gives after level l (R229). -/
def State.levelAt (s : State) (l : Nat) (t : Int) : Nat :=
  let h := Int.ofNat (s.fld .govThresh 24 4 * 16)
  let up := if s.thresh 3 ≤ t then 3 else if s.thresh 2 ≤ t then 2 else if s.thresh 1 ≤ t then 1 else 0
  let keep := if 3 ≤ l ∧ s.thresh 3 - h ≤ t then 3 else if 2 ≤ l ∧ s.thresh 2 - h ≤ t then 2
    else if 1 ≤ l ∧ s.thresh 1 - h ≤ t then 1 else 0
  max up keep

/-- The offset of a sensor in 1/16 °C, from the calibration page; before S7 and where the page has failed, a built-in one (09,
"Temperature"; 16, calibration page). -/
def State.tsOffset (s : State) (i : Nat) : Int :=
  let b (j : Nat) : Nat := (if s.trimmed then s.calByte (0x5B0 + 2 * i + j) else Config.defaultCal (0x5B0 + 2 * i + j)).toNat
  sxNat 16 (b 0 + b 1 * 256)

/-- SENSOR_READING (R229 to R231): the eight sensors as read, in 1/16 °C, every 100 µs; the offset is added (DESIGN CHOICE, log
entry 92). -/
def execSensorReading (temps : List Int) (ts : Stamp) (s : State) : Host.Outcome State Fault Refusal :=
  .next (s.happens islFabric ts (fun s => decide (s.pstate < 3)) (fun s =>
    let t (i : Nat) : Int := temps.getD i 0 + s.tsOffset i
    let ok := (List.range 8).filter (fun i => !s.sensorFailed i)
    let med := median (ok.map t)
    let s := s.each (List.range 8) (fun s i => (s.setFld .govTs 0 16 (encS 16 (t i)) i).judgeSensor i (t i) med)
    let ok := (List.range 8).filter (fun i => !s.sensorFailed i)
    let lost := decide (ok.length < 2)
    let s := if lost && !s.flag .govStat 6 then s.fault 0x13 138 0 true 0 0 0 else s
    let s := s.setFlag .govStat 6 lost
    let hot := ok.foldl (fun a i => match a with | none => some i | some j => if t j < t i then some i else a) none
    let s := match hot with | some i => s.wr .govTj (toW (encS 16 (t i) + i * 65536)) | none => s
    let l := s.thermal
    let l2 := if lost then 3 else match hot with | some i => s.levelAt l (t i) | none => l
    if l2 = l then s else ((s.setFld .govStat 0 2 l2).govEvent 0).showAdmit))

/-- The draw of C1 to C3 averaged over the last 10 ms, in mW, which is pJ in a nanosecond (R232). -/
def State.draw (s : State) : Nat := (s.drawNow :: s.drawPast).sum / 160000000

/-- FORECAST (R232), every 1 ms. -/
def execForecast (ts : Stamp) (s : State) : Host.Outcome State Fault Refusal :=
  .next (s.happens islFabric ts (fun s => decide (s.pstate < 3)) (fun s =>
    let p := s.fld .govPfixed 0 16
    let r := s.fld .govRefill 0 16
    let r := r + (s.fld .govFloor 0 16 - s.fld .govShare 0 8 * r / 256)
    let levels := [1, 2, 3].foldl (fun a k => a + (s.level k).toNat) 0
    let avg := satNat 16 (p + min r s.draw)
    let s := { s with drawNow := 0, drawPast := (s.drawNow :: s.drawPast).take 9 }
    let peak := satNat 16 (p + r + levels / 320000000)
    let lim := s.fld .govFcLimit 0 16
    let up := lim != 0 && decide (s.fld .govFc 16 16 ≤ lim ∧ lim < peak)
    let s := (s.wr .govFc (toW (avg + peak * 65536))).wr .govFcTime (ns32 ts)
    if up then s.govEvent 2 else s))

/-! ## Registers -/

/-- A write that R226 drops. -/
def State.govDrop (s : State) : State := ((s.setFlag .govStat 7 true).bump .govCnt 0 8).govEvent 7

/-- GOV_BUDGET_MW (R227): each master its field, Keystone both. A change raises BUDGET (DEDUCED, log entry 21). -/
def State.writeBudget (s : State) (m : Master) (v : Word) : State :=
  let old := s.rd .govBudgetMw
  let new := if s.isKeystone m then v
    else match m with
      | .supervisor => putF old 16 16 (getF v 16 16)
      | _ => putF old 0 16 (getF v 0 16)
  if new = old then s else (s.wr .govBudgetMw new).govEvent 1

def execGovBudgetWrite (m : Master) (v : Word) (s : State) : Host.Outcome State Fault Refusal :=
  .next (s.access m .govBudgetMw 0 0 (·.writeBudget m v))

def govReg : GovReg → RegName × Nat
  | .share => (.govShare, 0) | .floor => (.govFloor, 0) | .depth k => (.govDepth, k.val) | .thresh => (.govThresh, 0)
  | .thermFact => (.govThermFact, 0) | .fcLimit => (.govFcLimit, 0) | .fcTime => (.govFcTime, 0)
  | .epi n => (.govEpi, n.val) | .ctrl => (.govCtrl, 0)

/-- The limits of R226. -/
def govBad (r : GovReg) (v : Word) : Bool :=
  let b (i : Nat) : Nat := getF v (8 * i) 8
  let f (i : Nat) : Nat := if b i = 0 then 256 else b i
  match r with
  | .share => decide (256 < b 0 + b 1 + b 2)
  | .depth _ => getF v 0 16 == 0
  | .thresh => !decide (60 ≤ b 0 ∧ b 0 < b 1 ∧ b 1 < b 2 ∧ b 2 ≤ 150 ∧ 1 ≤ getF v 24 4)
  | .thermFact => !decide (f 1 ≤ f 0 ∧ f 2 ≤ f 1)
  | _ => false

/-- What GOV_CTRL.CLR_CNT clears (R8). -/
def State.clrGov (s : State) : State :=
  (s.each (List.range 3) (fun s k => s.clr .govDefer k)).clr .govWakeCnt |>.clr .govCnt

/-- A Governor configuration register written (R226, R228). -/
def State.writeGov (s : State) (r : GovReg) (v : Word) : State :=
  let (n, i) := govReg r
  if govBad r v then s.govDrop
  else
    let s := if n = .govCtrl ∧ getB v 31 then s.clrGov else s
    let s := s.wr n (v &&& toW n.row.rw) i
    match r with
    | .depth k => if s.depth (k.val + 1) < s.level (k.val + 1) then s.setLevel (k.val + 1) (s.depth (k.val + 1)) else s
    | _ => s

/-- GOV_CONFIG_WRITE (R226); GOV_FC_TIME is read-only and ignores it. -/
def execGovConfigWrite (m : Master) (r : GovReg) (v : Word) (s : State) : Host.Outcome State Fault Refusal :=
  .next (s.access m (govReg r).1 (govReg r).2 0 (fun s => if r = .fcTime then s else s.writeGov r v))

def execGovClrCnt (m : Master) (s : State) : Host.Outcome State Fault Refusal :=
  .next (s.access m .govCtrl 0 0 State.clrGov)

/-! ## Island gating -/

/-- An island has nothing to do (R233, R275): 0 to 3 engines, which have had no ready context and no request out for 64 cycles, 4
ports, 5 Mortar. -/
def State.islandIdle (s : State) (b : Nat) : Bool :=
  if b < 4 then
    decide (b < s.engines) && decide ((s.busyAt.at 0 b).toNat + 1280 ≤ s.now.toNat) && (List.range 32).all (fun l =>
      let x := ctxOf b l
      !(s.readyBut x && s.admitted b (s.cf .ctxCtrl 4 2 x)) && (s.ctx x).out.isNone)
  else if b = 4 then
    (List.range s.ports).all (fun p =>
      (s.port p).queue.isEmpty && (s.port p).run.isNone && !(s.portOn p && decide (s.portMode p ≠ 0)))
  else (List.range 4).all (fun k => !s.linkUp k)

/-- ISLAND_GATE (R233). -/
def execIslandGate (isl : Fin 6) (ts : Stamp) (s : State) : Host.Outcome State Fault Refusal :=
  .next (s.happens islFabric ts (fun s => s.flag .govCtrl 0 && s.islandIdle isl) (·.setFlag .govIsl isl true))

end Sys2Proof.Machine
end

