-- ==== Sys2Proof/Machine/Irq.lean ====
section
/-! DEFINITION. Mailboxes, local locks and the interrupt controller (14). Mailboxes: HMB_IN 0 to 15, HMB_OUT 16 to 31, SMB_IN 32
and 33, SMB_OUT 34 and 35, PMB_IN 36 to 39, PMB_OUT 40 to 43. -/

namespace Sys2Proof.Machine

/-! ## Mailboxes -/

/-- The channel number of a mailbox in its group. -/
def boxNum (b : Nat) : Nat := if b < 32 then b % 16 else if b < 36 then b % 2 else b % 4

/-- The mailbox belongs to a command-channel pair (R312). -/
def State.cmdBox (s : State) (b : Nat) : Bool :=
  if b < 32 then s.flag .sysCmdMbox (b % 16) else if b < 36 then s.flag .sysCmdMbox (16 + b % 2) else false

/-- The context that MB_CFG assigns. -/
def State.boxCtx (s : State) (b : Nat) : Option Nat := if s.flag .mbCfg 7 b then some (s.fld .mbCfg 0 7 b) else none

/-- The master is the context assigned to the box. -/
def State.isBoxCtx (s : State) (m : Master) (b : Nat) : Bool :=
  match m with | .ctx x => s.boxCtx b == some x.val | _ => false

/-- The master is the box's sender (R327). -/
def State.isSender (s : State) (m : Master) (b : Nat) : Bool :=
  if b < 16 then m == .host else if b < 32 then s.isBoxCtx m b else if b < 34 then m == .supervisor
  else if b < 36 then s.isBoxCtx m b else if b < 40 then false else decide (b < 44) && s.isBoxCtx m b

/-- The master is the box's receiver (R327). -/
def State.isReceiver (s : State) (m : Master) (b : Nat) : Bool :=
  if b < 16 then s.isBoxCtx m b else if b < 32 then m == .host else if b < 34 then s.isBoxCtx m b
  else if b < 36 then m == .supervisor else decide (b < 40) && s.isBoxCtx m b

def State.go (s : State) (b : Nat) : Bool := s.flag .mbCtrl 0 b

/-- GO as it was before the present fabric cycle, against which the cycle's writes are judged (R333). -/
def State.goWas (s : State) (b : Nat) : Bool :=
  if (s.goOld.at (0, false) b).1 = s.fabNow + 1 then (s.goOld.at (0, false) b).2 else s.go b

/-- GO is about to change. -/
def State.keepGo (s : State) (b : Nat) : State := { s with goOld := s.goOld.set (0, false) b (s.fabNow + 1, s.goWas b) }

/-- A write by a master that is not the party (R328). -/
def State.rightsDrop (s : State) (m : Master) (b off : Nat) : State := (s.bump .mbCnt 16 8 b).accErr m off .privilege

/-- NOTE (R327). -/
def State.note (s : State) (b : Nat) : State := if s.flag .mbCfg 24 b then s.raise (s.fld .mbCfg 16 8 b) else s

/-- The sources that the setting of GO raises. -/
def State.goSet (s : State) (b : Nat) : State :=
  if b < 16 then s.raise (148 + b) else if b = 32 ∨ b = 33 then s.raise (164 + b % 2)
  else if 36 ≤ b ∧ b < 40 then s.raise (166 + b % 4) else s.note b

/-- The sources that the clearing of GO raises. -/
def State.goCleared (s : State) (b : Nat) : State :=
  let e := s.fld .mbCfg 0 7 b / 32
  if 16 ≤ b ∧ b < 32 then s.raisePrv e (8 + b % 16) else if b = 34 ∨ b = 35 then s.raisePrv e (24 + b % 2)
  else if 40 ≤ b ∧ b < 44 then s.raisePrv e (26 + b % 4) else s.note b

/-- MB_CTRL with AGE as it counts (R330). -/
def State.boxAge (s : State) (b : Nat) : Nat :=
  if s.go b then min 0xFFFFFF (usBetween (s.goAt.at 0 b) (s.clock islFabric)) else s.fld .mbCtrl 8 24 b
def State.mbCtrlView (s : State) (b : Nat) : Word := putF (s.rd .mbCtrl b) 8 24 (s.boxAge b)

/-- The first payload word of an MBOX frame: target and source mailbox, what it is (0 data, 1 ACK, 2 FULL, 3 FREE) and
the number of data words (DESIGN CHOICE, log entry 22). -/
def boxHead (dst src op len : Nat) : Word := toW (dst + src * 256 + op * 65536 + len * 0x1000000)

/-- An outbound peer mailbox sends its message (R296). -/
def State.sendBox (s : State) (k : Nat) : State :=
  let w := s.rd .mlPmbDst k
  s.mlSend 6 (getF w 0 9) false (boxHead (getF w 10 2) k 0 16 :: (List.range 16).map (fun n => s.rd .mbData (40 + k) n))

/-- An answer to the sender of inbound peer mailbox k. -/
def State.answerBox (s : State) (k op : Nat) : State :=
  let w := s.rd .mlPmbSrc k
  s.mlSend 6 (getF w 0 9) false [boxHead (getF w 10 2) k op 0]

/-- GO becomes 1, with AGE 0 (R328). -/
def State.setGo (s : State) (b : Nat) : State :=
  ({ (s.keepGo b).wr .mbCtrl 1 b with goAt := s.goAt.set 0 b (s.clock islFabric) }).goSet b

/-- GO becomes 0; AGE stays (R330). -/
def State.clearGo (s : State) (b : Nat) : State := ((s.keepGo b).wr .mbCtrl (toW (s.boxAge b * 256)) b).goCleared b

/-- The outbound mailbox of command channel k: host channels 0 to 15, supervisor channels 16 and 17. -/
def outBox (k : Nat) : Nat := if k < 16 then 16 + k else 34 + k % 2
def inBox (k : Nat) : Nat := if k < 16 then k else 32 + k % 2
/-- The STALL bit of channel k. -/
def State.setStall (s : State) (k : Nat) (b : Bool) : State := s.setFlag .sysCmdStat k b

/-- The oldest reply that waits goes out on channel k, once the outbound GO is clear (R318). -/
def State.pumpReply (s : State) (k : Nat) : State :=
  let b := outBox k
  match s.repliesOf k with
  | [] => s
  | r :: rest =>
    if s.go b || !s.cmdBox b then s
    else
      let s := r.zipIdx.foldl (fun s (w, n) => if n < 16 then s.wr .mbData w b n else s) s
      ((s.setReplies k rest).setStall k false).setGo b

/-- A data write (R328, R333). -/
def State.writeData (s : State) (m : Master) (b n : Nat) (v : Word) : State :=
  if !s.isSender m b then s.rightsDrop m b (RegKey.offset ⟨.mbData, b, n⟩)
  else if s.goWas b then s.bump .mbCnt 0 16 b
  else s.wr .mbData v b n

/-- GO written 1 (R328, R333). -/
def State.writeGo (s : State) (m : Master) (b : Nat) : State :=
  if !s.isSender m b then s.rightsDrop m b (RegKey.offset ⟨.mbCtrl, b, 0⟩)
  else if s.goWas b ∨ s.go b then s.bump .mbCnt 24 8 b
  else
    let s := s.wakeUp.setGo b
    if 40 ≤ b then s.sendBox (b % 4) else s

/-- DONE written 1 (R328, R333); an inbound peer mailbox tells its sender FREE (R296). -/
def State.writeDone (s : State) (m : Master) (b : Nat) : State :=
  if !s.isReceiver m b then s.rightsDrop m b (RegKey.offset ⟨.mbCtrl, b, 0⟩)
  else if !s.goWas b ∨ !s.go b then s.bump .mbCnt 24 8 b
  else
    let s := s.clearGo b
    if 36 ≤ b ∧ b < 40 then s.answerBox (b % 4) 3
    else if 16 ≤ b ∧ b < 32 then s.pumpReply (b - 16)
    else if b = 34 ∨ b = 35 then s.pumpReply (16 + b % 2)
    else s

/-- Who may write MB_CFG (R332). -/
def State.mayCfg (s : State) (m : Master) (b : Nat) : Bool :=
  s.isKeystone m || (if s.cmdBox b then s.isService m else if b = 32 ∨ b = 33 ∨ b = 34 ∨ b = 35 then m == .supervisor else m == .host)

/-- MB_CFG written (R332). -/
def State.writeMbCfg (s : State) (m : Master) (b : Nat) (v : Word) : State :=
  if !s.mayCfg m b then s.rightsDrop m b (RegKey.offset ⟨.mbCfg, b, 0⟩)
  else if s.go b ∨ s.goWas b then s.bump .mbCnt 16 8 b
  else if getB v 24 ∧ (getF v 16 8 < 192 ∨ getF v 16 8 = 210) then s
  else s.wr .mbCfg (v &&& 0x1FF00FF) b

def execMbDataWrite (m : Master) (box : Fin 44) (n : Fin 16) (v : Word) (s : State) : Host.Outcome State Fault Refusal :=
  .next (s.onBus (·.writeData m box n v))
def execMbGoSet (m : Master) (box : Fin 44) (s : State) : Host.Outcome State Fault Refusal := .next (s.onBus (·.writeGo m box))
def execMbDone (m : Master) (box : Fin 44) (s : State) : Host.Outcome State Fault Refusal := .next (s.onBus (·.writeDone m box))
def execMbCfgWrite (m : Master) (box : Fin 44) (v : Word) (s : State) : Host.Outcome State Fault Refusal :=
  .next (s.onBus (·.writeMbCfg m box v))

/-- What MBX_CTRL.CLR_CNT clears (R8). -/
def State.clrBoxes (s : State) : State := s.each (List.range 48) (fun s b => s.clr .mbCnt b)
def execMbxClrCnt (m : Master) (s : State) : Host.Outcome State Fault Refusal := .next (s.access m .mbxCtrl 0 0 State.clrBoxes)

/-! ## Local locks -/

/-- LOCK_OWNER of a holder; 0 for a DMA channel, which holds none. -/
def lockCode : Master → Word
  | .host => 1
  | .supervisor => 3
  | .ctx x => toW (5 + x.val * 256)
  | .dma _ => 0

/-- The lock order (R336): Keystone by engine, the supervisor, the contexts, the host. -/
def lockRank : Master → Nat
  | .ctx x => if x.val % 32 = 0 then x.val / 32 else 5 + x.val
  | .supervisor => 4
  | _ => 133

/-- A context is parked under WAIT LOCK on local lock k. -/
def State.waitsLock (s : State) (k x : Nat) : Bool :=
  s.ctxState x == 3 && (match s.monHere x with | some w => w.kind == 5 && w.arg == k | none => false)

/-- A parked context goes before the master where both want the free lock k (R336). -/
def State.lockLost (s : State) (m : Master) (k : Nat) : Bool :=
  (List.range (32 * s.engines)).any (fun x => s.waitsLock k x && decide (lockRank (.ctx (Fin.ofNat 128 x)) < lockRank m))

/-- The command after this one reads LOCK_k in the same fabric cycle, for a master that goes first (R336). -/
def State.lockNext (s : State) (m : Master) (k : Nat) : Bool :=
  match s.pending with
  | .lockRead m' l :: _ => l.val == k && decide (lockRank m' < lockRank m ∧ fabCycle (s.tick.clock islFabric) = s.fabNow)
  | _ => false

/-- A read of LOCK_k: 1 to the master that acquires it or holds it (R335, R336). -/
def State.lockRead (s : State) (m : Master) (k : Nat) : Word × State :=
  match m with
  | .dma _ => (0, s.accErr m (RegKey.offset ⟨.lock, k, 0⟩) .privilege)
  | _ =>
    let o := s.rd .lockOwner k
    if o = 0 then (if s.lockLost m k || s.lockNext m k then (0, s) else (1, s.wr .lockOwner (lockCode m) k))
    else (if o = lockCode m then 1 else 0, s)

/-- A lock becomes free; a watched one is reported (R338). -/
def State.freeLock (s : State) (k : Nat) : State :=
  let s := s.clr .lockOwner k
  if s.flag .lockWatch (k % 32) (k / 32) then (s.setFlag .lockFreed (k % 32) true (k / 32)).raise 190 else s

/-- A release (R335). -/
def State.lockRelease (s : State) (m : Master) (k : Nat) : State :=
  if s.rd .lockOwner k ≠ 0 ∧ s.rd .lockOwner k = lockCode m then s.freeLock k
  else ((s.bumpW .lockStat 0 16).setFld .lockStat 16 8 k).setFld .lockStat 24 2 (getF (lockCode m) 1 2)

/-- The locks that a context holds (R337). -/
def State.locksOf (s : State) (x : Nat) : List Nat := (List.range 256).filter (fun k => s.rd .lockOwner k == toW (5 + x * 256))

def execLockRead (m : Master) (lock : Fin 256) (s : State) : Host.Outcome State Fault Refusal :=
  .next (s.onBus (fun s => let (v, s) := s.lockRead m lock; s.setRead (masterIx m) v))
def execLockRelease (m : Master) (lock : Fin 256) (s : State) : Host.Outcome State Fault Refusal :=
  .next (s.access m .lockRel lock 0 (·.lockRelease m lock))
/-- LOCK_CTRL.CLR_CNT clears NONHOLDER (R8). -/
def execLockClrCnt (m : Master) (s : State) : Host.Outcome State Fault Refusal :=
  .next (s.access m .lockCtrl 0 0 (·.setFld .lockStat 0 16 0))

/-! ## Sources -/

def State.pend (s : State) (n : Nat) : Bool := s.flag .intPendSet (n % 32) (n / 32)
def State.enabled (s : State) (n : Nat) : Bool := s.flag .intEnSet (n % 32) (n / 32)
def State.active (s : State) (n : Nat) : Bool := s.flag .intActive (n % 32) (n / 32)
def State.target (s : State) (n : Nat) : Nat := s.fld .intRoute 0 3 n
def State.prioOf (s : State) (n : Nat) : Nat := s.fld .intRoute 16 4 n
def State.routeLocked (s : State) (n : Nat) : Bool := s.flag .intRoute 31 n

/-- A shared source is delivered to a target (R340). -/
def State.deliver (s : State) (n tgt : Nat) : State :=
  let s := (s.setFlag .intPendSet (n % 32) false (n / 32)).setFlag .intActive (n % 32) true (n / 32)
  { s with takenBy := s.takenBy.set 130 n tgt }

/-- A source is completed; one raised meanwhile is delivered again at once if enabled, and counts (R341). -/
def State.complete (s : State) (n : Nat) : State :=
  let s := s.setFlag .intActive (n % 32) false (n / 32)
  let s := { s with takenBy := s.takenBy.set 130 n 130, doneAt := s.doneAt.set 0 n (s.fabNow + 1) }
  if s.pend n && s.enabled n then
    let s := s.bumpW .intErr 16 15
    if s.target n = 4 then s.setFlag .vecStat 31 true (s.fld .intRoute 24 6 n) else s
  else s

/-- The number of private source p of engine e in `takenBy`. -/
def prvIx (e p : Nat) : Nat := 256 + 32 * e + p

/-- A private source is delivered to its context, and completed. -/
def State.deliverPrv (s : State) (e p : Nat) : State :=
  let s := (s.setFlag .prvPendSet p false e).setFlag .prvActive p true e
  { s with takenBy := s.takenBy.set 130 (prvIx e p) (ctxOf e (s.fld .prvRoute 0 5 e p)) }
def State.completePrv (s : State) (e p : Nat) : State :=
  let s := s.setFlag .prvActive p false e
  let s := { s with takenBy := s.takenBy.set 130 (prvIx e p) 130 }
  if s.flag .prvPendSet p e && s.flag .prvEnSet p e then s.bumpW .intErr 16 15 else s

/-- The lower PRIO, then the lower number. -/
def bestSource (l : List (Nat × Nat)) : Option (Nat × Nat) :=
  l.foldl (fun a x => match a with | none => some x | some b => if x.1 < b.1 ∨ (x.1 = b.1 ∧ x.2 < b.2) then some x else a) none

/-- The source that the controller presents to context x: level, and number, private ones from 256 (R342). -/
def State.presented (s : State) (x : Nat) : Option (Nat × Nat) :=
  let e := x / 32
  let sh := (List.range 256).filterMap (fun n =>
    if s.pend n && s.enabled n && !s.active n && s.target n == e && s.fld .intRoute 8 5 n == x % 32 then some (s.prioOf n, n) else none)
  let pv := (List.range 32).filterMap (fun p =>
    if s.flag .prvPendSet p e && s.flag .prvEnSet p e && !s.flag .prvActive p e && s.fld .prvRoute 0 5 e p == x % 32 then
      some (s.fld .prvRoute 8 4 e p, 256 + p) else none)
  bestSource (sh ++ pv)

/-- The ACTIVE sources of a context are completed: it is stopped or faults (R342). -/
def State.completeAll (s : State) (x : Nat) : State :=
  let s := s.each ((List.range 256).filter (fun n => s.active n && s.takenBy.at 130 n == x)) State.complete
  s.each ((List.range 32).filter (fun p => s.flag .prvActive p (x / 32) && s.takenBy.at 130 (prvIx (x / 32) p) == x))
    (fun s p => s.completePrv (x / 32) p)

/-! ## Who may write (R347) -/

/-- A write that R347 does not allow. -/
def State.intDrop (s : State) (m : Master) (off : Nat) : State := (s.bumpW .intErr 0 16).accErr m off .privilege

/-- Keystone, the service and the host write the controller in general. -/
def State.intGeneral (s : State) (m : Master) : Bool := s.isKeystone m || s.isService m || m == .host

/-- The bits of word n whose sources belong to absent units: their enables read 0 and ignore writes (R23). -/
def State.absentBits (s : State) (n : Nat) : Word :=
  toW (((List.range 32).filter (fun b => !s.srcPresent (32 * n + b))).foldl (fun a b => a + 2 ^ b) 0)

/-- The sources of word n that a write of mask v by m may reach in INT_EN. -/
def State.enMask (s : State) (m : Master) (n : Nat) (v : Word) : Nat :=
  ((bitsOf 32 v.toNat).filter (fun b =>
    let k := 32 * n + b
    if s.isKeystone m then true
    else if m == .supervisor then s.target k == 5
    else s.intGeneral m && !s.routeLocked k)).foldl (fun a b => a + 2 ^ b) 0

/-- Likewise in INT_PEND, for a clear. -/
def State.pendMask (s : State) (m : Master) (n : Nat) (v : Word) : Nat :=
  if s.intGeneral m then v.toNat
  else if m == .supervisor then
    ((bitsOf 32 v.toNat).filter (fun b => s.target (32 * n + b) == 5)).foldl (fun a b => a + 2 ^ b) 0
  else 0

/-- Likewise in INT_PEND, for a raise: the supervisor also raises 192 to 255. -/
def State.raiseMask (s : State) (m : Master) (n : Nat) (v : Word) : Nat :=
  if m == .supervisor ∧ 6 ≤ n then v.toNat else s.pendMask m n v

/-- A write of mask v whose allowed part is `ok`: the rest is dropped and counted. -/
def State.maskWrite (s : State) (m : Master) (off ok : Nat) (v : Word) (f : State → State) : State :=
  let s := f s
  if ok = v.toNat then s else s.intDrop m off

def State.writePendSet (s : State) (m : Master) (n : Nat) (v : Word) : State :=
  let ok := s.raiseMask m n v
  s.maskWrite m (RegKey.offset ⟨.intPendSet, n, 0⟩) ok v (fun s => s.each ((bitsOf 32 ok).map (32 * n + ·)) State.raise)
def State.writePendClr (s : State) (m : Master) (n : Nat) (v : Word) : State :=
  let ok := s.pendMask m n v
  s.maskWrite m (RegKey.offset ⟨.intPendClr, n, 0⟩) ok v (fun s => s.wr .intPendSet (s.rd .intPendSet n &&& ~~~(toW ok)) n)
def State.writeEnSet (s : State) (m : Master) (n : Nat) (v : Word) : State :=
  let v := v &&& ~~~(s.absentBits n)
  let ok := s.enMask m n v
  s.maskWrite m (RegKey.offset ⟨.intEnSet, n, 0⟩) ok v (fun s => s.wr .intEnSet (s.rd .intEnSet n ||| toW ok) n)
def State.writeEnClr (s : State) (m : Master) (n : Nat) (v : Word) : State :=
  let v := v &&& ~~~(s.absentBits n)
  let ok := s.enMask m n v
  s.maskWrite m (RegKey.offset ⟨.intEnClr, n, 0⟩) ok v (fun s => s.wr .intEnSet (s.rd .intEnSet n &&& ~~~(toW ok)) n)

/-- INT_PEND_SET (R340). -/
def execIntPendSet (m : Master) (n : Fin 8) (v : Word) (s : State) : Host.Outcome State Fault Refusal := .next (s.onBus (·.writePendSet m n v))
/-- INT_PEND_CLR (R340, R344): a delivery already under way is not modelled apart (log entry 23). -/
def execIntPendClr (m : Master) (n : Fin 8) (v : Word) (s : State) : Host.Outcome State Fault Refusal := .next (s.onBus (·.writePendClr m n v))
def execIntEnSet (m : Master) (n : Fin 8) (v : Word) (s : State) : Host.Outcome State Fault Refusal := .next (s.onBus (·.writeEnSet m n v))
def execIntEnClr (m : Master) (n : Fin 8) (v : Word) (s : State) : Host.Outcome State Fault Refusal := .next (s.onBus (·.writeEnClr m n v))

/-- INT_ROUTE (R339, R347). -/
def State.writeRoute (s : State) (m : Master) (n : Nat) (v : Word) : State :=
  let off := RegKey.offset ⟨.intRoute, n, 0⟩
  if !s.intGeneral m || (s.routeLocked n && !s.isKeystone m) then s.intDrop m off
  else if 6 ≤ getF v 0 3 ∨ (getF v 0 3 < 4 ∧ s.engines ≤ getF v 0 3) then s.bumpW .intErr 0 16
  else
    let v := v &&& 0xBF0F1F07
    s.wr .intRoute (if s.isKeystone m then v else putB v 31 (s.routeLocked n)) n

def execIntRouteWrite (m : Master) (src : Fin 256) (v : Word) (s : State) : Host.Outcome State Fault Refusal :=
  .next (s.onBus (·.writeRoute m src v))

/-- The private banks: all of them to Keystone and the host, to the service, and PRV_PEND_SET to its own engine only. -/
def State.prvMay (s : State) (m : Master) (e : Nat) (raise : Bool) : Bool :=
  match m with
  | .ctx x => s.isKeystone m || (s.isService m && (!raise || x.val / 32 == e))
  | .host => true
  | _ => false

/-- PRV_PEND_SET: sources 0 to 7 by software; a bank of an absent engine ignores writes (R347, R23). -/
def State.writePrvPend (s : State) (m : Master) (e : Nat) (v : Word) : State :=
  if s.engines ≤ e then s
  else if !s.prvMay m e true then s.intDrop m (RegKey.offset ⟨.prvPendSet, e, 0⟩)
  else s.each (bitsOf 8 v.toNat) (fun s p => s.raisePrv e p)

def execPrvPendSet (m : Master) (e : Fin 4) (v : Word) (s : State) : Host.Outcome State Fault Refusal :=
  .next (s.onBus (·.writePrvPend m e v))

/-- The other private registers (R347). -/
def State.writePrv (s : State) (m : Master) (k : RegKey) (v : Word) : State :=
  let e := k.i
  if s.engines ≤ e then s
  else if !s.prvMay m e false then s.intDrop m k.offset
  else
    match k.name with
    | .prvRoute => s.wr .prvRoute (v &&& 0xF1F) e k.j
    | .prvEnSet => s.wr .prvEnSet (s.rd .prvEnSet e ||| v) e
    | .prvEnClr => s.wr .prvEnSet (s.rd .prvEnSet e &&& ~~~v) e
    | .prvPendClr => s.wr .prvPendSet (s.rd .prvPendSet e &&& ~~~v) e
    | _ => s

/-! ## The host -/

/-- The vector may issue: MSI-X on, neither mask set, and the link carries it (R345, R346). -/
def State.vectorFree (s : State) (v : Nat) : Bool :=
  s.msixOn && !s.msixMask && !s.flag .msixVctrl 0 v && !s.d3hot && (s.hostLink == .up || s.hostLink == .l1)

/-- The sources of vector v that an issue delivers. -/
def State.vectorSources (s : State) (v : Nat) : List Nat :=
  (List.range 256).filter (fun n => s.pend n && s.enabled n && !s.active n && s.target n == 4 && s.fld .intRoute 24 6 n == v)

/-- A vector issues its MSI-X write and delivers its sources, or its PBA bit is set (R345). -/
def State.issueVector (s : State) (v : Nat) : State :=
  if s.vectorFree v then
    let s := { s with hostMem := s.hostMem.putWord (stampOf (s.rd .msixAddrLo v) (s.rd .msixAddrHi v)).toNat (s.rd .msixData v) }
    let s := (s.wr .vecStat 0 v).setFlag .msixPba (v % 32) false (v / 32)
    s.each (s.vectorSources v) (fun s n => s.deliver n 128)
  else (s.setFlag .vecStat 31 true v).setFlag .msixPba (v % 32) true (v / 32)

/-- The vector's count or delay is met. -/
def State.vectorDue (s : State) (v : Nat) (ts : Stamp) : Bool :=
  s.flag .vecStat 31 v || (s.fld .vecStat 0 8 v != 0 &&
    decide ((s.vecFirst.at 0 v).toNat + s.fld .vecMod 8 16 v * 16000 ≤ ts.toNat))

/-- The lowest PRIO among the sources that an issue of the vector delivers; 16 with none. -/
def State.vectorPrio (s : State) (v : Nat) : Nat := (s.vectorSources v).foldl (fun a n => min a (s.prioOf n)) 16

/-- The vectors that are due and free, and issue before v: by the lowest source PRIO, then the number (R345). -/
def State.vectorsBefore (s : State) (v : Nat) (ts : Stamp) : List Nat :=
  let l := (List.range 64).filter (fun u => s.vectorDue u ts && s.vectorFree u &&
    decide (s.vectorPrio u < s.vectorPrio v ∨ (s.vectorPrio u = s.vectorPrio v ∧ u < v)))
  (List.range 17).flatMap (fun p => l.filter (fun u => s.vectorPrio u == p))

/-- VECTOR_ISSUE (R345). -/
def execVectorIssue (vec : Fin 64) (ts : Stamp) (s : State) : Host.Outcome State Fault Refusal :=
  .next (s.happens islFabric ts (fun s => s.vectorDue vec ts) (fun s =>
    (s.each (s.vectorsBefore vec ts) State.issueVector).issueVector vec))

/-- VEC_STAT and MSIX_PBA as they read: a vector that is due and may not issue shows its PBA bit (R345). -/
def State.vecStatView (s : State) (v : Nat) : Word := putB (s.rd .vecStat v) 31 (s.vectorDue v (s.clock islFabric))
def State.pbaView (s : State) (n : Nat) : Word :=
  toW (((List.range 32).filter (fun b => s.flag .msixPba b n ||
    (s.vectorDue (32 * n + b) (s.clock islFabric) && !s.vectorFree (32 * n + b)))).foldl (fun a b => a + 2 ^ b) 0)

/-- VECTOR_UNMASK (R345, R348): the host has enabled MSI-X and cleared the function mask and the vector's own. -/
def execVectorUnmask (vec : Fin 64) (ts : Stamp) (s : State) : Host.Outcome State Fault Refusal :=
  let s := s.reachIn islFabric ts
  let s := { s.setFlag .msixVctrl 0 false vec with msixOn := true, msixMask := false }
  .next (if s.vectorDue vec ts then s.issueVector vec else s)

/-- Every vector that gathers issues at once (R346). -/
def State.flushVectors (s : State) : State :=
  s.each ((List.range 64).filter (fun v => s.fld .vecStat 0 8 v != 0)) State.issueVector

/-- SLEEP_INTENT (R346, R347). -/
def State.writeHostPm (s : State) (m : Master) : State :=
  if s.intGeneral m then s.flushVectors else s.intDrop m (RegKey.offset ⟨.hostPm, 0, 0⟩)

/-- SLEEP_INTENT (R346): the write, or the endpoint's own change of power state. The entry to ASPM L1 flushes like the write; D3hot
and L2 stop the vectors, and D0 with the link back in L0 lets them go on (R302; DESIGN CHOICE, log entry 97). -/
def execSleepIntent (e : PmEvent) (s : State) : Host.Outcome State Fault Refusal :=
  .next (match e with
  | .write m => s.onBus (·.writeHostPm m)
  | .l1 => if s.hostLink = .up then { (s.onBus State.flushVectors) with hostLink := .l1 } else s
  | .d3hot => if s.hostLink = .up ∨ s.hostLink = .l1 then { s with hostLink := .l1, d3hot := true } else s
  | .l2 => if s.d3hot ∧ s.hostLink = .l1 then { s with hostLink := .l2 } else s
  | .d0 => if s.hostLink = .l1 then { s with hostLink := .up, d3hot := false } else s)

/-- HOST_EOI (R340). -/
def State.writeHostEoi (s : State) (m : Master) (n : Nat) : State :=
  if !s.intGeneral m then s.intDrop m (RegKey.offset ⟨.hostEoi, 0, 0⟩)
  else if s.active n && s.takenBy.at 130 n == 128 then s.complete n
  else s.bumpW .intErr 0 16
def execHostEoi (m : Master) (src : Byte) (s : State) : Host.Outcome State Fault Refusal := .next (s.onBus (·.writeHostEoi m src.toNat))

/-- VEC_MOD (R345). -/
def State.writeVecMod (s : State) (m : Master) (i : Nat) (v : Word) : State :=
  if !s.intGeneral m then s.intDrop m (RegKey.offset ⟨.vecMod, i, 0⟩)
  else if 2 ≤ getF v 0 8 ∧ getF v 8 16 = 0 then s.bumpW .intErr 0 16
  else
    let s := s.wr .vecMod (v &&& 0x80FFFFFF) i
    if s.fld .vecStat 0 8 i ≠ 0 ∧ max 1 (getF v 0 8) ≤ s.fld .vecStat 0 8 i then s.setFlag .vecStat 31 true i else s
def execVecModWrite (m : Master) (vec : Fin 64) (v : Word) (s : State) : Host.Outcome State Fault Refusal :=
  .next (s.onBus (·.writeVecMod m vec v))

/-- INT_ERR.CLR_CNT (R8). -/
def State.clrInt (s : State) (m : Master) : State :=
  if s.intGeneral m then s.clr .intErr else s.intDrop m (RegKey.offset ⟨.intErr, 0, 0⟩)
def execIntClrCnt (m : Master) (s : State) : Host.Outcome State Fault Refusal := .next (s.onBus (·.clrInt m))

/-! ## The supervisor -/

/-- The source a claim returns. -/
def State.supSource (s : State) : Option (Nat × Nat) :=
  bestSource ((List.range 256).filterMap (fun n =>
    if s.pend n && s.enabled n && !s.active n && s.target n == 5 then some (s.prioOf n, n) else none))

/-- A read of SUP_CLAIM (R343). -/
def State.supClaim (s : State) (m : Master) : Word × State :=
  if m ≠ .supervisor then (0, s.accErr m (RegKey.offset ⟨.supClaim, 0, 0⟩) .privilege)
  else
    match s.supSource with
    | some (_, n) => (toW (n + 2 ^ 31), s.deliver n 129)
    | none => (0, s)
def execSupClaim (m : Master) (s : State) : Host.Outcome State Fault Refusal :=
  .next (if 3 ≤ s.pstate then s.setRead (masterIx m) 0
    else s.onBus (fun s => let (v, s) := s.supClaim m; s.setRead (masterIx m) v))

/-- SUP_EOI (R340). -/
def State.writeSupEoi (s : State) (m : Master) (n : Nat) : State :=
  if m ≠ .supervisor ∧ !s.intGeneral m then s.intDrop m (RegKey.offset ⟨.supEoi, 0, 0⟩)
  else if s.active n && s.takenBy.at 130 n == 129 then s.complete n
  else s.bumpW .intErr 0 16
def execSupEoi (m : Master) (src : Byte) (s : State) : Host.Outcome State Fault Refusal := .next (s.onBus (·.writeSupEoi m src.toNat))

/-- ALERT# is asserted while a source waits for the supervisor (R325, R341). -/
def State.alert (s : State) : Bool := s.supSource.isSome

end Sys2Proof.Machine
end

