-- ==== Sys2Proof/Machine/Mortar.lean ====
section
/-! DEFINITION. Mortar (12): links, delivery, roles, joining, beacons, and the services. A frame's arrival is FRAME_RECEIVE,
or the row of its service where only the delivery is told (log entry 24). -/

namespace Sys2Proof.Machine

/-- A link event: ML_EVT bit b of link k, source 144 + k. -/
def State.linkEvent (s : State) (k b : Nat) : State := s.event .mlEvt .mlIen b (144 + k) k

/-- A frame or record is dropped on link k (ML_CNT_1.DROP). -/
def State.mlDrop (s : State) (k : Nat) : State := s.bump .mlCnt1 24 8 k

def State.role (s : State) (k : Nat) : Nat := s.fld .mlLctrl 1 2 k
def State.depthOf (s : State) : Nat := if s.flag .mlCtrl 1 then 0 else s.fld .mlStat 5 4
def State.joinState (s : State) : Nat := s.fld .mlStat 0 2

/-- The transmitter of link k runs; else it is in electrical idle, both lines at VOS (R390). -/
def State.mlTransmits (s : State) (k : Nat) : Bool :=
  decide (k < s.linkCount ∧ s.pstate < 3) && s.flag .mlCtrl 0 && s.flag .mlLctrl 0 k

/-! ## Check words -/

/-- The header word of a frame (R278). -/
def frameHead (f : MFrame) : Word :=
  toW (f.ty % 16 + f.payload.length % 32 * 16 + f.src % 512 * 2 ^ 9 + f.dst % 512 * 2 ^ 18 + b2n f.bcast * 2 ^ 27 + f.hops % 16 * 2 ^ 28)

/-- The CRC word of a frame: CRC-32 of IEEE 802.3 over the header and the payload bytes, the least significant first (R278). -/
def frameCrc (f : MFrame) : Word :=
  let bits := (frameHead f :: f.payload).flatMap (fun w => (List.range 32).map (fun b => getB w b))
  ~~~ toW (bitRev 32 (crcMsb 32 0x04C11DB7 0xFFFFFFFF bits))

/-- The check byte of a BEACON: CRC-8, polynomial 0x07, over its five data bytes, the least significant byte first (R285; log entry
96). -/
def beaconCheck (stamp : BitVec 40) : Nat :=
  crcMsb 8 0x07 0 ((List.range 5).flatMap (fun i => bitsMsb 8 (stamp.toNat / 256 ^ i % 256)))

/-- A LINK frame of this device on link k (R281, R291; its layout is the model's: log entry 22). -/
def State.linkWords (s : State) (k : Nat) : List Word :=
  [toW (s.devNum + b2n (s.flag .mlCtrl 1) * 2 ^ 9 + s.depthOf * 2 ^ 10 + s.role k * 2 ^ 14 + b2n s.joined * 2 ^ 16), 0]

/-! ## Sending again -/

/-- The unacknowledged frames from `seq` on are sent again; each counts in RETRY (R279). -/
def State.resend (s : State) (k : Nat) (frm : Nat) : State :=
  let l := s.link k
  let from_ := l.unacked.dropWhile (fun (q, _) => q ≠ frm)
  let keep := l.unacked.take (l.unacked.length - from_.length)
  let s := s.setLink k { l with unacked := keep ++ from_.map (fun (q, f, n) => (q, f, n + 1)), ackAt := s.now, lastTx := s.now }
  s.bumpW .mlCnt0 16 16 k 0 from_.length

/-- The frames acknowledged up to and including `seq` are freed, and waiting ones go out (R279). -/
def State.acked (s : State) (k seq : Nat) : State :=
  let l := s.link k
  if !l.unacked.any (fun (q, _) => q == seq) then s
  else
    let rest := (l.unacked.dropWhile (fun (q, _) => q ≠ seq)).drop 1
    let l := { l with unacked := rest, ackAt := s.now }
    s.setLink k (l.pump s.now l.txq)

/-- A system lock held here is LOST while the device has no path to the root (R295). -/
def State.markLost (s : State) (b : Bool) : State :=
  if s.flag .mlCtrl 1 then s
  else s.each (List.range 64) (fun s k => if s.flag .mlSlockOwner 31 k then s.setFlag .mlSlockOwner 30 b k else s)

/-- Link k goes DOWN (R279, R295, R298): a peer mailbox message without an ACK takes any other path, or waits; the root is told
which device left (R291). -/
def State.dropLink (s : State) (k : Nat) : State :=
  if s.fld .mlLstat 0 2 k = 0 then s
  else
    let carried := s.flag .mlLstat 3 k
    let was := s.linkUp k
    let s := s.wr .mlLstat (putF (s.rd .mlLstat k) 0 4 0) k
    let s := if was then (s.bump .mlCnt1 0 8 k).linkEvent k 1 else s
    let l := s.link k
    let box := (l.unacked.filter (fun (_, f, _) => f.ty == 6)).map (fun (_, f, _) => f) ++ l.txq.filter (fun f => f.ty == 6)
    let s := s.setLink k { l with
      unacked := l.unacked.filter (fun (_, f, _) => f.ty != 6), txq := l.txq.filter (fun f => f.ty != 6)
      beacon := none, beacons := 0, total := 0, exchanges := 0 }
    let s := box.foldl (fun s f => s.mlRoute f (some k)) s
    let s := if was && s.role k == 1 && s.joined && !s.isRoot then
        s.mlSend 2 (s.fld .mlStat 16 9) false [toW s.devNum, toW s.depthOf, toW (s.fld .mlLstat 4 9 k + 2 ^ 16)]
      else s
    if carried && s.joined && !s.flag .mlCtrl 1 then
      ({ s.setFlag .mlStat 11 true with coastAt := s.now }).markLost true
    else s

/-- LINK_DOWN (R279). -/
def execLinkDown (k : Fin 4) (ts : Stamp) (s : State) : Host.Outcome State Fault Refusal :=
  .next (s.happens islMortar ts (fun s => decide (k.val < s.linkCount)) (·.dropLink k))

/-- RETRANSMIT_TIMEOUT (R279): 2 µs without an ACK. -/
def execRetransmitTimeout (k : Fin 4) (ts : Stamp) (s : State) : Host.Outcome State Fault Refusal :=
  .next (s.happens islMortar ts (fun s => s.linkUp k && decide ((s.link k).ackAt.toNat + 32000 ≤ ts.toNat)) (fun s =>
    match (s.link k).unacked with
    | [] => s
    | (q, _, n) :: _ => if 9 ≤ n then s.dropLink k else s.resend k q))

/-- ACK_NAK_RECEIVE (R279). -/
def execAckNakReceive (k : Fin 4) (nak : Bool) (seq : Byte) (s : State) : Host.Outcome State Fault Refusal :=
  .next (if !s.linkUp k then s
    else if nak then (if (s.link k).unacked.any (fun (q, _, n) => q == seq.toNat && decide (9 ≤ n)) then s.dropLink k else s.resend k seq.toNat)
    else s.acked k seq.toNat)

/-- ALIVE (R291): a link that has carried nothing for 10 µs. -/
def execAlive (k : Fin 4) (ts : Stamp) (s : State) : Host.Outcome State Fault Refusal :=
  .next (s.happens islMortar ts (fun s => s.linkUp k && decide ((s.link k).lastTx.toNat + 160000 ≤ ts.toNat)) (fun s =>
    s.sendOn k { ty := 10, src := s.devNum, dst := s.fld .mlLstat 4 9 k, bcast := false, hops := 0, payload := [] }))

/-! ## Training and roles -/

/-- The roles, roots and depths of the two ends fit, and no second link is UP (R281). -/
def State.roleFits (s : State) (k : Nat) (p : LinkInfo) : Bool :=
  let r := s.role k
  let root := s.flag .mlCtrl 1
  !((r == 0 && p.role.val == 0) || (root && p.root) || (root && r == 0) ||
    (r == 0 && (List.range 4).any (fun j => j != k && s.linkUp j && s.role j == 0)) ||
    (r != 1 && decide (8 < p.depth + 1)) || (r == 1 && p.role.val == 0 && decide (8 < s.depthOf + 1)))

/-- A link that carries the uplink: depth, link and, of a root peer, the root's number; the end of coasting (R289). -/
def State.takeUplink (s : State) (k : Nat) (depth : Nat) (root : Option Nat) : State :=
  let s := s.setFlag .mlLstat 3 true k
  let s := (s.setFld .mlStat 5 4 (depth + 1)).setFld .mlStat 9 2 k
  let s := match root with | some n => s.setFld .mlStat 16 9 n | none => s
  let s := (s.setFlag .mlStat 11 false).markLost false
  if s.joinState = 0 then s.setFld .mlStat 0 2 1 else s

/-- LINK_TRAIN (R281): comma alignment and the LINK frames of both ends. A link of role UP that comes back while another carries the
uplink waits as a STANDBY does (log entry 96). -/
def execLinkTrain (k : Fin 4) (peer : LinkInfo) (ts : Stamp) (s : State) : Host.Outcome State Fault Refusal :=
  .next (s.happens islMortar ts (fun s => decide (k.val < s.linkCount) && s.flag .mlCtrl 0 && s.flag .mlLctrl 0 k && !s.linkUp k &&
      decide (s.pstate < 3)) (fun s =>
    if !peer.comma then s.setFld .mlLstat 0 2 1 k
    else if !s.roleFits k peer then s.setFld .mlLstat 0 3 5 k
    else
      let s := s.wr .mlLstat (toW (2 + peer.num.val * 16 + peer.depth % 16 * 2 ^ 13)) k
      let l := s.link k
      let again := l.unacked.map (fun (_, f, _) => f) ++ l.txq
      let l : Link := { peerRole := peer.role.val, peerRoot := peer.root, peerJoined := peer.joined, lastTx := s.now }
      let s := (s.setLink k (l.pump s.now again)).linkEvent k 0
      let s := if s.role k = 0 ∧ s.uplink.isNone then s.takeUplink k peer.depth (if peer.root then some peer.num.val else none) else s
      let w := s.parked
      w.foldl (fun s f => s.mlRoute f none) { s with parked := [] }))

/-- STANDBY_TAKEOVER (R284, R289). -/
def execStandbyTakeover (k : Fin 4) (ts : Stamp) (s : State) : Host.Outcome State Fault Refusal :=
  .next (s.happens islMortar ts (fun s => s.linkUp k && s.role k != 1 && (s.link k).peerJoined && s.uplink.isNone && s.joined) (fun s =>
    let old := (List.range 4).filter (fun j => j != k.val && s.role j != 1 && !s.linkUp j)
    let frames := old.flatMap (fun j => (s.link j).unacked.map (fun (_, f, _) => f) ++ (s.link j).txq)
    let s := s.each old (fun s j => s.onLink j (fun l => { l with unacked := [], txq := [] }))
    let s := s.takeUplink k (s.fld .mlLstat 13 4 k) (if (s.link k).peerRoot then some (s.fld .mlLstat 4 9 k) else none)
    let s := s.onLink k (fun l => { l with rerouteIv := some (ts.toNat / 2 ^ 14) })
    let s := ((s.bump .mlCnt1 8 8 k).linkEvent k 2).fault 0x0E (116 + k.val) k false 0 0 0
    frames.foldl (fun s f => s.sendOn k f) s))

/-! ## Beacons and delay -/

/-- BEACON_SEND (R285): in the cycle after a multiple of 1,024 ns. -/
def execBeaconSend (k : Fin 4) (ts : Stamp) (s : State) : Host.Outcome State Fault Refusal :=
  .next (s.happens islMortar ts (fun s => s.linkUp k && decide (ts.toNat % 2 ^ 14 < 64)) (fun s =>
    s.onLink k (fun l => { l with sentBeacon := ts })))

/-- BEACON_RECEIVE (R285 to R287): bits [63:40] of the launch come from the own master; every 16 beacons a DELAY frame
goes back. -/
def execBeaconReceive (k : Fin 4) (stamp : BitVec 40) (check : Byte) (ts : Stamp) (s : State) : Host.Outcome State Fault Refusal :=
  .next (s.happens islMortar ts (fun s => s.linkUp k) (fun s =>
    if check.toNat ≠ beaconCheck stamp then (s.bump .mlCnt1 16 8 k).linkEvent k 3
    else
      let t1 := toS (ts.toNat / 2 ^ 40 * 2 ^ 40 + stamp.toNat)
      let l := s.link k
      let s := s.setLink k { l with beacon := some (t1, ts), beacons := (l.beacons + 1) % 16, total := l.total + 1 }
      let s := if l.beacons + 1 = 16 then
          s.sendOn k { ty := 1, src := s.devNum, dst := s.fld .mlLstat 4 9 k, bcast := false, hops := 0
                       payload := [loW t1, hiW t1, loW ts, hiW ts] }
        else s
      if s.flag .mlLstat 3 k && s.joined && !s.flag .mlCtrl 1 then
        let d := (ts.toNat : Int) - t1.toNat - getS (s.rd .mlDelay k) 0 32
        let n := min 16 (d.natAbs - 1)
        { s.wr .mlOffset (intW d) with slew := if 0 < d then -(n : Int) else n }
      else s))

/-- A DELAY exchange of link k (R286): the launch of our last beacon and its arrival at the peer. A sum that is odd is
rounded down (DEDUCED, log entry 25). -/
def State.delayExchange (s : State) (k : Nat) (t3 t4 : Stamp) : State :=
  let l := s.link k
  match l.beacon with
  | none => s
  | some (t1, t2) =>
    if l.rerouteIv = some ((s.clock islMortar).toNat / 2 ^ 14) then s
    else
      let asym := getS (s.rd .mlAsym k) 0 16
      let a := (t2.toNat : Int) - t1.toNat
      let b := (t4.toNat : Int) - t3.toNat
      let s := s.wr .mlDelay (intW ((a + b) / 2 + asym)) k
      let s := if s.flag .mlLstat 3 k then s.wr .mlOffset (intW ((a - b) / 2 - asym)) else s
      s.onLink k (fun l => { l with exchanges := l.exchanges + 1 })

/-- DELAY_FRAME (R286). -/
def execDelayFrame (k : Fin 4) (launch arrival ts : Stamp) (s : State) : Host.Outcome State Fault Refusal :=
  .next (s.happens islMortar ts (fun s => s.linkUp k) (·.delayExchange k launch arrival))

/-! ## Joining -/

/-- The device is quiet (R288). -/
def State.quiet (s : State) : Bool :=
  (List.range s.tiles).all (fun t => s.runMask t == 0 && !s.flag .tileStartArm 8 t) &&
  (List.range s.domains).all (fun d => s.domState d == 0) && (List.range s.ports).all (fun p => !s.flag .portTt 0 p) &&
  !s.flag .logCtrl 0

/-- ML_STAT.JOIN and REASON, and the JOIN event. -/
def State.joinIs (s : State) (j reason : Nat) : State := (s.setFld .mlStat 0 5 (j + reason * 4)).linkEvent 0 6

/-- The device joins: ALIGNED, a LINK frame that tells the devices below, and a JOIN frame to the root (R288). -/
def State.joinNow (s : State) : State :=
  let s := (s.joinIs 2 0).setFlag .droneStat 2 true
  let s := s.each s.downlinks (fun s k => s.sendOn k { ty := 0, src := s.devNum, dst := s.fld .mlLstat 4 9 k, bcast := false, hops := 0
                                                       payload := s.linkWords k })
  s.mlSend 2 (s.fld .mlStat 16 9) false [toW s.devNum, toW s.depthOf, toW s.devNum]

/-- JOIN_JUDGEMENT (R288): `dup`, the number is already in the system. The step forward comes at the next beacon instant. A device
refused as BUSY is judged again at its next DELAY exchange. -/
def execJoinJudgement (dup : Bool) (ts : Stamp) (s : State) : Host.Outcome State Fault Refusal :=
  .next (s.happens islMortar ts (fun s => s.flag .mlCtrl 0 && !s.flag .mlCtrl 1 && (s.joinState == 1 || (s.joinState == 3 && s.fld .mlStat 2 3 == 1))) (fun s =>
    match s.uplink with
    | none => s
    | some k =>
      let l := s.link k
      if !l.peerJoined || decide (l.total < 16 ∨ l.exchanges = 0) then s
      else
        let d := getS (s.rd .mlOffset) 0 32
        if 8 < s.depthOf then s.joinIs 3 4
        else if dup then s.joinIs 3 3
        else if d.natAbs ≤ 64000 then s.joinNow
        else if 0 < d then s.joinIs 3 2
        else if s.quiet then
          let s := s.reach (toS ((s.now.toNat / 2 ^ 14 + 1) * 2 ^ 14))
          (s.stepTo (toS (s.now.toNat + d.natAbs))).joinNow
        else (s.onLink k (fun l => { l with exchanges := 0 })).joinIs 3 1))

/-- ML_CTRL (R288): EN written 1 steps the master of a quiet root forward to 2^52; ROOT is dropped while EN = 1. -/
def State.writeMlCtrl (s : State) (v : Word) : State :=
  let old := s.rd .mlCtrl
  let s := if getB v 31 then s.each (List.range 4) (fun s k => (s.clr .mlCnt0 k).clr .mlCnt1 k) else s
  if getB old 0 ∧ getB old 1 ≠ getB v 1 then s
  else
    let s := s.wr .mlCtrl (v &&& 3)
    if getB v 0 && !getB old 0 then
      let s := s.setFlag .droneStat 3 (getB v 1)
      if getB v 1 then
        let s := s.setFld .mlStat 16 9 s.devNum
        if s.now.toNat < 2 ^ 52 && s.quiet then s.stepTo (toS (2 ^ 52)) else s
      else s
    else if getB old 0 && !getB v 0 then
      let s := s.each (List.range 4) State.dropLink
      (s.unalign.setFlag .droneStat 3 false).wr .mlStat (s.rd .mlStat &&& 0x1000)
    else s

def execMlCtrlEnable (m : Master) (s : State) : Host.Outcome State Fault Refusal :=
  .next (s.access m .mlCtrl 0 0 (fun s => s.writeMlCtrl (s.rd .mlCtrl ||| 1)))
def execMlClrCnt (m : Master) (s : State) : Host.Outcome State Fault Refusal :=
  .next (s.access m .mlCtrl 0 0 (fun s => s.writeMlCtrl (s.rd .mlCtrl ||| 0x80000000)))

/-- HOLD_MAX_EXPIRY (R289). -/
def execHoldMaxExpiry (ts : Stamp) (s : State) : Host.Outcome State Fault Refusal :=
  .next (s.happens islMortar ts (fun s => s.flag .mlStat 11 && decide (s.coastAt.toNat + s.fld .mlHold 0 10 * 16000000 ≤ ts.toNat)) (fun s =>
    (s.setFlag .mlStat 11 false).unalign.setFld .mlStat 0 5 0))

/-! ## System start -/

/-- A device acts on SYSSTART (R294). -/
def State.sysstart (s : State) (t : Stamp) (tag : Nat) : State :=
  let s := s.when (s.flag .mlSsCtrl 0) (fun s =>
    s.each ((List.range s.tiles).filter (fun k => s.flag (if k < 32 then .mlSsTilesLo else .mlSsTilesHi) (k % 32))) (fun s k =>
      ((s.wr .tileStartAtLo (loW t) k).wr .tileStartAtHi (hiW t) k).armStart k (s.fld .mlSsChmask 0 8 k)))
  let s := s.when (s.flag .mlSsCtrl 1) (fun s =>
    s.each ((List.range s.ports).filter (fun p => s.flag .mlSsPorts p)) (fun s p =>
      ((s.wr .portTtAtLo (loW t) p).wr .portTtAtHi (hiW t) p).writeTt p .tt (s.rd .portTt p ||| 1)))
  s.when (s.flag .mlSsCtrl 2) (·.post (s.fld .mlSsCtrl 3 7) (toW tag) (evTag 4 0))

/-- The root's start command: false where T is less than 20 µs ahead, which sets SS_ERR (R294). -/
def State.startSystem (s : State) : Bool × State :=
  let t := stampOf (s.rd .mlSsAtLo) (s.rd .mlSsAtHi)
  let tag := s.fld .mlSsGo 16 16
  if t.toNat < s.now.toNat + 320000 then (false, s.setFlag .mlStat 12 true)
  else (true, (s.mlSend 4 0 true [loW t, hiW t, toW tag]).sysstart t tag)

/-- ML_SS_GO (R294): SEND acts at the root. -/
def State.writeSsGo (s : State) (v : Word) : State :=
  let s := s.wr .mlSsGo (v &&& 0xFFFF0000)
  if getB v 0 && s.isRoot then s.startSystem.2 else s

def execSysstartSend (m : Master) (v : Word) (s : State) : Host.Outcome State Fault Refusal :=
  .next (s.access m .mlSsGo 0 0 (·.writeSsGo v))

/-- A SYSSTART frame arrives (R294). -/
def State.gotSysstart (s : State) (t : Stamp) (tag : Nat) : State :=
  (((s.wr .mlSsAtLo (loW t)).wr .mlSsAtHi (hiW t)).wr .mlSsGo (toW (tag * 65536))).sysstart t tag

def execSysstartReceive (start : Stamp) (tag : BitVec 16) (ts : Stamp) (s : State) : Host.Outcome State Fault Refusal :=
  .next (s.happens islMortar ts (fun s => s.flag .mlCtrl 0) (·.gotSysstart start tag.toNat))

/-! ## System locks -/

def lockOpCode : LockOp → Nat
  | .acquire => 0 | .wait => 1 | .release => 2
def lockOpOf (n : Nat) : LockOp := match n with | 0 => .acquire | 1 => .wait | _ => .release

/-- The payload of a LOCK frame: lock, operation (3: reply) and context; the result (DESIGN CHOICE, log entry 22). -/
def lockWords (k op x res : Nat) : List Word := [toW (k + op * 256 + x * 65536), toW res]

/-- A reply of the root reaches its context: the result of LOCK, and the grant of a lock held here (R185, R295). -/
def State.lockReply (s : State) (k x res : Nat) : State :=
  let wanted := (s.ctx x).mons.any (fun m => m.kind == 5 && m.arg == 256 + k) || (s.ctx x).out.any (fun r => r.sysLock == some k)
  let s := if res = 1 ∧ !s.flag .mlCtrl 1 ∧ wanted then s.wr .mlSlockOwner (toW (s.devNum + x * 65536 + 2 ^ 31)) k else s
  s.onCtx x (fun c => { c with out := c.out.map (fun r =>
    if r.sysLock = some k then { r with regs := r.regs.map (fun (g, _) => (g, toW res)), sysLock := none } else r) })

/-- The root answers device dev. -/
def State.answerLock (s : State) (k dev x res : Nat) : State :=
  if dev = s.devNum then s.lockReply k x res else s.mlSend 5 dev false (lockWords k 3 x res)

def State.slockWaiters (s : State) (k : Nat) : List (Nat × Nat) := s.slockQ.at [] k

/-- The root grants a free lock to the first waiter (R295). -/
def State.grantNext (s : State) (k : Nat) : State :=
  match s.slockWaiters k with
  | [] => s.clr .mlSlockOwner k
  | (dev, x) :: r =>
    let s := { s with slockQ := s.slockQ.set [] k r }
    (s.wr .mlSlockOwner (toW (dev + x * 65536 + 2 ^ 31)) k).answerLock k dev x 1

/-- The order of two requests for a system lock in one root fabric cycle (R295): the device, then the context (R146). -/
def slockRank (dev x : Nat) : Nat := dev * 256 + (if x % 32 = 0 then x / 32 else 5 + x)

/-- The lock, device and context of a command that brings a request to acquire a system lock, and its instant (R295). -/
def slockAsk (c : Instr) : Option (Nat × Nat × Nat × Stamp) :=
  match c with
  | .systemLockRequest l op dev x ts => if op == .release then none else some (l, dev, x, ts)
  | .frameReceive _ f ts =>
    let w := f.frame.payload.getD 0 0
    if f.frame.ty = 5 ∧ getF w 8 2 < 2 then some (getF w 0 6, f.frame.src, getF w 16 7, ts) else none
  | _ => none

/-- A request of the same root fabric cycle that waits to be decided goes first (R295, R298). -/
def State.slockLost (s : State) (k dev x : Nat) : Bool :=
  s.pending.any (fun c =>
    match slockAsk c with
    | some (l, d, y, ts) => l == k && decide (slockRank d y < slockRank dev x ∧ fabCycle ts ≤ s.fabNow)
    | none => false)

/-- The root serves a request for system lock k (R295). -/
def State.serveLock (s : State) (k : Nat) (op : LockOp) (dev x : Nat) : State :=
  let mine := s.rd .mlSlockOwner k == toW (dev + x * 65536 + 2 ^ 31)
  let free := !s.flag .mlSlockOwner 31 k
  match op with
  | .release =>
    if mine then s.grantNext k
    else if (s.slockWaiters k).contains (dev, x) then
      { s with slockQ := s.slockQ.set [] k ((s.slockWaiters k).filter (fun p => p ≠ (dev, x))) }
    else ((s.bumpW .lockStat 0 16).setFld .lockStat 16 8 k).setFld .lockStat 24 2 2
  | .acquire =>
    if mine then s.answerLock k dev x 1
    else if free && !s.slockLost k dev x then (s.wr .mlSlockOwner (toW (dev + x * 65536 + 2 ^ 31)) k).answerLock k dev x 1
    else s.answerLock k dev x 0
  | .wait =>
    if mine then s.answerLock k dev x 1
    else if free && !s.slockLost k dev x then (s.wr .mlSlockOwner (toW (dev + x * 65536 + 2 ^ 31)) k).answerLock k dev x 1
    else if (s.slockWaiters k).contains (dev, x) then s
    else { s with slockQ := s.slockQ.set [] k (s.slockWaiters k ++ [(dev, x)]) }

/-- SYSTEM_LOCK_REQUEST (R295): a request reaches the root. -/
def execSystemLockRequest (lock : Fin 64) (op : LockOp) (dev : Fin 512) (x : Fin 128) (ts : Stamp) (s : State) :
    Host.Outcome State Fault Refusal :=
  .next (s.happens islMortar ts (fun s => s.isRoot) (·.serveLock lock op dev x))

/-- A path to the root exists (R295). -/
def State.rootPath (s : State) : Bool := s.isRoot || (s.joined && s.uplink.isSome)

/-- A context of this device asks for a system lock: at the root at once, else by a LOCK frame (R295). Without a path a
LOCK is answered 0 and an UNLOCK ignored. -/
def State.askLock (s : State) (k : Nat) (op : LockOp) (x : Nat) : State :=
  if s.isRoot then s.serveLock k op s.devNum x
  else if !s.rootPath then (match op with | .acquire => s.lockReply k x 0 | _ => s)
  else
    let s := if op = .release ∧ s.fld .mlSlockOwner 16 7 k = x then s.clr .mlSlockOwner k else s
    s.mlSend 5 (s.fld .mlStat 16 9) false (lockWords k (lockOpCode op) x 0)

/-- DEVICE_LOST (R295): the root releases the device's locks, and the record goes out as a FAULT frame. -/
def execDeviceLost (dev : Fin 512) (ts : Stamp) (s : State) : Host.Outcome State Fault Refusal :=
  .next (s.happens islMortar ts (fun s => s.isRoot) (fun s =>
    let q := (List.range 64).foldl (fun m k => SMap.set [] m k ((SMap.at [] m k).filter (fun p => p.1 ≠ dev.val))) s.slockQ
    let s := { s with slockQ := q }
    let s := s.each ((List.range 64).filter (fun k => s.flag .mlSlockOwner 31 k && s.fld .mlSlockOwner 0 9 k == dev.val)) State.grantNext
    (s.setRoute dev none).fault 0x0F 139 0 true 0 (toW dev.val) 0))

/-! ## Messages, peer mailboxes, fault notices -/

/-- A MSG is queued, or dropped (R295). -/
def State.gotMsg (s : State) (k dev code : Nat) (v : Word) : State :=
  if 16 ≤ s.msgQ.length then s.mlDrop k else ({ s with msgQ := s.msgQ ++ [(code, dev, v)] }).linkEvent k 5

def execMsgReceive (k : Fin 4) (dev : Fin 512) (code : Byte) (payload : Word) (ts : Stamp) (s : State) :
    Host.Outcome State Fault Refusal :=
  .next (s.happens islMortar ts (fun s => s.flag .mlCtrl 0) (·.gotMsg k dev code.toNat payload))

/-- ML_MSGQ_HDR and ML_MSGQ_VAL. -/
def State.msgHdr (s : State) : Word :=
  match s.msgQ with
  | [] => 0
  | (c, d, _) :: _ => toW (c % 256 + d * 256 + s.msgQ.length * 2 ^ 24 + 2 ^ 31)
def State.msgVal (s : State) : Word := match s.msgQ with | [] => 0 | (_, _, v) :: _ => v

def State.popMsg (s : State) : State := { s with msgQ := s.msgQ.drop 1 }
def execMlMsgqPop (m : Master) (s : State) : Host.Outcome State Fault Refusal :=
  .next (s.access m .mlMsgqPop 0 0 State.popMsg)

/-- The peer that a PMB register names: device and index. -/
def peerOf (w : Word) : Nat × Nat := (getF w 0 9, getF w 10 2)

/-- An MBOX frame is taken, from link `link` (R296, R298). -/
def State.gotBox (s : State) (link : Nat) (f : PeerFrame) : State :=
  let k := f.dstIdx.val
  let own := peerOf (s.rd .mlPmbDst k) == (f.dev.val, f.srcIdx.val)
  match f.op with
  | .data ws =>
    if peerOf (s.rd .mlPmbSrc k) ≠ (f.dev.val, f.srcIdx.val) then
      (s.mlDrop link).mlSend 6 f.dev false [boxHead f.srcIdx k 2 0]
    else if s.go (36 + k) then s.answerBox k 2
    else
      let s := (ws.take 16).zipIdx.foldl (fun s (w, i) => s.wr .mbData w (36 + k) i) s
      (s.setGo (36 + k)).answerBox k 1
  | .ack => if own && s.go (40 + k) then s.clearGo (40 + k) else s
  | .full => s
  | .free => if own && s.go (40 + k) then s.sendBox k else s

def execPeerMboxReceive (f : PeerFrame) (ts : Stamp) (s : State) : Host.Outcome State Fault Refusal :=
  .next (s.happens islMortar ts (fun s => s.flag .mlCtrl 0) (fun s => s.gotBox (((s.routeOf f.dev).orElse (fun _ => s.uplink)).getD 0) f))

/-- A fault notice is kept (R298, ML_FN_LAST). -/
def State.gotFault (s : State) (k dev kind : Nat) (time : Word) : State :=
  ((s.wr .mlFnLast (toW (dev + kind % 256 * 65536))).wr .mlFnTime time).linkEvent k 4

def execFaultNoticeReceive (k : Fin 4) (dev : Fin 512) (kind : Byte) (time : Word) (s : State) :
    Host.Outcome State Fault Refusal :=
  .next (if s.flag .mlCtrl 0 then s.gotFault k dev kind.toNat time else s)

/-! ## Frames -/

/-- A LOG frame's records, four words each (R245). -/
def State.gotLog (s : State) (dev : Nat) : List Word → State
  | w0 :: w1 :: _ :: v :: r =>
    (s.offer 7 (dev + getF w0 0 17 * 512) v 0 (nearStamp s.now w1.toNat (getF w0 26 4))).gotLog dev r
  | _ => s

/-- A frame for this device is acted on (R291). -/
def State.accept (s : State) (k : Nat) (f : MFrame) : State :=
  let w (i : Nat) : Word := f.payload.getD i 0
  match f.ty with
  | 0 =>
    let s := (s.setFld .mlLstat 4 9 (getF (w 0) 0 9) k).setFld .mlLstat 13 4 (getF (w 0) 10 4) k
    s.onLink k (fun l => { l with peerRole := getF (w 0) 14 2, peerRoot := getB (w 0) 9, peerJoined := getB (w 0) 16 })
  | 1 => s.delayExchange k (stampOf (w 0) (w 1)) (stampOf (w 2) (w 3))
  | 3 =>
    s.each ((List.range s.domains).filter (fun d => s.flag .domCtrl 0 d && s.mirror d && s.fld .domMirror 0 9 d == f.src &&
      s.fld .domMirror 16 4 d == getF (w 0) 10 4)) (fun s d => s.angleMessage d (w 0) (w 1) (w 2) (w 3))
  | 4 => s.gotSysstart (stampOf (w 0) (w 1)) (getF (w 2) 0 16)
  | 5 =>
    let x := getF (w 0) 16 7
    let l := getF (w 0) 0 6
    if getF (w 0) 8 2 = 3 then s.lockReply l x (w 1).toNat
    else if s.isRoot then s.serveLock l (lockOpOf (getF (w 0) 8 2)) f.src x
    else s
  | 6 =>
    let h := w 0
    let op : PeerOp := match getF h 16 2 with | 0 => .data (f.payload.drop 1) | 1 => .ack | 2 => .full | _ => .free
    s.gotBox k { dev := Fin.ofNat 512 f.src, srcIdx := Fin.ofNat 4 (getF h 8 2), dstIdx := Fin.ofNat 4 (getF h 0 2), op := op }
  | 7 => s.gotMsg k f.src (getF (w 0) 0 8) (w 1)
  | 8 => s.gotLog f.src f.payload
  | 9 => s.gotFault k (getF (w 0) 0 9) (getF (w 1) 0 8) (w 2)
  | _ => s

/-- A good frame from link k (R278, R283): discarded, delivered, forwarded. A JOIN teaches the route of its sender. -/
def State.gotFrame (s : State) (k : Nat) (f : MFrame) : State :=
  if 11 ≤ f.ty ∨ 9 ≤ f.hops then s.mlDrop k
  else
    let peer := f.ty = 0 ∨ f.ty = 1 ∨ f.ty = 10
    let on := { f with hops := f.hops + 1 }
    if peer then s.accept k f
    else if f.bcast then (if f.src = s.devNum then s else (s.mlRoute on (some k)).accept k f)
    else
      let w := f.payload.getD 2 0
      let s := if f.ty = 2 ∧ s.role k = 1 ∧ (!getB w 16 ∨ s.routeOf (getF w 0 9) = some k) then
          s.setRoute (getF w 0 9) (if getB w 16 then none else some k)
        else s
      if f.dst = s.devNum ∨ (f.ty = 2 ∧ s.isRoot) ∨ (f.ty = 5 ∧ s.isRoot ∧ f.dst ≠ f.src ∧ s.routeOf f.dst = none) then s.accept k f
      else s.mlRoute on (some k)

/-- FRAME_RECEIVE (R279): good and in sequence, and acknowledged, or discarded and NAKed from the number awaited. -/
def execFrameReceive (k : Fin 4) (f : RxFrame) (ts : Stamp) (s : State) : Host.Outcome State Fault Refusal :=
  .next (s.happens islMortar ts (fun s => s.linkUp k) (fun s =>
    let l := s.link k
    if f.crc == frameCrc f.frame && f.seq.toNat == l.rxSeq && decide (f.frame.payload.length ≤ 18) then
      (s.setLink k { l with lastTx := s.now, rxSeq := (l.rxSeq + 1) % 256, answer := some (false, f.seq.toNat) }).gotFrame k f.frame
    else ((s.setLink k { l with lastTx := s.now, answer := some (true, l.rxSeq) }).bumpW .mlCnt0 0 16 k).linkEvent k 3))

/-! ## Registers -/

/-- A Mortar register written; a write with a reserved encoding, or while what it names is enabled, is dropped. -/
def State.writeMl (s : State) (k : RegKey) (v : Word) : State :=
  match k.name with
  | .mlCtrl => s.writeMlCtrl v
  | .mlDev => if s.flag .mlCtrl 0 then s else s.wr .mlDev (v &&& 0x1FF)
  | .mlStat => if getB v 12 then s.setFlag .mlStat 12 false else s
  | .mlHold => if decide (1 ≤ getF v 0 10 ∧ getF v 0 10 ≤ 1000) then s.wr .mlHold (v &&& 0x3FF) else s
  | .mlSsGo => s.writeSsGo v
  | .mlMsgqPop => if getB v 0 then s.popMsg else s
  | .mlPmbDst => if s.go (40 + k.i) then s else s.wr .mlPmbDst (v &&& 0xDFF) k.i
  | .mlEvt => s.wr .mlEvt (s.rd .mlEvt k.i &&& ~~~v) k.i
  | .mlLctrl =>
    let old := s.rd .mlLctrl k.i
    if getF v 1 2 = 3 ∨ getF v 4 2 = 3 ∨ (getB old 0 ∧ getF old 1 2 ≠ getF v 1 2) then s
    else
      let s := s.wr .mlLctrl (v &&& 0x37) k.i
      if getB old 0 && !getB v 0 then s.dropLink k.i else s
  | n => s.wr n ((s.rd n k.i k.j &&& ~~~(toW n.row.rw)) ||| (v &&& toW n.row.rw)) k.i k.j

end Sys2Proof.Machine
end

