-- ==== Sys2Proof/Machine/Context.lean ====
section
/-! DEFINITION. The life of a context (07, 08): start, stop, locks and entries let go, and the state that ENG_STAT shows. -/

namespace Sys2Proof.Machine

/-- PROG[31] (R178, R187). -/
def State.long (s : State) (x : Nat) : Bool := getB (s.ctx x).prog 31

/-- What a write of v leaves in CTX_CTRL: CEIL takes only the values of R209; the class of local contexts 0 to 2 stays, and that of
a task context which is loaded becomes only less urgent (R220). -/
def State.ctxCtrlNew (s : State) (x : Nat) (v : Word) : Word :=
  let l := x % 32
  let old := s.cf .ctxCtrl 4 2 x
  let legal := if l = 0 then getF v 6 2 == 0 else if l ≤ 2 then getF v 6 2 == 1 else getF v 6 2 == 1 || getF v 6 2 == 2
  let v := if legal then v else putF v 6 2 (s.ceil x)
  putF v 4 2 (if l ≤ 2 then old else if s.ctxState x = 0 then getF v 4 2 else max old (getF v 4 2))

/-- A start (R169): READY, from CTX_ENTRY. -/
def State.startCtx (s : State) (x : Nat) : State :=
  let s := s.each (List.range 16) (fun s r => { s with gpr := s.gpr.set 0 (16 * x + r) 0 })
  let s := s.setCtx x {
    pc := s.cr .ctxEntry x
    sp := s.cr .dataBase x + s.cr .dataSize x
    psw := toW (s.ceil x * 16 + 0x1000) }
  s.setCtxState x 2

/-- The kind a context waits on, CTX_STAT.WKIND. -/
def State.wkind (s : State) (x : Nat) : Nat :=
  if s.ctxState x ≠ 3 then 15
  else match s.monHere x with | some m => m.kind | none => 14

/-- CTX_STAT (R190). -/
def State.ctxStatView (s : State) (x : Nat) : Word :=
  let w := putF (s.cr .ctxStat x) 4 4 (s.wkind x)
  let w := putB w 8 (s.long x)
  let w := putB w 9 (decide (s.ilvl x < 16))
  putF w 12 4 (s.ctx x).evq.length

/-- ENG_STAT (R194): the contexts that are ready in the sense of R165, and those that wait. -/
def State.engStatView (s : State) (e : Nat) : Word :=
  let n (f : Nat → Bool) := ((List.range 32).filter (fun l => f (ctxOf e l))).length
  let ready (x : Nat) := s.readyBut x && s.admitted e (s.cf .ctxCtrl 4 2 x) && decide ((s.ctx x).readyAt.toNat ≤ s.now.toNat)
  toW (n ready + n (s.ctxState · == 3) * 256 + b2n (s.halted e) * 65536)

/-- Every lock of a context is released, local and system (R192, R337). -/
def State.freeLocks (s : State) (x : Nat) : State :=
  let s := s.each (s.locksOf x) State.freeLock
  s.each ((List.range 64).filter (fun k => s.flag .mlSlockOwner 31 k && s.fld .mlSlockOwner 0 9 k == s.devNum &&
    s.fld .mlSlockOwner 16 7 k == x)) (fun s k => s.askLock k .release x)

/-- Every entry of a context in every domain is flushed, with FLUSH_ON_STOP (R192, R159). -/
def State.flushOwn (s : State) (x : Nat) : State :=
  if s.cf .ctxCtrl 8 1 x = 1 then
    s.each (List.range s.domains) (fun s d =>
      s.each ((s.entriesOf d).filter (fun i => s.cancellable i && s.eOwner i == x)) (·.cancelEntry ·))
  else s

/-- What a stop or a fault ends (R192, R205): WAIT, TRAP, the outstanding answer, locks, and with FLUSH_ON_STOP entries. A
WAIT LOCK on a system lock leaves the root's queue. -/
def State.endWork (s : State) (x : Nat) : State :=
  let waits := ((s.ctx x).mons.filter (fun m => m.kind == 5 && decide (256 ≤ m.arg))).map (fun m => m.arg - 256)
  let s := s.each waits (fun s k => if k < 64 then s.askLock k .release x else s)
  let s := s.onCtx x (fun c => { c with mons := [], out := none, traps := [] })
  let s := (s.freeLocks x).flushOwn x
  s.completeAll x

/-- The stop itself (R192). -/
def State.stopNow (s : State) (x : Nat) : State :=
  let s := s.endWork x
  (s.onCtx x (fun c => { c with evq := [], stopping := false, fault := none, prog := 0 })).setCtxState x 1

/-- The states in which CTX_STOP is legal (R190). -/
def stoppable (st : Nat) : Bool := st == 2 || st == 3 || st == 4 || st == 5
/-- The states in which CTX_START is legal. -/
def startable (st : Nat) : Bool := st == 1 || st == 4

/-- CTX_CMD.START and STOP as Keystone writes them: a stop waits for an outstanding reply (R192). -/
def State.ctxCmd (s : State) (x : Nat) (start stop : Bool) : State :=
  let s := if start && startable (s.ctxState x) then s.startCtx x else s
  if stop && stoppable (s.ctxState x) then
    (if (s.ctx x).out.isSome then s.onCtx x (fun c => { c with stopping := true }) else s.stopNow x)
  else s

/-- A write of CTX_CMD: Keystone's only (R194). -/
def execCtxCmdStart (m : Master) (x : Fin 128) (s : State) : Host.Outcome State Fault Refusal :=
  .next (s.access m .ctxCmd (x / 32) (x % 32) (·.ctxCmd x true false))
def execCtxCmdStop (m : Master) (x : Fin 128) (s : State) : Host.Outcome State Fault Refusal :=
  .next (s.access m .ctxCmd (x / 32) (x % 32) (·.ctxCmd x false true))

/-- CTX_STOP_EFFECT (R192): the reply that a stop waits for is discarded; that of a system lock comes from the root first (R295). -/
def execCtxStopEffect (x : Fin 128) (ts : Stamp) (s : State) : Host.Outcome State Fault Refusal :=
  .next (s.happens (islEngine (x / 32)) ts (fun s => (s.ctx x).stopping && (s.ctx x).out.all (·.sysLock.isNone)) (·.stopNow x))

end Sys2Proof.Machine
end

