-- ==== Sys2Proof/Machine/Masking.lean ====
section
/-! DEFINITION. Fault masking of tiles and memories, the fault record's acknowledgement, reset and start (16, 17). -/

namespace Sys2Proof.Machine

/-! ## Spare tiles -/

/-- A physical tile is marked in the start record: EXCL (R371). -/
def State.excluded (s : State) (p : Nat) : Bool := s.flag .startRec (p % 32) (12 + p / 32)
def State.exclude (s : State) (p : Nat) : State := s.setFlag .startRec (p % 32) true (12 + p / 32)

/-- The lowest spare that holds no place and is not marked (R370). -/
def State.freeSpare (s : State) : Option Nat :=
  ((List.range s.spareTiles).map (64 + ·)).find? (fun p =>
    !s.excluded p && (List.range s.tiles).all (fun t => s.spares.at none t != some p))

/-- FLT_SPARE.TILES_FREE. -/
def State.spareCount (s : State) : Nat :=
  (((List.range s.spareTiles).map (64 + ·)).filter (fun p =>
    !s.excluded p && (List.range s.tiles).all (fun t => s.spares.at none t != some p))).length

/-- No spare is free: the tile becomes FAILED (R371, R152). -/
def State.failTile (s : State) (t : Nat) : State :=
  let phys := s.physTile t
  let s := { s.exclude phys with switching := s.switching.set none t none }
  let s := s.withUnit t (·.setFailed t)
  let s := (s.setFlag .tileStat 11 false t).barTile t 11
  let s := s.openPads (s.tilePins t)
  (s.fault 0x06 t phys true 0 0 0).syncTile t

/-- TILE_SPARE (R368, R370 to R372): the copies of tile t disagree, or its Drone copy has strayed, which has its own record. -/
def State.spareTile (s : State) (t : Nat) : State :=
  let s := match s.stray.at none t with
    | some (t0, d) => s.fault 0x0C t (s.physTile t) false ((s.now.toNat - t0.toNat) / 16) (intW d) 0 (some t0)
    | none => s
  match s.freeSpare with
  | none => s.failTile t
  | some p =>
    let again := (s.switching.at none t).isSome
    let s := (s.exclude (s.physTile t))
    let s := if again then s else (s.closePads (s.tilePins t)).setFlag .tileStat 11 true t
    let s := { s with
      spares := s.spares.set none t (some p), stray := s.stray.set none t none
      switching := if again then s.switching else s.switching.set none t (some s.now) }
    let s := s.setFld .fltSpare 0 2 s.spareCount
    let s := if s.spareCount = 0 then s.fltEvent 3 else s
    s.syncTile t

def execTileSpare (t : Fin 64) (ts : Stamp) (s : State) : Host.Outcome State Fault Refusal :=
  .next (s.happens islMaster ts
    (fun s => decide (t.val < s.tiles ∧ s.pstate < 2) && !s.isFailed t && !s.flag .pmBank 2 (t / 8)) (·.spareTile t))

/-- The spare's Drone copy is loaded and its vernier calibrated (R370); what DRONE_ISL_t and DRONE_VERN_t counted of the tile that
left is gone (02, note at DRONE_VERN_t). The delay code that the spare's own calibration finds is a free value. -/
def State.spareClock (s : State) (t : Nat) : State :=
  let s := (s.loadCopy t).wr .droneIsl 0 t
  let v := putB (toW (Config.freeNs s.freeCtr % 256)) 8 true
  (s.drawn).wr .droneVern (putB v 9 (s.flag .droneVern 9 t)) t

/-- SPARE_RELEASE (R370): h1, at a Drone nanosecond; the pads open and the spare runs. The record names the physical tile
that was replaced. -/
def execSpareRelease (t : Fin 64) (ts : Stamp) (s : State) : Host.Outcome State Fault Refusal :=
  .next (s.happens islMaster ts (fun _ => decide (ts.toNat % 16 = 0)) (fun s =>
    match s.switching.at none t with
    | none => s
    | some h0 =>
      let s := { s with switching := s.switching.set none t none, holdSpan := s.holdSpan.set none t (some (h0, ts)) }.spareClock t
      let s := (s.openPads (s.tilePins t)).setFlag .tileStat 11 false t
      let s := (s.setFlag .tileStat 9 true t).setFlag .unitState 3 true t
      let s := s.syncTile t
      s.fault 0x05 t t false ((ts.toNat - h0.toNat) / 16) 0 (toW (s.physTile t)) (some h0)))

/-! ## Scrubbing -/

/-- The order in which the scrubber reads the memories, and the codes of DETAIL_B (DESIGN CHOICE, log entry 26). -/
def memCode : GuardedMem → Nat
  | .taskMemory => 1 | .calendarEntry => 2 | .catalogueEntry => 3 | .logStore => 4 | .portScript p => 5 + p.val
  | .golden e => 37 + e.val | .faultStore => 41 | .governorTable => 42

/-- The unit that owns a memory. -/
def memUnit : GuardedMem → Nat
  | .calendarEntry => 136 | .catalogueEntry | .logStore => 137 | .portScript p => 84 + p.val | .golden e => 80 + e.val
  | .governorTable => 138 | _ => 255

/-- An uncorrectable calendar entry is freed, with a record LATE, FAILED and generation 0 (R367). -/
def State.lostEntry (s : State) (idx : Nat) : State :=
  let s := if s.ePhase idx = 3 ∨ s.ePhase idx = 4 then s.clearSlot (s.fld .entryW7 0 6 idx) (s.fld .entryW7 6 4 idx)
    (s.nextNs (s.fld .entryW7 0 6 idx)) else s
  match s.partOf idx with
  | none => s
  | some d =>
    let w0 := toW (idx + d * 2 ^ 16 + 3 * 2 ^ 20 + 11 * 2 ^ 24)
    let e := s.clock islFabric
    (s.putRecord d 3 [w0, ns32 e, toW (fineOf e * 65536), 0]).freeEntry idx

/-- An uncorrectable log word: the records from it up to the next MARK are skipped by the drain and counted (R367). -/
def State.lostLog (s : State) (idx : Nat) : State :=
  let off := 4 * idx
  let z := s.logZ
  let hit := fun (r : Nat × Nat × Stamp) => decide (r.1 % z ≤ off ∧ off < r.1 % z + r.2.1)
  let isMark := fun (r : Nat × Nat × Stamp) =>
    let w := s.logMem.word (r.1 % z)
    !getB w 17 && getF w 18 3 == 2
  let before := s.logRecs.takeWhile (fun r => !hit r)
  let rest := s.logRecs.drop before.length
  let skip := match rest with | [] => [] | r :: q => r :: q.takeWhile (fun r => !isMark r)
  let s := { s with logRecs := before ++ rest.drop skip.length }
  s.bump .logCntMisc 0 16 0 0 skip.length

/-- A word of the golden copy of engine e by its address, 8,192 added for a dispatch entry. -/
def goldenKey (e addr : Nat) : Nat := 16384 * e + addr

/-- An uncorrectable golden word: GOLDEN_OK clears, and Keystone rebuilds the word from the golden copy of another engine of equal
digest; where there is none, it is lost until it is written (R213, R367). -/
def State.lostGolden (s : State) (e addr : Nat) : State :=
  let twin := (List.range s.engines).find? (fun f =>
    f != e && s.rd .csDigest f == s.rd .csDigest e && !s.goldenLost.contains (goldenKey f addr))
  let s := s.setFlag .csStat 0 false e
  match twin with
  | some f =>
    if addr < 8192 then { s with golden := s.golden.set [] (8192 * e + addr) (s.golden.at [] (8192 * f + addr)) }
    else { s with goldenDispatch := s.goldenDispatch.set none (256 * e + addr % 256) (s.goldenDispatch.at none (256 * f + addr % 256)) }
  | none => { s with goldenLost := insertRising (goldenKey e addr) s.goldenLost }

/-- The scrubber has read golden word `addr` whole: GOLDEN_OK once no word of the copy is lost. -/
def State.goodGolden (s : State) (e : Nat) : State :=
  s.setFlag .csStat 0 (s.goldenLost.all (fun k => k / 16384 != e)) e

/-- A word is found uncorrectable (R367). -/
def State.uncorrectable (s : State) (mem : GuardedMem) (idx : Nat) : State :=
  let s := s.lostWord (memUnit mem) (memCode mem) idx
  match mem with
  | .taskMemory => { s with badTm := insertRising (4 * (idx % 0x100000)) s.badTm }
  | .calendarEntry => s.lostEntry (idx % 8192)
  | .catalogueEntry => (s.setFld .catW0 0 4 0 (idx % 131072)).logCfgErr (idx % 131072) 0
  | .logStore => s.lostLog idx
  | .portScript p => { s with badScript := insertRising (256 * p.val + idx % 256) s.badScript }
  | .golden e => s.lostGolden e (idx % 8448)
  | _ => s

/-- SCRUB_READ (R366, R367): word `idx` of a memory, in a cycle nobody else asked for. A read that does not lie after the
last one begins a new pass (DEDUCED, log entry 26). -/
def execScrubRead (mem : GuardedMem) (idx : Nat) (outcome : ScrubOutcome) (ts : Stamp) (s : State) :
    Host.Outcome State Fault Refusal :=
  .next (s.happens islMaster ts (fun _ => true) (fun s =>
    let (m, i) := s.scrubPos
    let pos := (memCode mem, idx)
    let fresh := decide (pos.1 < m ∨ (pos.1 = m ∧ idx ≤ i))
    let s := if fresh then { (s.bumpW .fltMem 24 8).wr .fltScrub (ns32 ts) with passCorr := 0 } else s
    let s := { s with scrubPos := pos }
    let s := match mem with | .golden e => if outcome = .uncorrectable then s else s.goodGolden e | _ => s
    match outcome with
    | .good => s
    | .corrected =>
      let s := { s.bumpW .fltMem 0 16 with passCorr := s.passCorr + 1 }
      if s.passCorr = s.fld .fltMemLim 0 16 + 1 then s.fltEvent 7 else s
    | .uncorrectable => s.uncorrectable mem idx))

/-! ## Acknowledging records -/

/-- FLT_ACK and FAULT_ACK: the highest index acknowledged; a lower value is ignored (R374). -/
def State.ackFault (s : State) (v : Word) : State :=
  if v.toNat + 1 ≤ s.fltAcked then s else ({ s with fltAcked := v.toNat + 1 }.wr .fltAck v).fltRefresh

def execFltAckWrite (m : Master) (v : Word) (s : State) : Host.Outcome State Fault Refusal :=
  .next (s.access m .fltAck 0 0 (·.ackFault v))

/-! ## Reset -/

/-- The registers that a reset keeps: the start record, the wake watcher and alarm, the epoch (always-on), and the
calibration page (MRAM). -/
def keptReg (k : RegKey) : Bool :=
  k.name == .startRec || k.name == .wwStat || k.name == .wwSlot || k.name == .govAoAlarm || k.name == .droneEpoch ||
    k.name == .calPage

/-- The whole device resets (R389): the always-on domain, fuses, MRAM and the world outside stay; WW_STAT.RESET tells of a
low-power state that was ended. -/
def State.resetDevice (s : State) : State :=
  let low := decide (1 ≤ s.pstate)
  let s' : State := { State.reset with
    variant := s.variant, ownerKey := s.ownerKey, ownerSign := s.ownerSign
    regs := s.regs.filter (fun e => keptReg e.1)
    pinIn := s.pinIn, lines := s.lines, hostMem := s.hostMem, scratch := s.scratch, freeCtr := s.freeCtr, pending := s.pending
    clrStrat := s.clrStrat, imageDigest := s.imageDigest, flashQuad := s.flashQuad
    hostLink := if s.hostLink = .reset then .reset else .training }
  let s' := s'.each (List.range 8) (fun r k => r.setFlag .pmBank 1 (s.flag .pmBank 1 k) k)
  if low then s'.setFlag .wwStat 17 true else s'

/-- NRESET_ASSERT (R389): a low pulse of `ns`. Between 1 µs and 10 µs it is open whether it resets: a free value. -/
def execNresetAssert (ns : Nat) (s : State) : Host.Outcome State Fault Refusal :=
  .next (if ns < 1000 then s
    else if 10000 ≤ ns then s.resetDevice
    else if Config.freeNs s.freeCtr % 2 = 0 then s.drawn else s.drawn.resetDevice)

/-- VDD_BROWNOUT (R389): VDD below 0.74 V for `ns`. -/
def execVddBrownout (ns : Nat) (s : State) : Host.Outcome State Fault Refusal :=
  .next (if ns < 1000 then s else s.resetDevice)

/-- VDD_AO_LOSS (R389, R375): the always-on domain is lost, and the start record fails its check at the next S1. -/
def execVddAoLoss (s : State) : Host.Outcome State Fault Refusal :=
  .next { s with
    regs := s.regs.filter (fun e => !(keptReg e.1 && e.1.name != .calPage) && e.1.name != .govAoCnt)
    scratch := [], clrStrat := false, imageDigest := 0, flashQuad := false, aoEntry := 0 }

/-! ## The start record -/

/-- CRC-16 of the record, polynomial 0x1021, seed 0xFFFF, over bytes 0 to 61 (16, start record). -/
def State.recCrc (s : State) : Nat :=
  let bytes := (List.range 62).map (fun i => byteOf (s.rd .startRec (i / 4)) (i % 4))
  crcMsb 16 0x1021 0xFFFF (bytes.flatMap (fun b => bitsMsb 8 b.toNat))

/-- The record's CRC follows its words. -/
def State.sealRec (s : State) : State := s.setFld .startRec 16 16 s.recCrc 15

/-- The record passes its check at S1. -/
def State.recGood (s : State) : Bool := s.fld .startRec 16 16 15 == s.recCrc

def State.stepF (s : State) (st lo len : Nat) : Nat := s.fld .startRec lo len (st + 1)

/-- The strategy that step `st` of n strategies begins with (R376): a step that did not run in the last start keeps the one that
served it before, S4's strategy 2 never carries over, and a step whose last one failed begins anew (DEDUCED, log entry 27). -/
def State.firstStrategy (s : State) (st n : Nat) : Nat :=
  let last := s.stepF st 12 4
  let b := match s.stepF st 8 4 with
    | 2 | 5 => last + 1
    | 0 => 0
    | _ => last
  if n ≤ b ∨ (st = 4 ∧ last = 2) then 0 else b

/-- A step noted in the record: tries, outcome, strategy, detail. -/
def State.noteStep (s : State) (st tries outcome strategy detail : Nat) : State :=
  let w := s.rd .startRec (st + 1)
  let s := s.wr .startRec (toW (satNat 8 (getF w 0 8 + tries) + outcome * 2 ^ 8 + strategy * 2 ^ 12 + detail % 65536 * 2 ^ 16)) (st + 1)
  s.setFld .startRec 16 4 st 0

/-- What CLR_STRAT asked for takes effect as a start begins: every step at strategy 0 (R376). -/
def State.clearStrategies (s : State) : State :=
  if s.clrStrat then (s.each (List.range 10) (fun s k => s.setFld .startRec 8 8 0 (k + 2))) |> fun s => { s with clrStrat := false }
  else s

/-- The first strategy from b on, of n, that succeeds. -/
def firstGood (outs : List Bool) (b n : Nat) : Option Nat :=
  ((List.range n).filter (fun i => decide (b ≤ i))).find? (fun i => outs.getD i false)

/-- START_HALTED at a step (R375): nothing runs, ALERT# is asserted. -/
def State.haltStart (s : State) : State :=
  let s := s.setFld .startRec 20 2 1 0
  let s := s.setFld .startRec 16 16 (satNat 16 (s.fld .startRec 16 16 1 + 1)) 1
  (s.setFlag .startFeed 0 false).sealRec

/-- The device is in START_HALTED. -/
def State.startHalted (s : State) : Bool := s.fld .startRec 20 2 0 == 1

/-- An alternate strategy or a mark: record START_STRATEGY with the step and the strategy (R373). -/
def State.noteAlternate (s : State) (st strategy : Nat) : State := s.fault 0x16 255 0 false 0 (toW st) (toW strategy)

/-- A step with plain strategies: the state after it, and the strategy that succeeded. -/
def State.plainStep (s : State) (st n : Nat) (outs : List Bool) (detail : Nat → Nat) : Option Nat × State :=
  let b := s.firstStrategy st n
  match firstGood outs b n with
  | none => (none, (s.noteStep st (n - b) 2 (n - 1) (detail (n - 1))).haltStart)
  | some i => (some i, s.noteStep st (i - b + 1) 1 i (detail i))

/-! ## The steps -/

/-- S2: the fuses (R28), and the level of each bank that has its supply (R388). -/
def State.loadFuses (s : State) (v33 : List Bool) : State :=
  let part := match s.variant with | .fj4_512 => 0x0512 | .fj4_384 => 0x0384 | .fj4_256 => 0x0256
  let s := (s.wr .sysId (toW (part + 0x4B040000))).wr .sysRev 0x100
  let s := s.wr .sysCaps0 (toW (s.tiles + s.spareTiles * 2 ^ 8 + s.domains * 2 ^ 16 + s.engines * 2 ^ 21 + s.ports * 2 ^ 24))
  let s := s.wr .sysCaps1 (toW (s.linkCount + b2n s.hasBridge * 8 + s.logSize / 0x100000 * 2 ^ 8 + (s.ports + 2) * 2 ^ 16 +
    29 * s.engines * 2 ^ 24))
  let s := s.wr .sysCaps2 (toW (17 + 13 * 32 + 4 * 2 ^ 16 + b2n s.ownerKey * 2 ^ 24 + b2n (s.ownerKey && s.ownerSign) * 2 ^ 25))
  let s := s.wr .sysCaps3 (toW (2 ^ s.courses - 1 + (2 ^ s.linkCount - 1) * 2 ^ 16))
  let s := { s with unsensed := (List.range s.courses).filter (fun k => !s.flag .pmBank 1 k) }
  s.each (List.range s.courses) (fun s k => s.setFlag .pmBank 0 (v33.getD k false && s.flag .pmBank 1 k) k)

/-- S5: what the image gives (R378). -/
def State.loadImage (s : State) (o : StartObs) : State :=
  s.each (List.range s.engines) (fun s e =>
    let s := (s.wr .csVer o.csVer e).wr .csPatch (toW (o.patchLevel.toNat + b2n o.flashPatch * 2 ^ 31)) e
    ((s.wr .csPatchId o.patchId e).wr .csDigest o.csDigest e).setFlag .csStat 0 true e)

/-- A calibration page of bytes loaded into the MRAM words. -/
def State.loadPage (s : State) (bytes : List Byte) : State :=
  if bytes.isEmpty then s
  else s.each (List.range 1024) (fun s i =>
    let b (j : Nat) : Byte := bytes.getD (4 * i + j) 0
    s.wr .calPage (wordOf (b 0) (b 1) (b 2) (b 3)) i)

/-- CRC-32 (IEEE 802.3) of the page's first 4,092 bytes. -/
def State.pageCrc (s : State) : Word :=
  let bits := (List.range 1023).flatMap (fun i => (List.range 32).map (fun b => getB (s.rd .calPage i) b))
  ~~~ toW (bitRev 32 (crcMsb 32 0x04C11DB7 0xFFFFFFFF bits))

/-- The calibration page is checked (R380): loaded, or replaced by defaults, which strategy 1 of S7 takes whatever the page holds.
From then on trims are in force (R33, R44). -/
def State.checkPage (s : State) (take : Bool := true) : State :=
  let ok := take && s.pageCrc == s.rd .calPage 1023
  let s := { (s.setFlag .droneStat 5 (!ok)).setFlag .calstat 0 ok with trimmed := true }
  let s := s.each (List.range s.tiles) (fun s t => s.setFlag .droneVern 9 (!ok) t)
  let s := s.each (List.range 8) (fun s i => s.setFlag .govTs 16 (!ok) i)
  let s := s.setFld .calstat 16 16 (if ok then s.fld .calPage 0 16 3 else 0)
  if ok then s else (s.fault 0x15 255 0 false 0 0 0).fltEvent 5

/-- S7: Keystone runs on local context 0 of every engine, class C0 (R220). -/
def State.startKeystone (s : State) (o : StartObs) : State :=
  let s := s.each (List.range s.engines) (fun s e =>
    let x := ctxOf e 0
    (((s.wr .csFwKs o.fwKs e).setCf .ctxCtrl 4 2 0 x).startCtx x))
  s.setFld .fltSpare 12 3 s.engines

/-- S8: places of physical tiles that fail are taken by spares in logical order; the rest become FAILED. -/
def State.mapSpares (s : State) (bad : List Nat) : State :=
  let s := s.each bad State.exclude
  let s := s.each ((List.range s.tiles).filter (bad.contains ·)) (fun s t =>
    match s.freeSpare with
    | some p => ({ s with spares := s.spares.set none t (some p) }.setFlag .unitState 3 true t).setFlag .tileStat 9 true t
    | none => (s.setFailed t).fault 0x06 t t true 0 0 0)
  let s := s.setFld .fltSpare 0 2 s.spareCount
  if s.spareCount = 0 ∧ s.spares.any (fun e => e.2.isSome) then s.fltEvent 3 else s

/-- The service firmware starts on local contexts 1 and 2, class C1 (R169, R238). -/
def State.restartService (s : State) : State :=
  s.each (List.range s.engines) (fun s e =>
    s.each [1, 2] (fun s l => (s.setCf .ctxCtrl 4 2 1 (ctxOf e l)).startCtx (ctxOf e l)))

/-- S10: the service firmware; the command channels are assigned to context 1 (DESIGN CHOICE, log entry 28), and the routes
of R347 are locked. -/
def State.startService (s : State) (o : StartObs) : State :=
  let s := (s.each (List.range s.engines) (fun s e => s.wr .csFwSvc o.fwSvc e)).restartService
  let assign (s : State) (b : Nat) : State := s.wr .mbCfg ((s.rd .mbCfg b &&& 0x1FF0000) ||| 0x81) b
  let route (s : State) (n : Nat) : State := (s.wr .intRoute 0x800F0100 n).setFlag .intEnSet (n % 32) true (n / 32)
  let s := s.each ((List.range 16).filter (fun k => s.flag .sysCmdMbox k)) (fun s k => route (assign (assign s k) (16 + k)) (148 + k))
  let s := s.each ((List.range 2).filter (fun j => s.flag .sysCmdMbox (16 + j))) (fun s j => route (assign (assign s (32 + j)) (34 + j)) (164 + j))
  let s := s.wr .intRoute 0x800F0005 210
  s.setFld .fltSpare 4 2 2

/-- Time passes in step Sk of a start: until the PLL locks in REFCLK edges, 640 fine ticks each, and after that in nanoseconds
(R30). -/
def State.startEdges (s : State) (o : StartObs) (k : Nat) : State := s.reach (s.now + toS (640 * o.edges.getD (k - 1) 0))
def State.startNs (s : State) (o : StartObs) (k : Nat) : State := s.reach (s.now + toS (16 * o.stepNs.getD (k - 3) 0))

/-- The end of a start that reaches READY (R375, R376). The record's TIME is the time since the count began, in whole 10 µs. -/
def State.ready (s : State) (mark : Bool) : State :=
  let s := s.setFld .startRec 20 2 0 0
  let s := s.setFld .startRec 0 16 (satNat 16 (s.now.toNat / 160000)) 15
  let s := if mark then s.fltEvent 4 else s
  s.sealRec

/-- S7 to S10, after an image has been accepted by strategy i of S5. The calibration page is tried first at every start (R380, log
entry 27); S9 has run before where the image was host-fed (R375). -/
def State.startTail (s : State) (o : StartObs) (warm : Bool) (i : Nat) (mark : Bool) : State :=
  let s := (((s.startNs o 6).noteStep 6 1 1 0 0).setFld .startRec 2 2 i 14).loadImage o
  let s := { s.setFlag .startFeed 0 false with subsys := o.subsys }
  let s := if warm then s else { s with imageDigest := o.digest }
  let s := s.startNs o 7
  match firstGood o.s7 0 2 with
  | none => (s.noteStep 7 2 2 1 0).haltStart
  | some k =>
    let s := ((s.startKeystone o).loadPage o.calTrims).checkPage (k == 0)
    let calOk := s.flag .calstat 0
    let s := (s.noteStep 7 (1 + b2n !calOk) 1 (b2n !calOk) 0).startNs o 8
    let bad := if warm then (List.range 66).filter s.excluded else (o.badTiles.map (·.val)).filter (fun p => decide (p < s.tiles ∨ (64 ≤ p ∧ p < 64 + s.spareTiles)))
    let s := if warm then s else ((s.wr .startRec 0 12).wr .startRec 0 13).setFld .startRec 0 2 0 14
    let alt8 := !bad.isEmpty
    let s := (s.mapSpares bad).noteStep 8 1 (if alt8 then 4 else 1) (b2n alt8) bad.length
    let s := { s.when (i != 2) (fun s => (s.startNs o 9).noteStep 9 1 1 0 0) with epUp := true }
    let (r, s) := (s.startNs o 10).plainStep 10 2 o.s10 (fun _ => 0)
    match r with
    | none => s
    | some j =>
      let s := s.startService o
      let s := if calOk then s else s.noteAlternate 7 1
      let s := if alt8 then s.noteAlternate 8 1 else s
      let s := if j = 0 then s else s.noteAlternate 10 j
      s.ready (mark || !calOk || alt8 || j != 0)

/-- S6 refuses the images that S5 fetches from strategy b on, up to the slot it accepts: its tries and its failure (R375, R378). -/
def State.noteRefused (s : State) (o : StartObs) (b : Nat) (till : Option Nat) : State :=
  let n := ((List.range (till.getD 2)).filter (fun i => decide (b ≤ i) && o.s5.getD i false)).length
  if n = 0 then s else s.noteStep 6 n 2 0 0

/-- S5 and S6: FL_RESET# is released (R398); flash slots, read in the quad profile where octal discovery fails or VDDIO_S is at
3.3 V (R388), and on a warm start with the profile kept; or the host-fed image, for which the start waits with S9 run first, for
10 s from the start of S5 (R379). An image that S6 refuses fails S5 (R375). -/
def State.startImage (s : State) (o : StartObs) (warm mark : Bool) : State :=
  let begun := s.now
  let s := { s with flashUp := true, flashQuad := if warm then s.flashQuad else !(o.octal && o.octalVolt) }.startNs o 5
  let b := if warm then s.fld .startRec 2 2 14 else s.firstStrategy 5 3
  let good := firstGood ((List.range 2).map (fun i => o.s5.getD i false && o.s6.getD i false)) b 2
  let s := s.noteRefused o b good
  match good with
  | some i =>
    let s := s.noteStep 5 (i - b + 1) 1 i i
    let s := if i = 0 then s else s.noteAlternate 5 i
    s.startTail o warm i (mark || i != 0)
  | none =>
    let s := ((s.noteStep 9 1 1 0 0).noteStep 5 (3 - b) 5 2 2).setFlag .startFeed 0 true
    { s.sealRec with startWait := some (o, warm), feedAt := begun, epUp := true }

/-- S4 of a cold start: strategy 2 skips it with a mark, and not twice running. -/
def State.startSram (s : State) (o : StartObs) (mark : Bool) : State :=
  let b := s.firstStrategy 4 3
  let s := s.startNs o 4
  let skipped := s.flag .startRec 4 14
  match firstGood o.s4 b 2 with
  | some i =>
    let s := (s.noteStep 4 (i - b + 1) 1 i 0).setFlag .startRec 4 false 14
    let s := if i = 0 then s else s.noteAlternate 4 i
    s.startImage o false (mark || i != 0)
  | none =>
    if skipped then ((s.noteStep 4 (2 - b) 2 1 0).setFlag .startRec 4 false 14).haltStart
    else (((s.noteStep 4 (3 - b) 3 2 0).setFlag .startRec 4 true 14).noteAlternate 4 2).startImage o false true

/-- S1 to S4 and on (R375, R377). A warm start whose image digest does not match goes on as a cold one from S4; it keeps the epoch
that the warm start has begun and counts as no cold start (DESIGN CHOICE, log entry 27: R40 names the two kinds of start
only). -/
def State.startUp (s : State) (o : StartObs) (warm : Bool) : State :=
  let s := (if o.recOk && s.recGood then s else s.each (List.range 16) (fun s w => s.clr .startRec w)).clearStrategies
  let s := if warm then s.setFld .startRec 0 16 (satNat 16 (s.fld .startRec 0 16 1 + 1)) 1
    else s.setFld .startRec 0 16 (satNat 16 (s.fld .startRec 0 16 0 + 1)) 0
  let s := ((s.setFld .startRec 20 2 2 0).setFlag .startRec 22 warm 0).noteStep 1 1 1 0 0
  let b2 := s.firstStrategy 2 2
  let (r2, s) := ((s.startEdges o 1).startEdges o 2).plainStep 2 2 o.s2 (fun _ => if o.s2.getD b2 false then 0 else o.fuseWord)
  match r2 with
  | none => s
  | some i2 =>
    let s := s.loadFuses o.v33
    let s := if i2 = 0 then s else s.noteAlternate 2 i2
    let (r3, s) := (s.startEdges o 3).plainStep 3 2 o.s3 id
    match r3 with
    | none => s
    | some i3 =>
      let s := (s.setFlag .droneStat 0 true).startNs o 3
      let s := s.wr .pllStat (toW (1 + b2n (i3 = 0) * 2 + b2n (i3 = 1) * 4 + 8 + 16))
      let s := s.setFlag .fltSpare 8 (decide (i3 = 0))
      let s := if warm then s.govEvent 4 else s
      let s := if i3 = 0 then s else (s.noteAlternate 3 i3).fltEvent 3
      let mark := i2 != 0 || i3 != 0
      if warm && o.digest == s.imageDigest then ((s.noteStep 4 0 3 (s.stepF 4 12 4) 0).setFlag .startRec 4 true 14).startImage o true true
      else
        let s := if warm then (s.noteStep 5 1 1 (s.fld .startRec 2 2 14) (s.fld .startRec 2 2 14)).noteStep 6 1 2 0 0 else s
        (s.setFlag .startRec 22 false 0).startSram o mark

/-- COLD_START (R375): NRESET is released, and the start runs. The Drone starts at 0 in epoch 0 (R30, R40), and the
always-on counter at 0. -/
def execColdStart (o : StartObs) (s : State) : Host.Outcome State Fault Refusal :=
  .next (((s.resetDevice).wr .droneEpoch 0).startUp o false)

/-- WARM_START (R377, R40, R237): exit from Keep-alive, once a watch slot has fired; WAKE# is asserted. The always-on count has gone
on by a number of ticks that nothing tells: a free value (log entry 29). -/
def execWarmStart (o : StartObs) (s : State) : Host.Outcome State Fault Refusal :=
  .next (if s.pstate ≠ 5 ∨ !s.waking then s
    else
      let ep := s.rd .droneEpoch
      let ww := s.rd .wwStat
      let ao := s.rd .govAoCnt
      let s := (((s.resetDevice).wr .droneEpoch (toW (satNat 16 (ep.toNat + 1)))).wr .wwStat ww).wr .govAoCnt
        (ao + Config.freeWord s.freeCtr)
      { s.drawn with wakePin := true }.startUp o true)

/-- START_FEED_GO (R379): `accepted`, the image passes R378. -/
def State.feedGo (s : State) (accepted : Bool) : State :=
  match s.startWait with
  | none => s
  | some (o, warm) =>
    let len := s.fld .startFeedLen 0 22
    if len < 192 ∨ 3932160 < len ∨ len ≠ (s.tm 8).toNat then s.setFlag .startFeed 1 true
    else
      let s := { s.setFlag .startFeed 1 false with startWait := none }
      if accepted then ((s.noteStep 5 0 1 2 2).noteAlternate 5 2).startTail o warm 2 true
      else ((s.noteStep 5 0 2 2 2).noteStep 6 1 2 0 0).haltStart

/-- A write of START_FEED_GO: the host's only. -/
def execStartFeedGo (m : Master) (accepted : Bool) (s : State) : Host.Outcome State Fault Refusal :=
  .next (if 3 ≤ s.pstate then s else if m = .host then s.feedGo accepted else s.accErr m (RegKey.offset ⟨.startFeedGo, 0, 0⟩) .privilege)

/-- FEED_TIMEOUT (R379): 10 s without an accepted GO. -/
def execFeedTimeout (ts : Stamp) (s : State) : Host.Outcome State Fault Refusal :=
  .next (s.happens islMaster ts (fun s => s.startWait.isSome && decide (s.feedAt.toNat + 160000000000 ≤ ts.toNat)) (fun s =>
    ({ s with startWait := none }.noteStep 5 0 2 2 2).haltStart))

/-- START_CTRL (R376): CLR_STRAT and CLR_COUNTS. -/
def State.writeStartCtrl (s : State) (v : Word) : State :=
  let s := if getB v 0 then { s with clrStrat := true } else s
  if getB v 1 then
    let s := (s.setFld .startRec 0 16 0 0).wr .startRec 0 1
    (s.each (List.range 10) (fun s k => s.setFld .startRec 0 8 0 (k + 2))).sealRec
  else s

def execClrStrat (m : Master) (s : State) : Host.Outcome State Fault Refusal :=
  .next (s.access m .startCtrl 0 0 (·.writeStartCtrl 1))
def execClrCounts (m : Master) (s : State) : Host.Outcome State Fault Refusal :=
  .next (s.access m .startCtrl 0 0 (·.writeStartCtrl 2))

end Sys2Proof.Machine
end

