-- ==== Sys2Proof/Machine/Dma.lean ====
section
/-! DEFINITION. The DMA channels (15): their rings, control, halts and completions. The transfers are in Transfer.lean. -/

namespace Sys2Proof.Machine

def State.dma (s : State) (c : Nat) : Dma := s.dmas.at {} c
def State.setDma (s : State) (c : Nat) (x : Dma) : State := { s with dmas := s.dmas.set {} c x }
def State.onDma (s : State) (c : Nat) (f : Dma → Dma) : State := s.setDma c (f (s.dma c))
def dmaUnit (c : Nat) : Nat := 120 + c

/-- A DMA event: source 96 + c. -/
def State.dmaEvent (s : State) (c b : Nat) : State := s.event .dmaEvt .dmaIen b (96 + c) c
def State.dmaDrop (s : State) (c : Nat) : State := s.bump .dmaCnt 28 4 c

/-- Host memory can be reached: the link is up and PERST# released (R302, R361). -/
def State.hostReach (s : State) : Bool := s.hostLink == .up || s.hostLink == .l1

/-- DMA_STAT, with HELD (R363). -/
def State.dmaStatView (s : State) (c : Nat) : Word := putB (s.rd .dmaStat c) 4 (s.held (dmaUnit c))

/-- The channel may fetch and move: enabled, not paused, halted or held (R355). -/
def State.dmaGoes (s : State) (c : Nat) : Bool :=
  s.flag .dmaCtrl 0 c && !s.flag .dmaCtrl 1 c && !s.flag .dmaStat 3 c && !s.held (dmaUnit c)

/-- The channel drains the signal log (R251). -/
def State.drains (s : State) (c : Nat) : Bool := s.flag .logCtrl 1 && s.fld .logCtrl 4 4 == c

/-! ## Memory as the channels reach it (R349, R210) -/

/-- A byte of host memory (space 0) or of task memory outside the Keystone region (space 1). -/
def State.dmaByte (s : State) (sp a : Nat) : Byte :=
  if sp = 0 then s.hostMem.byte a else if a < 0x3C0000 then s.taskMem.byte a else 0
def State.putDmaByte (s : State) (sp a : Nat) (b : Byte) : State :=
  if sp = 0 then { s with hostMem := s.hostMem.putByte a b }
  else if a < 0x3C0000 then { s with taskMem := s.taskMem.putByte a b }
  else s
def State.dmaWord (s : State) (sp a : Nat) : Word :=
  wordOf (s.dmaByte sp a) (s.dmaByte sp (a + 1)) (s.dmaByte sp (a + 2)) (s.dmaByte sp (a + 3))
def State.putDmaWord (s : State) (sp a : Nat) (w : Word) : State :=
  let s := (List.range 4).foldl (fun s i => s.putDmaByte sp (a + i) (byteOf w i)) s
  if sp = 1 then s.healTm a else s
def State.putDmaWords (s : State) (sp a : Nat) (ws : List Word) : State :=
  ws.zipIdx.foldl (fun s (w, i) => s.putDmaWord sp (a + 4 * i) w) s

/-- The first task memory word in a range that is uncorrectable (R361). -/
def State.badIn (s : State) (sp a n : Nat) : Option Nat :=
  if sp = 1 then s.badTm.find? (fun b => decide (a < b + 4 ∧ b < a + n)) else none

/-! ## Halts (R361) -/

/-- The channel halts. `kind`: 1 fetch, 2 data read, 3 data write, 4 status write. -/
def State.dmaHalt (s : State) (c kind cause sp : Nat) (addr : Nat) (write : Bool) : State :=
  let s := s.withUnit (dmaUnit c) (fun s =>
    ((s.setFlag .dmaStat 3 true c).setFlag .dmaStat 0 false c).setFld .dmaStat 5 3 kind c)
  let s := ((s.wr .dmaErrAddrLo (toW addr) c).wr .dmaErrAddrHi (toW (addr / 2 ^ 32)) c).wr .dmaErrDir
    (toW (b2n write + sp * 2 + cause * 16)) c
  let s := (s.bump .dmaCnt 24 4 c).dmaEvent c 1
  let s := s.when (cause == 6) (·.lostWord 255 1 (addr / 4))
  if s.drains c then (s.setFlag .logStat 6 true).logEvent 3 else s

/-- The access at `addr` of n bytes cannot be made: cause and address. -/
def State.dmaFails (s : State) (sp addr n : Nat) (write : Bool) : Option (Nat × Nat) :=
  if sp = 0 then (if s.hostReach then none else some (5, addr))
  else if write then none
  else (s.badIn sp addr n).map (fun b => (6, b))

/-! ## The ring (R350 to R357) -/

def State.ringSp (s : State) (c : Nat) : Nat := s.fld .dmaCtrl 4 2 c
def State.ringLen (s : State) (c : Nat) : Nat := s.fld .dmaRingSize 0 16 c + 1
/-- The address of the descriptor at DMA_HEAD. -/
def State.descAt (s : State) (c : Nat) : Nat :=
  (s.rd .dmaRingLo c).toNat + (s.rd .dmaRingHi c).toNat * 2 ^ 32 + 32 * s.fld .dmaHead 0 16 c

def State.descW (s : State) (c i : Nat) : Word := (s.dma c).desc.getD i 0
def State.descOp (s : State) (c : Nat) : Nat := getF (s.descW c 0) 0 4
def State.descLen (s : State) (c : Nat) : Nat := (s.descW c 1).toNat
def State.descSrc (s : State) (c : Nat) : Nat := (s.descW c 2).toNat + (s.descW c 3).toNat * 2 ^ 32
def State.descDst (s : State) (c : Nat) : Nat := (s.descW c 4).toNat + (s.descW c 5).toNat * 2 ^ 32
def State.srcSp (s : State) (c : Nat) : Nat := getF (s.descW c 0) 4 2
def State.dstSp (s : State) (c : Nat) : Nat := getF (s.descW c 0) 6 2
def State.descDone (s : State) (c : Nat) : Nat := s.fld .dmaProg 0 25 c

/-- A doorbell (R356): the end mark is left behind, and the descriptor at DMA_HEAD is fetched again. It is kept while the
channel cannot fetch (R358, R364). -/
def State.doorbell (s : State) (c : Nat) : State :=
  if s.flag .dmaCtrl 1 c || s.flag .dmaStat 3 c || s.held (dmaUnit c) then s.onDma c (fun x => { x with bell := true })
  else s.setFlag .dmaStat 1 false c

/-- The channel goes on: its next burst starts now at the earliest (R359). -/
def State.burstNow (s : State) (c : Nat) : State :=
  s.onDma c (fun x => { x with ready := if x.ready.toNat < (s.clock islFabric).toNat then s.clock islFabric else x.ready })

/-- A kept doorbell is made good. -/
def State.bellKept (s : State) (c : Nat) : State :=
  if (s.dma c).bell then (s.onDma c (fun x => { x with bell := false })).setFlag .dmaStat 1 false c else s

/-- The descriptor's processing is given up; a packet that the service firmware has taken stays taken (R362). -/
def State.dropDesc (s : State) (c : Nat) : State :=
  s.withUnit (dmaUnit c) (fun s => ((s.onDma c (fun x => { x with desc := [], diff := false, closed := false })).setFlag
    .dmaStat 0 false c).wr .dmaProg 0 c)

/-- DMA_HEAD steps. -/
def State.stepHead (s : State) (c : Nat) : State :=
  s.wr .dmaHead (toW (if s.fld .dmaHead 0 16 c + 1 < s.ringLen c then s.fld .dmaHead 0 16 c + 1 else 0)) c

/-- A descriptor completes (R354): word 7, then word 0 with OWN = 0, then DONE. -/
def State.completeDesc (s : State) (c err count : Nat) : State :=
  let a := s.descAt c
  let sp := s.ringSp c
  match s.dmaFails sp (a + 28) 4 true with
  | some (cause, addr) => s.dmaHalt c 4 cause sp addr true
  | none =>
    let w0 := if (s.dma c).desc.isEmpty then s.dmaWord sp a else s.descW c 0
    let s := s.putDmaWord sp (a + 28) (toW (count % 2 ^ 25 + err * 2 ^ 25 + b2n (s.dma c).diff * 2 ^ 28 + 2 ^ 31))
    let s := s.putDmaWord sp a (w0 &&& 0x7FFFFFFF)
    let s := if getB w0 30 then s.dmaEvent c 0 else s
    let s := (s.bumpW .dmaCnt 0 16 c).when (err == 1) (·.bump .dmaCnt 16 8 c)
    let s := (s.stepHead c).dropDesc c
    s.onDma c (fun x => { x with taken := false, reply := [], waits := none })

/-! ## Register writes -/

/-- DMA_TAIL (R356). -/
def State.writeTail (s : State) (c : Nat) (v : Word) : State :=
  (s.wakeUp.wr .dmaTail (toW (getF v 0 16 % s.ringLen c)) c).doorbell c

def execDmaTail (m : Master) (c : Fin 16) (v : Word) (s : State) : Host.Outcome State Fault Refusal :=
  .next (s.access m .dmaTail c 0 (·.writeTail c v))

/-- EN (R363). -/
def State.writeEn (s : State) (c : Nat) (on : Bool) : State :=
  if on == s.flag .dmaCtrl 0 c then s
  else
    let s := s.withUnit (dmaUnit c) (·.setFlag .dmaCtrl 0 on c)
    let s := s.dropDesc c
    if on then (s.onDma c (fun x => { x with bell := false })).setFlag .dmaStat 1 false c else s

def execDmaEnWrite (m : Master) (c : Fin 16) (on : Bool) (s : State) : Host.Outcome State Fault Refusal :=
  .next (s.access m .dmaCtrl c 0 (·.writeEn c on))

/-- PAUSE (R358): the channel stops at the end of its burst, or goes on. -/
def State.writePause (s : State) (c : Nat) (on : Bool) : State :=
  if on == s.flag .dmaCtrl 1 c then s
  else
    let s := s.withUnit (dmaUnit c) (·.setFlag .dmaCtrl 1 on c)
    let s := s.setFlag .dmaStat 2 on c
    if on then s.dmaEvent c 2 else if s.flag .dmaStat 3 c || s.held (dmaUnit c) then s else (s.burstNow c).bellKept c

/-- A master writes PAUSE: of two writes in one fabric cycle the one whose master comes last in the lock order stands (R364). -/
def State.pauseWrite (s : State) (m : Master) (c : Nat) (on : Bool) : State :=
  let (cyc, rank) := (s.dma c).pausedBy
  if cyc = s.fabNow + 1 ∧ lockRank m < rank then s
  else (s.onDma c (fun x => { x with pausedBy := (s.fabNow + 1, lockRank m) })).writePause c on

def execPause (m : Master) (c : Fin 16) (on : Bool) (s : State) : Host.Outcome State Fault Refusal :=
  .next (s.access m .dmaCtrl c 0 (·.pauseWrite m c on))

/-- The channel leaves its halt, as by a doorbell (R362); a drain goes on (R251). -/
def State.leaveHalt (s : State) (c : Nat) : State :=
  let s := s.withUnit (dmaUnit c) (fun s => (s.setFlag .dmaStat 3 false c).setFld .dmaStat 5 3 0 c)
  let s := if s.drains c then s.setFlag .logStat 6 false else s
  (s.onDma c (fun x => { x with bell := true })).when (!s.flag .dmaCtrl 1 c && !s.held (dmaUnit c)) (fun s => (s.burstNow c).bellKept c)

/-- RESUME (R362). -/
def State.dmaResume (s : State) (c : Nat) : State := if s.flag .dmaStat 3 c then (s.leaveHalt c).dropDesc c else s

def execResume (m : Master) (c : Fin 16) (s : State) : Host.Outcome State Fault Refusal :=
  .next (s.access m .dmaCtrl c 0 (·.dmaResume c))

/-- SKIP (R362): the descriptor completes with ERR BUS and the bytes done; a status that could not be written is written again so. -/
def State.dmaSkip (s : State) (c : Nat) : State :=
  if s.flag .dmaStat 3 c then
    let done := s.descDone c
    (s.leaveHalt c).completeDesc c 2 done
  else s

def execSkip (m : Master) (c : Fin 16) (s : State) : Host.Outcome State Fault Refusal :=
  .next (s.access m .dmaCtrl c 0 (·.dmaSkip c))

/-- DMA_CTRL as a whole: RING_SP only while EN = 0, as it stood (R350). -/
def State.writeDmaCtrl (s : State) (m : Master) (c : Nat) (v : Word) : State :=
  let sp := getF v 4 2
  let s := if sp = s.ringSp c then s
    else if s.flag .dmaCtrl 0 c || decide (2 ≤ sp) then s.dmaDrop c
    else s.setFld .dmaCtrl 4 2 sp c
  let s := (s.pauseWrite m c (getB v 1)).writeEn c (getB v 0)
  let s := if getB v 2 then s.dmaResume c else s
  if getB v 3 then s.dmaSkip c else s

/-- DMA_RING_LO, _HI, _SIZE, DMA_HEAD and DMA_SHARE (R350, R359). -/
def State.writeRing (s : State) (c : Nat) (r : DmaRingReg) (v : Word) : State :=
  let on := s.flag .dmaCtrl 0 c
  match r with
  | .baseLo => if on || getF v 0 5 != 0 then s.dmaDrop c else s.wr .dmaRingLo v c
  | .baseHi => if on then s.dmaDrop c else s.wr .dmaRingHi v c
  | .size => if on then s.dmaDrop c else s.wr .dmaRingSize (v &&& 0xFFFF) c
  | .head =>
    if on || decide (s.ringLen c ≤ getF v 0 16) then s.dmaDrop c
    else (s.wr .dmaHead (v &&& 0xFFFF) c).onDma c (fun x => { x with taken := false, reply := [], waits := none })
  | .share => if getF v 0 9 = 0 ∨ 256 < getF v 0 9 then s.dmaDrop c else s.wr .dmaShare (v &&& 0x7FF) c

def ringReg : DmaRingReg → RegName
  | .baseLo => .dmaRingLo | .baseHi => .dmaRingHi | .size => .dmaRingSize | .head => .dmaHead | .share => .dmaShare

def execDmaRingWrite (m : Master) (c : Fin 16) (r : DmaRingReg) (v : Word) (s : State) :
    Host.Outcome State Fault Refusal :=
  .next (s.access m (ringReg r) c 0 (·.writeRing c r v))

/-- DMA_GCTRL.CLR_CNT (R8). -/
def State.clrDma (s : State) : State := s.each (List.range 16) (fun s c => s.clr .dmaCnt c)
def execDmaClrCnt (m : Master) (s : State) : Host.Outcome State Fault Refusal :=
  .next (s.access m .dmaGctrl 0 0 State.clrDma)

/-- A supervisor hold of the channel ends: as by a doorbell (R363). -/
def State.dmaReleased (s : State) (c : Nat) : State :=
  (s.onDma c (fun x => { x with bell := true })).when (!s.flag .dmaCtrl 1 c && !s.flag .dmaStat 3 c) (fun s => (s.burstNow c).bellKept c)

/-- DMA_HALT (R361): the world answers an access of the channel with an error, causes 1 to 4. Causes 5 and 6 the access
itself meets. -/
def execDmaHalt (c : Fin 16) (h : HaltObs) (ts : Stamp) (s : State) : Host.Outcome State Fault Refusal :=
  .next (s.happens islFabric ts (fun s => s.dmaGoes c && decide (1 ≤ h.cause.val ∧ h.cause.val ≤ 4) && !s.flag .dmaStat 1 c) (fun s =>
    if (s.dma c).desc.isEmpty then (if s.ringSp c = 0 ∧ !h.write then s.dmaHalt c 1 h.cause 0 h.addr.toNat false else s)
    else if h.write then
      (if s.dstSp c = 0 then s.dmaHalt c 3 h.cause 0 h.addr.toNat true
       else if s.ringSp c = 0 then s.dmaHalt c 4 h.cause 0 h.addr.toNat true else s)
    else if s.srcSp c = 0 then s.dmaHalt c 2 h.cause 0 h.addr.toNat false
    else s))

end Sys2Proof.Machine
end

