-- ==== Sys2Proof/Machine/Reply.lean ====
section
/-! DEFINITION. Replies to command packets and long operations (13: R312 to R318). -/

namespace Sys2Proof.Machine

/-- What a command answers: status, result words, and whether the first is a state code (R317). -/
structure Answer where
  status : Nat := 0
  res : List Word := []
  stateword : Bool := false
  deriving DecidableEq, Repr

def ok (res : List Word := []) : Answer := { res := res }
def refuse (status : Nat) : Answer := { status := status }
/-- A STATE refusal with the unit's code, or with a context's (R317). -/
def stateRefuse (code : Nat) (ctx : Bool := false) : Answer :=
  { status := stState, res := [toW (code + b2n ctx * 256)], stateword := true }

/-- The words of a reply (R314). -/
def replyWords (a : Answer) (completion : Bool) (tag : BitVec 16) (opcode : Nat) : List Word :=
  toW (a.status + a.res.length * 65536 + b2n completion * 2 ^ 24 + b2n a.stateword * 2 ^ 25) ::
    toW (tag.toNat + opcode * 65536) :: a.res

/-- The mailbox channel of a path. -/
def chanOf : CmdPath → Option Nat
  | .hostBox k => some k.val
  | .supBox j => some (16 + j.val)
  | _ => none

/-- A reply joins the channel's queue (R318). -/
def State.queueReply (s : State) (k : Nat) (ws : List Word) : State :=
  (s.setReplies k (s.repliesOf k ++ [ws])).pumpReply k

/-- The TRAP CMD whose packet has been carried out, and which waits for a reply in the buffer. -/
def waitsReply (buf : Nat) (t : TrapCall) : Bool := t.call == 0 && t.buf == buf && t.pk.isNone && t.answer.isNone

/-- The reply to a TRAP CMD (R207): as much as the buffer holds, in the data window; the TRAP's answer, with G0 = st, is then due.
The reply to a call that a stop or a fault has ended is discarded (R192, R205). -/
def State.taskReply (s : State) (x : Nat) (buf size : Nat) (ws : List Word) (st : Nat := stOk) : State :=
  if !(s.ctx x).traps.any (waitsReply buf) then s
  else
    let ws := ws.take size
    let s := ws.zipIdx.foldl (fun s (w, i) => s.setTm (buf + 4 * i) w) s
    s.onCtx x (fun c => { c with traps := c.traps.map (fun t =>
      if waitsReply buf t then { t with answer := some (st, toW ws.length) } else t) })

/-- A long operation begins (R315), with the number it takes. -/
def State.beginLong (s : State) (op : LongOp) : State :=
  { s with longOps := s.longOps ++ [{ op with num := s.longNext }], longNext := s.longNext + 1 }

/-- A long operation of the same command is in progress (R316). -/
def State.longBusy (s : State) (opcode : Nat) : Bool :=
  s.longOps.any (fun o => o.opcode == opcode && o.outcome.isNone)

/-- The operation leaves. -/
def State.endLong (s : State) (n : Nat) : State := { s with longOps := s.longOps.filter (fun o => o.num ≠ n) }

/-- A finished operation sends its completion (R315, R318). -/
def State.sendCompletion (s : State) (o : LongOp) (st : Nat) (res : List Word) : State :=
  let ws := replyWords { status := st, res := res } (!o.wait) o.tag o.opcode
  let silent := o.quiet && st == stOk
  match o.path with
  | .hostBox _ | .supBox _ =>
    let k := (chanOf o.path).getD 0
    if silent then s.endLong o.num
    else if 8 ≤ (s.repliesOf k).length then s.setStall k true
    else (s.endLong o.num).queueReply k ws
  | .ring c =>
    if o.wait then
      (s.endLong o.num).onDma c (fun x => { x with waits := none, reply := if silent then [] else ws })
    else if silent then s.endLong o.num
    else
      let (sp, a, n, irq) := o.buf
      if sp = 0 ∧ !s.hostReach then s
      else
        let ws := ws.take (n / 4)
        let s := (s.endLong o.num).putDmaWords sp (a + 4) (ws.drop 1)
        let s := s.putDmaWord sp a (ws.headD 0)
        if irq then s.dmaEvent c 0 else s
  | .task x =>
    let (_, a, n, _) := o.buf
    (s.endLong o.num).taskReply x a (n / 4) ws

/-- A long operation that has finished is answered. -/
def State.completeLong (s : State) (n : Nat) : State :=
  match s.longOps.find? (fun o => o.num == n) with
  | some o => match o.outcome with | some (st, res) => s.sendCompletion o st res | none => s
  | none => s

/-- It finishes and is answered at once. -/
def State.finishNow (s : State) (n st : Nat) (res : List Word) : State := (s.finishOp n st res).completeLong n

/-- LONG_COMPLETION (R315). -/
def execLongCompletion (n : Nat) (s : State) : Host.Outcome State Fault Refusal := .next (s.completeLong n)

end Sys2Proof.Machine
end

