-- ==== Sys2Proof/Machine/Power.lean ====
section
/-! DEFINITION. The power-state ladder and the wake watcher (09: R235 to R240). -/

namespace Sys2Proof.Machine

/-- The always-on count at present: 32.768 kHz against the master, R39's 488,281.25 fine ticks each (DESIGN CHOICE, log
entry 29). -/
def State.aoView (s : State) : Word :=
  s.rd .govAoCnt + toW ((s.now.toNat - s.aoAt.toNat) * 4 / 1953125)
def State.setAo (s : State) (w : Word) : State := { s.wr .govAoCnt w with aoAt := s.now }

/-- A spare switchover is under way (R372). -/
def State.switchoverOn (s : State) : Bool := s.switching.any (fun e => e.2.isSome)

def State.channelsRun (s : State) : Bool := (List.range s.tiles).any (fun t => s.runMask t != 0)
def State.linksUp (s : State) : Bool := (List.range 4).any (fun k => s.linkUp k)

/-- The last two checks of R235. -/
def State.pstateStateBad (s : State) (target : Nat) (force : Bool) : Bool :=
  !force && ((decide (2 ≤ target) && s.channelsRun) ||
    (decide (3 ≤ target) && (!(s.d3hot && s.hostLink == .l2) || s.linksUp)))

/-- An interrupt request is presented to a context of an engine, which ends Still and Doze (R237). -/
def State.engineAsked (s : State) : Bool := (List.range (32 * s.engines)).any (fun x => (s.presented x).isSome)

/-- A wake is latched, or an engine asked for, in a low-power state: its exit is under way (R237). -/
def State.exiting (s : State) : Bool :=
  (decide (1 ≤ s.pstate) && s.waking) || (decide (1 ≤ s.pstate ∧ s.pstate ≤ 2) && s.engineAsked)

/-- A transition is in progress (GOV_PSTATE.BUSY). -/
def State.pwrBusy (s : State) : Bool := s.pwrReq.isSome || s.exiting

def State.setLast (s : State) (st : Nat) : State := s.setFld .govPstate 16 16 st

/-- The checks of R235 in order, and on none failing the request under way with GOV_PSTATE.BUSY. While a switchover lasts
the checks on the state wait (R372). -/
def State.pstateReq (s : State) (target : Nat) (force host : Bool) (op : Option Nat) : Nat × State :=
  if s.pwrBusy then (stBusy, s)
  else if target = 0 ∨ 5 < target then (stParam, s)
  else if s.held 138 && host then (stDenied, s)
  else
    let later := s.switchoverOn
    if !later && s.pstateStateBad target force then (stState, s)
    else
      (stAccepted, { s.setFlag .govPstate 3 true with
        pwrReq := some { target := target, force := force, host := host, unchecked := later, op := op } })

/-- GOV_PSTATE_REQ written: by the host or the supervisor (R235). A hold answers DENIED and drops nothing; a context's
write is not one of R235's requests and is dropped (log entry 29). -/
def State.writePstateReq (s : State) (m : Master) (v : Word) : State :=
  let k : RegKey := ⟨.govPstateReq, 0, 0⟩
  match m, s.refusal m 138 k with
  | .ctx _, _ | .dma _, _ => s.accErr m k.offset .privilege
  | .host, some .ownership => s.dropWrite m 138 k .ownership
  | _, _ =>
    let (st, s) := s.pstateReq (getF v 0 3) (getB v 3) (m == .host) none
    s.setLast st

def execGovPstateReq (m : Master) (v : Word) (s : State) : Host.Outcome State Fault Refusal :=
  .next (s.onBus (·.writePstateReq m v))

/-! ## Entry (R236) -/

/-- Step 1: live domains pass through STALL, and the entries that remain are withdrawn (R138, R161, R163), with the clears made that
this asks of the tiles (R160); no edge that still waits for a domain enters its new history. -/
def State.sleepDomains (s : State) : State :=
  let s := s.each (List.range s.domains) (fun s d => (if s.domLive d then s.stall d else s).withdraw d 7 0 false)
  { s.makeClears with edges := s.edges.filter (fun e => decide (e.1 < 512)) }

/-- Step 2: links go down, and with them alignment and joining (R299), port transactions (R275) and the log's ring (R257). -/
def State.sleepLinks (s : State) : State :=
  let s := s.each (List.range 4) State.dropLink
  let s := if s.flag .mlCtrl 1 then s else (s.unalign.setFlag .mlStat 11 false).setFld .mlStat 0 5 0
  let s := { s with slew := 0 }
  let s := s.each (List.range s.ports) (fun s p =>
    let s := match (s.port p).run with | some r => (s.onPort p (fun x => { x with cs := 0 })).portFinish p r 3 s.now | none => s
    s.portFlushAll p 4)
  let s := if s.logFill = 0 then s else s.setFlag .logStat 5 true
  { s with logMem := [], logRecs := [], logQ := [], offers := [] }

/-- The link state of an endpoint whose PCIe link is lost. -/
def HostLink.lost : HostLink → HostLink
  | .l2 => .l2 | .reset => .reset | _ => .training

/-! ## The wake watcher (R239) -/

def State.slotKind (s : State) (n : Nat) : Nat := s.fld .wwSlot 0 3 n

/-- Slot n watches a source: by KIND, and ARG of a pin or a link. -/
def State.watches (s : State) (n : Nat) : WatchSrc → Bool
  | .tioPin p => s.slotKind n == 1 && s.fld .wwSlot 3 8 n == p.val
  | .wakeIn => s.slotKind n == 2
  | .mlink k => s.slotKind n == 3 && s.fld .wwSlot 3 8 n == k.val
  | .mgmtSelect => s.slotKind n == 4
  | .perst => s.slotKind n == 5

/-- The trigger of slot n answers an edge to `level`, or the level (R239): rising, falling, high, low. -/
def State.triggers (s : State) (n : Nat) (level : Bool) : Bool :=
  match s.fld .wwSlot 11 2 n with | 0 | 2 => level | _ => !level

/-- The level that the source of slot n has: a pin's only with its bank powered; MG_CS#; PERST#, high once released. -/
def State.slotLevel (s : State) (n : Nat) : Option Bool :=
  let arg := s.fld .wwSlot 3 8 n
  match s.slotKind n with
  | 1 => if s.flag .pmBank 1 (arg / 32) then some (s.pinIn.at false arg) else none
  | 2 => some (s.lines.at false 0)
  | 3 => some (s.lines.at false (1 + arg))
  | 4 => some (!s.lines.at false 5)
  | 5 => some (s.hostLink != .reset)
  | _ => none

/-- The slots whose level trigger is true at present. -/
def State.levelSlots (s : State) : List Nat :=
  (List.range 16).filter (fun n => decide (2 ≤ s.fld .wwSlot 11 2 n) && (s.slotLevel n).any (s.triggers n))

/-- A wake is latched: WW_STAT shows the slots. -/
def State.latchWake (s : State) (l : List Nat) : State :=
  if l.isEmpty then s else { s.each l (fun s n => s.setFlag .wwStat n true) with waking := true }

/-! ## The commit point (R236) -/

/-- Every engine is at a boundary: no reply is out, but for the root's to a system LOCK, and no fault on its way (R236 step 4; a LOCK
that waits for the root is parked: DEDUCED, log entry 29). -/
def State.enginesPark (s : State) : Bool :=
  (List.range (32 * s.engines)).all (fun x => match (s.ctx x).out with | some r => r.sysLock.isSome | none => true)

/-- The state `t` is entered: engine and port islands are gated (R233), tile clocks stop and pad latches hold the output pins in
Doze and deeper (R86); the master holds in Nap and Slumber (R39); Keep-alive keeps the always-on domain alone. A level trigger
that is already true wakes the device at once (R239). -/
def State.commitSleep (s : State) (t : Nat) : State :=
  let gated := List.range s.engines ++ [4, 5].filter s.islandIdle
  let s := s.each gated (fun s b => s.setFlag .govIsl b true)
  let s := if 2 ≤ t then
      { s.closePads ((List.range 256).filter (fun p => s.fld .pmPin 6 2 p == 1)) with clockStop := s.clockStop.or (some s.now) }
    else s
  let s := if 3 ≤ t then { s.setFlag .droneStat 0 false with hostLink := s.hostLink.lost, aoEntry := s.aoView } else s
  let s := ((s.setFld .govPstate 0 3 t).syncTiles).govEvent 3
  let s := if t = 5 then
      let ao := s.aoView
      ((s.setFld .govPstate 0 3 0).resetDevice.wr .govAoCnt ao).setFld .govPstate 0 3 5
    else s
  if 2 ≤ t then s.latchWake s.levelSlots else s

/-- The request ends with a status; PWR_STATE completes with GOV_PSTATE. -/
def State.endPwr (s : State) (r : PwrReq) (st : Nat) (w : Word) : State :=
  let s := { (s.setFlag .govPstate 3 false).setLast st with pwrReq := none }
  match r.op with | some n => s.finishNow n st [w] | none => s

/-- POWER_STATE_COMMIT (R236): the entry up to its commit point, once no switchover lasts and the engines are at a boundary. -/
def execPowerStateCommit (ts : Stamp) (s : State) : Host.Outcome State Fault Refusal :=
  let s := s.reach ts
  .next (match s.pwrReq with
    | none => s
    | some r =>
      if s.switchoverOn || !s.enginesPark then s
      else if r.unchecked && s.pstateStateBad r.target r.force then s.endPwr r stState (s.rd .govPstate)
      else
        let s := if 3 ≤ r.target then s.sleepDomains.sleepLinks else s
        (s.endPwr r stOk (toW r.target)).commitSleep r.target)

/-! ## Waking -/

/-! ## Exit (R237) -/

/-- The master is advanced by the ticks slept, with the quarter ticks carried (R39). -/
def State.advanceAo (s : State) (ticks : Nat) : State :=
  let q := ticks * 1953125 + s.aoRem
  let s := { s.stepTo (toS (s.now.toNat + q / 4)) with aoRem := q % 4 }
  (s.wr .droneSlept (toW ticks)).setAo (s.aoEntry + toW ticks)

/-- What Slumber loses (09 ladder, R163, R193, R238, R241, R334, R337, R363). -/
def slumberLoses (k : RegKey) : Bool :=
  match k.name with
  | .catW0 | .catW1 | .catW2 | .catW3 => true
  | .entryW0 | .entryW1 | .entryW2 | .entryW3 | .entryW4 | .entryW5 | .entryW6 | .entryW7 => true
  | .calCqWr | .calCqRd | .mbData | .mbCtrl | .mbCnt => true
  | .ctxStat => decide (k.j ≠ 0)
  | _ => false

def State.leaveSlumber (s : State) : State :=
  let s := s.each ((List.range 256).filter (fun k => s.rd .lockOwner k != 0)) State.freeLock
  let s := { s with
    regs := s.regs.filter (fun e => !slumberLoses e.1)
    taskMem := s.taskMem.filter (fun e => decide (0x3C0000 ≤ e.1)), badTm := s.badTm.filter (fun a => decide (0x3C0000 ≤ a))
    entries := [], sigs := [], lastEv := [], dropping := [], replies := [], longOps := [], goAt := []
    ctxs := s.ctxs.filter (fun e => decide (e.1 % 32 = 0)), gpr := s.gpr.filter (fun e => decide (e.1 / 16 % 32 = 0)) }
  let s := s.each (List.range 64) (fun s k => s.clr .mlSlockOwner k)
  let s := s.each (List.range 16) (fun s c => s.writeEn c false)
  s.restartService

/-- The islands whose copies stood still load theirs (R38): the tiles' after Doze, every one after Nap and Slumber. -/
def State.loadCopies (s : State) (deep : Bool) : State := s.each (islands.filter (fun i => deep || decide (i < 66))) State.loadCopy

/-- The tile clocks run again: filters and other timers do not count the stay (R111). A stay that ended before any filter can have
begun is let go. -/
def State.clocksRun (s : State) : State :=
  match s.clockStop with
  | none => s
  | some t0 => { s with
      clockStop := none
      stays := (t0, s.now) :: s.stays.filter (fun x => decide (t0.toNat ≤ x.2.toNat + 4096)) }

/-- Tiles and pins go on: copies loaded, latches open, followers loaded, waiting slots judged (R237, R163). -/
def State.tilesGo (s : State) (deep : Bool) : State :=
  let s := ((s.loadCopies deep).clocksRun).syncTiles
  let s := s.openPads ((List.range 256).filter (fun p => !s.flag .pmBank 2 (p / 32)))
  let s := s.each (List.range s.domains) State.loadFols
  s.each (List.range s.tiles) (fun s t => s.each (List.range 16) (fun s k =>
    if s.slotValid t k && s.slotPhase t k == 0 then s.judgeSlot t k (s.nextNs t) else s))

/-- The log starts again after Nap (R257): an empty ring, and a MARK first. What the ring held is lost, so the next record of each
signal is full (DEDUCED from R246's last sentence, log entry 93). -/
def State.logRestart (s : State) : State :=
  let s := ((s.wr .logWr 0).wr .logRd 0).logReturns
  let s := s.freshSigs
  s.when (s.flag .logCtrl 0) (·.markDue (s.clock islFabric))

/-- The way back to Run from state p (R237). -/
def State.toRun (s : State) (ts : Stamp) : State :=
  let p := s.pstate
  let deep := decide (3 ≤ p)
  let s := if p = 4 then s.leaveSlumber else s
  let s := s.when deep (·.setFlag .droneStat 0 true)
  let s := { (s.setFld .govPstate 0 3 0).reach ts with waking := false, wakePin := s.wakePin || deep }
  let s := if deep then
          let s := s.each ((List.range s.domains).filter (fun d => s.flag .domCtrl 0 d)) (fun s d => s.reseek d [])
          let s := s.logRestart
          s.each ((List.range s.ports).filter (fun p => s.flag .portTt 0 p)) (fun s p => s.ttPlan p false)
        else s
  let s := if 2 ≤ p then s.tilesGo deep else s
  s.when (decide (1 ≤ p)) (·.govEvent 3)

/-- POWER_STATE_EXIT (R237): from Still and Doze once a wake has been latched or an interrupt request stands to an engine, from Nap
and Slumber once a watch slot has fired, which GOV_EVT.WAKE tells; Keep-alive is left by WARM_START. `aoTicks`: the always-on
ticks slept. -/
def execPowerStateExit (aoTicks : Word) (ts : Stamp) (s : State) : Host.Outcome State Fault Refusal :=
  .next (if s.pstate = 0 ∨ 5 ≤ s.pstate ∨ !s.exiting then s.reach ts
    else
      let slots := s.waking && decide (2 ≤ s.pstate) && s.fld .wwStat 0 16 != 0
      let s := if 3 ≤ s.pstate then s.advanceAo aoTicks.toNat else s
      (s.toRun ts).when slots (·.govEvent 4))

/-! ## Wakes -/

/-- A watched wake abandons an entry (R236): how many of its steps were done is open, a free value; they stand, and the device
returns to Run. -/
def State.abandon (s : State) (r : PwrReq) : State :=
  let n := Config.freeNs s.freeCtr % 3
  let s := s.drawn
  let s := if 1 ≤ n ∧ 3 ≤ r.target then s.sleepDomains else s
  let s := if 2 ≤ n ∧ 3 ≤ r.target then s.sleepLinks else s
  (((s.setFlag .wwStat 16 true).bump .govCnt 8 8).toRun s.now).endPwr r stBusy 0

/-- Watch slots fire: in Doze and deeper they wake the device, and during an entry they abandon it (R236, R239). -/
def State.slotsFire (s : State) (l : List Nat) : State :=
  if l.isEmpty then s
  else match s.pwrReq with
    | some r => if 2 ≤ r.target then s.abandon r else s
    | none => if s.pstate < 2 then s else s.latchWake l

/-- The level of a watched source as the device sees it from now on. -/
def State.setWatched (s : State) (src : WatchSrc) (level : Bool) : State :=
  match src with
  | .tioPin p => { s with pinIn := s.pinIn.set false p level }
  | .wakeIn => { s with lines := s.lines.set false 0 level }
  | .mlink k => { s with lines := s.lines.set false (1 + k.val) level }
  | .mgmtSelect => { s with lines := s.lines.set false 5 (!level) }
  | .perst => s

/-- The source may fire slots: a pin with its bank powered. -/
def State.watched (s : State) : WatchSrc → Bool
  | .tioPin p => s.flag .pmBank 1 (p / 32)
  | _ => true

/-- WATCH_SLOT_FIRE (R239): a watched source makes an edge to `level`; the slots that watch it and whose trigger answers fire. An
ALARM slot fires by ALARM. -/
def execWatchSlotFire (src : WatchSrc) (level : Bool) (ts : Stamp) (s : State) : Host.Outcome State Fault Refusal :=
  let s := (s.reach ts).setWatched src level
  .next (s.slotsFire ((List.range 16).filter (fun n => s.watched src && s.watches n src && s.triggers n level)))

/-- ALARM (R240): the count equals GOV_AO_ALARM. In Run to Doze the count follows the master; in the states below, where no row tells
of it, the alarm's own row says that it does. -/
def execAlarm (ts : Stamp) (s : State) : Host.Outcome State Fault Refusal :=
  let s := s.reach ts
  .next (if s.pstate < 3 ∧ s.aoView ≠ s.rd .govAoAlarm then s
    else (s.setAo (s.rd .govAoAlarm)).slotsFire ((List.range 16).filter (fun n => s.slotKind n == 6)))


/-- WW_SLOT_n (R239, R21): a slot that names an absent pin or link keeps its value. -/
def State.writeWwSlot (s : State) (n : Nat) (v : Word) : State :=
  let arg := getF v 3 8
  if (getF v 0 3 = 1 ∧ s.pins ≤ arg) ∨ (getF v 0 3 = 3 ∧ s.linkCount ≤ arg) ∨ getF v 0 3 = 7 then s
  else s.wr .wwSlot (v &&& 0x1FFF) n

end Sys2Proof.Machine
end

