-- ==== Sys2Proof/Machine/Bus.lean ====
section
/-! DEFINITION. Register accesses (R5 to R10, R47 to R49, R304 to R306): what a read returns and does, what a write does,
and which accesses are dropped. -/

namespace Sys2Proof.Machine

/-! ## Reads -/

/-- The two words of a linked quantity at one instant (R47). -/
def State.linkedWords (s : State) : Linked → Word × Word
  | .droneNow => (loW s.now, hiW s.now)
  | .count t p => (s.chCountView t (2 * p), s.chCountView t (2 * p + 1))
  | .capture g | .captureV g => (s.rd .chCapvLo (tileOf g) (chOf g), s.rd .chCapvHi (tileOf g) (chOf g))
  | .snap d => (s.domAngle d, ns32 (s.clock islDomain))

/-- The unit of a linked quantity is fitted. -/
def State.linkedFitted (s : State) : Linked → Bool
  | .droneNow => true
  | .count t _ => decide (t.val < s.tiles)
  | .capture g | .captureV g => decide (tileOf g < s.tiles)
  | .snap d => decide (d.val < s.domains)

def linkedTile : Linked → Nat
  | .count t _ => t.val
  | .capture g | .captureV g => tileOf g
  | _ => 255

/-- A read of the low word (R47); of a capture, the acknowledging one (R67). A pair that is not linked is two plain
counts. -/
def State.readLow (s : State) (m : Master) (q : Linked) : Word × State :=
  if !s.linkedFitted q then (0, s)
  else
    let s := s.wakeFor (linkedTile q)
    let (lo, hi) := s.linkedWords q
    match q with
    | .count t p => (lo, if s.linked t (2 * p) then s.setLatch (masterIx m) hi else s)
    | .capture g => (lo, (s.setLatch (masterIx m) hi).ackCapture (tileOf g) (chOf g))
    | _ => (lo, s.setLatch (masterIx m) hi)

/-- A read of the high word: the master's latch, whatever filled it. -/
def State.readHigh (s : State) (m : Master) (q : Linked) : Word :=
  if !s.linkedFitted q then 0
  else match q with
    | .count t p => if s.linked t (2 * p) then s.latchOf (masterIx m) else (s.linkedWords q).2
    | _ => s.latchOf (masterIx m)

/-- A naturally aligned 64-bit PCIe read (R49): both words from one instant; `lastRead` shows the low one, and `readHi` the
high one. The host latch stays. -/
def State.read64 (s : State) (q : Linked) : State :=
  if !s.linkedFitted q then { s with readHi := 0 }.setRead 0 0
  else
    let s := s.wakeFor (linkedTile q)
    let (lo, hi) := s.linkedWords q
    let s := match q with | .capture g => s.ackCapture (tileOf g) (chOf g) | _ => s
    { s with readHi := hi }.setRead 0 lo

/-- What a read that returns a word does, on the bus: in Nap and deeper it returns 0. The word is kept for the master. -/
def State.readOn (s : State) (m : Master) (f : State → Word × State) : State :=
  if 3 ≤ s.pstate then s.setRead (masterIx m) 0
  else s.onBus (fun s => let (w, s) := f s; s.setRead (masterIx m) w)

def execLinkedLowRead (m : Master) (q : Linked) (s : State) : Host.Outcome State Fault Refusal :=
  .next (s.readOn m (·.readLow m q))
def execLinkedHighRead (m : Master) (q : Linked) (s : State) : Host.Outcome State Fault Refusal :=
  .next (s.readOn m (fun s => (s.readHigh m q, if s.linkedFitted q then s.wakeFor (linkedTile q) else s)))
/-- LINKED_64BIT_READ (R49). -/
def execLinked64bitRead (q : Linked) (s : State) : Host.Outcome State Fault Refusal :=
  .next (if 3 ≤ s.pstate then { s with readHi := 0 }.setRead 0 0 else s.onBus (·.read64 q))

/-- UNIT_STATE of unit i. -/
def State.unitView (s : State) (i : Nat) : Word :=
  putB (putF (s.rd .unitState i) 0 3 (s.unitCode i)) 5 (s.flag .unitReq 3 i)

def State.pmPinView (s : State) (p : Nat) : Word :=
  if s.pins ≤ p then 0
  else putB (putB (putB (s.rd .pmPin p) 24 (s.pinLevel p)) 25 (s.padClosed p)) 26 (s.pinSafe p)

def State.tileStatView (s : State) (t : Nat) : Word :=
  let w := putF (s.rd .tileStat t) 0 8 (s.runMask t)
  let w := putB w 10 (s.frozen t)
  let w := putB w 11 ((s.tilePins t).any (fun p => s.padClosed p))
  putB w 12 (s.held t || s.isFailed t)

/-- The registers of the bridge function, which read 0 and ignore writes on the FJ4-256 (R24). -/
def bridgeReg : RegName → Bool
  | .tripCtrlA | .tripCtrlB | .tripBlankA | .tripBlankB | .tripLvl | .tripStat | .tripCnt | .tripTimeA | .tripTimeB
  | .brCtrl | .brDt | .brMinpw | .brStat | .pmTrip => true
  | _ => false

/-- The halted-context view (R195): register r of a context. -/
def State.haltedView (s : State) (x r : Nat) : Word :=
  if r < 16 then s.gpr.at 0 (16 * x + r)
  else
    let c := s.ctx x
    match r with
    | 16 => c.pc | 17 => c.sp | 18 => s.psw x | 19 => c.cause | _ => c.prog

/-- The words that a register's name shows beyond what it stores. -/
def State.viewKey (s : State) (k : RegKey) : Word :=
  let i := k.i
  let j := k.j
  match k.name with
  | .unitState => s.unitView i
  | .sysMgmt => putB (s.rd .sysMgmt) 16 (s.alert || s.startHalted)
  | .calstat => putB (s.rd .calstat) 2 (s.longOps.any (·.opcode == 0xA01))
  | .sysCtrl | .droneCtrl | .tileStart | .tileStop | .tileCommit | .calCtrl | .portCtrl | .mbxCtrl | .lockRel | .lockCtrl
  | .hostPm | .hostEoi | .supEoi | .dmaGctrl | .startFeedGo | .startCtrl | .govPstateReq | .ctxCmd | .mlMsgqPop => 0
  | .chCount => s.chCountView i j
  | .chStat => s.chStatView i j
  | .chPwmstat => s.pwmstatView i j
  | .tripStat => s.tripStatView i
  | .tileStat => s.tileStatView i
  | .tileSum => toW (s.tileSum i)
  | .folAngle => s.folAngle i j
  | .folStat => s.folStat i j
  | .pmPin => s.pmPinView i
  | .domStat => s.domStatView i
  | .domAngle => s.domAngle i
  | .calStat => s.calStatView
  | .calDstat => s.calDstatView i
  | .calSlotuse => s.calSlotuseView i
  | .engStat => s.engStatView i
  | .csStat => putB (s.rd .csStat i) 1 (s.patching i)
  | .engIdle => toW ((s.now.toNat - s.idleOff) / 20) - s.rd .engIssue i
  | .ctxStat => s.ctxStatView (ctxOf i j)
  | .ctxPc => (s.ctx (ctxOf i j)).pc
  | .govAoCnt => s.aoView
  | .govPstate => putB (s.rd .govPstate) 3 s.pwrBusy
  | .logFill => toW s.logFill
  | .portStat => s.portStatView i
  | .mlMsgqHdr => s.msgHdr
  | .mlMsgqVal => s.msgVal
  | .mbCtrl => s.mbCtrlView i
  | .vecStat => s.vecStatView i
  | .msixPba => s.pbaView i
  | .intEnClr => s.rd .intEnSet i
  | .intPendClr => s.rd .intPendSet i
  | .prvEnClr => s.rd .prvEnSet i
  | .prvPendClr => s.rd .prvPendSet i
  | .dmaStat => s.dmaStatView i
  | n => s.rd n i j

/-- The linked quantity that a register is the low or the high word of. -/
def linkedOf (k : RegKey) : Option (Linked × Bool) :=
  let g := Fin.ofNat 512 (8 * k.i + k.j)
  match k.name with
  | .droneNowLo => some (.droneNow, false)
  | .droneNowHi => some (.droneNow, true)
  | .chCount => some (.count (Fin.ofNat 64 k.i) (Fin.ofNat 4 (k.j / 2)), k.j % 2 == 1)
  | .chCapLo => some (.capture g, false)
  | .chCapHi => some (.capture g, true)
  | .chCapvLo => some (.captureV g, false)
  | .chCapvHi => some (.captureV g, true)
  | .domSnapLo => some (.snap (Fin.ofNat 16 k.i), false)
  | .domSnapHi => some (.snap (Fin.ofNat 16 k.i), true)
  | _ => none

/-- A register of a fitted unit is read: its value, and what the read does. -/
def State.readKey (s : State) (m : Master) (k : RegKey) : Word × State :=
  if s.keyAbsent k ∨ (bridgeReg k.name ∧ !s.hasBridge) then (0, s)
  else
    let s := s.wakeFor k.unit
    match linkedOf k, k.name with
    | some (q, hi), _ => if hi then (s.readHigh m q, s) else s.readLow m q
    | none, .lock => s.lockRead m k.i
    | none, .supClaim => s.supClaim m
    | none, _ => (s.viewKey k, s)

/-! ## Writes -/

/-- A register whose stored bits a write replaces and whose W1C bits it clears (R6). -/
def State.plainWrite (s : State) (k : RegKey) (v : Word) : State :=
  let row := k.name.row
  let old := s.rd k.name k.i k.j
  s.wr k.name (((old &&& ~~~(toW row.rw)) ||| (v &&& toW row.rw)) &&& ~~~(v &&& toW row.w1c)) k.i k.j

/-- SYS_CMD_MBOX (R312): only the bits of idle pairs change. -/
def State.writeCmdMbox (s : State) (v : Word) : State :=
  let free := (List.range 18).filter (fun k => !s.go (inBox k) && !s.go (outBox k) && (s.repliesOf k).isEmpty)
  s.each free (fun s k => s.setFlag .sysCmdMbox k (getB v k))

/-- SYS_CTRL.CLR_CNT (R8). -/
def State.clrSys (s : State) : State :=
  s.each (List.range 256) (fun s u => s.setFld .unitReq 8 8 0 u) |>.clr .sysAccerr

/-- What a write that `gate` has let through does in the register's unit. Whether a host-fed image passes R378 no operand of
REGISTER_WRITE tells: a free value; START_FEED_GO has it as an operand. -/
def State.writeUnit (s : State) (m : Master) (k : RegKey) (v : Word) : State :=
  let i := k.i
  let j := k.j
  match k.name.block, k.name with
  | _, .sysCtrl => if getB v 31 then s.clrSys else s
  | _, .sysCmdMbox => s.writeCmdMbox v
  | _, .droneCtrl => if getB v 0 then s.clrDroneStats else s
  | .tile, n =>
    if bridgeReg n && !s.hasBridge then s
    else match n with
    | .chCtrl => s.setChCtrl i j v
    | .chPresc => s.writeStopped .chPresc 0xFFFF i j v
    | .chCount => s.writeStopped .chCount 0xFFFFFFFF i j v
    | .chPeriod => s.writeShadow i j .period v
    | .chCmpa => s.writeShadow i j .cmpa v
    | .chCmpb => s.writeShadow i j .cmpb v
    | .chFrac => s.writeShadow i j .frac v
    | .chAct => s.writeShadow i j .act v
    | .chRatio => s.writeShadow i j .ratio v
    | .chPwmctrl => s.writeShadow i j .pwmctrl v
    | .brDt => s.writeShadow i (2 * j) .brDt v
    | .brMinpw => s.writeShadow i (2 * j) .brMinpw v
    | .brCtrl => s.writeBrCtrl i j v
    | .tileCtrl => s.writeTileCtrl i v
    | .tileStart => s.startMask i (getF v 0 8) (s.nextNs i) 0
    | .tileStop => s.stopTile i (getF v 0 8)
    | .tileCommit => s.commitMask i (getF v 0 8) (s.nextNs i)
    | .tileStartArm => s.armStart i (getF v 0 8)
    | .tripStat => s.clearTrips i (getF v 0 8)
    | .tripLvl => s.writeTripLvl i v
    | .folCtrl => s.writeFol i j v
    | .tripCtrlA | .tripCtrlB => (s.withSum i (·.plainWrite k v)).dropTrips (i / 8)
    | _ => s.withSum i (·.plainWrite k v)
  | .pins, .pmPin => if pinOk v then s.storePin i v else s.accErr m k.offset .encoding
  | .pins, .pmTrip => if s.hasBridge then (s.plainWrite k v).dropTrips (i / 8) else s
  | .dom, _ => s.writeDom k v
  | .cal, .calCtrl => if getB v 0 then s.clrCal else s
  | .cal, .calPart => s.writePart i v
  | .cal, .calCqBase => s.writeCq i false v
  | .cal, .calCqSize => s.writeCq i true v
  | .cal, .calCqRd => s.writeCqRd i v
  | .chanter, .ctxCtrl => s.plainWrite k (s.ctxCtrlNew (ctxOf i j) v)
  | .chanter, .ctxCmd => s.ctxCmd (ctxOf i j) (getB v 0) (getB v 1)
  | .gov, .govCtrl => s.writeGov .ctrl v
  | .gov, .govShare => s.writeGov .share v
  | .gov, .govFloor => s.writeGov .floor v
  | .gov, .govDepth => s.writeGov (.depth (Fin.ofNat 3 i)) v
  | .gov, .govThresh => s.writeGov .thresh v
  | .gov, .govThermFact => s.writeGov .thermFact v
  | .gov, .govFcLimit => s.writeGov .fcLimit v
  | .gov, .govEpi => s.writeGov (.epi (Fin.ofNat 8 i)) v
  | .gov, .wwSlot => s.writeWwSlot i v
  | .catalogue, .catW0 => s.writeCat0 i v
  | .catalogue, .catW1 => s.writeCat12 i false v
  | .catalogue, .catW2 => s.writeCat12 i true v
  | .log, .logCtrl => s.writeLogCtrl v
  | .log, .logRing => s.writeLogRing v
  | .log, .logRd => s.writeLogRd v
  | .log, .logThresh => s.writeLogThresh v
  | .port, n =>
    match n with
    | .portCfg => s.writePortCfg i .cfg v
    | .portSpi => s.writePortCfg i .spi v
    | .portSpi2 => s.writePortCfg i .spi2 v
    | .portSent => s.writePortCfg i .sent v
    | .portUart => s.writePortCfg i .uart v
    | .portDmemBase => s.writePortCfg i .dmemBase v
    | .portDmemSize => s.writePortCfg i .dmemSize v
    | .portNotify => s.writePortCfg i .notify v
    | .portTt => s.writeTt i .tt v
    | .portTtArg => s.writeTt i .arg v
    | .portTtPer => s.writeTt i .per v
    | .portTtAtLo => s.writeTt i .atLo v
    | .portTtAtHi => s.writeTt i .atHi v
    | .portCtrl =>
      let s := if getB v 0 then s.portStop i else s
      let s := if getB v 1 then s.portFlush i else s
      if getB v 31 then s.clrPort i else s
    | .portScript => s.writeScript i j v
    | _ => s.plainWrite k v
  | .mortar, _ | .link, _ => s.writeMl k v
  | .mbox, .mbxCtrl => if getB v 0 then s.clrBoxes else s
  | .lock, .lockRel => if getB v 0 then s.lockRelease m i else s
  | .lock, .lockCtrl => if getB v 0 then s.setFld .lockStat 0 16 0 else s
  | .dma, n =>
    match n with
    | .dmaCtrl => s.writeDmaCtrl m i v
    | .dmaRingLo => s.writeRing i .baseLo v
    | .dmaRingHi => s.writeRing i .baseHi v
    | .dmaRingSize => s.writeRing i .size v
    | .dmaHead => s.writeRing i .head v
    | .dmaShare => s.writeRing i .share v
    | .dmaTail => s.writeTail i v
    | .dmaGctrl => if getB v 0 then s.clrDma else s
    | _ => s.plainWrite k v
  | .fault, .fltAck => s.ackFault v
  | .fault, .startCtrl => s.writeStartCtrl v
  | .fault, .startFeedLen => if m = .host then s.wr .startFeedLen (v &&& 0x3FFFFF) else s.accErr m k.offset .privilege
  | .fault, .startFeedGo =>
    if m ≠ .host then s.accErr m k.offset .privilege
    else if getB v 0 then s.drawn.feedGo (Config.freeNs s.freeCtr % 2 = 0)
    else s
  | .fault, .fltEvt => if m = .supervisor then s.accErr m k.offset .privilege else s.plainWrite k v
  | .fault, .startFeed => s
  | _, _ => s.plainWrite k v

/-- A write of UNIT_REQ.SUP_REQ, by the management path only (R308, R309). A request acts as a UNIT_SET; one that R309 does
not allow is dropped and counted. -/
def State.setUnit (s : State) (u v : Nat) : State :=
  if 80 ≤ u ∧ u < 116 then s.withUnit u (·.setPaused u (v == 4))
  else if 120 ≤ u ∧ u < 136 then s.writePause (u - 120) (v == 4)
  else s

/-- What follows a change of a unit's hold: tiles' slots, DMA doorbells and the calendar's staging follow it. -/
def State.heldChange (s : State) (u : Nat) (was : Bool) : State :=
  let now := s.held u
  let s := if u < 64 ∧ now ∧ !was then s.barTile u 10 else s
  let s := if u < 64 ∧ was ∧ !now then s.stageAll u else s
  let s := if u = 136 ∧ was ∧ !now then s.each (List.range s.tiles) State.stageAll else s
  if 120 ≤ u ∧ u < 136 ∧ was ∧ !now then s.dmaReleased (u - 120) else s

def State.supReq (s : State) (u req : Nat) : State :=
  let off := RegKey.offset ⟨.unitReq, u, 0⟩
  if 148 ≤ u ∨ !s.fitted u then s
  else if 6 ≤ req ∨ (1 ≤ req ∧ req ≤ 4 ∧ !unitSetAllows u req) then s.accErr .supervisor off .encoding
  else
    let was := s.held u
    let s := s.withUnit u (·.setFld .unitReq 4 3 req u)
    let s := if 1 ≤ req ∧ req ≤ 4 then s.setUnit u req else s
    s.heldChange u was

/-- SUP_REQ_WRITE (R308). -/
def execSupReqWrite (unit : Fin 256) (req : BitVec 3) (s : State) : Host.Outcome State Fault Refusal :=
  .next (s.onBus (·.supReq unit req.toNat))

/-- SYS_CLR_CNT (R8). -/
def execSysClrCnt (m : Master) (s : State) : Host.Outcome State Fault Refusal :=
  .next (s.access m .sysCtrl 0 0 State.clrSys)
/-- SYS_CMD_MBOX_WRITE (R312). -/
def execSysCmdMboxWrite (m : Master) (v : Word) (s : State) : Host.Outcome State Fault Refusal :=
  .next (s.access m .sysCmdMbox 0 0 (·.writeCmdMbox v))

/-- Registers that have rules of their own on who may write: no gate before them. -/
def State.writeKey (s : State) (m : Master) (k : RegKey) (v : Word) : State :=
  let i := k.i
  let j := k.j
  match k.name with
  | .unitReq => if m = .supervisor then s.supReq i (getF v 4 3) else s.accErr m k.offset .mgmtOnly
  | .mbData => s.writeData m i j v
  | .mbCtrl =>
    let s := if getB v 0 then s.writeGo m i else s
    if getB v 1 then s.writeDone m i else s
  | .mbCfg => s.writeMbCfg m i v
  | .intRoute => s.writeRoute m i v
  | .intEnSet => s.writeEnSet m i v
  | .intEnClr => s.writeEnClr m i v
  | .intPendSet => s.writePendSet m i v
  | .intPendClr => s.writePendClr m i v
  | .prvPendSet => s.writePrvPend m i v
  | .prvRoute | .prvEnSet | .prvEnClr | .prvPendClr => s.writePrv m k v
  | .hostPm => if getB v 0 then s.writeHostPm m else s
  | .hostEoi => s.writeHostEoi m (getF v 0 8)
  | .supEoi => s.writeSupEoi m (getF v 0 8)
  | .intErr => if getB v 31 then s.clrInt m else s
  | .vecMod => s.writeVecMod m i v
  | .msixAddrLo | .msixAddrHi | .msixData | .msixVctrl =>
    if s.intGeneral m then s.plainWrite k v else s.intDrop m k.offset
  | .govBudgetMw => s.gate m .govBudgetMw 0 0 (·.writeBudget m v)
  | .govPstateReq => s.writePstateReq m v
  | n => s.gate m n i j (·.writeUnit m k v)

/-! ## Windows and the bus -/

/-- A byte offset in the task memory window, BAR0 0x0100_0000 (R304). -/
def taskWindow (off : Nat) : Option Nat := if 0x1000000 ≤ off ∧ off < 0x1400000 then some (off - 0x1000000) else none

/-- The register block at an offset, for the masks of R176: 0xFFFF where none lies there. -/
def blockIx (off : Nat) : Nat :=
  if off < 0x100000 then off / 0x10000
  else if off < 0x140000 then 16
  else if 0x200000 ≤ off ∧ off < 0x240000 then 17
  else if 0x2000000 ≤ off ∧ off < 0x2200000 then 18
  else if 0x2200000 ≤ off ∧ off < 0x2201000 then 19
  else 0xFFFF

/-- The management path reaches an address (R304, R323, R324): all blocks of registers but the catalogue and task memory. -/
def supReads (off : Nat) : Bool := decide (blockIx off ≤ 17) || blockIx off == 19

/-- While a start waits for a host-fed image, or is halted, few blocks can be reached (R379, R324). -/
def State.reachable (s : State) (off : Nat) : Bool :=
  (s.startWait.isNone && !s.startHalted) || decide (off < 0x10000) || decide (0xE0000 ≤ off ∧ off < 0xF0000) ||
    (s.startWait.isSome && (taskWindow off).isSome)

/-- Where BAR2 lies among the offsets of the bus rows (the model's own convention, log entry 49). -/
def bar2Base : Nat := 0x80000000

/-- The bytes that BAR2 shows from `off` on: the log store within the ring's Z bytes, and 0 above (R25, R249, R305). -/
def State.bar2Bytes (s : State) (off n : Nat) : List Byte :=
  (List.range n).map (fun i => if off + i < 2 ^ s.fld .logRing 0 5 then s.logMem.byte (off + i) else 0)

/-- The linked quantity whose low word lies at an offset, where a 64-bit access to it is one (R5): a pair of channels only
while it is linked. -/
def State.wideAt (s : State) (off : Nat) : Option Linked :=
  match (regAt off).bind linkedOf with
  | some (.count t p, false) => if s.linked t (2 * p) then some (.count t p) else none
  | some (q, false) => some q
  | _ => none

/-- The engine and context offset of a halted-context view (R195). -/
def haltedAt (off : Nat) : Option (Nat × Nat × Nat) :=
  let o := (off - 0xD0000) % 0x4000
  if 0xD0000 ≤ off ∧ off < 0xE0000 ∧ 0x2000 ≤ o ∧ o % 0x100 < 0x54 ∧ o < 0x4000 then
    some ((off - 0xD0000) / 0x4000, (o - 0x2000) / 0x100, o % 0x100 / 4)
  else none

/-- A read of `width` bytes by a master at a BAR0 offset: the word, and the state after. A dropped one returns 0 and counts
(R5, R306). A BAR2 read may have any width; its bytes are kept, and its first word is the word. -/
def State.busRead (s : State) (m : Master) (off width : Nat) : Word × State :=
  if bar2Base ≤ off ∧ m = .host then
    let bs := s.bar2Bytes (off - bar2Base) width
    (wordOf (bs.getD 0 0) (bs.getD 1 0) (bs.getD 2 0) (bs.getD 3 0), { s with barData := bs })
  else if !s.reachable off then (0, s.accErr m off .reserved)
  else match taskWindow off with
  | some a =>
    if m = .supervisor then (0, s.accErr m off .privilege)
    else if !(width == 1 || width == 2 || width == 4) || off % width != 0 then (0, s.accErr m off .width)
    else if 0x3C0000 ≤ a ∧ !s.isKeystone m then (0, s.accErr m off .privilege)
    else (match width with
      | 1 => BitVec.setWidth 32 (s.taskMem.byte a) | 2 => toW (s.taskMem.half a) | _ => s.tm a, s)
  | none =>
    if width = 8 ∧ off % 8 = 0 ∧ m = .host ∧ (s.wideAt off).isSome then
      match s.wideAt off with
      | some q => let s := s.read64 q; (s.readOf 0, s)
      | none => (0, s)
    else if width ≠ 4 ∨ off % 4 ≠ 0 then (0, s.accErr m off .width)
    else if m = .supervisor ∧ !supReads off then (0, s.accErr m off .privilege)
    else match regAt off, haltedAt off with
    | some k, _ => s.readKey m k
    | none, some (e, l, r) =>
      if e < s.engines then (let s := s.wakeFor (80 + e); (if s.halted e then s.haltedView (ctxOf e l) r else 0, s)) else (0, s)
    | none, none => (0, s.accErr m off .reserved)

/-- A write to the task memory window, or to a register. -/
def State.busWrite (s : State) (m : Master) (off width : Nat) (v : Word) : State :=
  if bar2Base ≤ off ∧ m = .host then s.accErr m off .bar2
  else if !s.reachable off then s.accErr m off .reserved
  else match taskWindow off with
  | some a =>
    if m = .supervisor then s.accErr m off .privilege
    else if !(width == 1 || width == 2 || width == 4) || off % width != 0 then s.accErr m off .width
    else if 0x3C0000 ≤ a ∧ !s.isKeystone m then s.accErr m off .privilege
    else match width with
      | 1 => { s with taskMem := s.taskMem.putByte a (byteOf v 0) }
      | 2 => { s with taskMem := s.taskMem.putHalf a v }
      | _ => s.setTm a v
  | none =>
    if width = 8 ∧ off % 8 = 0 ∧ m = .host ∧ (s.wideAt off).isSome then s
    else if width ≠ 4 ∨ off % 4 ≠ 0 then s.accErr m off .width
    else match regAt off with
    | some k => s.writeKey m k v
    | none => s.accErr m off .reserved

/-- REGISTER_WRITE (R5, R6, R306). -/
def execRegisterWrite (m : Master) (off width : Nat) (v : Word) (s : State) : Host.Outcome State Fault Refusal :=
  .next (s.onBus (·.busWrite m off width v))

/-- DROPPED_READ (R5, R306): a read that returns 0 and counts. Any other read at that offset acts as a read does. -/
def execDroppedRead (m : Master) (off width : Nat) (s : State) : Host.Outcome State Fault Refusal :=
  .next (s.readOn m (·.busRead m off width))

/-! ## The endpoint (R302, R346) -/

/-- PERST_ASSERT: the endpoint resets, with its MSI-X table and the host's latch. -/
def execPerstAssert (s : State) : Host.Outcome State Fault Refusal :=
  let s := s.each (List.range 64) (fun s v =>
    (((s.clr .msixAddrLo v).clr .msixAddrHi v).clr .msixData v).wr .msixVctrl 1 v)
  .next ({ s with hostLink := .reset, d3hot := false, msixOn := false, msixMask := false }.setLatch 0 0)

/-- PERST_RELEASE: the endpoint leaves reset and trains; WAKE# is released. -/
def execPerstRelease (s : State) : Host.Outcome State Fault Refusal :=
  .next (if s.hostLink = .reset then { s with hostLink := .training, wakePin := false } else { s with wakePin := false })

/-- A word of the configuration header, by its number, where R301 gives it: vendor and device, revision and class code, the two BAR
pairs as they are sized (64-bit, BAR0 of 64 MiB not prefetchable, BAR2 of 16 MiB prefetchable; BAR4 and BAR5 not implemented),
and the subsystem. -/
def State.configWord (s : State) (n : Nat) : Option Word :=
  match n with
  | 0 => some (toW (0x1F5C + s.fld .sysId 0 16 * 65536))
  | 2 => some (toW (s.fld .sysRev 0 4 + s.fld .sysRev 8 4 * 16 + 0x118000 * 256))
  | 4 => some 0xFC000004
  | 5 => some 0xFFFFFFFF
  | 6 => some 0xFF00000C
  | 7 => some 0xFFFFFFFF
  | 8 | 9 => some 0
  | 11 => some s.subsys
  | _ => none

/-- PCIE_LINK_TRAINED: once S9 has released the endpoint (R375) the link is up; what has gathered issues where MSI-X is enabled and unmasked (R346). -/
def execPcieLinkTrained (s : State) : Host.Outcome State Fault Refusal :=
  .next (if s.hostLink = .reset ∨ 3 ≤ s.pstate ∨ !s.epUp then s
    else
      let s := { s with hostLink := .up, d3hot := false, wakePin := false }
      s.each ((List.range 64).filter (fun v => s.flag .vecStat 31 v)) State.issueVector)

end Sys2Proof.Machine
end

