-- ==== Sys2Proof/Machine/Operands.lean ====
section
/-! DEFINITION. What every task instruction does alike (07, 08): issue, the operand forms of R173, the windows of R170 and
R171, faults, and how an instruction completes at once or by a fabric reply (R166). A row of a task instruction brings
the instruction that the context issues; task memory is not matched against it. -/

namespace Sys2Proof.Machine

/-! ## Operands -/

/-- simm and uimm of R173. -/
def simm (imm : BitVec 16) : Word := imm.signExtend 32
def uimm (imm : BitVec 16) : Word := imm.setWidth 32

/-- The address rs + simm. -/
def State.ea (s : State) (x : Nat) (rs : GReg) (imm : BitVec 16) : Word := s.g x rs + simm imm

/-- The register after r, modulo 16. -/
def nextG (r : GReg) : GReg := r + 1

/-! ## Faults -/

def fcWindow : Nat := 0x10
def fcAlign : Nat := 0x11
def fcIllegal : Nat := 0x12
def fcPriv : Nat := 0x13
def fcReturn : Nat := 0x14
def fcStack : Nat := 0x15
def fcVector : Nat := 0x16
def fcParity : Nat := 0x20
def fcLockstep : Nat := 0x21
def fcMemory : Nat := 0x22

/-- An instruction faults: nothing else changes, and the fault is on its way to Keystone (R166, R205). -/
def State.raiseFault (s : State) (x code : Nat) (addr : Nat := 0) : State :=
  s.onCtx x (fun c => { c with fault := some { code := code, pc := c.pc, addr := addr } })

/-- MC_LAST.CODE and CTX, MC_TIME, and CTX_CAUSE and CTX_FAULT_PC of a machine check (R197, R212). -/
def State.noteCheck (s : State) (e code l : Nat) : State :=
  let s := ((s.setFld .mcLast 16 8 code e).setFld .mcLast 24 5 l e).wr .mcTime (ns32 (s.clock (islEngine e))) e
  (s.wr .ctxCause (toW code) e l).wr .ctxFaultPc (s.ctx (ctxOf e l)).pc e l

/-- An uncorrectable word is read (R367): MC_MEMORY, counted in CS_STAT.MEMORY (R215). -/
def State.memoryCheck (s : State) (x addr : Nat) : State :=
  (((s.lostWord 255 1 (addr / 4)).bump .csStat 24 8 (x / 32)).noteCheck (x / 32) fcMemory (x % 32)).raiseFault x fcMemory addr

/-! ## Windows -/

/-- The range of n bytes from a lies in the window. -/
def State.inWindow (s : State) (x : Nat) (base size : RegName) (a n : Nat) : Bool :=
  decide ((s.cr base x).toNat ≤ a ∧ a + n ≤ (s.cr base x).toNat + (s.cr size x).toNat)

/-- The kinds of access of R170. -/
inductive AccKind where
  | fetch | load | store
  deriving DecidableEq, Repr

/-- The context may make the access (R170, R210): Keystone anywhere in task memory. -/
def State.grants (s : State) (x : Nat) (k : AccKind) (a n : Nat) : Bool :=
  if s.privOf x = 0 then decide (a + n ≤ 0x400000)
  else decide (a + n ≤ 0x3C0000) && (match k with
    | .fetch => s.inWindow x .codeBase .codeSize a n
    | .load => s.inWindow x .dataBase .dataSize a n || s.inWindow x .tabBase .tabSize a n
    | .store => s.inWindow x .dataBase .dataSize a n)

/-- The fault of an access, WINDOW before ALIGN (DESIGN CHOICE, log entry 35). -/
def State.accFault (s : State) (x : Nat) (k : AccKind) (a n align : Nat) : Option Nat :=
  if !s.grants x k a n then some fcWindow else if a % align ≠ 0 then some fcAlign else none

/-- The first uncorrectable word that n bytes from a touch (R367). -/
def State.badWordIn (s : State) (a n : Nat) : Option Nat := s.badTm.find? (fun b => decide (a / 4 * 4 ≤ b ∧ b < a + n))

/-- A checked read of n bytes: `f` where it is granted and correctable. -/
def State.reading (s : State) (x : Nat) (a n align : Nat) (f : State → State) : State :=
  match s.accFault x .load a n align with
  | some code => s.raiseFault x code
  | none => match s.badWordIn a n with
    | some b => s.memoryCheck x b
    | none => f s

/-- A checked write of n bytes. -/
def State.writing (s : State) (x : Nat) (a n align : Nat) (f : State → State) : State :=
  match s.accFault x .store a n align with
  | some code => s.raiseFault x code
  | none => f s

/-! ## Issue -/

/-- The engine issues for the context: not retired, not paused for tasks (R309), and halted only for a debug step (R195). -/
def State.engIssues (s : State) (x : Nat) : Bool :=
  let e := x / 32
  decide (e < s.engines) && decide (s.pstate = 0) && !s.isFailed (80 + e) && !(s.paused.contains (80 + e) && decide (3 ≤ x % 32)) &&
  !(s.halted e && !(s.flag .engDbg 1 e && s.fld .engDbg 4 5 e == x % 32))

/-- The engine is in Run and can issue the context's instructions, and its class is admitted (R165, R236). -/
def State.mayRun (s : State) (x : Nat) : Bool := s.engIssues x && s.admitted (x / 32) (s.cf .ctxCtrl 4 2 x)

/-- The context is ready at time t (R165, R166). -/
def State.readyIn (s : State) (t : Stamp) (x : Nat) : Bool :=
  s.readyBut x && s.mayRun x && decide ((s.ctx x).readyAt.toNat ≤ t.toNat)

/-- The place of local context l in the order of its priority: the one after that which issued last is first (R165). -/
def State.turn (s : State) (x : Nat) : Nat := (x % 32 + 31 - s.lastIssue.at 0 (16 * (x / 32) + s.cf .ctxCtrl 0 4 x)) % 32

/-- Context y, of the same engine, is chosen before x (R165). -/
def State.before (s : State) (y x : Nat) : Bool :=
  x % 32 != 0 && (y % 32 == 0 || decide (s.cf .ctxCtrl 0 4 y < s.cf .ctxCtrl 0 4 x) ||
    (s.cf .ctxCtrl 0 4 y == s.cf .ctxCtrl 0 4 x && decide (s.turn y < s.turn x)))

/-- No context of the engine that is ready at time t is chosen before x (R165). -/
def State.chosen (s : State) (t : Stamp) (x : Nat) : Bool :=
  (List.range 32).all (fun l => !(s.before (ctxOf (x / 32) l) x && s.readyIn t (ctxOf (x / 32) l)))

/-- The cycle in which the context's next instruction issues: the engine issues one in each cycle, and the context's last one has
run its cycles (R165, R166). -/
def State.issueAt (s : State) (x : Nat) : Stamp :=
  toS (max s.now.toNat (max (s.cycleAt.at 0 (x / 32)).toNat (s.ctx x).readyAt.toNat))

/-- The context is ready and the one that its engine takes (R165). -/
def State.canIssue (s : State) (x : Nat) : Bool := s.readyBut x && s.mayRun x && s.chosen (s.issueAt x) x

/-- The cycles of an opcode (R174), and of a search step or a copied block (R188, R189); a request on the fabric takes as long as
its reply does. -/
def cyclesOf (op : Nat) : Nat :=
  if op ∈ [0x09, 0x0A, 0x0B, 0x21, 0x40, 0x48, 0x4A, 0x4B, 0x71] then 2
  else if op = 0x0C ∨ op = 0x0D then 18
  else if op = 0x53 then 10
  else if op = 0x54 then 8
  else if op = 0x78 ∨ op = 0x79 then 12
  else if op = 0x7A ∨ op = 0x7B then 16
  else 1

/-- The context's next instruction issues n engine cycles from now, of 20 fine ticks each. -/
def State.hold (s : State) (x n : Nat) : State := s.onCtx x (fun c => { c with readyAt := toS (s.now.toNat + 20 * n) })

/-- An instruction of opcode op is counted in its cycle, and the context goes behind those of its priority (R165, R166). -/
def State.countIssue (s : State) (x op : Nat) : State :=
  let e := x / 32
  let s := s.reach (s.issueAt x)
  let s := (((s.wakeIsland e).bumpW .engIssue 0 32 e).bumpW .ctxIssued 0 32 e (x % 32)).touch e
  let s := { s with
    lastIssue := s.lastIssue.set 0 (16 * e + s.cf .ctxCtrl 0 4 x) (x % 32)
    cycleAt := s.cycleAt.set 0 e (toS (s.now.toNat + 20)) }
  s.hold x (cyclesOf op)

/-- n microwords of energy class c are charged to the class of the context (R224). -/
def State.chargeWords (s : State) (x c n : Nat) : State :=
  let i := 4 * (x / 32) + s.cf .ctxCtrl 4 2 x
  { s with unsettled := s.unsettled.set 0 i (s.unsettled.at 0 i + n * s.fld .govEpi 0 16 c) }

/-- The energy class of a step of a long instruction (the energy table of 09): a table step, a block step. -/
def stepClass (op : Nat) : Option Nat :=
  if op = 0x78 ∨ op = 0x79 then some 5 else if op = 0x7A ∨ op = 0x7B then some 6 else none

/-- What one issue of an opcode with the base image's microcode is charged (R224). -/
def State.chargeOp (s : State) (x op : Nat) : State :=
  let s := s.each (List.range 8) (fun s c => s.chargeWords x c (Config.microwords op c))
  match stepClass op with | some c => s.chargeWords x c 1 | none => s

/-! ## Microcode of a patch (R216 to R219) -/

/-- Words that the model cannot follow have run: what they leave in the context's registers and flags is free (log entry 74). -/
def State.microEnd (s : State) (x : Nat) : State :=
  let s := s.each (List.range 16) (fun s r => (s.setG x (Fin.ofNat 16 r) (Config.freeWord s.freeCtr)).drawn)
  s.drawn.onCtx x (fun c => { c with psw := putF c.psw 0 4 (getF (Config.freeWord s.freeCtr) 0 4), pc := c.pc + 4 })

/-- Microcode runs from address a, with the return addresses of its micro-calls: at most `fuel` words. A patched word is judged
by PRIV_MIN, charged by EPI and followed by SEQ; whether a COND is met is free; an unpatched word of the patch area raises
ILLEGAL; the base image's are not listed (log entry 74). -/
def State.microRun : Nat → State → Nat → Nat → List Nat → State
  | 0, s, x, _, _ => s.microEnd x
  | fuel + 1, s, x, a, calls =>
    match s.micro.at [] (8192 * (x / 32) + a) with
    | w0 :: w1 :: _ :: w3 :: _ =>
      if getF w1 26 2 < s.privOf x then s.raiseFault x fcPriv
      else
        let s := s.chargeWords x (getF w3 0 3) 1
        let next := (a + 1) % 8192
        let target := getF w0 0 13
        match getF w0 13 3 with
        | 0 => State.microRun fuel s x next calls
        | 1 | 6 => State.microRun fuel s x target calls
        | 2 => State.microRun fuel s.drawn x (if Config.freeNs s.freeCtr % 2 = 1 then target else next) calls
        | 3 => State.microRun fuel s x target (next :: calls)
        | 4 => match calls with | r :: l => State.microRun fuel s x r l | [] => s.microEnd x
        | _ => s.microEnd x
    | _ => if 0x1C00 ≤ a then s.raiseFault x fcIllegal else s.microEnd x

/-- An opcode dispatched (R216): its start address, none where its entry is not valid. `listed`: R174 lists it. -/
def State.startOf (s : State) (e op : Nat) (listed : Bool) : Option Nat :=
  match s.dispatch.at none (256 * e + op) with
  | some w => if getB w 15 then some (getF w 0 13) else none
  | none => if listed then some (Config.baseStart op % 8192) else none

/-- The opcode runs the base image's own microcode: a patch has moved neither its entry nor its first word. -/
def State.isBase (s : State) (e op : Nat) : Bool :=
  match s.dispatch.at none (256 * e + op) with
  | some w => getF w 0 13 == Config.baseStart op % 8192 && (s.micro.at [] (8192 * e + getF w 0 13)).isEmpty
  | none => s.micro.isEmpty || (s.micro.at [] (8192 * e + Config.baseStart op % 8192)).isEmpty

/-- A ready context issues an instruction with opcode `op`: fetched from the code window and dispatched, it does `f` under the
base image's microcode, its unused fields 0 (`fits`), and else what a patch defines (R165, R171, R173, R216). -/
def State.issue (s : State) (x : Nat) (op : Nat) (fits : Bool) (f : State → State) (listed : Bool := true) : State :=
  if !s.canIssue x then s
  else
    let s := s.countIssue x op
    match s.accFault x .fetch (s.ctx x).pc.toNat 4 4 with
    | some code => s.raiseFault x code
    | none =>
      match s.startOf (x / 32) op listed with
      | none => s.raiseFault x fcIllegal
      | some a =>
        if !(listed && s.isBase (x / 32) op) then State.microRun 8192 s x a []
        else if fits then f (s.chargeOp x op)
        else s.raiseFault x fcIllegal

/-! ## Completion -/

/-- PC goes on to the next instruction. -/
def State.advance (s : State) (x : Nat) : State := s.onCtx x (fun c => { c with pc := c.pc + 4 })

/-- A result with its flags. -/
def State.result (s : State) (x : Nat) (rd : GReg) (r psw : Word) : State :=
  (s.setG x rd r).onCtx x (fun c => { c with psw := psw, pc := c.pc + 4 })

/-- A fabric request is out; its reply will write the registers and move on (R166). -/
def State.await (s : State) (x : Nat) (regs : List (GReg × Word)) (unit : Bool := false) : State :=
  s.onCtx x (fun c => { c with out := some { regs := regs, pc := c.pc + 4, unit := unit } })

/-- FABRIC_REPLY (R166): the reply returns and the context may issue again; on a halted engine it acts at the resume (R195).
The reply of a system lock comes from the root (R295). -/
def State.fabricReply (s : State) (x : Nat) : State :=
  match (s.ctx x).out with
  | some r =>
    if r.sysLock.isSome then s
    else
      let s := r.regs.foldl (fun s (g, w) => s.setG x g w) s
      (s.onCtx x (fun c => { c with out := none, pc := r.pc, sp := r.sp.getD c.sp })).touch (x / 32)
  | none => s

def execFabricReply (x : Fin 128) (ts : Stamp) (s : State) : Host.Outcome State Fault Refusal :=
  .next (s.happens (islEngine (x / 32)) ts (fun s => !(s.ctx x).stopping && !s.halted (x / 32)) (·.fabricReply x))

/-- The value of a task memory access of 1, 2 or 4 bytes. -/
def State.loadVal (s : State) (a width : Nat) (signed : Bool) : Word :=
  match width with
  | 1 => let b := s.taskMem.byte a; if signed then b.signExtend 32 else b.setWidth 32
  | 2 => let h := s.taskMem.half a; if signed then sxW 16 h else toW h
  | _ => s.tm a

/-- A store of 1, 2 or 4 bytes. A word written whole heals (R367). -/
def State.storeVal (s : State) (a width : Nat) (w : Word) : State :=
  match width with
  | 1 => { s with taskMem := s.taskMem.putByte a (byteOf w 0) }
  | 2 => { s with taskMem := s.taskMem.putHalf a w }
  | _ => s.setTm a w

end Sys2Proof.Machine
end

