-- ==== Sys2Proof/Machine/Alu.lean ====
section
/-! DEFINITION. The arithmetic, logic, move and special register instructions (R167, R174, R175). -/

namespace Sys2Proof.Machine

/-- An instruction of two operands a and b: result and flags. -/
def State.binary (s : State) (x op : Nat) (fits : Bool) (rd : GReg) (a b : State → Word)
    (f : Word → Word → Word → Word × Word) : State :=
  s.issue x op fits (fun s => let (r, psw) := f (s.psw x) (a s) (b s); s.result x rd r psw)

/-- A compare: flags only. -/
def State.compare (s : State) (x op : Nat) (a b : State → Word) : State :=
  s.issue x op true (fun s => (s.onCtx x (fun c => { c with psw := flagsSub c.psw (a s) (b s) })).advance x)

def fAdd (psw a b : Word) : Word × Word := (a + b, flagsAdd psw a b)
def fSub (psw a b : Word) : Word × Word := (a - b, flagsSub psw a b)
/-- A result that sets Z and N only. -/
def fZN (g : Word → Word → Word) (psw a b : Word) : Word × Word := (g a b, flagsZN psw (g a b))
def fShift (g : Word → Nat → Word × Option Bool) (psw a b : Word) : Word × Word :=
  let (r, c) := g a (getF b 0 5)
  (r, flagsShift psw r c)
def fDiv (g : Word → Word → Word × Bool) (psw a b : Word) : Word × Word :=
  let (r, v) := g a b
  (r, putB (flagsZN psw r) psV v)

/-- rd, rs, rt. -/
def State.rrr (s : State) (x op : Nat) (rd rs rt : GReg) (f : Word → Word → Word → Word × Word) : State :=
  s.binary x op true rd (·.g x rs) (·.g x rt) f

section
variable (x : Fin 128) (rd rs rt : GReg) (imm : BitVec 16) (s : State)

def execAdd : Host.Outcome State Fault Refusal := .next (s.rrr x 0x01 rd rs rt fAdd)
def execSub : Host.Outcome State Fault Refusal := .next (s.rrr x 0x02 rd rs rt fSub)
def execAnd : Host.Outcome State Fault Refusal := .next (s.rrr x 0x03 rd rs rt (fZN (· &&& ·)))
def execOr : Host.Outcome State Fault Refusal := .next (s.rrr x 0x04 rd rs rt (fZN (· ||| ·)))
def execXor : Host.Outcome State Fault Refusal := .next (s.rrr x 0x05 rd rs rt (fZN (· ^^^ ·)))
def execShl : Host.Outcome State Fault Refusal := .next (s.rrr x 0x06 rd rs rt (fShift shl))
def execShr : Host.Outcome State Fault Refusal := .next (s.rrr x 0x07 rd rs rt (fShift shr))
def execSar : Host.Outcome State Fault Refusal := .next (s.rrr x 0x08 rd rs rt (fShift sar))
def execMul : Host.Outcome State Fault Refusal := .next (s.rrr x 0x09 rd rs rt (fZN (· * ·)))
def execMulh : Host.Outcome State Fault Refusal := .next (s.rrr x 0x0A rd rs rt (fZN mulh))
def execMulhu : Host.Outcome State Fault Refusal := .next (s.rrr x 0x0B rd rs rt (fZN mulhu))
def execDiv : Host.Outcome State Fault Refusal := .next (s.rrr x 0x0C rd rs rt (fDiv divS))
def execDivu : Host.Outcome State Fault Refusal := .next (s.rrr x 0x0D rd rs rt (fDiv divU))
def execMin : Host.Outcome State Fault Refusal := .next (s.rrr x 0x0E rd rs rt (fZN minS))
def execMax : Host.Outcome State Fault Refusal := .next (s.rrr x 0x0F rd rs rt (fZN maxS))
def execCmp : Host.Outcome State Fault Refusal := .next (s.compare x 0x10 (·.g x rs) (·.g x rt))
def execAddi : Host.Outcome State Fault Refusal := .next (s.binary x 0x11 true rd (·.g x rs) (fun _ => simm imm) fAdd)
def execAndi : Host.Outcome State Fault Refusal :=
  .next (s.binary x 0x13 true rd (·.g x rs) (fun _ => uimm imm) (fZN (· &&& ·)))
def execOri : Host.Outcome State Fault Refusal :=
  .next (s.binary x 0x14 true rd (·.g x rs) (fun _ => uimm imm) (fZN (· ||| ·)))
def execXori : Host.Outcome State Fault Refusal :=
  .next (s.binary x 0x15 true rd (·.g x rs) (fun _ => uimm imm) (fZN (· ^^^ ·)))
/-- The immediate shifts use imm[4:0]; the bits above are unused (R173). -/
def execShli : Host.Outcome State Fault Refusal :=
  .next (s.binary x 0x16 (decide (imm.toNat < 32)) rd (·.g x rs) (fun _ => uimm imm) (fShift shl))
def execShri : Host.Outcome State Fault Refusal :=
  .next (s.binary x 0x17 (decide (imm.toNat < 32)) rd (·.g x rs) (fun _ => uimm imm) (fShift shr))
def execSari : Host.Outcome State Fault Refusal :=
  .next (s.binary x 0x18 (decide (imm.toNat < 32)) rd (·.g x rs) (fun _ => uimm imm) (fShift sar))
def execCmpi : Host.Outcome State Fault Refusal := .next (s.compare x 0x1A (·.g x rs) (fun _ => simm imm))
def execMovi : Host.Outcome State Fault Refusal :=
  .next (s.issue x 0x1C true (fun s => (s.setG x rd (simm imm)).advance x))
def execMovhi : Host.Outcome State Fault Refusal :=
  .next (s.issue x 0x1D true (fun s => (s.setG x rd (uimm imm <<< 16)).advance x))
def execMov : Host.Outcome State Fault Refusal :=
  .next (s.issue x 0x1E true (fun s => (s.setG x rd (s.g x rs)).advance x))
end

/-! ## Special registers -/

/-- A special register as MFS reads it; NOW_LO reads the engine island's copy and fills the context's latch (R47, R167). -/
def State.readSpecial (s : State) (x n : Nat) : Option (Word × State) :=
  let c := s.ctx x
  match n with
  | 0 => some (c.pc, s)
  | 1 => some (c.sp, s)
  | 2 => some (s.psw x, s)
  | 3 => some (c.cause, s)
  | 4 => some (c.prog, s)
  | 5 => some (toW x, s)
  | 6 => let t := s.clock (islEngine (x / 32)); some (loW t, s.setLatch (2 + x) (hiW t))
  | 7 => some (s.latchOf (2 + x), s)
  | 8 => some (toW c.evq.length, s)
  | _ => none

def execMfs (x : Fin 128) (rd : GReg) (imm : BitVec 16) (s : State) : Host.Outcome State Fault Refusal :=
  .next (s.issue x 0x20 true (fun s =>
    match s.readSpecial x imm.toNat with
    | some (w, s) => (s.setG x rd w).advance x
    | none => s.raiseFault x fcIllegal))

/-- NOINT written (R204): from 0 to 1 a count starts, and with LIMIT 0 it expires at once. `afresh`: a RETE, which starts
the count whatever NOINT was. -/
def State.setNoint (s : State) (x : Nat) (v afresh : Bool) : State :=
  let old := getB (s.psw x) psNoint
  if v && (!old || afresh) then
    (if s.cf .ctxNointLim 0 12 x = 0 then
      (s.onCtx x (fun c => { c with psw := putB (putB c.psw psNoint false) psOverstay true })).bump .ctxErrcnt 24 8 (x / 32) (x % 32)
    else s.onCtx x (fun c => { c with psw := putB c.psw psNoint true, nointAt := s.clock (islEngine (x / 32)) }))
  else s.onCtx x (fun c => { c with psw := putB c.psw psNoint v })

/-- A write of PSW (R167): Z, N, C, V, NOINT, and 0 to OVERSTAY; by Keystone every field. -/
def State.writePsw (s : State) (x : Nat) (v : Word) : State :=
  let s := if s.privOf x = 0 then
      s.onCtx x (fun c => { c with psw := putB (v &&& 0x1FFF) psNoint (getB c.psw psNoint) })
    else
      s.onCtx x (fun c => { c with
        psw := putB (putF c.psw 0 4 (getF v 0 4)) psOverstay (getB c.psw psOverstay && getB v psOverstay) })
  s.setNoint x (getB v psNoint) false

def execMts (x : Fin 128) (rs : GReg) (imm : BitVec 16) (s : State) : Host.Outcome State Fault Refusal :=
  .next (s.issue x 0x21 true (fun s =>
    let v := s.g x rs
    let key := decide (s.privOf x = 0)
    match imm.toNat with
    | 1 => (s.onCtx x (fun c => { c with sp := v })).advance x
    | 2 => (s.writePsw x v).advance x
    | 3 => (if key then s.onCtx x (fun c => { c with cause := v }) else s).advance x
    | 4 => if key then (s.onCtx x (fun c => { c with prog := v })).advance x else s.raiseFault x fcPriv
    | 5 | 6 | 7 | 8 => s.advance x
    | _ => s.raiseFault x fcIllegal))

end Sys2Proof.Machine
end

