-- ==== Sys2Proof/Machine/LoadStore.lean ====
section
/-! DEFINITION. Loads, stores, the stack, REGRD and REGWR, and the branches (R170 to R176). A load reads memory when it
issues and its reply writes rd (DEDUCED, log entry 36). -/

namespace Sys2Proof.Machine

/-- A load of `width` bytes. -/
def State.load (s : State) (x op : Nat) (rd rs : GReg) (imm : BitVec 16) (width : Nat) (signed : Bool) : State :=
  s.issue x op true (fun s =>
    let a := (s.ea x rs imm).toNat
    s.reading x a width width (fun s => s.await x [(rd, s.loadVal a width signed)]))

/-- A store of the low `width` bytes of rd. -/
def State.store (s : State) (x op : Nat) (rd rs : GReg) (imm : BitVec 16) (width : Nat) : State :=
  s.issue x op true (fun s =>
    let a := (s.ea x rs imm).toNat
    s.writing x a width width (fun s => (s.storeVal a width (s.g x rd)).advance x))

section
variable (x : Fin 128) (rd rs : GReg) (imm : BitVec 16) (s : State)
def execLdw : Host.Outcome State Fault Refusal := .next (s.load x 0x30 rd rs imm 4 false)
def execLdh : Host.Outcome State Fault Refusal := .next (s.load x 0x31 rd rs imm 2 true)
def execLdhu : Host.Outcome State Fault Refusal := .next (s.load x 0x32 rd rs imm 2 false)
def execLdb : Host.Outcome State Fault Refusal := .next (s.load x 0x33 rd rs imm 1 true)
def execLdbu : Host.Outcome State Fault Refusal := .next (s.load x 0x34 rd rs imm 1 false)
def execStw : Host.Outcome State Fault Refusal := .next (s.store x 0x38 rd rs imm 4)
def execSth : Host.Outcome State Fault Refusal := .next (s.store x 0x39 rd rs imm 2)
def execStb : Host.Outcome State Fault Refusal := .next (s.store x 0x3A rd rs imm 1)
end

/-! ## The stack -/

/-- A word pushed; `f` follows where the push is granted (R171: SP stays on a fault). -/
def State.push (s : State) (x : Nat) (w : Word) (f : State → State) : State :=
  let a := (s.ctx x).sp - 4
  s.writing x a.toNat 4 4 (fun s => f ((s.setTm a.toNat w).onCtx x (fun c => { c with sp := a })))

def execPush (x : Fin 128) (rd : GReg) (s : State) : Host.Outcome State Fault Refusal :=
  .next (s.issue x 0x3C true (fun s => s.push x (s.g x rd) (·.advance x)))

/-- A word popped: what the reply does with it. -/
def State.pop (s : State) (x : Nat) (f : Word → Reply) : State :=
  let sp := (s.ctx x).sp
  s.reading x sp.toNat 4 4 (fun s => s.onCtx x (fun c => { c with out := some { f (s.tm sp.toNat) with sp := some (sp + 4) } }))

def execPop (x : Fin 128) (rd : GReg) (s : State) : Host.Outcome State Fault Refusal :=
  .next (s.issue x 0x3D true (fun s => s.pop x (fun w => { regs := [(rd, w)], pc := (s.ctx x).pc + 4 })))

/-! ## Branches. A target outside the code window faults at its fetch, with PC left there (R171). -/

def State.jump (s : State) (x : Nat) (a : Word) : State := s.onCtx x (fun c => { c with pc := a })

/-- PC + 4 + 4 × simm. -/
def State.branchTo (s : State) (x : Nat) (imm : BitVec 16) : Word := (s.ctx x).pc + 4 + simm imm * 4

/-- A branch on a condition of the PSW; one that is taken runs for 2 cycles (R174). -/
def State.branch (s : State) (x op : Nat) (imm : BitVec 16) (cond : Word → Bool) : State :=
  s.issue x op true (fun s => if cond (s.psw x) then (s.jump x (s.branchTo x imm)).hold x 2 else s.advance x)

section
variable (x : Fin 128) (imm : BitVec 16) (rs : GReg) (s : State)
def execB : Host.Outcome State Fault Refusal := .next (s.branch x 0x40 imm (fun _ => true))
def execBeq : Host.Outcome State Fault Refusal := .next (s.branch x 0x41 imm (fun p => getB p psZ))
def execBne : Host.Outcome State Fault Refusal := .next (s.branch x 0x42 imm (fun p => !getB p psZ))
def execBlt : Host.Outcome State Fault Refusal := .next (s.branch x 0x43 imm (fun p => getB p psN != getB p psV))
def execBge : Host.Outcome State Fault Refusal := .next (s.branch x 0x44 imm (fun p => getB p psN == getB p psV))
def execBltu : Host.Outcome State Fault Refusal := .next (s.branch x 0x45 imm (fun p => !getB p psC))
def execBgeu : Host.Outcome State Fault Refusal := .next (s.branch x 0x46 imm (fun p => getB p psC))
def execCall : Host.Outcome State Fault Refusal :=
  .next (s.issue x 0x48 true (fun s => s.push x ((s.ctx x).pc + 4) (fun t => t.jump x (s.branchTo x imm))))
def execJr : Host.Outcome State Fault Refusal := .next (s.issue x 0x4A true (fun s => s.jump x (s.g x rs)))
def execCallr : Host.Outcome State Fault Refusal :=
  .next (s.issue x 0x4B true (fun s => s.push x ((s.ctx x).pc + 4) (fun t => t.jump x (s.g x rs))))
end

def execRet (x : Fin 128) (s : State) : Host.Outcome State Fault Refusal :=
  .next (s.issue x 0x49 true (fun s => s.pop x (fun w => { pc := w })))

/-! ## BAR0 registers -/

/-- The tile of a tile register's offset. -/
def tileAt (off : Nat) : Option Nat := (regAt off).bind (fun k => if k.name.block = .tile then some k.i else none)

/-- A tile is set in CTX_TILES. -/
def State.hasTile (s : State) (x t : Nat) : Bool := if t < 32 then getB (s.cr .ctxTilesLo x) t else getB (s.cr .ctxTilesHi x) (t - 32)

/-- A register lies in an absent unit. Which units and sources there are can be read of absent ones too (R20, R23). -/
def State.regAbsent (s : State) (k : RegKey) : Bool :=
  s.keyAbsent k && !(k.name == .unitState || k.name == .unitReq || k.name == .intRoute)

/-- REGRD and REGWR reach the offset (R176, R22): a register block, within the masks for a task, or the task memory window for
others, and no absent unit. -/
def State.regReach (s : State) (x off : Nat) : Bool :=
  (if s.privOf x < 2 then decide (blockIx off ≤ 19) || (taskWindow off).isSome
   else decide (blockIx off ≤ 18) && getB (s.cr .ctxIomask x) (blockIx off)) &&
  (match regAt off with
   | some k => !s.regAbsent k
   | none => true) &&
  (decide (s.privOf x < 2) || blockIx off != 16 || s.hasTile x ((off - 0x100000) / 0x1000))

/-- The fault of an access to a BAR0 register. -/
def State.regFault (s : State) (x off : Nat) : Option Nat :=
  if !s.regReach x off then some fcWindow else if off % 4 ≠ 0 then some fcAlign else none

/-- REGRD (R176): the context is the master. -/
def execRegrd (x : Fin 128) (rd rs : GReg) (imm : BitVec 16) (s : State) : Host.Outcome State Fault Refusal :=
  .next (s.issue x 0x3E true (fun s =>
    let off := (s.ea x rs imm).toNat
    match s.regFault x off with
    | some code => s.raiseFault x code
    | none => let (w, s) := s.busRead (.ctx x) off 4; s.await x [(rd, w)]))

/-- REGWR (R176, R208). -/
def execRegwr (x : Fin 128) (rd rs : GReg) (imm : BitVec 16) (s : State) : Host.Outcome State Fault Refusal :=
  .next (s.issue x 0x3F true (fun s =>
    let off := (s.ea x rs imm).toNat
    if 2 ≤ s.privOf x then s.raiseFault x fcPriv
    else match s.regFault x off with
    | some code => s.raiseFault x code
    | none => (s.busWrite (.ctx x) off 4 (s.g x rd)).await x []))

end Sys2Proof.Machine
end

