-- ==== Sys2Proof/Machine/Reach.lean ====
section
/-! DEFINITION. The instructions that reach other units (R180 to R186), YIELD and END. A fabric request acts when it issues
(DEDUCED, log entry 36). -/

namespace Sys2Proof.Machine

/-- YIELD: having issued last, the context stands behind the others of its priority (R165). -/
def execYield (x : Fin 128) (s : State) : Host.Outcome State Fault Refusal := .next (s.issue x 0x51 true (·.advance x))

/-- END: the context enters DONE (R190); PC stays on it (DESIGN CHOICE, log entry 37). -/
def execEndTask (x : Fin 128) (s : State) : Host.Outcome State Fault Refusal := .next (s.issue x 0x52 true (·.setCtxState x 4))

/-- POST's answer (R186). -/
def State.postTo (s : State) (x t : Nat) (v : Word) : Nat × State :=
  if 32 * s.engines ≤ t then (stAbsent, s)
  else if (2 ≤ s.privOf x ∧ t % 32 ≤ 2) ∨ ¬(s.ctxState t = 2 ∨ s.ctxState t = 3) then (stDenied, s)
  else (stOk, s.post t v (evTag 3 x))

def execPost (x : Fin 128) (rd rs : GReg) (imm : BitVec 16) (s : State) : Host.Outcome State Fault Refusal :=
  .next (s.issue x 0x55 (decide (imm.toNat < 128)) (fun s =>
    let (st, s) := s.postTo x imm.toNat (s.g x rs)
    s.await x [(rd, toW st)]))

/-! ## The calendar -/

/-- Status in [31:16] and handle in [15:0]. -/
def armWord (st handle : Nat) : Word := toW (st * 65536 + handle % 65536)

/-- The six words of an arm block. -/
def State.armBlock (s : State) (a : Nat) : ArmWords :=
  { w0 := s.tm a, w1 := s.tm (a + 4), w2 := s.tm (a + 8), w3 := s.tm (a + 12), w4 := s.tm (a + 16), w5 := s.tm (a + 20) }

/-- ARM (R180): a block that faults submits nothing. -/
def execArm (x : Fin 128) (rd rs : GReg) (s : State) : Host.Outcome State Fault Refusal :=
  .next (s.issue x 0x60 true (fun s =>
    let a := (s.g x rs).toNat
    s.reading x a 24 4 (fun s =>
      let ((st, h), s) := s.armDecision (.ctx x) (s.armBlock a)
      s.await x [(rd, armWord st (if st = stOk then h.toNat else 0))] true)))

def execCancel (x : Fin 128) (rd rs : GReg) (s : State) : Host.Outcome State Fault Refusal :=
  .next (s.issue x 0x61 true (fun s =>
    let h := getF (s.g x rs) 0 16
    let (st, s) := s.cancelDecision (.ctx x) h
    s.await x [(rd, armWord st h)] true))

/-- CANCEL with imm[0] = 1: a flush of the context's own entries (R159, R180), whatever its privilege; an absent domain
raises WINDOW (R22). -/
def execCancelFlush (x : Fin 128) (rd rs : GReg) (s : State) : Host.Outcome State Fault Refusal :=
  .next (s.issue x 0x61 true (fun s =>
    let d := getF (s.g x rs) 0 4
    if s.domains ≤ d then s.raiseFault x fcWindow
    else
      let own := (s.entriesOf d).filter (fun i => s.cancellable i && s.eOwner i == x.val)
      (s.each own (fun s i => s.cancelEntry i)).await x [(rd, armWord stOk (getF (s.g x rs) 0 16))] true))

/-! ## Tiles -/

/-- The offsets of a tile block that TILEWR may write (R181). -/
def State.tileOffOk (s : State) (x off : Nat) : Bool :=
  decide (off < 0x400) || decide (0x404 ≤ off ∧ off < 0x41C) || (decide (s.privOf x < 2) && decide (0x500 ≤ off ∧ off < 0x5A4))

/-- A posted write to a tile of the context: dropped and counted for a HELD or FAILED one (R181). -/
def State.tileWrite (s : State) (x : Fin 128) (t off : Nat) (v : Word) : State :=
  if s.held t || s.isFailed t then s.bump .ctxErrcnt 8 8 (x / 32) (x % 32)
  else s.busWrite (.ctx x) (0x100000 + t * 0x1000 + off) 4 v

/-- The tile is fitted and the context's (R181, R22). -/
def State.tileMine (s : State) (x t : Nat) : Bool := decide (t < s.tiles) && s.hasTile x t

def execTilewr (x : Fin 128) (rd rs : GReg) (imm : BitVec 16) (s : State) : Host.Outcome State Fault Refusal :=
  .next (s.issue x 0x68 (decide (imm.toNat < 0x1000)) (fun s =>
    let t := getF (s.g x rs) 0 6
    if !s.tileMine x t || !s.tileOffOk x imm.toNat then s.raiseFault x fcWindow
    else if imm.toNat % 4 ≠ 0 then s.raiseFault x fcAlign
    else (s.tileWrite x t imm.toNat (s.g x rd)).advance x))

/-- COMMIT (R181): a write of imm[7:0] to TILE_COMMIT. -/
def execCommit (x : Fin 128) (rs : GReg) (imm : BitVec 16) (s : State) : Host.Outcome State Fault Refusal :=
  .next (s.issue x 0x69 (decide (imm.toNat < 256)) (fun s =>
    let t := getF (s.g x rs) 0 6
    if !s.tileMine x t then s.raiseFault x fcWindow
    else (s.tileWrite x t (RegKey.offset ⟨.tileCommit, 0, 0⟩ - 0x100000) (uimm imm)).advance x))

/-! ## Ports and the log -/

/-- PORTX's answer (R182). -/
def State.portx (s : State) (x p script : Nat) (arg : Word) (notify : Bool) : Nat × State :=
  if s.ports ≤ p then (stAbsent, s)
  else
    let barred := s.held (84 + p) || s.isFailed (84 + p)
    let (queued, s) := s.portTrigger p
      { script := script, arg := arg, src := .task, rank := x, notify := if notify then some x else none }
    (if queued then stOk else if barred then stDenied else stBusy, s)

def execPortx (x : Fin 128) (rd rs : GReg) (imm : BitVec 16) (s : State) : Host.Outcome State Fault Refusal :=
  .next (s.issue x 0x70 (decide (imm.toNat < 0x1000)) (fun s =>
    let p := getF imm 0 5
    if !getB (s.cr .ctxPorts x) p then s.raiseFault x fcWindow
    else
      let (st, s) := s.portx x p (getF imm 5 6) (s.g x rs) (getB imm 11)
      s.await x [(rd, toW st)] true))

/-- The signal's catalogue entry names a task source with this context (R183). -/
def State.logsFor (s : State) (x sig : Nat) : Bool := s.catSrc sig == 5 && getF (s.rd .catW1 sig) 0 7 == x

def execLog (x : Fin 128) (rd rs : GReg) (s : State) : Host.Outcome State Fault Refusal :=
  .next (s.issue x 0x71 true (fun s =>
    let sig := getF (s.g x rs) 0 17
    let s := if s.logsFor x sig then
        (s.keepEvent 5 (128 * sig + x) (s.g x rd) 0).logEventOf { src := 5, sel := x, value := s.g x rd, ts := s.clock (islEngine (x / 32)) } sig
      else s.bump .ctxErrcnt 0 8 (x / 32) (x % 32)
    s.advance x))

/-! ## Mailboxes -/

/-- The mailbox of a select value (R184): of a pair, the outbound one or the inbound one. -/
def boxSel (sel : Nat) (out : Bool) : Nat :=
  if sel < 16 then (if out then 16 + sel else sel)
  else if sel < 18 then (if out then 34 else 32) + (sel - 16)
  else (if out then 40 else 36) + (sel - 18)

/-- The select value is listed, and its link fitted. -/
def selOk (imm : BitVec 16) : Bool := decide (getF imm 0 6 < 22) && getF imm 11 3 == 0
def State.selFitted (s : State) (sel : Nat) : Bool := decide (sel < 18 ∨ sel - 18 < s.linkCount)

/-- The word count 1 to 16. -/
def boxCount (imm : BitVec 16) : Nat := if getF imm 6 5 = 0 then 16 else getF imm 6 5

/-- The word count is one of R184. -/
def countOk (imm : BitVec 16) : Bool := decide (boxCount imm ≤ 16)

/-- MBOX SEND (R184). The windows are checked before the party and GO (DESIGN CHOICE, log entry 38). -/
def execMboxSend (x : Fin 128) (rd rs : GReg) (imm : BitVec 16) (s : State) : Host.Outcome State Fault Refusal :=
  .next (s.issue x 0x72 (selOk imm && countOk imm && getF imm 14 2 == 0) (fun s =>
    let sel := getF imm 0 6
    let b := boxSel sel true
    let a := (s.g x rs).toNat
    let n := boxCount imm
    if !s.selFitted sel then s.raiseFault x fcWindow
    else s.reading x a (4 * n) 4 (fun s =>
      if !s.isSender (.ctx x) b then s.await x [(rd, toW stDenied)] true
      else if s.go b then s.await x [(rd, toW stBusy)] true
      else
        let s := s.each (List.range n) (fun s i => s.writeData (.ctx x) b i (s.tm (a + 4 * i)))
        (s.writeGo (.ctx x) b).await x [(rd, toW stOk)] true)))

/-- MBOX RECV (R184). -/
def execMboxRecv (x : Fin 128) (rd rs : GReg) (imm : BitVec 16) (s : State) : Host.Outcome State Fault Refusal :=
  .next (s.issue x 0x72 (selOk imm && countOk imm && getF imm 14 2 == 1) (fun s =>
    let sel := getF imm 0 6
    let b := boxSel sel false
    let a := (s.g x rs).toNat
    let n := boxCount imm
    if !s.selFitted sel then s.raiseFault x fcWindow
    else s.writing x a (4 * n) 4 (fun s =>
      if !s.isReceiver (.ctx x) b then s.await x [(rd, toW stDenied)] true
      else if !s.go b then s.await x [(rd, toW stBusy)] true
      else
        let s := s.each (List.range n) (fun s i => s.setTm (a + 4 * i) (s.rd .mbData b i))
        (s.writeDone (.ctx x) b).await x [(rd, toW stOk)] true)))

/-- MBOX PEEK (R184) of the inbound mailbox (DEDUCED, log entry 38); an AGE beyond 16 bits is a free value. -/
def execMboxPeek (x : Fin 128) (rd rs : GReg) (imm : BitVec 16) (s : State) : Host.Outcome State Fault Refusal :=
  .next (s.issue x 0x72 (selOk imm && countOk imm && getF imm 14 2 == 2 && rs == 0) (fun s =>
    let sel := getF imm 0 6
    let b := boxSel sel false
    if !s.selFitted sel then s.raiseFault x fcWindow
    else
      let go := b2n (s.go b) * 65536
      let age := s.boxAge b
      if age < 65536 then s.await x [(rd, toW (go + age))] true
      else s.drawn.await x [(rd, toW (go + (Config.freeWord s.freeCtr).toNat % 65536))] true))

/-! ## Locks -/

/-- This device and context hold system lock k (R295). -/
def State.hasSysLock (s : State) (k x : Nat) : Bool := s.rd .mlSlockOwner k == toW (s.devNum + x * 65536 + 2 ^ 31)

/-- LOCK (R185): a system lock is asked of the root, whose reply the context awaits. -/
def execLock (x : Fin 128) (rd : GReg) (imm : BitVec 16) (s : State) : Host.Outcome State Fault Refusal :=
  .next (s.issue x 0x73 (decide (imm.toNat < 320)) (fun s =>
    let k := imm.toNat
    if k < 256 then
      let (v, s) := s.lockRead (.ctx x) k
      s.await x [(rd, v)] true
    else
      let s := s.onCtx x (fun c => { c with
        out := some { regs := [(rd, 0)], pc := c.pc + 4, unit := true, sysLock := some (k - 256) } })
      s.askLock (k - 256) .acquire x))

/-- UNLOCK (R185). -/
def execUnlock (x : Fin 128) (imm : BitVec 16) (s : State) : Host.Outcome State Fault Refusal :=
  .next (s.issue x 0x74 (decide (imm.toNat < 320)) (fun s =>
    let k := imm.toNat
    (if k < 256 then s.lockRelease (.ctx x) k else s.askLock (k - 256) .release x).advance x))

end Sys2Proof.Machine
end

