-- ==== Sys2Proof/Machine/Wait.lean ====
section
/-! DEFINITION. WAIT (R177 to R179) and TRAP (R207). A WAIT is known by the nesting level and the PC at which it issued, so
that after an interrupt it goes on under the deadline it had. -/

namespace Sys2Proof.Machine

/-! ## Conditions -/

/-- The angle domain of a monitor: its count has reached the crossing waited for, judged as R151. -/
def State.angleMet (s : State) (m : Monitor) : Bool := decide (m.due ≤ s.domU (m.arg % 16) (nsOf (s.clock islDomain)))

/-- The mailbox of a WAIT MBOX, and whether it is the context's (R177, R184). -/
def waitBox (arg : Nat) : Nat := boxSel (arg % 64) (arg.testBit 6)
def State.boxMine (s : State) (x : Fin 128) (arg : Nat) : Bool :=
  if arg.testBit 6 then s.isSender (.ctx x) (waitBox arg) else s.isReceiver (.ctx x) (waitBox arg)

/-- The engine island's copy, by which a context of it waits (R177). -/
def State.waitClock (s : State) (x : Nat) : Stamp := s.clock (islEngine (x / 32))

/-- Whether the condition of a WAIT holds at present: the registers written then, and the state after. -/
def State.waitMet (s : State) (x : Fin 128) (m : Monitor) : Option (List (GReg × Word) × State) :=
  match m.kind with
  | 0 => if ((ns32 (s.waitClock x)) - m.opnd).toNat < 2 ^ 31 then some ([(m.rd, 0)], s) else none
  | 1 => if (m.deadline.getD 0).toNat ≤ (s.waitClock x).toNat then some ([(m.rd, 0)], s) else none
  | 2 =>
    let d := m.arg % 16
    if s.domState d ≠ 3 ∨ (s.dom d).losses ≠ m.losses then some ([(m.rd, 2)], s)
    else if s.angleMet m then some ([(m.rd, 0)], s) else none
  | 3 =>
    match (s.ctx x).evq with
    | (v, t) :: r => some ([(m.rd, v), (nextG m.rd, t)], s.onCtx x (fun c => { c with evq := r }))
    | [] => none
  | 4 =>
    if !s.boxMine x m.arg then some ([(m.rd, toW stDenied)], s)
    else if s.go (waitBox m.arg) != m.arg.testBit 6 then some ([(m.rd, 0)], s) else none
  | _ =>
    if m.arg < 256 then
      let (v, t) := s.lockRead (.ctx x) m.arg
      if v = 1 then some ([(m.rd, 0)], t) else none
    else if s.hasSysLock (m.arg - 256) x then some ([(m.rd, 0)], s) else none

/-- The timeout of a WAIT other than DELAY has run out. -/
def State.timedOut (s : State) (x : Nat) (m : Monitor) : Bool :=
  m.kind != 1 && (match m.deadline with | some d => decide (d.toNat ≤ (s.waitClock x).toNat) | none => false)

/-- What a timeout writes. -/
def timeoutRegs (m : Monitor) : List (GReg × Word) := if m.kind = 3 then [(m.rd, 0), (nextG m.rd, 0xF)] else [(m.rd, 1)]

/-- A WAIT ends: registers written, its monitor gone, PROG clear, and the context goes on. -/
def State.endWait (s : State) (x : Nat) (m : Monitor) (regs : List (GReg × Word)) : State :=
  let s := regs.foldl (fun s (g, w) => s.setG x g w) s
  let s := s.onCtx x (fun c => { c with mons := c.mons.filter (fun n => !(n.ilvl == m.ilvl && n.pc == m.pc)), prog := 0, pc := c.pc + 4 })
  s.setCtxState x 2

/-- The timeout takes effect: a WAIT LOCK leaves the queue of a system lock and holds nothing (R178). -/
def State.timeoutWait (s : State) (x : Nat) (m : Monitor) : State :=
  let s := if m.kind = 5 ∧ 256 ≤ m.arg then s.askLock (m.arg - 256) .release x else s
  s.endWait x m (timeoutRegs m)

/-- A WAIT is judged: it completes, times out, or parks. The condition wins (R178). -/
def State.judgeWait (s : State) (x : Fin 128) (m : Monitor) : State :=
  match s.waitMet x m with
  | some (regs, t) => t.endWait x m regs
  | none => if s.timedOut x m then s.timeoutWait x m else s.setCtxState x 3

/-! ## Issue -/

/-- PROG of a monitor: PROG[31] and the deadline in ns (DEDUCED, log entry 39); 0 without one. -/
def monProg (m : Monitor) : Word := match m.deadline with | some d => toW (2 ^ 31 + nsOf d % 2 ^ 31) | none => 0

/-- A duration in ns that R177 gives a meaning to, else a free one. -/
def State.waitNs (s : State) (v : Word) : Nat × State :=
  if v.toNat < 2 ^ 31 then (v.toNat, s) else (Config.freeNs s.freeCtr, s.drawn)

/-- A monitor is set up at the first issue (R177): the deadline of DELAY and of a timeout, and the crossing of ANGLE. An
angle of L or more is not one of the domain's: the crossing waited for is a free one. -/
def State.newMonitor (s : State) (x : Nat) (kind : Nat) (rd rs : GReg) (arg : Nat) (timed : Bool) : State :=
  let opnd := s.g x rs
  let (d, s) :=
    if kind = 1 then let (n, s) := s.waitNs opnd; (some (toS ((s.waitClock x).toNat + 16 * n)), s)
    else if timed then let (n, s) := s.waitNs (s.g x 15); (some (toS ((s.waitClock x).toNat + 16 * n)), s)
    else (none, s)
  let dm := arg % 16
  let u := s.domU dm (nsOf (s.clock islDomain))
  let (due, s) :=
    if kind ≠ 2 then (0, s)
    else if opnd.toNat * 65536 < s.cycleLen dm then (nextAbove u (s.cycleLen dm) (opnd.toNat * 65536), s)
    else (u + Config.freeNs s.freeCtr, s.drawn)
  let m : Monitor := {
    ilvl := s.ilvl x, pc := (s.ctx x).pc, kind := kind, arg := arg, rd := rd, opnd := opnd, since := s.waitClock x, deadline := d,
    due := due, losses := (s.dom dm).losses }
  let s := s.onCtx x (fun c => { c with mons := m :: c.mons, prog := monProg m })
  if kind = 5 ∧ 256 ≤ arg then s.askLock (arg - 256) .wait x else s

/-- A WAIT issues: ILLEGAL for a T of 1 with TIME or DELAY or with G15 = 0, WINDOW for an absent domain or link (R22). -/
def State.wait (s : State) (x : Fin 128) (kind : Nat) (rd rs : GReg) (arg : BitVec 12) (fits : Bool) : State :=
  s.issue x 0x50 fits (fun s =>
    let timed := getB arg 11
    let a := getF arg 0 11
    if timed && (decide (kind < 2) || s.g x 15 == 0) then s.raiseFault x fcIllegal
    else if (kind = 2 ∧ s.domains ≤ a) ∨ (kind = 4 ∧ !s.selFitted (a % 64)) then s.raiseFault x fcWindow
    else
      let s := if (s.monHere x).isSome then s else s.newMonitor x kind rd rs a timed
      match s.monHere x with
      | some m => s.judgeWait x m
      | none => s)

section
variable (x : Fin 128) (rd rs : GReg) (arg : BitVec 12) (s : State)
def execWaitTime : Host.Outcome State Fault Refusal := .next (s.wait x 0 rd rs arg (getF arg 0 11 == 0))
def execWaitDelay : Host.Outcome State Fault Refusal := .next (s.wait x 1 rd rs arg (getF arg 0 11 == 0))
def execWaitAngle : Host.Outcome State Fault Refusal := .next (s.wait x 2 rd rs arg (decide (getF arg 0 11 < 16)))
def execWaitEvent : Host.Outcome State Fault Refusal := .next (s.wait x 3 rd rs arg (getF arg 0 11 == 0 && rs == 0))
def execWaitMbox : Host.Outcome State Fault Refusal :=
  .next (s.wait x 4 rd rs arg (decide (getF arg 0 11 < 128) && decide (getF arg 0 6 < 22) && rs == 0))
def execWaitLock : Host.Outcome State Fault Refusal :=
  .next (s.wait x 5 rd rs arg (decide (getF arg 0 11 < 320) && rs == 0))
end

/-- A waiting context's engine can make it ready. -/
def State.canWake (s : State) (x : Nat) : Bool :=
  s.ctxState x == 3 && (s.monHere x).isSome && !s.halted (x / 32) && !s.isFailed (80 + x / 32)

/-- WAIT_WAKE (R178). -/
def execWaitWake (x : Fin 128) (ts : Stamp) (s : State) : Host.Outcome State Fault Refusal :=
  .next (s.happens (islEngine (x / 32)) ts (fun s => s.canWake x) (fun s =>
    match s.monHere x with
    | some m => match s.waitMet x m with | some (regs, t) => (t.wakeIsland (x / 32)).endWait x m regs | none => s
    | none => s))

/-- WAIT_TIMEOUT (R178): not where the condition is met in the same cycle. -/
def execWaitTimeout (x : Fin 128) (ts : Stamp) (s : State) : Host.Outcome State Fault Refusal :=
  .next (s.happens (islEngine (x / 32)) ts (fun s => s.canWake x) (fun s =>
    match s.monHere x with
    | some m => if s.timedOut x m then s.judgeWait x m else s
    | none => s))

/-! ## TRAP -/

/-- A TRAP issues (R207): a call outstanding at this level and PC parks again; else `f` submits it, and answers at once or
gives the record to park on. -/
def State.trap (s : State) (x : Nat) (call : Nat) (f : State → TrapCall → TrapCall × State) : State :=
  s.issue x 0x53 true (fun s =>
    if (s.trapHere x).isSome then s.setCtxState x 3
    else
      let (c, s) := f s { ilvl := s.ilvl x, pc := (s.ctx x).pc, call := call }
      (s.onCtx x (fun k => { k with traps := c :: k.traps, prog := toW (2 ^ 31 + call) })).setCtxState x 3)

/-- CTXID, class, priority and ceiling (R207). -/
def State.ctxInfo (s : State) (x : Nat) : Word :=
  toW (x + s.cf .ctxCtrl 4 2 x * 2 ^ 8 + s.cf .ctxCtrl 0 4 x * 2 ^ 12 + s.cf .ctxCtrl 6 2 x * 2 ^ 16)

def execTrapInfo (x : Fin 128) (s : State) : Host.Outcome State Fault Refusal :=
  .next (s.trap x 0x80 (fun s c => ({ c with answer := some (stOk, s.ctxInfo x) }, s)))

/-- LOWER: neither class nor priority may become more urgent, a lower number (R207); the class of local contexts 0 to 2 never
changes (R220). -/
def State.lower (s : State) (x : Nat) (v : Word) : Nat × State :=
  let k := getF v 0 2
  let p := getF v 4 4
  if k < s.cf .ctxCtrl 4 2 x ∨ p < s.cf .ctxCtrl 0 4 x ∨ (x % 32 < 3 ∧ k ≠ s.cf .ctxCtrl 4 2 x) then (stDenied, s)
  else (stOk, (s.setCf .ctxCtrl 4 2 k x).setCf .ctxCtrl 0 4 p x)

/-- The result of LOWER is not stated: G1 keeps its value (DESIGN CHOICE, log entry 40). -/
def execTrapLower (x : Fin 128) (s : State) : Host.Outcome State Fault Refusal :=
  .next (s.trap x 0x81 (fun s c =>
    let (st, t) := s.lower x (s.g x 1)
    ({ c with answer := some (st, s.g x 1) }, t)))

def execTrapLimit (x : Fin 128) (s : State) : Host.Outcome State Fault Refusal :=
  .next (s.trap x 0x82 (fun s c => ({ c with answer := some (stOk, toW (s.cf .ctxNointLim 0 12 x)) }, s)))

/-- Any other call number completes at once with OPCODE. -/
def execTrapUnknown (x : Fin 128) (imm : BitVec 16) (s : State) : Host.Outcome State Fault Refusal :=
  .next (if imm.toNat ∈ [0, 0x80, 0x81, 0x82] then s
    else s.issue x 0x53 true (fun s => (s.setG x 0 (toW stOpcode)).advance x))

/-- The packet that words give, and its opcode (R313). -/
def packetOf (path : CmdPath) (ws : List Word) : Packet :=
  let w0 := ws.getD 0 0
  let w1 := ws.getD 1 0
  { path := path, tag := w1.setWidth 16, wait := getB w0 24, quiet := getB w0 25, target := toW (getF w1 16 16), params := ws.drop 2 }

/-- Buffers of a TRAP CMD (R207): the packet in the data or table window, the reply buffer of 2 to 16 words in the data
window, both word-aligned. -/
def State.cmdBuffersOk (s : State) (x a b n : Nat) : Bool :=
  (s.accFault x .load a 8 4).isNone && (s.accFault x .load a (8 + 4 * getF (s.tm a) 16 8) 4).isNone &&
  decide (2 ≤ n ∧ n ≤ 16) && (s.accFault x .store b (4 * n) 4).isNone

/-- TRAP CMD (R207): the packet waits for the service firmware; one with a reserved flag fails its check (R313). -/
def execTrapCmd (x : Fin 128) (s : State) : Host.Outcome State Fault Refusal :=
  .next (s.trap x 0 (fun s c =>
    let a := (s.g x 1).toNat
    let b := (s.g x 2).toNat
    let n := (s.g x 3).toNat
    if !s.cmdBuffersOk x a b n then ({ c with answer := some (stParam, 0) }, s)
    else
      let ws := s.taskMem.words a (2 + getF (s.tm a) 16 8)
      let pk := packetOf (.task x) ws
      let op := getF (s.tm a) 0 16
      if getF (s.tm a) 26 6 ≠ 0 then
        let r := (replyWords (refuse stParam) false pk.tag op).take n
        ({ c with answer := some (stParam, toW r.length) }, { s with taskMem := s.taskMem.putWords b r })
      else ({ c with pk := some (pk, op), buf := b, size := n }, s)))

end Sys2Proof.Machine
end

