-- ==== Sys2Proof/Machine/Long.lean ====
section
/-! DEFINITION. The long resumable instructions (R187 to R189). Each command is one step; PC stays until the last. -/

namespace Sys2Proof.Machine

/-- PROG[31] set with a phase and 28 bits of progress (R187). -/
def progWord (phase v : Nat) : Word := toW (2 ^ 31 + phase * 2 ^ 28 + v % 2 ^ 28)

/-- A step ends with more to do. -/
def State.stepDone (s : State) (x phase v : Nat) : State := s.onCtx x (fun c => { c with prog := progWord phase v })

/-- The last step: PROG clears and the context goes on. An interpolation runs for 16 cycles (R188). -/
def State.longDone (s : State) (x : Nat) : State := s.onCtx x (fun c => { c with prog := 0, pc := c.pc + 4 })

/-- The step that is due: none before the first, else phase and progress. -/
def State.longAt (s : State) (x : Nat) : Option (Nat × Nat) :=
  let p := (s.ctx x).prog
  if getB p 31 then some (getF p 28 3, getF p 0 28) else none

/-! ## Block copy and fill -/

/-- BLKCP: 8 words per step, ascending. -/
def execBlkcp (x : Fin 128) (rd rs rt : GReg) (s : State) : Host.Outcome State Fault Refusal :=
  .next (s.issue x 0x7A true (fun s =>
    let cnt := (s.g x rt).toNat
    let done := ((s.longAt x).map (·.2)).getD 0
    let n := min 8 (cnt - done)
    let src := (s.g x rs).toNat + 4 * done
    let dst := (s.g x rd).toNat + 4 * done
    if cnt = 0 then (s.advance x).hold x 1
    else s.reading x src (4 * n) 4 (fun s => s.writing x dst (4 * n) 4 (fun s =>
      let s := s.each (List.range n) (fun s i => s.setTm (dst + 4 * i) (s.tm (src + 4 * i)))
      if done + n < cnt then s.stepDone x 0 (done + n) else s.longDone x))))

/-- FILL: 16 words per step. -/
def execFill (x : Fin 128) (rd rs rt : GReg) (s : State) : Host.Outcome State Fault Refusal :=
  .next (s.issue x 0x7B true (fun s =>
    let cnt := (s.g x rt).toNat
    let done := ((s.longAt x).map (·.2)).getD 0
    let n := min 16 (cnt - done)
    let dst := (s.g x rd).toNat + 4 * done
    if cnt = 0 then (s.advance x).hold x 1
    else s.writing x dst (4 * n) 4 (fun s =>
      let s := s.each (List.range n) (fun s i => s.setTm (dst + 4 * i) (s.g x rs))
      if done + n < cnt then s.stepDone x 0 (done + n) else s.longDone x)))

/-! ## Tables -/

/-- f of R188: how far v lies in [lo, hi], in 1/65,536, the input clamped. -/
def tblF (v lo hi : Int) : Int := (65536 * (clampInt lo hi v - lo)) / (hi - lo)

/-- a + (((b − a) × f + 32,768) >> 16). -/
def tblMix (a b f : Int) : Int := a + ((b - a) * f + 32768) / 65536

/-- Checked reads of single words, ascending in the list. -/
def State.readAll (s : State) (x : Nat) (as : List Nat) (f : List Word → State) : State :=
  match as.findSome? (fun a => match s.accFault x .load a 4 4 with
      | some c => some (s.raiseFault x c)
      | none => (s.badWordIn a 4).map (fun b => s.memoryCheck x b)) with
  | some t => t
  | none => f (as.map s.tm)

/-- One search step for the lowest interval [x_i, x_(i+1)] that holds v: i lies in [lo, hi]; the breakpoints from `base`.
The breakpoints that a step compares must increase (DESIGN CHOICE which, log entry 41). -/
def State.searchStep (s : State) (x base : Nat) (v : Int) (lo hi : Nat) (f : Nat → Nat → State) : State :=
  let mid := (lo + hi) / 2
  s.readAll x [base + 4 * mid, base + 4 * (mid + 1)] (fun ws =>
    let a := (ws.getD 0 0).toInt
    let b := (ws.getD 1 0).toInt
    if b ≤ a then s.raiseFault x fcIllegal
    else if hi ≤ lo then f lo lo
    else if v ≤ b then f lo mid
    else f (mid + 1) hi)

/-- TBL1 (R188): header, search, interpolation. -/
def execTbl1 (x : Fin 128) (rd rs rt : GReg) (s : State) : Host.Outcome State Fault Refusal :=
  .next (s.issue x 0x78 true (fun s =>
    let t := (s.g x rt).toNat
    let v := (s.g x rs).toInt
    s.readAll x [t] (fun ws =>
      let n := (ws.getD 0 0).toNat
      if n < 2 ∨ 1024 < n then s.raiseFault x fcIllegal
      else match s.longAt x with
      | none => s.stepDone x 1 ((n - 2) * 1024)
      | some (1, p) =>
        s.searchStep x (t + 4) v (p % 1024) (p / 1024 % 1024) (fun lo hi =>
          if lo = hi then s.stepDone x 2 (lo * 1024 + lo) else s.stepDone x 1 (hi * 1024 + lo))
      | some (_, p) =>
        let i := p % 1024
        s.readAll x [t + 4 + 4 * i, t + 8 + 4 * i, t + 4 + 4 * n + 4 * i, t + 8 + 4 * n + 4 * i] (fun ws =>
          let w (k : Nat) := (ws.getD k 0).toInt
          if w 1 ≤ w 0 then s.raiseFault x fcIllegal
          else ((s.setG x rd (intW (tblMix (w 2) (w 3) (tblF v (w 0) (w 1))))).longDone x).hold x 16))))

/-- TBL2 (R188): rows j and j + 1 by the first input, then between them by the second, which is in the register after rs. -/
def execTbl2 (x : Fin 128) (rd rs rt : GReg) (s : State) : Host.Outcome State Fault Refusal :=
  .next (s.issue x 0x79 true (fun s =>
    let t := (s.g x rt).toNat
    let vx := (s.g x rs).toInt
    let vy := (s.g x (nextG rs)).toInt
    s.readAll x [t] (fun ws =>
      let nx := getF (ws.getD 0 0) 0 16
      let ny := getF (ws.getD 0 0) 16 16
      let ys := t + 4 + 4 * nx
      let zs := ys + 4 * ny
      if nx < 2 ∨ 256 < nx ∨ ny < 2 ∨ 256 < ny then s.raiseFault x fcIllegal
      else match s.longAt x with
      | none => s.stepDone x 1 ((nx - 2) * 256)
      | some (1, p) =>
        s.searchStep x (t + 4) vx (p % 256) (p / 256 % 256) (fun lo hi =>
          if lo = hi then s.stepDone x 2 (lo * 65536 + (ny - 2) * 256) else s.stepDone x 1 (hi * 256 + lo))
      | some (2, p) =>
        let i := p / 65536 % 256
        s.searchStep x ys vy (p % 256) (p / 256 % 256) (fun lo hi =>
          s.stepDone x (if lo = hi then 3 else 2) (i * 65536 + hi * 256 + lo))
      | some (_, p) =>
        let i := p / 65536 % 256
        let j := p % 256
        let z := zs + 4 * (j * nx + i)
        s.readAll x [t + 4 + 4 * i, t + 8 + 4 * i, ys + 4 * j, ys + 4 + 4 * j, z, z + 4, z + 4 * nx, z + 4 * nx + 4] (fun ws =>
          let w (k : Nat) := (ws.getD k 0).toInt
          if w 1 ≤ w 0 ∨ w 3 ≤ w 2 then s.raiseFault x fcIllegal
          else
            let fx := tblF vx (w 0) (w 1)
            let r0 := tblMix (w 4) (w 5) fx
            let r1 := tblMix (w 6) (w 7) fx
            ((s.setG x rd (intW (tblMix r0 r1 (tblF vy (w 2) (w 3))))).longDone x).hold x 16))))

end Sys2Proof.Machine
end

