-- ==== Sys2Proof/Machine/Except.lean ====
section
/-! DEFINITION. Exceptions (08): interrupt entry and return, faults, machine checks, retirement (R369), patches (R219) and
the debug port's halt (R195). -/

namespace Sys2Proof.Machine

/-! ## Interrupts -/

/-- The frame of 8 words at `a` may be used (R199, R202). -/
def State.frameOk (s : State) (x : Nat) (a : Word) : Bool := a.toNat % 4 == 0 && s.grants x .store a.toNat 32

/-- A request that R198 would take, but for the level it must beat: NOINT is 0 and the Governor admits the class. -/
def State.takable (s : State) (x lim : Nat) : Option (Nat × Nat) :=
  if getB (s.psw x) psNoint || !s.mayRun x || s.patching (x / 32) then none
  else match s.presented x with | some (l, n) => if l < lim then some (l, n) else none | none => none

/-- The controller marks a source active on its context (R199). -/
def State.deliverTo (s : State) (x n : Nat) : State := if n < 256 then s.deliver n x else s.deliverPrv (x / 32) (n - 256)

/-- The context reports a source complete (R202). -/
def State.reportDone (s : State) (x n : Nat) : State :=
  if n < 256 then (if s.active n && s.takenBy.at 130 n == x then s.complete n else s)
  else if n < 288 ∧ s.flag .prvActive (n - 256) (x / 32) ∧ s.takenBy.at 130 (prvIx (x / 32) (n - 256)) = x then
    s.completePrv (x / 32) (n - 256)
  else s

/-- CAUSE of an interrupt (R197). -/
def causeOf (l n : Nat) : Word := toW (1 + l * 2 ^ 8 + n * 2 ^ 16)

/-- The handler's address for a level: a word-aligned word of the vector table that lies in the code window (R198). -/
def State.vectorOf (s : State) (x l : Nat) : Option Word :=
  let v := s.tm ((s.cr .codeBase x).toNat + 4 * l)
  if s.grants x .fetch v.toNat 4 && v.toNat % 4 == 0 then some v else none

/-- The context is at a boundary (R200): READY with its last instruction done, or parked. -/
def State.atBoundary (s : State) (x : Nat) : Bool :=
  (s.ctxState x == 3 || (s.ctxState x == 2 && decide ((s.ctx x).readyAt.toNat ≤ s.now.toNat))) && (s.ctx x).out.isNone &&
  (s.ctx x).fault.isNone && !(s.ctx x).stopping

/-- Entry (R198, R199): the frame, the new PSW, PROG and CAUSE, and the handler's address. -/
def State.enterHandler (s : State) (x l n : Nat) : State :=
  let c := s.ctx x
  let a := c.sp - 32
  if !s.frameOk x a then s.raiseFault x fcStack
  else match s.vectorOf x l with
  | none => s.raiseFault x fcVector
  | some v =>
    let ws := [c.pc, s.psw x, c.cause, c.prog, s.g x 0, s.g x 1, s.g x 2, s.g x 3]
    let s := ws.zipIdx.foldl (fun s (w, i) => s.setTm (a.toNat + 4 * i) w) s
    let psw := putB (putB (putF (s.psw x) 8 5 l) psNoint false) psOverstay false
    let s := s.onCtx x (fun c => { c with pc := v, sp := a, psw := psw, cause := causeOf l n, prog := 0 })
    ((s.deliverTo x n).setCtxState x 2).hold x 10

/-- INTERRUPT_ENTRY (R198 to R201), where the context would be chosen to issue: the request is the one presented at ts, so one that
overtakes the first during the push is the one entered. -/
def execInterruptEntry (x : Fin 128) (ts : Stamp) (s : State) : Host.Outcome State Fault Refusal :=
  .next (s.happens (islEngine (x / 32)) ts (fun s => decide (x.val / 32 < s.engines) && s.atBoundary x && s.chosen s.now x) (fun s =>
    match s.takable x (s.ilvl x) with
    | some (l, n) => (s.wakeIsland (x / 32)).enterHandler x l n
    | none => s))

/-- RETE (R202, R203): the source left is complete; a request below the saved level abandons the return. -/
def execRete (x : Fin 128) (s : State) : Host.Outcome State Fault Refusal :=
  .next (s.issue x 0x54 true (fun s =>
    let c := s.ctx x
    let s := if getF c.cause 0 8 = 1 then s.reportDone x (getF c.cause 16 9) else s
    let a := c.sp.toNat
    if s.ilvl x = 16 ∨ !s.frameOk x c.sp then s.raiseFault x fcReturn
    else match s.badWordIn a 32 with
    | some b => s.memoryCheck x b
    | none =>
      let w (i : Nat) : Word := s.tm (a + 4 * i)
      match s.takable x (getF (w 1) 8 5) with
      | some (l, n) =>
        (match s.vectorOf x l with
        | none => s.raiseFault x fcVector
        | some v =>
          ((s.onCtx x (fun c => { c with pc := v, psw := putF (s.psw x) 8 5 l, cause := causeOf l n })).deliverTo x n).hold x 9)
      | none =>
        if getF (w 1) 4 2 < s.ceil x ∨ getF (w 1) 8 5 ≤ s.ilvl x then s.raiseFault x fcReturn
        else
          let s := (((s.setG x 0 (w 4)).setG x 1 (w 5)).setG x 2 (w 6)).setG x 3 (w 7)
          let s := s.onCtx x (fun c => { c with
            pc := w 0, sp := c.sp + 32, psw := putB (w 1 &&& 0x1FFF) psNoint false, cause := w 2, prog := w 3 })
          s.setNoint x (getB (w 1) psNoint) true))

/-- NOINT_EXPIRY (R204): the count of engine cycles, 20 fine ticks each, reaches LIMIT. -/
def execNointExpiry (x : Fin 128) (ts : Stamp) (s : State) : Host.Outcome State Fault Refusal :=
  .next (s.happens (islEngine (x / 32)) ts (fun s => getB (s.psw x) psNoint &&
      decide ((s.ctx x).nointAt.toNat + 20 * s.cf .ctxNointLim 0 12 x ≤ ts.toNat)) (fun s =>
    (s.onCtx x (fun c => { c with psw := putB (putB c.psw psNoint false) psOverstay true })).bump .ctxErrcnt 24 8 (x / 32) (x % 32)))

/-! ## Faults -/

/-- R205: what Keystone does with a fault, in a record of the KIND that names the context, the PC or the word's address, and
the code (layout: DESIGN CHOICE, log entry 42). -/
def State.faultNow (s : State) (x kind : Nat) (f : CtxFault) : State :=
  let s := s.setCtxState x 5
  let s := (s.setCr .ctxCause (toW f.code) x).setCr .ctxFaultPc f.pc x
  let s := s.bump .ctxErrcnt 16 8 (x / 32) (x % 32)
  let s := (s.onCtx x (fun c => { c with fault := none, stopping := false })).endWork x
  let a := if f.code = fcMemory then toW f.addr else f.pc
  (s.fault kind (80 + x / 32) 0 false 0 a (toW (f.code + x * 256))).fltEvent 2

/-- TASK_FAULT (R205). -/
def execTaskFault (x : Fin 128) (ts : Stamp) (s : State) : Host.Outcome State Fault Refusal :=
  .next (s.happens (islEngine (x / 32)) ts (fun s => decide (3 ≤ x.val % 32) && !s.halted (x.val / 32)) (fun s =>
    match (s.ctx x).fault with | some f => s.faultNow x 0x10 f | none => s))

/-- MC_MEMORY (R215): the read of an uncorrectable word is cancelled and the context faulted; a service context then starts
again (R206), a fault of Keystone's own context waits for ENGINE_RETIRED, and one on a halted engine for the resume (R195). -/
def execMcMemory (x : Fin 128) (addr : Nat) (ts : Stamp) (s : State) : Host.Outcome State Fault Refusal :=
  .next (s.happens (islEngine (x / 32)) ts (fun s => decide (x.val / 32 < s.engines) && s.badTm.contains (addr / 4 * 4) &&
      s.ctxState x == 2) (fun s =>
    let s := if (s.ctx x).fault.isNone then (s.onCtx x (fun c => { c with out := none })).memoryCheck x (addr / 4 * 4) else s
    match (s.ctx x).fault with
    | some f =>
      if x.val % 32 = 0 ∨ s.halted (x / 32) then s
      else if x.val % 32 < 3 then (s.faultNow x 0x11 f).startCtx x
      else s.faultNow x 0x10 f
    | none => s))

/-! ## Retirement -/

/-- The engines that have not failed. -/
def State.liveEngines (s : State) : List Nat := (List.range s.engines).filter (fun e => !s.failed.contains (80 + e))

/-- The registers of a context that Keystone copies (R369). -/
def ctxRegs : List RegName :=
  [.ctxCtrl, .ctxEntry, .codeBase, .codeSize, .dataBase, .dataSize, .tabBase, .tabSize, .ctxIomask, .ctxTilesLo, .ctxTilesHi,
    .ctxPorts, .ctxNointLim, .ctxErrcnt, .ctxIssued, .ctxCause, .ctxFaultPc]

/-- Every reference to context x now names y (R369 step 4). -/
def State.rename (s : State) (x y : Nat) : State :=
  let s := s.each (s.entriesUsed.filter (fun i => s.eOwner i == x)) (fun s i => s.setFld .entryW0 16 8 y i)
  let s := s.each ((List.range 44).filter (fun b => s.boxCtx b == some x)) (fun s b => s.setFld .mbCfg 0 7 y b)
  let s := s.each ((List.range 256).filter (fun n => s.target n == x / 32 && s.fld .intRoute 8 5 n == x % 32)) (fun s n =>
    (s.setFld .intRoute 0 3 (y / 32) n).setFld .intRoute 8 5 (y % 32) n)
  let s := s.each ((List.range s.ports).filter (fun p => s.fld .portNotify 0 7 p == x)) (fun s p => s.setFld .portNotify 0 7 y p)
  let sigs := (s.regs.filter (fun e => e.1.name == .catW0 && getF e.2 0 4 == 5)).map (fun e => e.1.i)
  let s := s.each (sigs.filter (fun k => s.fld .catW1 0 7 k == x)) (fun s k => s.setFld .catW1 0 7 y k)
  let s := if s.fld .mlSsCtrl 3 7 = x then s.setFld .mlSsCtrl 3 7 y else s
  s.each ((List.range 256).filter (fun n => s.active n && s.takenBy.at 130 n == x)) (fun s n =>
    { s with takenBy := s.takenBy.set 130 n y })

/-- FLT_MOVE (R369, R372): the entry that placed the context last, else the next one. -/
def State.noteMove (s : State) (x : Nat) (y : Option Nat) : State :=
  let used (n : Nat) := s.flag .fltMove 15 n
  let n := ((List.range 32).find? (fun n => used n && s.fld .fltMove 8 7 n == x)).getD
    (((List.range 32).find? (fun n => !used n)).getD 31)
  let old := if used n then s.fld .fltMove 0 7 n else x
  s.wr .fltMove (toW (old + y.getD x * 2 ^ 8 + 2 ^ 15 + b2n y.isNone * 2 ^ 16)) n

/-- The lowest EMPTY task context of the engines that run. -/
def State.freePlace (s : State) : Option Nat :=
  (s.liveEngines.flatMap (fun e => (List.range 29).map (fun l => ctxOf e (l + 3)))).find? (fun y => s.ctxState y == 0)

/-- A task context that stood in state `was` moves, or is lost (R369). -/
def State.moveCtx (s : State) (x was : Nat) : State :=
  let s := s.freeLocks x
  match s.freePlace with
  | none =>
    let s := (s.setCr .ctxCause (toW fcLockstep) x).setCtxState x 5
    (s.noteMove x none).fltEvent 2
  | some y =>
    let s := ctxRegs.foldl (fun s n => s.setCr n (s.cr n x) y) s
    let s := s.each (List.range 16) (fun s r => s.setG y (Fin.ofNat 16 r) (s.g x (Fin.ofNat 16 r)))
    let s := (s.setCtx y (s.ctx x)).setLatch (2 + y) (s.latchOf (2 + x))
    let s := ((s.setCr .ctxStat (s.cr .ctxStat x) y).setCtxState y was).setCtxState x 0
    ((s.setCtx x {}).rename x y).noteMove x (some y)

/-- The registers that START_HALTED leaves: those it serves, and those outside the units that stop (R375, R324). -/
def haltKept (k : RegKey) : Bool :=
  keptReg k || k.name == .pmBank || k.name.block == .sys || k.name.block == .drone || k.name.block == .fault

/-- START_HALTED from a running device: no tile, domain or engine runs, and the pins are as at reset (R375, R390). -/
def State.haltDevice (s : State) : State :=
  let r : State := { State.reset with
    variant := s.variant, ownerKey := s.ownerKey, ownerSign := s.ownerSign
    regs := s.regs.filter (fun e => haltKept e.1)
    now := s.now, beacon := s.beacon, pinIn := s.pinIn, lines := s.lines, hostMem := s.hostMem, scratch := s.scratch
    freeCtr := s.freeCtr, pending := s.pending, clrStrat := s.clrStrat, imageDigest := s.imageDigest, flashUp := s.flashUp
    flashQuad := s.flashQuad, hostLink := s.hostLink, epUp := s.epUp, subsys := s.subsys, unsensed := s.unsensed
    failed := s.failed, fltTotal := s.fltTotal, fltAcked := s.fltAcked }
  r.haltStart

/-- An engine retires (R369): its task contexts that are not EMPTY enter MOVING, then move one after another. The last engine does
not: the failure is reported and the device enters START_HALTED. References to its service contexts go to those of the lowest
engine that runs (DESIGN CHOICE, log entry 44). -/
def State.retire (s : State) (e : Nat) : State :=
  if s.failed.contains (80 + e) then s
  else if s.liveEngines.length ≤ 1 then (s.fault 0x04 (80 + e) 0 true 0 (toW e) 0).haltDevice
  else
    let s := s.withUnit (80 + e) (·.setFailed (80 + e))
    let s := s.setFld .fltSpare 12 3 s.liveEngines.length
    let live := s.liveEngines.headD 0
    let s := s.each [1, 2] (fun s l => s.rename (ctxOf e l) (ctxOf live l))
    let tasks := ((List.range 29).map (fun l => ctxOf e (l + 3))).filter (fun x => s.ctxState x != 0)
    let order := [0, 1, 2, 3].flatMap (fun k => tasks.filter (fun x => s.cf .ctxCtrl 4 2 x == k))
    let was := order.map s.ctxState
    let s := s.each order (fun s x => s.setCtxState x 6)
    let s := (order.zip was).foldl (fun s (x, v) => s.moveCtx x v) s
    s.drawn.fault 0x04 (80 + e) 0 false (Config.freeNs s.freeCtr % 100001) (toW e) 0

/-- ENGINE_RETIRED (R369, R206): three mismatches within 1 ms, or a fault of Keystone's own context. -/
def State.mustRetire (s : State) (e : Nat) : Bool :=
  let l := s.lockTimes.at [] e
  (match l.head?, l[2]? with | some a, some c => decide (a.toNat ≤ c.toNat + 16000000) | _, _ => false) ||
    (s.ctx (ctxOf e 0)).fault.isSome

def execEngineRetired (e : Fin 4) (ts : Stamp) (s : State) : Host.Outcome State Fault Refusal :=
  .next (s.happens (islEngine e) ts (fun s => decide (e.val < s.engines) && s.mustRetire e) (fun s =>
    match (s.ctx (ctxOf e 0)).fault with
    | some f =>
      let s := (s.setCr .ctxCause (toW f.code) (ctxOf e 0)).setCr .ctxFaultPc f.pc (ctxOf e 0)
      ((s.onCtx (ctxOf e 0) (fun c => { c with fault := none })).fault 0x12 (80 + e) 0 false 0 f.pc
        (toW (f.code + ctxOf e 0 * 256))).retire e
    | none => { s with lockTimes := s.lockTimes.set [] e [] }.retire e))

/-! ## Machine checks of the control store -/

/-- An engine that is fitted and has not retired. -/
def State.engLive (s : State) (e : Nat) : Bool := decide (e < s.engines) && !s.failed.contains (80 + e)

/-- The word of the store is the golden one again (R212, R213). -/
def State.repairWord (s : State) (e addr : Nat) : State :=
  if addr < 8192 then { s with micro := s.micro.set [] (8192 * e + addr) (s.golden.at [] (8192 * e + addr)) }
  else { s with dispatch := s.dispatch.set none (256 * e + addr % 256) (s.goldenDispatch.at none (256 * e + addr % 256)) }

/-- The failure of a word (R212), its address with 8,192 added for a dispatch entry: repaired from the golden copy; the third
failure of one address within 1 ms, or a golden word that cannot be corrected, retires the engine. The time taken is free. -/
def State.parityCheck (s : State) (e l addr : Nat) (goldenOk : Bool) : State :=
  let before := (s.repairs.at [] e).filter (fun p => decide (s.now.toNat ≤ p.2.toNat + 16000000))
  let s := { s with repairs := s.repairs.set [] e ((addr, s.now) :: before) }.noteCheck e fcParity l
  let lost := s.goldenLost.contains (goldenKey e addr)
  if !goldenOk then (s.when (!lost) (·.uncorrectable (.golden (Fin.ofNat 4 e)) addr)).retire e
  else if lost || decide (2 ≤ (before.filter (fun p => p.1 == addr)).length) then s.retire e
  else
    let s := ((s.bump .csStat 8 8 e).setFld .mcLast 0 14 addr e).repairWord e addr
    s.drawn.fault 0x02 (80 + e) 0 false (Config.freeNs s.freeCtr % 1001) (toW addr) 0

/-- A lockstep mismatch (R214): every context of the engine is retried from its last boundary, so no state of a context
changes. -/
def State.lockstepCheck (s : State) (e l : Nat) : State :=
  let s := { s with lockTimes := s.lockTimes.set [] e (s.now :: (s.lockTimes.at [] e).take 2) }
  let s := (s.bump .csStat 16 8 e).noteCheck e fcLockstep l
  s.drawn.fault 0x03 (80 + e) 0 false (Config.freeNs s.freeCtr % 1001) 0 0

/-- A machine check of engine e while its local context l runs. -/
def State.checkNow (s : State) (e : Nat) (c : HeldCheck) : State :=
  if !s.engLive e then s
  else match c.word with
    | some (addr, goldenOk) => s.parityCheck e c.l addr goldenOk
    | none => s.lockstepCheck e c.l

/-- It is taken at once; on a halted engine, at the resume (R195, R211). -/
def State.machineCheck (s : State) (e : Nat) (c : HeldCheck) : State :=
  if s.halted e then { s with heldChecks := s.heldChecks.set [] e (s.heldChecks.at [] e ++ [c]) } else s.checkNow e c

/-- MC_PARITY (R212): a word read for local context l. -/
def execMcParity (e : Fin 4) (l : Fin 32) (addr : Fin 8192) (dispatch goldenOk : Bool) (ts : Stamp) (s : State) :
    Host.Outcome State Fault Refusal :=
  .next (s.happens (islEngine e) ts (·.engLive e) (fun s =>
    s.machineCheck e { l := l, word := some (if dispatch then 8192 + addr % 256 else addr, goldenOk) }))

/-- MC_LOCKSTEP (R214). -/
def execMcLockstep (e : Fin 4) (l : Fin 32) (ts : Stamp) (s : State) : Host.Outcome State Fault Refusal :=
  .next (s.happens (islEngine e) ts (·.engLive e) (·.machineCheck e { l := l, word := none }))

/-! ## Patches -/

/-- A record of a patch package: type, first address, items of 4 words or 1. -/
structure PatchRec where
  ty : Nat
  first : Nat
  items : List (List Word)
  deriving DecidableEq, Repr

/-- The first k items of n words each. -/
def chunks (n : Nat) : Nat → List Word → List (List Word)
  | 0, _ => []
  | k + 1, ws => ws.take n :: chunks n k (ws.drop n)

/-- The records of a body (R218): none where a type, an address or the length is wrong. -/
def patchRecs : Nat → List Word → Option (List PatchRec)
  | 0, ws => if ws.isEmpty then some [] else none
  | k + 1, ws =>
    let ty := getF (ws.getD 0 0) 0 16
    let cnt := getF (ws.getD 0 0) 16 16
    let first := (ws.getD 1 0).toNat
    let n := if ty = 1 then 4 else 1
    let body := ws.drop 2
    if ws.length < 2 ∨ ¬(ty = 1 ∨ ty = 2) ∨ body.length < n * cnt ∨ (if ty = 1 then 0x2000 else 0x100) < first + cnt then none
    else (patchRecs k (body.drop (n * cnt))).map (fun r => { ty := ty, first := first, items := chunks n cnt body } :: r)

/-- The checks of R219 on a package: its status, and its records. CS_VER and CS_PATCH are those of each engine it names. -/
def State.patchCheck (s : State) (ws : List Word) (sigOk : Bool) : Nat × List PatchRec :=
  let w (i : Nat) : Word := ws.getD i 0
  let len := (w 7).toNat
  let recs := patchRecs (w 6).toNat ((ws.drop 8).take (len / 4))
  let named := bitsOf 4 (w 5).toNat
  let absent := named.any (fun e => decide (s.engines ≤ e))
  if w 0 ≠ 0x48435450 ∨ w 1 ≠ 0x10008 ∨ (w 6).toNat = 0 ∨ 256 < (w 6).toNat ∨ len % 4 ≠ 0 ∨ ws.length * 4 ≠ 32 + len + 64 ∨ absent then
    (stParam, [])
  else match recs with
  | none => (stParam, [])
  | some l =>
    if !sigOk then (stAuth, [])
    else if named.any (fun e => decide (w 2 ≠ s.rd .csVer e ∨ (w 3).toNat ≤ s.fld .csPatch 0 16 e)) then (stParam, [])
    else (stOk, l)

/-- The words of a record go into the golden copy and then the store of engine e; a golden word written is whole again. -/
def State.patchRec (s : State) (e : Nat) (r : PatchRec) : State :=
  r.items.zipIdx.foldl (fun s (ws, i) =>
    let addr := r.first + i + (if r.ty = 1 then 0 else 8192)
    let s := if r.ty = 1 then { s with golden := s.golden.set [] (8192 * e + r.first + i) ws }
      else { s with goldenDispatch := s.goldenDispatch.set none (256 * e + r.first + i) (some (ws.headD 0)) }
    { s with goldenLost := s.goldenLost.filter (· ≠ goldenKey e addr) }.repairWord e addr) s

/-- Engine e is held for at most 20 µs from now on (R219); how long is free. -/
def State.patchHold (s : State) (e : Nat) : State :=
  let till := toS (s.now.toNat + 16 * (Config.freeNs s.freeCtr % 20001))
  { s.drawn with patchEnd := s.patchEnd.set 0 e till, cycleAt := s.cycleAt.set 0 e (toS (max (s.cycleAt.at 0 e).toNat till.toNat)) }

/-- Every context of the engine is at a boundary with no fabric reply outstanding (R219 step 1). -/
def State.settled (s : State) (e : Nat) : Bool := (List.range 32).all (fun l => (s.ctx (ctxOf e l)).out.isNone)

/-- PATCH_APPLY (R219): the package of the FW_PATCH in progress, once no fabric reply of a named engine is outstanding; sigOk: its
signature verifies with the vendor key. A retired engine is skipped (R372). The digest is that of the patched store, which
the spec does not list: a free value. -/
def execPatchApply (sigOk : Bool) (ts : Stamp) (s : State) : Host.Outcome State Fault Refusal :=
  .next (s.happens islFabric ts (fun _ => true) (fun s =>
    match s.longOps.find? (fun o => o.opcode == 0x901 && o.outcome.isNone) with
    | none => s
    | some o =>
      let ws := s.taskMem.words (o.params.getD 0 0).toNat ((o.params.getD 1 0).toNat / 4)
      let (st, recs) := s.patchCheck ws sigOk
      let es := (bitsOf 4 (ws.getD 5 0).toNat).filter (fun e => s.engLive e)
      if st ≠ stOk then s.finishNow o.num st []
      else if !es.all s.settled then s
      else
        let digest := Config.freeWord s.freeCtr
        let s := s.drawn.each es (fun s e =>
          let s := recs.foldl (fun s r => s.patchRec e r) (s.patchHold e)
          ((s.wr .csPatch (toW (getF (ws.getD 3 0) 0 16)) e).wr .csPatchId (ws.getD 4 0) e).wr .csDigest digest e)
        let s := if s.liveEngines.any (fun e => s.rd .csDigest e != s.rd .csDigest (s.liveEngines.headD 0)) then
          s.fault 0x14 255 0 false 0 0 0 else s
        s.finishNow o.num stOk []))

/-! ## Words that R174 does not list -/

/-- R174 lists the opcode, by its first and last in each run of its table. -/
def opListed (op : Nat) : Bool :=
  [(0x01, 0x11), (0x13, 0x18), (0x1A, 0x1A), (0x1C, 0x1E), (0x20, 0x21), (0x30, 0x34), (0x38, 0x3A), (0x3C, 0x46), (0x48, 0x4B),
    (0x50, 0x55), (0x60, 0x61), (0x68, 0x69), (0x70, 0x74), (0x78, 0x7B)].any (fun (a, b) => decide (a ≤ op ∧ op ≤ b))

/-- A word that no row of R174 spells issues (R173, R216): ILLEGAL, unless its opcode is one that a patch has defined, whose
microcode then runs. A word that spells another row has no effect here. -/
def execIllegal (x : Fin 128) (word : Word) (s : State) : Host.Outcome State Fault Refusal :=
  .next (if decodeTask x word = .illegal x word then s.issue x (fOp word) false id (opListed (fOp word)) else s)

end Sys2Proof.Machine
end

