-- ==== Sys2Proof/Machine/Debug.lean ====
section
/-! DEFINITION. The debug port and the TAP (R195, R399), and the management path (R321 to R324). -/

namespace Sys2Proof.Machine

/-! ## The TAP -/

/-- A TAP instruction is loaded, with what its data register captures. -/
def State.loadTap (s : State) (i : JtagInstr) (dr : List Bool) : State := { s with jtag := i, scanned := dr }

/-- IDCODE (R399): silicon major revision 1 (log entry 1), 0xF404, 0x25B and 1. -/
def idcode : Word := 0x1F4044B7

/-! The boundary register covers every signal ball but the Mortar and PCIe pairs (R399). The order of its cells is the model's
(DESIGN CHOICE, log entry 45): TIO_0 to TIO_255, PIO_0_0 to PIO_31_4, ALERT#, WAKE#, FL_RESET#, WAKE_IN, MG_CS#, PERST#, and the
balls of which the model holds no level: FL_CK, FL_CS#, FL_DQS, FL_DQ_0 to 7, MG_SCK, MG_MOSI, MG_MISO, NRESET and REFCLK. -/

def cellCount : Nat := 438

/-- What the unit of a cell's ball drives (R390): ALERT# and WAKE# are open drain, the flash is deselected between commands. -/
def State.cellDrive (s : State) (n : Nat) : Drive :=
  if n < 256 then s.pinDrive n
  else if n < 416 then s.pioDrive ((n - 256) / 5) ((n - 256) % 5)
  else match n with
  | 416 => if (s.alert || s.startHalted) && s.pstate != 5 then .low else .hiz
  | 417 => if s.wakePin && !s.startHalted then .low else .hiz
  | 418 => if s.flashUp && s.pstate != 5 then .high else .low
  | 423 => if (s.flashUp || s.startHalted) && s.pstate != 5 then .high else .hiz
  | _ => .hiz

/-- The level at a ball that its unit does not drive: FL_CS# has a weak pull-up (R390); free where the model holds none. -/
def State.cellLevel (s : State) (n : Nat) : Bool :=
  if n < 256 then s.pinLevel n
  else match n with
  | 419 => s.lines.at false 0
  | 420 => s.lines.at false 5
  | 421 => s.hostLink != .reset
  | 423 => true
  | _ => Config.freeNs (s.freeCtr + n) % 2 == 1

/-- What the cells capture: the level that a unit drives, else the one at the ball. -/
def State.boundaryNow (s : State) : List Bool :=
  (List.range cellCount).map (fun n => match s.cellDrive n with | .high => true | .low => false | .hiz => s.cellLevel n)

/-- What drives a cell's ball: EXTEST and CLAMP take each covered output from its unit for the boundary register, HIGHZ releases
it (R399). -/
def State.ballDrive (s : State) (n : Nat) : Drive :=
  match s.jtag with
  | .highz => .hiz
  | .extest | .clamp =>
    (match s.cellDrive n with
    | .hiz => .hiz
    | _ => if s.boundary.getD n false then .high else .low)
  | _ => s.cellDrive n

/-- A TAP instruction is loaded that captures the boundary cells. -/
def State.sampleTap (s : State) (i : JtagInstr) : State :=
  { s.loadTap i s.boundaryNow with freeCtr := s.freeCtr + cellCount }

def execIdcode (s : State) : Host.Outcome State Fault Refusal :=
  .next (s.loadTap .idcode ((List.range 32).map (fun b => getB idcode b)))
def execBypass (s : State) : Host.Outcome State Fault Refusal := .next (s.loadTap .bypass [false])
def execSamplePreload (preload : List Bool) (s : State) : Host.Outcome State Fault Refusal :=
  .next ({ s with boundary := preload }.sampleTap .samplePreload)
def execExtest (s : State) : Host.Outcome State Fault Refusal := .next (s.sampleTap .extest)
def execClamp (s : State) : Host.Outcome State Fault Refusal := .next (s.loadTap .clamp [false])
def execHighz (s : State) : Host.Outcome State Fault Refusal := .next (s.loadTap .highz [false])
/-- TAP_RESET: IDCODE is loaded; EXTEST, CLAMP or HIGHZ ends. -/
def execTapReset (s : State) : Host.Outcome State Fault Refusal :=
  .next (s.loadTap .idcode ((List.range 32).map (fun b => getB idcode b)))

/-! ## The debug port -/

/-- ENG_DBG and the halted view are reached by the TAP instruction ENG_DEBUG (R399), on a fitted engine, in Run to Doze. -/
def State.debugs (s : State) (e : Nat) : Bool := s.jtag == .engDebug && decide (e < s.engines) && decide (s.pstate < 3)

/-- A word of a context written as the halted view shows it (R195). -/
def State.writeHalted (s : State) (x n : Nat) (v : Word) : State :=
  if n < 16 then s.setG x (Fin.ofNat 16 n) v
  else s.onCtx x (fun c => match n with
    | 16 => { c with pc := v } | 17 => { c with sp := v } | 18 => { c with psw := v &&& 0x1FFF }
    | 19 => { c with cause := v } | _ => { c with prog := v })

/-- ENG_DEBUG (R399): the instruction is loaded; what is then shifted in may write a context of a halted engine (R195). -/
def execEngDebug (write : Option DebugWrite) (s : State) : Host.Outcome State Fault Refusal :=
  let s := s.loadTap .engDebug []
  .next (match write with
  | some w => s.when (s.debugs w.e && s.halted w.e) (·.writeHalted (ctxOf w.e w.l) w.word w.v)
  | none => s)

/-- The units whose state a halt changes: the engine, and the tiles that freeze with it. -/
def State.haltUnits (s : State) (e : Nat) : List Nat :=
  (80 + e) :: (List.range s.tiles).filter (fun t => s.flag .tileCtrl 0 t)

def State.setHalt (s : State) (e : Nat) (b : Bool) : State :=
  (s.withUnits (s.haltUnits e) (·.setFlag .engDbg 0 b e)).syncTiles

/-- ENG_DEBUG_HALT (R195): the boundary of each context is that of the commands; a reply that is out stays out. -/
def execEngDebugHalt (e : Fin 4) (s : State) : Host.Outcome State Fault Refusal :=
  .next (if s.debugs e then s.setHalt e true else s)

/-- ENG_DEBUG_RESUME (R195): the machine checks raised in the halt are taken. -/
def execEngDebugResume (e : Fin 4) (s : State) : Host.Outcome State Fault Refusal :=
  .next (if s.debugs e then
    (s.heldChecks.at [] e).foldl (fun s c => s.checkNow e c) { s.setHalt e false with heldChecks := s.heldChecks.set [] e [] }
  else s)

/-- The meaning of a task instruction; no other command comes from a fetched word. -/
def taskMeaning (i : Instr) (s : State) : Host.Outcome State Fault Refusal :=
  match i with
  | .commit x rs imm => execCommit x rs imm s
  | .add x rd rs rt => execAdd x rd rs rt s
  | .sub x rd rs rt => execSub x rd rs rt s
  | .and x rd rs rt => execAnd x rd rs rt s
  | .or x rd rs rt => execOr x rd rs rt s
  | .xor x rd rs rt => execXor x rd rs rt s
  | .shl x rd rs rt => execShl x rd rs rt s
  | .shr x rd rs rt => execShr x rd rs rt s
  | .sar x rd rs rt => execSar x rd rs rt s
  | .mul x rd rs rt => execMul x rd rs rt s
  | .mulh x rd rs rt => execMulh x rd rs rt s
  | .mulhu x rd rs rt => execMulhu x rd rs rt s
  | .div x rd rs rt => execDiv x rd rs rt s
  | .divu x rd rs rt => execDivu x rd rs rt s
  | .min x rd rs rt => execMin x rd rs rt s
  | .max x rd rs rt => execMax x rd rs rt s
  | .cmp x rs rt => execCmp x rs rt s
  | .addi x rd rs imm => execAddi x rd rs imm s
  | .andi x rd rs imm => execAndi x rd rs imm s
  | .ori x rd rs imm => execOri x rd rs imm s
  | .xori x rd rs imm => execXori x rd rs imm s
  | .shli x rd rs imm => execShli x rd rs imm s
  | .shri x rd rs imm => execShri x rd rs imm s
  | .sari x rd rs imm => execSari x rd rs imm s
  | .cmpi x rs imm => execCmpi x rs imm s
  | .movi x rd imm => execMovi x rd imm s
  | .movhi x rd imm => execMovhi x rd imm s
  | .mov x rd rs => execMov x rd rs s
  | .mfs x rd imm => execMfs x rd imm s
  | .mts x rs imm => execMts x rs imm s
  | .ldw x rd rs imm => execLdw x rd rs imm s
  | .ldh x rd rs imm => execLdh x rd rs imm s
  | .ldhu x rd rs imm => execLdhu x rd rs imm s
  | .ldb x rd rs imm => execLdb x rd rs imm s
  | .ldbu x rd rs imm => execLdbu x rd rs imm s
  | .stw x rd rs imm => execStw x rd rs imm s
  | .sth x rd rs imm => execSth x rd rs imm s
  | .stb x rd rs imm => execStb x rd rs imm s
  | .push x rd => execPush x rd s
  | .pop x rd => execPop x rd s
  | .regrd x rd rs imm => execRegrd x rd rs imm s
  | .regwr x rd rs imm => execRegwr x rd rs imm s
  | .b x imm => execB x imm s
  | .beq x imm => execBeq x imm s
  | .bne x imm => execBne x imm s
  | .blt x imm => execBlt x imm s
  | .bge x imm => execBge x imm s
  | .bltu x imm => execBltu x imm s
  | .bgeu x imm => execBgeu x imm s
  | .call x imm => execCall x imm s
  | .ret x => execRet x s
  | .jr x rs => execJr x rs s
  | .callr x rs => execCallr x rs s
  | .waitTime x rd rs arg => execWaitTime x rd rs arg s
  | .waitDelay x rd rs arg => execWaitDelay x rd rs arg s
  | .waitAngle x rd rs arg => execWaitAngle x rd rs arg s
  | .waitEvent x rd rs arg => execWaitEvent x rd rs arg s
  | .waitMbox x rd rs arg => execWaitMbox x rd rs arg s
  | .waitLock x rd rs arg => execWaitLock x rd rs arg s
  | .yield x => execYield x s
  | .endTask x => execEndTask x s
  | .trapCmd x => execTrapCmd x s
  | .trapInfo x => execTrapInfo x s
  | .trapLower x => execTrapLower x s
  | .trapLimit x => execTrapLimit x s
  | .trapUnknown x imm => execTrapUnknown x imm s
  | .rete x => execRete x s
  | .post x rd rs imm => execPost x rd rs imm s
  | .arm x rd rs => execArm x rd rs s
  | .cancel x rd rs => execCancel x rd rs s
  | .cancelFlush x rd rs => execCancelFlush x rd rs s
  | .tilewr x rd rs imm => execTilewr x rd rs imm s
  | .portx x rd rs imm => execPortx x rd rs imm s
  | .log x rd rs => execLog x rd rs s
  | .mboxSend x rd rs imm => execMboxSend x rd rs imm s
  | .mboxRecv x rd rs imm => execMboxRecv x rd rs imm s
  | .mboxPeek x rd rs imm => execMboxPeek x rd rs imm s
  | .lock x rd imm => execLock x rd imm s
  | .unlock x imm => execUnlock x imm s
  | .tbl1 x rd rs rt => execTbl1 x rd rs rt s
  | .tbl2 x rd rs rt => execTbl2 x rd rs rt s
  | .blkcp x rd rs rt => execBlkcp x rd rs rt s
  | .fill x rd rs rt => execFill x rd rs rt s
  | .illegal x word => execIllegal x word s
  | _ => .next s

/-- ENG_DEBUG_STEP (R195): one instruction, fetched from memory, of a context of a halted engine. -/
def execEngDebugStep (e : Fin 4) (ctx : Fin 32) (s : State) : Host.Outcome State Fault Refusal :=
  if !(s.debugs e && s.halted e) then .next s
  else
    let x : Fin 128 := Fin.ofNat 128 (ctxOf e ctx)
    let s := (s.setFld .engDbg 4 5 ctx e).setFlag .engDbg 1 true e
    match taskMeaning (decodeTask x (s.tm (s.ctx x).pc.toNat)) s with
    | .next t => .next (t.setFlag .engDbg 1 false e)
    | o => o

/-! ## The management path -/

/-- The CRC-8 of a frame's words (R321). -/
def mgmtCrc (a d : Word) : Nat := crcMsb 8 0x2F 0xFF (bitsMsb 32 a.toNat ++ bitsMsb 32 d.toNat) ^^^ 0xFF

/-- The 72 bits of a response, first one first: S, R, E and the CRC over them (R322). -/
def misoBits (r : Nat × Word × Nat) : List Bool :=
  let b := bitsMsb 8 r.1 ++ bitsMsb 32 r.2.1.toNat ++ bitsMsb 24 r.2.2
  b ++ bitsMsb 8 (crcMsb 8 0x2F 0xFF b ^^^ 0xFF)

/-- The addresses that the management path may write (R304, R323). -/
def supMayWrite (off : Nat) : Bool :=
  match regAt off with
  | some k => k.name.block.supWrites || k.name.block == .mbox || k.name.block == .irq || k.name == .unitReq
  | none => false

/-- Until S3, while the device is halted or waits, and in Nap and deeper, an address is not ready (R324). -/
def State.mgmtReady (s : State) (off : Nat) : Bool :=
  decide (s.pstate < 3) && s.reachable off && (s.rd .sysId != 0 || decide (off < 0x10000) || decide (0xE0000 ≤ off ∧ off < 0xF0000))

/-- The response that the next frame carries. -/
def State.respond (s : State) (st : Nat) (r a : Word) : State := { s with mgmtResp := (st, r, getF a 0 24) }

/-- MG_CS# falls and rises around a frame: the watch slots of KIND 4 fire (R239, R324), whatever their trigger. -/
def State.mgSelect (s : State) : State :=
  s.slotsFire ((List.range 16).filter (fun n => s.slotKind n == 4))

/-- The checks of a frame (R321, R322), during which MG_MISO carries the response that was due: one that begins before the
previous access has completed gets BUSY and does nothing; a discarded one counts; a good one does `g`. In Nap and deeper every frame
is answered NOT_READY (R324). -/
def State.mgmtFrame (s : State) (f : MgmtFrame) (g : State → State) : State :=
  if 3 ≤ s.pstate then ({ s with mgmtOut := (5, 0, getF f.a 0 24) }.respond 5 0 f.a).mgSelect
  else
  let s := s.mgSelect
  if f.early then { s with mgmtOut := (4, 0, s.mgmtResp.2.2) }
  else
  let s := { s with mgmtOut := s.mgmtResp }
  if f.bits ≠ 72 then (s.bump .sysMgmt 8 8).respond 2 0 f.a
  else if f.crc.toNat ≠ mgmtCrc f.a f.d then (s.bump .sysMgmt 0 8).respond 1 0 f.a
  else g s

/-- MGMT_READ (R321 to R323). A denied one counts (R306). -/
def State.mgmtReads (s : State) (a : Word) : State :=
  let off := getF a 0 28
  if !s.mgmtReady off then s.respond 5 0 a
  else if getF a 28 2 ≠ 0 ∨ !supReads off then (s.accErr .supervisor off .privilege).respond 3 0 a
  else
    let (w, s) := s.busRead .supervisor off 4
    (s.setRead 1 w).respond 0 w a

/-- MGMT_WRITE (R321 to R323): a write that the column of R304 does not allow the supervisor is dropped, counted and DENIED. -/
def State.mgmtWrites (s : State) (a d : Word) : State :=
  let off := getF a 0 28
  if !s.mgmtReady off then s.respond 5 0 a
  else if getF a 28 2 ≠ 0 ∨ !supMayWrite off then (s.accErr .supervisor off .privilege).respond 3 0 a
  else
    let t := s.busWrite .supervisor off 4 d
    let denied := t.rd .sysAccerr != s.rd .sysAccerr && (t.fld .sysAccerrSrc 16 4 == 2 || t.fld .sysAccerrSrc 16 4 == 3)
    t.respond (if denied then 3 else 0) 0 a

/-- A good frame acts as its bits A[31:30] say. -/
def State.mgmtAct (s : State) (f : MgmtFrame) : State :=
  s.mgmtFrame f (fun s =>
    if getB f.a 30 then s else s.onBus (fun s => if getB f.a 31 then s.mgmtWrites f.a f.d else s.mgmtReads f.a))

def execMgmtRead (f : MgmtFrame) (s : State) : Host.Outcome State Fault Refusal := .next (s.mgmtAct f)
def execMgmtWrite (f : MgmtFrame) (s : State) : Host.Outcome State Fault Refusal := .next (s.mgmtAct f)
/-- MGMT_NOP (R321, R322): the response stays for the next frame too. -/
def execMgmtNop (f : MgmtFrame) (s : State) : Host.Outcome State Fault Refusal := .next (s.mgmtAct f)

end Sys2Proof.Machine
end

