-- ==== Sys2Proof/Machine/Transfer.lean ====
section
/-! DEFINITION. What the DMA channels carry out (15: R351 to R360), and the drain of the signal log (R250, R251). A
descriptor is fetched when the channel comes to it, not ahead (DESIGN CHOICE, log entry 31). -/

namespace Sys2Proof.Machine

/-- A range in task memory reaches past 4 MiB or into the Keystone region (R353). -/
def outOfTask (sp a n : Nat) : Bool := sp == 1 && decide (0x3C0000 < a + n)

/-- A descriptor that completes with ERR PARAM (R353, R251). -/
def State.descBad (s : State) (c : Nat) : Bool :=
  let op := s.descOp c
  let len := s.descLen c
  let usesSrc := (op == 0 && !s.drains c) || op == 2 || op == 3
  let usesDst := op == 0 || op == 1 || op == 3 || (op == 2 && !getB (s.descW c 0) 8)
  let dstLen := if op = 3 then (s.descW c 6).toNat else len
  decide (3 < op) || s.srcSp c == 3 || decide (2 ≤ s.dstSp c) || decide (16777216 < len) ||
    (usesSrc && outOfTask (s.srcSp c) (s.descSrc c) len) || (usesDst && outOfTask (s.dstSp c) (s.descDst c) dstLen) ||
    (usesSrc && s.srcSp c == 2 && decide (s.descSrc c % 4 ≠ 0 ∨ len % 4 ≠ 0)) ||
    (op == 3 && decide ((s.descW c 6).toNat < 64)) || (s.drains c && decide (op ≠ 0 ∨ len % 8 ≠ 0 ∨ len < 16))

/-- The descriptor's work is done, and its status may be written (R354). -/
def State.descDoneAll (s : State) (c : Nat) : Bool :=
  let x := s.dma c
  !x.desc.isEmpty && (s.descBad c || s.descLen c == 0 || (if s.drains c then x.closed
    else if s.descOp c = 3 then x.taken && x.waits.isNone && decide (4 * x.reply.length ≤ s.descDone c)
    else x.diff || decide (s.descLen c ≤ s.descDone c)))

/-- DESCRIPTOR_FETCH (R355). -/
def execDescriptorFetch (c : Fin 16) (ts : Stamp) (s : State) : Host.Outcome State Fault Refusal :=
  let c := c.val
  .next (s.happens islFabric ts (fun s => s.dmaGoes c && (s.dma c).desc.isEmpty && !s.flag .dmaStat 1 c) (fun s =>
    let a := s.descAt c
    let sp := s.ringSp c
    match s.dmaFails sp a 32 false with
    | some (cause, addr) => s.dmaHalt c 1 cause sp addr false
    | none =>
      let ws := (List.range 8).map (fun i => s.dmaWord sp (a + 4 * i))
      if getB (ws.headD 0) 31 then
        s.withUnit (dmaUnit c) (fun s =>
          ((s.onDma c (fun x => { x with desc := ws, ready := if x.ready.toNat < ts.toNat then ts else x.ready })).setFlag
            .dmaStat 0 true c).wr .dmaProg 0 c)
      else s.setFlag .dmaStat 1 true c))

/-- n bytes of a channel's source from byte k on: a register space is read word by word (R349). -/
def State.srcBytes (s : State) (c k n : Nat) : List Byte × State :=
  let a := s.descSrc c + k
  if s.srcSp c = 2 then
    (List.range (n / 4)).foldl (fun (l, s) i =>
      let (w, s) := s.busRead (.dma (Fin.ofNat 16 c)) (a + 4 * i) 4
      (l ++ (List.range 4).map (byteOf w), s)) ([], s)
  else ((List.range n).map (fun i => s.dmaByte (s.srcSp c) (a + i)), s)

/-- Bytes stored at the destination, from byte k on. -/
def State.putBytes (s : State) (sp a : Nat) (l : List Byte) : State :=
  let s := l.zipIdx.foldl (fun s (b, i) => s.putDmaByte sp (a + i) b) s
  if sp = 1 then { s with badTm := s.badTm.filter (fun w => !decide (a ≤ w ∧ w + 4 ≤ a + l.length)) } else s

/-- An ascending byte copy within one space, overlap and all (R352). -/
def State.copyBytes (s : State) (sp dp a b : Nat) (n : Nat) : State :=
  let s := (List.range n).foldl (fun s i => s.putDmaByte dp (b + i) (s.dmaByte sp (a + i))) s
  if dp = 1 then { s with badTm := s.badTm.filter (fun w => !decide (b ≤ w ∧ w + 4 ≤ b + n)) } else s

/-- The size of a channel's bursts, and the fine ticks from the start of one to the next (R359). -/
def State.burstSize (s : State) (c : Nat) : Nat := 64 * 2 ^ s.fld .dmaShare 9 2 c
def State.burstGap (s : State) (c : Nat) : Nat := divUp (s.burstSize c * 1024) (s.fld .dmaShare 0 9 c)

/-- A burst begins: its bytes, cut at a boundary of the destination, or of the source for COMPARE (R359). -/
def State.burstLen (s : State) (c : Nat) : Nat :=
  let b := s.burstSize c
  let a := (if s.descOp c = 2 then s.descSrc c else s.descDst c) + s.descDone c
  let n := min (s.descLen c - s.descDone c) (b - a % b)
  if s.srcSp c = 2 ∧ s.descOp c ≠ 1 then max 4 (n / 4 * 4) else n

/-- Progress by n bytes. -/
def State.stepProg (s : State) (c n : Nat) : State := s.wr .dmaProg (toW (s.descDone c + n)) c

/-- One burst of COPY, FILL or COMPARE (R352, R359). -/
def State.burst (s : State) (c : Nat) : State :=
  let k := s.descDone c
  let n := s.burstLen c
  let op := s.descOp c
  let src := s.descSrc c + k
  let dst := s.descDst c + k
  let pat := op == 1 || (op == 2 && getB (s.descW c 0) 8)
  let s := { s.onDma c (fun x => { x with ready := toS (x.ready.toNat + s.burstGap c) }) with dmaLast := c }
  let patByte (i : Nat) : Byte := byteOf (s.descW c 6) ((k + i) % 4)
  match (if op = 1 ∨ s.srcSp c = 2 then none else s.dmaFails (s.srcSp c) src n false) with
  | some (cause, addr) => s.dmaHalt c 2 cause (s.srcSp c) addr false
  | none =>
    if op = 2 then
      match (if pat then none else s.dmaFails (s.dstSp c) dst n false) with
      | some (cause, addr) => s.dmaHalt c 2 cause (s.dstSp c) addr false
      | none =>
        let (l, s) := s.srcBytes c k n
        let other (i : Nat) : Byte := if pat then patByte i else s.dmaByte (s.dstSp c) (dst + i)
        match (List.range n).find? (fun i => l.getD i 0 != other i) with
        | some i => (s.onDma c (fun x => { x with diff := true })).stepProg c i
        | none => s.stepProg c n
    else
      match s.dmaFails (s.dstSp c) dst n true with
      | some (cause, addr) => s.dmaHalt c 3 cause (s.dstSp c) addr true
      | none =>
        if op = 1 then (s.putBytes (s.dstSp c) dst ((List.range n).map patByte)).stepProg c n
        else if s.srcSp c = 2 then
          let (l, s) := s.srcBytes c k n
          (s.putBytes (s.dstSp c) dst l).stepProg c n
        else (s.copyBytes (s.srcSp c) (s.dstSp c) src dst n).stepProg c n

/-- A burst of operation `op` may start at ts. -/
def State.mayBurst (s : State) (c : Nat) (ops : List Nat) (ts : Stamp) : Bool :=
  s.dmaGoes c && !(s.dma c).desc.isEmpty && !s.drains c && ops.contains (s.descOp c) && !s.descDoneAll c &&
    decide ((s.dma c).ready.toNat ≤ ts.toNat)

/-- The bursts that may start up to ts. -/
def State.bursts (s : State) (c : Nat) (op : Nat) (ts : Stamp) : Nat → State
  | 0 => s
  | n + 1 => if s.mayBurst c [op] ts then (s.burst c).bursts c op ts n else s

/-- A data operation runs as far as its share lets it by ts (R352, R359). -/
def State.runOp (s : State) (c op : Nat) (ts : Stamp) : State :=
  s.happens islFabric ts (fun s => s.mayBurst c [op] ts) (fun s => s.bursts c op ts (s.descLen c + 1))

def execCopy (c : Fin 16) (ts : Stamp) (s : State) : Host.Outcome State Fault Refusal := .next (s.runOp c 0 ts)
def execFillDescriptor (c : Fin 16) (ts : Stamp) (s : State) : Host.Outcome State Fault Refusal := .next (s.runOp c 1 ts)
def execCompare (c : Fin 16) (ts : Stamp) (s : State) : Host.Outcome State Fault Refusal := .next (s.runOp c 2 ts)

/-- The channels that may start a burst at ts and are served before c: the rotation goes on from the channel after the one served last
(R360). -/
def State.burstsBefore (s : State) (c : Nat) (ts : Stamp) : List Nat :=
  ((List.range 16).map (fun i => (s.dmaLast + 1 + i) % 16)).takeWhile (fun d => d != c) |>.filter (fun d => s.mayBurst d [0, 1, 2] ts)

/-- A burst of channel c starts at ts. -/
def State.burstAt (s : State) (ts : Stamp) (c : Nat) : State :=
  (s.onDma c (fun x => { x with ready := ts })).burst c

/-- DMA_BURST (R359, R360). -/
def execDmaBurst (c : Fin 16) (ts : Stamp) (s : State) : Host.Outcome State Fault Refusal :=
  .next (s.happens islFabric ts (fun s => s.mayBurst c [0, 1, 2] ts) (fun s =>
    (s.each (s.burstsBefore c ts) (fun s d => s.burstAt ts d)).burstAt ts c))

/-- DESCRIPTOR_COMPLETE (R354): a descriptor whose work is done completes even under a pause or a hold (R364). -/
def execDescriptorComplete (c : Fin 16) (ts : Stamp) (s : State) : Host.Outcome State Fault Refusal :=
  .next (s.happens islFabric ts (fun s => s.flag .dmaCtrl 0 c && !s.flag .dmaStat 3 c && s.descDoneAll c) (fun s =>
    s.completeDesc c (b2n (s.descBad c)) (if s.descBad c then 0 else s.descDone c)))

/-! ## The drain of the log -/

/-- Whole records, oldest first, that fit into n more bytes, and whether one is left that does not. -/
def fitRecs : Nat → List (Nat × Nat × Stamp) → List (Nat × Nat × Stamp) × Bool
  | _, [] => ([], false)
  | n, r :: rest => if r.2.1 ≤ n then let (l, b) := fitRecs (n - r.2.1) rest; (r :: l, b) else ([], true)

/-- LOG_DRAIN_DESCRIPTOR (R251). -/
def execLogDrainDescriptor (ts : Stamp) (s : State) : Host.Outcome State Fault Refusal :=
  let c := s.fld .logCtrl 4 4
  .next (s.happens islFabric ts (fun s => s.drains c && s.dmaGoes c && !(s.dma c).desc.isEmpty && !s.descBad c && !(s.dma c).closed) (fun s =>
    let k := s.descDone c
    let (l, left) := fitRecs (s.descLen c - k) s.logRecs
    let n := (l.map (fun r => r.2.1)).foldl (· + ·) 0
    match l with
    | [] => s.onDma c (fun x => { x with closed := left || decide (s.descLen c ≤ k) })
    | first :: _ =>
      match s.dmaFails (s.dstSp c) (s.descDst c + k) n true with
      | some (cause, addr) => s.dmaHalt c 3 cause (s.dstSp c) addr true
      | none =>
        let bytes := (List.range n).map (fun i => s.logMem.byte ((first.1 + i) % s.logZ))
        let s := (s.putBytes (s.dstSp c) (s.descDst c + k) bytes).stepProg c n
        let s := s.onDma c (fun x => { x with
          oldest := if k = 0 then first.2.2 else x.oldest, closed := left || decide (s.descLen c ≤ k + n) })
        s.setLogRd ((first.1 + n) % (2 * s.logZ))))

/-- LOG_FLUSH_EXPIRY (R250, R251); LOG_FLUSH 0: no limit. -/
def execLogFlushExpiry (ts : Stamp) (s : State) : Host.Outcome State Fault Refusal :=
  let late (t : Stamp) : Bool := decide (t.toNat + 16 * (s.rd .logFlush).toNat ≤ ts.toNat)
  .next (s.happens islFabric ts (fun s => s.rd .logFlush != 0) (fun s =>
    if s.flag .logCtrl 1 then
      let c := s.fld .logCtrl 4 4
      if !(s.dma c).desc.isEmpty ∧ 0 < s.descDone c ∧ late (s.dma c).oldest then s.onDma c (fun x => { x with closed := true })
      else s
    else match s.logRecs with
      | (_, _, t) :: _ => if late t then s.logEvent 0 else s
      | [] => s))

end Sys2Proof.Machine
end

