-- ==== Sys2Proof/Machine/Command.lean ====
section
/-! DEFINITION. What a command is to the service firmware (13: R312 to R320): its TARGET, its length, the paths that may use
it, and its own act, with the checks of R316. The acts are in Units-, Tile-, Time- and DeviceCommands. -/

namespace Sys2Proof.Machine

/-- What TARGET names: the device, one of n units from `lo` on, or a context (R307, R313). -/
inductive CmdTarget where
  | device
  | unit (lo n : Nat)
  | context
  deriving DecidableEq, Repr

/-- A command of R319. -/
structure Cmd where
  target : CmdTarget
  /-- LEN fits: on a mailbox or not, and the parameters. -/
  len : Bool → List Word → Bool
  /-- A unit that a parameter names is absent, or the command's function is (R21, R24); i is the unit's number in its kind. -/
  absent : State → Nat → List Word → Bool := fun _ _ _ => false
  /-- It gives its own order of checks after LEN (R145, R235). -/
  own : Bool := false
  long : Bool := false
  /-- The supervisor may use it; a task may (R320). -/
  sup : Bool := true
  task : Bool := false
  /-- The checks on state, parameters and resources, and the effect: unit number, and the number of the long operation. -/
  run : State → Packet → Nat → Nat → Answer × State

/-- LEN is n. -/
def lenIs (n : Nat) (_ : Bool) (ps : List Word) : Bool := ps.length == n

/-- Parameter i. -/
def prm (pk : Packet) (i : Nat) : Word := pk.params.getD i 0
/-- Field [len + lo - 1 : lo] of parameter i. -/
def pf (pk : Packet) (i lo len : Nat) : Nat := getF (prm pk i) lo len

/-- The words of a packet (R313). -/
def packetWords (pk : Packet) (op : Nat) : List Word :=
  toW (op + pk.params.length * 65536 + b2n pk.wait * 2 ^ 24 + b2n pk.quiet * 2 ^ 25) ::
    toW (pk.tag.toNat + pk.target.toNat % 65536 * 65536) :: pk.params

def pathSup : CmdPath → Bool | .supBox _ => true | _ => false
def pathTask : CmdPath → Bool | .task _ => true | _ => false
def pathMailbox : CmdPath → Bool | .hostBox _ | .supBox _ => true | _ => false

/-- The requester that a path stands for (R146). -/
def pathRequester : CmdPath → Requester | .supBox _ => .supervisor | .task x => .ctx x | _ => .host

/-- The unit whose state decides whether a command may act: a context's is its engine (DESIGN CHOICE, log entry 46). -/
def targetUnit (tg : Nat) : Option Nat :=
  if tg = 0xFFFF then none else if tg < 0x100 then some tg else some (80 + (tg - 0x100) / 32)

/-- TARGET names nothing that is fitted. -/
def State.targetAbsent (s : State) (tg : Nat) : Bool :=
  if tg = 0xFFFF then false else if tg < 0x100 then !s.fitted tg else decide (32 * s.engines ≤ tg - 0x100)

/-- TARGET is of the kind the command takes: any other is out of range (DESIGN CHOICE, log entry 46). -/
def CmdTarget.takes : CmdTarget → Nat → Bool
  | .device, tg => tg == 0xFFFF
  | .unit lo n, tg => decide (lo ≤ tg ∧ tg < lo + n)
  | .context, tg => decide (0x100 ≤ tg ∧ tg < 0x180)

/-- The number that the act gets: the unit's number in its kind, or the context. -/
def CmdTarget.index : CmdTarget → Nat → Nat
  | .device, _ => 0
  | .unit lo n, tg => if n = 256 then tg else tg - lo
  | .context, tg => tg - 0x100

/-- The unit is failed or under a Keystone hold, or held and the path is not the supervisor's (R320). -/
def State.barred (s : State) (p : CmdPath) (u : Nat) : Bool :=
  s.isFailed u || (s.held u && (s.flag .unitState 4 u || !pathSup p))

/-- The checks of R316 down to BUSY. `bad`: a reserved flag or a wrong packet size. -/
def State.cmdCheck (s : State) (c : Cmd) (op : Nat) (pk : Packet) (bad : Bool) : Option Nat :=
  let tg := pk.target.toNat
  let limit := if pathMailbox pk.path then 14 else 254
  if pathTask pk.path && !c.task then some stDenied
  else if pathSup pk.path && !c.sup then some stOpcode
  else if bad || decide (limit < pk.params.length) || !c.len (pathMailbox pk.path) pk.params then some stParam
  else if s.targetAbsent tg || (c.target.takes tg && c.absent s (c.target.index tg) pk.params) then some stAbsent
  else if !c.target.takes tg then some stParam
  else if c.own then none
  else if (targetUnit tg).any (fun u => s.barred pk.path u) then some stDenied
  else if c.long && s.longBusy op then some stBusy
  else none

/-- The long operation that a packet asks for. -/
def longOf (op : Nat) (pk : Packet) (buf : Nat × Nat × Nat × Bool) : LongOp := {
  num := 0, opcode := op, path := pk.path, tag := pk.tag, wait := pk.wait, quiet := pk.quiet, target := pk.target.toNat
  params := pk.params, buf := buf }

/-- The checks and the act of a listed command: the first check that fails gives the status, and nothing else happens (R316). -/
def State.tryCmd (s : State) (c : Cmd) (op : Nat) (pk : Packet) (buf : Nat × Nat × Nat × Bool) (bad : Bool) : Answer × State :=
  match s.cmdCheck c op pk bad with
  | some st => (refuse st, s)
  | none =>
    let n := s.longNext
    let (a, t) := c.run (if c.long then s.beginLong (longOf op pk buf) else s) pk (c.target.index pk.target.toNat) n
    (a, if c.long && a.status != stAccepted then t.endLong n else t)

/-- The held unit that TARGET names, where the command comes from the host: UNIT_REQ.DROPS counts its refusal (R311). -/
def State.heldTarget (s : State) (pk : Packet) : Option Nat :=
  if pathSup pk.path || pathTask pk.path then none else (targetUnit pk.target.toNat).filter s.held

/-- A listed command is carried out. -/
def State.runCmd (s : State) (c : Cmd) (op : Nat) (pk : Packet) (buf : Nat × Nat × Nat × Bool) (bad : Bool) : Answer × State :=
  let (a, t) := s.tryCmd c op pk buf bad
  match s.heldTarget pk with
  | some u => (a, if a.status = stDenied then t.bump .unitReq 8 8 u else t)
  | none => (a, t)

def accepted : Answer := refuse stAccepted

/-- A register that a parameter gives, written under its own rules (R319): by the service firmware's context 1. -/
def State.cmdWrite (s : State) (n : RegName) (w : Word) (i : Nat := 0) (j : Nat := 0) : State :=
  let k : RegKey := ⟨n, i, j⟩
  (s.wakeFor k.unit).writeUnit (.ctx 1) k w

/-- Registers written one after another. -/
def State.cmdWrites (s : State) (l : List (RegName × Word)) (i : Nat := 0) (j : Nat := 0) : State :=
  l.foldl (fun s (n, w) => s.cmdWrite n w i j) s

/-- A register that is a result, as one read shows it. -/
def State.cmdRead (s : State) (i : Nat) (n : RegName) : Word := s.viewKey ⟨n, i, 0⟩

end Sys2Proof.Machine
end

