-- ==== Sys2Proof/Machine/TileCommands.lean ====
section
/-! DEFINITION. The commands on tiles, pins and domains (R319: ranges 0x02 and 0x03). -/

namespace Sys2Proof.Machine

/-- A refusal with STATE and the unit's present code (R317). -/
def State.inState (s : State) (u : Nat) : Answer × State := (stateRefuse (s.unitCode u), s)
def inParam (s : State) : Answer × State := (refuse stParam, s)

/-- TILE_CH_CFG (R319). -/
def State.chCfg (s : State) (t : Nat) (ps : List Word) : Answer × State :=
  let c := (ps.getD 0 0).toNat
  if c < 8 ∧ s.running t c then s.inState t
  else if 8 ≤ c then inParam s
  else
    let names := [RegName.chCtrl, .chPresc, .chPeriod, .chCmpa, .chCmpb, .chFrac, .chAct, .chRatio, .chPwmctrl, .chIen]
    (ok, s.cmdWrites (names.zip (ps.drop 1)) t c)
def cmdTileChCfg : Cmd := { target := .unit 0 64, len := lenIs 11, run := fun s pk t _ => s.chCfg t pk.params }

/-- TILE_CH_UPDATE (R319, R63): a running channel's shadows, and a commit. -/
def State.chUpdate (s : State) (t : Nat) (ps : List Word) : Answer × State :=
  let c := getF (ps.getD 0 0) 0 3
  let names := [RegName.chPeriod, .chCmpa, .chCmpb, .chFrac, .chAct, .chRatio, .chPwmctrl]
  let sel := (names.zipIdx.filter (fun e => getB (ps.getD 0 0) (8 + e.2))).map (fun e => e.1)
  let runs := s.running t c
  if runs && s.flag .chStat 2 t (s.lead t c) then (refuse stBusy, s)
  else
    let s := s.cmdWrites (sel.zip (ps.drop 1)) t c
    (ok, if runs then s.commitMask t (2 ^ c) (s.nextNs t) else s)
def cmdTileChUpdate : Cmd := {
  target := .unit 0 64
  len := fun _ ps => decide (ps.length = 1 + (bitsOf 7 (getF (ps.getD 0 0) 8 7)).length)
  run := fun s pk t _ => s.chUpdate t pk.params }

/-- TILE_START (R69 to R71). -/
def cmdTileStart : Cmd := { target := .unit 0 64, len := lenIs 4, run := fun s pk t _ =>
  (ok,
    let s := s.wakeFor t
    if getB (prm pk 1) 0 then ((s.wr .tileStartAtLo (prm pk 2) t).wr .tileStartAtHi (prm pk 3) t).armStart t (pf pk 0 0 8)
    else s.startMask t (pf pk 0 0 8) (s.nextNs t) 0) }

/-- TILE_STOP (R69, R72). -/
def cmdTileStop : Cmd := { target := .unit 0 64, len := lenIs 1, run := fun s pk t _ =>
  (ok, (s.wakeFor t).stopTile t (pf pk 0 0 8)) }

/-- TILE_READ (R319): a capture is not acknowledged. -/
def cmdTileRead : Cmd := { target := .unit 0 64, len := lenIs 1, run := fun s pk t _ =>
  (let c := (prm pk 0).toNat
   if 8 ≤ c then inParam s
   else
     let s := s.wakeFor t
     (ok ([RegName.chStat, .chCount, .chAperiod, .chAcmpa, .chAcmpb, .chAfrac, .chAact, .chPwmstat, .chCapvLo, .chCapvHi,
       .chErrcnt, .chEvcnt].map (fun n => s.viewKey ⟨n, t, c⟩)), s)) }

/-- TILE_BRIDGE (R99, R24). -/
def State.bridgeCommand (s : State) (t : Nat) (ps : List Word) : Answer × State :=
  let p := (ps.getD 0 0).toNat
  if p < 4 ∧ (s.running t (2 * p) ∨ s.running t (2 * p + 1)) then s.inState t
  else if 4 ≤ p ∨ (getB (ps.getD 1 0) 0 ∧ (s.linked t (2 * p) ∨ bothHigh (s.rd .tripLvl t) p)) then inParam s
  else (ok, s.cmdWrites ([RegName.brCtrl, .brDt, .brMinpw].zip (ps.drop 1)) t p)
def cmdTileBridge : Cmd := {
  target := .unit 0 64, len := lenIs 4, absent := fun s _ _ => !s.hasBridge
  run := fun s pk t _ => s.bridgeCommand t pk.params }

/-- TILE_TRIP (R104, R109, R24): a reserved level, or HIGH on both sides of a bridge pair, is out of range. -/
def State.tripCommand (s : State) (t : Nat) (ps : List Word) : Answer × State :=
  let lvl := ps.getD 4 0
  let bad := (List.range 8).any (fun c => getF lvl (4 * c + 2) 2 == 3) ||
    (List.range 4).any (fun p => s.flag .brCtrl 0 t p && bothHigh lvl p)
  if bad then inParam s
  else (ok, s.cmdWrites ([RegName.tripCtrlA, .tripCtrlB, .tripBlankA, .tripBlankB, .tripLvl, .pmTrip].zip ps) t)
def cmdTileTrip : Cmd := {
  target := .unit 0 64, len := lenIs 6, absent := fun s _ _ => !s.hasBridge
  run := fun s pk t _ => s.tripCommand t pk.params }

/-- TILE_TRIP_CLR (R107). -/
def cmdTileTripClr : Cmd := { target := .unit 0 64, len := lenIs 1, run := fun s pk t _ =>
  (let s := (s.wakeFor t).clearTrips t (pf pk 0 0 8)
   (ok [s.cmdRead t .tripStat], s)) }

/-- TILE_FOL (R319, R73). -/
def State.folCommand (s : State) (t : Nat) (ps : List Word) : Answer × State :=
  let f := (ps.getD 0 0).toNat
  if (List.range 8).any (fun c => s.running t c && s.modeF t c == 5 && s.fld .chCtrl 16 2 t c == f) then s.inState t
  else if 4 ≤ f then inParam s
  else (ok, s.cmdWrite .folCtrl (ps.getD 1 0) t f)
def cmdTileFol : Cmd := {
  target := .unit 0 64, len := lenIs 2, absent := fun s _ ps => decide (s.domains ≤ getF (ps.getD 1 0) 4 4)
  run := fun s pk t _ => s.folCommand t pk.params }

/-- TILE_CTRL (R85). -/
def cmdTileCtrl : Cmd := { target := .unit 0 64, len := lenIs 1, run := fun s pk t _ =>
  (ok, s.cmdWrite .tileCtrl (prm pk 0) t) }

/-- PIN_CFG (R403). -/
def State.pinCfg (s : State) (k : Nat) (ps : List Word) : Answer × State :=
  let a := (ps.getD 0 0).toNat
  let vs := ps.drop 2
  if vs.isEmpty ∨ 32 < a + vs.length ∨ vs.any (fun v => !pinOk v) then inParam s
  else (ok, vs.zipIdx.foldl (fun s (v, i) => s.cmdWrite .pmPin v (32 * k + a + i)) s)
def cmdPinCfg : Cmd := {
  target := .unit 140 8, len := fun _ ps => decide (2 ≤ ps.length ∧ ps.length = 2 + (ps.getD 1 0).toNat)
  run := fun s pk k _ => s.pinCfg k pk.params }

/-! ## Domains -/

/-- The registers of DOM_CFG after DOM_CTRL. -/
def domCfgRegs : List RegName := [.domIn, .domFilt, .domRatio, .domStall, .domDir, .domMirror, .domPat0, .domPat1, .domPat2]

/-- DOM_CFG (R119): with EN = 0, all or nothing. -/
def State.domCfg (s : State) (d : Nat) (ps : List Word) : Answer × State :=
  let c := ps.getD 0 0
  let l := domCfgRegs.zip (ps.drop 1)
  if s.flag .domCtrl 0 d then s.inState (64 + d)
  else if getB c 0 || getF c 7 2 == 3 || (getB c 2 && getB c 11) || l.any (fun (n, w) => s.domBad d n w) then inParam s
  else (ok, s.cmdWrites ((.domCtrl, c) :: l) d)
def cmdDomCfg : Cmd := {
  target := .unit 64 16, len := lenIs 10
  absent := fun s _ ps => decide (s.pins ≤ getF (ps.getD 1 0) 0 8 ∨ s.pins ≤ getF (ps.getD 1 0) 8 8)
  run := fun s pk d _ => s.domCfg d pk.params }

/-- DOM_PHTEETH (R119): phase teeth from the first on, two words each. -/
def State.domPhteeth (s : State) (d : Nat) (ps : List Word) : Answer × State :=
  let a := (ps.getD 0 0).toNat
  let n := (ps.getD 1 0).toNat
  if s.flag .domCtrl 0 d then s.inState (64 + d)
  else if n = 0 ∨ 16 < a + n then inParam s
  else (ok, s.each (List.range n) (fun s i =>
    (s.cmdWrite .domPhRise (ps.getD (2 + 2 * i) 0) d (a + i)).cmdWrite .domPhFall (ps.getD (3 + 2 * i) 0) d (a + i)))
def cmdDomPhteeth : Cmd := {
  target := .unit 64 16, len := fun _ ps => decide (2 ≤ ps.length ∧ ps.length = 2 + 2 * (ps.getD 1 0).toNat)
  run := fun s pk d _ => s.domPhteeth d pk.params }

/-- DOM_ENABLE (R118, R161). -/
def State.domEnableCmd (s : State) (d : Nat) (on : Bool) : Answer × State :=
  if on && !s.flag .domCtrl 0 d && !s.domEnableOk d then inParam s
  else
    let s := s.cmdWrite .domCtrl (putB (s.rd .domCtrl d) 0 on) d
    (ok [s.domStatView d], s)
def cmdDomEnable : Cmd := { target := .unit 64 16, len := lenIs 1, run := fun s pk d _ =>
  (s.domEnableCmd d (getB (prm pk 0) 0)) }

/-- DOM_RUNTIME (R119): DOM_CTRL keeps EN, KIND and SRC. -/
def cmdDomRuntime : Cmd := { target := .unit 64 16, len := lenIs 5, run := fun s pk d _ =>
  (ok, s.cmdWrites ((.domCtrl, putF (s.rd .domCtrl d) 3 9 (pf pk 0 3 9)) ::
    [RegName.domFilt, .domRatio, .domStall, .domDir].zip (pk.params.drop 1)) d) }

/-- DOM_PHM (R119, R133). -/
def State.domPhm (s : State) (d : Nat) (ps : List Word) : Answer × State :=
  let i := (ps.getD 0 0).toNat
  if 4 ≤ i ∨ s.domBad d .phmCtrl (ps.getD 1 0) then inParam s
  else (ok, s.cmdWrites ((RegName.phmCtrl :: .phmWin :: (List.range 8).map phmNom).zip (ps.drop 1)) d i)
def cmdDomPhm : Cmd := {
  target := .unit 64 16, len := lenIs 11, absent := fun s _ ps => decide (s.pins ≤ getF (ps.getD 1 0) 16 8)
  run := fun s pk d _ => s.domPhm d pk.params }

/-- DOM_STATUS (R319). -/
def cmdDomStatus : Cmd := { target := .unit 64 16, len := lenIs 0, run := fun s _ d _ =>
  (let (lo, hi) := s.linkedWords (.snap (Fin.ofNat 16 d))
   (ok (s.cmdRead d .domStat :: lo :: hi :: [RegName.domTooth, .domTtime, .domPeriod, .domRate, .domPredErr, .domEvt,
     .domCnt0, .domCnt1, .domCnt2, .domCnt3].map (s.cmdRead d)), s)) }

end Sys2Proof.Machine
end

