-- ==== Sys2Proof/Machine/DeviceCommands.lean ====
section
/-! DEFINITION. The commands on ports, Mortar and contexts (R319: ranges 0x06 to 0x08). -/

namespace Sys2Proof.Machine

/-! ## Ports -/

/-- PORT_SETUP (R262, R210): the data buffer is judged as a whole. -/
def State.portSetup (s : State) (p : Nat) (ps : List Word) : Answer × State :=
  let w (i : Nat) : Word := ps.getD i 0
  let base := (w 5).toNat
  let size := (w 6).toNat
  if s.portOn p then s.inState (84 + p)
  else if s.portBad p .cfg (w 0) || s.portBad p .spi (w 1) || s.portBad p .sent (w 3) || s.portBad p .uart (w 4) ||
      decide (base % 4 ≠ 0 ∨ size % 4 ≠ 0 ∨ 0x3C0000 < base + size) then inParam s
  else
    let s := ((s.wakeFor (84 + p)).wr .portDmemBase (w 5) p).wr .portDmemSize (w 6) p
    (ok, s.cmdWrites [(.portSpi, w 1), (.portSpi2, w 2), (.portSent, w 3), (.portUart, w 4), (.portNotify, w 7), (.portCfg, w 0)] p)
def cmdPortSetup : Cmd := {
  target := .unit 84 32, len := lenIs 8
  absent := fun s _ ps => getB (ps.getD 7 0) 7 && decide (32 * s.engines ≤ getF (ps.getD 7 0) 0 7)
  run := fun s pk p _ => s.portSetup p pk.params }

/-- PORT_SCRIPT (R271). -/
def State.portScriptCmd (s : State) (p : Nat) (ps : List Word) : Answer × State :=
  let a := (ps.getD 0 0).toNat
  let ws := ps.drop 2
  if s.flag .portStat 0 p then s.inState (84 + p)
  else if ws.isEmpty ∨ 256 < a + ws.length then inParam s
  else (ok, ws.zipIdx.foldl (fun s (w, i) => s.cmdWrite .portScript w p (a + i)) s)
def cmdPortScript : Cmd := {
  target := .unit 84 32, len := fun _ ps => decide (2 ≤ ps.length ∧ ps.length = 2 + (ps.getD 1 0).toNat)
  run := fun s pk p _ => s.portScriptCmd p pk.params }

/-- PORT_ENTRY (R271). -/
def cmdPortEntry : Cmd := { target := .unit 84 32, len := lenIs 2, run := fun s pk p _ =>
  (if 64 ≤ (prm pk 0).toNat then inParam s else (ok, s.cmdWrite .portScrEntry (prm pk 1) p (prm pk 0).toNat)) }

/-- PORT_RUN (R266, R270): the transaction completes the operation. -/
def State.portRunCmd (s : State) (pk : Packet) (p n : Nat) : Answer × State :=
  if 64 ≤ (prm pk 0).toNat then inParam s
  else
    let src : TxnSrc := if pathSup pk.path then .supervisor else .host
    let (queued, t) := s.portTrigger p { script := (prm pk 0).toNat, arg := prm pk 1, src := src, op := some n }
    (if queued then accepted else refuse stBusy, t)
def cmdPortRun : Cmd := { target := .unit 84 32, len := lenIs 2, long := true, run := fun s pk p n => s.portRunCmd pk p n }

/-- PORT_TT (R267): planned once, with all the values. -/
def State.portTtCmd (s : State) (p : Nat) (ps : List Word) : Answer × State :=
  if (ps.getD 2 0).toNat < 1000 then inParam s
  else
    let s := (s.wakeFor (84 + p)).wr .portTtArg (ps.getD 1 0) p
    let s := ((s.wr .portTtPer (ps.getD 2 0) p).wr .portTtAtLo (ps.getD 3 0) p).wr .portTtAtHi (ps.getD 4 0) p
    (ok, s.writeTt p .tt (ps.getD 0 0))
def cmdPortTt : Cmd := { target := .unit 84 32, len := lenIs 5, run := fun s pk p _ => s.portTtCmd p pk.params }

/-- PORT_STOP (R272). -/
def cmdPortStop : Cmd := { target := .unit 84 32, len := lenIs 1, run := fun s pk p _ =>
  (let s := s.wakeFor (84 + p)
   let s := if getB (prm pk 0) 0 then s.portStop p else s
   (ok, if getB (prm pk 0) 1 then s.portFlush p else s)) }

/-- PORT_STATUS (R319). -/
def cmdPortStatus : Cmd := { target := .unit 84 32, len := lenIs 0, run := fun s _ p _ =>
  (let s := s.wakeFor (84 + p)
   (ok ([RegName.portStat, .portLast, .portCnt0, .portCnt1, .portCnt2, .portDmemPtr].map (s.cmdRead p)), s)) }

/-! ## Mortar -/

/-- ML_SETUP (R282). -/
def State.mlSetup (s : State) (ps : List Word) : Answer × State :=
  let change := decide (getF (ps.getD 0 0) 0 9 ≠ s.devNum) || getB (ps.getD 1 0) 1 != s.flag .mlCtrl 1
  let hold := getF (ps.getD 2 0) 0 10
  if s.flag .mlCtrl 0 && change then s.inState 139
  else if hold = 0 ∨ 1000 < hold then inParam s
  else (ok, s.cmdWrites [(.mlDev, ps.getD 0 0), (.mlHold, ps.getD 2 0), (.mlCtrl, ps.getD 1 0)])
def cmdMlSetup : Cmd := { target := .unit 139 1, len := lenIs 3, run := fun s pk _ _ => s.mlSetup pk.params }

/-- ML_LINK (R281). -/
def State.mlLink (s : State) (k : Nat) (ps : List Word) : Answer × State :=
  let v := ps.getD 0 0
  if s.flag .mlLctrl 0 k && decide (getF v 1 2 ≠ s.role k) then s.inState (116 + k)
  else if getF v 1 2 = 3 ∨ getF v 4 2 = 3 then inParam s
  else (ok, s.cmdWrites [(.mlAsym, ps.getD 1 0), (.mlLctrl, v)] k)
def cmdMlLink : Cmd := { target := .unit 116 4, len := lenIs 2, run := fun s pk k _ => s.mlLink k pk.params }

/-- ML_SS_SETUP (R294). -/
def State.mlSsSetup (s : State) (ps : List Word) : Answer × State :=
  let a := (ps.getD 4 0).toNat
  let ms := ps.drop 6
  if 64 < a + ms.length then inParam s
  else
    let s := s.cmdWrites ([RegName.mlSsCtrl, .mlSsTilesLo, .mlSsTilesHi, .mlSsPorts].zip ps)
    (ok, ms.zipIdx.foldl (fun s (w, i) => s.cmdWrite .mlSsChmask w (a + i)) s)
/-- A tile, a channel, a port or the context of the system start is absent (R21). -/
def State.ssAbsent (s : State) (ps : List Word) : Bool :=
  let w (i : Nat) : Nat := (ps.getD i 0).toNat
  decide (2 ^ s.tiles ≤ w 1 + w 2 * 2 ^ 32 ∨ 2 ^ s.ports ≤ w 3 ∨ 32 * s.engines ≤ getF (ps.getD 0 0) 3 7) ||
    ((ps.drop 6).zipIdx.any (fun (m, i) => m != 0 && decide (s.tiles ≤ w 4 + i ∧ w 4 + i < 64)))
def cmdMlSsSetup : Cmd := {
  target := .unit 139 1, len := fun _ ps => decide (6 ≤ ps.length ∧ ps.length = 6 + (ps.getD 5 0).toNat)
  absent := fun s _ ps => s.ssAbsent ps
  run := fun s pk _ _ => s.mlSsSetup pk.params }

/-- ML_SYSSTART (R294). -/
def State.mlSysstart (s : State) (lo hi : Word) (tag : Nat) : Answer × State :=
  if !s.isRoot then s.inState 139
  else if (stampOf lo hi).toNat < s.now.toNat + 320000 then inParam s
  else
    let s := (((s.wakeFor 139).wr .mlSsAtLo lo).wr .mlSsAtHi hi).wr .mlSsGo (toW (tag * 65536))
    (ok, s.startSystem.2)
def cmdMlSysstart : Cmd := { target := .unit 139 1, len := lenIs 3, run := fun s pk _ _ =>
  (s.mlSysstart (prm pk 0) (prm pk 1) (pf pk 2 0 16)) }

/-- ML_PEER (R296). -/
def State.mlPeer (s : State) (ps : List Word) : Answer × State :=
  let k := (ps.getD 0 0).toNat
  if k < 4 ∧ s.go (40 + k) then s.inState 139
  else if 4 ≤ k then inParam s
  else (ok, s.cmdWrites [(.mlPmbDst, ps.getD 1 0), (.mlPmbSrc, ps.getD 2 0)] k)
def cmdMlPeer : Cmd := { target := .unit 139 1, len := lenIs 3
                         absent := fun s _ ps => decide (s.linkCount ≤ (ps.getD 0 0).toNat ∧ (ps.getD 0 0).toNat < 4), run := fun s pk _ _ => s.mlPeer pk.params }

/-- ML_STATUS (R319). -/
def cmdMlStatus : Cmd := { target := .unit 139 1, len := lenIs 0, run := fun s _ _ _ =>
  (let s := s.wakeFor 139
   (ok ([RegName.mlStat, .mlOffset, .droneStat].map (s.cmdRead 0) ++
     (List.range s.linkCount).flatMap (fun k => [s.cmdRead k .mlLstat, s.cmdRead k .mlDelay])), s)) }

/-! ## Contexts -/

/-- A refusal with STATE and the context's code (R317, R190). -/
def State.inCtxState (s : State) (x : Nat) : Answer × State := (stateRefuse (s.ctxState x) true, s)

/-- Local contexts 0-2 are Keystone's and the service firmware's: no command acts on them (R191; for the others DESIGN CHOICE,
log entry 47). -/
def ownLocal (x : Nat) : Bool := decide (x % 32 < 3)

/-- The engine island of a context that a command reads or writes wakes (R17). -/
def State.wakeCtx (s : State) (x : Nat) : State := s.wakeFor (80 + x / 32)

/-- What R191 finds wrong with an image at task memory offset a, n bytes, for the windows asked for (R210). -/
def State.imageBad (s : State) (a n : Nat) (ps : List Word) : Bool :=
  let h (i : Nat) : Nat := (s.tm (a + 4 * i)).toNat
  let w (i : Nat) : Nat := (ps.getD i 0).toNat
  let signed := getB (s.tm (a + 32)) 0
  let past (base size : Nat) : Bool := decide (base % 256 ≠ 0 ∨ size % 256 ≠ 0 ∨ 0x3C0000 < base + size)
  decide (a % 4 ≠ 0 ∨ n < 40 ∨ 0x3C0000 < a + n) || decide (h 0 ≠ 0x314C5046 ∨ h 1 ≠ 0x1000A ∨ h 8 % 2 ^ 32 / 2 ≠ 0) ||
    decide (h 2 % 4 ≠ 0 ∨ n < 40 + h 2 + h 3 + h 5 + (if signed then 64 else 0)) ||
    past (w 2) (w 3) || past (w 4) (w 5) || past (w 6) (w 7) ||
    decide (w 3 < h 2 ∨ w 5 < h 3 + h 4 + h 7 ∨ w 7 < h 5 ∨ w 3 ≤ h 6 ∨ h 6 % 4 ≠ 0)

/-- Keystone copies the sections and writes the registers (R190, R319). -/
def State.loadImageInto (s : State) (x a : Nat) (ps : List Word) : State :=
  let h (i : Nat) : Nat := (s.tm (a + 4 * i)).toNat
  let w (i : Nat) : Word := ps.getD i 0
  let (code, data, bss, tab) := (h 2, h 3, h 4, h 5)
  let cp := h 9
  let entry := (w 2).toNat + h 6
  let s := s.copyBytes 1 1 (a + 40) (w 2).toNat code
  let s := s.copyBytes 1 1 (a + 40 + code) (w 4).toNat data
  let s := s.putBytes 1 ((w 4).toNat + data) (List.replicate bss 0)
  let s := s.copyBytes 1 1 (a + 40 + code + data) (w 6).toNat tab
  let regs := [RegName.codeBase, .codeSize, .dataBase, .dataSize, .tabBase, .tabSize, .ctxIomask, .ctxTilesLo, .ctxTilesHi, .ctxPorts]
  let s := (regs.zip (ps.drop 2)).foldl (fun s (n, v) => s.setCr n (v &&& toW n.row.rw) x) s
  let s := (s.setCr .ctxEntry (toW entry) x).setCf .ctxNointLim 0 12 (getF (w 12) 0 12) x
  let s := ((s.setCf .ctxCtrl 8 1 (b2n (getB (w 12) 16)) x).setCf .ctxCtrl 4 2 (cp % 4) x).setCf .ctxCtrl 0 4 (cp / 16 % 16) x
  (s.setCtx x {}).setCtxState x 1

/-- CTX_LOAD (R191): its order of checks, then R190's. Whether a signature holds no operand tells: a free value. -/
def State.ctxLoad (s : State) (x n : Nat) (ps : List Word) : Answer × State :=
  let a := (ps.getD 0 0).toNat
  let len := (ps.getD 1 0).toNat
  let signed := getB (s.tm (a + 32)) 0
  let st := s.ctxState x
  if s.imageBad a len ps then inParam s
  else if (s.ownerKey && s.ownerSign && !signed) || (signed && decide (Config.freeNs s.freeCtr % 2 = 0)) then (refuse stAuth, s.drawn)
  else if ownLocal x then (refuse stDenied, s)
  else if !(st == 0 || st == 1 || st == 4 || st == 5) then s.inCtxState x
  else (accepted, ((s.drawn.wakeCtx x).loadImageInto x a ps).finishOp n stOk [])
def cmdCtxLoad : Cmd := { target := .context, len := lenIs 13, long := true, run := fun s pk x n => s.ctxLoad x n pk.params }

/-- CTX_START (R190). -/
def cmdCtxStart : Cmd := { target := .context, len := lenIs 0, run := fun s _ x _ =>
  (if ownLocal x then (refuse stDenied, s) else if !startable (s.ctxState x) then s.inCtxState x else (ok, (s.wakeCtx x).ctxCmd x true false)) }

/-- CTX_STOP (R190, R192). -/
def cmdCtxStop : Cmd := { target := .context, len := lenIs 0, run := fun s _ x _ =>
  (if ownLocal x then (refuse stDenied, s) else if !stoppable (s.ctxState x) then s.inCtxState x else (ok, (s.wakeCtx x).ctxCmd x false true)) }

/-- CTX_STATUS (R319): a task reads its own (R207). -/
def cmdCtxStatus : Cmd := { target := .context, len := lenIs 0, task := true, run := fun s pk x _ =>
  (if pathTask pk.path && pk.path != .task (Fin.ofNat 128 x) then (refuse stDenied, s)
   else
     let s := s.wakeCtx x
     (ok ([RegName.ctxStat, .ctxCtrl, .ctxPc, .ctxCause, .ctxFaultPc, .ctxErrcnt, .ctxIssued].map
       (fun n => s.viewKey ⟨n, x / 32, x % 32⟩)), s)) }

/-- CTX_POST (R186, R179): tag 4, and who sent it. -/
def cmdCtxPost : Cmd := { target := .context, len := lenIs 1, run := fun s pk x _ =>
  (if ownLocal x || !(s.ctxState x == 2 || s.ctxState x == 3) then (refuse stDenied, s)
   else (ok, (s.wakeCtx x).post x (prm pk 0) (evTag 4 (if pathSup pk.path then 0x81 else 0x80)))) }

/-- CTX_LOWER (R220). -/
def cmdCtxLower : Cmd := { target := .context, len := lenIs 1, run := fun s pk x _ =>
  (if ownLocal x then (refuse stDenied, s)
   else
     let (st, t) := (s.wakeCtx x).lower x (prm pk 0)
     (refuse st, if st = stOk then t else s)) }

end Sys2Proof.Machine
end

