-- ==== Sys2Proof/Machine/TimeCommands.lean ====
section
/-! DEFINITION. The commands on the calendar, the catalogue and the signal log (R319: ranges 0x04 and 0x05). A task may use
those that act on entries and signals it owns (R207, R320). -/

namespace Sys2Proof.Machine

/-! ## The calendar -/

/-- EV_ARM (R145, R146): the order of R145; a Keystone hold of the calendar or the target bars every path (R320). -/
def State.evArm (s : State) (pk : Packet) : Answer × State :=
  let ws : ArmWords := { w0 := prm pk 0, w1 := prm pk 1, w2 := prm pk 2, w3 := prm pk 3, w4 := prm pk 4, w5 := prm pk 5 }
  if !s.armAbsent ws && (136 :: (armUnit ws).toList).any (fun u => s.barred pk.path u) then (refuse stDenied, s)
  else
    let ((st, w), t) := s.armDecision (pathRequester pk.path) ws
    (if st = stOk then ok [w] else if st = stState then stateRefuse w.toNat else refuse st, t)
def cmdEvArm : Cmd := { target := .unit 136 1, len := lenIs 6, own := true, task := true, run := fun s pk _ _ => s.evArm pk }

/-- EV_CANCEL (R158). -/
def cmdEvCancel : Cmd := { target := .unit 136 1, len := lenIs 1, task := true, run := fun s pk _ _ =>
  (let (st, t) := s.cancelDecision (pathRequester pk.path) (pf pk 0 0 16)
   (refuse st, t)) }

/-- A domain that a parameter names is absent. -/
def domainAbsent (s : State) (_ : Nat) (ps : List Word) : Bool := decide (s.domains ≤ (ps.getD 0 0).toNat)

/-- EV_FLUSH (R159). -/
def cmdEvFlush : Cmd := {
  target := .unit 136 1, len := lenIs 1, task := true, absent := fun s _ ps => decide (s.domains ≤ getF (ps.getD 0 0) 0 4)
  run := fun s pk _ _ =>
    let (n, t) := s.flushDecision (pathRequester pk.path) (pf pk 0 0 4)
    (ok [toW n], t) }

/-- EV_PART (R140). -/
def State.evPart (s : State) (d : Nat) (v : Word) : Answer × State :=
  if !(s.entriesOf d).isEmpty then s.inState 136
  else if s.partBad d v then inParam s
  else (ok, s.cmdWrite .calPart v d)
def cmdEvPart : Cmd := { target := .unit 136 1, len := lenIs 2, absent := domainAbsent, run := fun s pk _ _ =>
  (if pathTask pk.path then (refuse stDenied, s) else s.evPart (prm pk 0).toNat (prm pk 1)) , task := true }

/-- EV_CQ (R156, R210). -/
def State.evCq (s : State) (d : Nat) (base size : Word) : Answer × State :=
  let b := base &&& 0x3FFFF0
  if s.fld .calCqWr 0 13 d ≠ s.fld .calCqRd 0 13 d then s.inState 136
  else if !queueFits b.toNat (getF size 0 4) then inParam s
  else (ok, (s.wr .calCqBase b d).wr .calCqSize (size &&& 0xF) d)
def cmdEvCq : Cmd := { target := .unit 136 1, len := lenIs 3, absent := domainAbsent, run := fun s pk _ _ =>
  (if pathTask pk.path then (refuse stDenied, s) else s.evCq (prm pk 0).toNat (prm pk 1) (prm pk 2)), task := true }

/-- EV_ENTRY (R319): the entry of a handle; a task reads its own. -/
def State.evEntry (s : State) (p : CmdPath) (h : Nat) : Answer × State :=
  let i := h % 8192
  let g := h / 8192 % 8
  if s.ePhase i = 0 ∨ g = 0 ∨ g ≠ (s.entry i).gen then (refuse stStale, s)
  else if pathTask p && s.eOwner i != ownerCode (pathRequester p) then (refuse stDenied, s)
  else (ok ([RegName.entryW0, .entryW1, .entryW2, .entryW3, .entryW4, .entryW5, .entryW6, .entryW7].map (s.cmdRead i)), s)
def cmdEvEntry : Cmd := { target := .unit 136 1, len := lenIs 1, task := true, run := fun s pk _ _ =>
  (s.evEntry pk.path (pf pk 0 0 16)) }

/-- EV_STATUS (R319). -/
def cmdEvStatus : Cmd := { target := .unit 136 1, len := lenIs 1, task := true, absent := domainAbsent, run := fun s pk _ _ =>
  (let d := (prm pk 0).toNat
   (ok (s.cmdRead 0 .calStat :: [RegName.calDstat, .calCqWr, .calCqRd, .calCnt0, .calCnt1, .calCnt2, .calCnt3, .calEvt].map
     (s.cmdRead d)), s)) }

/-! ## The catalogue and the log -/

/-- A catalogue entry is a task's own: SRC TASK, and SEL names it (R244). -/
def State.ownSignal (s : State) (p : CmdPath) (sig : Nat) : Bool :=
  match p with | .task x => s.catSrc sig == 5 && s.rd .catW1 sig == toW x.val | _ => true

/-- CAT_WRITE (R244): the four words in one step. A task's entry stays its own or is turned off. -/
def State.catWrite (s : State) (pk : Packet) : Answer × State :=
  let sig := pf pk 0 0 17
  let (w0, w1, w2, w3) := (prm pk 1, prm pk 2, prm pk 3, prm pk 4)
  let keeps := match pk.path with
    | .task x => getF w0 0 4 == 0 || (getF w0 0 4 == 5 && w1 == toW x.val)
    | _ => true
  let st := s.catCheck sig w0 w1 w2
  if !s.ownSignal pk.path sig || !keeps then (refuse stDenied, s)
  else if st = stAbsent then (refuse st, s)
  else if w3 ≠ 0 then inParam s
  else if st ≠ stOk then (refuse st, s)
  else (ok, ((s.wr .catW1 w1 sig).wr .catW2 w2 sig).catStore sig w0)
def cmdCatWrite : Cmd := { target := .unit 137 1, len := lenIs 5, task := true, run := fun s pk _ _ => s.catWrite pk }

/-- CAT_READ (R319). -/
def State.catRead (s : State) (p : CmdPath) (sig : Nat) : Answer × State :=
  if !s.ownSignal p sig then (refuse stDenied, s)
  else if 131072 ≤ sig then inParam s
  else (ok ([RegName.catW0, .catW1, .catW2, .catW3].map (s.cmdRead sig)), s)
def cmdCatRead : Cmd := { target := .unit 137 1, len := lenIs 1, task := true, run := fun s pk _ _ =>
  (s.catRead pk.path (prm pk 0).toNat) }

/-- The entries of a range that are not OFF, and the path's own. -/
def State.catRange (s : State) (p : CmdPath) (a n : Nat) : List Nat :=
  (s.regs.filter (fun e => e.1.name == .catW0 && decide (a ≤ e.1.i ∧ e.1.i < a + n) && getF e.2 0 4 != 0 &&
    s.ownSignal p e.1.i)).map (fun e => e.1.i)

/-- CAT_CLEAR (R319): the entries turned off are counted. -/
def State.catClear (s : State) (pk : Packet) (n : Nat) : Answer × State :=
  let a := (prm pk 0).toNat
  let k := (prm pk 1).toNat
  if k = 0 ∨ 131072 < a + k then inParam s
  else
    let l := s.catRange pk.path a k
    (accepted, (s.each l (fun s i => s.catStore i (putF (s.rd .catW0 i) 0 4 0))).finishOp n stOk [toW l.length])
def cmdCatClear : Cmd := { target := .unit 137 1, len := lenIs 2, long := true, task := true, run := fun s pk _ n => s.catClear pk n }

/-- LOG_SETUP (R249): LOG_RING is written where it changes; LOG_CTRL last. -/
def State.logSetup (s : State) (ps : List Word) : Answer × State :=
  let ring := getF (ps.getD 1 0) 0 5
  let th := ps.getD 2 0
  let change := decide (ring ≠ s.fld .logRing 0 5)
  if s.flag .logCtrl 0 && change then s.inState 137
  else if ring < 16 ∨ s.logSize < 2 ^ ring ∨ ¬ (getF th 0 8 < getF th 8 8 ∧ getF th 8 8 < getF th 16 8 ∧ getF th 24 4 ≤ getF th 0 8)
    then inParam s
  else
    let s := if change then s.cmdWrite .logRing (ps.getD 1 0) else s
    (ok, s.cmdWrites [(.logThresh, th), (.logWmark, ps.getD 3 0), (.logFlush, ps.getD 4 0), (.logCtrl, ps.getD 0 0)])
def cmdLogSetup : Cmd := { target := .unit 137 1, len := lenIs 5, task := true, run := fun s pk _ _ =>
  (if pathTask pk.path then (refuse stDenied, s) else s.logSetup pk.params) }

/-- LOG_STATUS (R319). -/
def cmdLogStatus : Cmd := { target := .unit 137 1, len := lenIs 0, task := true, run := fun s _ _ _ =>
  (ok ([RegName.logStat, .logWr, .logRd, .logFill].map (s.cmdRead 0) ++ (List.range 4).map (fun k => s.rd .logCnt k) ++
    [RegName.logReccnt, .logCntMisc, .logCfgerr].map (s.cmdRead 0)), s) }

end Sys2Proof.Machine
end

