-- ==== Sys2Proof/Machine/UnitCommands.lean ====
section
/-! DEFINITION. The commands on the device, on units and on power (R319: ranges 0x00 and 0x01). -/

namespace Sys2Proof.Machine

/-- NOP (R319). -/
def cmdNop : Cmd := { target := .device, len := lenIs 0, run := fun s _ _ _ => (ok, s) }

/-- DEV_INFO (R319). -/
def cmdDevInfo : Cmd := { target := .device, len := lenIs 0, run := fun s _ _ _ =>
  (ok ([RegName.sysId, .sysRev, .sysCaps0, .sysCaps1, .sysCaps2, .sysCaps3, .csVer, .csFwSvc].map (s.cmdRead 0)), s) }

/-- ECHO (R319). -/
def cmdEcho : Cmd := { target := .device, len := fun _ ps => decide (ps.length ≤ 14), run := fun s pk _ _ => (ok pk.params, s) }

/-- UNIT_GET (R319). -/
def cmdUnitGet : Cmd := { target := .unit 0 256, len := lenIs 0, run := fun s _ u _ =>
  (ok [s.unitView u, s.rd .unitReq u], s) }

/-- UNIT_SET (R308, R309, R320): the host's request is kept in HOST_REQ, the supervisor's in SUP_REQ. -/
def State.unitSet (s : State) (p : CmdPath) (u v : Nat) : Answer × State :=
  if pathSup p then
    if v = 0 ∨ v = 5 ∨ unitSetAllows u v then
      let s := s.supReq u v
      (ok [s.unitView u], s)
    else (refuse stParam, s)
  else if unitSetAllows u v then
    let s := (s.withUnit u (·.setFld .unitReq 0 3 v u)).setUnit u v
    (ok [s.unitView u], s)
  else (refuse stParam, s)
def cmdUnitSet : Cmd := { target := .unit 0 256, len := lenIs 1, run := fun s pk u _ => s.unitSet pk.path u (pf pk 0 0 3) }

/-- UNIT_OWN (R310). -/
def cmdUnitOwn : Cmd := { target := .unit 0 256, len := lenIs 1, sup := false, run := fun s pk u _ =>
  (ok, s.setFlag .unitReq 3 (getB (prm pk 0) 0) u) }

/-- ACCERR_READ (R319). -/
def cmdAccerrRead : Cmd := { target := .device, len := lenIs 0, run := fun s _ _ _ =>
  (ok ([RegName.sysAccerr, .sysAccerrAddr, .sysAccerrSrc].map (s.cmdRead 0)), s) }

/-- PWR_BUDGET (R227): Keystone writes the field of the path. -/
def cmdPwrBudget : Cmd := { target := .unit 138 1, len := lenIs 1, run := fun s pk _ _ =>
  (ok, if pathSup pk.path then s.writeBudget .supervisor (toW (pf pk 0 0 16 * 65536)) else s.writeBudget .host (toW (pf pk 0 0 16))) }

/-- Governor registers written, or PARAM where one breaks its limit (R226). -/
def State.govCommand (s : State) (l : List (GovReg × Word)) : Answer × State :=
  if l.any (fun (r, w) => govBad r w) then (refuse stParam, s) else (ok, l.foldl (fun s (r, w) => s.writeGov r w) s)

/-- PWR_SHARE (R226). -/
def cmdPwrShare : Cmd := { target := .unit 138 1, len := lenIs 5, run := fun s pk _ _ =>
  (s.govCommand [(.share, prm pk 0), (.floor, prm pk 1), (.depth 0, prm pk 2), (.depth 1, prm pk 3), (.depth 2, prm pk 4)]) }

/-- PWR_THERM (R226). -/
def cmdPwrTherm : Cmd := { target := .unit 138 1, len := lenIs 2, run := fun s pk _ _ =>
  (s.govCommand [(.thresh, prm pk 0), (.thermFact, prm pk 1)]) }

/-- PWR_STATE (R235): the order of R235; a Keystone hold bars every path (R320). -/
def State.pwrState (s : State) (pk : Packet) (n : Nat) : Answer × State :=
  let v := pf pk 0 0 3
  if s.pwrReq.isNone ∧ 1 ≤ v ∧ v ≤ 5 ∧ s.barred pk.path 138 then (refuse stDenied, s)
  else
    let (st, t) := s.pstateReq v (getB (prm pk 0) 3) (!pathSup pk.path) (some n)
    (if st = stAccepted then accepted else if st = stState then stateRefuse (s.unitCode 138) else refuse st, t)
def cmdPwrState : Cmd := { target := .unit 138 1, len := lenIs 1, own := true, long := true, run := fun s pk _ n => s.pwrState pk n }

/-- PWR_STATUS (R319). -/
def cmdPwrStatus : Cmd := { target := .unit 138 1, len := lenIs 0, run := fun s _ _ _ =>
  (ok ([RegName.govPstate, .govStat, .govTj, .govFc, .govPfixed, .govRefill].map (s.cmdRead 0)), s) }

/-! Logs, ports and Mortar have their own file; these read or set what the whole device holds. -/

/-- FW_VERSION (R319). -/
def cmdFwVersion : Cmd := { target := .unit 80 4, len := lenIs 0, run := fun s _ e _ =>
  (let s := s.wakeFor (80 + e)
   (ok ([RegName.csVer, .csPatch, .csPatchId, .csDigest, .csFwKs, .csFwSvc, .csStat].map (s.cmdRead e)), s)) }

/-- FW_PATCH (R218, R219, R210): Keystone checks the package and completes (PATCH_APPLY). -/
def cmdFwPatch : Cmd := { target := .device, len := lenIs 2, long := true, run := fun s pk _ _ =>
  if (prm pk 0).toNat % 4 ≠ 0 ∨ 0x3C0000 < (prm pk 0).toNat + (prm pk 1).toNat then (refuse stParam, s) else (accepted, s) }

/-- CAL_READ (R319). -/
def cmdCalRead : Cmd := { target := .device, len := lenIs 2, run := fun s pk _ _ =>
  let a := (prm pk 0).toNat
  let n := (prm pk 1).toNat
  if a % 4 ≠ 0 ∨ n = 0 ∨ 12 < n ∨ 4096 < a + 4 * n then (refuse stParam, s)
  else (ok ((List.range n).map (fun i => s.rd .calPage (a / 4 + i))), s) }

/-- The bits of word i of the calibration page, from 0x010 to 0x5E3, that are not reserved (16, calibration page). -/
def pageMask (i : Nat) : Word :=
  if i = 20 then 0xFFFF else if i = 24 then 0xFF else if i = 26 then 0xFFFFFF
  else if (21 ≤ i ∧ i ≤ 23) ∨ (27 ≤ i ∧ i ≤ 35) ∨ i < 4 ∨ 376 < i then 0 else 0xFFFFFFFF

/-- A word of the built-in defaults. -/
def defaultWord (i : Nat) : Word :=
  wordOf (Config.defaultCal (4 * i)) (Config.defaultCal (4 * i + 1)) (Config.defaultCal (4 * i + 2)) (Config.defaultCal (4 * i + 3))

/-- A page that is not VALID is filled: the header, the reserved words, and for the rest built-in defaults; the count in word 3,
which no default gives, is a free value (R381). -/
def State.fillPage (s : State) : State :=
  let ctr := s.freeCtr
  let s := s.each (List.range 1023) (fun s i => s.wr .calPage (defaultWord i &&& pageMask i) i)
  let s := ((s.wr .calPage 0x4C41434B 0).wr .calPage 1 1).wr .calPage (s.rd .sysId) 2
  { s.wr .calPage (Config.freeWord (ctr + 3)) 3 with freeCtr := ctr + 4 }.setFlag .calstat 1 true

/-- CAL_WRITE (R381, R380): the new words, the count and the CRC; the page is checked and its values are loaded. -/
def State.writePage (s : State) (i : Nat) (ws : List Word) : State :=
  let s := if s.flag .calstat 0 then s else s.fillPage
  let s := ws.zipIdx.foldl (fun s (w, k) => s.wr .calPage w (i + k)) s
  let s := s.wr .calPage (s.rd .calPage 3 + 1) 3
  ((s.wr .calPage s.pageCrc 1023).checkPage).fltEvent 5
def cmdCalWrite : Cmd := {
  target := .device, long := true
  len := fun _ ps => decide (3 ≤ ps.length) && decide (ps.length = 2 + (ps.getD 1 0).toNat)
  run := fun s pk _ n =>
    let a := (prm pk 0).toNat
    if a % 4 ≠ 0 ∨ a < 0x10 ∨ 0x5E4 < a + 4 * (prm pk 1).toNat then (refuse stParam, s)
    else (accepted, (s.writePage (a / 4) (pk.params.drop 2)).finishOp n stOk []) }

/-- FAULT_READ (R374): a record that has been overwritten is past reading. -/
def cmdFaultRead : Cmd := { target := .device, len := lenIs 1, run := fun s pk _ _ =>
  let i := (prm pk 0).toNat
  let seq := (s.rd .fltSeq).toNat
  if seq ≤ i ∨ i + 64 < seq then (refuse stParam, s)
  else (ok ((List.range 8).map (fun w => s.rd .fltRec (i % 64) w)), s) }

/-- FAULT_ACK (R374). -/
def cmdFaultAck : Cmd := { target := .device, len := lenIs 1, run := fun s pk _ _ => (ok, s.ackFault (prm pk 0)) }

/-- START_READ (R319): words 0-7, or 8-15. -/
def cmdStartRead : Cmd := { target := .device, len := lenIs 1, run := fun s pk _ _ =>
  (ok ((List.range 8).map (fun i => s.rd .startRec (8 * pf pk 0 0 1 + i))), s) }

end Sys2Proof.Machine
end

