-- ==== Sys2Proof/Machine/Service.lean ====
section
/-! DEFINITION. The service firmware: which command an opcode names, the channels that bring packets and take replies (13:
R312 to R318; 15: R352, R362; 08: R207), and a row for each command. -/

namespace Sys2Proof.Machine

/-- The command of an opcode (R319). -/
def cmdOf : Nat → Option Cmd
  | 0x0000 => some cmdNop
  | 0x0001 => some cmdDevInfo
  | 0x0002 => some cmdEcho
  | 0x0003 => some cmdUnitGet
  | 0x0004 => some cmdUnitSet
  | 0x0005 => some cmdUnitOwn
  | 0x0006 => some cmdAccerrRead
  | 0x0100 => some cmdPwrBudget
  | 0x0101 => some cmdPwrShare
  | 0x0102 => some cmdPwrTherm
  | 0x0103 => some cmdPwrState
  | 0x0104 => some cmdPwrStatus
  | 0x0200 => some cmdTileChCfg
  | 0x0201 => some cmdTileChUpdate
  | 0x0202 => some cmdTileStart
  | 0x0203 => some cmdTileStop
  | 0x0204 => some cmdTileRead
  | 0x0205 => some cmdTileBridge
  | 0x0206 => some cmdTileTrip
  | 0x0207 => some cmdTileTripClr
  | 0x0208 => some cmdTileFol
  | 0x0209 => some cmdTileCtrl
  | 0x020A => some cmdPinCfg
  | 0x0300 => some cmdDomCfg
  | 0x0301 => some cmdDomPhteeth
  | 0x0302 => some cmdDomEnable
  | 0x0303 => some cmdDomRuntime
  | 0x0304 => some cmdDomPhm
  | 0x0305 => some cmdDomStatus
  | 0x0400 => some cmdEvArm
  | 0x0401 => some cmdEvCancel
  | 0x0402 => some cmdEvFlush
  | 0x0403 => some cmdEvPart
  | 0x0404 => some cmdEvCq
  | 0x0405 => some cmdEvEntry
  | 0x0406 => some cmdEvStatus
  | 0x0500 => some cmdCatWrite
  | 0x0501 => some cmdCatRead
  | 0x0502 => some cmdCatClear
  | 0x0503 => some cmdLogSetup
  | 0x0504 => some cmdLogStatus
  | 0x0600 => some cmdPortSetup
  | 0x0601 => some cmdPortScript
  | 0x0602 => some cmdPortEntry
  | 0x0603 => some cmdPortRun
  | 0x0604 => some cmdPortTt
  | 0x0605 => some cmdPortStop
  | 0x0606 => some cmdPortStatus
  | 0x0700 => some cmdMlSetup
  | 0x0701 => some cmdMlLink
  | 0x0702 => some cmdMlSsSetup
  | 0x0703 => some cmdMlSysstart
  | 0x0704 => some cmdMlPeer
  | 0x0705 => some cmdMlStatus
  | 0x0800 => some cmdCtxLoad
  | 0x0801 => some cmdCtxStart
  | 0x0802 => some cmdCtxStop
  | 0x0803 => some cmdCtxStatus
  | 0x0804 => some cmdCtxPost
  | 0x0805 => some cmdCtxLower
  | 0x0900 => some cmdFwVersion
  | 0x0901 => some cmdFwPatch
  | 0x0A00 => some cmdCalRead
  | 0x0A01 => some cmdCalWrite
  | 0x0B00 => some cmdFaultRead
  | 0x0B01 => some cmdFaultAck
  | 0x0B02 => some cmdStartRead
  | _ => none

/-- A packet is carried out: the answer and the state after (R316). -/
def State.runPacket (s : State) (op : Nat) (pk : Packet) (buf : Nat × Nat × Nat × Bool) (bad : Bool) : Answer × State :=
  match cmdOf op with
  | none => (refuse stOpcode, s)
  | some c => s.runCmd c op pk buf bad

/-- The service firmware runs: the start is done, and the device is in Run, where alone engines issue (R236, R375). -/
def State.serviceRuns (s : State) : Bool := decide (s.pstate = 0) && !s.startHalted && s.startWait.isNone

/-- The answer gives no reply now: an accepted operation with WAIT, or OK with QUIET (R313). -/
def silent (pk : Packet) (a : Answer) : Bool := (pk.wait && a.status == stAccepted) || (pk.quiet && a.status == stOk)

/-! ## Mailbox channels -/

/-- An operation with WAIT keeps a channel (R315). -/
def State.channelWaits (s : State) (p : CmdPath) : Bool := s.longOps.any (fun o => o.path == p && o.wait)

/-- The channel may take a command: it is one (R312), fewer than 8 replies wait (R318), no operation with WAIT keeps it. -/
def State.mayTake (s : State) (p : CmdPath) (k : Nat) : Bool :=
  s.serviceRuns && s.cmdBox (inBox k) && decide ((s.repliesOf k).length < 8) && !s.channelWaits p

/-- A command is carried out and its reply queued. -/
def State.mailCommand (s : State) (k op : Nat) (pk : Packet) (bad : Bool) : State :=
  let (a, t) := s.runPacket op pk (0, 0, 0, false) bad
  if silent pk a then t else t.queueReply k (replyWords a false pk.tag op)

/-- The words in a mailbox. -/
def State.boxWords (s : State) (b n : Nat) : List Word := (List.range n).map (fun i => s.rd .mbData b i)

/-- A packet on a mailbox channel: the one that the inbound mailbox holds, which is then drained; where that mailbox is
empty, the row stands for the whole transfer (DESIGN CHOICE, log entry 48). -/
def State.mailPacket (s : State) (k op : Nat) (pk : Packet) : State :=
  let b := inBox k
  let ws := packetWords pk op
  if !s.mayTake pk.path k then s
  else if !s.go b then s.mailCommand k op pk false
  else if s.boxWords b ws.length = ws ∧ ws.length ≤ 16 then (s.clearGo b).mailCommand k op pk false
  else s

/-- The path of a mailbox channel. -/
def pathOf (k : Nat) : CmdPath := if k < 16 then .hostBox (Fin.ofNat 16 k) else .supBox (Fin.ofNat 2 k)

/-- The message that a command mailbox holds is taken. -/
def State.takeMessage (s : State) (k : Nat) : State :=
  let b := inBox k
  let w0 := s.rd .mbData b 0
  let n := getF w0 16 8
  let pk := packetOf (pathOf k) (s.boxWords b (2 + min n 14))
  (s.clearGo b).mailCommand k (getF w0 0 16) pk (decide (getF w0 26 6 ≠ 0 ∨ 14 < n))

/-- The lowest command channel whose message can be taken. -/
def State.waitingChannel (s : State) : Option Nat :=
  (List.range 18).find? (fun k => s.go (inBox k) && s.mayTake (pathOf k) k)

/-! ## Command rings -/

/-- The channel is at a COMMAND descriptor whose work is not done (R352); one whose packet has been taken is finished under a pause or
a hold too (R364). -/
def State.atCommand (s : State) (c : Nat) : Bool :=
  s.serviceRuns && (s.dmaGoes c || ((s.dma c).taken && s.flag .dmaCtrl 0 c && !s.flag .dmaStat 3 c)) && !(s.dma c).desc.isEmpty && !s.drains c && s.descOp c == 3 && !s.descDoneAll c

/-- The packet at a COMMAND descriptor's source: opcode, packet, and whether its size or flags are wrong (R313). -/
def State.ringPacket (s : State) (c : Nat) : Nat × Packet × Bool :=
  let n := s.descLen c
  let (bytes, _) := s.srcBytes c 0 (min n 1024)
  let ws := (List.range (bytes.length / 4)).map (fun i =>
    let b (j : Nat) : Byte := bytes.getD (4 * i + j) 0
    wordOf (b 0) (b 1) (b 2) (b 3))
  let w0 := ws.getD 0 0
  (getF w0 0 16, packetOf (.ring (Fin.ofNat 16 c)) ws, decide (getF w0 26 6 ≠ 0 ∨ n ≠ 4 * (2 + getF w0 16 8) ∨ 254 < getF w0 16 8))

/-- The service firmware takes the packet; its reply is kept (R362), or waits for the operation (R313). -/
def State.ringTake (s : State) (c : Nat) : State :=
  let (op, pk, bad) := s.ringPacket c
  let (_, s) := s.srcBytes c 0 (min (s.descLen c) 1024)
  let n := s.longNext
  let (a, t) := s.runPacket op pk (s.dstSp c, s.descDst c, (s.descW c 6).toNat, getB (s.descW c 0) 30) bad
  t.onDma c (fun x => { x with
    taken := true, reply := if silent pk a then [] else replyWords a false pk.tag op
    waits := if pk.wait && a.status == stAccepted then some n else none })

/-- The reply is written at the destination, word 0 last (R315). -/
def State.ringReply (s : State) (c : Nat) : State :=
  let ws := (s.dma c).reply
  match s.dmaFails (s.dstSp c) (s.descDst c) (4 * ws.length) true with
  | some (cause, addr) => s.dmaHalt c 3 cause (s.dstSp c) addr true
  | none =>
    if ws.isEmpty then s
    else ((s.putDmaWords (s.dstSp c) (s.descDst c + 4) (ws.drop 1)).putDmaWord (s.dstSp c) (s.descDst c) (ws.headD 0)).wr
      .dmaProg (toW (4 * ws.length)) c

/-- A COMMAND descriptor goes as far as it can. -/
def State.ringCommand (s : State) (c : Nat) : State :=
  if !s.atCommand c then s
  else if (s.dma c).taken then (if (s.dma c).waits.isSome then s else s.ringReply c)
  else match (if s.srcSp c = 2 then none else s.dmaFails (s.srcSp c) (s.descSrc c) (s.descLen c) false) with
    | some (cause, addr) => s.dmaHalt c 2 cause (s.srcSp c) addr false
    | none =>
      let s := s.ringTake c
      if (s.dma c).waits.isSome then s else s.ringReply c

/-- COMMAND (R352). -/
def execCommand (c : Fin 16) (ts : Stamp) (s : State) : Host.Outcome State Fault Refusal :=
  .next (s.happens islFabric ts (fun s => s.atCommand c) (·.ringCommand c))

/-! ## Tasks -/

/-- The packet fails its check (R207, R316). -/
def State.packetBad (s : State) (op : Nat) (pk : Packet) : Bool :=
  match cmdOf op with | some c => s.cmdCheck c op pk false == some stParam | none => false

/-- The packet of a parked TRAP CMD is carried out, or refused with status `st` (R207); a long operation answers when it completes
(DESIGN CHOICE, log entry 32). G0 is PARAM for a packet that fails its check, DENIED for a command that is denied, and else OK. -/
def State.taskCommand (s : State) (x : Nat) (t : TrapCall) (op : Nat) (pk : Packet) (st : Option Nat := none) : State :=
  let (a, u) := match st with
    | some st => (refuse st, s)
    | none => s.runPacket op pk (1, t.buf, 4 * t.size, false) false
  let u := u.onCtx x (fun k => { k with traps := k.traps.map (fun c => if c == t then { c with pk := none } else c) })
  if a.status = stAccepted then u
  else
    let g0 := if st.isNone && s.packetBad op pk then stParam else if a.status = stDenied then stDenied else stOk
    u.taskReply x t.buf t.size (if silent pk a then [] else replyWords a false pk.tag op) g0

/-- A packet on a task's path: that of its TRAP. -/
def State.taskPacket (s : State) (x op : Nat) (pk : Packet) : State :=
  match (s.ctx x).traps.find? (fun c => c.pk == some (pk, op)) with
  | some t => if s.serviceRuns then s.taskCommand x t op pk else s
  | none => s

/-- TRAP_ANSWER (R207): the answer to the TRAP that a context is parked on arrives; a packet not yet carried out is first. -/
def execTrapAnswer (x : Fin 128) (ts : Stamp) (s : State) : Host.Outcome State Fault Refusal :=
  .next (s.happens (islEngine (x / 32)) ts (fun s => s.ctxState x == 3 && !s.halted (x / 32) && (s.trapHere x).isSome) (fun s =>
    let s := match (s.trapHere x).bind (fun c => c.pk) with | some (pk, op) => s.taskPacket x op pk | none => s
    match s.trapHere x with
    | some c =>
      (match c.answer with
      | some (st, w) =>
        let s := (s.setG x 0 (toW st)).setG x 1 w
        let s := s.onCtx x (fun k => { k with
          traps := k.traps.filter (fun t => !(t.ilvl == c.ilvl && t.pc == c.pc)), prog := 0, pc := k.pc + 4 })
        s.setCtxState x 2
      | none => s)
    | none => s))

/-! ## A service context faults -/

/-- The command that the service firmware was interpreting on a path is answered BUSY with its TAG, and does nothing more (R206):
the message at the front of a mailbox, the descriptor of a ring, the packet of a TRAP. -/
def State.answerBusy (s : State) (p : CmdPath) : State :=
  match p with
  | .hostBox _ | .supBox _ =>
    let k := (chanOf p).getD 0
    let b := inBox k
    let w (n : Nat) : Word := s.rd .mbData b n
    if !(s.go b && s.mayTake p k) then s
    else (s.clearGo b).queueReply k (replyWords (refuse stBusy) false ((w 1).setWidth 16) (getF (w 0) 0 16))
  | .ring c =>
    if !(s.atCommand c && !(s.dma c).taken) then s
    else
      let (op, pk, _) := s.ringPacket c
      (s.onDma c (fun x => { x with taken := true, reply := replyWords (refuse stBusy) false pk.tag op })).ringReply c
  | .task x =>
    match (s.trapHere x).bind (fun t => t.pk.map (fun p => (t, p))) with
    | some (t, pk, op) => s.taskCommand x t op pk (some stBusy)
    | none => s

/-- SERVICE_FAULT (R206): R205, then the context starts again from CTX_ENTRY; `during`: the path whose command was being
interpreted. -/
def execServiceFault (x : Fin 128) (during : Option CmdPath) (ts : Stamp) (s : State) : Host.Outcome State Fault Refusal :=
  .next (s.happens (islEngine (x / 32)) ts (fun s => (x.val % 32 == 1 || x.val % 32 == 2) && !s.halted (x.val / 32)) (fun s =>
    match (s.ctx x).fault with
    | some f =>
      let s := (s.faultNow x 0x11 f).startCtx x
      match during with | some p => s.answerBusy p | none => s
    | none => s))

/-! ## The rows -/

/-- A packet with a command's opcode, on the path that brings it. -/
def State.packetRow (s : State) (op : Nat) (pk : Packet) : State :=
  match pk.path with
  | .hostBox k => s.mailPacket k op pk
  | .supBox j => s.mailPacket (16 + j) op pk
  | .ring c => if s.atCommand c && !(s.dma c).taken && s.ringPacket c == (op, pk, false) then s.ringCommand c else s
  | .task x => s.taskPacket x op pk

/-- NOP (R319). -/
def execNop (pk : Packet) (s : State) : Host.Outcome State Fault Refusal := .next (s.packetRow 0x0000 pk)
/-- DEV_INFO (R319). -/
def execDevInfo (pk : Packet) (s : State) : Host.Outcome State Fault Refusal := .next (s.packetRow 0x0001 pk)
/-- ECHO (R319). -/
def execEcho (pk : Packet) (s : State) : Host.Outcome State Fault Refusal := .next (s.packetRow 0x0002 pk)
/-- UNIT_GET (R319). -/
def execUnitGet (pk : Packet) (s : State) : Host.Outcome State Fault Refusal := .next (s.packetRow 0x0003 pk)
/-- UNIT_SET (R319). -/
def execUnitSet (pk : Packet) (s : State) : Host.Outcome State Fault Refusal := .next (s.packetRow 0x0004 pk)
/-- UNIT_OWN (R319). -/
def execUnitOwn (pk : Packet) (s : State) : Host.Outcome State Fault Refusal := .next (s.packetRow 0x0005 pk)
/-- ACCERR_READ (R319). -/
def execAccerrRead (pk : Packet) (s : State) : Host.Outcome State Fault Refusal := .next (s.packetRow 0x0006 pk)
/-- PWR_BUDGET (R319). -/
def execPwrBudget (pk : Packet) (s : State) : Host.Outcome State Fault Refusal := .next (s.packetRow 0x0100 pk)
/-- PWR_SHARE (R319). -/
def execPwrShare (pk : Packet) (s : State) : Host.Outcome State Fault Refusal := .next (s.packetRow 0x0101 pk)
/-- PWR_THERM (R319). -/
def execPwrTherm (pk : Packet) (s : State) : Host.Outcome State Fault Refusal := .next (s.packetRow 0x0102 pk)
/-- PWR_STATE (R319). -/
def execPwrState (pk : Packet) (s : State) : Host.Outcome State Fault Refusal := .next (s.packetRow 0x0103 pk)
/-- PWR_STATUS (R319). -/
def execPwrStatus (pk : Packet) (s : State) : Host.Outcome State Fault Refusal := .next (s.packetRow 0x0104 pk)
/-- TILE_CH_CFG (R319). -/
def execTileChCfg (pk : Packet) (s : State) : Host.Outcome State Fault Refusal := .next (s.packetRow 0x0200 pk)
/-- TILE_CH_UPDATE (R319). -/
def execTileChUpdate (pk : Packet) (s : State) : Host.Outcome State Fault Refusal := .next (s.packetRow 0x0201 pk)
/-- TILE_START (R319). -/
def execTileStart (pk : Packet) (s : State) : Host.Outcome State Fault Refusal := .next (s.packetRow 0x0202 pk)
/-- TILE_STOP (R319). -/
def execTileStop (pk : Packet) (s : State) : Host.Outcome State Fault Refusal := .next (s.packetRow 0x0203 pk)
/-- TILE_READ (R319). -/
def execTileRead (pk : Packet) (s : State) : Host.Outcome State Fault Refusal := .next (s.packetRow 0x0204 pk)
/-- TILE_BRIDGE (R319). -/
def execTileBridge (pk : Packet) (s : State) : Host.Outcome State Fault Refusal := .next (s.packetRow 0x0205 pk)
/-- TILE_TRIP (R319). -/
def execTileTrip (pk : Packet) (s : State) : Host.Outcome State Fault Refusal := .next (s.packetRow 0x0206 pk)
/-- TILE_TRIP_CLR (R319). -/
def execTileTripClr (pk : Packet) (s : State) : Host.Outcome State Fault Refusal := .next (s.packetRow 0x0207 pk)
/-- TILE_FOL (R319). -/
def execTileFol (pk : Packet) (s : State) : Host.Outcome State Fault Refusal := .next (s.packetRow 0x0208 pk)
/-- TILE_CTRL (R319). -/
def execTileCtrl (pk : Packet) (s : State) : Host.Outcome State Fault Refusal := .next (s.packetRow 0x0209 pk)
/-- PIN_CFG (R319). -/
def execPinCfg (pk : Packet) (s : State) : Host.Outcome State Fault Refusal := .next (s.packetRow 0x020A pk)
/-- DOM_CFG (R319). -/
def execDomCfg (pk : Packet) (s : State) : Host.Outcome State Fault Refusal := .next (s.packetRow 0x0300 pk)
/-- DOM_PHTEETH (R319). -/
def execDomPhteeth (pk : Packet) (s : State) : Host.Outcome State Fault Refusal := .next (s.packetRow 0x0301 pk)
/-- DOM_ENABLE (R319). -/
def execDomEnable (pk : Packet) (s : State) : Host.Outcome State Fault Refusal := .next (s.packetRow 0x0302 pk)
/-- DOM_RUNTIME (R319). -/
def execDomRuntime (pk : Packet) (s : State) : Host.Outcome State Fault Refusal := .next (s.packetRow 0x0303 pk)
/-- DOM_PHM (R319). -/
def execDomPhm (pk : Packet) (s : State) : Host.Outcome State Fault Refusal := .next (s.packetRow 0x0304 pk)
/-- DOM_STATUS (R319). -/
def execDomStatus (pk : Packet) (s : State) : Host.Outcome State Fault Refusal := .next (s.packetRow 0x0305 pk)
/-- EV_ARM (R319). -/
def execEvArm (pk : Packet) (s : State) : Host.Outcome State Fault Refusal := .next (s.packetRow 0x0400 pk)
/-- EV_CANCEL (R319). -/
def execEvCancel (pk : Packet) (s : State) : Host.Outcome State Fault Refusal := .next (s.packetRow 0x0401 pk)
/-- EV_FLUSH (R319). -/
def execEvFlush (pk : Packet) (s : State) : Host.Outcome State Fault Refusal := .next (s.packetRow 0x0402 pk)
/-- EV_PART (R319). -/
def execEvPart (pk : Packet) (s : State) : Host.Outcome State Fault Refusal := .next (s.packetRow 0x0403 pk)
/-- EV_CQ (R319). -/
def execEvCq (pk : Packet) (s : State) : Host.Outcome State Fault Refusal := .next (s.packetRow 0x0404 pk)
/-- EV_ENTRY (R319). -/
def execEvEntry (pk : Packet) (s : State) : Host.Outcome State Fault Refusal := .next (s.packetRow 0x0405 pk)
/-- EV_STATUS (R319). -/
def execEvStatus (pk : Packet) (s : State) : Host.Outcome State Fault Refusal := .next (s.packetRow 0x0406 pk)
/-- CAT_WRITE (R319). -/
def execCatWrite (pk : Packet) (s : State) : Host.Outcome State Fault Refusal := .next (s.packetRow 0x0500 pk)
/-- CAT_READ (R319). -/
def execCatRead (pk : Packet) (s : State) : Host.Outcome State Fault Refusal := .next (s.packetRow 0x0501 pk)
/-- CAT_CLEAR (R319). -/
def execCatClear (pk : Packet) (s : State) : Host.Outcome State Fault Refusal := .next (s.packetRow 0x0502 pk)
/-- LOG_SETUP (R319). -/
def execLogSetup (pk : Packet) (s : State) : Host.Outcome State Fault Refusal := .next (s.packetRow 0x0503 pk)
/-- LOG_STATUS (R319). -/
def execLogStatus (pk : Packet) (s : State) : Host.Outcome State Fault Refusal := .next (s.packetRow 0x0504 pk)
/-- PORT_SETUP (R319). -/
def execPortSetup (pk : Packet) (s : State) : Host.Outcome State Fault Refusal := .next (s.packetRow 0x0600 pk)
/-- PORT_SCRIPT (R319). -/
def execPortScript (pk : Packet) (s : State) : Host.Outcome State Fault Refusal := .next (s.packetRow 0x0601 pk)
/-- PORT_ENTRY (R319). -/
def execPortEntry (pk : Packet) (s : State) : Host.Outcome State Fault Refusal := .next (s.packetRow 0x0602 pk)
/-- PORT_RUN (R319). -/
def execPortRun (pk : Packet) (s : State) : Host.Outcome State Fault Refusal := .next (s.packetRow 0x0603 pk)
/-- PORT_TT (R319). -/
def execPortTt (pk : Packet) (s : State) : Host.Outcome State Fault Refusal := .next (s.packetRow 0x0604 pk)
/-- PORT_STOP (R319). -/
def execPortStop (pk : Packet) (s : State) : Host.Outcome State Fault Refusal := .next (s.packetRow 0x0605 pk)
/-- PORT_STATUS (R319). -/
def execPortStatus (pk : Packet) (s : State) : Host.Outcome State Fault Refusal := .next (s.packetRow 0x0606 pk)
/-- ML_SETUP (R319). -/
def execMlSetup (pk : Packet) (s : State) : Host.Outcome State Fault Refusal := .next (s.packetRow 0x0700 pk)
/-- ML_LINK (R319). -/
def execMlLink (pk : Packet) (s : State) : Host.Outcome State Fault Refusal := .next (s.packetRow 0x0701 pk)
/-- ML_SS_SETUP (R319). -/
def execMlSsSetup (pk : Packet) (s : State) : Host.Outcome State Fault Refusal := .next (s.packetRow 0x0702 pk)
/-- ML_SYSSTART (R319). -/
def execMlSysstart (pk : Packet) (s : State) : Host.Outcome State Fault Refusal := .next (s.packetRow 0x0703 pk)
/-- ML_PEER (R319). -/
def execMlPeer (pk : Packet) (s : State) : Host.Outcome State Fault Refusal := .next (s.packetRow 0x0704 pk)
/-- ML_STATUS (R319). -/
def execMlStatus (pk : Packet) (s : State) : Host.Outcome State Fault Refusal := .next (s.packetRow 0x0705 pk)
/-- CTX_LOAD (R319). -/
def execCtxLoad (pk : Packet) (s : State) : Host.Outcome State Fault Refusal := .next (s.packetRow 0x0800 pk)
/-- CTX_START (R319). -/
def execCtxStart (pk : Packet) (s : State) : Host.Outcome State Fault Refusal := .next (s.packetRow 0x0801 pk)
/-- CTX_STOP (R319). -/
def execCtxStop (pk : Packet) (s : State) : Host.Outcome State Fault Refusal := .next (s.packetRow 0x0802 pk)
/-- CTX_STATUS (R319). -/
def execCtxStatus (pk : Packet) (s : State) : Host.Outcome State Fault Refusal := .next (s.packetRow 0x0803 pk)
/-- CTX_POST (R319). -/
def execCtxPost (pk : Packet) (s : State) : Host.Outcome State Fault Refusal := .next (s.packetRow 0x0804 pk)
/-- CTX_LOWER (R319). -/
def execCtxLower (pk : Packet) (s : State) : Host.Outcome State Fault Refusal := .next (s.packetRow 0x0805 pk)
/-- FW_VERSION (R319). -/
def execFwVersion (pk : Packet) (s : State) : Host.Outcome State Fault Refusal := .next (s.packetRow 0x0900 pk)
/-- FW_PATCH (R319). -/
def execFwPatch (pk : Packet) (s : State) : Host.Outcome State Fault Refusal := .next (s.packetRow 0x0901 pk)
/-- CAL_READ (R319). -/
def execCalRead (pk : Packet) (s : State) : Host.Outcome State Fault Refusal := .next (s.packetRow 0x0A00 pk)
/-- CAL_WRITE (R319). -/
def execCalWrite (pk : Packet) (s : State) : Host.Outcome State Fault Refusal := .next (s.packetRow 0x0A01 pk)
/-- FAULT_READ (R319). -/
def execFaultRead (pk : Packet) (s : State) : Host.Outcome State Fault Refusal := .next (s.packetRow 0x0B00 pk)
/-- FAULT_ACK (R319). -/
def execFaultAck (pk : Packet) (s : State) : Host.Outcome State Fault Refusal := .next (s.packetRow 0x0B01 pk)
/-- START_READ (R319). -/
def execStartRead (pk : Packet) (s : State) : Host.Outcome State Fault Refusal := .next (s.packetRow 0x0B02 pk)

/-! ## Idling -/

/-- What the block does by itself: the service firmware takes a message that waits, else a tick passes (log entry 13). -/
def State.idle (s : State) : State :=
  match s.waitingChannel with
  | some k => s.takeMessage k
  | none => s.tick

end Sys2Proof.Machine
end

