-- ==== Sys2Proof/Machine/Dispatch.lean ====
section
/-! DEFINITION. The meaning of every command, one arm for each row of the table. -/

namespace Sys2Proof.Machine

/-- What a command does to everything but the queue. -/
def exec (i : Instr) (s : State) : Host.Outcome State Fault Refusal :=
  match i with
  | .coldStart o => Sys2Proof.Machine.execColdStart o s
  | .pllLock ts => Sys2Proof.Machine.execPllLock ts s
  | .warmStart o => Sys2Proof.Machine.execWarmStart o s
  | .feedTimeout ts => Sys2Proof.Machine.execFeedTimeout ts s
  | .startFeedGo m accepted => Sys2Proof.Machine.execStartFeedGo m accepted s
  | .clrStrat m => Sys2Proof.Machine.execClrStrat m s
  | .clrCounts m => Sys2Proof.Machine.execClrCounts m s
  | .nresetAssert ns => Sys2Proof.Machine.execNresetAssert ns s
  | .vddBrownout ns => Sys2Proof.Machine.execVddBrownout ns s
  | .bankSupplyChange course inRange => Sys2Proof.Machine.execBankSupplyChange course inRange s
  | .islandWake isl => Sys2Proof.Machine.execIslandWake isl s
  | .registerWrite m off width v => Sys2Proof.Machine.execRegisterWrite m off width v s
  | .beacon isl drift late ts => Sys2Proof.Machine.execBeacon isl drift late ts s
  | .islandReload isl ts => Sys2Proof.Machine.execIslandReload isl ts s
  | .vernierCalibration t err ts => Sys2Proof.Machine.execVernierCalibration t err ts s
  | .pllSwitchover ts => Sys2Proof.Machine.execPllSwitchover ts s
  | .pllRetrain locks ts => Sys2Proof.Machine.execPllRetrain locks ts s
  | .refclkHoldover ts => Sys2Proof.Machine.execRefclkHoldover ts s
  | .holdoverExit ts => Sys2Proof.Machine.execHoldoverExit ts s
  | .linkedLowRead m q => Sys2Proof.Machine.execLinkedLowRead m q s
  | .linkedHighRead m q => Sys2Proof.Machine.execLinkedHighRead m q s
  | .linked64bitRead q => Sys2Proof.Machine.execLinked64bitRead q s
  | .clrStats m => Sys2Proof.Machine.execClrStats m s
  | .channelStep g ts => Sys2Proof.Machine.execChannelStep g ts s
  | .chCtrlWrite m g v => Sys2Proof.Machine.execChCtrlWrite m g v s
  | .shadowWrite m g r v => Sys2Proof.Machine.execShadowWrite m g r v s
  | .inputFilterAccept consumer level since ts => Sys2Proof.Machine.execInputFilterAccept consumer level since ts s
  | .captureLanding g ts => Sys2Proof.Machine.execCaptureLanding g ts s
  | .captureAckRead m g => Sys2Proof.Machine.execCaptureAckRead m g s
  | .tileStartWrite m t mask => Sys2Proof.Machine.execTileStartWrite m t mask s
  | .tileStopWrite m t mask => Sys2Proof.Machine.execTileStopWrite m t mask s
  | .tileStartArm m t mask => Sys2Proof.Machine.execTileStartArm m t mask s
  | .armedStart t ts => Sys2Proof.Machine.execArmedStart t ts s
  | .tileCommit m t mask => Sys2Proof.Machine.execTileCommit m t mask s
  | .tileClrCnt m t => Sys2Proof.Machine.execTileClrCnt m t s
  | .followerUpdate t f ts => Sys2Proof.Machine.execFollowerUpdate t f ts s
  | .followerEnable m t f v => Sys2Proof.Machine.execFollowerEnable m t f v s
  | .slotLoad t slot ts => Sys2Proof.Machine.execSlotLoad t slot ts s
  | .slotFire t slot ts => Sys2Proof.Machine.execSlotFire t slot ts s
  | .slotCloseDuration t slot ts => Sys2Proof.Machine.execSlotCloseDuration t slot ts s
  | .slotCloseAngle t slot ts => Sys2Proof.Machine.execSlotCloseAngle t slot ts s
  | .guarded t slot ts => Sys2Proof.Machine.execGuarded t slot ts s
  | .burstEnd t slot ts => Sys2Proof.Machine.execBurstEnd t slot ts s
  | .slotClear t slot ts => Sys2Proof.Machine.execSlotClear t slot ts s
  | .pmPinWrite m pin v => Sys2Proof.Machine.execPmPinWrite m pin v s
  | .coursePowerDown course ts => Sys2Proof.Machine.execCoursePowerDown course ts s
  | .coursePowerUp course => Sys2Proof.Machine.execCoursePowerUp course s
  | .commit x rs imm => Sys2Proof.Machine.execCommit x rs imm s
  | .brCtrlWrite m t pair v => Sys2Proof.Machine.execBrCtrlWrite m t pair v s
  | .deadTimeExpiry t pair ts => Sys2Proof.Machine.execDeadTimeExpiry t pair ts s
  | .minpwExtension t pair ts => Sys2Proof.Machine.execMinpwExtension t pair ts s
  | .tripAccept t inB since ts => Sys2Proof.Machine.execTripAccept t inB since ts s
  | .blankingEnd t inB ts => Sys2Proof.Machine.execBlankingEnd t inB ts s
  | .tripClear m t mask => Sys2Proof.Machine.execTripClear m t mask s
  | .tripLvlWrite m t v => Sys2Proof.Machine.execTripLvlWrite m t v s
  | .domainEnable m d => Sys2Proof.Machine.execDomainEnable m d s
  | .domainDisable m d => Sys2Proof.Machine.execDomainDisable m d s
  | .domainConfigWrite m d off v => Sys2Proof.Machine.execDomainConfigWrite m d off v s
  | .domClrCnt m d => Sys2Proof.Machine.execDomClrCnt m d s
  | .primaryEdge d ts => Sys2Proof.Machine.execPrimaryEdge d ts s
  | .primaryInactiveEdge d ts => Sys2Proof.Machine.execPrimaryInactiveEdge d ts s
  | .toothUpdate d ts => Sys2Proof.Machine.execToothUpdate d ts s
  | .fastRunEnd d ts => Sys2Proof.Machine.execFastRunEnd d ts s
  | .toothLate d ts => Sys2Proof.Machine.execToothLate d ts s
  | .stallTimeout d ts => Sys2Proof.Machine.execStallTimeout d ts s
  | .seekTimeout d ts => Sys2Proof.Machine.execSeekTimeout d ts s
  | .phaseToothEdge d ts => Sys2Proof.Machine.execPhaseToothEdge d ts s
  | .phmEdge d m ts => Sys2Proof.Machine.execPhmEdge d m ts s
  | .angleMessage d dev w1 w2 w3 w4 ts => Sys2Proof.Machine.execAngleMessage d dev w1 w2 w3 w4 ts s
  | .domainVote d ts => Sys2Proof.Machine.execDomainVote d ts s
  | .calPartWrite m d v => Sys2Proof.Machine.execCalPartWrite m d v s
  | .calendarArmDecision r ws ts => Sys2Proof.Machine.execCalendarArmDecision r ws ts s
  | .calendarCancelDecision r handle ts => Sys2Proof.Machine.execCalendarCancelDecision r handle ts s
  | .calendarFlushDecision r d ts => Sys2Proof.Machine.execCalendarFlushDecision r d ts s
  | .staging idx ts => Sys2Proof.Machine.execStaging idx ts s
  | .calendarActionIssue idx ts => Sys2Proof.Machine.execCalendarActionIssue idx ts s
  | .cqRdWrite m d v => Sys2Proof.Machine.execCqRdWrite m d v s
  | .cqConfigWrite m d size v => Sys2Proof.Machine.execCqConfigWrite m d size v s
  | .calClrCnt m => Sys2Proof.Machine.execCalClrCnt m s
  | .add x rd rs rt => Sys2Proof.Machine.execAdd x rd rs rt s
  | .sub x rd rs rt => Sys2Proof.Machine.execSub x rd rs rt s
  | .and x rd rs rt => Sys2Proof.Machine.execAnd x rd rs rt s
  | .or x rd rs rt => Sys2Proof.Machine.execOr x rd rs rt s
  | .xor x rd rs rt => Sys2Proof.Machine.execXor x rd rs rt s
  | .shl x rd rs rt => Sys2Proof.Machine.execShl x rd rs rt s
  | .shr x rd rs rt => Sys2Proof.Machine.execShr x rd rs rt s
  | .sar x rd rs rt => Sys2Proof.Machine.execSar x rd rs rt s
  | .mul x rd rs rt => Sys2Proof.Machine.execMul x rd rs rt s
  | .mulh x rd rs rt => Sys2Proof.Machine.execMulh x rd rs rt s
  | .mulhu x rd rs rt => Sys2Proof.Machine.execMulhu x rd rs rt s
  | .div x rd rs rt => Sys2Proof.Machine.execDiv x rd rs rt s
  | .divu x rd rs rt => Sys2Proof.Machine.execDivu x rd rs rt s
  | .min x rd rs rt => Sys2Proof.Machine.execMin x rd rs rt s
  | .max x rd rs rt => Sys2Proof.Machine.execMax x rd rs rt s
  | .cmp x rs rt => Sys2Proof.Machine.execCmp x rs rt s
  | .addi x rd rs imm => Sys2Proof.Machine.execAddi x rd rs imm s
  | .andi x rd rs imm => Sys2Proof.Machine.execAndi x rd rs imm s
  | .ori x rd rs imm => Sys2Proof.Machine.execOri x rd rs imm s
  | .xori x rd rs imm => Sys2Proof.Machine.execXori x rd rs imm s
  | .shli x rd rs imm => Sys2Proof.Machine.execShli x rd rs imm s
  | .shri x rd rs imm => Sys2Proof.Machine.execShri x rd rs imm s
  | .sari x rd rs imm => Sys2Proof.Machine.execSari x rd rs imm s
  | .cmpi x rs imm => Sys2Proof.Machine.execCmpi x rs imm s
  | .movi x rd imm => Sys2Proof.Machine.execMovi x rd imm s
  | .movhi x rd imm => Sys2Proof.Machine.execMovhi x rd imm s
  | .mov x rd rs => Sys2Proof.Machine.execMov x rd rs s
  | .mfs x rd imm => Sys2Proof.Machine.execMfs x rd imm s
  | .mts x rs imm => Sys2Proof.Machine.execMts x rs imm s
  | .ldw x rd rs imm => Sys2Proof.Machine.execLdw x rd rs imm s
  | .ldh x rd rs imm => Sys2Proof.Machine.execLdh x rd rs imm s
  | .ldhu x rd rs imm => Sys2Proof.Machine.execLdhu x rd rs imm s
  | .ldb x rd rs imm => Sys2Proof.Machine.execLdb x rd rs imm s
  | .ldbu x rd rs imm => Sys2Proof.Machine.execLdbu x rd rs imm s
  | .stw x rd rs imm => Sys2Proof.Machine.execStw x rd rs imm s
  | .sth x rd rs imm => Sys2Proof.Machine.execSth x rd rs imm s
  | .stb x rd rs imm => Sys2Proof.Machine.execStb x rd rs imm s
  | .push x rd => Sys2Proof.Machine.execPush x rd s
  | .pop x rd => Sys2Proof.Machine.execPop x rd s
  | .regrd x rd rs imm => Sys2Proof.Machine.execRegrd x rd rs imm s
  | .regwr x rd rs imm => Sys2Proof.Machine.execRegwr x rd rs imm s
  | .b x imm => Sys2Proof.Machine.execB x imm s
  | .beq x imm => Sys2Proof.Machine.execBeq x imm s
  | .bne x imm => Sys2Proof.Machine.execBne x imm s
  | .blt x imm => Sys2Proof.Machine.execBlt x imm s
  | .bge x imm => Sys2Proof.Machine.execBge x imm s
  | .bltu x imm => Sys2Proof.Machine.execBltu x imm s
  | .bgeu x imm => Sys2Proof.Machine.execBgeu x imm s
  | .call x imm => Sys2Proof.Machine.execCall x imm s
  | .ret x => Sys2Proof.Machine.execRet x s
  | .jr x rs => Sys2Proof.Machine.execJr x rs s
  | .callr x rs => Sys2Proof.Machine.execCallr x rs s
  | .waitTime x rd rs arg => Sys2Proof.Machine.execWaitTime x rd rs arg s
  | .waitDelay x rd rs arg => Sys2Proof.Machine.execWaitDelay x rd rs arg s
  | .waitAngle x rd rs arg => Sys2Proof.Machine.execWaitAngle x rd rs arg s
  | .waitEvent x rd rs arg => Sys2Proof.Machine.execWaitEvent x rd rs arg s
  | .waitMbox x rd rs arg => Sys2Proof.Machine.execWaitMbox x rd rs arg s
  | .waitLock x rd rs arg => Sys2Proof.Machine.execWaitLock x rd rs arg s
  | .waitWake x ts => Sys2Proof.Machine.execWaitWake x ts s
  | .waitTimeout x ts => Sys2Proof.Machine.execWaitTimeout x ts s
  | .yield x => Sys2Proof.Machine.execYield x s
  | .endTask x => Sys2Proof.Machine.execEndTask x s
  | .trapCmd x => Sys2Proof.Machine.execTrapCmd x s
  | .trapInfo x => Sys2Proof.Machine.execTrapInfo x s
  | .trapLower x => Sys2Proof.Machine.execTrapLower x s
  | .trapLimit x => Sys2Proof.Machine.execTrapLimit x s
  | .trapUnknown x imm => Sys2Proof.Machine.execTrapUnknown x imm s
  | .trapAnswer x ts => Sys2Proof.Machine.execTrapAnswer x ts s
  | .rete x => Sys2Proof.Machine.execRete x s
  | .post x rd rs imm => Sys2Proof.Machine.execPost x rd rs imm s
  | .arm x rd rs => Sys2Proof.Machine.execArm x rd rs s
  | .cancel x rd rs => Sys2Proof.Machine.execCancel x rd rs s
  | .cancelFlush x rd rs => Sys2Proof.Machine.execCancelFlush x rd rs s
  | .fabricReply x ts => Sys2Proof.Machine.execFabricReply x ts s
  | .tilewr x rd rs imm => Sys2Proof.Machine.execTilewr x rd rs imm s
  | .portx x rd rs imm => Sys2Proof.Machine.execPortx x rd rs imm s
  | .log x rd rs => Sys2Proof.Machine.execLog x rd rs s
  | .mboxSend x rd rs imm => Sys2Proof.Machine.execMboxSend x rd rs imm s
  | .mboxRecv x rd rs imm => Sys2Proof.Machine.execMboxRecv x rd rs imm s
  | .mboxPeek x rd rs imm => Sys2Proof.Machine.execMboxPeek x rd rs imm s
  | .lock x rd imm => Sys2Proof.Machine.execLock x rd imm s
  | .unlock x imm => Sys2Proof.Machine.execUnlock x imm s
  | .tbl1 x rd rs rt => Sys2Proof.Machine.execTbl1 x rd rs rt s
  | .tbl2 x rd rs rt => Sys2Proof.Machine.execTbl2 x rd rs rt s
  | .blkcp x rd rs rt => Sys2Proof.Machine.execBlkcp x rd rs rt s
  | .fill x rd rs rt => Sys2Proof.Machine.execFill x rd rs rt s
  | .illegal x word => Sys2Proof.Machine.execIllegal x word s
  | .ctxCmdStart m x => Sys2Proof.Machine.execCtxCmdStart m x s
  | .ctxCmdStop m x => Sys2Proof.Machine.execCtxCmdStop m x s
  | .ctxStopEffect x ts => Sys2Proof.Machine.execCtxStopEffect x ts s
  | .engDebugHalt e => Sys2Proof.Machine.execEngDebugHalt e s
  | .engDebugStep e ctx => Sys2Proof.Machine.execEngDebugStep e ctx s
  | .engDebugResume e => Sys2Proof.Machine.execEngDebugResume e s
  | .interruptEntry x ts => Sys2Proof.Machine.execInterruptEntry x ts s
  | .nointExpiry x ts => Sys2Proof.Machine.execNointExpiry x ts s
  | .taskFault x ts => Sys2Proof.Machine.execTaskFault x ts s
  | .serviceFault x during ts => Sys2Proof.Machine.execServiceFault x during ts s
  | .mcParity e l addr dispatch goldenOk ts => Sys2Proof.Machine.execMcParity e l addr dispatch goldenOk ts s
  | .mcLockstep e l ts => Sys2Proof.Machine.execMcLockstep e l ts s
  | .mcMemory x addr ts => Sys2Proof.Machine.execMcMemory x addr ts s
  | .engineRetired e ts => Sys2Proof.Machine.execEngineRetired e ts s
  | .patchApply sigOk ts => Sys2Proof.Machine.execPatchApply sigOk ts s
  | .bucketRefill ts => Sys2Proof.Machine.execBucketRefill ts s
  | .admissionRefresh e ts => Sys2Proof.Machine.execAdmissionRefresh e ts s
  | .pfixedUpdate mw ts => Sys2Proof.Machine.execPfixedUpdate mw ts s
  | .sensorReading temps ts => Sys2Proof.Machine.execSensorReading temps ts s
  | .forecast ts => Sys2Proof.Machine.execForecast ts s
  | .govBudgetWrite m v => Sys2Proof.Machine.execGovBudgetWrite m v s
  | .govConfigWrite m r v => Sys2Proof.Machine.execGovConfigWrite m r v s
  | .govClrCnt m => Sys2Proof.Machine.execGovClrCnt m s
  | .islandGate isl ts => Sys2Proof.Machine.execIslandGate isl ts s
  | .govPstateReq m v => Sys2Proof.Machine.execGovPstateReq m v s
  | .powerStateCommit ts => Sys2Proof.Machine.execPowerStateCommit ts s
  | .powerStateExit aoTicks ts => Sys2Proof.Machine.execPowerStateExit aoTicks ts s
  | .watchSlotFire src level ts => Sys2Proof.Machine.execWatchSlotFire src level ts s
  | .alarm ts => Sys2Proof.Machine.execAlarm ts s
  | .catalogueWord0Write m sig v => Sys2Proof.Machine.execCatalogueWord0Write m sig v s
  | .catalogueWord12Write m sig word2 v => Sys2Proof.Machine.execCatalogueWord12Write m sig word2 v s
  | .logSourceEvent ts => Sys2Proof.Machine.execLogSourceEvent ts s
  | .rateSample sig ts => Sys2Proof.Machine.execRateSample sig ts s
  | .angleTrigger sig ts => Sys2Proof.Machine.execAngleTrigger sig ts s
  | .logRecordWrite ts => Sys2Proof.Machine.execLogRecordWrite ts s
  | .mark ts => Sys2Proof.Machine.execMark ts s
  | .logRingWrite m v => Sys2Proof.Machine.execLogRingWrite m v s
  | .logRdWrite m v => Sys2Proof.Machine.execLogRdWrite m v s
  | .logCtrlWrite m v => Sys2Proof.Machine.execLogCtrlWrite m v s
  | .logClrCnt m => Sys2Proof.Machine.execLogClrCnt m s
  | .logThreshWrite m v => Sys2Proof.Machine.execLogThreshWrite m v s
  | .logDrainDescriptor ts => Sys2Proof.Machine.execLogDrainDescriptor ts s
  | .logFlushExpiry ts => Sys2Proof.Machine.execLogFlushExpiry ts s
  | .portCfgWrite m p r v => Sys2Proof.Machine.execPortCfgWrite m p r v s
  | .portAbort m p => Sys2Proof.Machine.execPortAbort m p s
  | .portFlush m p => Sys2Proof.Machine.execPortFlush m p s
  | .portClrCnt m p => Sys2Proof.Machine.execPortClrCnt m p s
  | .timeTrigger p ts => Sys2Proof.Machine.execTimeTrigger p ts s
  | .portTtWrite m p r v => Sys2Proof.Machine.execPortTtWrite m p r v s
  | .transactionStart p ts => Sys2Proof.Machine.execTransactionStart p ts s
  | .scriptCs p ts => Sys2Proof.Machine.execScriptCs p ts s
  | .xfer p rx ts => Sys2Proof.Machine.execXfer p rx ts s
  | .recv p ts => Sys2Proof.Machine.execRecv p ts s
  | .timeout p ts => Sys2Proof.Machine.execTimeout p ts s
  | .scriptWait p ts => Sys2Proof.Machine.execScriptWait p ts s
  | .loop p ts => Sys2Proof.Machine.execLoop p ts s
  | .scriptEnd p ts => Sys2Proof.Machine.execScriptEnd p ts s
  | .sentFrame p f ts => Sys2Proof.Machine.execSentFrame p f ts s
  | .uartByte p byte ok ts => Sys2Proof.Machine.execUartByte p byte ok ts s
  | .portScriptWrite m p w v => Sys2Proof.Machine.execPortScriptWrite m p w v s
  | .portDmemPtrWrite m p v => Sys2Proof.Machine.execPortDmemPtrWrite m p v s
  | .portSwap p ts => Sys2Proof.Machine.execPortSwap p ts s
  | .linkTrain k peer ts => Sys2Proof.Machine.execLinkTrain k peer ts s
  | .frameReceive k f ts => Sys2Proof.Machine.execFrameReceive k f ts s
  | .retransmitTimeout k ts => Sys2Proof.Machine.execRetransmitTimeout k ts s
  | .linkDown k ts => Sys2Proof.Machine.execLinkDown k ts s
  | .standbyTakeover k ts => Sys2Proof.Machine.execStandbyTakeover k ts s
  | .beaconSend k ts => Sys2Proof.Machine.execBeaconSend k ts s
  | .beaconReceive k stamp ok ts => Sys2Proof.Machine.execBeaconReceive k stamp ok ts s
  | .delayFrame k launch arrival ts => Sys2Proof.Machine.execDelayFrame k launch arrival ts s
  | .joinJudgement dup ts => Sys2Proof.Machine.execJoinJudgement dup ts s
  | .mlCtrlEnable m => Sys2Proof.Machine.execMlCtrlEnable m s
  | .mlClrCnt m => Sys2Proof.Machine.execMlClrCnt m s
  | .holdMaxExpiry ts => Sys2Proof.Machine.execHoldMaxExpiry ts s
  | .sysstartSend m v => Sys2Proof.Machine.execSysstartSend m v s
  | .sysstartReceive start tag ts => Sys2Proof.Machine.execSysstartReceive start tag ts s
  | .systemLockRequest lock op dev x ts => Sys2Proof.Machine.execSystemLockRequest lock op dev x ts s
  | .deviceLost dev ts => Sys2Proof.Machine.execDeviceLost dev ts s
  | .msgReceive k dev code payload ts => Sys2Proof.Machine.execMsgReceive k dev code payload ts s
  | .mlMsgqPop m => Sys2Proof.Machine.execMlMsgqPop m s
  | .peerMboxReceive f ts => Sys2Proof.Machine.execPeerMboxReceive f ts s
  | .remoteLogReceive dev rsig value ts => Sys2Proof.Machine.execRemoteLogReceive dev rsig value ts s
  | .faultNoticeReceive k dev kind time => Sys2Proof.Machine.execFaultNoticeReceive k dev kind time s
  | .alive k ts => Sys2Proof.Machine.execAlive k ts s
  | .perstAssert => Sys2Proof.Machine.execPerstAssert s
  | .supReqWrite unit req => Sys2Proof.Machine.execSupReqWrite unit req s
  | .sysClrCnt m => Sys2Proof.Machine.execSysClrCnt m s
  | .sysCmdMboxWrite m v => Sys2Proof.Machine.execSysCmdMboxWrite m v s
  | .longCompletion n => Sys2Proof.Machine.execLongCompletion n s
  | .nop pk => Sys2Proof.Machine.execNop pk s
  | .devInfo pk => Sys2Proof.Machine.execDevInfo pk s
  | .echo pk => Sys2Proof.Machine.execEcho pk s
  | .unitGet pk => Sys2Proof.Machine.execUnitGet pk s
  | .unitSet pk => Sys2Proof.Machine.execUnitSet pk s
  | .unitOwn pk => Sys2Proof.Machine.execUnitOwn pk s
  | .accerrRead pk => Sys2Proof.Machine.execAccerrRead pk s
  | .pwrBudget pk => Sys2Proof.Machine.execPwrBudget pk s
  | .pwrShare pk => Sys2Proof.Machine.execPwrShare pk s
  | .pwrTherm pk => Sys2Proof.Machine.execPwrTherm pk s
  | .pwrState pk => Sys2Proof.Machine.execPwrState pk s
  | .pwrStatus pk => Sys2Proof.Machine.execPwrStatus pk s
  | .tileChCfg pk => Sys2Proof.Machine.execTileChCfg pk s
  | .tileChUpdate pk => Sys2Proof.Machine.execTileChUpdate pk s
  | .tileStart pk => Sys2Proof.Machine.execTileStart pk s
  | .tileStop pk => Sys2Proof.Machine.execTileStop pk s
  | .tileRead pk => Sys2Proof.Machine.execTileRead pk s
  | .tileBridge pk => Sys2Proof.Machine.execTileBridge pk s
  | .tileTrip pk => Sys2Proof.Machine.execTileTrip pk s
  | .tileTripClr pk => Sys2Proof.Machine.execTileTripClr pk s
  | .tileFol pk => Sys2Proof.Machine.execTileFol pk s
  | .tileCtrl pk => Sys2Proof.Machine.execTileCtrl pk s
  | .pinCfg pk => Sys2Proof.Machine.execPinCfg pk s
  | .domCfg pk => Sys2Proof.Machine.execDomCfg pk s
  | .domPhteeth pk => Sys2Proof.Machine.execDomPhteeth pk s
  | .domEnable pk => Sys2Proof.Machine.execDomEnable pk s
  | .domRuntime pk => Sys2Proof.Machine.execDomRuntime pk s
  | .domPhm pk => Sys2Proof.Machine.execDomPhm pk s
  | .domStatus pk => Sys2Proof.Machine.execDomStatus pk s
  | .evArm pk => Sys2Proof.Machine.execEvArm pk s
  | .evCancel pk => Sys2Proof.Machine.execEvCancel pk s
  | .evFlush pk => Sys2Proof.Machine.execEvFlush pk s
  | .evPart pk => Sys2Proof.Machine.execEvPart pk s
  | .evCq pk => Sys2Proof.Machine.execEvCq pk s
  | .evEntry pk => Sys2Proof.Machine.execEvEntry pk s
  | .evStatus pk => Sys2Proof.Machine.execEvStatus pk s
  | .catWrite pk => Sys2Proof.Machine.execCatWrite pk s
  | .catRead pk => Sys2Proof.Machine.execCatRead pk s
  | .catClear pk => Sys2Proof.Machine.execCatClear pk s
  | .logSetup pk => Sys2Proof.Machine.execLogSetup pk s
  | .logStatus pk => Sys2Proof.Machine.execLogStatus pk s
  | .portSetup pk => Sys2Proof.Machine.execPortSetup pk s
  | .portScript pk => Sys2Proof.Machine.execPortScript pk s
  | .portEntry pk => Sys2Proof.Machine.execPortEntry pk s
  | .portRun pk => Sys2Proof.Machine.execPortRun pk s
  | .portTt pk => Sys2Proof.Machine.execPortTt pk s
  | .portStop pk => Sys2Proof.Machine.execPortStop pk s
  | .portStatus pk => Sys2Proof.Machine.execPortStatus pk s
  | .mlSetup pk => Sys2Proof.Machine.execMlSetup pk s
  | .mlLink pk => Sys2Proof.Machine.execMlLink pk s
  | .mlSsSetup pk => Sys2Proof.Machine.execMlSsSetup pk s
  | .mlSysstart pk => Sys2Proof.Machine.execMlSysstart pk s
  | .mlPeer pk => Sys2Proof.Machine.execMlPeer pk s
  | .mlStatus pk => Sys2Proof.Machine.execMlStatus pk s
  | .ctxLoad pk => Sys2Proof.Machine.execCtxLoad pk s
  | .ctxStart pk => Sys2Proof.Machine.execCtxStart pk s
  | .ctxStop pk => Sys2Proof.Machine.execCtxStop pk s
  | .ctxStatus pk => Sys2Proof.Machine.execCtxStatus pk s
  | .ctxPost pk => Sys2Proof.Machine.execCtxPost pk s
  | .ctxLower pk => Sys2Proof.Machine.execCtxLower pk s
  | .fwVersion pk => Sys2Proof.Machine.execFwVersion pk s
  | .fwPatch pk => Sys2Proof.Machine.execFwPatch pk s
  | .calRead pk => Sys2Proof.Machine.execCalRead pk s
  | .calWrite pk => Sys2Proof.Machine.execCalWrite pk s
  | .faultRead pk => Sys2Proof.Machine.execFaultRead pk s
  | .faultAck pk => Sys2Proof.Machine.execFaultAck pk s
  | .startRead pk => Sys2Proof.Machine.execStartRead pk s
  | .mgmtRead f => Sys2Proof.Machine.execMgmtRead f s
  | .mgmtWrite f => Sys2Proof.Machine.execMgmtWrite f s
  | .mgmtNop f => Sys2Proof.Machine.execMgmtNop f s
  | .mbDataWrite m box n v => Sys2Proof.Machine.execMbDataWrite m box n v s
  | .mbGoSet m box => Sys2Proof.Machine.execMbGoSet m box s
  | .mbDone m box => Sys2Proof.Machine.execMbDone m box s
  | .mbCfgWrite m box v => Sys2Proof.Machine.execMbCfgWrite m box v s
  | .mbxClrCnt m => Sys2Proof.Machine.execMbxClrCnt m s
  | .lockRead m lock => Sys2Proof.Machine.execLockRead m lock s
  | .lockRelease m lock => Sys2Proof.Machine.execLockRelease m lock s
  | .lockClrCnt m => Sys2Proof.Machine.execLockClrCnt m s
  | .intPendSet m n v => Sys2Proof.Machine.execIntPendSet m n v s
  | .intPendClr m n v => Sys2Proof.Machine.execIntPendClr m n v s
  | .intEnSet m n v => Sys2Proof.Machine.execIntEnSet m n v s
  | .intEnClr m n v => Sys2Proof.Machine.execIntEnClr m n v s
  | .intRouteWrite m src v => Sys2Proof.Machine.execIntRouteWrite m src v s
  | .prvPendSet m e v => Sys2Proof.Machine.execPrvPendSet m e v s
  | .hostEoi m src => Sys2Proof.Machine.execHostEoi m src s
  | .supClaim m => Sys2Proof.Machine.execSupClaim m s
  | .supEoi m src => Sys2Proof.Machine.execSupEoi m src s
  | .vectorIssue vec ts => Sys2Proof.Machine.execVectorIssue vec ts s
  | .sleepIntent e => Sys2Proof.Machine.execSleepIntent e s
  | .vectorUnmask vec ts => Sys2Proof.Machine.execVectorUnmask vec ts s
  | .vecModWrite m vec v => Sys2Proof.Machine.execVecModWrite m vec v s
  | .intClrCnt m => Sys2Proof.Machine.execIntClrCnt m s
  | .dmaTail m c v => Sys2Proof.Machine.execDmaTail m c v s
  | .descriptorFetch c ts => Sys2Proof.Machine.execDescriptorFetch c ts s
  | .copy c ts => Sys2Proof.Machine.execCopy c ts s
  | .fillDescriptor c ts => Sys2Proof.Machine.execFillDescriptor c ts s
  | .compare c ts => Sys2Proof.Machine.execCompare c ts s
  | .command c ts => Sys2Proof.Machine.execCommand c ts s
  | .dmaBurst c ts => Sys2Proof.Machine.execDmaBurst c ts s
  | .descriptorComplete c ts => Sys2Proof.Machine.execDescriptorComplete c ts s
  | .dmaHalt c h ts => Sys2Proof.Machine.execDmaHalt c h ts s
  | .dmaEnWrite m c on => Sys2Proof.Machine.execDmaEnWrite m c on s
  | .pause m c on => Sys2Proof.Machine.execPause m c on s
  | .resume m c => Sys2Proof.Machine.execResume m c s
  | .skip m c => Sys2Proof.Machine.execSkip m c s
  | .dmaRingWrite m c r v => Sys2Proof.Machine.execDmaRingWrite m c r v s
  | .dmaClrCnt m => Sys2Proof.Machine.execDmaClrCnt m s
  | .scrubRead mem idx outcome ts => Sys2Proof.Machine.execScrubRead mem idx outcome ts s
  | .tileSpare t ts => Sys2Proof.Machine.execTileSpare t ts s
  | .spareRelease t ts => Sys2Proof.Machine.execSpareRelease t ts s
  | .fltAckWrite m v => Sys2Proof.Machine.execFltAckWrite m v s
  | .idcode => Sys2Proof.Machine.execIdcode s
  | .bypass => Sys2Proof.Machine.execBypass s
  | .samplePreload preload => Sys2Proof.Machine.execSamplePreload preload s
  | .extest => Sys2Proof.Machine.execExtest s
  | .clamp => Sys2Proof.Machine.execClamp s
  | .highz => Sys2Proof.Machine.execHighz s
  | .engDebug write => Sys2Proof.Machine.execEngDebug write s
  | .angleInterpolation d ts => Sys2Proof.Machine.execAngleInterpolation d ts s
  | .phaseLeadingEdge d ts => Sys2Proof.Machine.execPhaseLeadingEdge d ts s
  | .ackNakReceive k nak seq => Sys2Proof.Machine.execAckNakReceive k nak seq s
  | .perstRelease => Sys2Proof.Machine.execPerstRelease s
  | .pcieLinkTrained => Sys2Proof.Machine.execPcieLinkTrained s
  | .vddAoLoss => Sys2Proof.Machine.execVddAoLoss s
  | .tapReset => Sys2Proof.Machine.execTapReset s
  | .droppedRead m off width => Sys2Proof.Machine.execDroppedRead m off width s

end Sys2Proof.Machine
end

