-- ==== Sys2Proof/WellFormed.lean ====
section
/-! DEFINITION. Which commands are well formed: the bounds that the operand types do not already carry. -/

namespace Sys2Proof

/-- A packet carries at most 254 parameter words, and at most 14 through a mailbox (R313). -/
def Packet.wellFormed (pk : Packet) : Bool :=
  match pk.path with
  | .hostBox _ | .supBox _ => decide (pk.params.length ≤ 14)
  | .ring _ | .task _ => decide (pk.params.length ≤ 254)

/-- A Mortar frame carries at most 18 payload words, a 4-bit type and 9-bit device numbers (R278). -/
def MFrame.wellFormed (f : MFrame) : Bool :=
  decide (f.payload.length ≤ 18) && decide (f.ty < 16) && decide (f.src < 512) && decide (f.dst < 512) && decide (f.hops < 16)

/-- An MBOX message carries 1 to 16 data words (R291). -/
def PeerFrame.wellFormed (f : PeerFrame) : Bool :=
  match f.op with
  | .data ws => decide (1 ≤ ws.length ∧ ws.length ≤ 16)
  | _ => true

/-- The command that a row names, if it is a packet of R319: its opcode and the packet. -/
def rowCommand : Instr → Option (Nat × Packet)
  | .nop pk => some (0x0000, pk) | .devInfo pk => some (0x0001, pk) | .echo pk => some (0x0002, pk)
  | .unitGet pk => some (0x0003, pk) | .unitSet pk => some (0x0004, pk) | .unitOwn pk => some (0x0005, pk)
  | .accerrRead pk => some (0x0006, pk) | .pwrBudget pk => some (0x0100, pk) | .pwrShare pk => some (0x0101, pk)
  | .pwrTherm pk => some (0x0102, pk) | .pwrState pk => some (0x0103, pk) | .pwrStatus pk => some (0x0104, pk)
  | .tileChCfg pk => some (0x0200, pk) | .tileChUpdate pk => some (0x0201, pk) | .tileStart pk => some (0x0202, pk)
  | .tileStop pk => some (0x0203, pk) | .tileRead pk => some (0x0204, pk) | .tileBridge pk => some (0x0205, pk)
  | .tileTrip pk => some (0x0206, pk) | .tileTripClr pk => some (0x0207, pk) | .tileFol pk => some (0x0208, pk)
  | .tileCtrl pk => some (0x0209, pk) | .pinCfg pk => some (0x020A, pk) | .domCfg pk => some (0x0300, pk)
  | .domPhteeth pk => some (0x0301, pk) | .domEnable pk => some (0x0302, pk) | .domRuntime pk => some (0x0303, pk)
  | .domPhm pk => some (0x0304, pk) | .domStatus pk => some (0x0305, pk) | .evArm pk => some (0x0400, pk)
  | .evCancel pk => some (0x0401, pk) | .evFlush pk => some (0x0402, pk) | .evPart pk => some (0x0403, pk)
  | .evCq pk => some (0x0404, pk) | .evEntry pk => some (0x0405, pk) | .evStatus pk => some (0x0406, pk)
  | .catWrite pk => some (0x0500, pk) | .catRead pk => some (0x0501, pk) | .catClear pk => some (0x0502, pk)
  | .logSetup pk => some (0x0503, pk) | .logStatus pk => some (0x0504, pk) | .portSetup pk => some (0x0600, pk)
  | .portScript pk => some (0x0601, pk) | .portEntry pk => some (0x0602, pk) | .portRun pk => some (0x0603, pk)
  | .portTt pk => some (0x0604, pk) | .portStop pk => some (0x0605, pk) | .portStatus pk => some (0x0606, pk)
  | .mlSetup pk => some (0x0700, pk) | .mlLink pk => some (0x0701, pk) | .mlSsSetup pk => some (0x0702, pk)
  | .mlSysstart pk => some (0x0703, pk) | .mlPeer pk => some (0x0704, pk) | .mlStatus pk => some (0x0705, pk)
  | .ctxLoad pk => some (0x0800, pk) | .ctxStart pk => some (0x0801, pk) | .ctxStop pk => some (0x0802, pk)
  | .ctxStatus pk => some (0x0803, pk) | .ctxPost pk => some (0x0804, pk) | .ctxLower pk => some (0x0805, pk)
  | .fwVersion pk => some (0x0900, pk) | .fwPatch pk => some (0x0901, pk) | .calRead pk => some (0x0A00, pk)
  | .calWrite pk => some (0x0A01, pk) | .faultRead pk => some (0x0B00, pk) | .faultAck pk => some (0x0B01, pk)
  | .startRead pk => some (0x0B02, pk)
  | _ => none

/-- The bounds of a command's operands. A task instruction is bounded by its word beside this (`TaskWf`, Decode). -/
def Instr.wellFormed (i : Instr) : Bool :=
  (match rowCommand i with | some (_, pk) => pk.wellFormed | none => true) &&
  (match i with
   | .registerWrite _ _ width _ => decide (width ≤ 8)
   | .droppedRead _ _ width => decide (width ≤ 8)
   | .frameReceive _ f _ => f.frame.wellFormed
   | .linkTrain _ peer _ => decide (peer.depth ≤ 15)
   | .peerMboxReceive f _ => f.wellFormed
   | .coldStart o => decide (o.badTiles.length ≤ 66)
   | .warmStart o => decide (o.badTiles.length ≤ 66)
   | .mcMemory _ addr _ => decide (addr < 0x400000)
   | .samplePreload preload => decide (preload.length ≤ 438)
   | _ => true)

end Sys2Proof
end

