-- ==== Sys2Proof/Safety.lean ====
section
/-! DEFINITION. What statements about steps are made of: that a step answers a next state, the canonical form of the
memories, and the areas of the state that a command may reach. -/

namespace Sys2Proof.Machine

/-- The outcome is a next state. -/
def Answers (o : Host.Outcome State Fault Refusal) : Prop := ∃ t, o = .next t

/-- The canonical form of a memory: addresses strictly rising, and no listed byte 0, which is what an unlisted one reads. -/
def Memory.wf (m : Mem) : Bool := SMap.wf 0 m

/-- Every memory of bytes is in its canonical form. -/
def State.memsWf (s : State) : Bool := Memory.wf s.taskMem && Memory.wf s.hostMem && Memory.wf s.logMem && Memory.wf s.scratch

/-! ## When a command acts -/

/-- The state that a write to register (n, i, j) finds: its cycle has come, and the island of its unit is awake (R17, R84). -/
def State.arrived (s : State) (n : RegName) (i j : Nat) : State := s.tick.wakeFor (RegKey.unit ⟨n, i, j⟩)

/-- A write of master m to register (n, i, j) acts: its instance is fitted, registers can be reached, and neither rights nor
ownership nor a hold refuses it (R2, R304, R308 to R311). -/
def State.lets (s : State) (m : Master) (n : RegName) (i j : Nat) : Bool :=
  let k : RegKey := ⟨n, i, j⟩
  !s.tick.keyAbsent k && decide (s.pstate < 3) && ((s.arrived n i j).refusal m k.unit k).isNone

/-- Context x issues an instruction with opcode op, which is fetched, dispatched, and runs the base image's microcode (R165, R170,
R216). -/
def State.starts (s : State) (x op : Nat) : Bool :=
  s.canIssue x && (s.accFault x .fetch (s.ctx x).pc.toNat 4 4).isNone && (s.startOf (x / 32) op true).isSome && s.isBase (x / 32) op

/-- The state in which an instruction of opcode op that context x issues acts: its cycle has come, and it is counted and charged. -/
def State.issued (s : State) (x op : Nat) : State := (s.countIssue x op).chargeOp x op

/-- Registers of other names than those listed read alike in both states. -/
def State.keeps (s t : State) (l : List RegName) : Prop := ∀ n i j, n ∉ l → t.rd n i j = s.rd n i j

/-- From s to t nothing changes but registers of the names listed. -/
def State.onlyRegs (s t : State) (l : List RegName) : Prop := t = { s with regs := t.regs } ∧ s.keeps t l

/-- What a counted access error changes: the error registers, and source 191 (R306). -/
def accRegs : List RegName := [.sysAccerr, .sysAccerrAddr, .sysAccerrSrc, .intPendSet, .vecStat, .intErr]

/-- The register that a row writes whose write goes by the rights of its master alone: master and register. -/
def gateOf : Instr → Option (Master × RegName × Nat × Nat)
  | .sysClrCnt m => some (m, .sysCtrl, 0, 0)
  | .sysCmdMboxWrite m _ => some (m, .sysCmdMbox, 0, 0)
  | .followerEnable m t f _ => some (m, .folCtrl, t, f)
  | .chCtrlWrite m g _ => some (m, .chCtrl, (tileOf g), (chOf g))
  | .calPartWrite m d _ => some (m, .calPart, d, 0)
  | .cqRdWrite m d _ => some (m, .calCqRd, d, 0)
  | .cqConfigWrite m d size _ => some (m, (if size then .calCqSize else .calCqBase), d, 0)
  | .calClrCnt m => some (m, .calCtrl, 0, 0)
  | .ctxCmdStart m x => some (m, .ctxCmd, (x / 32), (x % 32))
  | .ctxCmdStop m x => some (m, .ctxCmd, (x / 32), (x % 32))
  | .dmaTail m c _ => some (m, .dmaTail, c, 0)
  | .dmaEnWrite m c _ => some (m, .dmaCtrl, c, 0)
  | .pause m c _ => some (m, .dmaCtrl, c, 0)
  | .resume m c => some (m, .dmaCtrl, c, 0)
  | .skip m c => some (m, .dmaCtrl, c, 0)
  | .dmaRingWrite m c r _ => some (m, (ringReg r), c, 0)
  | .dmaClrCnt m => some (m, .dmaGctrl, 0, 0)
  | .domainEnable m d => some (m, .domCtrl, d, 0)
  | .domainDisable m d => some (m, .domCtrl, d, 0)
  | .domClrCnt m d => some (m, .domCtrl, d, 0)
  | .clrStats m => some (m, .droneCtrl, 0, 0)
  | .govBudgetWrite m _ => some (m, .govBudgetMw, 0, 0)
  | .govClrCnt m => some (m, .govCtrl, 0, 0)
  | .mbxClrCnt m => some (m, .mbxCtrl, 0, 0)
  | .lockRelease m lock => some (m, .lockRel, lock, 0)
  | .lockClrCnt m => some (m, .lockCtrl, 0, 0)
  | .catalogueWord0Write m sig _ => some (m, .catW0, sig, 0)
  | .catalogueWord12Write m sig word2 _ => some (m, (if word2 then .catW2 else .catW1), sig, 0)
  | .logRingWrite m _ => some (m, .logRing, 0, 0)
  | .logRdWrite m _ => some (m, .logRd, 0, 0)
  | .logClrCnt m => some (m, .logCtrl, 0, 0)
  | .logCtrlWrite m _ => some (m, .logCtrl, 0, 0)
  | .logThreshWrite m _ => some (m, .logThresh, 0, 0)
  | .fltAckWrite m _ => some (m, .fltAck, 0, 0)
  | .clrStrat m => some (m, .startCtrl, 0, 0)
  | .clrCounts m => some (m, .startCtrl, 0, 0)
  | .mlCtrlEnable m => some (m, .mlCtrl, 0, 0)
  | .mlClrCnt m => some (m, .mlCtrl, 0, 0)
  | .sysstartSend m _ => some (m, .mlSsGo, 0, 0)
  | .mlMsgqPop m => some (m, .mlMsgqPop, 0, 0)
  | .portTtWrite m p r _ => some (m, (ttReg r), p, 0)
  | .portCfgWrite m p r _ => some (m, (portCfgReg r), p, 0)
  | .portAbort m p => some (m, .portCtrl, p, 0)
  | .portFlush m p => some (m, .portCtrl, p, 0)
  | .portClrCnt m p => some (m, .portCtrl, p, 0)
  | .portScriptWrite m p w _ => some (m, .portScript, p, w)
  | .portDmemPtrWrite m p _ => some (m, .portDmemPtr, p, 0)
  | .tileStartWrite m t _ => some (m, .tileStart, t, 0)
  | .tileStopWrite m t _ => some (m, .tileStop, t, 0)
  | .tileStartArm m t _ => some (m, .tileStartArm, t, 0)
  | .tileCommit m t _ => some (m, .tileCommit, t, 0)
  | .tileClrCnt m t => some (m, .tileCtrl, t, 0)
  | .brCtrlWrite m t pair _ => some (m, .brCtrl, t, pair)
  | .tripClear m t _ => some (m, .tripStat, t, 0)
  | .tripLvlWrite m t _ => some (m, .tripLvl, t, 0)
  | .pmPinWrite m pin _ => some (m, .pmPin, pin, 0)
  | _ => none

/-! ## Commands -/

/-- A packet comes on a host channel that may take it and whose mailbox is drained, wants its reply, and passes the checks of R316
for a command that is listed under op. -/
def State.carries (s : State) (op : Nat) (pk : Packet) (k : Fin 16) : Prop :=
  pk.path = .hostBox k ∧ pk.wait = false ∧ pk.quiet = false ∧ s.mayTake pk.path k = true ∧ s.go (inBox k) = false ∧
    ∃ c, cmdOf op = some c ∧ s.cmdCheck c op pk false = none

/-- The outcome is state u with an answer queued on host channel k as the reply to the packet (R314, R318). -/
def Replied (o : Host.Outcome State Fault Refusal) (u : State) (op : Nat) (pk : Packet) (k : Fin 16) (a : Answer) : Prop :=
  o = .next (u.queueReply k (replyWords a false pk.tag op))

/-! ## Areas -/

/-- An area of the state: the registers of some blocks, and what the State holds for them beyond. -/
inductive Area where
  /-- The fuses: which part it is. -/
  | fuse
  /-- The Drone master count. -/
  | time
  /-- The power-state request, wakes and the always-on domain. -/
  | power
  /-- The Drone block. -/
  | drone
  /-- What reads and the management path last returned. -/
  | bus
  /-- Tiles: channels, bridges, trips, followers, slots. -/
  | tile
  /-- The pin matrix and the input filters. -/
  | pins
  /-- Angle domains. -/
  | dom
  /-- The calendar and its entries. -/
  | cal
  /-- The signal log and the catalogue. -/
  | log
  /-- Ports. -/
  | port
  /-- Engines and contexts. -/
  | chanter
  /-- The Governor. -/
  | gov
  /-- Fault records, scrubbing and the start. -/
  | fault
  /-- DMA channels. -/
  | dma
  /-- Control stores and golden copies. -/
  | store
  /-- The test access port. -/
  | debug
  /-- Mortar and its links. -/
  | mortar
  /-- The SYS block and unit marks. -/
  | sys
  /-- Mailboxes and their replies. -/
  | mbox
  /-- The interrupt controller and WAKE#. -/
  | irq
  /-- The PCIe endpoint and host memory. -/
  | host
  /-- Long operations. -/
  | service
  /-- Task memory. -/
  | mem
  /-- The counter of free values. -/
  | free
  /-- The waiting commands. -/
  | queue
  /-- The hardware locks. -/
  | lock
  /-- The calibration page. -/
  | calib
  deriving DecidableEq, Repr

/-- The area that a block's registers belong to. -/
def Block.area : Block → Area
  | .sys => .sys
  | .drone => .drone
  | .tile => .tile
  | .pins => .pins
  | .dom => .dom
  | .cal | .entry => .cal
  | .chanter => .chanter
  | .gov => .gov
  | .log | .catalogue => .log
  | .port => .port
  | .mortar | .link => .mortar
  | .mbox => .mbox
  | .lock => .lock
  | .irq => .irq
  | .dma => .dma
  | .fault => .fault
  | .calib => .calib

/-- The area of a register. -/
def regArea (n : RegName) : Area := n.block.area

/-- The registers of an area. -/
def Regs.ofArea (a : Area) (m : Regs) : Regs := m.filter (fun e => decide (regArea e.1.name = a))

/-- What an area of the state holds: a state that is as at reset outside the area. -/
def State.part (a : Area) (s : State) : State :=
  match a with
  | .fuse => { variant := s.variant, ownerKey := s.ownerKey, ownerSign := s.ownerSign }
  | .time => { now := s.now }
  | .power => {
      aoRem := s.aoRem, aoEntry := s.aoEntry, pwrReq := s.pwrReq, waking := s.waking, aoAt := s.aoAt,
      scratch := s.scratch }
  | .drone => { copies := s.copies, beacon := s.beacon, trimmed := s.trimmed, stray := s.stray, regs := s.regs.ofArea .drone }
  | .bus => {
      latch := s.latch, lastRead := s.lastRead, barData := s.barData, readHi := s.readHi, mgmtResp := s.mgmtResp,
      mgmtOut := s.mgmtOut }
  | .tile => {
      chans := s.chans, bridges := s.bridges, trips := s.trips, slots := s.slots, fols := s.fols, stopAt := s.stopAt,
      folMiss := s.folMiss, switching := s.switching, holdSpan := s.holdSpan, launched := s.launched, spares := s.spares,
      regs := s.regs.ofArea .tile }
  | .pins => {
      padHold := s.padHold, pinStill := s.pinStill, clockStop := s.clockStop, stays := s.stays, pinIn := s.pinIn,
      unsensed := s.unsensed, lines := s.lines, edges := s.edges, regs := s.regs.ofArea .pins }
  | .dom => { doms := s.doms, regs := s.regs.ofArea .dom }
  | .cal => {
      entries := s.entries, calAnswer := s.calAnswer, calTurn := s.calTurn, calIssue := s.calIssue,
      regs := s.regs.ofArea .cal }
  | .log => {
      offers := s.offers, lastEv := s.lastEv, afterMark := s.afterMark, dropping := s.dropping, logQ := s.logQ,
      sigs := s.sigs, logRecs := s.logRecs, logLast := s.logLast, markAt := s.markAt, markSeq := s.markSeq,
      sampler := s.sampler, logMem := s.logMem, regs := s.regs.ofArea .log }
  | .port => { portX := s.portX, badScript := s.badScript, regs := s.regs.ofArea .port }
  | .chanter => { gpr := s.gpr, ctxs := s.ctxs, lastIssue := s.lastIssue, cycleAt := s.cycleAt, regs := s.regs.ofArea .chanter }
  | .gov => {
      govFine := s.govFine, govRem := s.govRem, admits := s.admits, unsettled := s.unsettled, settledAt := s.settledAt,
      drawNow := s.drawNow, drawPast := s.drawPast, busyAt := s.busyAt, courseAt := s.courseAt, idleOff := s.idleOff,
      sensors := s.sensors, regs := s.regs.ofArea .gov }
  | .fault => {
      scrubPos := s.scrubPos, passCorr := s.passCorr, lockTimes := s.lockTimes, startWait := s.startWait,
      feedAt := s.feedAt, clrStrat := s.clrStrat, imageDigest := s.imageDigest, flashUp := s.flashUp, flashQuad := s.flashQuad,
      fltTotal := s.fltTotal, fltAcked := s.fltAcked, regs := s.regs.ofArea .fault }
  | .dma => { dmas := s.dmas, dmaLast := s.dmaLast, regs := s.regs.ofArea .dma }
  | .store => {
      micro := s.micro, dispatch := s.dispatch, golden := s.golden, goldenDispatch := s.goldenDispatch,
      goldenLost := s.goldenLost, patchEnd := s.patchEnd, heldChecks := s.heldChecks, repairs := s.repairs }
  | .debug => { jtag := s.jtag, boundary := s.boundary, scanned := s.scanned }
  | .mortar => {
      links := s.links, routes := s.routes, msgQ := s.msgQ, parked := s.parked, slew := s.slew,
      coastAt := s.coastAt, slockQ := s.slockQ, regs := s.regs.ofArea .mortar }
  | .sys => { paused := s.paused, failed := s.failed, regs := s.regs.ofArea .sys }
  | .mbox => { goAt := s.goAt, goOld := s.goOld, replies := s.replies, regs := s.regs.ofArea .mbox }
  | .irq => {
      takenBy := s.takenBy, vecFirst := s.vecFirst, doneAt := s.doneAt, msixOn := s.msixOn, msixMask := s.msixMask,
      wakePin := s.wakePin, regs := s.regs.ofArea .irq }
  | .host => { epUp := s.epUp, subsys := s.subsys, hostLink := s.hostLink, d3hot := s.d3hot, hostMem := s.hostMem }
  | .service => { longOps := s.longOps, longNext := s.longNext }
  | .mem => { taskMem := s.taskMem, badTm := s.badTm }
  | .free => { freeCtr := s.freeCtr }
  | .queue => { pending := s.pending }
  | .lock => { regs := s.regs.ofArea .lock }
  | .calib => { regs := s.regs.ofArea .calib }

end Sys2Proof.Machine
end

