-- ==== Sys2Proof/Certificates/Slice0/Obligations.lean ====
section
/-! DEFINITION. The statements for the provers. -/

open Sys2Proof Sys2Proof.Machine

/-- The instructions of three registers write their result and its flags, and go on; a shift uses rt[4:0] (R174). A division by
0 gives 0 and sets V; 0x8000_0000 divided by -1 gives 0x8000_0000 and sets V; any other signed quotient is truncated towards 0
and clears V. -/
def Obligations.TaskRegisterResults : Prop :=
  (∀ (x : Fin 128) (rd rs rt : GReg) (s : State),
     let a := s.g x rs
     let b := s.g x rt
     let p := s.psw x
     let k := getF b 0 5
     let u := s.issued x
     (s.starts x 0x01 → exec (.add x rd rs rt) s = .next ((u 0x01).result x rd (a + b) (flagsAdd p a b))) ∧
     (s.starts x 0x02 → exec (.sub x rd rs rt) s = .next ((u 0x02).result x rd (a - b) (flagsSub p a b))) ∧
     (s.starts x 0x03 → exec (.and x rd rs rt) s = .next ((u 0x03).result x rd (a &&& b) (flagsZN p (a &&& b)))) ∧
     (s.starts x 0x04 → exec (.or x rd rs rt) s = .next ((u 0x04).result x rd (a ||| b) (flagsZN p (a ||| b)))) ∧
     (s.starts x 0x05 → exec (.xor x rd rs rt) s = .next ((u 0x05).result x rd (a ^^^ b) (flagsZN p (a ^^^ b)))) ∧
     (s.starts x 0x06 → exec (.shl x rd rs rt) s = .next ((u 0x06).result x rd (a <<< k) (flagsShift p (a <<< k) (shl a k).2))) ∧
     (s.starts x 0x07 → exec (.shr x rd rs rt) s = .next ((u 0x07).result x rd (a >>> k) (flagsShift p (a >>> k) (shr a k).2))) ∧
     (s.starts x 0x08 → exec (.sar x rd rs rt) s =
       .next ((u 0x08).result x rd (a.sshiftRight k) (flagsShift p (a.sshiftRight k) (sar a k).2))) ∧
     (s.starts x 0x09 → exec (.mul x rd rs rt) s = .next ((u 0x09).result x rd (a * b) (flagsZN p (a * b)))) ∧
     (s.starts x 0x0A → exec (.mulh x rd rs rt) s =
       .next ((u 0x0A).result x rd (intW (a.toInt * b.toInt / 2 ^ 32)) (flagsZN p (intW (a.toInt * b.toInt / 2 ^ 32))))) ∧
     (s.starts x 0x0B → exec (.mulhu x rd rs rt) s =
       .next ((u 0x0B).result x rd (toW (a.toNat * b.toNat / 2 ^ 32)) (flagsZN p (toW (a.toNat * b.toNat / 2 ^ 32))))) ∧
     (s.starts x 0x0C → exec (.div x rd rs rt) s = .next ((u 0x0C).result x rd (divS a b).1 (putB (flagsZN p (divS a b).1) psV (divS a b).2))) ∧
     (s.starts x 0x0D → exec (.divu x rd rs rt) s = .next ((u 0x0D).result x rd (divU a b).1 (putB (flagsZN p (divU a b).1) psV (divU a b).2))) ∧
     (s.starts x 0x0E → exec (.min x rd rs rt) s =
       .next ((u 0x0E).result x rd (if a.toInt ≤ b.toInt then a else b) (flagsZN p (if a.toInt ≤ b.toInt then a else b)))) ∧
     (s.starts x 0x0F → exec (.max x rd rs rt) s =
       .next ((u 0x0F).result x rd (if a.toInt ≤ b.toInt then b else a) (flagsZN p (if a.toInt ≤ b.toInt then b else a))))) ∧
  (∀ (a b : Word),
     (b = 0 → divS a b = (0, true) ∧ divU a b = (0, true)) ∧
     (a = 0x80000000 → b = 0xFFFFFFFF → divS a b = (0x80000000, true)) ∧
     (b ≠ 0 → ¬(a = 0x80000000 ∧ b = 0xFFFFFFFF) →
       (divS a b).2 = false ∧ (divS a b).1.toInt = a.toInt.tdiv b.toInt) ∧
     (b ≠ 0 → (divU a b).2 = false ∧ (divU a b).1.toNat = a.toNat / b.toNat))

/-- The instructions with an immediate: results, flags and moves; an immediate shift with imm[15:5] not 0 does not fit (R173,
R174). The compares set the flags of a subtraction and write no register (R174). -/
def Obligations.TaskImmediatesAndCompares : Prop :=
  (∀ (x : Fin 128) (rd rs : GReg) (imm : BitVec 16) (s : State),
     let a := s.g x rs
     let z := imm.setWidth 32
     let p := s.psw x
     let u := s.issued x
     (s.starts x 0x11 → exec (.addi x rd rs imm) s =
       .next ((u 0x11).result x rd (a + imm.signExtend 32) (flagsAdd p a (imm.signExtend 32)))) ∧
     (s.starts x 0x13 → exec (.andi x rd rs imm) s = .next ((u 0x13).result x rd (a &&& z) (flagsZN p (a &&& z)))) ∧
     (s.starts x 0x14 → exec (.ori x rd rs imm) s = .next ((u 0x14).result x rd (a ||| z) (flagsZN p (a ||| z)))) ∧
     (s.starts x 0x15 → exec (.xori x rd rs imm) s = .next ((u 0x15).result x rd (a ^^^ z) (flagsZN p (a ^^^ z)))) ∧
     (s.starts x 0x16 → imm.toNat < 32 → exec (.shli x rd rs imm) s =
       .next ((u 0x16).result x rd (a <<< imm.toNat) (flagsShift p (a <<< imm.toNat) (shl a imm.toNat).2))) ∧
     (s.starts x 0x17 → imm.toNat < 32 → exec (.shri x rd rs imm) s =
       .next ((u 0x17).result x rd (a >>> imm.toNat) (flagsShift p (a >>> imm.toNat) (shr a imm.toNat).2))) ∧
     (s.starts x 0x18 → imm.toNat < 32 → exec (.sari x rd rs imm) s =
       .next ((u 0x18).result x rd (a.sshiftRight imm.toNat) (flagsShift p (a.sshiftRight imm.toNat) (sar a imm.toNat).2))) ∧
     (s.starts x 0x1C → exec (.movi x rd imm) s = .next (((u 0x1C).setG x rd (imm.signExtend 32)).advance x)) ∧
     (s.starts x 0x1D → exec (.movhi x rd imm) s = .next (((u 0x1D).setG x rd (z <<< 16)).advance x)) ∧
     (s.starts x 0x1E → exec (.mov x rd rs) s = .next (((u 0x1E).setG x rd a).advance x))) ∧
  (∀ (x : Fin 128) (rs rt : GReg) (imm : BitVec 16) (s : State),
     (s.starts x 0x10 → exec (.cmp x rs rt) s = .next ((s.issued x 0x10).onCtx x (fun c =>
       { c with psw := flagsSub c.psw (s.g x rs) (s.g x rt), pc := c.pc + 4 }))) ∧
     (s.starts x 0x1A → exec (.cmpi x rs imm) s = .next ((s.issued x 0x1A).onCtx x (fun c =>
       { c with psw := flagsSub c.psw (s.g x rs) (imm.signExtend 32), pc := c.pc + 4 }))))

/-- The flags of an addition and a subtraction, of ADD, ADDI, SUB, CMP and CMPI: Z and N of the result, C the carry out of bit
31 (after a subtraction 1 when there is no borrow), V where the signed result does not fit; every other bit of PSW stays. -/
def Obligations.FlagRules : Prop :=
  ∀ (p a b : Word),
    (getB (flagsAdd p a b) 0 = decide (a + b = 0) ∧ getB (flagsAdd p a b) 1 = (a + b).msb ∧
      getB (flagsAdd p a b) 2 = decide (2 ^ 32 ≤ a.toNat + b.toNat) ∧
      getB (flagsAdd p a b) 3 = decide ((a + b).toInt ≠ a.toInt + b.toInt)) ∧
    (getB (flagsSub p a b) 0 = decide (a = b) ∧ getB (flagsSub p a b) 1 = (a - b).msb ∧
      getB (flagsSub p a b) 2 = decide (b.toNat ≤ a.toNat) ∧
      getB (flagsSub p a b) 3 = decide ((a - b).toInt ≠ a.toInt - b.toInt)) ∧
    (∀ i, 4 ≤ i → getB (flagsAdd p a b) i = getB p i ∧ getB (flagsSub p a b) i = getB p i) ∧
    getB (flagsSub p a b) 2 = decide (2 ^ 32 ≤ a.toNat + (~~~b).toNat + 1) ∧ a - b = a + ~~~b + 1 ∧
    (∀ (x : Fin 128) (rd rs rt : GReg) (imm : BitVec 16) (s : State),
      let sets := fun (o : Host.Outcome State Fault Refusal) (w : Word) => ∃ t, o = .next t ∧ t.psw x = w
      (s.starts x 0x01 → sets (exec (.add x rd rs rt) s) (flagsAdd (s.psw x) (s.g x rs) (s.g x rt))) ∧
      (s.starts x 0x11 → sets (exec (.addi x rd rs imm) s) (flagsAdd (s.psw x) (s.g x rs) (imm.signExtend 32))) ∧
      (s.starts x 0x02 → sets (exec (.sub x rd rs rt) s) (flagsSub (s.psw x) (s.g x rs) (s.g x rt))) ∧
      (s.starts x 0x10 → sets (exec (.cmp x rs rt) s) (flagsSub (s.psw x) (s.g x rs) (s.g x rt))) ∧
      (s.starts x 0x1A → sets (exec (.cmpi x rs imm) s) (flagsSub (s.psw x) (s.g x rs) (imm.signExtend 32))) ∧
      (s.starts x 0x45 → s.psw x = flagsSub p a b → ∃ t, exec (.bltu x imm) s = .next t ∧
        (t.ctx x).pc = (s.ctx x).pc + 4 + if a.toNat < b.toNat then imm.signExtend 32 * 4 else 0))

/-- Special registers: MFS reads each of S0 to S8, and MTS writes SP, PSW, CAUSE and PROG as the privilege allows; a number
above S8 faults with ILLEGAL, and PROG without privilege 0 with PRIV (R167). -/
def Obligations.SpecialRegisters : Prop :=
  ∀ (x : Fin 128) (rd rs : GReg) (s : State),
    let u := s.issued x
    let c := s.ctx x
    let now := (u 0x20).waitClock x
    (s.starts x 0x20 →
      (exec (.mfs x rd 0) s = .next (((u 0x20).setG x rd c.pc).advance x) ∧
       exec (.mfs x rd 1) s = .next (((u 0x20).setG x rd c.sp).advance x) ∧
       exec (.mfs x rd 2) s = .next (((u 0x20).setG x rd (s.psw x)).advance x) ∧
       exec (.mfs x rd 3) s = .next (((u 0x20).setG x rd c.cause).advance x) ∧
       exec (.mfs x rd 4) s = .next (((u 0x20).setG x rd c.prog).advance x) ∧
       exec (.mfs x rd 5) s = .next (((u 0x20).setG x rd (toW x)).advance x) ∧
       exec (.mfs x rd 6) s = .next ((((u 0x20).setLatch (2 + x) (hiW now)).setG x rd (loW now)).advance x) ∧
       exec (.mfs x rd 7) s = .next (((u 0x20).setG x rd (s.latchOf (2 + x))).advance x) ∧
       exec (.mfs x rd 8) s = .next (((u 0x20).setG x rd (toW c.evq.length)).advance x)) ∧
      ∀ imm : BitVec 16, 9 ≤ imm.toNat → exec (.mfs x rd imm) s = .next ((u 0x20).raiseFault x fcIllegal)) ∧
    (s.starts x 0x21 →
      (exec (.mts x rs 1) s = .next (((u 0x21).onCtx x (fun c => { c with sp := s.g x rs })).advance x) ∧
       exec (.mts x rs 2) s = .next (((u 0x21).writePsw x (s.g x rs)).advance x) ∧
       (s.privOf x = 0 → exec (.mts x rs 3) s = .next (((u 0x21).onCtx x (fun c => { c with cause := s.g x rs })).advance x)) ∧
       (s.privOf x ≠ 0 → exec (.mts x rs 3) s = .next ((u 0x21).advance x)) ∧
       (s.privOf x = 0 → exec (.mts x rs 4) s = .next (((u 0x21).onCtx x (fun c => { c with prog := s.g x rs })).advance x)) ∧
       (s.privOf x ≠ 0 → exec (.mts x rs 4) s = .next ((u 0x21).raiseFault x fcPriv)) ∧
       (∀ imm : BitVec 16, 5 ≤ imm.toNat → imm.toNat ≤ 8 → exec (.mts x rs imm) s = .next ((u 0x21).advance x)) ∧
       (∀ imm : BitVec 16, imm.toNat = 0 ∨ 9 ≤ imm.toNat → exec (.mts x rs imm) s = .next ((u 0x21).raiseFault x fcIllegal))))

/-- Loads: where the bytes are granted, aligned and correctable, the value is on its way to rd, sign- or zero-extended by the
instruction (R170, R173). The reply of a fabric request writes the registers it brings, SP and PC, and the context may issue
again (R166). The model's own choices in it: log entry 36. -/
def Obligations.LoadsAndReplies : Prop :=
  (∀ (x : Fin 128) (rd rs : GReg) (imm : BitVec 16) (s : State),
     let a := (s.g x rs + imm.signExtend 32).toNat
     let ok := fun (n : Nat) => s.accFault x .load a n n = none ∧ s.badWordIn a n = none
     let done := fun (op : Nat) (w : Word) => (.next ((s.issued x op).onCtx x (fun c =>
       { c with out := some { regs := [(rd, w)], pc := c.pc + 4 } })) : Host.Outcome State Fault Refusal)
     (s.starts x 0x30 → ok 4 → exec (.ldw x rd rs imm) s = done 0x30 (s.taskMem.word a)) ∧
     (s.starts x 0x31 → ok 2 → exec (.ldh x rd rs imm) s = done 0x31 (sxW 16 (s.taskMem.half a))) ∧
     (s.starts x 0x32 → ok 2 → exec (.ldhu x rd rs imm) s = done 0x32 (toW (s.taskMem.half a))) ∧
     (s.starts x 0x33 → ok 1 → exec (.ldb x rd rs imm) s = done 0x33 ((s.taskMem.byte a).signExtend 32)) ∧
     (s.starts x 0x34 → ok 1 → exec (.ldbu x rd rs imm) s = done 0x34 ((s.taskMem.byte a).setWidth 32)) ∧
     (s.starts x 0x3D → s.accFault x .load (s.ctx x).sp.toNat 4 4 = none → s.badWordIn (s.ctx x).sp.toNat 4 = none →
       exec (.pop x rd) s = .next ((s.issued x 0x3D).onCtx x (fun c => { c with
         out := some { regs := [(rd, s.taskMem.word c.sp.toNat)], sp := some (c.sp + 4), pc := c.pc + 4 } })))) ∧
  (∀ (x : Fin 128) (ts : Stamp) (r : Reply) (s : State), s.pstate < 3 → (s.ctx x).out = some r → r.sysLock = none →
     (s.ctx x).stopping = false → s.halted (x / 32) = false →
     ∃ t, exec (.fabricReply x ts) s = .next t ∧ (t.ctx x).out = none ∧ (t.ctx x).pc = r.pc ∧
       (t.ctx x).sp = r.sp.getD (s.ctx x).sp ∧ (t.ctx x).psw = (s.ctx x).psw ∧
       (∀ rd w, r.regs = [(rd, w)] → t.g x rd = w ∧ ∀ q, q ≠ rd → t.g x q = s.g x q) ∧
       (r.regs = [] → ∀ q, t.g x q = s.g x q) ∧ t.taskMem = s.taskMem)

/-- Stores: where the bytes are granted and aligned, they hold the low bytes of rd, the lowest first, and every other byte of
task memory stays; PUSH stores at SP - 4 and moves SP there (R170, R171, R173). -/
def Obligations.Stores : Prop :=
  ∀ (x : Fin 128) (rd rs : GReg) (imm : BitVec 16) (s : State),
    let a := (s.g x rs + imm.signExtend 32).toNat
    let w := s.g x rd
    let ok := fun (n : Nat) => s.accFault x .store a n n = none
    (s.starts x 0x38 → ok 4 → ∃ t, exec (.stw x rd rs imm) s = .next t ∧ (t.ctx x).pc = (s.ctx x).pc + 4 ∧
      (∀ i, i < 4 → t.taskMem.byte (a + i) = byteOf w i) ∧
      (∀ c, c < a ∨ a + 4 ≤ c → t.taskMem.byte c = s.taskMem.byte c) ∧ t.gpr = s.gpr) ∧
    (s.starts x 0x39 → ok 2 → ∃ t, exec (.sth x rd rs imm) s = .next t ∧ (t.ctx x).pc = (s.ctx x).pc + 4 ∧
      (∀ i, i < 2 → t.taskMem.byte (a + i) = byteOf w i) ∧
      (∀ c, c < a ∨ a + 2 ≤ c → t.taskMem.byte c = s.taskMem.byte c) ∧ t.gpr = s.gpr) ∧
    (s.starts x 0x3A → ok 1 → ∃ t, exec (.stb x rd rs imm) s = .next t ∧ (t.ctx x).pc = (s.ctx x).pc + 4 ∧
      t.taskMem.byte a = byteOf w 0 ∧ (∀ c, c ≠ a → t.taskMem.byte c = s.taskMem.byte c) ∧ t.gpr = s.gpr) ∧
    (let b := (s.ctx x).sp - 4
     s.starts x 0x3C → s.accFault x .store b.toNat 4 4 = none → ∃ t, exec (.push x rd) s = .next t ∧
      (t.ctx x).sp = b ∧ (t.ctx x).pc = (s.ctx x).pc + 4 ∧ (∀ i, i < 4 → t.taskMem.byte (b.toNat + i) = byteOf w i) ∧
      (∀ c, c < b.toNat ∨ b.toNat + 4 ≤ c → t.taskMem.byte c = s.taskMem.byte c) ∧ t.gpr = s.gpr)

/-- An access that is not granted faults with WINDOW, a granted one that is not aligned with ALIGN; the instruction does nothing
else and PC stays on it (R166, R170, R205). WINDOW before ALIGN is the model's choice (log entry 35). -/
def Obligations.AccessFaults : Prop :=
  ∀ (x : Fin 128) (rd rs : GReg) (imm : BitVec 16) (s : State),
    let a := (s.g x rs + imm.signExtend 32).toNat
    let stop := fun (op code : Nat) => (.next ((s.issued x op).onCtx x (fun c =>
      { c with fault := some { code := code, pc := c.pc, addr := 0 } })) : Host.Outcome State Fault Refusal)
    (s.starts x 0x30 → s.grants x .load a 4 = false → exec (.ldw x rd rs imm) s = stop 0x30 0x10) ∧
    (s.starts x 0x30 → s.grants x .load a 4 = true → a % 4 ≠ 0 → exec (.ldw x rd rs imm) s = stop 0x30 0x11) ∧
    (s.starts x 0x32 → s.grants x .load a 2 = true → a % 2 ≠ 0 → exec (.ldhu x rd rs imm) s = stop 0x32 0x11) ∧
    (s.starts x 0x38 → s.grants x .store a 4 = false → exec (.stw x rd rs imm) s = stop 0x38 0x10) ∧
    (s.starts x 0x38 → s.grants x .store a 4 = true → a % 4 ≠ 0 → exec (.stw x rd rs imm) s = stop 0x38 0x11) ∧
    (s.starts x 0x39 → s.grants x .store a 2 = true → a % 2 ≠ 0 → exec (.sth x rd rs imm) s = stop 0x39 0x11)

/-- Branches: PC + 4 + 4 × simm where the condition holds, else PC + 4; CALL and CALLR push PC + 4, and RET takes it back
(R175). -/
def Obligations.Branches : Prop :=
  ∀ (x : Fin 128) (rs : GReg) (imm : BitVec 16) (s : State),
    let p := s.psw x
    let pc := (s.ctx x).pc
    let dest := pc + 4 + imm.signExtend 32 * 4
    let u := s.issued x
    let goes := fun (op : Nat) (b : Bool) => (.next (if b then ((u op).onCtx x (fun c => { c with pc := dest })).hold x 2
      else (u op).advance x) : Host.Outcome State Fault Refusal)
    let pushed := fun (op : Nat) (a : Word) => (.next (((u op).setTm ((s.ctx x).sp - 4).toNat (pc + 4)).onCtx x (fun c =>
      { c with sp := c.sp - 4, pc := a })) : Host.Outcome State Fault Refusal)
    let granted := s.accFault x .store ((s.ctx x).sp - 4).toNat 4 4 = none
    (s.starts x 0x40 → exec (.b x imm) s = goes 0x40 true) ∧
    (s.starts x 0x41 → exec (.beq x imm) s = goes 0x41 (getB p 0)) ∧
    (s.starts x 0x42 → exec (.bne x imm) s = goes 0x42 (!getB p 0)) ∧
    (s.starts x 0x43 → exec (.blt x imm) s = goes 0x43 (getB p 1 != getB p 3)) ∧
    (s.starts x 0x44 → exec (.bge x imm) s = goes 0x44 (getB p 1 == getB p 3)) ∧
    (s.starts x 0x45 → exec (.bltu x imm) s = goes 0x45 (!getB p 2)) ∧
    (s.starts x 0x46 → exec (.bgeu x imm) s = goes 0x46 (getB p 2)) ∧
    (s.starts x 0x48 → granted → exec (.call x imm) s = pushed 0x48 dest) ∧
    (s.starts x 0x4A → exec (.jr x rs) s = .next ((u 0x4A).onCtx x (fun c => { c with pc := s.g x rs }))) ∧
    (s.starts x 0x4B → granted → exec (.callr x rs) s = pushed 0x4B (s.g x rs)) ∧
    (s.starts x 0x49 → s.accFault x .load (s.ctx x).sp.toNat 4 4 = none → s.badWordIn (s.ctx x).sp.toNat 4 = none →
      exec (.ret x) s = .next ((u 0x49).onCtx x (fun c => { c with
        out := some { pc := s.taskMem.word c.sp.toNat, sp := some (c.sp + 4) } })))

/-- A WAIT without a timeout, at its first issue: it completes at once where its condition holds, with the registers the rule
gives, and else parks with PC on it; DELAY and ANGLE within the values that have a meaning, MBOX for a party of the mailbox,
LOCK for a local lock (R177, R178). WAIT_WAKE ends a WAIT whose condition holds, WAIT_TIMEOUT one whose deadline has passed
without it (R178). The model's own choices in it: log entries 39, 78. -/
def Obligations.Waits : Prop :=
  (∀ (x : Fin 128) (rd rs : GReg) (arg : BitVec 12) (s : State), s.monHere x = none →
     let a := s.g x rs
     let goes := fun (t : State) => t.ctxState x = 2 ∧ (t.ctx x).pc = (s.ctx x).pc + 4 ∧ (t.ctx x).prog = 0
     let parks := fun (t : State) => t.ctxState x = 3 ∧ (t.ctx x).pc = (s.ctx x).pc ∧ (t.monHere x).isSome ∧ t.gpr = s.gpr
     let u := s.issued x 0x50
     let now := u.waitClock x
     let lost := fun (k : Nat) => u.lockLost (.ctx x) k || u.lockNext (.ctx x) k
     s.starts x 0x50 →
     ((ns32 now - a).toNat < 2 ^ 31 → ∃ t, exec (.waitTime x rd rs 0) s = .next t ∧ goes t ∧ t.g x rd = 0) ∧
     (2 ^ 31 ≤ (ns32 now - a).toNat → ∃ t, exec (.waitTime x rd rs 0) s = .next t ∧ parks t) ∧
     (a = 0 → ∃ t, exec (.waitDelay x rd rs 0) s = .next t ∧ goes t ∧ t.g x rd = 0) ∧
     (a ≠ 0 → a.toNat < 2 ^ 31 → now.toNat + 16 * a.toNat < 2 ^ 64 → ∃ t, exec (.waitDelay x rd rs 0) s = .next t ∧ parks t ∧
       (t.monHere x).bind (·.deadline) = some (toS (now.toNat + 16 * a.toNat))) ∧
     (arg.toNat < s.domains → s.domState arg.toNat ≠ 3 →
       ∃ t, exec (.waitAngle x rd rs arg) s = .next t ∧ goes t ∧ t.g x rd = 2) ∧
     (arg.toNat < s.domains → s.domState arg.toNat = 3 → a.toNat * 65536 < s.cycleLen arg.toNat →
       ∃ t, exec (.waitAngle x rd rs arg) s = .next t ∧ parks t) ∧
     (∀ v tag r, (s.ctx x).evq = (v, tag) :: r → ∃ t, exec (.waitEvent x rd 0 0) s = .next t ∧ goes t ∧ t.g x rd = v ∧
       t.g x (rd + 1) = tag ∧ (t.ctx x).evq = r) ∧
     ((s.ctx x).evq = [] → ∃ t, exec (.waitEvent x rd 0 0) s = .next t ∧ parks t) ∧
     (arg.toNat < 128 → arg.toNat % 64 < 18 →
       (s.boxMine x arg.toNat = false → ∃ t, exec (.waitMbox x rd 0 arg) s = .next t ∧ goes t ∧ t.g x rd = 0x24) ∧
       (s.boxMine x arg.toNat = true → s.go (waitBox arg.toNat) ≠ arg.toNat.testBit 6 →
         ∃ t, exec (.waitMbox x rd 0 arg) s = .next t ∧ goes t ∧ t.g x rd = 0) ∧
       (s.boxMine x arg.toNat = true → s.go (waitBox arg.toNat) = arg.toNat.testBit 6 →
         ∃ t, exec (.waitMbox x rd 0 arg) s = .next t ∧ parks t)) ∧
     (arg.toNat < 256 →
       (s.rd .lockOwner arg.toNat = 0 → lost arg.toNat = false → ∃ t, exec (.waitLock x rd 0 arg) s = .next t ∧ goes t ∧
         t.g x rd = 0 ∧ t.rd .lockOwner arg.toNat = toW (5 + x * 256)) ∧
       (s.rd .lockOwner arg.toNat = 0 → lost arg.toNat = true → ∃ t, exec (.waitLock x rd 0 arg) s = .next t ∧ parks t ∧
         t.rd .lockOwner arg.toNat = 0) ∧
       (s.rd .lockOwner arg.toNat ≠ 0 → s.rd .lockOwner arg.toNat ≠ toW (5 + x * 256) →
         ∃ t, exec (.waitLock x rd 0 arg) s = .next t ∧ parks t ∧ t.rd .lockOwner arg.toNat = s.rd .lockOwner arg.toNat))) ∧
  (∀ (x : Fin 128) (ts : Stamp) (m : Monitor) (s : State), s.pstate < 3 → s.canWake x = true → s.monHere x = some m →
     (∀ regs u, (s.reachIn (islEngine (x / 32)) ts).waitMet x m = some (regs, u) → ∃ t, exec (.waitWake x ts) s = .next t ∧ t.ctxState x = 2 ∧
       (t.ctx x).pc = (s.ctx x).pc + 4 ∧ (t.ctx x).prog = 0) ∧
     ((s.reachIn (islEngine (x / 32)) ts).waitMet x m = none → (s.reachIn (islEngine (x / 32)) ts).timedOut x m = true → ∃ t, exec (.waitTimeout x ts) s = .next t ∧
       t.ctxState x = 2 ∧ (t.ctx x).pc = (s.ctx x).pc + 4 ∧
       (m.kind ≠ 3 → t.g x m.rd = 1) ∧ (m.kind = 3 → t.g x m.rd = 0 ∧ t.g x (m.rd + 1) = 0xF)))

/-- YIELD goes on; END enters DONE; a TRAP parks its context with PROG[31] set and its answer kept, or for an unknown call
number completes at once with OPCODE; LOWER changes class and priority only to less urgent ones, and
the class of local contexts 0 to 2 never (R165, R190, R207, R220). TRAP_ANSWER
hands a parked context its answer: status in G0, result in G1, and the context goes on (R207). The model's own choices in it:
log entries 37, 40. -/
def Obligations.TrapsAndEnd : Prop :=
  (∀ (x : Fin 128) (imm : BitVec 16) (s : State),
     let u := s.issued x
     let parked := fun (t : State) (call : Nat) => t.ctxState x = 3 ∧ (t.ctx x).pc = (s.ctx x).pc ∧
       (t.ctx x).prog = toW (2 ^ 31 + call)
     (s.starts x 0x51 → exec (.yield x) s = .next ((u 0x51).advance x)) ∧
     (s.starts x 0x52 → ∃ t r, exec (.endTask x) s = .next t ∧ t.ctxState x = 4 ∧ t.ctx x = { s.ctx x with readyAt := r }) ∧
     (s.starts x 0x53 → s.trapHere x = none →
       (∃ t, exec (.trapInfo x) s = .next t ∧ parked t 0x80 ∧
         (t.trapHere x).bind (·.answer) = some (0, toW (x + s.cf .ctxCtrl 4 2 x * 2 ^ 8 + s.cf .ctxCtrl 0 4 x * 2 ^ 12 +
           s.cf .ctxCtrl 6 2 x * 2 ^ 16))) ∧
       (∃ t, exec (.trapLimit x) s = .next t ∧ parked t 0x82 ∧
         (t.trapHere x).bind (·.answer) = some (0, toW (s.cf .ctxNointLim 0 12 x))) ∧
       (∃ t, exec (.trapLower x) s = .next t ∧ parked t 0x81 ∧
         (s.cf .ctxCtrl 4 2 x ≤ getF (s.g x 1) 0 2 → s.cf .ctxCtrl 0 4 x ≤ getF (s.g x 1) 4 4 →
           (3 ≤ x.val % 32 ∨ getF (s.g x 1) 0 2 = s.cf .ctxCtrl 4 2 x) → t.cf .ctxCtrl 4 2 x = getF (s.g x 1) 0 2 ∧ t.cf .ctxCtrl 0 4 x = getF (s.g x 1) 4 4) ∧
         (getF (s.g x 1) 0 2 < s.cf .ctxCtrl 4 2 x ∨ getF (s.g x 1) 4 4 < s.cf .ctxCtrl 0 4 x ∨
             (x.val % 32 < 3 ∧ getF (s.g x 1) 0 2 ≠ s.cf .ctxCtrl 4 2 x) →
           t.cr .ctxCtrl x = s.cr .ctxCtrl x)) ∧
       (∃ t, exec (.trapCmd x) s = .next t ∧ parked t 0 ∧
         (s.cmdBuffersOk x (s.g x 1).toNat (s.g x 2).toNat (s.g x 3).toNat = false →
           (t.trapHere x).bind (·.answer) = some (0x21, 0)) ∧
         (s.cmdBuffersOk x (s.g x 1).toNat (s.g x 2).toNat (s.g x 3).toNat = true →
           getF (s.tm (s.g x 1).toNat) 26 6 = 0 →
           (t.trapHere x).bind (·.pk) = some (packetOf (.task x) (s.taskMem.words (s.g x 1).toNat
             (2 + getF (s.tm (s.g x 1).toNat) 16 8)), getF (s.tm (s.g x 1).toNat) 0 16)))) ∧
     (s.starts x 0x53 → imm.toNat ∉ [0, 0x80, 0x81, 0x82] →
       exec (.trapUnknown x imm) s = .next (((u 0x53).setG x 0 0x22).advance x))) ∧
  (∀ (x : Fin 128) (ts : Stamp) (c : TrapCall) (st : Nat) (w : Word) (s : State), s.pstate < 3 → s.ctxState x = 3 →
     s.halted (x / 32) = false → s.trapHere x = some c → c.pk = none → c.answer = some (st, w) →
     ∃ t, exec (.trapAnswer x ts) s = .next t ∧ t.g x 0 = toW st ∧ t.g x 1 = w ∧ t.ctxState x = 2 ∧
       (t.ctx x).pc = (s.ctx x).pc + 4 ∧ (t.ctx x).prog = 0)

/-- The requests to other units: the answer is on its way to rd, and what was asked is done (R159, R176, R180 to R186). The
model's own choices in it: log entry 36. -/
def Obligations.TaskRequests : Prop :=
  ∀ (x : Fin 128) (rd rs : GReg) (imm : BitVec 16) (s : State),
    let u := s.issued x
    let a := s.g x rs
    let w := s.g x rd
    let gives := fun (v : State) (regs : List (GReg × Word)) => (.next (v.await x regs true) : Host.Outcome State Fault Refusal)
    let off := (s.g x rs + imm.signExtend 32).toNat
    (s.starts x 0x3E → (u 0x3E).regFault x off = none → exec (.regrd x rd rs imm) s =
      .next (((u 0x3E).busRead (.ctx x) off 4).2.await x [(rd, ((u 0x3E).busRead (.ctx x) off 4).1)])) ∧
    (s.starts x 0x3F → s.privOf x < 2 → (u 0x3F).regFault x off = none → exec (.regwr x rd rs imm) s =
      .next (((u 0x3F).busWrite (.ctx x) off 4 w).await x [])) ∧
    (s.starts x 0x3F → 2 ≤ s.privOf x → exec (.regwr x rd rs imm) s = .next ((u 0x3F).raiseFault x fcPriv)) ∧
    (s.starts x 0x55 → imm.toNat < 128 → exec (.post x rd rs imm) s =
      .next (((u 0x55).postTo x imm.toNat a).2.await x [(rd, toW ((u 0x55).postTo x imm.toNat a).1)])) ∧
    (s.starts x 0x60 → s.accFault x .load a.toNat 24 4 = none → s.badWordIn a.toNat 24 = none →
      let r := (u 0x60).armDecision (.ctx x) ((u 0x60).armBlock a.toNat)
      exec (.arm x rd rs) s = gives r.2 [(rd, armWord r.1.1 (if r.1.1 = stOk then r.1.2.toNat else 0))]) ∧
    (s.starts x 0x61 →
      let r := (u 0x61).cancelDecision (.ctx x) (getF a 0 16)
      exec (.cancel x rd rs) s = gives r.2 [(rd, armWord r.1 (getF a 0 16))]) ∧
    (s.starts x 0x61 → getF a 0 4 < s.domains →
      let own := ((u 0x61).entriesOf (getF a 0 4)).filter (fun i => (u 0x61).cancellable i && (u 0x61).eOwner i == x.val)
      exec (.cancelFlush x rd rs) s = gives (own.foldl (fun v i => v.cancelEntry i) (u 0x61)) [(rd, armWord stOk (getF a 0 16))]) ∧
    (s.starts x 0x68 → imm.toNat < 0x1000 → (u 0x68).tileMine x (getF a 0 6) = true → (u 0x68).tileOffOk x imm.toNat = true → imm.toNat % 4 = 0 →
      exec (.tilewr x rd rs imm) s = .next (((u 0x68).tileWrite x (getF a 0 6) imm.toNat w).advance x)) ∧
    (s.starts x 0x69 → imm.toNat < 256 → (u 0x69).tileMine x (getF a 0 6) = true →
      exec (.commit x rs imm) s = .next (((u 0x69).tileWrite x (getF a 0 6)
        (RegKey.offset ⟨.tileCommit, 0, 0⟩ - 0x100000) (imm.setWidth 32)).advance x)) ∧
    (s.starts x 0x70 → imm.toNat < 0x1000 → getB ((u 0x70).cr .ctxPorts x) (getF imm 0 5) = true →
      let r := (u 0x70).portx x (getF imm 0 5) (getF imm 5 6) a (getB imm 11)
      exec (.portx x rd rs imm) s = gives r.2 [(rd, toW r.1)]) ∧
    (s.starts x 0x71 → (u 0x71).logsFor x (getF a 0 17) = true → exec (.log x rd rs) s =
      .next ((((u 0x71).keepEvent 5 (128 * getF a 0 17 + x) w 0).logEventOf
        { src := 5, sel := x, value := w, ts := (u 0x71).waitClock x } (getF a 0 17)).advance x)) ∧
    (s.starts x 0x71 → (u 0x71).logsFor x (getF a 0 17) = false → exec (.log x rd rs) s =
      .next (((u 0x71).bump .ctxErrcnt 0 8 (x / 32) (x % 32)).advance x))

/-- Mailboxes and locks of a task: SEND fills and sets GO, RECV drains and clears it, PEEK reads GO and AGE, where the context
is the party; LOCK takes a free lock or one it holds, UNLOCK frees its own (R184, R185). LOCK of a local lock answers 1 to the
context that takes it or holds it and 0 to any other, also to one that a master before it wants the lock with (R336); UNLOCK frees it for its holder, and else counts (R185, R335). The model's
own choices in it: log entries 36, 38. -/
def Obligations.TaskMailboxesAndLocks : Prop :=
  (∀ (x : Fin 128) (rd rs : GReg) (imm : BitVec 16) (s : State),
     let u := s.issued x
     let a := (s.g x rs).toNat
     let n := boxCount imm
     let o := boxSel (getF imm 0 6) true
     let b := boxSel (getF imm 0 6) false
     let gives := fun (v : State) (w : Word) => (.next (v.await x [(rd, w)] true) : Host.Outcome State Fault Refusal)
     selOk imm = true → countOk imm = true → s.selFitted (getF imm 0 6) = true → s.starts x 0x72 →
     (getF imm 14 2 = 0 → s.accFault x .load a (4 * n) 4 = none → s.badWordIn a (4 * n) = none →
       ((u 0x72).isSender (.ctx x) o = false → exec (.mboxSend x rd rs imm) s = gives (u 0x72) 0x24) ∧
       ((u 0x72).isSender (.ctx x) o = true → (u 0x72).go o = true → exec (.mboxSend x rd rs imm) s = gives (u 0x72) 0x10) ∧
       ((u 0x72).isSender (.ctx x) o = true → (u 0x72).go o = false → exec (.mboxSend x rd rs imm) s =
         gives (((List.range n).foldl (fun v i => v.writeData (.ctx x) o i (v.tm (a + 4 * i))) (u 0x72)).writeGo (.ctx x) o) 0)) ∧
     (getF imm 14 2 = 1 → s.accFault x .store a (4 * n) 4 = none →
       ((u 0x72).isReceiver (.ctx x) b = false → exec (.mboxRecv x rd rs imm) s = gives (u 0x72) 0x24) ∧
       ((u 0x72).isReceiver (.ctx x) b = true → (u 0x72).go b = false → exec (.mboxRecv x rd rs imm) s = gives (u 0x72) 0x10) ∧
       ((u 0x72).isReceiver (.ctx x) b = true → (u 0x72).go b = true → exec (.mboxRecv x rd rs imm) s =
         gives (((List.range n).foldl (fun v i => v.setTm (a + 4 * i) (v.rd .mbData b i)) (u 0x72)).writeDone (.ctx x) b) 0)) ∧
     (getF imm 14 2 = 2 → rs = 0 → (u 0x72).boxAge b < 65536 → exec (.mboxPeek x rd rs imm) s =
       gives (u 0x72) (toW ((if (u 0x72).go b then 65536 else 0) + (u 0x72).boxAge b)))) ∧
  (∀ (x : Fin 128) (rd : GReg) (imm : BitVec 16) (s : State), imm.toNat < 256 →
     let mine := toW (5 + x * 256)
     let o := s.rd .lockOwner imm.toNat
     let lost := (s.issued x 0x73).lockLost (.ctx x) imm.toNat || (s.issued x 0x73).lockNext (.ctx x) imm.toNat
     (s.starts x 0x73 → ∃ t, exec (.lock x rd imm) s = .next t ∧
       (o = 0 → lost = false → t.rd .lockOwner imm.toNat = mine) ∧ (o ≠ 0 ∨ lost = true → t.rd .lockOwner imm.toNat = o) ∧
       ((t.ctx x).out.map (·.regs)) = some [(rd, if (o = 0 ∧ lost = false) ∨ o = mine then 1 else 0)] ∧
       ∀ k, k ≠ imm.toNat → t.rd .lockOwner k = s.rd .lockOwner k) ∧
     (s.starts x 0x74 → ∃ t, exec (.unlock x imm) s = .next t ∧ (t.ctx x).pc = (s.ctx x).pc + 4 ∧
       (o = mine → t.rd .lockOwner imm.toNat = 0) ∧
       (o ≠ mine → t.rd .lockOwner imm.toNat = o ∧ t.fld .lockStat 0 16 = (s.fld .lockStat 0 16 + 1) % 65536) ∧
       ∀ k, k ≠ imm.toNat → t.rd .lockOwner k = s.rd .lockOwner k))

/-- The long instructions: BLKCP and FILL in one step where all words fit it, with PROG kept for more; a table search begins
with PROG[31] set, and an empty count goes on at once (R187 to R189). The last step of a table lookup: rd gets the value
interpolated between the breakpoints of the index found, and the context goes on (R188, R189). The model's own choices in it:
log entry 41. -/
def Obligations.LongInstructions : Prop :=
  (∀ (x : Fin 128) (rd rs rt : GReg) (s : State), s.longAt x = none →
     let n := (s.g x rt).toNat
     let src := (s.g x rs).toNat
     let dst := (s.g x rd).toNat
     let t0 := (s.g x rt).toNat
     (s.starts x 0x7A → n = 0 → exec (.blkcp x rd rs rt) s = .next (((s.issued x 0x7A).advance x).hold x 1)) ∧
     (s.starts x 0x7A → 1 ≤ n → n ≤ 8 → s.accFault x .load src (4 * n) 4 = none → s.badWordIn src (4 * n) = none →
       s.accFault x .store dst (4 * n) 4 = none → (src + 4 * n ≤ dst ∨ dst + 4 * n ≤ src) →
       ∃ t, exec (.blkcp x rd rs rt) s = .next t ∧ (t.ctx x).pc = (s.ctx x).pc + 4 ∧ (t.ctx x).prog = 0 ∧
         (∀ i, i < n → t.tm (dst + 4 * i) = s.tm (src + 4 * i)) ∧
         ∀ c, c < dst ∨ dst + 4 * n ≤ c → t.taskMem.byte c = s.taskMem.byte c) ∧
     (s.starts x 0x7A → 8 < n → s.accFault x .load src 32 4 = none → s.badWordIn src 32 = none → s.accFault x .store dst 32 4 = none →
       ∃ t, exec (.blkcp x rd rs rt) s = .next t ∧ (t.ctx x).pc = (s.ctx x).pc ∧ t.longAt x = some (0, 8)) ∧
     (s.starts x 0x7B → n = 0 → exec (.fill x rd rs rt) s = .next (((s.issued x 0x7B).advance x).hold x 1)) ∧
     (s.starts x 0x7B → 1 ≤ n → n ≤ 16 → s.accFault x .store dst (4 * n) 4 = none →
       ∃ t, exec (.fill x rd rs rt) s = .next t ∧ (t.ctx x).pc = (s.ctx x).pc + 4 ∧ (t.ctx x).prog = 0 ∧
         (∀ i, i < n → t.tm (dst + 4 * i) = s.g x rs) ∧
         ∀ c, c < dst ∨ dst + 4 * n ≤ c → t.taskMem.byte c = s.taskMem.byte c) ∧
     (s.starts x 0x7B → 16 < n → s.accFault x .store dst 64 4 = none →
       ∃ t, exec (.fill x rd rs rt) s = .next t ∧ (t.ctx x).pc = (s.ctx x).pc ∧ t.longAt x = some (0, 16)) ∧
     (s.starts x 0x78 → s.accFault x .load t0 4 4 = none → s.badWordIn t0 4 = none → 2 ≤ (s.tm t0).toNat → (s.tm t0).toNat ≤ 1024 →
       ∃ t, exec (.tbl1 x rd rs rt) s = .next t ∧ (t.ctx x).pc = (s.ctx x).pc ∧ t.gpr = s.gpr ∧
         t.longAt x = some (1, ((s.tm t0).toNat - 2) * 1024)) ∧
     (s.starts x 0x79 → s.accFault x .load t0 4 4 = none → s.badWordIn t0 4 = none →
       2 ≤ getF (s.tm t0) 0 16 → getF (s.tm t0) 0 16 ≤ 256 → 2 ≤ getF (s.tm t0) 16 16 → getF (s.tm t0) 16 16 ≤ 256 →
       ∃ t, exec (.tbl2 x rd rs rt) s = .next t ∧ (t.ctx x).pc = (s.ctx x).pc ∧ t.gpr = s.gpr ∧
         t.longAt x = some (1, (getF (s.tm t0) 0 16 - 2) * 256))) ∧
  (∀ (x : Fin 128) (rd rs rt : GReg) (i : Nat) (s : State),
     let t0 := (s.g x rt).toNat
     let n := (s.tm t0).toNat
     let v := (s.g x rs).toInt
     s.starts x 0x78 → s.longAt x = some (2, i * 1024 + i) → i < 1024 → 2 ≤ n → n ≤ 1024 →
     (∀ a ∈ [t0, t0 + 4 + 4 * i, t0 + 8 + 4 * i, t0 + 4 + 4 * n + 4 * i, t0 + 8 + 4 * n + 4 * i],
       s.accFault x .load a 4 4 = none ∧ s.badWordIn a 4 = none) →
     (s.tm (t0 + 4 + 4 * i)).toInt < (s.tm (t0 + 8 + 4 * i)).toInt →
     ∃ t, exec (.tbl1 x rd rs rt) s = .next t ∧ (t.ctx x).pc = (s.ctx x).pc + 4 ∧ (t.ctx x).prog = 0 ∧
       t.g x rd = intW (tblMix (s.tm (t0 + 4 + 4 * n + 4 * i)).toInt (s.tm (t0 + 8 + 4 * n + 4 * i)).toInt
         (tblF v (s.tm (t0 + 4 + 4 * i)).toInt (s.tm (t0 + 8 + 4 * i)).toInt)))

/-- A word that no instruction spells faults with ILLEGAL, at the base image's microcode: its opcode is not listed, or an unused
field is not 0 (R173, R216). Where a patch has given the opcode microcode of its own, that runs: a word whose PRIV_MIN the
context does not have faults with PRIV, and a word of the patch area that no patch has written with ILLEGAL (R216 to R218). The
instruction completes in every state. The model's own choices in it: log entry 74. -/
def Obligations.IllegalWords : Prop :=
  ∀ (x : Fin 128) (word : Word) (s : State), decodeTask x word = .illegal x word →
    let e := x.val / 32
    let op := fOp word
    (∃ t, exec (.illegal x word) s = .next t) ∧
    (s.canIssue x = true → s.accFault x .fetch (s.ctx x).pc.toNat 4 4 = none →
      let faults := fun (code : Nat) => ∃ t, exec (.illegal x word) s = .next t ∧
        (t.ctx x).fault = some { code := code, pc := (s.ctx x).pc, addr := 0 } ∧ (t.ctx x).pc = (s.ctx x).pc ∧ t.gpr = s.gpr ∧
        t.taskMem = s.taskMem
      (s.startOf e op (opListed op) = none ∨ (opListed op = true ∧ s.isBase e op = true) → faults 0x12) ∧
      (∀ a, s.startOf e op (opListed op) = some a → (opListed op = true → s.isBase e op = false) →
        (∀ w0 w1 w2 w3 r, s.micro.at [] (8192 * e + a) = w0 :: w1 :: w2 :: w3 :: r → getF w1 26 2 < s.privOf x → faults 0x13) ∧
        (s.micro.at [] (8192 * e + a) = [] → 0x1C00 ≤ a → faults 0x12)))

/-- A step takes the command at the front of the queue and runs it on the state with the queue's rest. -/
def Obligations.StepRunsFront : Prop :=
  ∀ (c : Instr) (r : List Instr) (s : State), step { s with pending := c :: r } = exec c { s with pending := r }

/-- On an empty queue the block goes on by itself, which is the model's choice (log entry 13): the message of the lowest command
channel that has one is taken and its GO cleared, and else a period of Drone time passes, 16 ns or with no lock 640 fine ticks.
-/
def Obligations.IdleStep : Prop :=
  ∀ (s : State), s.pending = [] →
    (s.waitingChannel = none → ∃ t, step s = .next t ∧ t.regs = s.regs ∧ t.pending = [] ∧
      t.now = if s.pstate < 3 ∧ s.now.toNat < (s.now + (if s.flag .droneStat 0 then 16 else 640)).toNat
        then s.now + (if s.flag .droneStat 0 then 16 else 640) else s.now) ∧
    (∀ k, s.waitingChannel = some k → step s = .next (s.takeMessage k))

/-- What reset leaves: time 0, every register that has no other reset value at 0, the register values that the chapters give for
reset, and nothing in any memory or queue. Every memory of the state after reset is in its canonical form. The model's own
choices in it: log entries 1, 2, 3, 4, 5, 6, 7. -/
def Obligations.ResetState : Prop :=
  (let r := State.reset
   r.now = 0 ∧ r.pending = [] ∧ r.taskMem = [] ∧ r.logMem = [] ∧ r.hostMem = [] ∧ r.longOps = [] ∧ r.paused = [] ∧ r.failed = [] ∧
   (∀ x, (r.ctx x).pc = 0 ∧ (r.ctx x).sp = 0 ∧ (r.ctx x).psw = 0x1000 ∧ (r.ctx x).evq = []) ∧ (∀ x q, r.g x q = 0) ∧
   (∀ e l, r.rd .ctxStat e l = 0xF0) ∧ (∀ e, r.rd .ctxCtrl e 0 = 0x3F ∧ r.rd .ctxCtrl e 1 = 0x7F ∧ r.rd .ctxCtrl e 2 = 0x7F ∧
     ∀ l, 3 ≤ l → r.rd .ctxCtrl e l = 0xBF) ∧
   (∀ n, r.rd .intRoute n = 0xF0004 ∧ r.rd .intEnSet n = 0 ∧ r.rd .intPendSet n = 0) ∧ (∀ e p, r.rd .prvRoute e p = 0xF00) ∧
   (∀ d, r.rd .domRatio d = 0x8246B428 ∧ r.rd .domStall d = 0x0186A004 ∧ r.rd .domCtrl d = 0x20) ∧ (∀ p, r.rd .pmPin p = 0x2400) ∧
   r.rd .govBudgetMw = 0x27102710 ∧ r.rd .govCtrl = 3 ∧ r.rd .govThresh = 0x05877D6E ∧ r.pstate = 0 ∧
   r.rd .logRing = 24 ∧ r.rd .logFlush = 10000 ∧ r.rd .calStat = 0x2000 ∧ r.rd .dmaShare = 0x700 ∧ r.rd .sysCmdMbox = 0x1000F ∧
   (∀ k, k < 16 → r.rd .mbCfg (16 + k) = toW (0x1000000 + (192 + k) * 0x10000)) ∧
   (∀ l, r.rd .lockOwner l = 0) ∧ (∀ b n, r.rd .mbData b n = 0 ∧ r.go b = false)) ∧
  (State.reset.memsWf = true)

/-- Every step keeps the memories in their canonical form: addresses rising, and no byte listed that reads 0 anyway. -/
def Obligations.StepKeepsMemories : Prop :=
  ∀ (s t : State), s.memsWf = true → step s = .next t → t.memsWf = true

/-- Every command goes on: whatever its operands and the state, it is answered by a next state; no command stops the block and none
is refused. -/
def Obligations.EveryCommandGoesOn : Prop :=
  ∀ (c : Instr) (s : State), Answers (exec c s)

/-- No command touches the queue of those that wait, nor what the fuses say. -/
def Obligations.QueueAndFusesStay : Prop :=
  ∀ (c : Instr) (s t : State), exec c s = .next t →
    t.pending = s.pending ∧ t.variant = s.variant ∧ t.ownerKey = s.ownerKey ∧ t.ownerSign = s.ownerSign

/-- Decoding the word of a task instruction gives the instruction back, with every operand at every value that its encoding
admits (R173, R174). -/
def Obligations.TaskWordsDecode : Prop :=
  ∀ (i : Instr) (x : Fin 128), TaskWf i = true → taskCtx i = some x → decodeTask x (encodeTask i) = i

/-- Mailboxes: a data word and GO go in by the sender while GO is clear, DONE by the receiver clears GO and lets the next reply
of a command channel out, and whoever has not the right is counted and changes nothing else of the mailbox; the writes of one
fabric cycle are judged against GO before it (R327, R328, R330 to R333, R318). Local locks: a read takes a free lock that no
master before it wants for its master and tells 1, tells its holder 1 and any other 0 (R336); a release
frees it for its holder, and else counts and changes no lock (R335 to R338). -/
def Obligations.MailboxesAndLocks : Prop :=
  (∀ (m : Master) (b : Fin 44) (n : Fin 16) (v : Word) (s : State), s.pstate < 3 →
     let u := s.tick
     let data := fun (t : State) => ∀ i j, t.rd .mbData i j = s.rd .mbData i j
     (s.isSender m b = true → u.goWas b = false → ∃ t, exec (.mbDataWrite m b n v) s = .next t ∧ u.onlyRegs t [.mbData] ∧
       t.rd .mbData b n = v ∧ ∀ i j, ¬(i = b.val ∧ j = n.val) → t.rd .mbData i j = s.rd .mbData i j) ∧
     (s.isSender m b = true → u.goWas b = true → ∃ t, exec (.mbDataWrite m b n v) s = .next t ∧ u.onlyRegs t [.mbCnt] ∧
       t.fld .mbCnt 0 16 b = min 65535 (s.fld .mbCnt 0 16 b + 1)) ∧
     (s.isSender m b = false → ∃ t, exec (.mbDataWrite m b n v) s = .next t ∧ data t ∧ t.go b = s.go b ∧
       t.fld .mbCnt 16 8 b = min 255 (s.fld .mbCnt 16 8 b + 1) ∧ t.fld .sysAccerr 0 16 = (s.fld .sysAccerr 0 16 + 1) % 65536) ∧
     (s.isSender m b = true → u.goWas b = false → s.go b = false → ∃ t, exec (.mbGoSet m b) s = .next t ∧ t.go b = true ∧
       t.boxAge b = 0 ∧ data t ∧ (b.val < 16 → t.pend (148 + b) = true) ∧ ∀ i, i ≠ b.val → t.go i = s.go i) ∧
     (s.isSender m b = true → (u.goWas b = true ∨ s.go b = true) → ∃ t, exec (.mbGoSet m b) s = .next t ∧ u.onlyRegs t [.mbCnt] ∧
       t.fld .mbCnt 24 8 b = min 255 (s.fld .mbCnt 24 8 b + 1)) ∧
     (s.isReceiver m b = true → u.goWas b = true → s.go b = true → (16 ≤ b.val ∧ b.val < 32 → s.repliesOf (b - 16) = []) →
       (b.val = 34 ∨ b.val = 35 → s.repliesOf (b - 18) = []) →
       ∃ t, exec (.mbDone m b) s = .next t ∧ t.go b = false ∧ t.boxAge b = u.boxAge b ∧ data t ∧ ∀ i, i ≠ b.val → t.go i = s.go i) ∧
     (∀ r rest, s.isReceiver m b = true → u.goWas b = true → s.go b = true → 16 ≤ b.val → b.val < 32 → s.cmdBox b = true →
       s.repliesOf (b - 16) = r :: rest → ∃ t, exec (.mbDone m b) s = .next t ∧ t.go b = true ∧ t.repliesOf (b - 16) = rest ∧
         ∀ j, j < 16 → j < r.length → t.rd .mbData b j = r.getD j 0) ∧
     (s.isReceiver m b = true → (u.goWas b = false ∨ s.go b = false) → ∃ t, exec (.mbDone m b) s = .next t ∧ u.onlyRegs t [.mbCnt] ∧
       t.fld .mbCnt 24 8 b = min 255 (s.fld .mbCnt 24 8 b + 1)) ∧
     (s.mayCfg m b = true → u.goWas b = false → s.go b = false → (getB v 24 = true → 192 ≤ getF v 16 8 ∧ getF v 16 8 ≠ 210) →
       ∃ t, exec (.mbCfgWrite m b v) s = .next t ∧ u.onlyRegs t [.mbCfg] ∧ t.rd .mbCfg b = (v &&& 0x1FF00FF) ∧
         ∀ i j, ¬(i = b.val ∧ j = 0) → t.rd .mbCfg i j = s.rd .mbCfg i j) ∧
     (s.lets m .mbxCtrl 0 0 = true → ∃ t, exec (.mbxClrCnt m) s = .next t ∧ (s.arrived .mbxCtrl 0 0).onlyRegs t [.mbCnt] ∧ ∀ i, i < 44 → t.rd .mbCnt i = 0)) ∧
  (∀ (m : Master) (k : Fin 256) (s : State), s.pstate < 3 →
     let o := s.rd .lockOwner k
     let lost := s.tick.lockLost m k || s.tick.lockNext m k
     ((∀ c, m ≠ .dma c) → ∃ t, exec (.lockRead m k) s = .next t ∧ s.keeps t [.lockOwner] ∧
       t.rd .lockOwner k = (if o = 0 ∧ lost = false then lockCode m else o) ∧
       t.readOf (masterIx m) = (if (o = 0 ∧ lost = false) ∨ o = lockCode m then 1 else 0) ∧
       ∀ i, i ≠ k.val → t.rd .lockOwner i = s.rd .lockOwner i) ∧
     (∀ c, m = .dma c → ∃ t, exec (.lockRead m k) s = .next t ∧ t.readOf (masterIx m) = 0 ∧
       t.fld .sysAccerr 0 16 = (s.fld .sysAccerr 0 16 + 1) % 65536 ∧ t.rd .sysAccerrSrc = accSrc m .privilege ∧
       ∀ i, t.rd .lockOwner i = s.rd .lockOwner i) ∧
     (s.lets m .lockRel k 0 = true → o ≠ 0 → o = lockCode m → ∃ t, exec (.lockRelease m k) s = .next t ∧ t.rd .lockOwner k = 0 ∧
       (s.flag .lockWatch (k % 32) (k / 32) = true → t.flag .lockFreed (k % 32) (k / 32) = true ∧ t.pend 190 = true) ∧
       ∀ i, i ≠ k.val → t.rd .lockOwner i = s.rd .lockOwner i) ∧
     (s.lets m .lockRel k 0 = true → (o = 0 ∨ o ≠ lockCode m) → ∃ t, exec (.lockRelease m k) s = .next t ∧ (s.arrived .lockRel k 0).onlyRegs t [.lockStat] ∧
       t.fld .lockStat 0 16 = (s.fld .lockStat 0 16 + 1) % 65536 ∧ t.fld .lockStat 16 8 = k.val ∧
       t.fld .lockStat 24 2 = (match m with | .host => 0 | .supervisor => 1 | _ => 2)) ∧
     (s.lets m .lockCtrl 0 0 = true → ∃ t, exec (.lockClrCnt m) s = .next t ∧ (s.arrived .lockCtrl 0 0).onlyRegs t [.lockStat] ∧
       t.fld .lockStat 0 16 = 0 ∧ t.fld .lockStat 16 16 = s.fld .lockStat 16 16))

/-- Interrupt sources: INT_PEND_SET pends the fitted sources of the bits written and INT_PEND_CLR clears them, INT_EN_SET and
INT_EN_CLR change exactly the bits written but those that INT_ROUTE locks against all but Keystone, INT_ROUTE takes a target
that exists, a private source is raised on a fitted engine, and CLR_CNT clears the errors (R339, R340, R347). -/
def Obligations.InterruptSources : Prop :=
  ∀ (m : Master) (n : Fin 8) (src : Fin 256) (e : Fin 4) (v : Word) (s : State), s.pstate < 3 → s.intGeneral m = true →
    let u := s.tick
    let mine := fun (k : Nat) => s.isKeystone m || !s.routeLocked k
    (∃ t, exec (.intPendSet m n v) s = .next t ∧ s.keeps t [.intPendSet, .vecStat, .intErr] ∧
      (∀ b, b < 32 → t.pend (32 * n + b) = (s.pend (32 * n + b) || (getB v b && s.srcPresent (32 * n + b)))) ∧
      ∀ i, i ≠ n.val → t.rd .intPendSet i = s.rd .intPendSet i) ∧
    (∃ t, exec (.intPendClr m n v) s = .next t ∧ u.onlyRegs t [.intPendSet] ∧
      t.rd .intPendSet n = s.rd .intPendSet n &&& ~~~v ∧ ∀ i, i ≠ n.val → t.rd .intPendSet i = s.rd .intPendSet i) ∧
    (∃ t, exec (.intEnSet m n v) s = .next t ∧
      (∀ b, b < 32 → t.enabled (32 * n + b) = (s.enabled (32 * n + b) || (getB v b && mine (32 * n + b) && s.srcPresent (32 * n + b)))) ∧
      ∀ i, i ≠ n.val → t.rd .intEnSet i = s.rd .intEnSet i) ∧
    (∃ t, exec (.intEnClr m n v) s = .next t ∧
      (∀ b, b < 32 → t.enabled (32 * n + b) = (s.enabled (32 * n + b) && !(getB v b && mine (32 * n + b) && s.srcPresent (32 * n + b)))) ∧
      ∀ i, i ≠ n.val → t.rd .intEnSet i = s.rd .intEnSet i) ∧
    (mine src = true → getF v 0 3 < 6 → (getF v 0 3 < 4 → getF v 0 3 < s.engines) → ∃ t, exec (.intRouteWrite m src v) s = .next t ∧
      u.onlyRegs t [.intRoute] ∧ (∀ b, b < 31 → getB (t.rd .intRoute src) b = getB (v &&& 0xBF0F1F07) b) ∧
      t.routeLocked src = (s.isKeystone m && getB v 31) ∧ ∀ i, i ≠ src.val → t.rd .intRoute i = s.rd .intRoute i) ∧
    (mine src = true → (6 ≤ getF v 0 3 ∨ (getF v 0 3 < 4 ∧ s.engines ≤ getF v 0 3)) →
      ∃ t, exec (.intRouteWrite m src v) s = .next t ∧
      u.onlyRegs t [.intErr] ∧ t.fld .intErr 0 16 = (s.fld .intErr 0 16 + 1) % 65536) ∧
    (e.val < s.engines → s.prvMay m e true = true → ∃ t, exec (.prvPendSet m e v) s = .next t ∧ s.keeps t [.prvPendSet] ∧
      ∀ p, p < 32 → t.flag .prvPendSet p e = (s.flag .prvPendSet p e || (getB v p && decide (p < 8)))) ∧
    (∃ t, exec (.intClrCnt m) s = .next t ∧ u.onlyRegs t [.intErr] ∧ t.rd .intErr = 0)

/-- Deliveries: SUP_CLAIM tells the supervisor its most urgent source, which becomes ACTIVE and no longer pending, SUP_EOI and
HOST_EOI complete one, and a vector that issues writes its MSI-X word to host memory, the vectors that go before it first (R340 to
R346).
SLEEP_INTENT: the write by a master that may make it, and the entry to ASPM L1, issue every vector with events at once, and
where MSI-X is off set their PBA bits; any other master's write is dropped and counted (R346, R347). D3hot and L2 stop the
vectors, and D0 with the link in L0 lets them go on; that they come as this row is the model's choice (log entry 97). The command
completes for each of its events in every state. -/
def Obligations.Deliveries : Prop :=
  (∀ (vec : Fin 64) (src : Byte) (v : Word) (ts : Stamp) (s : State), s.pstate < 3 →
     let addr := (stampOf (s.rd .msixAddrLo vec) (s.rd .msixAddrHi vec)).toNat
     (∀ p k, s.supSource = some (p, k) → ∃ t, exec (.supClaim .supervisor) s = .next t ∧ t.readOf 1 = toW (k + 2 ^ 31) ∧
       t.active k = true ∧ t.pend k = false ∧ t.takenBy.at 130 k = 129 ∧ s.keeps t [.intPendSet, .intActive]) ∧
     (s.supSource = none → ∃ t, exec (.supClaim .supervisor) s = .next t ∧ t.readOf 1 = 0 ∧ t.regs = s.regs) ∧
     (s.active src.toNat = true → s.takenBy.at 130 src.toNat = 129 → ∃ t, exec (.supEoi .supervisor src) s = .next t ∧
       t.active src.toNat = false ∧ t.pend src.toNat = s.pend src.toNat ∧ s.keeps t [.intActive, .intErr, .vecStat]) ∧
     (s.active src.toNat = true → s.takenBy.at 130 src.toNat = 128 → ∃ t, exec (.hostEoi .host src) s = .next t ∧
       t.active src.toNat = false ∧ t.pend src.toNat = s.pend src.toNat ∧ s.keeps t [.intActive, .intErr, .vecStat]) ∧
     ((s.active src.toNat = false ∨ s.takenBy.at 130 src.toNat ≠ 128) → ∃ t, exec (.hostEoi .host src) s = .next t ∧
       s.tick.onlyRegs t [.intErr] ∧ t.fld .intErr 0 16 = (s.fld .intErr 0 16 + 1) % 65536) ∧
     (s.vectorDue vec ts = true → s.vectorFree vec = true → s.vectorsBefore vec ts = [] → ∃ t, exec (.vectorIssue vec ts) s = .next t ∧
       t.hostMem.word addr = s.rd .msixData vec ∧ t.rd .vecStat vec = 0 ∧ t.flag .msixPba (vec % 32) (vec / 32) = false ∧
       (∀ k ∈ s.vectorSources vec, t.active k = true ∧ t.pend k = false) ∧
       ∀ c, c < addr ∨ addr + 4 ≤ c → t.hostMem.byte c = s.hostMem.byte c) ∧
     (s.vectorDue vec ts = true → ∃ t, exec (.vectorIssue vec ts) s = .next t ∧ ∀ k ∈ s.vectorsBefore vec ts, t.rd .vecStat k = 0) ∧
     (s.vectorDue vec ts = true → s.vectorFree vec = false → s.vectorsBefore vec ts = [] → ∃ t, exec (.vectorIssue vec ts) s = .next t ∧
       t.flag .msixPba (vec % 32) (vec / 32) = true ∧ t.flag .vecStat 31 vec = true ∧ t.hostMem = s.hostMem) ∧
     (∃ t, exec (.vectorUnmask vec ts) s = .next t ∧ t.flag .msixVctrl 0 vec = false ∧ t.msixOn = true ∧ t.msixMask = false ∧
       (s.vectorDue vec ts = false → t.hostMem = s.hostMem ∧ s.keeps t [.msixVctrl])) ∧
     (¬(2 ≤ getF v 0 8 ∧ getF v 8 16 = 0) → ∃ t, exec (.vecModWrite .host vec v) s = .next t ∧ s.tick.onlyRegs t [.vecMod, .vecStat] ∧
       t.rd .vecMod vec = v &&& 0x80FFFFFF)) ∧
  (∀ (e : PmEvent) (m : Master) (s : State),
     let gathers := fun (i : Nat) => decide (i < 64) && s.fld .vecStat 0 8 i != 0
     let shown := fun (t : State) => t.hostMem = s.hostMem ∧ ∀ i, gathers i = true → t.flag .msixPba (i % 32) (i / 32) = true
     let sent := fun (t : State) => ∀ i, gathers i = true → s.flag .msixVctrl 0 i = false → t.rd .vecStat i = 0 ∧
       t.flag .msixPba (i % 32) (i / 32) = false
     (∃ t, exec (.sleepIntent e) s = .next t ∧ t.taskMem = s.taskMem ∧ t.gpr = s.gpr) ∧
     (s.pstate < 3 → s.intGeneral m = true →
       (s.msixOn = false → ∃ t, exec (.sleepIntent (.write m)) s = .next t ∧ shown t) ∧
       (s.msixOn = true → s.msixMask = false → s.d3hot = false → (s.hostLink = .up ∨ s.hostLink = .l1) →
         ∃ t, exec (.sleepIntent (.write m)) s = .next t ∧ sent t) ∧
       ((∀ i, i < 64 → s.fld .vecStat 0 8 i = 0) → exec (.sleepIntent (.write m)) s = .next s.tick)) ∧
     (s.pstate < 3 → s.intGeneral m = false → ∃ t, exec (.sleepIntent (.write m)) s = .next t ∧
       t.fld .sysAccerr 0 16 = (s.fld .sysAccerr 0 16 + 1) % 65536 ∧ t.hostMem = s.hostMem) ∧
     (s.pstate < 3 → s.hostLink = .up → s.d3hot = false → ∃ t, exec (.sleepIntent .l1) s = .next t ∧ t.hostLink = .l1 ∧
       (s.msixOn = false → shown t) ∧ (s.msixOn = true → s.msixMask = false → sent t)) ∧
     (s.hostLink = .up ∨ s.hostLink = .l1 → exec (.sleepIntent .d3hot) s = .next { s with hostLink := .l1, d3hot := true }) ∧
     (s.hostLink = .l1 → s.d3hot = true → exec (.sleepIntent .l2) s = .next { s with hostLink := .l2 }) ∧
     (s.hostLink = .l1 → exec (.sleepIntent .d0) s = .next { s with hostLink := .up, d3hot := false }) ∧
     (s.hostLink ≠ .up → s.hostLink ≠ .l1 → (∀ m', e ≠ .write m') → exec (.sleepIntent e) s = .next s))

/-- Register writes on the bus: a 32-bit aligned one puts the read-write bits and clears the write-1-to-clear bits written (for
the enables, events and other plain registers named), one of another width or at a reserved offset changes nothing but the count
and address of access errors, and task memory takes 1, 2 or 4 bytes (R5 to R7, R304, R306). -/
def Obligations.RegisterWrites : Prop :=
  ∀ (m : Master) (off : Nat) (v : Word) (s : State), s.pstate < 3 → s.reachable off = true →
    let a := off - 0x1000000
    let inTm := 0x1000000 ≤ off ∧ off < 0x13C0000
    (∀ k, regAt off = some k → taskWindow off = none → off < 0x80000000 → off % 4 = 0 → s.lets m k.name k.i k.j = true →
      k.name ∈ [.lockWatch, .lockFreed, .govIen, .govEvt, .logIen, .logEvt, .logFlush, .logWmark, .calIen, .calEvt, .portIen,
        .portEvt, .portScrEntry, .dmaIen, .dmaEvt, .fltIen, .ctxEntry, .codeBase, .codeSize, .dataBase, .dataSize, .tabBase, .tabSize,
        .ctxIomask, .ctxTilesLo, .ctxTilesHi, .ctxPorts, .ctxNointLim] →
      ∃ t, exec (.registerWrite m off 4 v) s = .next t ∧ t.rd k.name k.i k.j =
        ((s.rd k.name k.i k.j &&& ~~~(toW k.name.row.rw)) ||| (v &&& toW k.name.row.rw)) &&& ~~~(v &&& toW k.name.row.w1c)) ∧
    (regAt off = none → taskWindow off = none → off < 0x80000000 → off % 4 = 0 → ∃ t, exec (.registerWrite m off 4 v) s = .next t ∧
      s.keeps t accRegs ∧ t.rd .sysAccerrAddr = toW off ∧
      t.fld .sysAccerr 0 16 = (s.fld .sysAccerr 0 16 + 1) % 65536 ∧ t.pend 191 = true ∧ t.taskMem = s.taskMem) ∧
    (taskWindow off = none → off < 0x80000000 → ∀ w, w ≠ 4 → w ≠ 8 → ∃ t, exec (.registerWrite m off w v) s = .next t ∧
      s.keeps t accRegs ∧
      t.fld .sysAccerr 0 16 = (s.fld .sysAccerr 0 16 + 1) % 65536) ∧
    (inTm → m ≠ .supervisor → off % 4 = 0 → ∃ t, exec (.registerWrite m off 4 v) s = .next t ∧ t.regs = s.regs ∧ t.tm a = v ∧
      ∀ c, c < a ∨ a + 4 ≤ c → t.taskMem.byte c = s.taskMem.byte c) ∧
    (inTm → m ≠ .supervisor → off % 2 = 0 → ∃ t, exec (.registerWrite m off 2 v) s = .next t ∧ t.regs = s.regs ∧
      t.taskMem.half a = v.toNat % 65536 ∧ ∀ c, c < a ∨ a + 2 ≤ c → t.taskMem.byte c = s.taskMem.byte c) ∧
    (inTm → m ≠ .supervisor → ∃ t, exec (.registerWrite m off 1 v) s = .next t ∧ t.regs = s.regs ∧
      t.taskMem.byte a = byteOf v 0 ∧ ∀ c, c ≠ a → t.taskMem.byte c = s.taskMem.byte c) ∧
    (inTm → m = .supervisor → ∃ t, exec (.registerWrite m off 4 v) s = .next t ∧ t.taskMem = s.taskMem)

/-- Reads: the low word of a linked pair, at the instant of the read, latches the high one for its master, whose read of the high word
returns it; a 64-bit read returns both and leaves the latch; a read at a reserved offset returns 0 and counts (R5, R47 to R49, R306). -/
def Obligations.RegisterReads : Prop :=
  ∀ (m : Master) (q : Linked) (off : Nat) (s : State), s.pstate < 3 →
    let u := s.tick.wakeFor (linkedTile q)
    let isPair := ∀ t p, q = .count t p → u.linked t (2 * p) = true
    (s.linkedFitted q = true → isPair → ∃ t, exec (.linkedLowRead m q) s = .next t ∧ t.readOf (masterIx m) = (u.linkedWords q).1 ∧
      t.latchOf (masterIx m) = (u.linkedWords q).2 ∧ t.taskMem = s.taskMem) ∧
    (s.linkedFitted q = true → (∀ t p, q = .count t p → s.tick.linked t (2 * p) = true) →
      exec (.linkedHighRead m q) s = .next (u.setRead (masterIx m) (s.latchOf (masterIx m)))) ∧
    (s.linkedFitted q = true → ∃ t, exec (.linked64bitRead q) s = .next t ∧ t.readOf 0 = (u.linkedWords q).1 ∧
      t.readHi = (u.linkedWords q).2 ∧ t.latchOf 0 = s.latchOf 0) ∧
    (∃ t, exec (.linkedLowRead m .droneNow) s = .next t ∧ t.readOf (masterIx m) = loW s.tick.now ∧
      t.latchOf (masterIx m) = hiW s.tick.now ∧ t.regs = s.regs) ∧
    (s.linkedFitted q = false → ∃ t, exec (.linkedHighRead m q) s = .next t ∧ t.readOf (masterIx m) = 0 ∧ t.regs = s.regs) ∧
    (regAt off = none → taskWindow off = none → ¬(0xD0000 ≤ off ∧ off < 0xE0000) → off % 4 = 0 → m ≠ .supervisor →
      s.reachable off = true → off < bar2Base → ∃ t, exec (.droppedRead m off 4) s = .next t ∧ t.readOf (masterIx m) = 0 ∧
      t.fld .sysAccerr 0 16 = (s.fld .sysAccerr 0 16 + 1) % 65536 ∧ t.rd .sysAccerrAddr = toW off ∧
      s.keeps t accRegs)

/-- The SYS block and the endpoint: a supervisor's request is kept in UNIT_REQ, CLR_CNT clears the counts, SYS_CMD_MBOX changes
the bits of idle pairs only, and PERST# and the training of the link reset and open the endpoint (R8, R302, R308, R309, R312,
R346). The model's own choices in it: log entries 2, 63. -/
def Obligations.SystemAndEndpoint : Prop :=
  ∀ (m : Master) (unit : Fin 256) (req : BitVec 3) (v : Word) (s : State), s.pstate < 3 →
    let idle := fun (k : Nat) => !s.go (inBox k) && !s.go (outBox k) && (s.repliesOf k).isEmpty
    (unit.val < 148 → s.fitted unit = true → req.toNat < 6 → (1 ≤ req.toNat ∧ req.toNat ≤ 4 → unitSetAllows unit req.toNat = true) →
      ∃ t, exec (.supReqWrite unit req) s = .next t ∧ t.fld .unitReq 4 3 unit = req.toNat) ∧
    (unit.val < 148 → s.fitted unit = true → 6 ≤ req.toNat ∨ (1 ≤ req.toNat ∧ req.toNat ≤ 4 ∧ unitSetAllows unit req.toNat = false) →
      ∃ t, exec (.supReqWrite unit req) s = .next t ∧ t.rd .unitReq unit = s.rd .unitReq unit ∧
        t.fld .sysAccerr 0 16 = (s.fld .sysAccerr 0 16 + 1) % 65536) ∧
    (148 ≤ unit.val ∨ s.fitted unit = false → exec (.supReqWrite unit req) s = .next s.tick) ∧
    (s.lets m .sysCtrl 0 0 = true → ∃ t, exec (.sysClrCnt m) s = .next t ∧ (s.arrived .sysCtrl 0 0).onlyRegs t [.unitReq, .sysAccerr] ∧ t.rd .sysAccerr = 0 ∧
      ∀ u, u < 256 → t.fld .unitReq 8 8 u = 0 ∧ t.fld .unitReq 0 8 u = s.fld .unitReq 0 8 u) ∧
    (s.lets m .sysCmdMbox 0 0 = true → ∃ t, exec (.sysCmdMboxWrite m v) s = .next t ∧ (s.arrived .sysCmdMbox 0 0).onlyRegs t [.sysCmdMbox] ∧
      ∀ k, k < 18 → t.flag .sysCmdMbox k = if idle k then getB v k else s.flag .sysCmdMbox k) ∧
    (∃ t, exec .perstAssert s = .next t ∧ t.hostLink = .reset ∧ t.msixOn = false ∧ t.msixMask = false ∧ t.latchOf 0 = 0 ∧
      (∀ i, i < 64 → t.rd .msixAddrLo i = 0 ∧ t.rd .msixAddrHi i = 0 ∧ t.rd .msixData i = 0 ∧ t.rd .msixVctrl i = 1) ∧
      s.keeps t [.msixAddrLo, .msixAddrHi, .msixData, .msixVctrl]) ∧
    (∃ t, exec .perstRelease s = .next t ∧ t.hostLink = (if s.hostLink = .reset then .training else s.hostLink) ∧
      t.wakePin = false ∧ t.regs = s.regs) ∧
    (s.hostLink ≠ .reset → s.epUp = true → ∃ t, exec .pcieLinkTrained s = .next t ∧ t.hostLink = .up ∧ t.wakePin = false ∧
      (s.msixOn = true → s.msixMask = false → s.d3hot = false → ∀ i, i < 64 → s.flag .vecStat 31 i = true →
        s.flag .msixVctrl 0 i = false → t.rd .vecStat i = 0))

/-- The time base: locking, the judgement of a beacon by an island and the slew of its copy, reloading, the vernier, the two PLLs and
holdover (R30 to R38, R43, R45, R46). The model's own choices in it: log entries 10, 11, 65, 89. -/
def Obligations.TimeBase : Prop :=
  ∀ (m : Master) (isl : Fin 91) (tile : Fin 64) (d drift late : Int) (locks : Bool) (ts : Stamp) (s : State), s.pstate < 3 →
    let i := isl.val
    (s.flag .droneStat 0 = false → divRound ts.toNat 16 * 16 < 2 ^ 64 → ∃ t, exec (.pllLock ts) s = .next t ∧
      t.flag .droneStat 0 = true ∧ t.flag .pllStat 0 = true ∧
      t.now.toNat = max s.now.toNat (divRound ts.toNat 16 * 16) ∧ s.keeps t [.droneStat, .pllStat]) ∧
    (let dd := s.ahead i + clampInt (-63) 63 drift + late - s.skewTrim i
     ts.toNat % 1024 = 0 → s.copyRuns i = true → s.flag .droneStat 0 = true → -(2 ^ 41) ≤ dd → dd < 2 ^ 41 →
      ∃ t, exec (.beacon isl drift late ts) s = .next t ∧ t.beacon = grayOf (BitVec.ofNat 32 (ts.toNat / 1024)) ∧
      ungray t.beacon = BitVec.ofNat 32 (ts.toNat / 1024) ∧
      t.fld .droneIsl 0 8 i = encS 8 (clampInt (-127) 127 dd) ∧ t.fld .droneIsl 24 8 i = max (s.fld .droneIsl 24 8 i) (min 255 dd.natAbs) ∧
      t.fld .droneIsl 8 16 i = (if 1 < dd.natAbs then min 65535 (s.fld .droneIsl 8 16 i + 1) else s.fld .droneIsl 8 16 i) ∧
      t.ahead i = s.ahead i + clampInt (-63) 63 drift + (if 1 < dd.natAbs then (if 0 < dd then -1 else 1) else 0) ∧
      t.fld .droneStat 16 16 = max (s.fld .droneStat 16 16) (min 65535 dd.natAbs) ∧ s.keeps t [.droneIsl, .droneStat] ∧
      (∀ j, j ≠ i → t.rd .droneIsl j = s.rd .droneIsl j ∧ t.ahead j = s.ahead j) ∧
      (16 < dd.natAbs → (t.stray.at none i).isSome = true) ∧ (dd.natAbs ≤ 16 → t.stray = s.stray)) ∧
    (64 ≤ i → (s.stray.at none i).isSome = true → ∃ t, exec (.islandReload isl ts) s = .next t ∧ t.stray.at none i = none ∧
      t.ahead i = 0 ∧ t.rd .droneIsl i = s.rd .droneIsl i ∧ t.rd .fltSeq = s.rd .fltSeq + 1) ∧
    (ts.toNat % 16384 = 0 → s.copyRuns tile = true → ∃ t, exec (.vernierCalibration tile d ts) s = .next t ∧
      t.flag .droneVern 8 tile = decide (d.natAbs ≤ 4) ∧ s.keeps t [.droneVern] ∧
      t.fld .droneVern 16 16 tile = (if 2 < d.natAbs then min 65535 (s.fld .droneVern 16 16 tile + 1) else s.fld .droneVern 16 16 tile) ∧
      t.fld .droneVern 0 8 tile = (if d.natAbs ≤ 2 then s.fld .droneVern 0 8 tile
        else if 0 < d then s.fld .droneVern 0 8 tile - 1 else min 255 (s.fld .droneVern 0 8 tile + 1))) ∧
    (s.flag .droneStat 0 = true → s.flag .pllStat 1 = true → ∃ t, exec (.pllSwitchover ts) s = .next t ∧ t.flag .pllStat 1 = false ∧
      t.flag .pllStat 0 = true ∧ t.flag .pllStat 2 = (!s.flag .pllStat 2) ∧ t.fld .pllStat 8 8 = min 255 (s.fld .pllStat 8 8 + 1) ∧
      t.rd .fltSeq = s.rd .fltSeq + 1) ∧
    (s.flag .droneStat 0 = true → s.flag .pllStat 1 = false → ∃ t, exec (.pllSwitchover ts) s = .next t ∧ t.flag .pllStat 0 = false ∧
      t.rd .fltSeq = s.rd .fltSeq + 1) ∧
    (s.flag .droneStat 0 = true → s.flag .pllStat 1 = false → ∃ t, exec (.pllRetrain locks ts) s = .next t ∧ t.flag .pllStat 1 = locks ∧
      t.flag .fltSpare 8 = locks ∧ s.keeps t [.pllStat, .fltSpare]) ∧
    (s.flag .droneStat 1 = false → ∃ t, exec (.refclkHoldover ts) s = .next t ∧ t.flag .droneStat 1 = true ∧ t.flag .pllStat 5 = true ∧
      t.flag .pllStat 3 = false ∧ t.rd .fltSeq = s.rd .fltSeq + 1) ∧
    (s.flag .droneStat 1 = true → ∃ t, exec (.holdoverExit ts) s = .next t ∧ t.flag .droneStat 1 = false ∧ t.flag .pllStat 5 = false ∧
      t.flag .pllStat 3 = true ∧ s.keeps t [.droneStat, .pllStat]) ∧
    (s.lets m .droneCtrl 0 0 = true → ∃ t, exec (.clrStats m) s = .next t ∧ (s.arrived .droneCtrl 0 0).onlyRegs t [.droneStat, .droneIsl, .droneVern] ∧
      t.fld .droneStat 16 16 = 0 ∧ (∀ k ∈ islands, t.fld .droneIsl 8 24 k = 0 ∧ t.fld .droneIsl 0 8 k = s.fld .droneIsl 0 8 k) ∧
      ∀ k, k < 64 → t.fld .droneVern 16 16 k = 0 ∧ t.fld .droneVern 0 16 k = s.fld .droneVern 0 16 k)

/-- A step of an UP_WRAP channel counts up by 1, and from TOP to 0; CH_CTRL is stored or dropped; a shadow register is written,
and while the channel stands still its active register with it; CLR_CNT clears the counts (R54, R55, R63, R64, R92, R95). -/
def Obligations.ChannelCounting : Prop :=
  ∀ (m : Master) (g : Fin 512) (r : ShadowReg) (v : Word) (tile : Fin 64) (ts : Stamp) (s : State), s.pstate < 3 →
    let t := tileOf g
    let c := chOf g
    let k := s.chan g
    let plain := s.linked t c = false ∧ s.bridged t c = false
    let due := s.tileRuns t = true ∧ s.running t c = true ∧ k.stepNs + s.presc t c ≤ nsOf ts
    let others := fun (u : State) => ∀ d, d ≠ c → u.rd .chCount t d = s.rd .chCount t d
    (plain → due → s.modeF t c = 1 → k.burst = 0 → (s.rd .chCount t c).toNat < k.top → ∃ u, exec (.channelStep g ts) s = .next u ∧
      u.rd .chCount t c = toW ((s.rd .chCount t c).toNat + 1) ∧ (u.chan g).stepNs = k.stepNs + s.presc t c ∧ others u) ∧
    (plain → due → s.modeF t c = 1 → k.burst = 0 → k.top ≤ (s.rd .chCount t c).toNat → (k.hold = true ∨ k.acc + s.fineStep t c < 16) →
      ∃ u, exec (.channelStep g ts) s = .next u ∧ u.rd .chCount t c = 0 ∧ u.flag .chStat 4 t c = true ∧ others u) ∧
    (plain → due → s.modeF t c = 1 → k.burst = 0 → k.top ≤ (s.rd .chCount t c).toNat → k.hold = false → 16 ≤ k.acc + s.fineStep t c →
      ∃ u, exec (.channelStep g ts) s = .next u ∧ u.rd .chCount t c = s.rd .chCount t c ∧ (u.chan g).hold = true ∧ others u) ∧
    (s.lets m .chCtrl t c = true → s.running t c = false → s.running t (c + 1 - 2 * (c % 2)) = false → s.bridged t c = false →
      getF v 0 3 ≤ 5 → getF v 4 2 ≠ 3 → getF v 12 2 ≠ 3 → ∃ u, exec (.chCtrlWrite m g v) s = .next u ∧
        u.rd .chCtrl t c = v &&& (if c % 2 = 0 then 0x37FFF else 0x37FF7)) ∧
    (s.lets m .chCtrl t c = true → (5 < getF v 0 3 ∨ getF v 4 2 = 3 ∨ getF v 12 2 = 3 ∨
        (s.running t c = true ∧ getF v 0 3 ≠ s.fld .chCtrl 0 3 t c)) → ∃ u, exec (.chCtrlWrite m g v) s = .next u ∧
      u.rd .chCtrl t c = s.rd .chCtrl t c ∧ u.flag .chStat 10 t c = true ∧
      u.fld .chErrcnt 8 8 t c = min 255 (s.fld .chErrcnt 8 8 t c + 1)) ∧
    (r ≠ .brDt → r ≠ .brMinpw → s.lets m (shadowReg r) t c = true → s.linked t c = false → s.flag .chStat 2 t c = false → k.handNs = 0 →
      ∃ u, exec (.shadowWrite m g r v) s = .next u ∧ u.rd (shadowReg r) t c = v &&& shadowMask r ∧
        ∀ a, shadowActive r = some a → u.rd a t c = if s.running t c then s.rd a t c else v &&& shadowMask r) ∧
    (r ≠ .brDt → r ≠ .brMinpw → s.lets m (shadowReg r) t c = true → s.linked t c = false → s.flag .chStat 2 t c = true →
      ∃ u, exec (.shadowWrite m g r v) s = .next u ∧ u.rd (shadowReg r) t c = s.rd (shadowReg r) t c ∧
        u.fld .chErrcnt 0 8 t c = min 255 (s.fld .chErrcnt 0 8 t c + 1)) ∧
    (r = .brDt ∨ r = .brMinpw → s.lets m (shadowReg r) t (c / 2) = true → s.hasBridge = true → s.flag .chStat 2 t (c - c % 2) = false →
      (s.chan (8 * t + (c - c % 2))).handNs = 0 → ∃ u, exec (.shadowWrite m g r v) s = .next u ∧
        u.rd (shadowReg r) t (c / 2) = v &&& shadowMask r) ∧
    (s.lets m .tileCtrl tile 0 = true → ∃ u, exec (.tileClrCnt m tile) s = .next u ∧ u.rd .tripCnt tile = 0 ∧
      (∀ d, d < 8 → u.rd .chErrcnt tile d = 0 ∧ u.rd .chEvcnt tile d = 0) ∧ ∀ p, p < 4 → u.fld .brStat 0 24 tile p = 0)

/-- Starting, stopping and committing: a channel that a start names runs from count 0, one that a stop names stands still with
its count, one that a commit names has its shadow set pending from the next tile cycle; an armed start happens at its time, and
all of it only for the channels named (R56, R69 to R72, R93). -/
def Obligations.StartStopCommit : Prop :=
  ∀ (m : Master) (tile : Fin 64) (c : Fin 8) (mask : BitVec 8) (ts : Stamp) (s : State), s.pstate < 3 →
    let t := tile.val
    let md := s.modeF t c
    let ready := s.linked t c = false ∧ s.bridged t c = false ∧ 1 ≤ md ∧ md ≤ 4 ∧ periodMin md ≤ (s.rd .chPeriod t c).toNat
    let armed := s.fld .tileStartArm 0 8 t
    (s.lets m .tileStart t 0 = true → ready → c.val ∈ s.named t mask.toNat → s.running t c = false →
      ∃ u, exec (.tileStartWrite m tile mask) s = .next u ∧ u.running t c = true ∧ u.rd .chCount t c = 0) ∧
    (s.lets m .tileStart t 0 = true → c.val ∈ s.named t mask.toNat → s.running t c = true →
      ∃ u, exec (.tileStartWrite m tile mask) s = .next u ∧ u.running t c = true ∧ u.rd .chCount t c = s.rd .chCount t c ∧
        u.flag .chStat 10 t c = true) ∧
    (s.lets m .tileStart t 0 = true → mask = 0 → ∃ u, exec (.tileStartWrite m tile mask) s = .next u ∧
      ∀ d, d < 8 → u.rd .chStat t d = s.rd .chStat t d) ∧
    (s.lets m .tileStop t 0 = true → s.flag .tileStartArm 8 t = false → c.val ∈ s.named t mask.toNat → s.running t c = true →
      ∃ u, exec (.tileStopWrite m tile mask) s = .next u ∧ u.running t c = false ∧ u.rd .chCount t c = s.rd .chCount t c) ∧
    (s.lets m .tileStartArm t 0 = true → (mask = 0 ∨ (s.arrived .tileStartArm t 0).nextNs t ≤ nsOf (s.armTime t)) →
      ∃ u, exec (.tileStartArm m tile mask) s = .next u ∧
        u.rd .tileStartArm t = toW (mask.toNat + if mask = 0 then 0 else 256) ∧ ∀ d, d < 8 → u.running t d = s.running t d) ∧
    (s.tileRuns t = true → s.flag .tileStartArm 8 t = true → nsOf (s.armDue t) = nsOf ts → ready → c.val ∈ s.named t armed →
      s.running t c = false → ∃ u, exec (.armedStart tile ts) s = .next u ∧ u.running t c = true ∧ u.rd .chCount t c = 0 ∧
        u.flag .tileStartArm 8 t = false) ∧
    (s.lets m .tileCommit t 0 = true → c.val ∈ s.named t mask.toNat → s.running t c = true → s.flag .chStat 2 t c = false →
      ∃ u, exec (.tileCommit m tile mask) s = .next u ∧ u.flag .chStat 2 t c = true ∧ (u.chan (8 * t + c)).pendNs = (s.arrived .tileCommit t 0).nextNs t) ∧
    (s.lets m .tileCommit t 0 = true → (c.val ∉ s.named t mask.toNat ∨ s.running t c = false) →
      ∃ u, exec (.tileCommit m tile mask) s = .next u ∧ u.rd .chStat t c = s.rd .chStat t c)

/-- Captures and pins: an edge that has stood for its filter time waits for its consumer, and a capture loses the second edge of one
tile cycle; a capture lands with its trimmed stamp in CH_CAP and FULL, the acknowledging read returns it and clears FULL and
OVERRUN, PM_PIN is stored, and a Course or island powers down and up (R17, R42, R66 to R68, R80, R84, R115, R234, R388). The model's
own choices in it: log entries 61, 89. -/
def Obligations.CapturesAndPins : Prop :=
  ∀ (m : Master) (g : Fin 512) (con : Consumer) (lv : Bool) (pin : Fin 256) (course : Fin 8) (isl : Fin 6) (v : Word)
    (since ts : Stamp) (s : State), s.pstate < 3 →
    let t := tileOf g
    let c := chOf g
    let ix := consumerIx con
    let pin0 := s.consumerPin con
    let z := (s.reachIn (consumerIsland con) ts).setPin pin0 lv
    let stood := since.toNat + 16 * z.filterNs con ≤ ts.toNat
    let told := match con with | .capture _ => since | _ => trimmedBy since (z.pinTrim pin0)
    (z.takes con lv = false ∨ ¬stood → exec (.inputFilterAccept con lv since ts) s = .next z) ∧
    (z.takes con lv = true → stood → (∀ q, con = .capture q → (s.chan q).capNs = 0 ∨ (s.chan q).capNs ≠ nsOf since) →
      ∃ u, exec (.inputFilterAccept con lv since ts) s = .next u ∧ u.edgesOf ix = s.edgesOf ix ++ [(told, lv)] ∧ u.regs = s.regs ∧
        (∀ j, j ≠ ix → u.edgesOf j = s.edgesOf j) ∧ u.pinIn.at false pin0 = lv) ∧
    (∀ q, con = .capture q → z.takes con lv = true → stood → (s.chan q).capNs = nsOf since → (s.chan q).capNs ≠ 0 →
      ∃ u, exec (.inputFilterAccept con lv since ts) s = .next u ∧ u.edges = s.edges ∧
        u.fld .chErrcnt 16 8 (tileOf q) (chOf q) = min 255 (s.fld .chErrcnt 16 8 (tileOf q) (chOf q) + 1)) ∧
    (∀ at_ up r, s.tileRuns t = true → s.edgesOf g = (at_, up) :: r → nsOf at_ + s.filterNs (.capture g) + 3 ≤ nsOf ts →
      let e := trimmedBy at_ (s.edgeTrim (s.physTile t) (fineOf at_) (s.consumerPin (.capture g)))
      ∃ u, exec (.captureLanding g ts) s = .next u ∧
        u.rd .chCapvLo t c = ns32 e ∧ u.rd .chCapvHi t c = (captureWords e up (s.flag .chCapvHi 31 t c)).2 ∧
        u.flag .chStat 7 t c = true ∧ u.edgesOf g = r ∧ u.fld .chEvcnt 0 16 t c = (s.fld .chEvcnt 0 16 t c + 1) % 65536) ∧
    (t < s.tiles → ∃ u, exec (.captureAckRead m g) s = .next u ∧ u.readOf (masterIx m) = s.rd .chCapvLo t c ∧
      u.latchOf (masterIx m) = s.rd .chCapvHi t c ∧ u.fld .chCapvHi 30 2 t c = 0 ∧ u.rd .chCapvLo t c = s.rd .chCapvLo t c) ∧
    (s.lets m .pmPin pin 0 = true → pinOk v = true → ∃ u, exec (.pmPinWrite m pin v) s = .next u ∧
      u.rd .pmPin pin = v &&& 0x3F7FFF ∧ ∀ p, p ≠ pin.val → u.rd .pmPin p = s.rd .pmPin p) ∧
    (s.lets m .pmPin pin 0 = true → pinOk v = false → ∃ u, exec (.pmPinWrite m pin v) s = .next u ∧
      (∀ p, u.rd .pmPin p = s.rd .pmPin p) ∧ u.fld .sysAccerr 0 16 = (s.fld .sysAccerr 0 16 + 1) % 65536) ∧
    (course.val < s.courses → s.flag .govCtrl 1 = true → s.flag .pmBank 2 course = false → s.courseIdle course = true →
      (s.courseAt.at 0 course).toNat + 160000 ≤ ts.toNat →
      ∃ u, exec (.coursePowerDown course ts) s = .next u ∧ u.flag .pmBank 2 course = true ∧ u.flag .govIsl (8 + course) = true ∧
        ∀ p ∈ coursePins course, s.fld .pmPin 6 2 p = 1 → u.padHold.at none p = some (s.pinDrive p)) ∧
    (s.flag .pmBank 2 course = true → ∃ u, exec (.coursePowerUp course) s = .next u ∧ u.flag .pmBank 2 course = false ∧
      u.flag .govIsl (8 + course) = false ∧ u.fld .govWakeCnt 16 16 = (s.fld .govWakeCnt 16 16 + 1) % 65536 ∧
      ∀ p ∈ coursePins course, u.padHold.at none p = none) ∧
    (s.flag .pmBank 2 course = false → exec (.coursePowerUp course) s = .next s) ∧
    (s.flag .govIsl isl = true → ∃ u, exec (.islandWake isl) s = .next u ∧ u.flag .govIsl isl = false ∧
      u.fld .govWakeCnt 0 16 = (s.fld .govWakeCnt 0 16 + 1) % 65536 ∧ s.wakeUp.onlyRegs u [.govIsl, .govWakeCnt]) ∧
    (course.val < s.courses → ∃ u, exec (.bankSupplyChange course lv) s = .next u ∧ u.flag .pmBank 1 course = lv ∧
      s.onlyRegs u [.pmBank])

/-- Bridge pairs and trips: BR_CTRL is stored while the pair stands still, a side whose dead time is over rises, an extended one
falls at its minimum, an accepted trip latches for the channels that select its input and stamps it, its clearing and TRIP_LVL
(R99 to R109). The model's own choices in it: log entry 12. -/
def Obligations.BridgesAndTrips : Prop :=
  ∀ (m : Master) (tile : Fin 64) (p : Fin 4) (inB : Bool) (mask : BitVec 8) (since ts : Stamp) (v : Word) (s : State), s.pstate < 3 →
    s.hasBridge = true →
    let t := tile.val
    let b := s.bridge (4 * t + p)
    let i := 2 * t + b2n inB
    let x := s.trip i
    let z := s.reachIn t ts
    (s.lets m .brCtrl t p = true → s.running t (2 * p) = false → s.running t (2 * p + 1) = false →
      (getB v 0 = true → s.linked t (2 * p) = false ∧ bothHigh (s.rd .tripLvl t) p = false) →
      ∃ u, exec (.brCtrlWrite m tile p v) s = .next u ∧ u.rd .brCtrl t p = v &&& 1) ∧
    (s.lets m .brCtrl t p = true → s.running t (2 * p) = true → ∃ u, exec (.brCtrlWrite m tile p v) s = .next u ∧
      u.rd .brCtrl t p = s.rd .brCtrl t p ∧ u.flag .chStat 10 t (2 * p) = true) ∧
    (∀ hi w, s.tileRuns t = true → s.bridged t (2 * p) = true → b.due = some (hi, w) → b.ext = none → w.toNat ≤ ts.toNat →
      s.nextCommand t (2 * p) (!hi) w.toNat = none → ∃ u, exec (.deadTimeExpiry tile p ts) s = .next u ∧
        u.sideOn t p hi = true ∧ u.sideOn t p (!hi) = s.sideOn t p (!hi) ∧ (u.bridge (4 * t + p)).due = none ∧
        (u.bridge (4 * t + p)).roseAt = w) ∧
    (∀ hi w e, s.tileRuns t = true → s.bridged t (2 * p) = true → b.due = some (hi, w) → b.ext = none → w.toNat ≤ ts.toNat →
      s.nextCommand t (2 * p) (!hi) w.toNat = some e → e < w.toNat + max 1 (b.minpw.toNat % 65536) →
      ∃ u, exec (.deadTimeExpiry tile p ts) s = .next u ∧ (∀ q, u.sideOn t p q = s.sideOn t p q) ∧
        (u.bridge (4 * t + p)).due = none ∧
        u.fld .brStat (if hi then 0 else 8) 8 t p = min 255 (s.fld .brStat (if hi then 0 else 8) 8 t p + 1)) ∧
    (∀ hi w, s.tileRuns t = true → b.ext = some (hi, w) → w.toNat ≤ ts.toNat → ∃ u, exec (.minpwExtension tile p ts) s = .next u ∧
      u.sideOn t p hi = false ∧ (u.bridge (4 * t + p)).ext = none ∧ (u.bridge (4 * t + p)).fellAt = w ∧
      u.fld .brStat 16 8 t p = min 255 (s.fld .brStat 16 8 t p + 1)) ∧
    (∀ q, s.pstate < 2 → t < s.tiles → s.flag .pmBank 2 (t / 8) = false → s.tripPin t inB = some q →
      getB (s.tripCtrl t inB) 0 = true → x.since ≠ since → x.blankAt (if s.frozen t then z.tileClock t else ts) = false →
      16 * max 1 (getF (s.tripCtrl t inB) 8 8) ≤ s.runTime (max since.toNat x.blankEnd.toNat) ts.toNat →
      ∃ u, exec (.tripAccept tile inB since ts) s = .next u ∧ (u.trip i).accepted = true ∧
        (∀ c ∈ s.tripChans t inB, u.flag .tripStat c t = true ∧ u.flag .chStat 8 t c = true) ∧
        u.rd (if inB then .tripTimeB else .tripTimeA) t = ns32 since ∧
        u.fld .tripCnt (if inB then 16 else 0) 16 t = min 65535 (s.fld .tripCnt (if inB then 16 else 0) 16 t + 1)) ∧
    (s.tripPin t inB = none → ∃ u, exec (.tripAccept tile inB since ts) s = .next u ∧ u.regs = s.regs ∧ u.trips = s.trips) ∧
    (s.tileRuns t = true → x.blanking = true → x.blankEnd.toNat ≤ ts.toNat → ∃ u, exec (.blankingEnd tile inB ts) s = .next u ∧
      (u.trip i).blanking = false ∧ u.regs = s.regs) ∧
    (∀ c, s.lets m .tripStat t 0 = true → c < 8 → mask.toNat.testBit c = true → s.stillTripped t c false = false →
      s.stillTripped t c true = false → ∃ u, exec (.tripClear m tile mask) s = .next u ∧ u.flag .tripStat c t = false) ∧
    (∀ c, s.lets m .tripStat t 0 = true → c < 8 → (mask.toNat.testBit c = false ∨ s.stillTripped t c inB = true) →
      ∃ u, exec (.tripClear m tile mask) s = .next u ∧ u.flag .tripStat c t = s.flag .tripStat c t) ∧
    (s.lets m .tripLvl t 0 = true → (∀ c, c < 8 → getF v (4 * c + 2) 2 ≠ 3) →
      (∀ q, q < 4 → s.flag .brCtrl 0 t q = true → bothHigh v q = false) → ∃ u, exec (.tripLvlWrite m tile v) s = .next u ∧
        u.rd .tripLvl t = v)

/-- Followers and match slots: a follower takes its domain's angle when it is enabled and each tooth update that follows; a
loaded slot is judged; a slot that fires makes its edge on the channel, or opens; and an open output goes LOW at its close, its
guard, the end of its burst or its clear (R73 to R78). The model's own choices in it: log entries 15, 66. -/
def Obligations.FollowersAndSlots : Prop :=
  ∀ (m : Master) (tile : Fin 64) (slot : Fin 16) (f : Fin 4) (v : Word) (ts : Stamp) (s : State), s.pstate < 3 →
    let t := tile.val
    let k := slot.val
    let c := s.slotCh t k
    let x := s.slotX (slotIx t k)
    let idx := s.slotIdx t k
    let runs := s.tileRuns t = true ∧ s.slotValid t k = true
    let free := fun (e : Stamp) => s.bridged t c = false ∧ (s.chan (8 * t + c)).cyc ≠ nsOf e
    let level := fun (u : State) => (u.chan (8 * t + c)).level
    let users := (List.range 8).filter (fun c => s.running t c && s.modeF t c == 5 && s.fld .chCtrl 16 2 t c == f.val)
    (s.lets m .folCtrl t f = true → (getF v 4 4 = s.folDom t f ∨ users = []) → ∃ u, exec (.followerEnable m tile f v) s = .next u ∧
      u.rd .folCtrl t f = v &&& 0xF1 ∧ (getB v 0 = true → u.fol (4 * t + f) = (s.dom (getF v 4 4)).traj)) ∧
    (s.lets m .folCtrl t f = true → getF v 4 4 ≠ s.folDom t f → users ≠ [] → ∃ u, exec (.followerEnable m tile f v) s = .next u ∧
      u.rd .folCtrl t f = s.rd .folCtrl t f ∧ u.fol (4 * t + f) = s.fol (4 * t + f)) ∧
    (∀ q, s.tileRuns t = true → s.folOn t f = true → (s.fol (4 * t + f)).run = true → (s.dom (s.folDom t f)).last = some q →
      q.te ≠ (s.fol (4 * t + f)).te → (s.fol (4 * t + f)).ns < nsOf ts → ∃ u, exec (.followerUpdate tile f ts) s = .next u ∧
        u.fol (4 * t + f) = ((s.fol (4 * t + f)).apply q (nsOf ts)).1) ∧
    (runs → x.judged = false → s.slotFolOk t k = true → ∃ u, exec (.slotLoad tile slot ts) s = .next u ∧
      (u.slotX (slotIx t k)).judged = true ∧ u.slotValid t k = true) ∧
    (runs → x.judged = false → s.slotFolOk t k = false → ∃ u, exec (.slotLoad tile slot ts) s = .next u ∧
      (u.entry idx).noEffect = true) ∧
    (∀ due e late, runs → s.domState x.dom = 3 → s.slotFireDue t k = some due → s.madeAt t c due = (e, late) → nsOf e ≤ nsOf ts →
      s.calHeld = false → s.running t c = true → s.modeF t c = 5 → free e →
      (1 ≤ s.slotAct t k → s.slotAct t k ≤ 3 → ∃ u, exec (.slotFire tile slot ts) s = .next u ∧
        level u = (if s.slotAct t k = 1 then true else if s.slotAct t k = 2 then false else !level s)) ∧
      (s.slotAct t k = 4 ∨ s.slotAct t k = 5 → ∃ u, exec (.slotFire tile slot ts) s = .next u ∧ level u = true ∧
        u.slotPhase t k = 1 ∧ u.ePhase idx = 4)) ∧
    (∀ due g e late, runs → s.slotAct t k = 5 → s.slotCloseDue t k = some due → s.guardDue t k = some g → due.toNat ≤ g.toNat →
      s.madeAt t c due = (e, late) → nsOf e ≤ nsOf ts → free e → ∃ u, exec (.slotCloseDuration tile slot ts) s = .next u ∧
        level u = false) ∧
    (∀ due g e late, runs → s.slotAct t k = 4 → s.slotCloseDue t k = some due → s.guardDue t k = some g → due.toNat ≤ g.toNat →
      s.madeAt t c due = (e, late) → nsOf e ≤ nsOf ts → free e → ∃ u, exec (.slotCloseAngle tile slot ts) s = .next u ∧
        level u = false) ∧
    (∀ g e late, runs → s.guardDue t k = some g → (∀ d, s.slotCloseDue t k = some d → g.toNat < d.toNat) →
      s.madeAt t c g = (e, late) → nsOf e ≤ nsOf ts → free e → ∃ u, exec (.guarded tile slot ts) s = .next u ∧ level u = false) ∧
    (∀ e, runs → s.slotPhase t k = 2 → x.clear = none → s.burstEnd? t k = some e → nsOf e ≤ nsOf ts → free e →
      ∃ u, exec (.burstEnd tile slot ts) s = .next u ∧ level u = false ∧ (u.chan (8 * t + c)).burst = 0) ∧
    (∀ n, runs → x.clear = some n → n ≤ nsOf ts →
      (s.slotPhase t k = 1 ∨ s.slotPhase t k = 2 → free (toS (16 * n)) → ∃ u, exec (.slotClear tile slot ts) s = .next u ∧
        level u = false) ∧
      (s.slotPhase t k = 0 ∨ s.slotPhase t k = 3 → ∃ u, exec (.slotClear tile slot ts) s = .next u ∧ u.chans = s.chans))

/-- The calendar's decisions: an arm that nothing forbids takes the lowest free index, holds the words given and answers its
handle, and else answers why not and changes nothing; a cancel ends what it may, comes too late for an entry that acts in its cycle,
and goes before a withdrawal of its fabric cycle; a flush ends the requester's entries of a
domain (R21, R77, R142 to R147, R158, R159). -/
def Obligations.CalendarDecisions : Prop :=
  ∀ (r : Requester) (ws : ArmWords) (handle : BitVec 16) (dom : Fin 16) (ts : Stamp) (s : State),
    let z := (s.reachIn islFabric ts).calDecides r
    let d := getF ws.w0 0 4
    let h := handle.toNat
    let idx := h % 8192
    let gen := h / 8192 % 8
    let x := z.entry idx
    let acts := x.justFired (nsOf (z.clock islFabric))
    let outranks := x.cancelled = z.fabNow + 1
    let ended := z.ePhase idx = 0 ∧ gen ≠ 0 ∧ x.gen = nextGen gen
    let barred := z.taskReq r = true ∧ z.eOwner idx ≠ ownerCode r
    let late := ∃ t, exec (.calendarCancelDecision r handle ts) s = .next t ∧ t.calAnswer = (stTooLate, toW h) ∧ s.keeps t [.calCnt2]
    let no := fun (st : Nat) (w : Word) => (.next { z with calAnswer := (st, w) } : Host.Outcome State Fault Refusal)
    let mine := (z.entriesOf dom).filter (fun i => z.cancellable i && (!z.taskReq r || z.eOwner i == ownerCode r))
    (z.armAbsent ws = true → exec (.calendarArmDecision r ws ts) s = no stAbsent 0) ∧
    (z.armAbsent ws = false → z.armDenied r ws = true → exec (.calendarArmDecision r ws ts) s = no stDenied 0) ∧
    (z.armAbsent ws = false → z.armDenied r ws = false → z.domState d = 0 →
      exec (.calendarArmDecision r ws ts) s = no stState (toW (z.unitCode (64 + d)))) ∧
    (z.armAbsent ws = false → z.armDenied r ws = false → z.domState d ≠ 0 → z.armBad ws = true →
      exec (.calendarArmDecision r ws ts) s = no stParam 0) ∧
    (z.armAbsent ws = false → z.armDenied r ws = false → z.domState d ≠ 0 → z.armBad ws = false → z.freeIndex d = none →
      exec (.calendarArmDecision r ws ts) s = no stNospace 0) ∧
    (∀ i, z.armAbsent ws = false → z.armDenied r ws = false → z.domState d ≠ 0 → z.armBad ws = false → z.freeIndex d = some i →
      ∃ t, exec (.calendarArmDecision r ws ts) s = .next t ∧ t.calAnswer = (stOk, toW ((z.entry i).gen * 8192 + i)) ∧
        t.rd .entryW1 i = ws.w1 ∧ t.rd .entryW2 i = ws.w2 ∧ t.rd .entryW3 i = ws.w3 ∧ t.rd .entryW4 i = ws.w4 ∧
        t.rd .entryW5 i = ws.w5 ∧ t.eDom i = d ∧ t.eOwner i = ownerCode r ∧
        t.rd .entryW6 i = toW ((z.entry i).gen * 8192 + i + (if z.domState d = 3 then 2 else 1) * 65536) ∧
        s.keeps t [.entryW0, .entryW1, .entryW2, .entryW3, .entryW4, .entryW5, .entryW6, .entryW7] ∧
        ∀ n j, j ≠ i → t.rd n j = s.rd n j) ∧
    (z.ePhase idx = 0 ∨ gen = 0 ∨ gen ≠ x.gen → (ended → ¬outranks ∧ acts = false) →
      ∃ t, exec (.calendarCancelDecision r handle ts) s = .next t ∧ t.calAnswer = (stStale, toW h) ∧ s.keeps t [.calCnt3]) ∧
    (ended → outranks → ∃ t, exec (.calendarCancelDecision r handle ts) s = .next t ∧ t.calAnswer = (stOk, toW h) ∧ t.regs = s.regs) ∧
    (ended → ¬outranks → acts = true → (barred → exec (.calendarCancelDecision r handle ts) s = no stDenied (toW h)) ∧ (¬barred → late)) ∧
    (z.ePhase idx ≠ 0 → gen ≠ 0 → gen = x.gen →
      (barred → exec (.calendarCancelDecision r handle ts) s = no stDenied (toW h)) ∧
      (¬barred → z.cancellable idx = true → acts = false →
        ∃ t, exec (.calendarCancelDecision r handle ts) s = .next t ∧ t.calAnswer = (stOk, toW h) ∧ t.ePhase idx = 0 ∧
          (t.entry idx).gen = nextGen x.gen) ∧
      (¬barred → z.cancellable idx = false ∨ acts = true → late)) ∧
    (s.domains ≤ dom.val → ∃ t, exec (.calendarFlushDecision r dom ts) s = .next t ∧ t.calAnswer = (stAbsent, 0) ∧ t.regs = s.regs) ∧
    (dom.val < s.domains → ∃ t, exec (.calendarFlushDecision r dom ts) s = .next t ∧ t.calAnswer = (stOk, toW mine.length) ∧
      (∀ i ∈ mine, t.ePhase i = 0) ∧ ∀ i, i ∉ mine → t.ePhase i = s.ePhase i)

/-- Staging and issuing: an entry at its staging point goes into the lowest free slot of its tile or waits for one, a judged
POST entry posts its event in its fabric cycle (R149 to R151); and the calendar's registers keep what R140 and R156 allow. The
model's own choices in it: log entry 14. -/
def Obligations.CalendarWork : Prop :=
  ∀ (m : Master) (e : Fin 8192) (dom : Fin 16) (size : Bool) (v : Word) (ts : Stamp) (s : State), s.pstate < 3 →
    let i := e.val
    let t := s.eTile i
    let d := dom.val
    let z2 := 2 * 2 ^ s.fld .calCqSize 0 4 d
    let rd := s.fld .calCqRd 0 13 d
    let n := getF v 0 13
    let due1 := s.stageable i (nsOf ts) = true ∧ s.calHeld = false ∧ s.tileBars t = false ∧
      ∀ j ∈ s.entriesOf (s.eDom i), j ≠ i → s.eTile j ≠ t
    let bad := fun (r : RegName) (c : Instr) => ∃ u, exec c s = .next u ∧ u.flag .calStat 16 = true ∧ (s.arrived r d 0).onlyRegs u [.calStat]
    (∀ k, due1 → s.freeSlot t = some k → ∃ u, exec (.staging e ts) s = .next u ∧ u.slotValid t k = true ∧ u.ePhase i = 3 ∧
      u.slotIdx t k = s.fld .entryW6 0 13 i ∧ u.slotCh t k = s.eF .entryW3 0 3 i ∧ u.slotAct t k = s.eAct i ∧
      u.rd .entryW7 i = toW (t + k * 64) ∧ (∀ j, j ≠ k → u.slotValid t j = s.slotValid t j)) ∧
    (due1 → s.freeSlot t = none → (s.entry i).waits = false → ∃ u, exec (.staging e ts) s = .next u ∧ (u.entry i).waits = true ∧
      s.keeps u [.calSlotuse]) ∧
    (∀ due, s.ePhase i = 2 → s.calHeld = false → (s.entry i).issueDue = some due → (∀ p ∈ s.issueList, p.2.2 = i) →
      max (divUp due 32) (s.calIssue + 1) ≤ fabCycle ts → ∃ u, exec (.calendarActionIssue e ts) s = .next u ∧
        u.calIssue = max (divUp due 32) (s.calIssue + 1) ∧
        (s.eAct i = 9 → s.flag .entryW0 9 i = false → s.ctxState (s.rd .entryW3 i).toNat = 2 →
          (s.ctx (s.rd .entryW3 i).toNat).evq.length < 8 → (u.ctx (s.rd .entryW3 i).toNat).evq =
            (s.ctx (s.rd .entryW3 i).toNat).evq ++ [(s.rd .entryW4 i, evTag 0 (s.eDom i))])) ∧
    (s.lets m .calPart d 0 = true → s.partBad d v = false → s.entriesOf d = [] → ∃ u, exec (.calPartWrite m dom v) s = .next u ∧
      u.rd .calPart d = v &&& 0x3FFF1FFF ∧ (s.arrived .calPart d 0).onlyRegs u [.calPart]) ∧
    (s.lets m .calPart d 0 = true → (s.partBad d v = true ∨ s.entriesOf d ≠ []) → bad .calPart (.calPartWrite m dom v)) ∧
    (s.lets m .calCqRd d 0 = true → n < z2 → (n + z2 - rd) % z2 ≤ (s.fld .calCqWr 0 13 d + z2 - rd) % z2 →
      ∃ u, exec (.cqRdWrite m dom v) s = .next u ∧ u.rd .calCqRd d = toW n ∧ (s.arrived .calCqRd d 0).onlyRegs u [.calCqRd]) ∧
    (s.lets m .calCqRd d 0 = true → z2 ≤ n → bad .calCqRd (.cqRdWrite m dom v)) ∧
    (s.lets m .calCqBase d 0 = true → s.fld .calCqWr 0 13 d = rd → queueFits (v &&& 0x3FFFF0).toNat (s.fld .calCqSize 0 4 d) = true →
      ∃ u, exec (.cqConfigWrite m dom false v) s = .next u ∧ u.rd .calCqBase d = v &&& 0x3FFFF0 ∧ (s.arrived .calCqBase d 0).onlyRegs u [.calCqBase]) ∧
    (s.lets m .calCqSize d 0 = true → s.fld .calCqWr 0 13 d = rd → queueFits (s.rd .calCqBase d).toNat (getF v 0 4) = true →
      ∃ u, exec (.cqConfigWrite m dom true v) s = .next u ∧ u.rd .calCqSize d = v &&& 0xF ∧ (s.arrived .calCqSize d 0).onlyRegs u [.calCqSize]) ∧
    (s.lets m (if size then .calCqSize else .calCqBase) d 0 = true → s.fld .calCqWr 0 13 d ≠ rd → bad (if size then .calCqSize else .calCqBase) (.cqConfigWrite m dom size v)) ∧
    (s.lets m .calCtrl 0 0 = true → ∃ u, exec (.calClrCnt m) s = .next u ∧
      (s.arrived .calCtrl 0 0).onlyRegs u [.calCnt0, .calCnt1, .calCnt2, .calCnt3, .calSlotuse] ∧
      ∀ d, d < 16 → u.rd .calCnt0 d = 0 ∧ u.rd .calCnt1 d = 0 ∧ u.rd .calCnt2 d = 0 ∧ u.rd .calCnt3 d = 0)

/-- The registers of a domain: EN enables a domain whose configuration R118 allows, which then SEEKs, and else leaves it OFF; EN
written 0 turns it OFF and takes its entries out of the calendar; the others are stored or dropped by R119; and the votes of a
domain are counted (R118 to R120, R139, R161). -/
def Obligations.DomainRegisters : Prop :=
  ∀ (m : Master) (dom : Fin 16) (off : Nat) (v : Word) (ts : Stamp) (s : State), s.pstate < 3 →
    let d := dom.val
    let old := s.rd .domCtrl d
    let fits := getF old 7 2 ≠ 3 ∧ ¬(getB old 2 = true ∧ getB old 11 = true)
    (s.lets m .domCtrl d 0 = true → fits → getB old 0 = false → s.domEnableOk d = true → ∃ t, exec (.domainEnable m dom) s = .next t ∧
      t.domState d = 1 ∧ t.flag .domCtrl 0 d = true ∧ (t.dom d).hist = []) ∧
    (s.lets m .domCtrl d 0 = true → fits → getB old 0 = false → s.domEnableOk d = false → ∃ t, exec (.domainEnable m dom) s = .next t ∧
      t.domState d = s.domState d ∧ t.flag .domCtrl 0 d = false ∧ t.flag .domEvt 10 d = true) ∧
    (s.lets m .domCtrl d 0 = true → fits → getB old 0 = true → ∃ t, exec (.domainEnable m dom) s = .next t ∧
      t.domState d = s.domState d ∧ t.rd .domCtrl d = old &&& 0xFFF) ∧
    (s.lets m .domCtrl d 0 = true → fits → getB old 0 = true → ∃ t, exec (.domainDisable m dom) s = .next t ∧
      t.domState d = 0 ∧ t.flag .domCtrl 0 d = false ∧ ∀ i, i < 8192 → t.eDom i = d → t.ePhase i = 0) ∧
    (∀ k, off < 0x1000 → regAt (0x80000 + d * 0x1000 + off) = some k → k.name.block = .dom → k.name ∉ [.domCtrl, .domEvt] →
      s.lets m k.name k.i k.j = true → s.domBad k.i k.name v = false → ∃ t, exec (.domainConfigWrite m dom off v) s = .next t ∧
        t.rd k.name k.i k.j = ((s.rd k.name k.i k.j &&& ~~~(toW k.name.row.rw)) ||| (v &&& toW k.name.row.rw)) ∧
        (s.arrived k.name k.i k.j).onlyRegs t [k.name, .phmStat]) ∧
    (∀ k, off < 0x1000 → regAt (0x80000 + d * 0x1000 + off) = some k → k.name.block = .dom → k.name ∉ [.domCtrl, .domEvt] →
      s.lets m k.name k.i k.j = true → s.domBad k.i k.name v = true → ∃ t, exec (.domainConfigWrite m dom off v) s = .next t ∧
        t.fld .domCnt3 16 8 k.i = min 255 (s.fld .domCnt3 16 8 k.i + 1) ∧ t.flag .domEvt 10 k.i = true ∧
        s.keeps t [.domCnt3, .domEvt, .intPendSet, .vecStat]) ∧
    (s.lets m .domCtrl d 0 = true → ∃ t, exec (.domClrCnt m dom) s = .next t ∧
      (s.arrived .domCtrl d 0).onlyRegs t [.domCnt0, .domCnt1, .domCnt2, .domCnt3, .phmStat] ∧ t.rd .domCnt0 d = 0 ∧ t.rd .domCnt1 d = 0 ∧
      t.rd .domCnt2 d = 0 ∧ t.rd .domCnt3 d = 0 ∧ ∀ i, i < 4 → t.fld .phmStat 8 24 d i = 0) ∧
    (d < s.domains → ∃ t, exec (.domainVote dom ts) s = .next t ∧ t.regs = s.regs ∧
      t.fltTotal.at 0 0x0D = min 65535 (s.fltTotal.at 0 0x0D + 1))

/-- The primary wheel: an accepted edge is taken from its queue and judged. In STALL it begins a new search, in HALF and SYNC it
is noise, or the next tooth, whose position and time the domain shows, or a mismatch, which loses SYNC unless reverse rotation is
judged in the same cycle; its end tells of reverse rotation; late teeth, stalls and searches that time out (R115 to R117, R120,
R121, R128, R130, R131). The model's own choices in it: log entry 57. -/
def Obligations.PrimaryWheel : Prop :=
  ∀ (dom : Fin 16) (e ts : Stamp) (r : List (Stamp × Bool)) (s : State), s.pstate < 3 →
    let d := dom.val
    let x := s.dom d
    let lv := s.activeLevel d
    let live := s.domState d = 2 ∨ s.domState d = 3
    let own := s.flag .domCtrl 0 d = true ∧ s.mirror d = false
    let thr := 16 * getF x.dir 0 16
    let w := e.toNat - x.wStart.toNat
    let rev := if getB x.dir 16 then w < thr else thr < w
    let kind := (s.takeConfig d).classify d e
    let yields := (s.takeConfig d).reverseWaits d ((s.reachIn islDomain ts).clock islDomain)
    (own → s.edgesOf (512 + d) = (e, lv) :: r → s.domState d = 4 → ∃ t, exec (.primaryEdge dom ts) s = .next t ∧ t.domState d = 1 ∧
      t.edgesOf (512 + d) = r ∧ (t.dom d).hist = [e]) ∧
    (own → s.edgesOf (512 + d) = (e, !lv) :: r → ∃ t, exec (.primaryEdge dom ts) s = .next t ∧ t.regs = s.regs ∧ t.edges = s.edges) ∧
    (own → s.edgesOf (512 + d) = (e, lv) :: r → live → x.upd = none →
      (kind = .noise → ∃ t, exec (.primaryEdge dom ts) s = .next t ∧ t.domState d = s.domState d ∧ (t.dom d).pos = x.pos ∧
        t.fld .domCnt0 16 8 d = min 255 (s.fld .domCnt0 16 8 d + 1)) ∧
      (kind = .mismatch → yields = true → ∃ t, exec (.primaryEdge dom ts) s = .next t ∧ t.domState d = s.domState d ∧
        t.edgesOf (512 + d) = r) ∧
      (kind = .mismatch → yields = false → ∃ t, exec (.primaryEdge dom ts) s = .next t ∧ t.domState d = 1 ∧ (t.dom d).hist = [e] ∧
        t.fld .domCnt1 8 8 d = min 255 (s.fld .domCnt1 8 8 d + 1)) ∧
      (∀ q long recov, kind = .real q long recov → ∃ t, exec (.primaryEdge dom ts) s = .next t ∧ t.domState d = s.domState d ∧
        (t.dom d).pos = (x.pos + q) % s.npc d ∧ (t.dom d).tp = e ∧ t.rd .domTtime d = ns32 e ∧
        t.fld .domCnt0 0 16 d = (s.fld .domCnt0 0 16 d + 1) % 65536)) ∧
    (own → s.edgesOf (512 + d) = (e, !lv) :: r → x.wTooth = false → ∃ t, exec (.primaryInactiveEdge dom ts) s = .next t ∧
      t.regs = s.regs ∧ t.edgesOf (512 + d) = r) ∧
    (own → s.edgesOf (512 + d) = (e, !lv) :: r → x.wTooth = true → x.dirSrc = 1 → rev → live →
      ∃ t, exec (.primaryInactiveEdge dom ts) s = .next t ∧ t.domState d = 5 ∧ t.flag .domStat 6 d = true ∧
        t.fld .domCnt1 24 8 d = min 255 (s.fld .domCnt1 24 8 d + 1)) ∧
    (own → s.edgesOf (512 + d) = (e, !lv) :: r → x.wTooth = true → x.dirSrc = 1 → ¬rev → s.domState d = 5 →
      ∃ t, exec (.primaryInactiveEdge dom ts) s = .next t ∧ t.domState d = 1 ∧ t.flag .domStat 6 d = false) ∧
    (live → s.mirror d = false → s.flag .domStat 3 d = false → s.edgeWaits d ts = false →
      3 * x.s * s.tExp d ≤ 2 * (ts.toNat - x.tp.toNat) → ∃ t, exec (.toothLate dom ts) s = .next t ∧ t.flag .domStat 3 d = true ∧
        t.fld .domCnt3 24 8 d = min 255 (s.fld .domCnt3 24 8 d + 1) ∧ t.domState d = s.domState d ∧
        s.keeps t [.domStat, .domEvt, .domCnt3, .intPendSet, .vecStat]) ∧
    (live → s.mirror d = false → s.edgeWaits d ts = false → s.reverseWaits d ts = false →
      x.tp.toNat + s.stallTime d ≤ ts.toNat →
      ∃ t, exec (.stallTimeout dom ts) s = .next t ∧ t.domState d = 4 ∧
        t.fld .domCnt1 16 8 d = min 255 (s.fld .domCnt1 16 8 d + 1) ∧ t.flag .domEvt 3 d = true) ∧
    (s.domState d = 1 → s.edgeWaits d ts = false → x.lastEdge.toNat + getF x.stall 8 17 * 16000 ≤ ts.toNat →
      ∃ t, exec (.seekTimeout dom ts) s = .next t ∧ (t.dom d).hist = [] ∧ (t.dom d).confirm = none ∧ t.regs = s.regs)

/-- The angle and the phase wheel: a tooth update makes the new segment, a FAST run ends, the angle is judged up to the present;
a phase tooth that matches turns HALF into SYNC, one that matches nothing is counted; a measured edge gives its angle and
deviation; and a mirror takes its source's state and position (R123 to R127, R133 to R137). The model's own choices in it: log
entries 57, 58. -/
def Obligations.AngleAndPhase : Prop :=
  ∀ (dom : Fin 16) (i : Fin 4) (dev : Fin 512) (e ts : Stamp) (w1 w2 w3 w4 : Word) (r : List (Stamp × Bool)) (s : State),
    s.pstate < 3 →
    let d := dom.val
    let x := s.dom d
    let n := nsOf ts
    let live := s.domState d = 2 ∨ s.domState d = 3
    let ix := 544 + 4 * d + i.val
    let a := s.angleStamp d e
    let follows := s.flag .domCtrl 0 d = true ∧ s.mirror d = true ∧ s.fld .domMirror 0 9 d = dev.val ∧
      s.fld .domMirror 16 4 d = getF w1 10 4
    let same := getB w1 18 = s.revolution d ∧ getF w1 19 11 = s.npos d ∧ getF w1 30 2 = s.missOf d
    let tell := exec (.angleMessage dom dev w1 w2 w3 w4 ts) s
    (∀ q, live → x.upd = some q → x.traj.ns < n → ∃ t, exec (.toothUpdate dom ts) s = .next t ∧ (t.dom d).upd = none ∧
      (t.dom d).last = some q ∧ (t.dom d).traj.ns = n ∧ t.domU d n = (x.traj.apply q n).1.angleAt n) ∧
    (live → x.traj.fast = true → x.traj.fastAt n = false → ∃ t, exec (.fastRunEnd dom ts) s = .next t ∧
      (t.dom d).traj.fast = false ∧ (t.dom d).traj.ns = n ∧ t.domU d n = s.domU d n) ∧
    (live → ∃ t, exec (.angleInterpolation dom ts) s = .next t ∧ (∀ k, t.domU d k = s.domU d k) ∧
      (s.domState d = 3 → s.cycleLen d ≠ 0 → (t.dom d).traj.seen = max x.traj.seen n)) ∧
    (s.edgesOf (528 + d) = (e, s.toothLevel d) :: r → ∃ t, exec (.phaseLeadingEdge dom ts) s = .next t ∧ t.edgesOf (528 + d) = r ∧
      t.regs = s.regs ∧ (live → x.past = [] → x.traj.ns ≤ nsOf e → (t.dom d).lead = some a)) ∧
    (∀ l k q, s.edgesOf (528 + d) = (e, !s.toothLevel d) :: r → x.lead = some l → s.domState d = 2 →
      s.phaseMatches d l a 0 = k :: q → s.phaseMatches d l a (s.cycleLen d / 65536 / 2) = [] → s.mismatchWaits d ts = false →
      ∃ t, exec (.phaseToothEdge dom ts) s = .next t ∧ t.domState d = 3 ∧ (t.dom d).lastPh = some k ∧ (t.dom d).pos = x.pos) ∧
    (∀ l, s.edgesOf (528 + d) = (e, !s.toothLevel d) :: r → x.lead = some l → live → s.phaseMatches d l a 0 = [] →
      s.phaseMatches d l a (s.cycleLen d / 65536 / 2) = [] → ∃ t, exec (.phaseToothEdge dom ts) s = .next t ∧
        t.domState d = s.domState d ∧ t.fld .domCnt3 0 8 d = min 255 (s.fld .domCnt3 0 8 d + 1)) ∧
    (∀ lv, s.edgesOf ix = (e, lv) :: r → s.domState d = 3 → ∃ t, exec (.phmEdge dom i ts) s = .next t ∧ t.edgesOf ix = r ∧
      t.rd .phmLast d i = toW a ∧
      (s.nearestNom d i a = none → t.fld .phmStat 8 8 d i = min 255 (s.fld .phmStat 8 8 d i + 1)) ∧
      ∀ j v, s.nearestNom d i a = some (j, v) → v.natAbs ≤ s.fld .phmWin 0 24 d i →
        t.rd .phmDev d i = intW v ∧ t.fld .phmStat 0 3 d i = j % 8 ∧ t.fld .phmStat 16 16 d i = (s.fld .phmStat 16 16 d i + 1) % 65536) ∧
    (follows → ¬same → ∃ t, tell = .next t ∧ t.domState d = 1 ∧ t.fld .domCnt3 16 8 d = min 255 (s.fld .domCnt3 16 8 d + 1)) ∧
    (follows → same → s.flag .droneStat 2 = true → getF w1 14 3 = 3 → ¬live → ∃ t, tell = .next t ∧ t.domState d = 3 ∧
      (t.dom d).pos = getF w1 0 10 ∧ (t.dom d).tp = nearStamp ((s.reachIn islDomain ts).clock islDomain) w2.toNat (getF w3 0 4) ∧ t.rd .domRate d = w4) ∧
    (follows → same → s.flag .droneStat 2 = true → getF w1 14 3 = 4 → ∃ t, tell = .next t ∧ t.domState d = 4)

/-- The Governor's own work: the fixed power is shown, a refill gives each bucket that temperature does not stop its share of R
and what the ones before it left, up to its depth; a refresh settles what the engine's instructions were charged, admits the classes
above 0 and counts the cycles deferred; readings are shown, and the level follows the hottest; the forecast's draw is what was
settled in the last 10 ms (R222 to R224, R229 to R233). The Governor's registers: each side writes its own half of the
budget and Keystone both; a configuration within its limits is stored and one outside them dropped and counted; CLR_CNT clears
the counts (R226 to R228). The model's own choices in it: log entries 20, 21, 92. -/
def Obligations.Governor : Prop :=
  (∀ (mw : BitVec 16) (eng : Fin 4) (isl : Fin 6) (temps : List Int) (ts : Stamp) (s : State),
     s.pstate < 3 →
     let z := s.reachIn islFabric ts
     let temp := fun (i : Nat) => temps.getD i 0 + s.tsOffset i
     let r := s.thermF * (s.budget - s.fld .govPfixed 0 16) / 256
     let give := fun (k : Nat) (o : Int) => min (s.level k + o) (max (s.level k) (s.depth k))
     let rest := fun (k : Nat) (o : Int) => if s.stopped k then o else o - (give k o - s.level k)
     let o1 : Int := Int.ofNat (max (s.shareOf 1 r) (s.fld .govFloor 0 16 * 32000))
     let o2 : Int := Int.ofNat (s.shareOf 2 r) + rest 1 o1
     let o3 : Int := Int.ofNat (s.shareOf 3 r) + rest 2 o2
     let after := fun (k : Nat) (o : Int) => if s.stopped k then s.level k else give k o
     (∃ t, exec (.pfixedUpdate mw ts) s = .next t ∧ t.rd .govPfixed = toW mw.toNat ∧ s.keeps t [.govPfixed]) ∧
     (∃ t, exec (.bucketRefill ts) s = .next t ∧ t.rd .govRefill = toW r ∧ t.level 1 = after 1 o1 ∧ t.level 2 = after 2 o2 ∧
       t.level 3 = after 3 o3) ∧
     (eng.val < s.engines → ∃ t, exec (.admissionRefresh eng ts) s = .next t ∧
       (∀ k, 1 ≤ k → k ≤ 3 → t.level k = max (s.level k - 2 * (s.unsettled.at 0 (4 * eng + k) : Nat))
           (min (s.level k) (-(128 * s.fld .govEpi 0 16 7 : Nat) : Int)) ∧
         (t.admits.at 0 eng).testBit k = decide (0 < t.level k) ∧
         t.fld .govDefer 0 32 (k - 1) = (s.fld .govDefer 0 32 (k - 1) + if z.defers eng k then
           (z.now.toNat - (s.settledAt.at 0 eng).toNat) / 20 else 0) % 2 ^ 32) ∧
       (∀ k, k < 4 → t.unsettled.at 0 (4 * eng + k) = 0) ∧ t.settledAt.at 0 eng = z.now ∧
       (∀ j, j ≠ eng.val → t.admits.at 0 j = s.admits.at 0 j) ∧ s.keeps t [.govDefer, .govEnergy, .govLevel, .govStat]) ∧
     (∃ t, exec (.sensorReading temps ts) s = .next t ∧ ∀ i, i < 8 → t.fld .govTs 0 16 i = encS 16 (temp i)) ∧
     (∀ x : Int, -880 ≤ x → x ≤ 2800 → (∀ i, i < 8 → temp i = x ∧ s.sensorFailed i = false) →
       ∃ t, exec (.sensorReading temps ts) s = .next t ∧ t.thermal = s.levelAt s.thermal x ∧ t.flag .govStat 6 = false ∧
         t.fld .govTj 0 16 = encS 16 x) ∧
     ((∀ i, i < 8 → 2800 < temp i ∧ s.sensorFailed i = true) →
       ∃ t, exec (.sensorReading temps ts) s = .next t ∧ t.thermal = 3 ∧ t.flag .govStat 6 = true) ∧
     (∃ t, exec (.forecast ts) s = .next t ∧ t.rd .govFcTime = ns32 ts ∧ t.drawNow = 0 ∧ t.drawPast = (s.drawNow :: s.drawPast).take 9 ∧
       s.keeps t [.govFc, .govFcTime, .govEvt, .intPendSet, .vecStat] ∧
       t.fld .govFc 0 16 = min 65535 (s.fld .govPfixed 0 16 + min (s.fld .govRefill 0 16 +
         (s.fld .govFloor 0 16 - s.fld .govShare 0 8 * s.fld .govRefill 0 16 / 256)) s.draw)) ∧
     (s.flag .govCtrl 0 = true → z.islandIdle isl = true → ∃ t, exec (.islandGate isl ts) s = .next t ∧ t.flag .govIsl isl = true ∧
       s.keeps t [.govIsl])) ∧
  (∀ (m : Master) (r : GovReg) (v : Word) (s : State), s.pstate < 3 →
     let n := (govReg r).1
     let i := (govReg r).2
     (s.lets m .govBudgetMw 0 0 = true → ∃ t, exec (.govBudgetWrite m v) s = .next t ∧
       s.keeps t [.govBudgetMw, .govEvt, .intPendSet, .vecStat] ∧
       (s.isKeystone m = true → t.rd .govBudgetMw = v) ∧
       (m = .supervisor → t.fld .govBudgetMw 16 16 = getF v 16 16 ∧ t.fld .govBudgetMw 0 16 = s.fld .govBudgetMw 0 16) ∧
       (m = .host → t.fld .govBudgetMw 0 16 = getF v 0 16 ∧ t.fld .govBudgetMw 16 16 = s.fld .govBudgetMw 16 16)) ∧
     (s.lets m n i 0 = true → r ≠ .fcTime → govBad r v = false → ∃ t, exec (.govConfigWrite m r v) s = .next t ∧
       t.rd n i = v &&& toW n.row.rw ∧ (r ≠ .ctrl → s.keeps t [n, .govLevel])) ∧
     (s.lets m n i 0 = true → r ≠ .fcTime → govBad r v = true → ∃ t, exec (.govConfigWrite m r v) s = .next t ∧
       t.flag .govStat 7 = true ∧ t.fld .govCnt 0 8 = min 255 (s.fld .govCnt 0 8 + 1) ∧
       s.keeps t [.govStat, .govCnt, .govEvt, .intPendSet, .vecStat]) ∧
     (s.lets m n i 0 = true → r = .fcTime → exec (.govConfigWrite m r v) s = .next (s.arrived n i 0)) ∧
     (s.lets m .govCtrl 0 0 = true → ∃ t, exec (.govClrCnt m) s = .next t ∧ (s.arrived .govCtrl 0 0).onlyRegs t [.govDefer, .govWakeCnt, .govCnt] ∧
       t.rd .govWakeCnt = 0 ∧ t.rd .govCnt = 0 ∧ ∀ k, k < 3 → t.rd .govDefer k = 0))

/-- Power states: a request that passes the checks of R235 is under way, and else its status says why not; the commit enters the
state asked for, once every engine is at a boundary; a wake, or in Still and Doze a request to an engine, leaves it for Run, from
Nap and Slumber with the master advanced and WAKE# asserted; and the watch slots that answer an edge of their source, and the alarm
at its count, wake the device (R39, R235 to R240). The model's own choices in it: log entry 29. -/
def Obligations.PowerStates : Prop :=
  ∀ (m : Master) (v ao : Word) (src : WatchSrc) (level : Bool) (n : Fin 16) (ts : Stamp) (s : State),
    let k : RegKey := ⟨.govPstateReq, 0, 0⟩
    let goal := getF v 0 3
    let asks := s.pstate < 3 ∧ (m = .host ∨ m = .supervisor) ∧ s.refusal m 138 k = none
    let told := fun (st : Nat) => ∃ t, exec (.govPstateReq m v) s = .next t ∧ t.fld .govPstate 16 16 = st ∧ t.pwrReq = s.pwrReq ∧
      s.tick.onlyRegs t [.govPstate]
    let z := s.reach ts
    let answers := fun (n : Nat) => s.watched src && s.watches n src && s.triggers n level
    let q := ao.toNat * 1953125 + s.aoRem
    (asks → s.tick.pwrBusy = false → 1 ≤ goal → goal ≤ 5 → s.switchoverOn = false → s.pstateStateBad goal (getB v 3) = false →
      ∃ t, exec (.govPstateReq m v) s = .next t ∧ t.fld .govPstate 16 16 = stAccepted ∧ t.flag .govPstate 3 = true ∧
        t.pstate = s.pstate ∧ t.pwrReq = some { target := goal, force := getB v 3, host := m == .host, unchecked := false, op := none }) ∧
    (asks → s.tick.pwrBusy = true → told stBusy) ∧
    (asks → s.tick.pwrBusy = false → (goal = 0 ∨ 5 < goal) → told stParam) ∧
    (asks → s.tick.pwrBusy = false → 1 ≤ goal → goal ≤ 5 → s.switchoverOn = false → s.pstateStateBad goal (getB v 3) = true → told stState) ∧
    (s.pstate < 3 → m = .host → s.refusal m 138 k = some .hold → s.held 138 = true → s.tick.pwrBusy = false → 1 ≤ goal → goal ≤ 5 →
      told stDenied) ∧
    (∀ r, s.pwrReq = some r → r.unchecked = false → s.switchoverOn = false → s.enginesPark = true → 1 ≤ r.target → r.target ≤ 5 →
      ∃ t, exec (.powerStateCommit ts) s = .next t ∧ t.pstate = r.target ∧ t.pwrReq = none) ∧
    (s.pwrReq = none ∨ s.switchoverOn = true ∨ s.enginesPark = false → exec (.powerStateCommit ts) s = .next z) ∧
    ((s.pstate = 1 ∨ s.pstate = 2) → s.exiting = true → ∃ t, exec (.powerStateExit ao ts) s = .next t ∧ t.pstate = 0 ∧ t.waking = false) ∧
    ((s.pstate = 3 ∨ s.pstate = 4) → s.waking = true → ∃ t, exec (.powerStateExit ao ts) s = .next t ∧ t.pstate = 0 ∧
      t.waking = false ∧ t.wakePin = true ∧ t.rd .droneSlept = ao ∧ t.aoRem = q % 4 ∧
      (s.now.toNat + q / 4 < 2 ^ 64 → t.now.toNat = max ts.toNat (s.now.toNat + q / 4))) ∧
    (s.pstate = 0 ∨ 5 ≤ s.pstate ∨ s.exiting = false → exec (.powerStateExit ao ts) s = .next z) ∧
    (s.pwrReq = none → 2 ≤ s.pstate → answers n = true →
      ∃ t, exec (.watchSlotFire src level ts) s = .next t ∧ t.flag .wwStat n = true ∧ t.waking = true ∧ s.keeps t [.wwStat]) ∧
    (s.pwrReq = none → s.pstate < 2 ∨ (∀ j, j < 16 → answers j = false) → ∃ t, exec (.watchSlotFire src level ts) s = .next t ∧
      t.regs = s.regs ∧ t.waking = s.waking) ∧
    (s.pwrReq = none → 3 ≤ s.pstate ∨ z.aoView = s.rd .govAoAlarm → ∃ t, exec (.alarm ts) s = .next t ∧
      t.rd .govAoCnt = s.rd .govAoAlarm ∧ s.keeps t [.govAoCnt, .wwStat] ∧
      (2 ≤ s.pstate → s.slotKind n = 6 → t.flag .wwStat n = true ∧ t.waking = true)) ∧
    (s.pstate < 3 → z.aoView ≠ s.rd .govAoAlarm → exec (.alarm ts) s = .next z)

/-- Interrupts: at a boundary a presented source below the level is entered, its frame pushed, PC at the level's vector and
CAUSE naming it; without a usable frame or vector the context faults; RETE takes the frame back; NOINT that has lasted its limit
is cleared (R197 to R204). The model's own choices in it: log entries 80, 86. -/
def Obligations.InterruptEntryAndReturn : Prop :=
  ∀ (x : Fin 128) (ts : Stamp) (s : State), s.pstate < 3 →
    let c := s.ctx x
    let a := c.sp - 32
    let u := s.issued x
    let w := fun (i : Nat) => s.tm (c.sp.toNat + 4 * i)
    let z := s.reachIn (islEngine (x / 32)) ts
    let taken := fun (l n : Nat) => x.val / 32 < s.engines ∧ z.atBoundary x = true ∧ z.chosen z.now x = true ∧
      z.takable x (z.ilvl x) = some (l, n)
    let faults := fun (code : Nat) => ∃ t, exec (.interruptEntry x ts) s = .next t ∧
      (t.ctx x).fault = some { code := code, pc := c.pc, addr := 0 } ∧ (t.ctx x).pc = c.pc ∧ t.taskMem = s.taskMem
    (∀ l n v, taken l n → s.frameOk x a = true → s.vectorOf x l = some v → ∃ t, exec (.interruptEntry x ts) s = .next t ∧
      (t.ctx x).pc = v ∧ (t.ctx x).sp = a ∧ (t.ctx x).cause = causeOf l n ∧ (t.ctx x).prog = 0 ∧ t.ilvl x = l % 32 ∧
      getB (t.psw x) psNoint = false ∧ t.ctxState x = 2 ∧ t.gpr = s.gpr ∧
      (∀ i, i < 8 → t.tm (a.toNat + 4 * i) = [c.pc, s.psw x, c.cause, c.prog, s.g x 0, s.g x 1, s.g x 2, s.g x 3].getD i 0) ∧
      (n < 256 → t.active n = true ∧ t.pend n = false) ∧
      ∀ b, b < a.toNat ∨ a.toNat + 32 ≤ b → t.taskMem.byte b = s.taskMem.byte b) ∧
    (∀ l n, taken l n → s.frameOk x a = false → faults 0x15) ∧
    (∀ l n, taken l n → s.frameOk x a = true → s.vectorOf x l = none → faults 0x16) ∧
    (z.atBoundary x = false ∨ z.chosen z.now x = false ∨ z.takable x (z.ilvl x) = none → exec (.interruptEntry x ts) s = .next z) ∧
    (s.starts x 0x54 → s.ilvl x < 16 → getF c.cause 0 8 ≠ 1 → s.frameOk x c.sp = true → s.badWordIn c.sp.toNat 32 = none →
      (u 0x54).takable x (getF (w 1) 8 5) = none → s.ceil x ≤ getF (w 1) 4 2 → s.ilvl x < getF (w 1) 8 5 →
      ∃ t, exec (.rete x) s = .next t ∧ (t.ctx x).pc = w 0 ∧ (t.ctx x).sp = c.sp + 32 ∧ (t.ctx x).cause = w 2 ∧
        (t.ctx x).prog = w 3 ∧ t.g x 0 = w 4 ∧ t.g x 1 = w 5 ∧ t.g x 2 = w 6 ∧ t.g x 3 = w 7 ∧ t.ilvl x = getF (w 1) 8 5 ∧
        (∀ q : GReg, 4 ≤ q.val → t.g x q = s.g x q) ∧ t.taskMem = s.taskMem) ∧
    (s.starts x 0x54 → s.ilvl x = 16 → getF c.cause 0 8 ≠ 1 → exec (.rete x) s = .next ((u 0x54).raiseFault x fcReturn)) ∧
    (getB (s.psw x) psNoint = true → c.nointAt.toNat + 20 * s.cf .ctxNointLim 0 12 x ≤ ts.toNat →
      ∃ t, exec (.nointExpiry x ts) s = .next t ∧ getB (t.psw x) psNoint = false ∧ getB (t.psw x) psOverstay = true ∧
        t.cf .ctxErrcnt 24 8 x = min 255 (s.cf .ctxErrcnt 24 8 x + 1) ∧ (t.ctx x).pc = c.pc ∧ t.gpr = s.gpr ∧ t.taskMem = s.taskMem)

/-- Faults and machine checks: a faulted task context is FAULTED with CTX_CAUSE and CTX_FAULT_PC and a record, a service context
starts again, an uncorrectable word faults its reader; a parity or lockstep error is counted and noted and changes no context, and
waits for the resume where the engine is halted; a word that cannot be repaired, and an engine that must retire, retire it (R195,
R197, R205, R206, R212 to R215, R369). The model's own choices in it: log entries 42, 43, 44, 84. -/
def Obligations.FaultsAndMachineChecks : Prop :=
  ∀ (x : Fin 128) (e : Fin 4) (addr : Fin 8192) (l : Fin 32) (a : Nat) (disp : Bool) (during : Option CmdPath) (ts : Stamp) (s : State), s.pstate < 3 →
    let z := s.reachIn (islEngine e) ts
    let key := if disp then 8192 + addr.val % 256 else addr.val
    let again := ((s.repairs.at [] e).filter (fun p => decide (z.now.toNat ≤ p.2.toNat + 16000000))).filter (fun p => p.1 == key)
    let live := s.engLive e = true ∧ s.halted e = false
    let noted := fun (t : State) (code : Nat) => t.fld .mcLast 16 8 e = code ∧ t.fld .mcLast 24 5 e = l.val ∧
      t.rd .mcTime e = ns32 (z.clock (islEngine e)) ∧ t.rd .ctxCause e l = toW code ∧ t.rd .ctxFaultPc e l = (s.ctx (ctxOf e l)).pc
    (∀ f, 3 ≤ x.val % 32 → s.halted (x / 32) = false → (s.ctx x).fault = some f → ∃ t, exec (.taskFault x ts) s = .next t ∧
      t.ctxState x = 5 ∧ t.cr .ctxCause x = toW f.code ∧ t.cr .ctxFaultPc x = f.pc ∧ (t.ctx x).fault = none ∧
      (t.ctx x).out = none ∧ t.rd .fltSeq = s.rd .fltSeq + 1 ∧ t.gpr = s.gpr) ∧
    (∀ f, x.val % 32 = 1 ∨ x.val % 32 = 2 → s.halted (x / 32) = false → (s.ctx x).fault = some f →
      ∃ t, exec (.serviceFault x during ts) s = .next t ∧ t.ctxState x = 2 ∧ (t.ctx x).pc = s.cr .ctxEntry x ∧
        t.cr .ctxCause x = toW f.code ∧ (∀ q, t.g x q = 0) ∧ t.rd .fltSeq = s.rd .fltSeq + 1) ∧
    (x.val / 32 < s.engines → s.badTm.contains (a / 4 * 4) = true → s.ctxState x = 2 → s.halted (x / 32) = false →
      (s.ctx x).fault = none → ∃ t, exec (.mcMemory x a ts) s = .next t ∧
        t.fld .csStat 24 8 (x / 32) = min 255 (s.fld .csStat 24 8 (x / 32) + 1) ∧
        (3 ≤ x.val % 32 → t.ctxState x = 5 ∧ t.cr .ctxCause x = toW fcMemory ∧ t.gpr = s.gpr) ∧
        (x.val % 32 = 1 ∨ x.val % 32 = 2 → t.ctxState x = 2 ∧ (t.ctx x).pc = s.cr .ctxEntry x) ∧
        (x.val % 32 = 0 → (t.ctx x).fault = some { code := fcMemory, pc := (s.ctx x).pc, addr := a / 4 * 4 } ∧ t.gpr = s.gpr)) ∧
    (live → s.goldenLost.contains (goldenKey e key) = false → again.length < 2 →
      ∃ t, exec (.mcParity e l addr disp true ts) s = .next t ∧ t.fld .csStat 8 8 e = min 255 (s.fld .csStat 8 8 e + 1) ∧
        noted t fcParity ∧ t.fld .mcLast 0 14 e = key ∧ t.rd .fltSeq = s.rd .fltSeq + 1 ∧ t.ctxs = s.ctxs ∧ t.gpr = s.gpr ∧
        t.taskMem = s.taskMem ∧ t.failed = s.failed) ∧
    (live → 2 ≤ s.liveEngines.length → ∃ t, exec (.mcParity e l addr disp false ts) s = .next t ∧
      t.failed.contains (80 + e) = true) ∧
    (live → 2 ≤ s.liveEngines.length → s.goldenLost.contains (goldenKey e key) = true ∨ 2 ≤ again.length →
      ∃ t, exec (.mcParity e l addr disp true ts) s = .next t ∧ t.failed.contains (80 + e) = true) ∧
    (live → ∃ t, exec (.mcLockstep e l ts) s = .next t ∧
      t.fld .csStat 16 8 e = min 255 (s.fld .csStat 16 8 e + 1) ∧ noted t fcLockstep ∧ t.rd .fltSeq = s.rd .fltSeq + 1 ∧
      t.ctxs = s.ctxs ∧ t.gpr = s.gpr ∧ (t.lockTimes.at [] e).head? = some z.now) ∧
    (s.engLive e = true → s.halted e = true → ∃ t, exec (.mcLockstep e l ts) s = .next t ∧ t.regs = s.regs ∧ t.failed = s.failed ∧
      t.heldChecks.at [] e = s.heldChecks.at [] e ++ [{ l := l, word := none }]) ∧
    (e.val < s.engines → s.mustRetire e = true → s.failed.contains (80 + e.val) = false →
      (2 ≤ s.liveEngines.length → ∃ t, exec (.engineRetired e ts) s = .next t ∧ t.failed.contains (80 + e.val) = true) ∧
      (s.liveEngines.length ≤ 1 → ∃ t, exec (.engineRetired e ts) s = .next t ∧ t.failed = s.failed ∧ t.startHalted = true))

/-- Contexts: CTX_CMD starts a context at CTX_ENTRY with SP at the end of its data window and its registers 0, and stops one,
which first waits for an outstanding reply; the debug port halts, steps and resumes an engine; and a patch package that passes
R219 takes effect on the engines it names once no reply of theirs is out (R169, R190 to R195, R219). The model's own choices in it: log entries 75, 81. -/
def Obligations.ContextCommands : Prop :=
  ∀ (m : Master) (x : Fin 128) (e : Fin 4) (l : Fin 32) (rd : GReg) (imm : BitVec 16) (sig : Bool) (ts : Stamp) (s : State),
    s.pstate < 3 →
    let may := s.lets m .ctxCmd (x / 32) (x % 32) = true
    let y : Fin 128 := Fin.ofNat 128 (32 * e + l)
    let z := (s.setFld .engDbg 4 5 l e).setFlag .engDbg 1 true e
    (may → startable (s.ctxState x) = true → ∃ t, exec (.ctxCmdStart m x) s = .next t ∧ t.ctxState x = 2 ∧
      (t.ctx x).pc = s.cr .ctxEntry x ∧ (t.ctx x).sp = s.cr .dataBase x + s.cr .dataSize x ∧ (∀ q, t.g x q = 0) ∧
      (t.ctx x).evq = [] ∧ t.ilvl x = 16 ∧ t.taskMem = s.taskMem) ∧
    (may → startable (s.ctxState x) = false → ∃ t, exec (.ctxCmdStart m x) s = .next t ∧ t.ctxs = s.ctxs ∧ t.gpr = s.gpr ∧
      t.ctxState x = s.ctxState x) ∧
    (may → stoppable (s.ctxState x) = true → (s.ctx x).out = none → ∃ t, exec (.ctxCmdStop m x) s = .next t ∧ t.ctxState x = 1 ∧
      (t.ctx x).evq = [] ∧ (t.ctx x).mons = [] ∧ (t.ctx x).traps = [] ∧ (t.ctx x).pc = (s.ctx x).pc ∧ t.gpr = s.gpr) ∧
    (may → stoppable (s.ctxState x) = true → (s.ctx x).out ≠ none → ∃ t, exec (.ctxCmdStop m x) s = .next t ∧
      (t.ctx x).stopping = true ∧ t.ctxState x = s.ctxState x) ∧
    ((s.ctx x).stopping = true → (s.ctx x).out.all (·.sysLock.isNone) = true → ∃ t, exec (.ctxStopEffect x ts) s = .next t ∧ t.ctxState x = 1 ∧ (t.ctx x).out = none ∧
      (t.ctx x).stopping = false ∧ t.gpr = s.gpr) ∧
    (s.debugs e = true → ∃ t, exec (.engDebugHalt e) s = .next t ∧ t.halted e = true ∧ t.ctxs = s.ctxs ∧ t.gpr = s.gpr) ∧
    (s.debugs e = true → s.heldChecks.at [] e = [] → ∃ t, exec (.engDebugResume e) s = .next t ∧ t.halted e = false ∧
      t.ctxs = s.ctxs ∧ t.gpr = s.gpr) ∧
    (s.debugs e = true → s.engLive e = true → s.heldChecks.at [] e = [{ l := l, word := none }] →
      ∃ t, exec (.engDebugResume e) s = .next t ∧ t.halted e = false ∧ t.heldChecks.at [] e = [] ∧
        t.fld .csStat 16 8 e = min 255 (s.fld .csStat 16 8 e + 1) ∧ t.ctxs = s.ctxs) ∧
    (s.debugs e = false → exec (.engDebugHalt e) s = .next s ∧ exec (.engDebugResume e) s = .next s ∧
      exec (.engDebugStep e l) s = .next s) ∧
    (s.debugs e = true → s.halted e = true → z.starts y 0x1C = true → decodeTask y (s.tm (s.ctx y).pc.toNat) = .movi y rd imm →
      ∃ t, exec (.engDebugStep e l) s = .next t ∧ t.g y rd = imm.signExtend 32 ∧ (t.ctx y).pc = (s.ctx y).pc + 4 ∧
        t.halted e = true ∧ t.fld .engDbg 4 5 e = l.val) ∧
    (s.longOps.find? (fun o => o.opcode == 0x901 && o.outcome.isNone) = none → exec (.patchApply sig ts) s = .next (s.reachIn islFabric ts)) ∧
    (∀ o recs, s.longOps.find? (fun o => o.opcode == 0x901 && o.outcome.isNone) = some o →
      let ws := s.taskMem.words (o.params.getD 0 0).toNat ((o.params.getD 1 0).toNat / 4)
      let named := fun (k : Nat) => k < 4 ∧ (ws.getD 5 0).toNat.testBit k = true ∧ s.engLive k = true
      s.patchCheck ws sig = (stOk, recs) →
      ((∃ k, named k ∧ s.settled k = false) → exec (.patchApply sig ts) s = .next (s.reachIn islFabric ts)) ∧
      ((∀ k, named k → s.settled k = true) → ∃ t, exec (.patchApply sig ts) s = .next t ∧
        ∀ k, named k → t.rd .csPatch k = toW (getF (ws.getD 3 0) 0 16) ∧ t.rd .csPatchId k = ws.getD 4 0))

/-- The test access port: each instruction is loaded with what its register captures; SAMPLE/PRELOAD keeps the bits shifted in,
ENG_DEBUG may write a context of a halted engine, and nothing else of the device changes (R195, R399). The model's own choices in
it: log entries 1, 45. -/
def Obligations.TestAccessPort : Prop :=
  ∀ (bits : List Bool) (wr : DebugWrite) (s : State),
    let id := (List.range 32).map (fun b => getB (0x1F4044B7 : Word) b)
    exec .idcode s = .next { s with jtag := .idcode, scanned := id } ∧
    exec .tapReset s = .next { s with jtag := .idcode, scanned := id } ∧
    exec .bypass s = .next { s with jtag := .bypass, scanned := [false] } ∧
    exec (.samplePreload bits) s = .next { s with jtag := .samplePreload, boundary := bits, scanned := s.boundaryNow, freeCtr := s.freeCtr + cellCount } ∧
    exec .extest s = .next { s with jtag := .extest, scanned := s.boundaryNow, freeCtr := s.freeCtr + cellCount } ∧
    exec .clamp s = .next { s with jtag := .clamp, scanned := [false] } ∧
    exec .highz s = .next { s with jtag := .highz, scanned := [false] } ∧
    (s.boundaryNow.length = cellCount ∧ ∀ n, n < cellCount → s.boundaryNow.getD n false =
      (match s.cellDrive n with | .high => true | .low => false | .hiz => s.cellLevel n)) ∧
    exec (.engDebug none) s = .next { s with jtag := .engDebug, scanned := [] } ∧
    (wr.e.val < s.engines → s.pstate < 3 → s.halted wr.e = true → ∃ t, exec (.engDebug (some wr)) s = .next t ∧ t.regs = s.regs ∧
      (∀ q : GReg, q.val = wr.word.val → t.g (ctxOf wr.e wr.l) q = wr.v ∧ t.ctxs = s.ctxs) ∧
      (wr.word.val = 16 → (t.ctx (ctxOf wr.e wr.l)).pc = wr.v ∧ t.gpr = s.gpr)) ∧
    (s.halted wr.e = false → exec (.engDebug (some wr)) s = .next { s with jtag := .engDebug, scanned := [] })

/-- The management path: a frame that comes too early is BUSY and does nothing, one of the wrong length or check counts and acts no
further, an address not ready or not allowed says so, a read answers the word and a write writes it, a NOP leaves the response for
the next frame, and in Nap and deeper every frame is NOT_READY (R304, R321 to R324).
The model's own choices in it: log entries 73, 82. -/
def Obligations.ManagementFrames : Prop :=
  ∀ (f : MgmtFrame) (s : State), s.pwrReq = none →
    let off := getF f.a 0 28
    let out := { s with mgmtOut := s.mgmtResp }
    let z := out.tick
    let wrote := z.busWrite .supervisor off 4 f.d
    let barred := wrote.rd .sysAccerr ≠ z.rd .sysAccerr ∧ (wrote.fld .sysAccerrSrc 16 4 = 2 ∨ wrote.fld .sysAccerrSrc 16 4 = 3)
    let good := s.pstate < 2 ∧ f.early = false ∧ f.bits = 72 ∧ f.crc.toNat = mgmtCrc f.a f.d
    let rows := fun (c : MgmtFrame → Instr) =>
      (3 ≤ s.pstate → ∃ t, exec (c f) s = .next t ∧ t.mgmtOut = (5, 0, getF f.a 0 24) ∧ t.mgmtResp = (5, 0, getF f.a 0 24) ∧
        s.keeps t [.wwStat]) ∧
      (s.pstate < 2 → f.early = true → exec (c f) s = .next { s with mgmtOut := (4, 0, s.mgmtResp.2.2) }) ∧
      (s.pstate < 2 → f.early = false → f.bits ≠ 72 → ∃ t, exec (c f) s = .next t ∧ t.mgmtResp = (2, 0, getF f.a 0 24) ∧
        out.onlyRegs { t with mgmtResp := s.mgmtResp } [.sysMgmt] ∧ t.fld .sysMgmt 8 8 = min 255 (s.fld .sysMgmt 8 8 + 1)) ∧
      (s.pstate < 2 → f.early = false → f.bits = 72 → f.crc.toNat ≠ mgmtCrc f.a f.d → ∃ t, exec (c f) s = .next t ∧
        t.mgmtResp = (1, 0, getF f.a 0 24) ∧ out.onlyRegs { t with mgmtResp := s.mgmtResp } [.sysMgmt] ∧
        t.fld .sysMgmt 0 8 = min 255 (s.fld .sysMgmt 0 8 + 1))
    rows .mgmtRead ∧ rows .mgmtWrite ∧ rows .mgmtNop ∧
    (good → getB f.a 30 = true → exec (.mgmtNop f) s = .next out) ∧
    (good → getB f.a 30 = false → getB f.a 31 = false → z.mgmtReady off = false →
      exec (.mgmtRead f) s = .next { z with mgmtResp := (5, 0, getF f.a 0 24) }) ∧
    (good → getB f.a 30 = false → getB f.a 31 = false → z.mgmtReady off = true → getF f.a 28 2 = 0 → supReads off = true →
      ∃ t, exec (.mgmtRead f) s = .next t ∧ t.mgmtResp = (0, (z.busRead .supervisor off 4).1, getF f.a 0 24)) ∧
    (good → getB f.a 30 = false → getB f.a 31 = false → z.mgmtReady off = true → supReads off = false →
      ∃ t, exec (.mgmtRead f) s = .next t ∧ t.mgmtResp = (3, 0, getF f.a 0 24) ∧
        t.fld .sysAccerr 0 16 = (s.fld .sysAccerr 0 16 + 1) % 65536) ∧
    (good → getB f.a 30 = false → getB f.a 31 = true → z.mgmtReady off = true → getF f.a 28 2 = 0 → supMayWrite off = true →
      (¬barred → exec (.mgmtWrite f) s = .next (wrote.respond 0 0 f.a)) ∧
      (barred → exec (.mgmtWrite f) s = .next (wrote.respond 3 0 f.a))) ∧
    (good → getB f.a 30 = false → getB f.a 31 = true → z.mgmtReady off = true → supMayWrite off = false →
      ∃ t, exec (.mgmtWrite f) s = .next t ∧ t.mgmtResp = (3, 0, getF f.a 0 24) ∧
        t.fld .sysAccerr 0 16 = (s.fld .sysAccerr 0 16 + 1) % 65536)

/-- Start and reset: a start whose steps succeed with their first strategies reaches READY at full power with the firmware
versions of its image, its contexts running and the Drone at the time the steps took, an exit from Keep-alive does so in the next
epoch, without S4 where its image is the one that ran, a start without an image that is accepted waits for one from the host, a step
whose strategies all fail halts the start, a long enough reset or brownout leaves every register but the kept ones as reset does and a shorter one
changes nothing, a lost always-on supply loses what that domain keeps, and a host-fed image starts or halts the device by its
length and check (R28, R30, R40, R375 to R379, R389). The model's own choices in it: log entries 27, 28, 70, 71. -/
def Obligations.StartAndReset : Prop :=
  ∀ (m : Master) (o : StartObs) (ns : Nat) (ts : Stamp) (s : State),
    let kept : List RegName := [.startRec, .wwStat, .wwSlot, .govAoAlarm, .droneEpoch, .calPage]
    let ao : List RegName := [.startRec, .wwStat, .wwSlot, .govAoAlarm, .droneEpoch, .govAoCnt]
    let good := o.recOk = false ∧ o.s2.getD 0 false = true ∧ o.s3.getD 0 false = true ∧ o.s4.getD 0 false = true ∧
      o.s5.getD 0 false = true ∧ o.s6.getD 0 false = true ∧ o.s7.getD 0 false = true ∧ o.s10.getD 0 false = true ∧ o.badTiles = []
    let edges := o.edges.getD 0 0 + o.edges.getD 1 0 + o.edges.getD 2 0
    let spent := fun (sram : Bool) => 640 * edges + 16 * ((List.range 8).map (fun k =>
      if k = 1 ∧ sram = false then 0 else o.stepNs.getD k 0)).sum
    let up := fun (t : State) (sram : Bool) => t.fld .startRec 20 2 0 = 0 ∧ t.pstate = 0 ∧ t.rd .sysRev = 0x100 ∧
      (spent sram < 2 ^ 64 → t.now.toNat = spent sram) ∧
      t.flag .droneStat 0 = true ∧ (∀ e, e < s.engines → t.rd .csVer e = o.csVer ∧ t.rd .csPatchId e = o.patchId ∧
        ∀ l, l < 3 → t.ctxState (ctxOf e l) = 2)
    let reset := fun (t : State) => (∀ n i j, n ∉ .pmBank :: kept → t.rd n i j = RegKey.reset s.variant ⟨n, i, j⟩) ∧
      (∀ k, k < 8 → t.flag .pmBank 1 k = s.flag .pmBank 1 k) ∧
      (∀ n i j, n ∈ kept → n ≠ .wwStat → t.rd n i j = s.rd n i j) ∧ t.flag .wwStat 17 = (s.flag .wwStat 17 || decide (1 ≤ s.pstate)) ∧
      t.now = 0 ∧ t.taskMem = [] ∧ t.gpr = [] ∧ t.hostLink = (if s.hostLink = .reset then .reset else .training) ∧ t.scratch = s.scratch ∧ t.hostMem = s.hostMem ∧ t.pinIn = s.pinIn
    let len := (s.fld .startFeedLen 0 22)
    (good → ∃ t, exec (.coldStart o) s = .next t ∧ up t true ∧ t.rd .droneEpoch = 0 ∧ t.imageDigest = o.digest) ∧
    (s.pstate = 5 → s.waking = true → good → ∃ t, exec (.warmStart o) s = .next t ∧ up t (o.digest != s.imageDigest) ∧
      (t.rd .droneEpoch).toNat = min 65535 ((s.rd .droneEpoch).toNat + 1) ∧ t.wakePin = true) ∧
    (s.pstate ≠ 5 ∨ s.waking = false → exec (.warmStart o) s = .next s) ∧
    (o.recOk = false → o.s2.getD 0 false = true → o.s3.getD 0 false = true → o.s4.getD 0 false = true →
      (∀ i, i < 2 → o.s5.getD i false = false ∨ o.s6.getD i false = false) → ∃ t, exec (.coldStart o) s = .next t ∧
        t.startWait = some (o, false) ∧ t.flag .startFeed 0 = true ∧ t.startHalted = false ∧ t.epUp = true) ∧
    (o.recOk = false → o.s2.getD 0 false = false → o.s2.getD 1 false = false →
      ∃ t, exec (.coldStart o) s = .next t ∧ t.startHalted = true) ∧
    (ns < 1000 → exec (.nresetAssert ns) s = .next s ∧ exec (.vddBrownout ns) s = .next s) ∧
    (10000 ≤ ns → ∃ t, exec (.nresetAssert ns) s = .next t ∧ reset t) ∧
    (1000 ≤ ns → ∃ t, exec (.vddBrownout ns) s = .next t ∧ reset t) ∧
    (∃ t, exec .vddAoLoss s = .next t ∧ s.keeps t ao ∧ (∀ n i j, n ∈ ao → t.rd n i j = RegKey.reset s.variant ⟨n, i, j⟩) ∧ t.scratch = [] ∧
      t.now = s.now ∧ t.taskMem = s.taskMem ∧ t.gpr = s.gpr) ∧
    (s.pstate < 3 → ∀ p w, s.startWait = some (p, w) →
      (192 ≤ len → len ≤ 3932160 → len = (s.tm 8).toNat →
        (p.s7.getD 0 false = true → p.s10.getD (s.firstStrategy 10 2) false = true → ∃ t, exec (.startFeedGo .host true) s = .next t ∧
          t.startWait = none ∧ t.fld .startRec 20 2 0 = 0 ∧ t.flag .startFeed 0 = false ∧
          ∀ e, e < s.engines → t.rd .csVer e = p.csVer) ∧
        (∃ t, exec (.startFeedGo .host false) s = .next t ∧ t.startWait = none ∧ t.startHalted = true)) ∧
      (len < 192 ∨ 3932160 < len ∨ len ≠ (s.tm 8).toNat → ∀ a,
        exec (.startFeedGo .host a) s = .next (s.setFlag .startFeed 1 true)) ∧
      (s.feedAt.toNat + 160000000000 ≤ ts.toNat → ∃ t, exec (.feedTimeout ts) s = .next t ∧ t.startWait = none ∧
        t.startHalted = true)) ∧
    (s.pstate < 3 → m ≠ .host → ∃ t, exec (.startFeedGo m true) s = .next t ∧ t.startWait = s.startWait ∧
      t.fld .sysAccerr 0 16 = (s.fld .sysAccerr 0 16 + 1) % 65536) ∧
    (s.lets m .startCtrl 0 0 = true → exec (.clrStrat m) s = .next { s.arrived .startCtrl 0 0 with clrStrat := true }) ∧
    (s.lets m .startCtrl 0 0 = true → ∃ t, exec (.clrCounts m) s = .next t ∧ (s.arrived .startCtrl 0 0).onlyRegs t [.startRec] ∧ t.fld .startRec 0 16 0 = 0 ∧
      t.rd .startRec 1 = 0 ∧ ∀ k, k < 10 → t.fld .startRec 0 8 (k + 2) = 0 ∧ t.fld .startRec 8 24 (k + 2) = s.fld .startRec 8 24 (k + 2))

/-- Fault masking: a tile whose copies disagree takes the lowest free spare and stands still until the release, or is FAILED
where no spare is left; a scrub read counts what it corrects and records what it cannot, which the memory's own rule then masks;
and a record is acknowledged once (R366, R367, R370 to R374). The model's own choices in it: log entries 26, 59, 64. -/
def Obligations.FaultMasking : Prop :=
  ∀ (m : Master) (tile : Fin 64) (mem : GuardedMem) (idx : Nat) (v : Word) (ts : Stamp) (s : State), s.pstate < 3 →
    let t := tile.val
    let strays := (s.stray.at none t).isSome
    let recorded := fun (u : State) => u.rd .fltSeq = s.rd .fltSeq + 1
    let bad := fun (g : GuardedMem) => (∃ u, exec (.scrubRead g idx .uncorrectable ts) s = .next u ∧ recorded u ∧
      u.fld .fltMem 16 8 = min 255 (s.fld .fltMem 16 8 + 1))
    (∀ p, t < s.tiles → s.pstate < 2 → s.isFailed t = false → s.flag .pmBank 2 (t / 8) = false → s.freeSpare = some p →
      ∃ u, exec (.tileSpare tile ts) s = .next u ∧
      u.spares.at none t = some p ∧ u.excluded (s.physTile t) = true ∧
      (s.switching.at none t = none → u.flag .tileStat 11 t = true ∧ (u.switching.at none t).isSome = true) ∧
      (∀ j, j ≠ t → u.spares.at none j = s.spares.at none j) ∧ u.stray.at none t = none ∧
      u.rd .fltSeq = s.rd .fltSeq + (if strays then 1 else 0)) ∧
    (t < s.tiles → s.pstate < 2 → s.isFailed t = false → s.flag .pmBank 2 (t / 8) = false → s.freeSpare = none →
      ∃ u, exec (.tileSpare tile ts) s = .next u ∧
      t ∈ u.failed ∧ u.excluded (s.physTile t) = true ∧ u.rd .fltSeq = s.rd .fltSeq + (if strays then 2 else 1) ∧ u.flag .tileStat 11 t = false) ∧
    (∀ h, ts.toNat % 16 = 0 → s.switching.at none t = some h → ∃ u, exec (.spareRelease tile ts) s = .next u ∧
      u.switching.at none t = none ∧ u.flag .tileStat 11 t = false ∧ u.flag .tileStat 9 t = true ∧ u.flag .unitState 3 t = true ∧
      u.ahead t = 0 ∧ u.rd .droneIsl t = 0 ∧ u.holdSpan.at none t = some (h, ts) ∧ recorded u) ∧
    (∃ u, exec (.scrubRead mem idx .good ts) s = .next u ∧ u.scrubPos = (memCode mem, idx) ∧ s.keeps u [.fltMem, .fltScrub, .csStat] ∧
      u.fld .fltMem 0 24 = s.fld .fltMem 0 24) ∧
    (∃ u, exec (.scrubRead mem idx .corrected ts) s = .next u ∧ u.fld .fltMem 0 16 = (s.fld .fltMem 0 16 + 1) % 65536 ∧
      s.keeps u [.fltMem, .fltScrub, .csStat, .fltEvt, .intPendSet, .vecStat]) ∧
    bad mem ∧
    (∃ u, exec (.scrubRead .taskMemory idx .uncorrectable ts) s = .next u ∧ 4 * (idx % 0x100000) ∈ u.badTm) ∧
    (∀ p : Fin 32, ∃ u, exec (.scrubRead (.portScript p) idx .uncorrectable ts) s = .next u ∧ 256 * p.val + idx % 256 ∈ u.badScript) ∧
    (∀ e : Fin 4, (∃ u, exec (.scrubRead (.golden e) idx .good ts) s = .next u ∧
        u.flag .csStat 0 e = s.goldenLost.all (fun k => k / 16384 != e.val)) ∧
      ∃ u, exec (.scrubRead (.golden e) idx .uncorrectable ts) s = .next u ∧ u.flag .csStat 0 e = false ∧
        ((∀ f, f < s.engines → f ≠ e.val → s.rd .csDigest f ≠ s.rd .csDigest e) → goldenKey e (idx % 8448) ∈ u.goldenLost)) ∧
    ((∃ d, s.partOf (idx % 8192) = some d) → ∃ u, exec (.scrubRead .calendarEntry idx .uncorrectable ts) s = .next u ∧
      u.ePhase (idx % 8192) = 0) ∧
    (∃ u, exec (.scrubRead .catalogueEntry idx .uncorrectable ts) s = .next u ∧ u.fld .catW0 0 4 (idx % 131072) = 0) ∧
    (s.lets m .fltAck 0 0 = true → s.fltAcked < v.toNat + 1 → ∃ u, exec (.fltAckWrite m v) s = .next u ∧ u.fltAcked = v.toNat + 1 ∧
      u.rd .fltAck = v ∧ s.keeps u [.fltAck, .fltStat]) ∧
    (s.lets m .fltAck 0 0 = true → v.toNat + 1 ≤ s.fltAcked → exec (.fltAckWrite m v) s = .next (s.arrived .fltAck 0 0))

/-- The catalogue and the log's registers: a word 0 that passes its checks is stored with the signal's history cleared and one
that does not changes no entry and is counted, words 1 and 2 are stored while the source is OFF, and the ring, the read index,
the thresholds and the control keep what R244, R247, R249, R250, R252 and R8 allow; a write they do not allow is counted. -/
def Obligations.LogRegisters : Prop :=
  ∀ (m : Master) (sig : Fin 131072) (word2 : Bool) (v : Word) (s : State),
    let st := s.catCheck sig v (s.rd .catW1 sig) (s.rd .catW2 sig)
    let z := s.logZ
    let rd := s.fld .logRd 0 25
    let n := getF v 0 25
    let noise : List RegName := [.logCfgerr, .logEvt, .intPendSet, .vecStat]
    let counted := fun (t : State) (k : Nat) (code : Nat) => s.keeps t noise ∧ t.flag .logEvt 3 = true ∧
      t.rd .logCfgerr = toW (k + min 127 (s.fld .logCfgerr 17 7 + 1) * 2 ^ 17 + code * 2 ^ 24)
    let err := fun (c : Instr) => ∃ t, exec c s = .next t ∧ counted t 0 0 ∧ t.logRecs = s.logRecs ∧ t.logMem = s.logMem
    let rdBad := s.flag .logCtrl 1 = true ∨ n % 8 ≠ 0 ∨ 2 * z ≤ n ∨ s.logFill < (n + 2 * z - rd) % (2 * z)
    let drops := fun k => s.dropping.at (false, false) k
    let back := fun k => s.logT k - s.fld .logThresh 24 4
    let order := getF v 0 8 < getF v 8 8 ∧ getF v 8 8 < getF v 16 8 ∧ getF v 24 4 ≤ getF v 0 8
    (s.lets m .catW0 sig 0 = true → st = stOk → ∃ t, exec (.catalogueWord0Write m sig v) s = .next t ∧ s.keeps t [.catW0, .catW3] ∧
      t.rd .catW0 sig = v &&& 0xFFFFFF ∧ t.rd .catW3 sig = 0 ∧ (∀ i j, i ≠ sig.val → t.rd .catW0 i j = s.rd .catW0 i j) ∧
      (t.sig sig).any = false) ∧
    (s.lets m .catW0 sig 0 = true → st ≠ stOk → ∃ t, exec (.catalogueWord0Write m sig v) s = .next t ∧ counted t sig st ∧
      t.sigs = s.sigs) ∧
    (s.lets m (if word2 then .catW2 else .catW1) sig 0 = true →
      (s.catSrc sig = 0 → ∃ t, exec (.catalogueWord12Write m sig word2 v) s = .next t ∧
        (s.arrived (if word2 then .catW2 else .catW1) sig 0).onlyRegs t [if word2 then .catW2 else .catW1] ∧
        t.rd (if word2 then .catW2 else .catW1) sig = v) ∧
      (s.catSrc sig ≠ 0 → err (.catalogueWord12Write m sig word2 v))) ∧
    (s.lets m .logRing 0 0 = true →
      (s.flag .logCtrl 0 = false → 16 ≤ getF v 0 5 → 2 ^ getF v 0 5 ≤ s.logSize → ∃ t, exec (.logRingWrite m v) s = .next t ∧
        s.keeps t [.logRing, .logWr, .logRd, .logStat] ∧ t.rd .logRing = v &&& 0x1F ∧ t.rd .logWr = 0 ∧ t.rd .logRd = 0 ∧ t.logRecs = []) ∧
      (s.flag .logCtrl 0 = true ∨ getF v 0 5 < 16 ∨ s.logSize < 2 ^ getF v 0 5 → err (.logRingWrite m v))) ∧
    (s.lets m .logRd 0 0 = true →
      (¬rdBad → ∃ t, exec (.logRdWrite m v) s = .next t ∧ t.rd .logRd = v &&& 0x1FFFFFF ∧
        (s.flag .logStat 7 = false →
          (s.arrived .logRd 0 0).onlyRegs { t with logRecs := s.logRecs, dropping := s.dropping } [.logRd, .logStat] ∧
          (∀ b, 4 ≤ b → t.flag .logStat b = s.flag .logStat b) ∧
          ∀ k, k < 4 → s.flag .logStat k = (drops k).1 || (drops k).2 →
            (t.logFill * 256 < back k * z → s.logQ.length < back k * 4 → t.flag .logStat k = false) ∧
            ((drops k).1 = true → back k * z ≤ t.logFill * 256 → t.flag .logStat k = true))) ∧
      (rdBad → err (.logRdWrite m v))) ∧
    (s.lets m .logThresh 0 0 = true →
      (order → ∃ t, exec (.logThreshWrite m v) s = .next t ∧ (s.arrived .logThresh 0 0).onlyRegs t [.logThresh] ∧ t.rd .logThresh = v &&& 0xFFFFFFF) ∧
      (¬order → err (.logThreshWrite m v))) ∧
    (s.lets m .logCtrl 0 0 = true →
      (∃ t, exec (.logCtrlWrite m v) s = .next t ∧ t.rd .logCtrl = v &&& 0xF3 ∧ t.flag .logStat 4 = getB v 0 ∧
        (getB v 0 = true → s.flag .logCtrl 0 = false → (∀ k, (t.sig k).any = false) ∧ 
          t.markAt = (s.arrived .logCtrl 0 0).clock islFabric ∧
          (s.logFill + 16 ≤ z → t.rd .logWr = toW ((s.fld .logWr 0 25 + 16) % (2 * z)) ∧ t.flag .logStat 7 = false) ∧
          (z < s.logFill + 16 → t.rd .logWr = s.rd .logWr ∧ t.flag .logStat 7 = true)) ∧
        (¬(getB v 0 = true ∧ s.flag .logCtrl 0 = false) → t.logMem = s.logMem ∧ t.rd .logWr = s.rd .logWr ∧ t.sigs = s.sigs)) ∧
      (∃ t, exec (.logClrCnt m) s = .next t ∧ (s.arrived .logCtrl 0 0).onlyRegs t [.logCnt, .logCntMisc, .logCfgerr] ∧ t.rd .logCntMisc = 0 ∧
        t.fld .logCfgerr 17 7 = 0 ∧ t.fld .logCfgerr 0 17 = s.fld .logCfgerr 0 17 ∧ ∀ k, k < 4 → t.rd .logCnt k = 0))

/-- Records of the log: a source event, a sample or an angle crossing whose trigger qualifies makes a record with the signal's
value and stamp, the writer puts the oldest record into the ring at LOG_WR or counts it dropped, a MARK follows bit 34 of the
time, an event of another device is offered, and the ring's records are drained whole and in order (R242 to R247, R250 to R253).
The model's own choices in it: log entry 68. -/
def Obligations.LogRecords : Prop :=
  ∀ (sig : Fin 131072) (dev : Fin 512) (rsig : Fin 131072) (value : Word) (ts : Stamp) (s : State), s.pstate < 3 →
    let z := s.reachIn islFabric ts
    let drops := fun c => s.dropping.at (false, false) c
    let k := sig.val
    let per := (s.rd .catW2 k).toNat
    let d := s.catF 11 4 k
    let size := s.logZ
    let wr := s.fld .logWr 0 25
    let ready := s.flag .logCtrl 0 = true ∧ s.catSrc k ≠ 7 ∧ s.catF 24 8 k = 0 ∧ s.flag .logStat (s.catF 6 2 k) = false
    let room := s.logQ.length + 1 ≤ s.logT (s.catF 6 2 k) * 4
    let makes := fun (t : State) (w : Word) (at_ : Stamp) => ∃ r, t.logQ = s.logQ ++ [r] ∧ r.sig = k ∧ r.value = w ∧ r.ts = at_ ∧
      r.cls = s.catF 6 2 k ∧ r.snap = false
    let stored := fun (t : State) (ws : List Word) => t.rd .logWr = toW ((wr + 4 * ws.length) % (2 * size)) ∧
      (∀ i, i < ws.length → t.logMem.word ((wr + 4 * i) % size) = ws.getD i 0) ∧
      ∀ a, (∀ i, i < ws.length → a < (wr + 4 * i) % size ∨ (wr + 4 * i) % size + 4 ≤ a) → t.logMem.byte a = s.logMem.byte a
    let ring := fun (t : State) (ws : List Word) => stored t ws ∧ t.logRecs = s.logRecs ++ [(wr, 4 * ws.length, z.clock islFabric)]
    let cross := nextAbove ((s.dom d).traj.angleAt (nsOf ts)) (s.cycleLen d) (per * 65536)
    let c := s.fld .logCtrl 4 4
    let writes := fun (r : LogRec) (b : Nat) => s.catSrc r.sig ≠ 0 ∧ s.flag .logStat 7 = false ∧ (drops r.cls).1 = false ∧
      s.logFill + b ≤ s.logT r.cls * size / 256
    (s.offers = [] → exec (.logSourceEvent ts) s = .next z) ∧
    (∀ o rest, s.offers = o :: rest → s.signalsOf o.src o.sel = [k] → s.catF 4 2 k = 0 → ready →
      (room → ∃ t, exec (.logSourceEvent ts) s = .next t ∧ makes t o.value o.ts ∧ t.offers = rest ∧
        t.catF 24 8 k = 1 % (s.catF 16 8 k + 1)) ∧
      (¬room → ∃ t, exec (.logSourceEvent ts) s = .next t ∧ t.logQ = s.logQ ∧ t.offers = rest ∧
        t.fld .catW3 0 16 k = min 65535 (s.fld .catW3 0 16 k + 1) ∧ t.flag .logStat (s.catF 6 2 k) = true)) ∧
    (s.catSrc k ≠ 0 → s.catF 4 2 k = 1 → 0 < per → ts.toNat % (16 * per) = 0 →
      (ready → room → s.sampler.toNat < ts.toNat + 16 * per → ∃ t, exec (.rateSample sig ts) s = .next t ∧
        makes t (z.sampled k) ts ∧ t.sampler = toS (max ts.toNat s.sampler.toNat + 32)) ∧
      (ts.toNat + 16 * per ≤ s.sampler.toNat → ∃ t, exec (.rateSample sig ts) s = .next t ∧ s.keeps t [.logCntMisc] ∧
        t.fld .logCntMisc 0 16 = (s.fld .logCntMisc 0 16 + 1) % 65536 ∧ t.logQ = s.logQ)) ∧
    (s.catSrc k ≠ 0 → s.catF 4 2 k = 2 → z.domState d = 3 → 0 < s.cycleLen d → (s.dom d).traj.ns ≠ nsOf ts →
      (ready → room → cross ≤ (s.dom d).traj.angleAt (nsOf ts + 1) → ∃ t, exec (.angleTrigger sig ts) s = .next t ∧
        makes t (z.sampled k) (crossFine (nsOf ts) ((s.dom d).traj.angleAt (nsOf ts)) ((s.dom d).traj.angleAt (nsOf ts + 1)) cross)) ∧
      ((s.dom d).traj.angleAt (nsOf ts + 1) < cross → exec (.angleTrigger sig ts) s = .next z)) ∧
    (s.logQ = [] → exec (.logRecordWrite ts) s = .next z) ∧
    (∀ r q, s.logQ = r :: q →
      (s.catSrc r.sig = 0 → ∃ t, exec (.logRecordWrite ts) s = .next t ∧ t.logQ = q ∧ s.keeps t [.logCntMisc, .logStat] ∧ t.logMem = s.logMem ∧
        t.fld .logCntMisc 16 16 = (s.fld .logCntMisc 16 16 + 1) % 65536) ∧
      (writes r 16 → 4 ≤ s.fld .logRing 0 5 → s.fld .catW3 0 16 r.sig = 0 → z.compactOk r s.afterMark = false →
        ∃ t, exec (.logRecordWrite ts) s = .next t ∧ t.logQ = q ∧ ring t r.full ∧ (t.sig r.sig).written = r.value ∧
          t.rd .logReccnt = s.rd .logReccnt + 1) ∧
      (writes r 8 → 4 ≤ s.fld .logRing 0 5 → s.fld .catW3 0 16 r.sig = 0 → z.compactOk r s.afterMark = true →
        ∃ t, exec (.logRecordWrite ts) s = .next t ∧ t.logQ = q ∧ ring t (s.compactWords r) ∧ (t.sig r.sig).written = r.value) ∧
      (writes r 32 → 5 ≤ s.fld .logRing 0 5 → s.fld .logRing 0 5 ≤ 24 → 0 < s.fld .catW3 0 16 r.sig →
        ∃ t, exec (.logRecordWrite ts) s = .next t ∧ t.logQ = q ∧ t.fld .catW3 0 16 r.sig = 0 ∧
          t.rd .logReccnt = s.rd .logReccnt + 2 ∧ stored t ([fullWord0 r.sig 1 r.cls false true false false r.ts, ns32 r.ts,
            toW (s.fld .catW3 16 16 r.sig), toW (s.fld .catW3 0 16 r.sig)] ++ r.full)) ∧
      (s.catSrc r.sig ≠ 0 → s.logT r.cls * size / 256 < s.logFill + 8 ∨ ((drops r.cls).1 = true ∧
          (s.logT r.cls - s.fld .logThresh 24 4) * size ≤ s.logFill * 256) →
        ∃ t, exec (.logRecordWrite ts) s = .next t ∧ t.logQ = q ∧ t.logMem = s.logMem ∧ t.logRecs = s.logRecs ∧
          t.fld .catW3 0 16 r.sig = min 65535 (s.fld .catW3 0 16 r.sig + 1) ∧ (t.dropping.at (false, false) r.cls).1 = true)) ∧
    (s.flag .logCtrl 0 = true → s.markAt.toNat / 2 ^ 34 < ts.toNat / 2 ^ 34 → 4 ≤ s.fld .logRing 0 5 →
      (s.logFill + 16 ≤ size → ∃ t, exec (.mark ts) s = .next t ∧ t.markAt = ts ∧ t.afterMark = true ∧ t.markSeq = (s.markSeq + 1) % 65536 ∧
        t.flag .logStat 7 = false ∧ ring t [toW (2 * 2 ^ 18 + ts.toNat % 16 * 2 ^ 26), toW (ts.toNat / 16), toW (ts.toNat / 2 ^ 36),
          toW ((s.rd .droneEpoch).toNat % 65536 + s.markSeq % 65536 * 65536)]) ∧
      (size < s.logFill + 16 → ∃ t, exec (.mark ts) s = .next t ∧ t.flag .logStat 7 = true ∧ t.logMem = s.logMem)) ∧
    (∃ t, exec (.remoteLogReceive dev rsig value ts) s = .next t ∧ t.regs = s.regs ∧ t.logMem = s.logMem ∧
      (s.signalsOf 7 (dev.val + rsig.val * 512) ≠ [] →
        t.offers = s.offers ++ [{ src := 7, sel := dev.val + rsig.val * 512, value := value, ts := ts }]) ∧
      (s.signalsOf 7 (dev.val + rsig.val * 512) = [] → t.offers = s.offers)) ∧
    (∀ i n t0 rest, s.rd .logFlush ≠ 0 → s.flag .logCtrl 1 = false → s.logRecs = (i, n, t0) :: rest →
      (t0.toNat + 16 * (s.rd .logFlush).toNat ≤ ts.toNat → ∃ t, exec (.logFlushExpiry ts) s = .next t ∧ t.flag .logEvt 0 = true ∧
        s.keeps t [.logEvt, .intPendSet, .vecStat]) ∧
      (ts.toNat < t0.toNat + 16 * (s.rd .logFlush).toNat → exec (.logFlushExpiry ts) s = .next z)) ∧
    (s.rd .logFlush = 0 → exec (.logFlushExpiry ts) s = .next z) ∧
    (∀ l left i n t0 rest, s.drains c = true → s.dmaGoes c = true → (s.dma c).desc ≠ [] → s.descBad c = false →
      (s.dma c).closed = false → fitRecs (s.descLen c - s.descDone c) s.logRecs = (l, left) → l = (i, n, t0) :: rest →
      (s.dstSp c = 0 → s.hostReach = true) → ∃ t, exec (.logDrainDescriptor ts) s = .next t ∧
        t.rd .logRd = toW ((i + (l.map (fun r => r.2.1)).sum) % (2 * size)) ∧
        t.rd .dmaProg c = toW (s.descDone c + (l.map (fun r => r.2.1)).sum) ∧
        ∀ j, j < (l.map (fun r => r.2.1)).sum →
          t.dmaByte (s.dstSp c) (s.descDst c + s.descDone c + j) = s.logMem.byte ((i + j) % size))

/-- The DMA channels' registers: a doorbell, EN and PAUSE, the resumption and the skip of a halted channel, the ring's registers
while EN is 0, the share, and an error of the world (R350, R354, R356 to R359, R361 to R363). The model's own choices in it: log
entry 31. -/
def Obligations.DmaRegisters : Prop :=
  ∀ (m : Master) (ch : Fin 16) (on : Bool) (r : DmaRingReg) (h : HaltObs) (v : Word) (ts : Stamp) (s : State),
    let c := ch.val
    let a := s.descAt c
    let sp := s.ringSp c
    let quiet := s.flag .dmaCtrl 1 c = true ∨ s.flag .dmaStat 3 c = true ∨ s.held (dmaUnit c) = true
    let noise : List RegName := [.intPendSet, .vecStat]
    let off := s.flag .dmaCtrl 0 c = false
    let z := s.arrived .dmaCtrl c 0
    let yields := (s.dma c).pausedBy.1 = z.fabNow + 1 ∧ lockRank m < (s.dma c).pausedBy.2
    let ok := match r with
      | .baseLo => off ∧ getF v 0 5 = 0
      | .baseHi | .size => off
      | .head => off ∧ getF v 0 16 < s.ringLen c
      | .share => 1 ≤ getF v 0 9 ∧ getF v 0 9 ≤ 256
    let kept : Word := match r with | .baseLo | .baseHi => v | .size | .head => v &&& 0xFFFF | .share => v &&& 0x7FF
    let halted := fun (t : State) (kind dir : Nat) => t.flag .dmaStat 3 c = true ∧ t.fld .dmaStat 5 3 c = kind ∧
      t.flag .dmaStat 0 c = false ∧ t.rd .dmaErrAddrLo c = toW h.addr.toNat ∧ t.rd .dmaErrAddrHi c = toW (h.addr.toNat / 2 ^ 32) ∧
      t.rd .dmaErrDir c = toW (dir + h.cause * 16) ∧ t.flag .dmaEvt 1 c = true ∧
      t.fld .dmaCnt 24 4 c = min 15 (s.fld .dmaCnt 24 4 c + 1)
    let meets := s.pstate < 3 ∧ s.dmaGoes c = true ∧ 1 ≤ h.cause.val ∧ h.cause.val ≤ 4 ∧ s.flag .dmaStat 1 c = false
    (s.lets m .dmaTail c 0 = true → ∃ t, exec (.dmaTail m ch v) s = .next t ∧ t.rd .dmaTail c = toW (getF v 0 16 % s.ringLen c) ∧
      s.keeps t [.dmaTail, .dmaStat] ∧ (quiet → (t.dma c).bell = true ∧ s.keeps t [.dmaTail]) ∧
      (¬quiet → t.flag .dmaStat 1 c = false ∧ (s.arrived .dmaTail c 0).wakeUp.onlyRegs t [.dmaTail, .dmaStat])) ∧
    (s.lets m .dmaCtrl c 0 = true →
      (on = s.flag .dmaCtrl 0 c → exec (.dmaEnWrite m ch on) s = .next z) ∧
      (on ≠ s.flag .dmaCtrl 0 c → ∃ t, exec (.dmaEnWrite m ch on) s = .next t ∧ t.flag .dmaCtrl 0 c = on ∧ (t.dma c).desc = [] ∧
        t.rd .dmaProg c = 0 ∧ t.flag .dmaStat 0 c = false ∧ (on = true → t.flag .dmaStat 1 c = false) ∧
        s.keeps t ([.dmaCtrl, .dmaStat, .dmaProg] ++ noise) ∧ ∀ j, j ≠ c → t.dma j = s.dma j) ∧
      (yields → exec (.pause m ch on) s = .next z) ∧
      (¬yields → on = s.flag .dmaCtrl 1 c → ∃ t, exec (.pause m ch on) s = .next t ∧ t.regs = s.regs ∧ (t.dma c).desc = (s.dma c).desc) ∧
      (¬yields → on ≠ s.flag .dmaCtrl 1 c → ∃ t, exec (.pause m ch on) s = .next t ∧ t.flag .dmaCtrl 1 c = on ∧ t.flag .dmaStat 2 c = on ∧
        (on = true → t.flag .dmaEvt 2 c = true) ∧ (t.dma c).desc = (s.dma c).desc ∧
        (on = false → s.flag .dmaStat 3 c = false → s.held (dmaUnit c) = false → (s.dma c).bell = true → t.flag .dmaStat 1 c = false ∧
          (t.dma c).bell = false) ∧
        s.keeps t ([.dmaCtrl, .dmaStat, .dmaEvt] ++ noise)) ∧
      (s.flag .dmaStat 3 c = true → ∃ t, exec (.resume m ch) s = .next t ∧ t.flag .dmaStat 3 c = false ∧ t.fld .dmaStat 5 3 c = 0 ∧
        (t.dma c).desc = [] ∧ t.rd .dmaProg c = 0 ∧ t.rd .dmaHead c = s.rd .dmaHead c ∧
        s.keeps t ([.dmaStat, .dmaProg, .logStat] ++ noise)) ∧
      (s.flag .dmaStat 3 c = false → exec (.resume m ch) s = .next z ∧ exec (.skip m ch) s = .next z) ∧
      (s.flag .dmaStat 3 c = true → (sp = 0 ∧ s.hostReach = true) ∨ (sp = 1 ∧ a + 32 ≤ 0x3C0000) →
        ∃ t, exec (.skip m ch) s = .next t ∧ t.flag .dmaStat 3 c = false ∧
          t.rd .dmaHead c = toW (if s.fld .dmaHead 0 16 c + 1 < s.ringLen c then s.fld .dmaHead 0 16 c + 1 else 0) ∧
          t.dmaWord sp (a + 28) = toW (s.descDone c + 2 * 2 ^ 25 + b2n (s.dma c).diff * 2 ^ 28 + 2 ^ 31) ∧
          getB (t.dmaWord sp a) 31 = false)) ∧
    (s.lets m (ringReg r) c 0 = true → ok → ∃ t, exec (.dmaRingWrite m ch r v) s = .next t ∧ t.rd (ringReg r) c = kept ∧
      s.keeps t [ringReg r] ∧ t.hostMem = s.hostMem ∧ t.taskMem = s.taskMem) ∧
    (s.lets m (ringReg r) c 0 = true → ¬ok → ∃ t, exec (.dmaRingWrite m ch r v) s = .next t ∧
      (s.arrived (ringReg r) c 0).onlyRegs t [.dmaCnt] ∧
      t.fld .dmaCnt 28 4 c = min 15 (s.fld .dmaCnt 28 4 c + 1)) ∧
    (s.lets m .dmaGctrl 0 0 = true → ∃ t, exec (.dmaClrCnt m) s = .next t ∧
      (s.arrived .dmaGctrl 0 0).onlyRegs t [.dmaCnt] ∧ ∀ j, j < 16 → t.rd .dmaCnt j = 0) ∧
    (meets → (s.dma c).desc = [] → sp = 0 → h.write = false → ∃ t, exec (.dmaHalt ch h ts) s = .next t ∧ halted t 1 0) ∧
    (meets → (s.dma c).desc ≠ [] → s.srcSp c = 0 → h.write = false → ∃ t, exec (.dmaHalt ch h ts) s = .next t ∧ halted t 2 0) ∧
    (meets → (s.dma c).desc ≠ [] → s.dstSp c = 0 → h.write = true → ∃ t, exec (.dmaHalt ch h ts) s = .next t ∧ halted t 3 1)

/-- What the DMA channels carry out: a descriptor that is owned by the channel is taken and one that is not ends the run, a
burst fills, copies or compares the bytes that follow those done, and a descriptor whose work is done gets its status, loses its
ownership and is passed; bursts keep the distance of the share, and other channels whose turn it is come first (R352 to R355, R359,
R360). The model's own choices in it: log entry 31. -/
def Obligations.DmaTransfers : Prop :=
  ∀ (ch : Fin 16) (ts : Stamp) (s : State), s.pstate < 3 →
    let z := s.reachIn islFabric ts
    let c := ch.val
    let a := s.descAt c
    let sp := s.ringSp c
    let k := s.descDone c
    let n := s.burstLen c
    let src := s.descSrc c + k
    let dst := s.descDst c + k
    let dp := s.dstSp c
    let pat := fun (j : Nat) => byteOf (s.descW c 6) ((k + j) % 4)
    let reads := s.srcSp c ≠ 2 ∧ s.dmaFails (s.srcSp c) src n false = none
    let writes := s.dmaFails dp dst n true = none
    let whole := n = s.descLen c - k
    let apart := s.srcSp c ≠ dp ∨ src + n ≤ dst ∨ dst + n ≤ src
    let moved := fun (t : State) => t.rd .dmaProg c = toW (k + n) ∧ s.keeps t [.dmaProg] ∧ t.pending = s.pending ∧
      ∀ x, x < dst ∨ dst + n ≤ x → t.dmaByte dp x = s.dmaByte dp x
    let filled := fun (t : State) => moved t ∧ ∀ j, j < n → t.dmaByte dp (dst + j) = pat j
    let copied := fun (t : State) => moved t ∧ ∀ j, j < n → t.dmaByte dp (dst + j) = s.dmaByte (s.srcSp c) (src + j)
    let compared := fun (t : State) => t.hostMem = s.hostMem ∧ t.taskMem = s.taskMem ∧ s.keeps t [.dmaProg] ∧
      ((∀ j, j < n → s.dmaByte (s.srcSp c) (src + j) = s.dmaByte dp (dst + j)) → t.rd .dmaProg c = toW (k + n) ∧
        (t.dma c).diff = (s.dma c).diff) ∧
      (∀ i, i < n → s.dmaByte (s.srcSp c) (src + i) ≠ s.dmaByte dp (dst + i) →
        (∀ j, j < i → s.dmaByte (s.srcSp c) (src + j) = s.dmaByte dp (dst + j)) → t.rd .dmaProg c = toW (k + i) ∧ (t.dma c).diff = true)
    let alone := s.burstsBefore c ts = []
    let paced := fun (t : State) => (t.dma c).ready = toS (ts.toNat + s.burstGap c) ∧ t.dmaLast = c
    let free := s.dmaGoes c = true ∧ (s.dma c).desc = [] ∧ s.flag .dmaStat 1 c = false ∧ s.dmaFails sp a 32 false = none
    (free → getB (s.dmaWord sp a) 31 = true → ∃ t, exec (.descriptorFetch ch ts) s = .next t ∧
      (t.dma c).desc = (List.range 8).map (fun i => s.dmaWord sp (a + 4 * i)) ∧ t.flag .dmaStat 0 c = true ∧ t.rd .dmaProg c = 0 ∧
      s.keeps t [.dmaStat, .dmaProg, .intPendSet, .vecStat]) ∧
    (free → getB (s.dmaWord sp a) 31 = false → exec (.descriptorFetch ch ts) s = .next (z.setFlag .dmaStat 1 true c)) ∧
    (∀ cause x, s.dmaGoes c = true → (s.dma c).desc = [] → s.flag .dmaStat 1 c = false → s.dmaFails sp a 32 false = some (cause, x) →
      ∃ t, exec (.descriptorFetch ch ts) s = .next t ∧ t.flag .dmaStat 3 c = true ∧ t.fld .dmaStat 5 3 c = 1 ∧
        t.rd .dmaErrAddrLo c = toW x ∧ t.rd .dmaErrDir c = toW (sp * 2 + cause * 16)) ∧
    (s.mayBurst c [1] ts = true → writes → (alone → ∃ t, exec (.dmaBurst ch ts) s = .next t ∧ filled t ∧ paced t) ∧
      (whole → ∃ t, exec (.fillDescriptor ch ts) s = .next t ∧ filled t)) ∧
    (s.mayBurst c [0] ts = true → reads → writes → apart → (alone → ∃ t, exec (.dmaBurst ch ts) s = .next t ∧ copied t ∧ paced t) ∧
      (whole → ∃ t, exec (.copy ch ts) s = .next t ∧ copied t)) ∧
    (s.mayBurst c [2] ts = true → reads → getB (s.descW c 0) 8 = false → s.dmaFails dp dst n false = none →
      (alone → ∃ t, exec (.dmaBurst ch ts) s = .next t ∧ compared t ∧ paced t) ∧ (whole → ∃ t, exec (.compare ch ts) s = .next t ∧ compared t)) ∧
    (∀ d l, s.mayBurst c [0, 1, 2] ts = true → s.burstsBefore c ts = d :: l → ∃ t, exec (.dmaBurst ch ts) s = .next t ∧
      t.dmaLast = c ∧ t.pending = s.pending) ∧
    (s.mayBurst c [0, 1, 2] ts = false → exec (.dmaBurst ch ts) s = .next z ∧ exec (.copy ch ts) s = .next z ∧
      exec (.fillDescriptor ch ts) s = .next z ∧ exec (.compare ch ts) s = .next z) ∧
    (s.flag .dmaCtrl 0 c = true → s.flag .dmaStat 3 c = false → s.descDoneAll c = true →
      (sp = 0 ∧ s.hostReach = true) ∨ (sp = 1 ∧ a + 32 ≤ 0x3C0000) → ∃ t, exec (.descriptorComplete ch ts) s = .next t ∧
        t.dmaWord sp a = s.descW c 0 &&& 0x7FFFFFFF ∧ (t.dma c).desc = [] ∧ t.rd .dmaProg c = 0 ∧
        t.dmaWord sp (a + 28) = toW ((if s.descBad c then 2 ^ 25 else k) + b2n (s.dma c).diff * 2 ^ 28 + 2 ^ 31) ∧
        t.rd .dmaHead c = toW (if s.fld .dmaHead 0 16 c + 1 < s.ringLen c then s.fld .dmaHead 0 16 c + 1 else 0) ∧
        t.fld .dmaCnt 0 16 c = (s.fld .dmaCnt 0 16 c + 1) % 65536 ∧ (getB (s.descW c 0) 30 = true → t.flag .dmaEvt 0 c = true) ∧
        ∀ x, x < a ∨ (a + 4 ≤ x ∧ x < a + 28) ∨ a + 32 ≤ x → t.dmaByte sp x = s.dmaByte sp x)

/-- A port's registers and its queue: the configuration is stored but where it is locked or out of range, a script word while no
transaction runs, the time trigger's registers as R267 says; ABORT marks the running transaction, FLUSH completes the queued
ones, a time trigger queues its script or misses, and the next transaction starts or ends as SCRIPT_ERR (R262, R266, R267, R270
to R272, R277, R8). The model's own choices in it: log entries 67, 69. -/
def Obligations.PortRegisters : Prop :=
  ∀ (m : Master) (port : Fin 32) (r : PortCfgReg) (q : PortTtReg) (word : Fin 256) (v : Word) (ts : Stamp) (s : State),
    let p := port.val
    let u := portUnit p
    let x := s.port p
    let wake : List RegName := [.govIsl, .govWakeCnt]
    let w := v &&& portMask r
    let on := s.portOn p = true
    let locked := on ∧ (match r with
      | .cfg => getF w 0 2 ≠ s.portMode p
      | .spi | .spi2 | .sent | .uart => True
      | .dmemBase | .dmemSize | .notify => False)
    let bad := locked ∨ s.portBad p r (match r with | .dmemBase | .dmemSize => v | _ => w) = true
    let dropped := fun (c : Instr) => ∃ t, exec c s = .next t ∧ s.keeps t (.portCnt2 :: wake) ∧
      t.fld .portCnt2 0 8 p = min 255 (s.fld .portCnt2 0 8 p + 1) ∧ t.port p = x
    let stale := fun (k : Txn) => decide (k.came.toNat / portCycle < ((s.arrived .portCtrl p 0).clock islPort).toNat / portCycle)
    let z := s.reachIn islPort ts
    let planned := (s.arrived .portTt p 0).clock islPort
    let room := x.queue.length < 16 ∧ s.isFailed u = false ∧ s.held u = false
    let timed : Txn := { script := s.fld .portTt 8 6 p, arg := s.rd .portTtArg p, src := .time }
    (s.lets m (portCfgReg r) p 0 = true →
      (bad → dropped (.portCfgWrite m port r v)) ∧
      (¬bad → ¬(r = .cfg ∧ on ∧ getB v 2 = false) → ∃ t, exec (.portCfgWrite m port r v) s = .next t ∧ t.rd (portCfgReg r) p = w ∧
        s.keeps t ([portCfgReg r, .intPendSet, .vecStat] ++ wake) ∧ t.port p = x) ∧
      (¬bad → r = .cfg → on → getB v 2 = false → ∃ t, exec (.portCfgWrite m port r v) s = .next t ∧ t.rd .portCfg p = w ∧
        (x.run = none → (t.port p).queue = [] ∧ (t.port p).cs = 0 ∧
          t.fld .portCnt0 0 16 p = (s.fld .portCnt0 0 16 p + x.queue.length) % 65536) ∧
        ∀ k, x.run = some k → (t.port p).run = some { k with abort := true, flush := true } ∧ (t.port p).queue = x.queue)) ∧
    (s.lets m .portCtrl p 0 = true →
      (∃ t, exec (.portAbort m port) s = .next t ∧ s.keeps t wake ∧ (t.port p).run = x.run.map (fun k => { k with abort := true }) ∧
        (t.port p).queue = x.queue) ∧
      (∃ t, exec (.portFlush m port) s = .next t ∧ (t.port p).queue = x.queue.filter (fun k => !stale k) ∧ (t.port p).run = x.run ∧
        t.fld .portCnt0 0 16 p = (s.fld .portCnt0 0 16 p + (x.queue.filter stale).length) % 65536 ∧
        ∀ k, (x.queue.filter stale).getLast? = some k → t.rd .portLast p = completionWord 0 4 false k.script) ∧
      (∃ t, exec (.portClrCnt m port) s = .next t ∧ s.keeps t ([.portCnt0, .portCnt1, .portCnt2] ++ wake) ∧ t.rd .portCnt0 p = 0 ∧
        t.rd .portCnt1 p = 0 ∧ t.rd .portCnt2 p = 0)) ∧
    (s.lets m .portScript p word = true →
      (x.run = none → ∃ t, exec (.portScriptWrite m port word v) s = .next t ∧ t.rd .portScript p word = v ∧
        s.keeps t (.portScript :: wake) ∧ 256 * p + word.val ∉ t.badScript) ∧
      (x.run ≠ none → dropped (.portScriptWrite m port word v))) ∧
    (s.lets m .portDmemPtr p 0 = true → ∃ t, exec (.portDmemPtrWrite m port v) s = .next t ∧ t.rd .portDmemPtr p = v &&& 0x3FFFFC ∧
      s.keeps t (.portDmemPtr :: wake)) ∧
    (s.lets m (ttReg q) p 0 = true →
      (q = .per → v.toNat < 1000 → dropped (.portTtWrite m port q v)) ∧
      ((q = .per → 1000 ≤ v.toNat) → q ≠ .tt → ∃ t, exec (.portTtWrite m port q v) s = .next t ∧ t.rd (ttReg q) p = v ∧
        s.keeps t (ttReg q :: wake) ∧ (t.port p).queue = x.queue ∧
        (q ≠ .arg → s.flag .portTt 0 p = true → (t.port p).tt = some (t.ttNext p))) ∧
      (q = .tt → ∃ t, exec (.portTtWrite m port q v) s = .next t ∧ t.rd .portTt p = v &&& 0x3F01 ∧
        (getB v 0 = false → (t.port p).tt = none ∧ (t.port p).queue = x.queue) ∧
        (getB v 0 = true → s.flag .portTt 0 p = true → (t.port p).tt = some (t.ttNext p) ∧ (t.port p).queue = x.queue) ∧
        (getB v 0 = true → s.flag .portTt 0 p = false → (t.port p).tt = some (t.ttNext p) ∧
          ((portStamp planned).toNat ≤ s.ttAt p → (t.port p).queue = x.queue) ∧
          (s.ttAt p < (portStamp planned).toNat → room →
            (t.port p).queue = queueIn planned x.queue { script := getF v 8 6, arg := s.rd .portTtArg p, src := .time })))) ∧
    (∀ k, s.pstate < 3 → s.flag .portTt 0 p = true → x.tt = some k → ts.toNat / portCycle < k.toNat / portCycle →
      exec (.timeTrigger port ts) s = .next z) ∧
    (∀ k, s.pstate < 3 → s.flag .portTt 0 p = true → x.tt = some k → k.toNat / portCycle ≤ ts.toNat / portCycle →
      (room → ∃ t, exec (.timeTrigger port ts) s = .next t ∧ (t.port p).queue = queueIn (z.clock islPort) x.queue timed ∧
        (t.port p).tt = some (toS (k.toNat + 16 * (s.rd .portTtPer p).toNat)) ∧ s.keeps t wake) ∧
      (¬room → ∃ t, exec (.timeTrigger port ts) s = .next t ∧ (t.port p).queue = x.queue ∧ t.flag .portEvt 3 p = true ∧
        t.fld .portCnt0 24 8 p = min 255 (s.fld .portCnt0 24 8 p + 1))) ∧
    (s.pstate < 3 → on → x.run = none → s.paused.contains u = false → s.isFailed u = false →
      x.ended.toNat + portCycle * s.fld .portSpi2 0 8 p ≤ ts.toNat →
      (s.nextTxn p = none → exec (.transactionStart port ts) s = .next z) ∧
      ∀ k, s.nextTxn p = some k → ∃ t, exec (.transactionStart port ts) s = .next t ∧ (t.port p).queue = x.queue.erase k ∧
        (s.flag .portScrEntry 8 p k.script = true → t.flag .portStat 0 p = true ∧
          ∃ run, (t.port p).run = some run ∧ run.txn = k ∧ run.pc = s.fld .portScrEntry 0 8 p k.script ∧ run.results = 0 ∧
            run.opEnd = toS (portUp ts.toNat)) ∧
        (s.flag .portScrEntry 8 p k.script = false → (t.port p).run = none ∧ t.rd .portLast p = completionWord 0 2 false k.script ∧
          t.flag .portEvt 1 p = true))

/-- What a port's script does, word by word: CS, XFER, RECV, WAIT and LOOP do their work and go on at the next word or the
loop's target, an expired RECV, END and a bad word end the transaction with its completion word, an aborted one ends after its
operation; and the frames and bytes that come are taken or counted, and a faulty engine is replaced or the port FAILED (R263 to
R265, R268 to R270, R272, R274). The model's own choices in it: log entries 16, 69, 95. -/
def Obligations.PortScripts : Prop :=
  ∀ (port : Fin 32) (rx : Word) (f : SentObs) (byte : Byte) (r : PortRun) (ts : Stamp) (s : State), s.pstate < 3 →
    let p := port.val
    let x := s.port p
    let w := s.rd .portScript p r.pc
    let op := fun (n : Nat) => x.run = some r ∧ s.scriptOp p r = n
    let live := r.abort = false
    let goes := fun (t : State) (pc : Nat) => ∃ k, (t.port p).run = some k ∧ k.pc = pc ∧ k.txn = r.txn ∧ k.swapped = r.swapped
    let ends := fun (t : State) (status : Nat) => (t.port p).run = none ∧ t.flag .portStat 0 p = false ∧
      t.rd .portLast p = completionWord r.results status r.swapped r.txn.script ∧ t.flag .portEvt 0 p = true ∧
      t.fld .portCnt0 0 16 p = (s.fld .portCnt0 0 16 p + 1) % 65536
    let size := (s.rd .portDmemSize p).toNat
    let ptr := if (s.rd .portDmemPtr p).toNat < size then (s.rd .portDmemPtr p).toNat else 0
    let base := (s.rd .portDmemBase p).toNat + ptr
    let mem := getB w 9 = true ∧ 0 < size
    let result := getB w 8 = true ∨ mem
    let stored := fun (t : State) (value : Word) => (getB w 8 = true → t.rd .portRes p (getF w 10 6) = value) ∧
      (mem → t.tm base = value ∧ t.rd .portDmemPtr p = toW (if size ≤ ptr + 4 then 0 else ptr + 4)) ∧
      (∀ a, ¬mem ∨ a < base ∨ base + 4 ≤ a → t.taskMem.byte a = s.taskMem.byte a)
    let left := match r.loop with | some (_, n) => n | none => getF w 0 16
    let waitEnd := max r.opEnd.toNat ((if getB w 24 then r.mark else r.opEnd).toNat + portUp (16 * getF w 0 24))
    let spi := s.spiFrame p r (getF w 0 6)
    let selected := max r.opEnd.toNat (x.csOff.toNat + portCycle * s.fld .portSpi2 0 8 p)
    let nominal := 56 * 1600 * s.fld .portSent 0 10 p
    let ticks := sentTicks f
    let shape := 3 * nominal ≤ 4 * f.calib ∧ 4 * f.calib ≤ 5 * nominal ∧ f.pulses.length = s.fld .portSent 10 3 p + 2 ∧
      (∀ n, n ∈ f.pulses → 12 ≤ ticks n ∧ ticks n ≤ 27) ∧ (match f.pause with
        | some n => s.flag .portSent 13 p = true ∧ 12 ≤ ticks n ∧ ticks n ≤ 768
        | none => s.flag .portSent 13 p = false)
    let steady := s.flag .portSent 14 p = false ∨ x.calib = 0 ∨ 64 * ((f.calib : Int) - x.calib).natAbs ≤ x.calib
    let cut := fun (start : Nat) => start < x.outTo.toNat
    let back := if s.scriptOp p r = 2 ∨ s.scriptOp p r = 3 ∨ (r.check.done = true ∧ s.portMode p ≠ 1) then r.pc else r.check.pc
    (op 1 → live → ∃ t, exec (.scriptCs port ts) s = .next t ∧ goes t (r.pc + 1) ∧ (t.port p).cs = getF w 0 2 ∧ t.regs = s.regs ∧
      (getF w 0 2 ≠ 0 → ∃ k, (t.port p).run = some k ∧ k.opEnd = toS selected ∧
        k.lead = toS (selected + portCycle * s.fld .portSpi 16 8 p)) ∧
      (getF w 0 2 = 0 → x.cs ≠ 0 → (t.port p).csOff = toS (s.csRelease p r))) ∧
    (op 2 → live → s.portMode p ≠ 3 → spi.2.1 ≤ ts.toNat → spi.1 + portCycle * s.fld .portSpi2 8 3 p ≤ ts.toNat →
      ∃ t, exec (.xfer port rx ts) s = .next t ∧ goes t (r.pc + if getF w 6 2 = 2 then 2 else 1) ∧
        (r.mute = false → stored t (toW (rx.toNat % 2 ^ getF w 0 6)) ∧ (result → ∃ k, (t.port p).run = some k ∧ k.results = r.results + 1)) ∧
        (r.mute = true → t.regs = s.regs ∧ t.taskMem = s.taskMem)) ∧
    (op 2 → live → s.portMode p = 3 → portUp (r.opEnd.toNat + s.uartFrame p) ≤ ts.toNat → ∃ t, exec (.xfer port rx ts) s = .next t ∧
      goes t (r.pc + if getF w 6 2 = 2 then 2 else 1) ∧ t.regs = s.regs ∧ t.taskMem = s.taskMem) ∧
    (∀ value st e, op 3 → live → s.recvData p r = some (value, st, e) → ∃ t, exec (.recv port ts) s = .next t ∧ goes t (r.pc + 1) ∧
      stored t value ∧ (s.portMode p = 3 → (t.port p).rx = x.rx.tail)) ∧
    (op 3 → r.flush = false → s.recvData p r = none → s.recvDeadline p r ≤ ts.toNat →
      ∃ t, exec (.timeout port ts) s = .next t ∧ ends t 1 ∧ t.flag .portEvt 1 p = true) ∧
    (op 4 → live → waitEnd ≤ ts.toNat → ∃ t, exec (.scriptWait port ts) s = .next t ∧ goes t (r.pc + 1) ∧ t.regs = s.regs) ∧
    (op 5 → live → left = 0 → ∃ t, exec (.loop port ts) s = .next t ∧ goes t (r.pc + 1) ∧ t.regs = s.regs) ∧
    (op 5 → live → left ≠ 0 → ∃ t, exec (.loop port ts) s = .next t ∧ goes t (getF w 16 8) ∧ t.regs = s.regs ∧
      ∃ k, (t.port p).run = some k ∧ k.loop = some (r.pc, left - 1)) ∧
    (op 5 → r.abort = true → ∃ t, exec (.loop port ts) s = .next t ∧ (t.port p).cs = 0 ∧ (r.flush = false → ends t 3) ∧
      (r.flush = true → (t.port p).run = none ∧ (t.port p).queue = [])) ∧
    (op 0 → r.flush = false → r.opEnd.toNat ≤ ts.toNat → ∃ t, exec (.scriptEnd port ts) s = .next t ∧ ends t 0 ∧
      (t.port p).ended = r.opEnd) ∧
    (op 6 → r.flush = false → r.opEnd.toNat ≤ ts.toNat → ∃ t, exec (.scriptEnd port ts) s = .next t ∧ ends t 2 ∧
      t.flag .portEvt 1 p = true) ∧
    (s.portOn p = true → s.portMode p = 2 → s.isFailed (portUnit p) = false →
      (shape → steady → ¬cut f.start.toNat → sentCrcOk f (s.flag .portSent 15 p) = true → ∃ t, exec (.sentFrame port f ts) s = .next t ∧
        (t.port p).fast = some (sentWord f, f.start, ts) ∧ (t.port p).calib = f.calib ∧ s.keeps t [.portCnt1]) ∧
      (shape → steady → ¬cut f.start.toNat → sentCrcOk f (s.flag .portSent 15 p) = false → ∃ t, exec (.sentFrame port f ts) s = .next t ∧
        (t.port p).fast = x.fast ∧ s.keeps t [.portCnt1] ∧ t.fld .portCnt1 0 8 p = min 255 (s.fld .portCnt1 0 8 p + 1)) ∧
      (¬(shape ∧ steady) ∨ cut f.start.toNat → ∃ t, exec (.sentFrame port f ts) s = .next t ∧ (t.port p).fast = x.fast ∧
        s.keeps t [.portCnt1] ∧ t.fld .portCnt1 8 8 p = min 255 (s.fld .portCnt1 8 8 p + 1))) ∧
    (s.portOn p = true → s.portMode p = 3 → s.isFailed (portUnit p) = false →
      (x.rx.length < 16 → ¬cut (ts.toNat - s.uartFrame p) → ∃ t, exec (.uartByte port byte true ts) s = .next t ∧ t.regs = s.regs ∧
        (t.port p).rx = x.rx ++ [(byte, toS (ts.toNat - s.uartFrame p), ts)]) ∧
      (16 ≤ x.rx.length → ¬cut (ts.toNat - s.uartFrame p) → ∃ t, exec (.uartByte port byte true ts) s = .next t ∧ (t.port p).rx = x.rx ∧
        t.fld .portCnt1 16 8 p = min 255 (s.fld .portCnt1 16 8 p + 1)) ∧
      ∀ good, good = false ∨ cut (ts.toNat - s.uartFrame p) → ∃ t, exec (.uartByte port byte good ts) s = .next t ∧ (t.port p).rx = x.rx ∧
        t.fld .portCnt1 8 8 p = min 255 (s.fld .portCnt1 8 8 p + 1)) ∧
    (p < s.ports → s.isFailed (portUnit p) = false →
      (∀ e, s.freePortEngine = some e → ∃ t, exec (.portSwap port ts) s = .next t ∧ t.fld .portStat 16 6 p = e ∧
        t.fld .portCnt2 8 8 p = min 255 (s.fld .portCnt2 8 8 p + 1) ∧ t.rd .fltSeq = s.rd .fltSeq + 1 ∧
        t.flag .unitState 3 (portUnit p) = true ∧
        (x.run = none → ∃ ns, ns ≤ 100000 ∧ (t.port p).outTo = toS (portUp (portUp ts.toNat + 16 * ns))) ∧
        (x.run = some r → ∃ k, (t.port p).run = some k ∧ k.swapped = true ∧ k.pc = back ∧ k.txn = r.txn ∧ k.results = r.results)) ∧
      (s.freePortEngine = none → ∃ t, exec (.portSwap port ts) s = .next t ∧ portUnit p ∈ t.failed ∧ (t.port p).run = none ∧
        (t.port p).queue = [] ∧ (t.port p).cs = 0 ∧ t.rd .fltSeq = s.rd .fltSeq + 1))

/-- Mortar's links: training ends UP, or keeps the link from coming up where the ends do not fit; a good frame in sequence is
taken and another counted; frames without an ACK go out again and, after the ninth sending, take the link DOWN; a standby link
takes the uplink over; beacons, DELAY frames and ALIVE keep their books (R278 to R281, R284 to R287, R291, R298). The model's own
choices in it: log entries 9, 22, 25, 96. -/
def Obligations.MortarLinks : Prop :=
  ∀ (link : Fin 4) (peer : LinkInfo) (f : RxFrame) (nak : Bool) (seq check : Byte) (stamp : BitVec 40) (t3 t4 ts : Stamp) (s : State),
    s.pstate < 3 →
    let z := s.reachIn islMortar ts
    let k := link.val
    let l := s.link k
    let up := s.linkUp k = true
    let after := fun (t : State) => t.link k
    let msg := f.frame
    let w0 := msg.payload.getD 0 0
    let good := f.crc = frameCrc msg ∧ msg.payload.length ≤ 18
    let inOrder := f.seq.toNat = l.rxSeq
    let took := fun (t : State) => (after t).rxSeq = (l.rxSeq + 1) % 256 ∧ (after t).answer = some (false, f.seq.toNat)
    let t1 := toS (ts.toNat / 2 ^ 40 * 2 ^ 40 + stamp.toNat)
    let d : Int := (ts.toNat : Int) - t1.toNat - getS (s.rd .mlDelay k) 0 32
    let most := min 16 (d.natAbs - 1)
    let can := k < s.linkCount ∧ s.flag .mlCtrl 0 = true ∧ s.flag .mlLctrl 0 k = true ∧ s.linkUp k = false
    let down := fun (t : State) => t.fld .mlLstat 0 4 k = 0 ∧ t.flag .mlEvt 1 k = true ∧
      t.fld .mlCnt1 0 8 k = min 255 (s.fld .mlCnt1 0 8 k + 1)
    let follows := s.flag .mlLstat 3 k = true ∧ s.joined = true ∧ s.flag .mlCtrl 1 = false
    (can → peer.comma = false → ∃ t, exec (.linkTrain link peer ts) s = .next t ∧ t.fld .mlLstat 0 2 k = 1 ∧ s.keeps t [.mlLstat] ∧
      t.links = s.links) ∧
    (can → peer.comma = true → s.roleFits k peer = false → ∃ t, exec (.linkTrain link peer ts) s = .next t ∧
      t.fld .mlLstat 0 3 k = 5 ∧ s.keeps t [.mlLstat]) ∧
    (can → peer.comma = true → s.roleFits k peer = true → ∃ t, exec (.linkTrain link peer ts) s = .next t ∧
      t.fld .mlLstat 0 2 k = 2 ∧ t.fld .mlLstat 4 9 k = peer.num ∧ t.fld .mlLstat 13 4 k = peer.depth % 16 ∧
      (after t).peerRole = peer.role ∧ (after t).peerRoot = peer.root ∧ (after t).rxSeq = 0 ∧ t.flag .mlEvt 0 k = true ∧
      (s.role k = 0 → s.uplink = none → t.flag .mlLstat 3 k = true ∧ t.fld .mlStat 5 4 = (peer.depth + 1) % 16 ∧ t.fld .mlStat 9 2 = k) ∧
      (s.role k ≠ 0 ∨ s.uplink ≠ none → t.flag .mlLstat 3 k = false)) ∧
    (up → good → inOrder → msg.ty = 10 → msg.hops < 9 → ∃ t, exec (.frameReceive link f ts) s = .next t ∧ took t ∧
      (after t).lastTx = z.now ∧ t.regs = s.regs) ∧
    (up → good → inOrder → msg.ty = 0 → msg.hops < 9 → ∃ t, exec (.frameReceive link f ts) s = .next t ∧ took t ∧
      s.keeps t [.mlLstat] ∧ t.fld .mlLstat 4 9 k = getF w0 0 9 ∧ t.fld .mlLstat 13 4 k = getF w0 10 4 ∧
      (after t).peerRole = getF w0 14 2 ∧ (after t).peerRoot = getB w0 9 ∧ (after t).peerJoined = getB w0 16) ∧
    (up → good → inOrder → msg.ty = 7 → msg.bcast = false → msg.dst = s.devNum → msg.hops < 9 → s.msgQ.length < 16 →
      ∃ t, exec (.frameReceive link f ts) s = .next t ∧ took t ∧
        t.msgQ = s.msgQ ++ [(getF w0 0 8, msg.src, msg.payload.getD 1 0)] ∧ t.flag .mlEvt 5 k = true) ∧
    (up → good → inOrder → 11 ≤ msg.ty ∨ 9 ≤ msg.hops → ∃ t, exec (.frameReceive link f ts) s = .next t ∧ took t ∧
      z.onlyRegs { t with links := s.links } [.mlCnt1] ∧ t.fld .mlCnt1 24 8 k = min 255 (s.fld .mlCnt1 24 8 k + 1)) ∧
    (up → ¬good ∨ ¬inOrder → ∃ t, exec (.frameReceive link f ts) s = .next t ∧ (after t).rxSeq = l.rxSeq ∧
      (after t).answer = some (true, l.rxSeq) ∧
      t.fld .mlCnt0 0 16 k = (s.fld .mlCnt0 0 16 k + 1) % 65536 ∧ t.flag .mlEvt 3 k = true ∧
      s.keeps t [.mlCnt0, .mlEvt, .intPendSet, .vecStat]) ∧
    (∀ q g n rest, up → l.ackAt.toNat + 32000 ≤ ts.toNat → l.unacked = (q, g, n) :: rest →
      (n < 9 → ∃ t, exec (.retransmitTimeout link ts) s = .next t ∧ (after t).unacked = l.unacked.map (fun (q, g, n) => (q, g, n + 1)) ∧
        (after t).ackAt = z.now ∧ s.keeps t [.mlCnt0] ∧
        t.fld .mlCnt0 16 16 k = (s.fld .mlCnt0 16 16 k + l.unacked.length) % 65536) ∧
      (9 ≤ n → ∃ t, exec (.retransmitTimeout link ts) s = .next t ∧ down t)) ∧
    (up → ∃ t, exec (.linkDown link ts) s = .next t ∧ down t ∧ (after t).beacon = none) ∧
    (s.fld .mlLstat 0 2 k = 0 → exec (.linkDown link ts) s = .next z) ∧
    (up → s.role k ≠ 1 → l.peerJoined = true → s.uplink = none → s.joined = true → ∃ t, exec (.standbyTakeover link ts) s = .next t ∧
      t.flag .mlLstat 3 k = true ∧ t.fld .mlStat 5 4 = (s.fld .mlLstat 13 4 k + 1) % 16 ∧ t.fld .mlStat 9 2 = k ∧
      t.fld .mlCnt1 8 8 k = min 255 (s.fld .mlCnt1 8 8 k + 1) ∧ t.flag .mlEvt 2 k = true ∧ t.rd .fltSeq = s.rd .fltSeq + 1) ∧
    (up → ts.toNat % 2 ^ 14 < 64 → ∃ t, exec (.beaconSend link ts) s = .next t ∧ (after t).sentBeacon = ts ∧ t.regs = s.regs) ∧
    (up → check.toNat ≠ beaconCheck stamp → ∃ t, exec (.beaconReceive link stamp check ts) s = .next t ∧ (after t).beacon = l.beacon ∧ t.flag .mlEvt 3 k = true ∧
      t.fld .mlCnt1 16 8 k = min 255 (s.fld .mlCnt1 16 8 k + 1)) ∧
    (up → check.toNat = beaconCheck stamp → ∃ t, exec (.beaconReceive link stamp check ts) s = .next t ∧ (after t).beacon = some (t1, ts) ∧
      (after t).total = l.total + 1 ∧ s.keeps t [.mlOffset] ∧ (follows → t.rd .mlOffset = intW d ∧ t.slew = if 0 < d then -(most : Int) else most) ∧
      (¬follows → t.regs = s.regs ∧ t.slew = s.slew)) ∧
    (∀ b1 b2, up → l.beacon = some (b1, b2) → l.rerouteIv = none →
      let a : Int := (b2.toNat : Int) - b1.toNat
      let b : Int := (t4.toNat : Int) - t3.toNat
      let asym := getS (s.rd .mlAsym k) 0 16
      ∃ t, exec (.delayFrame link t3 t4 ts) s = .next t ∧ t.rd .mlDelay k = intW ((a + b) / 2 + asym) ∧
        (s.flag .mlLstat 3 k = true → t.rd .mlOffset = intW ((a - b) / 2 - asym)) ∧ (after t).exchanges = l.exchanges + 1 ∧
        s.keeps t [.mlDelay, .mlOffset]) ∧
    (up → l.rerouteIv = some ((z.clock islMortar).toNat / 2 ^ 14) → exec (.delayFrame link t3 t4 ts) s = .next z) ∧
    (up → l.lastTx.toNat + 160000 ≤ ts.toNat → l.txq = [] → l.unacked.length < 32 → ∃ t, exec (.alive link ts) s = .next t ∧
      (after t).unacked.length = l.unacked.length + 1 ∧ (after t).txSeq = (l.txSeq + 1) % 256 ∧ (after t).lastTx = z.now ∧
      t.regs = s.regs) ∧
    (up → l.txq = [] → (∃ g n, (seq.toNat, g, n) ∈ l.unacked) → ∃ t, exec (.ackNakReceive link false seq) s = .next t ∧
      (after t).unacked = (l.unacked.dropWhile (fun (q, _) => q ≠ seq.toNat)).drop 1 ∧ t.regs = s.regs) ∧
    (up → (∀ q g n, (q, g, n) ∈ l.unacked → n < 9) → ∃ t, exec (.ackNakReceive link true seq) s = .next t ∧ s.keeps t [.mlCnt0] ∧
      (after t).unacked.length = l.unacked.length) ∧
    (∀ g n, up → (seq.toNat, g, n) ∈ l.unacked → 9 ≤ n → ∃ t, exec (.ackNakReceive link true seq) s = .next t ∧ down t) ∧
    (s.linkUp k = false → exec (.ackNakReceive link nak seq) s = .next s)

/-- Mortar's system: a device that may join joins, and one that may not says why; enabling the root steps a quiet master to
2^52; a system start reaches the tiles named, or is refused when it is too near; the root grants, keeps and takes back the
system locks and gives up those of a device that is lost; messages, peer mailboxes and fault notices arrive (R288, R289, R294 to
R296, R298). The model's own choices in it: log entry 22. -/
def Obligations.MortarSystem : Prop :=
  ∀ (m : Master) (link : Fin 4) (dup : Bool) (v : Word) (start : Stamp) (tag : BitVec 16) (tile : Fin 64) (lock : Fin 64)
    (dev : Fin 512) (x : Fin 128) (code kind : Byte) (f : PeerFrame) (ts : Stamp) (s : State), s.pstate < 3 →
    let z := s.reachIn islMortar ts
    let wake : List RegName := [.govIsl, .govWakeCnt]
    let at0 := (s.arrived .mlCtrl 0 0).now.toNat
    let en := s.flag .mlCtrl 0 = true
    let root := s.isRoot = true
    let off := getS (s.rd .mlOffset) 0 32
    let asks := en ∧ s.flag .mlCtrl 1 = false ∧ (s.joinState = 1 ∨ (s.joinState = 3 ∧ s.fld .mlStat 2 3 = 1)) ∧
      ∃ k, s.uplink = some k ∧ (s.link k).peerJoined = true ∧ 16 ≤ (s.link k).total ∧ (s.link k).exchanges ≠ 0
    let judged := fun (t : State) (j reason : Nat) => t.fld .mlStat 0 2 = j ∧ t.fld .mlStat 2 3 = reason ∧ t.flag .mlEvt 6 0 = true
    let named := s.flag .mlSsCtrl 0 = true ∧ tile.val < s.tiles ∧
      s.flag (if tile.val < 32 then .mlSsTilesLo else .mlSsTilesHi) (tile % 32) = true
    let at_ := stampOf (s.rd .mlSsAtLo) (s.rd .mlSsAtHi)
    let armed := fun (t : State) (e : Stamp) => t.rd .tileStartAtLo tile = loW e ∧ t.rd .tileStartAtHi tile = hiW e
    let who := toW (dev.val + x.val * 65536 + 2 ^ 31)
    let owner := fun (t : State) => t.rd .mlSlockOwner lock
    let k := f.dstIdx.val
    let own := (f.dev.val, f.srcIdx.val)
    let near := s.depthOf ≤ 8
    (asks → 8 < s.depthOf → ∃ t, exec (.joinJudgement dup ts) s = .next t ∧ judged t 3 4) ∧
    (asks → near → dup = true → ∃ t, exec (.joinJudgement dup ts) s = .next t ∧ judged t 3 3 ∧ t.flag .droneStat 2 = s.flag .droneStat 2) ∧
    (asks → near → dup = false → off.natAbs ≤ 64000 → ∃ t, exec (.joinJudgement dup ts) s = .next t ∧ judged t 2 0 ∧ t.flag .droneStat 2 = true ∧
      t.now = z.now) ∧
    (asks → near → dup = false → 64000 < off → ∃ t, exec (.joinJudgement dup ts) s = .next t ∧ judged t 3 2) ∧
    (asks → near → dup = false → off < -64000 → z.quiet = true → s.flag .droneStat 0 = true → z.now.toNat < 2 ^ 63 → ∃ t, exec (.joinJudgement dup ts) s = .next t ∧ judged t 2 0 ∧
      t.now = toS ((z.now.toNat / 2 ^ 14 + 1) * 2 ^ 14 + off.natAbs)) ∧
    (asks → near → dup = false → off < -64000 → z.quiet = false → ∃ t, exec (.joinJudgement dup ts) s = .next t ∧ judged t 3 1) ∧
    (s.lets m .mlCtrl 0 0 = true → s.flag .mlCtrl 0 = false → ∃ t, exec (.mlCtrlEnable m) s = .next t ∧ t.flag .mlCtrl 0 = true ∧
      t.flag .mlCtrl 1 = s.flag .mlCtrl 1 ∧ t.flag .droneStat 3 = s.flag .mlCtrl 1 ∧
      t.now.toNat = (if s.flag .mlCtrl 1 && s.quiet && decide (at0 < 2 ^ 52) then 2 ^ 52 else at0)) ∧
    (s.lets m .mlCtrl 0 0 = true → ∃ t, exec (.mlClrCnt m) s = .next t ∧ s.keeps t ([.mlCnt0, .mlCnt1, .mlCtrl] ++ wake) ∧
      (∀ j, j < 4 → t.rd .mlCnt0 j = 0 ∧ t.rd .mlCnt1 j = 0) ∧ t.fld .mlCtrl 0 2 = s.fld .mlCtrl 0 2) ∧
    (s.flag .mlStat 11 = true → s.coastAt.toNat + s.fld .mlHold 0 10 * 16000000 ≤ ts.toNat →
      ∃ t, exec (.holdMaxExpiry ts) s = .next t ∧ t.flag .mlStat 11 = false ∧ t.fld .mlStat 0 5 = 0 ∧ t.flag .droneStat 2 = false ∧
        ((∀ d, s.mirror d = false) → s.keeps t [.mlStat, .droneStat]) ∧
        ∀ d, d < s.domains → s.flag .domCtrl 0 d = true → s.mirror d = true → s.domState d ≠ 0 → t.domState d = 1) ∧
    (s.lets m .mlSsGo 0 0 = true →
      (getB v 0 = true → root → at0 + 320000 ≤ at_.toNat → ∃ t, exec (.sysstartSend m v) s = .next t ∧
        t.rd .mlSsGo = v &&& 0xFFFF0000 ∧ (named → armed t at_ ∧ t.rd .tileStartArm tile =
          toW (s.fld .mlSsChmask 0 8 tile + if s.fld .mlSsChmask 0 8 tile = 0 then 0 else 256))) ∧
      (getB v 0 = true → root → at_.toNat < at0 + 320000 → ∃ t, exec (.sysstartSend m v) s = .next t ∧
        t.flag .mlStat 12 = true ∧ s.keeps t ([.mlSsGo, .mlStat] ++ wake)) ∧
      (getB v 0 = false ∨ s.isRoot = false → ∃ t, exec (.sysstartSend m v) s = .next t ∧ t.rd .mlSsGo = v &&& 0xFFFF0000 ∧
        s.keeps t (.mlSsGo :: wake))) ∧
    (en → ∃ t, exec (.sysstartReceive start tag ts) s = .next t ∧ t.rd .mlSsAtLo = loW start ∧ t.rd .mlSsAtHi = hiW start ∧
      t.rd .mlSsGo = toW (tag.toNat * 65536) ∧ (named → armed t start)) ∧
    (root → s.flag .mlSlockOwner 31 lock = false → z.slockLost lock dev x = true →
      ∃ t, exec (.systemLockRequest lock .acquire dev x ts) s = .next t ∧ owner t = owner s) ∧
    (root → s.flag .mlSlockOwner 31 lock = false → z.slockLost lock dev x = false →
      ∃ t, exec (.systemLockRequest lock .acquire dev x ts) s = .next t ∧ owner t = who ∧
        ∀ j, j ≠ lock.val → t.rd .mlSlockOwner j = s.rd .mlSlockOwner j) ∧
    (root → s.flag .mlSlockOwner 31 lock = true → owner s ≠ who →
      (∃ t, exec (.systemLockRequest lock .acquire dev x ts) s = .next t ∧ owner t = owner s ∧ t.slockQ = s.slockQ) ∧
      ((dev.val, x.val) ∉ s.slockWaiters lock → ∃ t, exec (.systemLockRequest lock .wait dev x ts) s = .next t ∧ owner t = owner s ∧
        t.slockWaiters lock = s.slockWaiters lock ++ [(dev.val, x.val)]) ∧
      ((dev.val, x.val) ∉ s.slockWaiters lock → ∃ t, exec (.systemLockRequest lock .release dev x ts) s = .next t ∧ s.keeps t [.lockStat] ∧
        t.fld .lockStat 0 16 = (s.fld .lockStat 0 16 + 1) % 65536)) ∧
    (root → owner s = who → (s.slockWaiters lock = [] → ∃ t, exec (.systemLockRequest lock .release dev x ts) s = .next t ∧ owner t = 0) ∧
      ∀ d y rest, s.slockWaiters lock = (d, y) :: rest → ∃ t, exec (.systemLockRequest lock .release dev x ts) s = .next t ∧
        owner t = toW (d + y * 65536 + 2 ^ 31) ∧ t.slockWaiters lock = rest) ∧
    (root → ∃ t, exec (.deviceLost dev ts) s = .next t ∧ t.rd .fltSeq = s.rd .fltSeq + 1 ∧ t.routeOf dev = none ∧
      (s.flag .mlSlockOwner 31 lock = true → s.fld .mlSlockOwner 0 9 lock = dev.val → s.slockWaiters lock = [] → owner t = 0) ∧
      (¬(s.flag .mlSlockOwner 31 lock = true ∧ s.fld .mlSlockOwner 0 9 lock = dev.val) → owner t = owner s)) ∧
    (en → s.msgQ.length < 16 → ∃ t, exec (.msgReceive link dev code v ts) s = .next t ∧ t.msgQ = s.msgQ ++ [(code.toNat, dev.val, v)] ∧
      t.flag .mlEvt 5 link = true) ∧
    (en → 16 ≤ s.msgQ.length → ∃ t, exec (.msgReceive link dev code v ts) s = .next t ∧ t.msgQ = s.msgQ ∧
      t.fld .mlCnt1 24 8 link = min 255 (s.fld .mlCnt1 24 8 link + 1)) ∧
    (s.lets m .mlMsgqPop 0 0 = true → ∃ t, exec (.mlMsgqPop m) s = .next t ∧ t.msgQ = s.msgQ.drop 1 ∧ s.keeps t wake) ∧
    (∀ ws, en → f.op = .data ws → peerOf (s.rd .mlPmbSrc k) = own →
      (s.go (36 + k) = false → ∃ t, exec (.peerMboxReceive f ts) s = .next t ∧ t.go (36 + k) = true ∧
        ∀ i, i < 16 → i < ws.length → t.rd .mbData (36 + k) i = ws.getD i 0) ∧
      (s.go (36 + k) = true → ∃ t, exec (.peerMboxReceive f ts) s = .next t ∧ t.go (36 + k) = true ∧
        ∀ i j, t.rd .mbData i j = s.rd .mbData i j)) ∧
    (en → f.op = .ack → peerOf (s.rd .mlPmbDst k) = own → s.go (40 + k) = true → ∃ t, exec (.peerMboxReceive f ts) s = .next t ∧
      t.go (40 + k) = false) ∧
    (en → ∃ t, exec (.faultNoticeReceive link dev kind v) s = .next t ∧ t.rd .mlFnLast = toW (dev.val + kind.toNat * 65536) ∧
      t.rd .mlFnTime = v ∧ t.flag .mlEvt 4 link = true ∧ s.keeps t [.mlFnLast, .mlFnTime, .mlEvt, .intPendSet, .vecStat])

/-- The channels of command packets: on a channel that may not take one nothing happens, the checks of R316 answer in their
order and change nothing else, a reply goes out when its mailbox is drained and waits otherwise, a finished operation sends its
completion, and a COMMAND descriptor's packet is carried out with its reply written to memory (R312 to R316, R318, R320, R352,
R362). The model's own choices in it: log entries 30, 32, 48, 53. -/
def Obligations.CommandChannels : Prop :=
  ∀ (row : Instr) (op : Nat) (k : Fin 16) (j : Fin 2) (ring : Fin 16) (pk : Packet) (cmd : Cmd) (ws : List Word) (n : Nat) (ts : Stamp)
    (s : State), rowCommand row = some (op, pk) → cmdOf op = some cmd →
    let tg := pk.target.toNat
    let mine := pk.path = .hostBox k ∧ s.mayTake pk.path k = true ∧ s.go (inBox k) = false
    let told := fun (st : Nat) => Replied (exec row s) s op pk k (refuse st)
    let sized := pk.params.length ≤ 14 ∧ cmd.len true pk.params = true
    let named := s.targetAbsent tg = false ∧ cmd.target.takes tg = true ∧ cmd.absent s (cmd.target.index tg) pk.params = false
    let barred := (targetUnit tg).any (fun u => s.barred pk.path u)
    let c := ring.val
    let dp := s.dstSp c
    let dst := s.descDst c
    let atCmd := s.pstate < 3 ∧ s.atCommand c = true
    (pk.path = .hostBox k → s.mayTake pk.path k = false → exec row s = .next s) ∧
    (mine → ¬sized → told stParam) ∧
    (mine → sized → s.targetAbsent tg = true → told stAbsent) ∧
    (mine → sized → s.targetAbsent tg = false → cmd.target.takes tg = false → told stParam) ∧
    (mine → sized → s.targetAbsent tg = false → cmd.target.takes tg = true →
      cmd.absent s (cmd.target.index tg) pk.params = true → told stAbsent) ∧
    (mine → sized → named → cmd.own = false → barred = true → Replied (exec row s)
      (match s.heldTarget pk with | some u => s.bump .unitReq 8 8 u | none => s) op pk k (refuse stDenied)) ∧
    (mine → sized → named → cmd.own = false → barred = false → cmd.long = true → s.longBusy op = true → told stBusy) ∧
    (pk.path = .supBox j → s.mayTake pk.path (16 + j) = true → s.go (inBox (16 + j)) = false → cmd.sup = false →
      exec row s = .next (s.queueReply (16 + j) (replyWords (refuse stOpcode) false pk.tag op))) ∧
    (s.repliesOf k = [] → s.go (outBox k) = false → s.cmdBox (outBox k) = true → (s.queueReply k ws).go (outBox k) = true ∧
      (s.queueReply k ws).repliesOf k = [] ∧ ∀ i, i < 16 → i < ws.length → (s.queueReply k ws).rd .mbData (outBox k) i = ws.getD i 0) ∧
    (s.go (outBox k) = true → (s.queueReply k ws).repliesOf k = s.repliesOf k ++ [ws] ∧ (s.queueReply k ws).regs = s.regs) ∧
    (∀ o st res, s.longOps.find? (fun o => o.num == n) = some o → o.outcome = some (st, res) → o.path = .hostBox k →
      (o.quiet = true → st = stOk → exec (.longCompletion n) s = .next (s.endLong n)) ∧
      (o.quiet = false ∨ st ≠ stOk → (s.repliesOf k).length < 8 → exec (.longCompletion n) s =
        .next ((s.endLong n).queueReply k (replyWords { status := st, res := res } (!o.wait) o.tag o.opcode))) ∧
      (o.quiet = false ∨ st ≠ stOk → 8 ≤ (s.repliesOf k).length → exec (.longCompletion n) s = .next (s.setStall k true))) ∧
    (s.longOps.find? (fun o => o.num == n) = none → exec (.longCompletion n) s = .next s) ∧
    (atCmd → (s.dma c).taken = true → (s.dma c).waits = none → (s.dma c).reply = ws → ws ≠ [] →
      (dp = 0 ∧ s.hostReach = true) ∨ (dp = 1 ∧ dst + 4 * ws.length ≤ 0x3C0000) → ∃ t, exec (.command ring ts) s = .next t ∧
        t.rd .dmaProg c = toW (4 * ws.length) ∧ ∀ i, i < ws.length → t.dmaWord dp (dst + 4 * i) = ws.getD i 0) ∧
    (atCmd → (s.dma c).taken = false → s.srcSp c ≠ 2 → s.dmaFails (s.srcSp c) (s.descSrc c) (s.descLen c) false = none →
      (dp = 0 → s.hostReach = true) → s.ringPacket c = (0, pk, false) → pk.params = [] → tg = 0xFFFF → pk.wait = false →
      pk.quiet = false → ∃ t, exec (.command ring ts) s = .next t ∧ (t.dma c).taken = true ∧ t.rd .dmaProg c = 8 ∧
        t.dmaWord dp dst = 0 ∧ t.dmaWord dp (dst + 4) = toW pk.tag.toNat) ∧
    (s.pstate < 3 → s.atCommand c = false → exec (.command ring ts) s = .next (s.reachIn islFabric ts))

/-- Commands that read: each answers OK with the words that R319 lists for it, and changes nothing but what a read of a sleeping
island wakes (R319, R374). -/
def Obligations.CommandsThatRead : Prop :=
  ∀ (k : Fin 16) (pk : Packet) (s : State),
    let tg := pk.target.toNat
    let p := fun (i : Nat) => (prm pk i).toNat
    let reads := fun (i : Instr) (op : Nat) (u : State) (res : List Word) => Replied (exec i s) u op pk k (ok res)
    let regs := fun (u : State) (n : Nat) (l : List RegName) => l.map (u.cmdRead n)
    let h := p 0 % 65536
    let e := h % 8192
    let d := tg - 64
    let x := tg - 0x100
    (s.carries 0x0000 pk k → reads (.nop pk) 0x0000 s []) ∧
    (s.carries 0x0001 pk k → reads (.devInfo pk) 0x0001 s
      (regs s 0 [.sysId, .sysRev, .sysCaps0, .sysCaps1, .sysCaps2, .sysCaps3, .csVer, .csFwSvc])) ∧
    (s.carries 0x0002 pk k → reads (.echo pk) 0x0002 s pk.params) ∧
    (s.carries 0x0003 pk k → reads (.unitGet pk) 0x0003 s [s.unitView tg, s.rd .unitReq tg]) ∧
    (s.carries 0x0006 pk k → reads (.accerrRead pk) 0x0006 s (regs s 0 [.sysAccerr, .sysAccerrAddr, .sysAccerrSrc])) ∧
    (s.carries 0x0104 pk k → reads (.pwrStatus pk) 0x0104 s (regs s 0 [.govPstate, .govStat, .govTj, .govFc, .govPfixed, .govRefill])) ∧
    (s.carries 0x0204 pk k → p 0 < 8 → let u := s.wakeFor tg
      reads (.tileRead pk) 0x0204 u ([RegName.chStat, .chCount, .chAperiod, .chAcmpa, .chAcmpb, .chAfrac, .chAact, .chPwmstat, .chCapvLo,
        .chCapvHi, .chErrcnt, .chEvcnt].map (fun n => u.viewKey ⟨n, tg, p 0⟩))) ∧
    (s.carries 0x0305 pk k → reads (.domStatus pk) 0x0305 s (s.cmdRead d .domStat :: (s.linkedWords (.snap (Fin.ofNat 16 d))).1 ::
      (s.linkedWords (.snap (Fin.ofNat 16 d))).2 :: regs s d [.domTooth, .domTtime, .domPeriod, .domRate, .domPredErr, .domEvt,
        .domCnt0, .domCnt1, .domCnt2, .domCnt3])) ∧
    (s.carries 0x0405 pk k → s.ePhase e ≠ 0 → h / 8192 % 8 ≠ 0 → h / 8192 % 8 = (s.entry e).gen → reads (.evEntry pk) 0x0405 s
      (regs s e [.entryW0, .entryW1, .entryW2, .entryW3, .entryW4, .entryW5, .entryW6, .entryW7])) ∧
    (s.carries 0x0405 pk k → s.ePhase e = 0 ∨ h / 8192 % 8 = 0 ∨ h / 8192 % 8 ≠ (s.entry e).gen →
      Replied (exec (.evEntry pk) s) s 0x0405 pk k (refuse stStale)) ∧
    (s.carries 0x0406 pk k → reads (.evStatus pk) 0x0406 s (s.cmdRead 0 .calStat :: regs s (p 0) [.calDstat, .calCqWr, .calCqRd,
      .calCnt0, .calCnt1, .calCnt2, .calCnt3, .calEvt])) ∧
    (s.carries 0x0501 pk k → p 0 < 131072 → reads (.catRead pk) 0x0501 s (regs s (p 0) [.catW0, .catW1, .catW2, .catW3])) ∧
    (s.carries 0x0504 pk k → reads (.logStatus pk) 0x0504 s (regs s 0 [.logStat, .logWr, .logRd, .logFill] ++
      (List.range 4).map (fun i => s.rd .logCnt i) ++ regs s 0 [.logReccnt, .logCntMisc, .logCfgerr])) ∧
    (s.carries 0x0606 pk k → let u := s.wakeFor tg
      reads (.portStatus pk) 0x0606 u (regs u (tg - 84) [.portStat, .portLast, .portCnt0, .portCnt1, .portCnt2, .portDmemPtr])) ∧
    (s.carries 0x0705 pk k → let u := s.wakeFor 139
      reads (.mlStatus pk) 0x0705 u (regs u 0 [.mlStat, .mlOffset, .droneStat] ++
        (List.range s.linkCount).flatMap (fun i => [u.cmdRead i .mlLstat, u.cmdRead i .mlDelay]))) ∧
    (s.carries 0x0803 pk k → let u := s.wakeCtx x
      reads (.ctxStatus pk) 0x0803 u ([RegName.ctxStat, .ctxCtrl, .ctxPc, .ctxCause, .ctxFaultPc, .ctxErrcnt,
      .ctxIssued].map (fun n => u.viewKey ⟨n, x / 32, x % 32⟩))) ∧
    (s.carries 0x0900 pk k → let u := s.wakeFor tg
      reads (.fwVersion pk) 0x0900 u (regs u (tg - 80) [.csVer, .csPatch, .csPatchId, .csDigest, .csFwKs, .csFwSvc, .csStat])) ∧
    (s.carries 0x0A00 pk k → p 0 % 4 = 0 → 1 ≤ p 1 → p 1 ≤ 12 → p 0 + 4 * p 1 ≤ 4096 → reads (.calRead pk) 0x0A00 s
      ((List.range (p 1)).map (fun i => s.rd .calPage (p 0 / 4 + i)))) ∧
    (s.carries 0x0B00 pk k → p 0 < (s.rd .fltSeq).toNat → (s.rd .fltSeq).toNat ≤ p 0 + 64 → reads (.faultRead pk) 0x0B00 s
      ((List.range 8).map (fun i => s.rd .fltRec (p 0 % 64) i))) ∧
    (s.carries 0x0B00 pk k → (s.rd .fltSeq).toNat ≤ p 0 ∨ p 0 + 64 < (s.rd .fltSeq).toNat →
      Replied (exec (.faultRead pk) s) s 0x0B00 pk k (refuse stParam)) ∧
    (s.carries 0x0B02 pk k → reads (.startRead pk) 0x0B02 s
      ((List.range 8).map (fun i => s.rd .startRec (8 * (p 0 % 2) + i))))

/-- Commands on units, power, tiles, pins, domains and the calendar: each does what R319 says with its parameters and answers, a
register that a parameter gives is written as a write on the bus writes it, and a unit that runs is refused with its state
(R226, R227, R235, R308 to R310, R317, R319). The model's own choices in it: log entries 54, 55. -/
def Obligations.CommandsOnUnits : Prop :=
  ∀ (m : Master) (off : Nat) (k : Fin 16) (pk : Packet) (s : State),
    let tg := pk.target.toNat
    let w := prm pk
    let p := fun (i : Nat) => (prm pk i).toNat
    let does := fun (i : Instr) (op : Nat) (u : State) (res : List Word) => Replied (exec i s) u op pk k (ok res)
    let busy := fun (i : Instr) (op unit : Nat) => Replied (exec i s) s op pk k (stateRefuse (s.unitCode unit))
    let bad := fun (i : Instr) (op : Nat) => Replied (exec i s) s op pk k (refuse stParam)
    let awake := s.wakeFor tg
    let tail := pk.params.drop 1
    let d := tg - 64
    let f := p 0
    let follows := (List.range 8).any (fun c => s.running tg c && s.modeF tg c == 5 && s.fld .chCtrl 16 2 tg c == f)
    let dom := fun (l : List (RegName × Word)) => l.any (fun e => s.domBad d e.1 e.2)
    let cfg := domCfgRegs.zip tail
    let arm : ArmWords := { w0 := w 0, w1 := w 1, w2 := w 2, w3 := w 3, w4 := w 4, w5 := w 5 }
    (∀ r v, regAt off = some r → taskWindow off = none → off < 0x80000000 → off % 4 = 0 → s.reachable off = true →
      s.lets m r.name r.i r.j = true →
      r.name ∈ [.chCtrl, .chPresc, .chPeriod, .chCmpa, .chCmpb, .chFrac, .chAct, .chRatio, .chPwmctrl, .chIen, .brCtrl, .brDt, .brMinpw,
        .tripCtrlA, .tripCtrlB, .tripBlankA, .tripBlankB, .tripLvl, .folCtrl, .tileCtrl, .domCtrl, .domIn, .domFilt, .domRatio, .domStall,
        .domDir, .phmCtrl, .phmWin, .calPart, .logRing, .logThresh, .logWmark, .logFlush, .logCtrl, .portSpi, .portSpi2, .portSent,
        .portUart, .portNotify, .portCfg, .portScrEntry, .mlDev, .mlHold, .mlCtrl, .mlAsym, .mlLctrl, .mlSsCtrl, .mlSsPorts] →
      exec (.registerWrite m off 4 v) s = .next (s.tick.cmdWrite r.name v r.i r.j)) ∧
    (s.carries 0x0004 pk k → unitSetAllows tg (p 0 % 8) = true → ∃ u, does (.unitSet pk) 0x0004 u [u.unitView tg] ∧
      u.fld .unitReq 0 3 tg = p 0 % 8 ∧ (tg < 116 → (tg ∈ u.paused ↔ p 0 % 8 = 4)) ∧
      (120 ≤ tg → u.flag .dmaCtrl 1 (tg - 120) = decide (p 0 % 8 = 4))) ∧
    (s.carries 0x0004 pk k → unitSetAllows tg (p 0 % 8) = false → bad (.unitSet pk) 0x0004) ∧
    (s.carries 0x0005 pk k → does (.unitOwn pk) 0x0005 (s.setFlag .unitReq 3 (getB (w 0) 0) tg) []) ∧
    (s.carries 0x0100 pk k → does (.pwrBudget pk) 0x0100 (s.writeBudget .host (toW (p 0 % 65536))) []) ∧
    (s.carries 0x0101 pk k → let l : List (GovReg × Word) := [(.share, w 0), (.floor, w 1), (.depth 0, w 2), (.depth 1, w 3), (.depth 2, w 4)]
      (l.any (fun e => govBad e.1 e.2) = false → does (.pwrShare pk) 0x0101 (l.foldl (fun s e => s.writeGov e.1 e.2) s) []) ∧
      (l.any (fun e => govBad e.1 e.2) = true → bad (.pwrShare pk) 0x0101)) ∧
    (s.carries 0x0102 pk k → let l : List (GovReg × Word) := [(.thresh, w 0), (.thermFact, w 1)]
      (l.any (fun e => govBad e.1 e.2) = false → does (.pwrTherm pk) 0x0102 (l.foldl (fun s e => s.writeGov e.1 e.2) s) []) ∧
      (l.any (fun e => govBad e.1 e.2) = true → bad (.pwrTherm pk) 0x0102)) ∧
    (s.carries 0x0103 pk k → s.pwrReq = none → 1 ≤ p 0 % 8 → p 0 % 8 ≤ 5 → s.barred pk.path 138 = false →
      s.switchoverOn = true ∨ s.pstateStateBad (p 0 % 8) (getB (w 0) 3) = false →
      ∃ u, Replied (exec (.pwrState pk) s) u 0x0103 pk k (refuse stAccepted) ∧ u.flag .govPstate 3 = true ∧ u.longNext = s.longNext + 1 ∧
        ∃ q, u.pwrReq = some q ∧ q.target = p 0 % 8 ∧ q.op = some s.longNext) ∧
    (s.carries 0x0103 pk k → s.pwrReq = none → p 0 % 8 = 0 ∨ 5 < p 0 % 8 → ∃ u, Replied (exec (.pwrState pk) s) u 0x0103 pk k (refuse stParam) ∧
      u.pwrReq = none ∧ u.regs = s.regs) ∧
    (s.carries 0x0200 pk k → f < 8 → (s.running tg f = true → busy (.tileChCfg pk) 0x0200 tg) ∧
      (s.running tg f = false → does (.tileChCfg pk) 0x0200 (s.cmdWrites ([RegName.chCtrl, .chPresc, .chPeriod, .chCmpa, .chCmpb, .chFrac,
        .chAct, .chRatio, .chPwmctrl, .chIen].zip tail) tg f) [])) ∧
    (s.carries 0x0201 pk k → let c := f % 8
      let l := (([RegName.chPeriod, .chCmpa, .chCmpb, .chFrac, .chAct, .chRatio, .chPwmctrl].zipIdx.filter
        (fun e => getB (w 0) (8 + e.2))).map (fun e => e.1)).zip tail
      (s.running tg c = false → does (.tileChUpdate pk) 0x0201 (s.cmdWrites l tg c) []) ∧
      (s.running tg c = true → s.flag .chStat 2 tg (s.lead tg c) = false → let u := s.cmdWrites l tg c
        does (.tileChUpdate pk) 0x0201 (u.commitMask tg (2 ^ c) (u.nextNs tg)) []) ∧
      (s.running tg c = true → s.flag .chStat 2 tg (s.lead tg c) = true → Replied (exec (.tileChUpdate pk) s) s 0x0201 pk k (refuse stBusy))) ∧
    (s.carries 0x0202 pk k → (getB (w 1) 0 = false → does (.tileStart pk) 0x0202 (awake.startMask tg (f % 256) (awake.nextNs tg) 0) []) ∧
      (getB (w 1) 0 = true → does (.tileStart pk) 0x0202
        (((awake.wr .tileStartAtLo (w 2) tg).wr .tileStartAtHi (w 3) tg).armStart tg (f % 256)) [])) ∧
    (s.carries 0x0203 pk k → does (.tileStop pk) 0x0203 (awake.stopTile tg (f % 256)) []) ∧
    (s.carries 0x0205 pk k → f < 4 → (s.running tg (2 * f) = true ∨ s.running tg (2 * f + 1) = true → busy (.tileBridge pk) 0x0205 tg) ∧
      (s.running tg (2 * f) = false → s.running tg (2 * f + 1) = false → getB (w 1) 0 = false →
        does (.tileBridge pk) 0x0205 (s.cmdWrites ([RegName.brCtrl, .brDt, .brMinpw].zip tail) tg f) [])) ∧
    (s.carries 0x0206 pk k → (List.range 8).any (fun c => getF (w 4) (4 * c + 2) 2 == 3) = false →
      (List.range 4).any (fun q => s.flag .brCtrl 0 tg q && bothHigh (w 4) q) = false → does (.tileTrip pk) 0x0206
        (s.cmdWrites ([RegName.tripCtrlA, .tripCtrlB, .tripBlankA, .tripBlankB, .tripLvl, .pmTrip].zip pk.params) tg) []) ∧
    (s.carries 0x0207 pk k → let u := awake.clearTrips tg (f % 256)
      does (.tileTripClr pk) 0x0207 u [u.cmdRead tg .tripStat]) ∧
    (s.carries 0x0208 pk k → (follows = true → busy (.tileFol pk) 0x0208 tg) ∧
      (follows = false → f < 4 → does (.tileFol pk) 0x0208 (s.cmdWrite .folCtrl (w 1) tg f) []) ∧
      (follows = false → 4 ≤ f → bad (.tileFol pk) 0x0208)) ∧
    (s.carries 0x0209 pk k → does (.tileCtrl pk) 0x0209 (s.cmdWrite .tileCtrl (w 0) tg) []) ∧
    (s.carries 0x020A pk k → let vs := pk.params.drop 2
      (vs ≠ [] → f + vs.length ≤ 32 → vs.all pinOk = true → does (.pinCfg pk) 0x020A
        (vs.zipIdx.foldl (fun s e => s.cmdWrite .pmPin e.1 (32 * (tg - 140) + f + e.2)) s) []) ∧
      (vs.all pinOk = false → bad (.pinCfg pk) 0x020A)) ∧
    (s.carries 0x0300 pk k → (s.flag .domCtrl 0 d = true → busy (.domCfg pk) 0x0300 tg) ∧
      (s.flag .domCtrl 0 d = false → getB (w 0) 0 = false → getF (w 0) 7 2 ≠ 3 → getB (w 0) 2 = false → dom cfg = false →
        does (.domCfg pk) 0x0300 (s.cmdWrites ((.domCtrl, w 0) :: cfg) d) []) ∧
      (s.flag .domCtrl 0 d = false → dom cfg = true → bad (.domCfg pk) 0x0300)) ∧
    (s.carries 0x0301 pk k → (s.flag .domCtrl 0 d = true → busy (.domPhteeth pk) 0x0301 tg) ∧
      (s.flag .domCtrl 0 d = false → 1 ≤ p 1 → f + p 1 ≤ 16 → does (.domPhteeth pk) 0x0301 (s.each (List.range (p 1)) (fun s i =>
        (s.cmdWrite .domPhRise (w (2 + 2 * i)) d (f + i)).cmdWrite .domPhFall (w (3 + 2 * i)) d (f + i))) [])) ∧
    (s.carries 0x0302 pk k → let on := getB (w 0) 0
      (on = false ∨ s.domEnableOk d = true → let u := s.cmdWrite .domCtrl (putB (s.rd .domCtrl d) 0 on) d
        does (.domEnable pk) 0x0302 u [u.domStatView d]) ∧
      (on = true → s.flag .domCtrl 0 d = false → s.domEnableOk d = false → bad (.domEnable pk) 0x0302)) ∧
    (s.carries 0x0303 pk k → does (.domRuntime pk) 0x0303 (s.cmdWrites ((.domCtrl, putF (s.rd .domCtrl d) 3 9 (getF (w 0) 3 9)) ::
      [RegName.domFilt, .domRatio, .domStall, .domDir].zip tail) d) []) ∧
    (s.carries 0x0304 pk k → (4 ≤ f ∨ s.domBad d .phmCtrl (w 1) = true → bad (.domPhm pk) 0x0304) ∧
      (f < 4 → s.domBad d .phmCtrl (w 1) = false → does (.domPhm pk) 0x0304
        (s.cmdWrites ((RegName.phmCtrl :: .phmWin :: (List.range 8).map phmNom).zip tail) d f) [])) ∧
    (∀ word t, s.carries 0x0400 pk k → s.armAbsent arm = false → (136 :: (armUnit arm).toList).all (fun u => !s.barred pk.path u) = true →
      s.armDecision .host arm = ((stOk, word), t) → does (.evArm pk) 0x0400 t [word]) ∧
    (∀ word t st, s.carries 0x0400 pk k → s.armAbsent arm = true → s.armDecision .host arm = ((st, word), t) → st ≠ stOk → st ≠ stState →
      Replied (exec (.evArm pk) s) t 0x0400 pk k (refuse st)) ∧
    (s.carries 0x0400 pk k → s.armAbsent arm = false → (136 :: (armUnit arm).toList).any (fun u => s.barred pk.path u) = true →
      Replied (exec (.evArm pk) s) (match s.heldTarget pk with | some u => s.bump .unitReq 8 8 u | none => s) 0x0400 pk k
        (refuse stDenied)) ∧
    (∀ st t, s.carries 0x0401 pk k → s.cancelDecision .host (f % 65536) = (st, t) →
      Replied (exec (.evCancel pk) s) t 0x0401 pk k (refuse st)) ∧
    (∀ n t, s.carries 0x0402 pk k → s.flushDecision .host (f % 16) = (n, t) → does (.evFlush pk) 0x0402 t [toW n]) ∧
    (s.carries 0x0403 pk k → (s.entriesOf f ≠ [] → busy (.evPart pk) 0x0403 136) ∧
      (s.entriesOf f = [] → s.partBad f (w 1) = true → bad (.evPart pk) 0x0403) ∧
      (s.entriesOf f = [] → s.partBad f (w 1) = false → does (.evPart pk) 0x0403 (s.cmdWrite .calPart (w 1) f) [])) ∧
    (s.carries 0x0404 pk k → let b := w 1 &&& 0x3FFFF0
      (s.fld .calCqWr 0 13 f ≠ s.fld .calCqRd 0 13 f → busy (.evCq pk) 0x0404 136) ∧
      (s.fld .calCqWr 0 13 f = s.fld .calCqRd 0 13 f → queueFits b.toNat (getF (w 2) 0 4) = true →
        does (.evCq pk) 0x0404 ((s.wr .calCqBase b f).wr .calCqSize (w 2 &&& 0xF) f) []))

/-- Commands on the catalogue, the log, ports, Mortar, contexts, firmware, calibration and fault records: each does what R319
says with its parameters and answers, a long one is accepted and its operation finishes, and a unit or context that is in the
wrong state is refused with it (R190, R244, R249, R266, R267, R271, R272, R315, R317, R319, R374, R381). The model's own choices
in it: log entries 46, 47, 54, 56, 64, 83. -/
def Obligations.CommandsOnServices : Prop :=
  ∀ (k : Fin 16) (pk : Packet) (s : State),
    let tg := pk.target.toNat
    let w := prm pk
    let p := fun (i : Nat) => (prm pk i).toNat
    let does := fun (i : Instr) (op : Nat) (u : State) => Replied (exec i s) u op pk k (ok [])
    let takes := fun (i : Instr) (op : Nat) (u : State) => Replied (exec i s) u op pk k (refuse stAccepted)
    let no := fun (i : Instr) (op : Nat) (a : Answer) => Replied (exec i s) s op pk k a
    let running := fun (op : Nat) => s.beginLong (longOf op pk (0, 0, 0, false))
    let done := fun (u : State) (res : List Word) => ∃ o ∈ u.longOps, o.num = s.longNext ∧ o.outcome = some (stOk, res)
    let sig := p 0 % 131072
    let st := s.catCheck sig (w 1) (w 2) (w 3)
    let port := tg - 84
    let pin := portUnit port
    let x := tg - 0x100
    let link := tg - 116
    let ring := getF (w 1) 0 5
    let order := getF (w 2) 0 8 < getF (w 2) 8 8 ∧ getF (w 2) 8 8 < getF (w 2) 16 8 ∧ getF (w 2) 24 4 ≤ getF (w 2) 0 8
    let wakes : List RegName := [.govIsl, .govWakeCnt]
    let stale := fun (t : Txn) => decide (t.came.toNat / portCycle < (s.clock islPort).toNat / portCycle)
    let soon := (stampOf (w 0) (w 1)).toNat < s.now.toNat + 320000
    (s.carries 0x0500 pk k → (st = stOk → w 4 = 0 → ∃ u, does (.catWrite pk) 0x0500 u ∧ u.rd .catW0 sig = w 1 &&& 0xFFFFFF ∧
        u.rd .catW1 sig = w 2 ∧ u.rd .catW2 sig = w 3 ∧ u.rd .catW3 sig = 0 ∧ s.keeps u [.catW0, .catW1, .catW2, .catW3]) ∧
      (st = stAbsent → no (.catWrite pk) 0x0500 (refuse stAbsent)) ∧
      (st ≠ stAbsent → w 4 ≠ 0 → no (.catWrite pk) 0x0500 (refuse stParam)) ∧
      (st ≠ stOk → w 4 = 0 → no (.catWrite pk) 0x0500 (refuse st))) ∧
    (s.carries 0x0502 pk k → p 1 ≠ 0 → p 0 + p 1 ≤ 131072 → ∃ u, takes (.catClear pk) 0x0502 u ∧ (∃ n, done u [toW n]) ∧
      (∀ i, p 0 ≤ i → i < p 0 + p 1 → u.fld .catW0 0 4 i = 0) ∧
      ∀ i, ¬(p 0 ≤ i ∧ i < p 0 + p 1) → u.rd .catW0 i = s.rd .catW0 i) ∧
    (s.carries 0x0503 pk k → (s.flag .logCtrl 0 = true → ring ≠ s.fld .logRing 0 5 →
        no (.logSetup pk) 0x0503 (stateRefuse (s.unitCode 137))) ∧
      (s.flag .logCtrl 0 = false → ring < 16 ∨ s.logSize < 2 ^ ring ∨ ¬order → no (.logSetup pk) 0x0503 (refuse stParam)) ∧
      (s.flag .logCtrl 0 = false → 16 ≤ ring → 2 ^ ring ≤ s.logSize → order → ∃ u, does (.logSetup pk) 0x0503 u ∧
        u.fld .logRing 0 5 = ring ∧ u.rd .logThresh = w 2 &&& 0xFFFFFFF ∧ u.rd .logCtrl = w 0 &&& 0xF3)) ∧
    (s.carries 0x0600 pk k → (s.portOn port = true → no (.portSetup pk) 0x0600 (stateRefuse (s.unitCode tg))) ∧
      (s.portOn port = false → s.portBad port .cfg (w 0) = false → s.portBad port .spi (w 1) = false → s.portBad port .sent (w 3) = false →
        s.portBad port .uart (w 4) = false → p 5 % 4 = 0 → p 6 % 4 = 0 → p 5 + p 6 ≤ 0x3C0000 → ∃ u, does (.portSetup pk) 0x0600 u ∧
        u.rd .portCfg port = w 0 &&& 7 ∧ u.rd .portSpi port = w 1 &&& portMask .spi ∧ u.rd .portSpi2 port = w 2 &&& portMask .spi2 ∧
        u.rd .portSent port = w 3 &&& portMask .sent ∧ u.rd .portUart port = w 4 &&& portMask .uart ∧ u.rd .portDmemBase port = w 5 ∧
        u.rd .portDmemSize port = w 6 ∧ u.rd .portNotify port = w 7 &&& 0xFF)) ∧
    (s.carries 0x0601 pk k → let ws := pk.params.drop 2
      (s.flag .portStat 0 port = true → no (.portScript pk) 0x0601 (stateRefuse (s.unitCode tg))) ∧
      (s.flag .portStat 0 port = false → (s.port port).run = none → ws ≠ [] → p 0 + ws.length ≤ 256 → ∃ u, does (.portScript pk) 0x0601 u ∧
        s.keeps u [.portScript, .govIsl, .govWakeCnt] ∧ ∀ i, i < ws.length → u.rd .portScript port (p 0 + i) = ws.getD i 0)) ∧
    (s.carries 0x0602 pk k → (p 0 < 64 → does (.portEntry pk) 0x0602 (s.cmdWrite .portScrEntry (w 1) port (p 0))) ∧
      (64 ≤ p 0 → no (.portEntry pk) 0x0602 (refuse stParam))) ∧
    (s.carries 0x0603 pk k → p 0 < 64 → (s.port port).queue.length < 16 → s.isFailed pin = false → s.held pin = false →
      ∃ u, takes (.portRun pk) 0x0603 u ∧ (u.port port).queue = queueIn (s.clock islPort) (s.port port).queue
        { script := p 0, arg := w 1, src := .host, op := some s.longNext } ∧ u.longNext = s.longNext + 1) ∧
    (s.carries 0x0604 pk k → (p 2 < 1000 → no (.portTt pk) 0x0604 (refuse stParam)) ∧
      (1000 ≤ p 2 → ∃ u, does (.portTt pk) 0x0604 u ∧ u.rd .portTt port = w 0 &&& 0x3F01 ∧ u.rd .portTtArg port = w 1 ∧
        u.rd .portTtPer port = w 2 ∧ u.rd .portTtAtLo port = w 3 ∧ u.rd .portTtAtHi port = w 4)) ∧
    (s.carries 0x0605 pk k → ∃ u, does (.portStop pk) 0x0605 u ∧
      (u.port port).run = (if getB (w 0) 0 then (s.port port).run.map (fun r => { r with abort := true }) else (s.port port).run) ∧
      (u.port port).queue = (if getB (w 0) 1 then (s.port port).queue.filter (fun t => !stale t) else (s.port port).queue)) ∧
    (s.carries 0x0700 pk k → let change := p 0 % 512 ≠ s.devNum ∨ getB (w 1) 1 ≠ s.flag .mlCtrl 1
      (s.flag .mlCtrl 0 = true → change → no (.mlSetup pk) 0x0700 (stateRefuse (s.unitCode 139))) ∧
      (s.flag .mlCtrl 0 = false → 1 ≤ p 2 % 1024 → p 2 % 1024 ≤ 1000 → ∃ u, does (.mlSetup pk) 0x0700 u ∧
        u.rd .mlDev = w 0 &&& 0x1FF ∧ u.rd .mlHold = w 2 &&& 0x3FF ∧ u.rd .mlCtrl = w 1 &&& 3)) ∧
    (s.carries 0x0701 pk k → getF (w 0) 1 2 ≠ 3 → getF (w 0) 4 2 ≠ 3 → s.flag .mlLctrl 0 link = false →
      ∃ u, does (.mlLink pk) 0x0701 u ∧ u.rd .mlLctrl link = w 0 &&& 0x37 ∧ u.fld .mlAsym 0 16 link = p 1 % 65536) ∧
    (s.carries 0x0702 pk k → let ms := pk.params.drop 6
      (64 < p 4 + ms.length → no (.mlSsSetup pk) 0x0702 (refuse stParam)) ∧
      (p 4 + ms.length ≤ 64 → ∃ u, does (.mlSsSetup pk) 0x0702 u ∧ u.rd .mlSsTilesLo = w 1 ∧ u.rd .mlSsTilesHi = w 2 ∧ u.rd .mlSsPorts = w 3 ∧
        ∀ i, i < ms.length → u.fld .mlSsChmask 0 8 (p 4 + i) = (ms.getD i 0).toNat % 256)) ∧
    (s.carries 0x0703 pk k → (s.isRoot = false → no (.mlSysstart pk) 0x0703 (stateRefuse (s.unitCode 139))) ∧
      (s.isRoot = true → soon → no (.mlSysstart pk) 0x0703 (refuse stParam)) ∧
      (s.isRoot = true → ¬soon → ∃ u, does (.mlSysstart pk) 0x0703 u ∧ u.rd .mlSsAtLo = w 0 ∧ u.rd .mlSsAtHi = w 1 ∧
        u.rd .mlSsGo = toW (p 2 % 65536 * 65536))) ∧
    (s.carries 0x0704 pk k → (p 0 < 4 → s.go (40 + p 0) = true → no (.mlPeer pk) 0x0704 (stateRefuse (s.unitCode 139))) ∧
      (4 ≤ p 0 → no (.mlPeer pk) 0x0704 (refuse stParam)) ∧
      (p 0 < 4 → s.go (40 + p 0) = false → ∃ u, does (.mlPeer pk) 0x0704 u ∧ u.rd .mlPmbDst (p 0) = w 1 &&& 0xDFF ∧
        peerOf (u.rd .mlPmbSrc (p 0)) = peerOf (w 2))) ∧
    (s.carries 0x0800 pk k → s.imageBad (p 0) (p 1) pk.params = true →
      ∃ u, Replied (exec (.ctxLoad pk) s) u 0x0800 pk k (refuse stParam) ∧ u.regs = s.regs ∧ u.taskMem = s.taskMem) ∧
    (s.carries 0x0800 pk k → s.imageBad (p 0) (p 1) pk.params = false → (s.ownerKey && s.ownerSign) = false →
      getB (s.tm (p 0 + 32)) 0 = false → ownLocal x = false → s.ctxState x ∈ [0, 1, 4, 5] → ∃ u, takes (.ctxLoad pk) 0x0800 u ∧ done u [] ∧
        u.ctxState x = 1 ∧ u.cr .codeBase x = w 2 &&& toW RegName.codeBase.row.rw ∧
        u.cr .ctxEntry x = toW (p 2 + (s.tm (p 0 + 24)).toNat) ∧ u.ctx x = {}) ∧
    (s.carries 0x0801 pk k → (ownLocal x = true → no (.ctxStart pk) 0x0801 (refuse stDenied)) ∧
      (ownLocal x = false → startable (s.ctxState x) = false → no (.ctxStart pk) 0x0801 (stateRefuse (s.ctxState x) true)) ∧
      (ownLocal x = false → startable (s.ctxState x) = true → does (.ctxStart pk) 0x0801 ((s.wakeCtx x).ctxCmd x true false))) ∧
    (s.carries 0x0802 pk k → (ownLocal x = true → no (.ctxStop pk) 0x0802 (refuse stDenied)) ∧
      (ownLocal x = false → stoppable (s.ctxState x) = false → no (.ctxStop pk) 0x0802 (stateRefuse (s.ctxState x) true)) ∧
      (ownLocal x = false → stoppable (s.ctxState x) = true → does (.ctxStop pk) 0x0802 ((s.wakeCtx x).ctxCmd x false true))) ∧
    (s.carries 0x0804 pk k → ownLocal x = false → s.ctxState x = 2 ∨ s.ctxState x = 3 → (s.ctx x).evq.length < 8 →
      ∃ u, does (.ctxPost pk) 0x0804 u ∧ (u.ctx x).evq = (s.ctx x).evq ++ [(w 0, evTag 4 0x80)] ∧ s.keeps u wakes) ∧
    (s.carries 0x0805 pk k → ownLocal x = false →
      (s.cf .ctxCtrl 4 2 x ≤ p 0 % 4 → s.cf .ctxCtrl 0 4 x ≤ p 0 / 16 % 16 → ∃ u, does (.ctxLower pk) 0x0805 u ∧
        u.cf .ctxCtrl 4 2 x = p 0 % 4 ∧ u.cf .ctxCtrl 0 4 x = p 0 / 16 % 16 ∧ s.keeps u (.ctxCtrl :: wakes)) ∧
      (p 0 % 4 < s.cf .ctxCtrl 4 2 x ∨ p 0 / 16 % 16 < s.cf .ctxCtrl 0 4 x → no (.ctxLower pk) 0x0805 (refuse stDenied))) ∧
    (s.carries 0x0901 pk k → p 0 % 4 = 0 → p 0 + p 1 ≤ 0x3C0000 → takes (.fwPatch pk) 0x0901 (running 0x0901)) ∧
    (s.carries 0x0A01 pk k → p 0 % 4 = 0 → 0x10 ≤ p 0 → p 0 + 4 * p 1 ≤ 0x5E4 → ∃ u, takes (.calWrite pk) 0x0A01 u ∧ done u [] ∧
      (∀ i, i < p 1 → u.rd .calPage (p 0 / 4 + i) = w (2 + i)) ∧ u.flag .calstat 0 = true ∧
      (s.flag .calstat 0 = true → u.rd .calPage 3 = s.rd .calPage 3 + 1)) ∧
    (s.carries 0x0B01 pk k → does (.faultAck pk) 0x0B01 (s.ackFault (w 0)))

/-- Who may write: a register write to a unit that is not fitted, or in Nap and deeper, does nothing; one that rights, ownership
or a hold refuse changes no register but the count of what was dropped, with its address and reason, and leaves every other
register; Keystone's are never refused (R2, R194, R304, R306, R308 to R311). The model's own choices in it: log entry 52. -/
def Obligations.RefusedWrites : Prop :=
  ∀ (c : Instr) (m : Master) (n : RegName) (i j : Nat) (s : State), gateOf c = some (m, n, i, j) →
    let k : RegKey := ⟨n, i, j⟩
    let u := k.unit
    let z := s.arrived n i j
    let meets := s.pstate < 3 ∧ s.tick.keyAbsent k = false
    (s.pstate ≥ 3 → exec c s = .next s) ∧
    (s.pstate < 3 → s.tick.keyAbsent k = true → exec c s = .next s.tick) ∧
    (u < 148 → s.fitted u = false → s.tick.keyAbsent k = true) ∧
    (meets → m = .host → k.name.block.hostReadOnly = true → ∃ t, exec c s = .next t ∧ z.keeps t accRegs ∧
      t.fld .sysAccerr 0 16 = (s.fld .sysAccerr 0 16 + 1) % 65536 ∧ t.rd .sysAccerrAddr = toW k.offset ∧
      t.rd .sysAccerrSrc = accSrc m .privilege) ∧
    (meets → m = .host → k.name.block.hostReadOnly = false → z.flag .unitReq 3 u = true ∨ z.held u = true →
      ∃ t, exec c s = .next t ∧ z.keeps t (.unitReq :: accRegs) ∧ t.fld .unitReq 8 8 u = min 255 (s.fld .unitReq 8 8 u + 1) ∧
        t.fld .sysAccerr 16 16 = (s.fld .sysAccerr 16 16 + 1) % 65536 ∧
        t.rd .sysAccerrSrc = accSrc m (if z.flag .unitReq 3 u then .ownership else .hold)) ∧
    (meets → m = .supervisor → k.name.block.supWrites = false → ∃ t, exec c s = .next t ∧ z.keeps t accRegs ∧
      t.fld .sysAccerr 0 16 = (s.fld .sysAccerr 0 16 + 1) % 65536) ∧
    (meets → ∀ x, m = .ctx x →
      (z.privOf x = 1 → n.block ≠ .chanter → z.held u = true → ∃ t, exec c s = .next t ∧ z.onlyRegs t [.ctxErrcnt] ∧
        t.fld .ctxErrcnt 8 8 (x / 32) (x % 32) = min 255 (s.fld .ctxErrcnt 8 8 (x / 32) (x % 32) + 1)) ∧
      (2 ≤ z.privOf x → n.block ≠ .tile → n.block ≠ .lock → ∃ t, exec c s = .next t ∧ z.keeps t accRegs ∧
        t.fld .sysAccerr 0 16 = (s.fld .sysAccerr 0 16 + 1) % 65536) ∧
      (z.privOf x = 0 → s.lets m n i j = true))
end

