-- ==== Sys2Proof/Laws/State.lean ====
section
/-! SUPPORT. Laws of the maps, of registers and of the record updates. -/

namespace Sys2Proof.Machine

/-! ## Maps -/

theorem Table.erase_cons {κ α : Type} [DecidableEq κ] (i : κ) (v : α) (r : Table κ α) (k : κ) :
    Table.erase ((i, v) :: r) k = if i = k then r.erase k else (i, v) :: r.erase k := by
  by_cases h : i = k <;> simp [Table.erase, h]

theorem Table.get_erase_ne {κ α : Type} [DecidableEq κ] (d : α) (m : Table κ α) (k j : κ) (h : j ≠ k) :
    Table.get d (m.erase k) j = Table.get d m j := by
  induction m with
  | nil => rfl
  | cons e r ih =>
    obtain ⟨i, v⟩ := e
    rw [Table.erase_cons]
    by_cases hi : i = k
    · subst hi
      have : i ≠ j := fun e => h e.symm
      simp [Table.get, this, ih]
    · simp [hi, Table.get, ih]

theorem Table.get_erase_self {κ α : Type} [DecidableEq κ] (d : α) (m : Table κ α) (k : κ) :
    Table.get d (m.erase k) k = d := by
  induction m with
  | nil => rfl
  | cons e r ih =>
    obtain ⟨i, v⟩ := e
    rw [Table.erase_cons]
    by_cases hi : i = k
    · simp [hi, ih]
    · simp [hi, Table.get, ih]

theorem Table.get_place_ne {κ α : Type} [DecidableEq κ] (lt : κ → κ → Bool) (d : α) (m : Table κ α) (k j : κ) (v : α)
    (h : j ≠ k) : Table.get d (m.place lt k v) j = Table.get d m j := by
  have h' : k ≠ j := fun e => h e.symm
  induction m with
  | nil => simp [Table.place, Table.get, h']
  | cons e r ih =>
    obtain ⟨i, w⟩ := e
    simp only [Table.place]
    split <;> simp [Table.get, h', ih]

theorem Table.get_place_self {κ α : Type} [DecidableEq κ] (lt : κ → κ → Bool) (d : α) (m : Table κ α) (k : κ) (v : α)
    (h : ∀ e ∈ m, e.1 ≠ k) : Table.get d (m.place lt k v) k = v := by
  induction m with
  | nil => simp [Table.place, Table.get]
  | cons e r ih =>
    obtain ⟨i, w⟩ := e
    have hi : i ≠ k := h (i, w) (by simp)
    simp only [Table.place]
    split
    · simp [Table.get]
    · simp [Table.get, hi, ih (fun e he => h e (by simp [he]))]

/-- A map read at the key just put. -/
theorem Table.get_put_self {κ α : Type} [DecidableEq κ] [DecidableEq α] (lt : κ → κ → Bool) (d : α) (m : Table κ α) (k : κ)
    (v : α) : Table.get d (Table.put lt d m k v) k = v := by
  unfold Table.put
  split
  · rename_i h; rw [Table.get_erase_self, h]
  · apply Table.get_place_self
    intro e he
    simp [Table.erase] at he
    exact he.2

/-- A map read at another key. -/
theorem Table.get_put_ne {κ α : Type} [DecidableEq κ] [DecidableEq α] (lt : κ → κ → Bool) (d d' : α) (m : Table κ α)
    (k j : κ) (v : α) (h : j ≠ k) : Table.get d' (Table.put lt d m k v) j = Table.get d' m j := by
  unfold Table.put
  split
  · exact Table.get_erase_ne d' m k j h
  · rw [Table.get_place_ne lt d' _ k j v h, Table.get_erase_ne d' m k j h]

theorem Table.filter_place {κ α : Type} (lt : κ → κ → Bool) (m : Table κ α) (k : κ) (v : α) (p : κ × α → Bool)
    (h : p (k, v) = false) : (m.place lt k v).filter p = m.filter p := by
  induction m with
  | nil => simp [Table.place, h]
  | cons e r ih =>
    obtain ⟨i, w⟩ := e
    simp only [Table.place]
    split
    · simp [List.filter_cons, h]
    · simp [List.filter_cons, ih]

/-- Entries of other keys are not touched by a put. -/
theorem Table.filter_put {κ α : Type} [DecidableEq κ] [DecidableEq α] (lt : κ → κ → Bool) (d : α) (m : Table κ α) (k : κ)
    (v : α) (p : κ × α → Bool) (h : ∀ w, p (k, w) = false) : (Table.put lt d m k v).filter p = m.filter p := by
  have he : (m.erase k).filter p = m.filter p := by
    unfold Table.erase
    rw [List.filter_filter]
    apply List.filter_congr
    intro e _
    obtain ⟨i, w⟩ := e
    by_cases hi : i = k
    · subst hi; simp [h w]
    · simp [hi]
  unfold Table.put
  split
  · exact he
  · rw [Table.filter_place lt _ k v p (h v), he]

/-- Reading a filtered map at a key that the filter keeps. -/
theorem Table.get_filter {κ α : Type} [DecidableEq κ] (d : α) (m : Table κ α) (k : κ) (p : κ × α → Bool)
    (h : ∀ w, p (k, w) = true) : Table.get d (m.filter p) k = Table.get d m k := by
  induction m with
  | nil => rfl
  | cons e r ih =>
    obtain ⟨i, w⟩ := e
    by_cases hi : i = k
    · subst hi; simp [h w, Table.get]
    · by_cases hp : p (i, w) <;> simp [hp, Table.get, hi, ih]

theorem Table.place_all {κ α : Type} (lt : κ → κ → Bool) (m : Table κ α) (k : κ) (v : α) (q : κ × α → Bool) :
    (m.place lt k v).all q = (q (k, v) && m.all q) := by
  induction m with
  | nil => simp [Table.place]
  | cons e r ih =>
    obtain ⟨i, w⟩ := e
    simp only [Table.place]
    split
    · simp
    · simp only [List.all_cons, ih]
      cases q (k, v) <;> cases q (i, w) <;> simp

/-- Taking entries away keeps the canonical form. -/
theorem Table.wf_filter {κ α : Type} [DecidableEq α] (lt : κ → κ → Bool) (d : κ → α) (m : Table κ α) (p : κ × α → Bool)
    (h : Table.wf lt d m = true) : Table.wf lt d (m.filter p) = true := by
  induction m with
  | nil => rfl
  | cons e r ih =>
    obtain ⟨i, w⟩ := e
    simp only [Table.wf, Bool.and_eq_true, List.all_eq_true] at h
    obtain ⟨⟨h1, h2⟩, h3⟩ := h
    rw [List.filter_cons]
    split
    · simp only [Table.wf, Bool.and_eq_true, List.all_eq_true, List.mem_filter]
      exact ⟨⟨h1, fun x hx => h2 x hx.1⟩, ih h3⟩
    · exact ih h3

/-- An instance map keeps its canonical form under every update. -/
theorem SMap.wf_set {α : Type} [DecidableEq α] (d : α) (m : SMap α) (k : Nat) (v : α) (h : SMap.wf d m = true) :
    SMap.wf d (SMap.set d m k v) = true := by
  have place : ∀ m : SMap α, SMap.wf d m = true → (∀ e ∈ m, e.1 ≠ k) → v ≠ d →
      SMap.wf d (Table.place (fun a b => decide (a < b)) k v m) = true := by
    intro m
    induction m with
    | nil => intro _ _ hv; simp [SMap.wf, Table.place, Table.wf, hv]
    | cons e r ih =>
      obtain ⟨i, w⟩ := e
      intro h hk hv
      have h0 := h
      simp only [SMap.wf, Table.wf, Bool.and_eq_true, List.all_eq_true, decide_eq_true_eq] at h
      obtain ⟨⟨h1, h2⟩, h3⟩ := h
      have hik : i ≠ k := hk (i, w) (by simp)
      simp only [Table.place, decide_eq_true_eq]
      split
      · rename_i hlt
        simp only [SMap.wf, Table.wf, Bool.and_eq_true, List.all_eq_true, decide_eq_true_eq, List.mem_cons]
        refine ⟨⟨hv, ?_⟩, ⟨h1, h2⟩, h3⟩
        rintro x (rfl | hx)
        · exact hlt
        · exact Nat.lt_trans hlt (h2 x hx)
      · rename_i hlt
        have := ih h3 (fun e he => hk e (by simp [he])) hv
        simp only [SMap.wf, Table.wf, Bool.and_eq_true, decide_eq_true_eq] at this ⊢
        refine ⟨⟨h1, ?_⟩, this⟩
        rw [Table.place_all, Bool.and_eq_true, List.all_eq_true]
        refine ⟨?_, fun x hx => decide_eq_true (h2 x hx)⟩
        have : i < k := by omega
        simpa using this
  unfold SMap.set Table.put
  split
  · exact Table.wf_filter _ _ _ _ h
  · rename_i hv
    apply place _ (Table.wf_filter _ _ _ _ h) _ hv
    intro e he
    simp at he
    exact he.2

@[simp] theorem SMap.at_set_self {α : Type} [DecidableEq α] (d : α) (m : SMap α) (k : Nat) (v : α) :
    SMap.at d (SMap.set d m k v) k = v := Table.get_put_self _ d m k v
theorem SMap.at_set_ne {α : Type} [DecidableEq α] (d : α) (m : SMap α) (k j : Nat) (v : α) (h : j ≠ k) :
    SMap.at d (SMap.set d m k v) j = SMap.at d m j := Table.get_put_ne _ d d m k j v h

/-- A key put twice holds the second value only. -/
theorem Table.erase_erase {κ α : Type} [DecidableEq κ] (m : Table κ α) (k : κ) : (m.erase k).erase k = m.erase k := by
  simp [Table.erase, List.filter_filter]
theorem Table.erase_place {κ α : Type} [DecidableEq κ] (lt : κ → κ → Bool) (m : Table κ α) (k : κ) (v : α) :
    (Table.place lt k v m).erase k = m.erase k := by
  induction m with
  | nil => simp [Table.place, Table.erase]
  | cons e r ih =>
    obtain ⟨i, w⟩ := e
    simp only [Table.place]
    split
    · simp [Table.erase_cons]
    · simp [Table.erase_cons, ih]
theorem Table.put_put {κ α : Type} [DecidableEq κ] [DecidableEq α] (lt : κ → κ → Bool) (d : α) (m : Table κ α) (k : κ)
    (a b : α) : Table.put lt d (Table.put lt d m k a) k b = Table.put lt d m k b := by
  have h : (Table.put lt d m k a).erase k = m.erase k := by
    unfold Table.put
    split
    · exact Table.erase_erase m k
    · rw [Table.erase_place, Table.erase_erase]
  simp only [Table.put] at h ⊢
  rw [h]
@[simp] theorem SMap.set_set {α : Type} [DecidableEq α] (d : α) (m : SMap α) (k : Nat) (a b : α) :
    SMap.set d (SMap.set d m k a) k b = SMap.set d m k b := Table.put_put _ d m k a b

/-! ## Memory -/

theorem Memory.wf_empty : Memory.wf [] = true := rfl
theorem Memory.wf_putByte (m : Mem) (a : Nat) (b : Byte) (h : Memory.wf m = true) : Memory.wf (m.putByte a b) = true :=
  SMap.wf_set 0 m a b h
theorem Memory.wf_putHalf (m : Mem) (a : Nat) (w : Word) (h : Memory.wf m = true) : Memory.wf (m.putHalf a w) = true :=
  Memory.wf_putByte _ _ _ (Memory.wf_putByte _ _ _ h)
theorem Memory.wf_putWord (m : Mem) (a : Nat) (w : Word) (h : Memory.wf m = true) : Memory.wf (m.putWord a w) = true :=
  Memory.wf_putByte _ _ _ (Memory.wf_putByte _ _ _ (Memory.wf_putByte _ _ _ (Memory.wf_putByte _ _ _ h)))
theorem Memory.wf_putWords (l : List Word) : ∀ (m : Mem) (a : Nat), Memory.wf m = true → Memory.wf (m.putWords a l) = true := by
  induction l with
  | nil => intro m a h; exact h
  | cons w r ih => intro m a h; exact ih _ _ (Memory.wf_putWord _ _ _ h)
theorem Memory.wf_filter (m : Mem) (p : Nat × Byte → Bool) (h : Memory.wf m = true) : Memory.wf (m.filter p) = true :=
  Table.wf_filter _ _ m p h
theorem Memory.wf_reset : State.reset.memsWf = true := by decide

@[simp] theorem Mem.byte_putByte_self (m : Mem) (a : Nat) (b : Byte) : (m.putByte a b).byte a = b := by
  simp [Mem.byte, Mem.putByte]
theorem Mem.byte_putByte_ne (m : Mem) (a c : Nat) (b : Byte) (h : c ≠ a) : (m.putByte a b).byte c = m.byte c :=
  SMap.at_set_ne 0 m a c b h
/-- A word stored leaves every byte outside its four. -/
theorem Mem.byte_putWord_ne (m : Mem) (a c : Nat) (w : Word) (h : c < a ∨ a + 4 ≤ c) : (m.putWord a w).byte c = m.byte c := by
  unfold Mem.putWord
  rw [Mem.byte_putByte_ne _ _ _ _ (by omega), Mem.byte_putByte_ne _ _ _ _ (by omega), Mem.byte_putByte_ne _ _ _ _ (by omega),
    Mem.byte_putByte_ne _ _ _ _ (by omega)]

/-! ## Registers -/

/-- A register read after it was set, and another one. -/
@[simp] theorem State.rd_wr_self (s : State) (n : RegName) (w : Word) (i j : Nat) : (s.wr n w i j).rd n i j = w :=
  Table.get_put_self _ _ s.regs ⟨n, i, j⟩ w
theorem State.rd_wr_ne (s : State) (n m : RegName) (w : Word) (i j i' j' : Nat)
    (h : (⟨m, i', j'⟩ : RegKey) ≠ ⟨n, i, j⟩) : (s.wr n w i j).rd m i' j' = s.rd m i' j' :=
  Table.get_put_ne _ _ _ s.regs ⟨n, i, j⟩ ⟨m, i', j'⟩ w h
@[simp] theorem State.rd_wr_name (s : State) (n m : RegName) (w : Word) (i j i' j' : Nat) (h : m ≠ n) :
    (s.wr n w i j).rd m i' j' = s.rd m i' j' := by
  apply State.rd_wr_ne
  intro e
  cases e
  exact h rfl

theorem Regs.ofArea_set (v : Variant) (m : Regs) (k : RegKey) (w : Word) (a : Area) (h : a ≠ regArea k.name) :
    (m.set v k w).ofArea a = m.ofArea a := by
  apply Table.filter_put
  intro x
  have : regArea k.name ≠ a := fun e => h e.symm
  simp [this]

/-! ## Areas -/

/-- A register set reaches its own area only. -/
theorem State.wr_part (s : State) (n : RegName) (w : Word) (i j : Nat) (a : Area) (h : a ≠ regArea n) :
    (s.wr n w i j).part a = s.part a := by
  have hr := Regs.ofArea_set s.variant s.regs ⟨n, i, j⟩ w a h
  cases a <;> simp only [State.part, State.wr] <;> simp only [hr]

/-- A register read is the same where its area is, and the part. -/
theorem State.rd_of_part (s t : State) (n : RegName) (i j : Nat) (hv : t.variant = s.variant)
    (h : t.part (regArea n) = s.part (regArea n)) : t.rd n i j = s.rd n i j := by
  have hr : t.regs.ofArea (regArea n) = s.regs.ofArea (regArea n) := by
    have hp := congrArg State.regs h
    revert hp
    cases hn : n.block <;> simp [regArea, Block.area, State.part, hn]
  have key : ∀ u : State, u.rd n i j = Table.get (RegKey.reset u.variant ⟨n, i, j⟩) (u.regs.ofArea (regArea n)) ⟨n, i, j⟩ := by
    intro u
    unfold State.rd Regs.ofArea
    rw [Table.get_filter _ _ _ _ (by simp)]
  rw [key, key, hv, hr]

@[simp] theorem regArea_0 :
    regArea .sysId = .sys ∧
    regArea .sysRev = .sys ∧
    regArea .sysCaps0 = .sys ∧
    regArea .sysCaps1 = .sys ∧
    regArea .sysCaps2 = .sys ∧
    regArea .sysCaps3 = .sys ∧
    regArea .sysAccerr = .sys ∧
    regArea .sysAccerrAddr = .sys ∧
    regArea .sysAccerrSrc = .sys ∧
    regArea .sysCtrl = .sys ∧
    regArea .sysCmdMbox = .sys ∧
    regArea .sysCmdStat = .sys ∧
    regArea .sysMgmt = .sys ∧
    regArea .unitState = .sys ∧
    regArea .unitReq = .sys ∧
    regArea .droneNowLo = .drone ∧
    regArea .droneNowHi = .drone ∧
    regArea .droneStat = .drone ∧
    regArea .droneCtrl = .drone ∧
    regArea .droneEpoch = .drone ∧
    regArea .droneSlept = .drone ∧
    regArea .pllStat = .drone ∧
    regArea .droneIsl = .drone ∧
    regArea .droneVern = .drone ∧
    regArea .chCtrl = .tile ∧
    regArea .chPresc = .tile ∧
    regArea .chCount = .tile ∧
    regArea .chPeriod = .tile ∧
    regArea .chCmpa = .tile ∧
    regArea .chCmpb = .tile ∧
    regArea .chFrac = .tile ∧
    regArea .chAct = .tile ∧
    regArea .chRatio = .tile ∧
    regArea .chPwmctrl = .tile ∧
    regArea .chAperiod = .tile ∧
    regArea .chAcmpa = .tile ∧
    regArea .chAcmpb = .tile ∧
    regArea .chAfrac = .tile ∧
    regArea .chAact = .tile ∧
    regArea .chPwmstat = .tile ∧
    regArea .chCapLo = .tile ∧
    regArea .chCapHi = .tile ∧
    regArea .chCapvLo = .tile ∧
    regArea .chCapvHi = .tile ∧
    regArea .chStat = .tile ∧
    regArea .chIen = .tile ∧
    regArea .chErrcnt = .tile ∧
    regArea .chEvcnt = .tile ∧
    regArea .tileCtrl = .tile ∧
    regArea .tileStart = .tile ∧
    regArea .tileStop = .tile ∧
    regArea .tileCommit = .tile ∧
    regArea .tileStartAtLo = .tile ∧
    regArea .tileStartAtHi = .tile ∧
    regArea .tileStartArm = .tile ∧
    regArea .tileStat = .tile ∧
    regArea .tileSum = .tile ∧
    regArea .tripCtrlA = .tile ∧
    regArea .tripCtrlB = .tile ∧
    regArea .tripBlankA = .tile := by
  refine ⟨rfl, rfl, rfl, rfl, rfl, rfl, rfl, rfl, rfl, rfl, rfl, rfl, rfl, rfl, rfl, rfl, rfl, rfl, rfl, rfl, rfl, rfl, rfl, rfl, rfl, rfl, rfl, rfl, rfl, rfl, rfl, rfl, rfl, rfl, rfl, rfl, rfl, rfl, rfl, rfl, rfl, rfl, rfl, rfl, rfl, rfl, rfl, rfl, rfl, rfl, rfl, rfl, rfl, rfl, rfl, rfl, rfl, rfl, rfl, rfl⟩

@[simp] theorem regArea_1 :
    regArea .tripBlankB = .tile ∧
    regArea .tripLvl = .tile ∧
    regArea .tripStat = .tile ∧
    regArea .tripCnt = .tile ∧
    regArea .tripTimeA = .tile ∧
    regArea .tripTimeB = .tile ∧
    regArea .brCtrl = .tile ∧
    regArea .brDt = .tile ∧
    regArea .brMinpw = .tile ∧
    regArea .brStat = .tile ∧
    regArea .folCtrl = .tile ∧
    regArea .folAngle = .tile ∧
    regArea .folStat = .tile ∧
    regArea .slotCtrl = .tile ∧
    regArea .slotAngle = .tile ∧
    regArea .slotDelay = .tile ∧
    regArea .slotClose = .tile ∧
    regArea .slotGuard = .tile ∧
    regArea .pmPin = .pins ∧
    regArea .pmBank = .pins ∧
    regArea .pmTrip = .pins ∧
    regArea .domCtrl = .dom ∧
    regArea .domIn = .dom ∧
    regArea .domFilt = .dom ∧
    regArea .domRatio = .dom ∧
    regArea .domStall = .dom ∧
    regArea .domDir = .dom ∧
    regArea .domMirror = .dom ∧
    regArea .domStat = .dom ∧
    regArea .domAngle = .dom ∧
    regArea .domSnapLo = .dom ∧
    regArea .domSnapHi = .dom ∧
    regArea .domTooth = .dom ∧
    regArea .domTtime = .dom ∧
    regArea .domPeriod = .dom ∧
    regArea .domRate = .dom ∧
    regArea .domPredErr = .dom ∧
    regArea .domEvt = .dom ∧
    regArea .domIen = .dom ∧
    regArea .domCnt0 = .dom ∧
    regArea .domCnt1 = .dom ∧
    regArea .domCnt2 = .dom ∧
    regArea .domCnt3 = .dom ∧
    regArea .domPat0 = .dom ∧
    regArea .domPat1 = .dom ∧
    regArea .domPat2 = .dom ∧
    regArea .domPhRise = .dom ∧
    regArea .domPhFall = .dom ∧
    regArea .phmCtrl = .dom ∧
    regArea .phmWin = .dom ∧
    regArea .phmLast = .dom ∧
    regArea .phmDev = .dom ∧
    regArea .phmAvg = .dom ∧
    regArea .phmStat = .dom ∧
    regArea .phmNom0 = .dom ∧
    regArea .phmNom1 = .dom ∧
    regArea .phmNom2 = .dom ∧
    regArea .phmNom3 = .dom ∧
    regArea .phmNom4 = .dom ∧
    regArea .phmNom5 = .dom := by
  refine ⟨rfl, rfl, rfl, rfl, rfl, rfl, rfl, rfl, rfl, rfl, rfl, rfl, rfl, rfl, rfl, rfl, rfl, rfl, rfl, rfl, rfl, rfl, rfl, rfl, rfl, rfl, rfl, rfl, rfl, rfl, rfl, rfl, rfl, rfl, rfl, rfl, rfl, rfl, rfl, rfl, rfl, rfl, rfl, rfl, rfl, rfl, rfl, rfl, rfl, rfl, rfl, rfl, rfl, rfl, rfl, rfl, rfl, rfl, rfl, rfl⟩

@[simp] theorem regArea_2 :
    regArea .phmNom6 = .dom ∧
    regArea .phmNom7 = .dom ∧
    regArea .calCtrl = .cal ∧
    regArea .calStat = .cal ∧
    regArea .calSupnote = .cal ∧
    regArea .calSupnoteCnt = .cal ∧
    regArea .calPart = .cal ∧
    regArea .calDstat = .cal ∧
    regArea .calEvt = .cal ∧
    regArea .calIen = .cal ∧
    regArea .calCqBase = .cal ∧
    regArea .calCqSize = .cal ∧
    regArea .calCqWr = .cal ∧
    regArea .calCqRd = .cal ∧
    regArea .calCnt0 = .cal ∧
    regArea .calCnt1 = .cal ∧
    regArea .calCnt2 = .cal ∧
    regArea .calCnt3 = .cal ∧
    regArea .calSlotuse = .cal ∧
    regArea .entryW0 = .cal ∧
    regArea .entryW1 = .cal ∧
    regArea .entryW2 = .cal ∧
    regArea .entryW3 = .cal ∧
    regArea .entryW4 = .cal ∧
    regArea .entryW5 = .cal ∧
    regArea .entryW6 = .cal ∧
    regArea .entryW7 = .cal ∧
    regArea .engStat = .chanter ∧
    regArea .engIssue = .chanter ∧
    regArea .engIdle = .chanter ∧
    regArea .engDbg = .chanter ∧
    regArea .csVer = .chanter ∧
    regArea .csPatch = .chanter ∧
    regArea .csPatchId = .chanter ∧
    regArea .csDigest = .chanter ∧
    regArea .csFwKs = .chanter ∧
    regArea .csFwSvc = .chanter ∧
    regArea .csStat = .chanter ∧
    regArea .mcLast = .chanter ∧
    regArea .mcTime = .chanter ∧
    regArea .ctxCtrl = .chanter ∧
    regArea .ctxCmd = .chanter ∧
    regArea .ctxStat = .chanter ∧
    regArea .ctxPc = .chanter ∧
    regArea .ctxEntry = .chanter ∧
    regArea .codeBase = .chanter ∧
    regArea .codeSize = .chanter ∧
    regArea .dataBase = .chanter ∧
    regArea .dataSize = .chanter ∧
    regArea .tabBase = .chanter ∧
    regArea .tabSize = .chanter ∧
    regArea .ctxIomask = .chanter ∧
    regArea .ctxTilesLo = .chanter ∧
    regArea .ctxTilesHi = .chanter ∧
    regArea .ctxPorts = .chanter ∧
    regArea .ctxNointLim = .chanter ∧
    regArea .ctxErrcnt = .chanter ∧
    regArea .ctxIssued = .chanter ∧
    regArea .ctxCause = .chanter ∧
    regArea .ctxFaultPc = .chanter := by
  refine ⟨rfl, rfl, rfl, rfl, rfl, rfl, rfl, rfl, rfl, rfl, rfl, rfl, rfl, rfl, rfl, rfl, rfl, rfl, rfl, rfl, rfl, rfl, rfl, rfl, rfl, rfl, rfl, rfl, rfl, rfl, rfl, rfl, rfl, rfl, rfl, rfl, rfl, rfl, rfl, rfl, rfl, rfl, rfl, rfl, rfl, rfl, rfl, rfl, rfl, rfl, rfl, rfl, rfl, rfl, rfl, rfl, rfl, rfl, rfl, rfl⟩

@[simp] theorem regArea_3 :
    regArea .govCtrl = .gov ∧
    regArea .govBudgetMw = .gov ∧
    regArea .govShare = .gov ∧
    regArea .govFloor = .gov ∧
    regArea .govPfixed = .gov ∧
    regArea .govRefill = .gov ∧
    regArea .govStat = .gov ∧
    regArea .govTj = .gov ∧
    regArea .govThresh = .gov ∧
    regArea .govThermFact = .gov ∧
    regArea .govFc = .gov ∧
    regArea .govFcLimit = .gov ∧
    regArea .govFcTime = .gov ∧
    regArea .govWakeCnt = .gov ∧
    regArea .govIsl = .gov ∧
    regArea .govCnt = .gov ∧
    regArea .govPstateReq = .gov ∧
    regArea .govPstate = .gov ∧
    regArea .govEvt = .gov ∧
    regArea .govIen = .gov ∧
    regArea .govAoCnt = .gov ∧
    regArea .govAoAlarm = .gov ∧
    regArea .wwStat = .gov ∧
    regArea .govDepth = .gov ∧
    regArea .govLevel = .gov ∧
    regArea .govDefer = .gov ∧
    regArea .govTs = .gov ∧
    regArea .govEpi = .gov ∧
    regArea .govEnergy = .gov ∧
    regArea .wwSlot = .gov ∧
    regArea .logCtrl = .log ∧
    regArea .logRing = .log ∧
    regArea .logWr = .log ∧
    regArea .logRd = .log ∧
    regArea .logFill = .log ∧
    regArea .logThresh = .log ∧
    regArea .logWmark = .log ∧
    regArea .logFlush = .log ∧
    regArea .logStat = .log ∧
    regArea .logEvt = .log ∧
    regArea .logIen = .log ∧
    regArea .logReccnt = .log ∧
    regArea .logCntMisc = .log ∧
    regArea .logCfgerr = .log ∧
    regArea .logCnt = .log ∧
    regArea .catW0 = .log ∧
    regArea .catW1 = .log ∧
    regArea .catW2 = .log ∧
    regArea .catW3 = .log ∧
    regArea .portCfg = .port ∧
    regArea .portCtrl = .port ∧
    regArea .portStat = .port ∧
    regArea .portSpi = .port ∧
    regArea .portSpi2 = .port ∧
    regArea .portSent = .port ∧
    regArea .portUart = .port ∧
    regArea .portTt = .port ∧
    regArea .portTtArg = .port ∧
    regArea .portTtPer = .port ∧
    regArea .portTtAtLo = .port := by
  refine ⟨rfl, rfl, rfl, rfl, rfl, rfl, rfl, rfl, rfl, rfl, rfl, rfl, rfl, rfl, rfl, rfl, rfl, rfl, rfl, rfl, rfl, rfl, rfl, rfl, rfl, rfl, rfl, rfl, rfl, rfl, rfl, rfl, rfl, rfl, rfl, rfl, rfl, rfl, rfl, rfl, rfl, rfl, rfl, rfl, rfl, rfl, rfl, rfl, rfl, rfl, rfl, rfl, rfl, rfl, rfl, rfl, rfl, rfl, rfl, rfl⟩

@[simp] theorem regArea_4 :
    regArea .portTtAtHi = .port ∧
    regArea .portDmemBase = .port ∧
    regArea .portDmemSize = .port ∧
    regArea .portDmemPtr = .port ∧
    regArea .portNotify = .port ∧
    regArea .portLast = .port ∧
    regArea .portEvt = .port ∧
    regArea .portIen = .port ∧
    regArea .portCnt0 = .port ∧
    regArea .portCnt1 = .port ∧
    regArea .portCnt2 = .port ∧
    regArea .portRes = .port ∧
    regArea .portScrEntry = .port ∧
    regArea .portScript = .port ∧
    regArea .mlCtrl = .mortar ∧
    regArea .mlDev = .mortar ∧
    regArea .mlStat = .mortar ∧
    regArea .mlOffset = .mortar ∧
    regArea .mlHold = .mortar ∧
    regArea .mlSsAtLo = .mortar ∧
    regArea .mlSsAtHi = .mortar ∧
    regArea .mlSsGo = .mortar ∧
    regArea .mlSsCtrl = .mortar ∧
    regArea .mlSsTilesLo = .mortar ∧
    regArea .mlSsTilesHi = .mortar ∧
    regArea .mlSsPorts = .mortar ∧
    regArea .mlMsgqHdr = .mortar ∧
    regArea .mlMsgqVal = .mortar ∧
    regArea .mlMsgqPop = .mortar ∧
    regArea .mlFnLast = .mortar ∧
    regArea .mlFnTime = .mortar ∧
    regArea .mlSsChmask = .mortar ∧
    regArea .mlSlockOwner = .mortar ∧
    regArea .mlPmbDst = .mortar ∧
    regArea .mlPmbSrc = .mortar ∧
    regArea .mlLctrl = .mortar ∧
    regArea .mlLstat = .mortar ∧
    regArea .mlDelay = .mortar ∧
    regArea .mlAsym = .mortar ∧
    regArea .mlCnt0 = .mortar ∧
    regArea .mlCnt1 = .mortar ∧
    regArea .mlEvt = .mortar ∧
    regArea .mlIen = .mortar ∧
    regArea .mbData = .mbox ∧
    regArea .mbCtrl = .mbox ∧
    regArea .mbCfg = .mbox ∧
    regArea .mbCnt = .mbox ∧
    regArea .mbxCtrl = .mbox ∧
    regArea .lock = .lock ∧
    regArea .lockRel = .lock ∧
    regArea .lockOwner = .lock ∧
    regArea .lockWatch = .lock ∧
    regArea .lockFreed = .lock ∧
    regArea .lockStat = .lock ∧
    regArea .lockCtrl = .lock ∧
    regArea .intRoute = .irq ∧
    regArea .intEnSet = .irq ∧
    regArea .intEnClr = .irq ∧
    regArea .intPendSet = .irq ∧
    regArea .intPendClr = .irq := by
  refine ⟨rfl, rfl, rfl, rfl, rfl, rfl, rfl, rfl, rfl, rfl, rfl, rfl, rfl, rfl, rfl, rfl, rfl, rfl, rfl, rfl, rfl, rfl, rfl, rfl, rfl, rfl, rfl, rfl, rfl, rfl, rfl, rfl, rfl, rfl, rfl, rfl, rfl, rfl, rfl, rfl, rfl, rfl, rfl, rfl, rfl, rfl, rfl, rfl, rfl, rfl, rfl, rfl, rfl, rfl, rfl, rfl, rfl, rfl, rfl, rfl⟩

@[simp] theorem regArea_5 :
    regArea .intActive = .irq ∧
    regArea .prvRoute = .irq ∧
    regArea .prvEnSet = .irq ∧
    regArea .prvEnClr = .irq ∧
    regArea .prvPendSet = .irq ∧
    regArea .prvPendClr = .irq ∧
    regArea .prvActive = .irq ∧
    regArea .hostPm = .irq ∧
    regArea .hostEoi = .irq ∧
    regArea .supClaim = .irq ∧
    regArea .supEoi = .irq ∧
    regArea .intErr = .irq ∧
    regArea .vecMod = .irq ∧
    regArea .vecStat = .irq ∧
    regArea .msixAddrLo = .irq ∧
    regArea .msixAddrHi = .irq ∧
    regArea .msixData = .irq ∧
    regArea .msixVctrl = .irq ∧
    regArea .msixPba = .irq ∧
    regArea .dmaCtrl = .dma ∧
    regArea .dmaRingLo = .dma ∧
    regArea .dmaRingHi = .dma ∧
    regArea .dmaRingSize = .dma ∧
    regArea .dmaHead = .dma ∧
    regArea .dmaTail = .dma ∧
    regArea .dmaShare = .dma ∧
    regArea .dmaStat = .dma ∧
    regArea .dmaProg = .dma ∧
    regArea .dmaErrAddrLo = .dma ∧
    regArea .dmaErrAddrHi = .dma ∧
    regArea .dmaErrDir = .dma ∧
    regArea .dmaEvt = .dma ∧
    regArea .dmaIen = .dma ∧
    regArea .dmaCnt = .dma ∧
    regArea .dmaGctrl = .dma ∧
    regArea .fltSeq = .fault ∧
    regArea .fltAck = .fault ∧
    regArea .fltStat = .fault ∧
    regArea .fltSpare = .fault ∧
    regArea .fltMem = .fault ∧
    regArea .fltScrub = .fault ∧
    regArea .fltMemLim = .fault ∧
    regArea .fltEvt = .fault ∧
    regArea .fltIen = .fault ∧
    regArea .startCtrl = .fault ∧
    regArea .startFeedLen = .fault ∧
    regArea .startFeedGo = .fault ∧
    regArea .startFeed = .fault ∧
    regArea .fltMove = .fault ∧
    regArea .startRec = .fault ∧
    regArea .fltRec = .fault ∧
    regArea .calPage = .calib ∧
    regArea .calstat = .calib := by
  refine ⟨rfl, rfl, rfl, rfl, rfl, rfl, rfl, rfl, rfl, rfl, rfl, rfl, rfl, rfl, rfl, rfl, rfl, rfl, rfl, rfl, rfl, rfl, rfl, rfl, rfl, rfl, rfl, rfl, rfl, rfl, rfl, rfl, rfl, rfl, rfl, rfl, rfl, rfl, rfl, rfl, rfl, rfl, rfl, rfl, rfl, rfl, rfl, rfl, rfl, rfl, rfl, rfl, rfl⟩

/-! ## Record updates: what each leaves -/

@[simp] theorem State.wr_fields (s : State) (n : RegName) (w : Word) (i : Nat) (j : Nat) :
    (s.wr n w i j).variant = s.variant ∧ (s.wr n w i j).ownerKey = s.ownerKey ∧ (s.wr n w i j).ownerSign = s.ownerSign ∧ (s.wr n w i j).now = s.now ∧ (s.wr n w i j).aoRem = s.aoRem ∧ (s.wr n w i j).copies = s.copies ∧ (s.wr n w i j).beacon = s.beacon ∧ (s.wr n w i j).trimmed = s.trimmed ∧ (s.wr n w i j).stray = s.stray ∧ (s.wr n w i j).aoEntry = s.aoEntry ∧ (s.wr n w i j).latch = s.latch ∧ (s.wr n w i j).lastRead = s.lastRead ∧ (s.wr n w i j).barData = s.barData ∧ (s.wr n w i j).readHi = s.readHi ∧ (s.wr n w i j).chans = s.chans ∧ (s.wr n w i j).bridges = s.bridges ∧ (s.wr n w i j).trips = s.trips ∧ (s.wr n w i j).slots = s.slots ∧ (s.wr n w i j).fols = s.fols ∧ (s.wr n w i j).stopAt = s.stopAt ∧ (s.wr n w i j).folMiss = s.folMiss ∧ (s.wr n w i j).switching = s.switching ∧ (s.wr n w i j).holdSpan = s.holdSpan ∧ (s.wr n w i j).padHold = s.padHold ∧ (s.wr n w i j).pinStill = s.pinStill ∧ (s.wr n w i j).launched = s.launched ∧ (s.wr n w i j).clockStop = s.clockStop ∧ (s.wr n w i j).stays = s.stays ∧ (s.wr n w i j).pinIn = s.pinIn ∧ (s.wr n w i j).unsensed = s.unsensed ∧ (s.wr n w i j).lines = s.lines ∧ (s.wr n w i j).edges = s.edges ∧ (s.wr n w i j).doms = s.doms ∧ (s.wr n w i j).entries = s.entries ∧ (s.wr n w i j).calAnswer = s.calAnswer ∧ (s.wr n w i j).calTurn = s.calTurn ∧ (s.wr n w i j).calIssue = s.calIssue ∧ (s.wr n w i j).offers = s.offers ∧ (s.wr n w i j).lastEv = s.lastEv ∧ (s.wr n w i j).afterMark = s.afterMark ∧ (s.wr n w i j).dropping = s.dropping ∧ (s.wr n w i j).logQ = s.logQ ∧ (s.wr n w i j).sigs = s.sigs ∧ (s.wr n w i j).logRecs = s.logRecs ∧ (s.wr n w i j).logLast = s.logLast ∧ (s.wr n w i j).markAt = s.markAt ∧ (s.wr n w i j).markSeq = s.markSeq ∧ (s.wr n w i j).sampler = s.sampler ∧ (s.wr n w i j).portX = s.portX ∧ (s.wr n w i j).gpr = s.gpr ∧ (s.wr n w i j).ctxs = s.ctxs ∧ (s.wr n w i j).lastIssue = s.lastIssue ∧ (s.wr n w i j).cycleAt = s.cycleAt ∧ (s.wr n w i j).govFine = s.govFine ∧ (s.wr n w i j).govRem = s.govRem ∧ (s.wr n w i j).admits = s.admits ∧ (s.wr n w i j).unsettled = s.unsettled ∧ (s.wr n w i j).settledAt = s.settledAt ∧ (s.wr n w i j).drawNow = s.drawNow ∧ (s.wr n w i j).drawPast = s.drawPast ∧ (s.wr n w i j).busyAt = s.busyAt ∧ (s.wr n w i j).courseAt = s.courseAt ∧ (s.wr n w i j).idleOff = s.idleOff ∧ (s.wr n w i j).sensors = s.sensors ∧ (s.wr n w i j).pwrReq = s.pwrReq ∧ (s.wr n w i j).waking = s.waking ∧ (s.wr n w i j).scrubPos = s.scrubPos ∧ (s.wr n w i j).passCorr = s.passCorr ∧ (s.wr n w i j).lockTimes = s.lockTimes ∧ (s.wr n w i j).startWait = s.startWait ∧ (s.wr n w i j).feedAt = s.feedAt ∧ (s.wr n w i j).clrStrat = s.clrStrat ∧ (s.wr n w i j).imageDigest = s.imageDigest ∧ (s.wr n w i j).flashUp = s.flashUp ∧ (s.wr n w i j).flashQuad = s.flashQuad ∧ (s.wr n w i j).epUp = s.epUp ∧ (s.wr n w i j).subsys = s.subsys ∧ (s.wr n w i j).aoAt = s.aoAt ∧ (s.wr n w i j).dmas = s.dmas ∧ (s.wr n w i j).dmaLast = s.dmaLast ∧ (s.wr n w i j).micro = s.micro ∧ (s.wr n w i j).dispatch = s.dispatch ∧ (s.wr n w i j).golden = s.golden ∧ (s.wr n w i j).goldenDispatch = s.goldenDispatch ∧ (s.wr n w i j).goldenLost = s.goldenLost ∧ (s.wr n w i j).patchEnd = s.patchEnd ∧ (s.wr n w i j).heldChecks = s.heldChecks ∧ (s.wr n w i j).repairs = s.repairs ∧ (s.wr n w i j).jtag = s.jtag ∧ (s.wr n w i j).boundary = s.boundary ∧ (s.wr n w i j).scanned = s.scanned ∧ (s.wr n w i j).scratch = s.scratch ∧ (s.wr n w i j).links = s.links ∧ (s.wr n w i j).routes = s.routes ∧ (s.wr n w i j).msgQ = s.msgQ ∧ (s.wr n w i j).parked = s.parked ∧ (s.wr n w i j).slew = s.slew ∧ (s.wr n w i j).coastAt = s.coastAt ∧ (s.wr n w i j).slockQ = s.slockQ ∧ (s.wr n w i j).fltTotal = s.fltTotal ∧ (s.wr n w i j).fltAcked = s.fltAcked ∧ (s.wr n w i j).paused = s.paused ∧ (s.wr n w i j).failed = s.failed ∧ (s.wr n w i j).spares = s.spares ∧ (s.wr n w i j).goAt = s.goAt ∧ (s.wr n w i j).takenBy = s.takenBy ∧ (s.wr n w i j).vecFirst = s.vecFirst ∧ (s.wr n w i j).goOld = s.goOld ∧ (s.wr n w i j).doneAt = s.doneAt ∧ (s.wr n w i j).msixOn = s.msixOn ∧ (s.wr n w i j).msixMask = s.msixMask ∧ (s.wr n w i j).hostLink = s.hostLink ∧ (s.wr n w i j).d3hot = s.d3hot ∧ (s.wr n w i j).wakePin = s.wakePin ∧ (s.wr n w i j).replies = s.replies ∧ (s.wr n w i j).longOps = s.longOps ∧ (s.wr n w i j).longNext = s.longNext ∧ (s.wr n w i j).mgmtResp = s.mgmtResp ∧ (s.wr n w i j).mgmtOut = s.mgmtOut ∧ (s.wr n w i j).taskMem = s.taskMem ∧ (s.wr n w i j).badTm = s.badTm ∧ (s.wr n w i j).badScript = s.badScript ∧ (s.wr n w i j).logMem = s.logMem ∧ (s.wr n w i j).hostMem = s.hostMem ∧ (s.wr n w i j).freeCtr = s.freeCtr ∧ (s.wr n w i j).pending = s.pending := by
  refine ⟨rfl, rfl, rfl, rfl, rfl, rfl, rfl, rfl, rfl, rfl, rfl, rfl, rfl, rfl, rfl, rfl, rfl, rfl, rfl, rfl, rfl, rfl, rfl, rfl, rfl, rfl, rfl, rfl, rfl, rfl, rfl, rfl, rfl, rfl, rfl, rfl, rfl, rfl, rfl, rfl, rfl, rfl, rfl, rfl, rfl, rfl, rfl, rfl, rfl, rfl, rfl, rfl, rfl, rfl, rfl, rfl, rfl, rfl, rfl, rfl, rfl, rfl, rfl, rfl, rfl, rfl, rfl, rfl, rfl, rfl, rfl, rfl, rfl, rfl, rfl, rfl, rfl, rfl, rfl, rfl, rfl, rfl, rfl, rfl, rfl, rfl, rfl, rfl, rfl, rfl, rfl, rfl, rfl, rfl, rfl, rfl, rfl, rfl, rfl, rfl, rfl, rfl, rfl, rfl, rfl, rfl, rfl, rfl, rfl, rfl, rfl, rfl, rfl, rfl, rfl, rfl, rfl, rfl, rfl, rfl, rfl, rfl, rfl, rfl, rfl, rfl⟩
@[simp] theorem State.reach_fields (s : State) (ts : Stamp) :
    (s.reach ts).variant = s.variant ∧ (s.reach ts).ownerKey = s.ownerKey ∧ (s.reach ts).ownerSign = s.ownerSign ∧ (s.reach ts).aoRem = s.aoRem ∧ (s.reach ts).copies = s.copies ∧ (s.reach ts).beacon = s.beacon ∧ (s.reach ts).trimmed = s.trimmed ∧ (s.reach ts).stray = s.stray ∧ (s.reach ts).aoEntry = s.aoEntry ∧ (s.reach ts).regs = s.regs ∧ (s.reach ts).latch = s.latch ∧ (s.reach ts).lastRead = s.lastRead ∧ (s.reach ts).barData = s.barData ∧ (s.reach ts).readHi = s.readHi ∧ (s.reach ts).chans = s.chans ∧ (s.reach ts).bridges = s.bridges ∧ (s.reach ts).trips = s.trips ∧ (s.reach ts).slots = s.slots ∧ (s.reach ts).fols = s.fols ∧ (s.reach ts).stopAt = s.stopAt ∧ (s.reach ts).folMiss = s.folMiss ∧ (s.reach ts).switching = s.switching ∧ (s.reach ts).holdSpan = s.holdSpan ∧ (s.reach ts).padHold = s.padHold ∧ (s.reach ts).pinStill = s.pinStill ∧ (s.reach ts).launched = s.launched ∧ (s.reach ts).clockStop = s.clockStop ∧ (s.reach ts).stays = s.stays ∧ (s.reach ts).pinIn = s.pinIn ∧ (s.reach ts).unsensed = s.unsensed ∧ (s.reach ts).lines = s.lines ∧ (s.reach ts).edges = s.edges ∧ (s.reach ts).doms = s.doms ∧ (s.reach ts).entries = s.entries ∧ (s.reach ts).calAnswer = s.calAnswer ∧ (s.reach ts).calTurn = s.calTurn ∧ (s.reach ts).calIssue = s.calIssue ∧ (s.reach ts).offers = s.offers ∧ (s.reach ts).lastEv = s.lastEv ∧ (s.reach ts).afterMark = s.afterMark ∧ (s.reach ts).dropping = s.dropping ∧ (s.reach ts).logQ = s.logQ ∧ (s.reach ts).sigs = s.sigs ∧ (s.reach ts).logRecs = s.logRecs ∧ (s.reach ts).logLast = s.logLast ∧ (s.reach ts).markAt = s.markAt ∧ (s.reach ts).markSeq = s.markSeq ∧ (s.reach ts).sampler = s.sampler ∧ (s.reach ts).portX = s.portX ∧ (s.reach ts).gpr = s.gpr ∧ (s.reach ts).ctxs = s.ctxs ∧ (s.reach ts).lastIssue = s.lastIssue ∧ (s.reach ts).cycleAt = s.cycleAt ∧ (s.reach ts).govFine = s.govFine ∧ (s.reach ts).govRem = s.govRem ∧ (s.reach ts).admits = s.admits ∧ (s.reach ts).unsettled = s.unsettled ∧ (s.reach ts).settledAt = s.settledAt ∧ (s.reach ts).drawNow = s.drawNow ∧ (s.reach ts).drawPast = s.drawPast ∧ (s.reach ts).busyAt = s.busyAt ∧ (s.reach ts).courseAt = s.courseAt ∧ (s.reach ts).idleOff = s.idleOff ∧ (s.reach ts).sensors = s.sensors ∧ (s.reach ts).pwrReq = s.pwrReq ∧ (s.reach ts).waking = s.waking ∧ (s.reach ts).scrubPos = s.scrubPos ∧ (s.reach ts).passCorr = s.passCorr ∧ (s.reach ts).lockTimes = s.lockTimes ∧ (s.reach ts).startWait = s.startWait ∧ (s.reach ts).feedAt = s.feedAt ∧ (s.reach ts).clrStrat = s.clrStrat ∧ (s.reach ts).imageDigest = s.imageDigest ∧ (s.reach ts).flashUp = s.flashUp ∧ (s.reach ts).flashQuad = s.flashQuad ∧ (s.reach ts).epUp = s.epUp ∧ (s.reach ts).subsys = s.subsys ∧ (s.reach ts).aoAt = s.aoAt ∧ (s.reach ts).dmas = s.dmas ∧ (s.reach ts).dmaLast = s.dmaLast ∧ (s.reach ts).micro = s.micro ∧ (s.reach ts).dispatch = s.dispatch ∧ (s.reach ts).golden = s.golden ∧ (s.reach ts).goldenDispatch = s.goldenDispatch ∧ (s.reach ts).goldenLost = s.goldenLost ∧ (s.reach ts).patchEnd = s.patchEnd ∧ (s.reach ts).heldChecks = s.heldChecks ∧ (s.reach ts).repairs = s.repairs ∧ (s.reach ts).jtag = s.jtag ∧ (s.reach ts).boundary = s.boundary ∧ (s.reach ts).scanned = s.scanned ∧ (s.reach ts).scratch = s.scratch ∧ (s.reach ts).links = s.links ∧ (s.reach ts).routes = s.routes ∧ (s.reach ts).msgQ = s.msgQ ∧ (s.reach ts).parked = s.parked ∧ (s.reach ts).slew = s.slew ∧ (s.reach ts).coastAt = s.coastAt ∧ (s.reach ts).slockQ = s.slockQ ∧ (s.reach ts).fltTotal = s.fltTotal ∧ (s.reach ts).fltAcked = s.fltAcked ∧ (s.reach ts).paused = s.paused ∧ (s.reach ts).failed = s.failed ∧ (s.reach ts).spares = s.spares ∧ (s.reach ts).goAt = s.goAt ∧ (s.reach ts).takenBy = s.takenBy ∧ (s.reach ts).vecFirst = s.vecFirst ∧ (s.reach ts).goOld = s.goOld ∧ (s.reach ts).doneAt = s.doneAt ∧ (s.reach ts).msixOn = s.msixOn ∧ (s.reach ts).msixMask = s.msixMask ∧ (s.reach ts).hostLink = s.hostLink ∧ (s.reach ts).d3hot = s.d3hot ∧ (s.reach ts).wakePin = s.wakePin ∧ (s.reach ts).replies = s.replies ∧ (s.reach ts).longOps = s.longOps ∧ (s.reach ts).longNext = s.longNext ∧ (s.reach ts).mgmtResp = s.mgmtResp ∧ (s.reach ts).mgmtOut = s.mgmtOut ∧ (s.reach ts).taskMem = s.taskMem ∧ (s.reach ts).badTm = s.badTm ∧ (s.reach ts).badScript = s.badScript ∧ (s.reach ts).logMem = s.logMem ∧ (s.reach ts).hostMem = s.hostMem ∧ (s.reach ts).freeCtr = s.freeCtr ∧ (s.reach ts).pending = s.pending := by
  refine ⟨rfl, rfl, rfl, rfl, rfl, rfl, rfl, rfl, rfl, rfl, rfl, rfl, rfl, rfl, rfl, rfl, rfl, rfl, rfl, rfl, rfl, rfl, rfl, rfl, rfl, rfl, rfl, rfl, rfl, rfl, rfl, rfl, rfl, rfl, rfl, rfl, rfl, rfl, rfl, rfl, rfl, rfl, rfl, rfl, rfl, rfl, rfl, rfl, rfl, rfl, rfl, rfl, rfl, rfl, rfl, rfl, rfl, rfl, rfl, rfl, rfl, rfl, rfl, rfl, rfl, rfl, rfl, rfl, rfl, rfl, rfl, rfl, rfl, rfl, rfl, rfl, rfl, rfl, rfl, rfl, rfl, rfl, rfl, rfl, rfl, rfl, rfl, rfl, rfl, rfl, rfl, rfl, rfl, rfl, rfl, rfl, rfl, rfl, rfl, rfl, rfl, rfl, rfl, rfl, rfl, rfl, rfl, rfl, rfl, rfl, rfl, rfl, rfl, rfl, rfl, rfl, rfl, rfl, rfl, rfl, rfl, rfl, rfl, rfl, rfl, rfl⟩
theorem State.reach_part (s : State) (ts : Stamp) (a : Area) (h : a ≠ .time) : (s.reach ts).part a = s.part a := by
  cases a <;> first | rfl | exact absurd rfl h

@[simp] theorem State.setAhead_fields (s : State) (i : Nat) (d : Int) :
    (s.setAhead i d).variant = s.variant ∧ (s.setAhead i d).ownerKey = s.ownerKey ∧ (s.setAhead i d).ownerSign = s.ownerSign ∧ (s.setAhead i d).now = s.now ∧ (s.setAhead i d).aoRem = s.aoRem ∧ (s.setAhead i d).beacon = s.beacon ∧ (s.setAhead i d).trimmed = s.trimmed ∧ (s.setAhead i d).stray = s.stray ∧ (s.setAhead i d).aoEntry = s.aoEntry ∧ (s.setAhead i d).regs = s.regs ∧ (s.setAhead i d).latch = s.latch ∧ (s.setAhead i d).lastRead = s.lastRead ∧ (s.setAhead i d).barData = s.barData ∧ (s.setAhead i d).readHi = s.readHi ∧ (s.setAhead i d).chans = s.chans ∧ (s.setAhead i d).bridges = s.bridges ∧ (s.setAhead i d).trips = s.trips ∧ (s.setAhead i d).slots = s.slots ∧ (s.setAhead i d).fols = s.fols ∧ (s.setAhead i d).stopAt = s.stopAt ∧ (s.setAhead i d).folMiss = s.folMiss ∧ (s.setAhead i d).switching = s.switching ∧ (s.setAhead i d).holdSpan = s.holdSpan ∧ (s.setAhead i d).padHold = s.padHold ∧ (s.setAhead i d).pinStill = s.pinStill ∧ (s.setAhead i d).launched = s.launched ∧ (s.setAhead i d).clockStop = s.clockStop ∧ (s.setAhead i d).stays = s.stays ∧ (s.setAhead i d).pinIn = s.pinIn ∧ (s.setAhead i d).unsensed = s.unsensed ∧ (s.setAhead i d).lines = s.lines ∧ (s.setAhead i d).edges = s.edges ∧ (s.setAhead i d).doms = s.doms ∧ (s.setAhead i d).entries = s.entries ∧ (s.setAhead i d).calAnswer = s.calAnswer ∧ (s.setAhead i d).calTurn = s.calTurn ∧ (s.setAhead i d).calIssue = s.calIssue ∧ (s.setAhead i d).offers = s.offers ∧ (s.setAhead i d).lastEv = s.lastEv ∧ (s.setAhead i d).afterMark = s.afterMark ∧ (s.setAhead i d).dropping = s.dropping ∧ (s.setAhead i d).logQ = s.logQ ∧ (s.setAhead i d).sigs = s.sigs ∧ (s.setAhead i d).logRecs = s.logRecs ∧ (s.setAhead i d).logLast = s.logLast ∧ (s.setAhead i d).markAt = s.markAt ∧ (s.setAhead i d).markSeq = s.markSeq ∧ (s.setAhead i d).sampler = s.sampler ∧ (s.setAhead i d).portX = s.portX ∧ (s.setAhead i d).gpr = s.gpr ∧ (s.setAhead i d).ctxs = s.ctxs ∧ (s.setAhead i d).lastIssue = s.lastIssue ∧ (s.setAhead i d).cycleAt = s.cycleAt ∧ (s.setAhead i d).govFine = s.govFine ∧ (s.setAhead i d).govRem = s.govRem ∧ (s.setAhead i d).admits = s.admits ∧ (s.setAhead i d).unsettled = s.unsettled ∧ (s.setAhead i d).settledAt = s.settledAt ∧ (s.setAhead i d).drawNow = s.drawNow ∧ (s.setAhead i d).drawPast = s.drawPast ∧ (s.setAhead i d).busyAt = s.busyAt ∧ (s.setAhead i d).courseAt = s.courseAt ∧ (s.setAhead i d).idleOff = s.idleOff ∧ (s.setAhead i d).sensors = s.sensors ∧ (s.setAhead i d).pwrReq = s.pwrReq ∧ (s.setAhead i d).waking = s.waking ∧ (s.setAhead i d).scrubPos = s.scrubPos ∧ (s.setAhead i d).passCorr = s.passCorr ∧ (s.setAhead i d).lockTimes = s.lockTimes ∧ (s.setAhead i d).startWait = s.startWait ∧ (s.setAhead i d).feedAt = s.feedAt ∧ (s.setAhead i d).clrStrat = s.clrStrat ∧ (s.setAhead i d).imageDigest = s.imageDigest ∧ (s.setAhead i d).flashUp = s.flashUp ∧ (s.setAhead i d).flashQuad = s.flashQuad ∧ (s.setAhead i d).epUp = s.epUp ∧ (s.setAhead i d).subsys = s.subsys ∧ (s.setAhead i d).aoAt = s.aoAt ∧ (s.setAhead i d).dmas = s.dmas ∧ (s.setAhead i d).dmaLast = s.dmaLast ∧ (s.setAhead i d).micro = s.micro ∧ (s.setAhead i d).dispatch = s.dispatch ∧ (s.setAhead i d).golden = s.golden ∧ (s.setAhead i d).goldenDispatch = s.goldenDispatch ∧ (s.setAhead i d).goldenLost = s.goldenLost ∧ (s.setAhead i d).patchEnd = s.patchEnd ∧ (s.setAhead i d).heldChecks = s.heldChecks ∧ (s.setAhead i d).repairs = s.repairs ∧ (s.setAhead i d).jtag = s.jtag ∧ (s.setAhead i d).boundary = s.boundary ∧ (s.setAhead i d).scanned = s.scanned ∧ (s.setAhead i d).scratch = s.scratch ∧ (s.setAhead i d).links = s.links ∧ (s.setAhead i d).routes = s.routes ∧ (s.setAhead i d).msgQ = s.msgQ ∧ (s.setAhead i d).parked = s.parked ∧ (s.setAhead i d).slew = s.slew ∧ (s.setAhead i d).coastAt = s.coastAt ∧ (s.setAhead i d).slockQ = s.slockQ ∧ (s.setAhead i d).fltTotal = s.fltTotal ∧ (s.setAhead i d).fltAcked = s.fltAcked ∧ (s.setAhead i d).paused = s.paused ∧ (s.setAhead i d).failed = s.failed ∧ (s.setAhead i d).spares = s.spares ∧ (s.setAhead i d).goAt = s.goAt ∧ (s.setAhead i d).takenBy = s.takenBy ∧ (s.setAhead i d).vecFirst = s.vecFirst ∧ (s.setAhead i d).goOld = s.goOld ∧ (s.setAhead i d).doneAt = s.doneAt ∧ (s.setAhead i d).msixOn = s.msixOn ∧ (s.setAhead i d).msixMask = s.msixMask ∧ (s.setAhead i d).hostLink = s.hostLink ∧ (s.setAhead i d).d3hot = s.d3hot ∧ (s.setAhead i d).wakePin = s.wakePin ∧ (s.setAhead i d).replies = s.replies ∧ (s.setAhead i d).longOps = s.longOps ∧ (s.setAhead i d).longNext = s.longNext ∧ (s.setAhead i d).mgmtResp = s.mgmtResp ∧ (s.setAhead i d).mgmtOut = s.mgmtOut ∧ (s.setAhead i d).taskMem = s.taskMem ∧ (s.setAhead i d).badTm = s.badTm ∧ (s.setAhead i d).badScript = s.badScript ∧ (s.setAhead i d).logMem = s.logMem ∧ (s.setAhead i d).hostMem = s.hostMem ∧ (s.setAhead i d).freeCtr = s.freeCtr ∧ (s.setAhead i d).pending = s.pending := by
  refine ⟨rfl, rfl, rfl, rfl, rfl, rfl, rfl, rfl, rfl, rfl, rfl, rfl, rfl, rfl, rfl, rfl, rfl, rfl, rfl, rfl, rfl, rfl, rfl, rfl, rfl, rfl, rfl, rfl, rfl, rfl, rfl, rfl, rfl, rfl, rfl, rfl, rfl, rfl, rfl, rfl, rfl, rfl, rfl, rfl, rfl, rfl, rfl, rfl, rfl, rfl, rfl, rfl, rfl, rfl, rfl, rfl, rfl, rfl, rfl, rfl, rfl, rfl, rfl, rfl, rfl, rfl, rfl, rfl, rfl, rfl, rfl, rfl, rfl, rfl, rfl, rfl, rfl, rfl, rfl, rfl, rfl, rfl, rfl, rfl, rfl, rfl, rfl, rfl, rfl, rfl, rfl, rfl, rfl, rfl, rfl, rfl, rfl, rfl, rfl, rfl, rfl, rfl, rfl, rfl, rfl, rfl, rfl, rfl, rfl, rfl, rfl, rfl, rfl, rfl, rfl, rfl, rfl, rfl, rfl, rfl, rfl, rfl, rfl, rfl, rfl, rfl⟩
theorem State.setAhead_part (s : State) (i : Nat) (d : Int) (a : Area) (h : a ≠ .drone) : (s.setAhead i d).part a = s.part a := by
  cases a <;> first | rfl | exact absurd rfl h

@[simp] theorem State.drawn_fields (s : State) :
    s.drawn.variant = s.variant ∧ s.drawn.ownerKey = s.ownerKey ∧ s.drawn.ownerSign = s.ownerSign ∧ s.drawn.now = s.now ∧ s.drawn.aoRem = s.aoRem ∧ s.drawn.copies = s.copies ∧ s.drawn.beacon = s.beacon ∧ s.drawn.trimmed = s.trimmed ∧ s.drawn.stray = s.stray ∧ s.drawn.aoEntry = s.aoEntry ∧ s.drawn.regs = s.regs ∧ s.drawn.latch = s.latch ∧ s.drawn.lastRead = s.lastRead ∧ s.drawn.barData = s.barData ∧ s.drawn.readHi = s.readHi ∧ s.drawn.chans = s.chans ∧ s.drawn.bridges = s.bridges ∧ s.drawn.trips = s.trips ∧ s.drawn.slots = s.slots ∧ s.drawn.fols = s.fols ∧ s.drawn.stopAt = s.stopAt ∧ s.drawn.folMiss = s.folMiss ∧ s.drawn.switching = s.switching ∧ s.drawn.holdSpan = s.holdSpan ∧ s.drawn.padHold = s.padHold ∧ s.drawn.pinStill = s.pinStill ∧ s.drawn.launched = s.launched ∧ s.drawn.clockStop = s.clockStop ∧ s.drawn.stays = s.stays ∧ s.drawn.pinIn = s.pinIn ∧ s.drawn.unsensed = s.unsensed ∧ s.drawn.lines = s.lines ∧ s.drawn.edges = s.edges ∧ s.drawn.doms = s.doms ∧ s.drawn.entries = s.entries ∧ s.drawn.calAnswer = s.calAnswer ∧ s.drawn.calTurn = s.calTurn ∧ s.drawn.calIssue = s.calIssue ∧ s.drawn.offers = s.offers ∧ s.drawn.lastEv = s.lastEv ∧ s.drawn.afterMark = s.afterMark ∧ s.drawn.dropping = s.dropping ∧ s.drawn.logQ = s.logQ ∧ s.drawn.sigs = s.sigs ∧ s.drawn.logRecs = s.logRecs ∧ s.drawn.logLast = s.logLast ∧ s.drawn.markAt = s.markAt ∧ s.drawn.markSeq = s.markSeq ∧ s.drawn.sampler = s.sampler ∧ s.drawn.portX = s.portX ∧ s.drawn.gpr = s.gpr ∧ s.drawn.ctxs = s.ctxs ∧ s.drawn.lastIssue = s.lastIssue ∧ s.drawn.cycleAt = s.cycleAt ∧ s.drawn.govFine = s.govFine ∧ s.drawn.govRem = s.govRem ∧ s.drawn.admits = s.admits ∧ s.drawn.unsettled = s.unsettled ∧ s.drawn.settledAt = s.settledAt ∧ s.drawn.drawNow = s.drawNow ∧ s.drawn.drawPast = s.drawPast ∧ s.drawn.busyAt = s.busyAt ∧ s.drawn.courseAt = s.courseAt ∧ s.drawn.idleOff = s.idleOff ∧ s.drawn.sensors = s.sensors ∧ s.drawn.pwrReq = s.pwrReq ∧ s.drawn.waking = s.waking ∧ s.drawn.scrubPos = s.scrubPos ∧ s.drawn.passCorr = s.passCorr ∧ s.drawn.lockTimes = s.lockTimes ∧ s.drawn.startWait = s.startWait ∧ s.drawn.feedAt = s.feedAt ∧ s.drawn.clrStrat = s.clrStrat ∧ s.drawn.imageDigest = s.imageDigest ∧ s.drawn.flashUp = s.flashUp ∧ s.drawn.flashQuad = s.flashQuad ∧ s.drawn.epUp = s.epUp ∧ s.drawn.subsys = s.subsys ∧ s.drawn.aoAt = s.aoAt ∧ s.drawn.dmas = s.dmas ∧ s.drawn.dmaLast = s.dmaLast ∧ s.drawn.micro = s.micro ∧ s.drawn.dispatch = s.dispatch ∧ s.drawn.golden = s.golden ∧ s.drawn.goldenDispatch = s.goldenDispatch ∧ s.drawn.goldenLost = s.goldenLost ∧ s.drawn.patchEnd = s.patchEnd ∧ s.drawn.heldChecks = s.heldChecks ∧ s.drawn.repairs = s.repairs ∧ s.drawn.jtag = s.jtag ∧ s.drawn.boundary = s.boundary ∧ s.drawn.scanned = s.scanned ∧ s.drawn.scratch = s.scratch ∧ s.drawn.links = s.links ∧ s.drawn.routes = s.routes ∧ s.drawn.msgQ = s.msgQ ∧ s.drawn.parked = s.parked ∧ s.drawn.slew = s.slew ∧ s.drawn.coastAt = s.coastAt ∧ s.drawn.slockQ = s.slockQ ∧ s.drawn.fltTotal = s.fltTotal ∧ s.drawn.fltAcked = s.fltAcked ∧ s.drawn.paused = s.paused ∧ s.drawn.failed = s.failed ∧ s.drawn.spares = s.spares ∧ s.drawn.goAt = s.goAt ∧ s.drawn.takenBy = s.takenBy ∧ s.drawn.vecFirst = s.vecFirst ∧ s.drawn.goOld = s.goOld ∧ s.drawn.doneAt = s.doneAt ∧ s.drawn.msixOn = s.msixOn ∧ s.drawn.msixMask = s.msixMask ∧ s.drawn.hostLink = s.hostLink ∧ s.drawn.d3hot = s.d3hot ∧ s.drawn.wakePin = s.wakePin ∧ s.drawn.replies = s.replies ∧ s.drawn.longOps = s.longOps ∧ s.drawn.longNext = s.longNext ∧ s.drawn.mgmtResp = s.mgmtResp ∧ s.drawn.mgmtOut = s.mgmtOut ∧ s.drawn.taskMem = s.taskMem ∧ s.drawn.badTm = s.badTm ∧ s.drawn.badScript = s.badScript ∧ s.drawn.logMem = s.logMem ∧ s.drawn.hostMem = s.hostMem ∧ s.drawn.pending = s.pending := by
  refine ⟨rfl, rfl, rfl, rfl, rfl, rfl, rfl, rfl, rfl, rfl, rfl, rfl, rfl, rfl, rfl, rfl, rfl, rfl, rfl, rfl, rfl, rfl, rfl, rfl, rfl, rfl, rfl, rfl, rfl, rfl, rfl, rfl, rfl, rfl, rfl, rfl, rfl, rfl, rfl, rfl, rfl, rfl, rfl, rfl, rfl, rfl, rfl, rfl, rfl, rfl, rfl, rfl, rfl, rfl, rfl, rfl, rfl, rfl, rfl, rfl, rfl, rfl, rfl, rfl, rfl, rfl, rfl, rfl, rfl, rfl, rfl, rfl, rfl, rfl, rfl, rfl, rfl, rfl, rfl, rfl, rfl, rfl, rfl, rfl, rfl, rfl, rfl, rfl, rfl, rfl, rfl, rfl, rfl, rfl, rfl, rfl, rfl, rfl, rfl, rfl, rfl, rfl, rfl, rfl, rfl, rfl, rfl, rfl, rfl, rfl, rfl, rfl, rfl, rfl, rfl, rfl, rfl, rfl, rfl, rfl, rfl, rfl, rfl, rfl, rfl, rfl⟩
theorem State.drawn_part (s : State) (a : Area) (h : a ≠ .free) : s.drawn.part a = s.part a := by
  cases a <;> first | rfl | exact absurd rfl h

@[simp] theorem State.setChan_fields (s : State) (g : Nat) (c : Chan) :
    (s.setChan g c).variant = s.variant ∧ (s.setChan g c).ownerKey = s.ownerKey ∧ (s.setChan g c).ownerSign = s.ownerSign ∧ (s.setChan g c).now = s.now ∧ (s.setChan g c).aoRem = s.aoRem ∧ (s.setChan g c).copies = s.copies ∧ (s.setChan g c).beacon = s.beacon ∧ (s.setChan g c).trimmed = s.trimmed ∧ (s.setChan g c).stray = s.stray ∧ (s.setChan g c).aoEntry = s.aoEntry ∧ (s.setChan g c).regs = s.regs ∧ (s.setChan g c).latch = s.latch ∧ (s.setChan g c).lastRead = s.lastRead ∧ (s.setChan g c).barData = s.barData ∧ (s.setChan g c).readHi = s.readHi ∧ (s.setChan g c).bridges = s.bridges ∧ (s.setChan g c).trips = s.trips ∧ (s.setChan g c).slots = s.slots ∧ (s.setChan g c).fols = s.fols ∧ (s.setChan g c).stopAt = s.stopAt ∧ (s.setChan g c).folMiss = s.folMiss ∧ (s.setChan g c).switching = s.switching ∧ (s.setChan g c).holdSpan = s.holdSpan ∧ (s.setChan g c).padHold = s.padHold ∧ (s.setChan g c).pinStill = s.pinStill ∧ (s.setChan g c).launched = s.launched ∧ (s.setChan g c).clockStop = s.clockStop ∧ (s.setChan g c).stays = s.stays ∧ (s.setChan g c).pinIn = s.pinIn ∧ (s.setChan g c).unsensed = s.unsensed ∧ (s.setChan g c).lines = s.lines ∧ (s.setChan g c).edges = s.edges ∧ (s.setChan g c).doms = s.doms ∧ (s.setChan g c).entries = s.entries ∧ (s.setChan g c).calAnswer = s.calAnswer ∧ (s.setChan g c).calTurn = s.calTurn ∧ (s.setChan g c).calIssue = s.calIssue ∧ (s.setChan g c).offers = s.offers ∧ (s.setChan g c).lastEv = s.lastEv ∧ (s.setChan g c).afterMark = s.afterMark ∧ (s.setChan g c).dropping = s.dropping ∧ (s.setChan g c).logQ = s.logQ ∧ (s.setChan g c).sigs = s.sigs ∧ (s.setChan g c).logRecs = s.logRecs ∧ (s.setChan g c).logLast = s.logLast ∧ (s.setChan g c).markAt = s.markAt ∧ (s.setChan g c).markSeq = s.markSeq ∧ (s.setChan g c).sampler = s.sampler ∧ (s.setChan g c).portX = s.portX ∧ (s.setChan g c).gpr = s.gpr ∧ (s.setChan g c).ctxs = s.ctxs ∧ (s.setChan g c).lastIssue = s.lastIssue ∧ (s.setChan g c).cycleAt = s.cycleAt ∧ (s.setChan g c).govFine = s.govFine ∧ (s.setChan g c).govRem = s.govRem ∧ (s.setChan g c).admits = s.admits ∧ (s.setChan g c).unsettled = s.unsettled ∧ (s.setChan g c).settledAt = s.settledAt ∧ (s.setChan g c).drawNow = s.drawNow ∧ (s.setChan g c).drawPast = s.drawPast ∧ (s.setChan g c).busyAt = s.busyAt ∧ (s.setChan g c).courseAt = s.courseAt ∧ (s.setChan g c).idleOff = s.idleOff ∧ (s.setChan g c).sensors = s.sensors ∧ (s.setChan g c).pwrReq = s.pwrReq ∧ (s.setChan g c).waking = s.waking ∧ (s.setChan g c).scrubPos = s.scrubPos ∧ (s.setChan g c).passCorr = s.passCorr ∧ (s.setChan g c).lockTimes = s.lockTimes ∧ (s.setChan g c).startWait = s.startWait ∧ (s.setChan g c).feedAt = s.feedAt ∧ (s.setChan g c).clrStrat = s.clrStrat ∧ (s.setChan g c).imageDigest = s.imageDigest ∧ (s.setChan g c).flashUp = s.flashUp ∧ (s.setChan g c).flashQuad = s.flashQuad ∧ (s.setChan g c).epUp = s.epUp ∧ (s.setChan g c).subsys = s.subsys ∧ (s.setChan g c).aoAt = s.aoAt ∧ (s.setChan g c).dmas = s.dmas ∧ (s.setChan g c).dmaLast = s.dmaLast ∧ (s.setChan g c).micro = s.micro ∧ (s.setChan g c).dispatch = s.dispatch ∧ (s.setChan g c).golden = s.golden ∧ (s.setChan g c).goldenDispatch = s.goldenDispatch ∧ (s.setChan g c).goldenLost = s.goldenLost ∧ (s.setChan g c).patchEnd = s.patchEnd ∧ (s.setChan g c).heldChecks = s.heldChecks ∧ (s.setChan g c).repairs = s.repairs ∧ (s.setChan g c).jtag = s.jtag ∧ (s.setChan g c).boundary = s.boundary ∧ (s.setChan g c).scanned = s.scanned ∧ (s.setChan g c).scratch = s.scratch ∧ (s.setChan g c).links = s.links ∧ (s.setChan g c).routes = s.routes ∧ (s.setChan g c).msgQ = s.msgQ ∧ (s.setChan g c).parked = s.parked ∧ (s.setChan g c).slew = s.slew ∧ (s.setChan g c).coastAt = s.coastAt ∧ (s.setChan g c).slockQ = s.slockQ ∧ (s.setChan g c).fltTotal = s.fltTotal ∧ (s.setChan g c).fltAcked = s.fltAcked ∧ (s.setChan g c).paused = s.paused ∧ (s.setChan g c).failed = s.failed ∧ (s.setChan g c).spares = s.spares ∧ (s.setChan g c).goAt = s.goAt ∧ (s.setChan g c).takenBy = s.takenBy ∧ (s.setChan g c).vecFirst = s.vecFirst ∧ (s.setChan g c).goOld = s.goOld ∧ (s.setChan g c).doneAt = s.doneAt ∧ (s.setChan g c).msixOn = s.msixOn ∧ (s.setChan g c).msixMask = s.msixMask ∧ (s.setChan g c).hostLink = s.hostLink ∧ (s.setChan g c).d3hot = s.d3hot ∧ (s.setChan g c).wakePin = s.wakePin ∧ (s.setChan g c).replies = s.replies ∧ (s.setChan g c).longOps = s.longOps ∧ (s.setChan g c).longNext = s.longNext ∧ (s.setChan g c).mgmtResp = s.mgmtResp ∧ (s.setChan g c).mgmtOut = s.mgmtOut ∧ (s.setChan g c).taskMem = s.taskMem ∧ (s.setChan g c).badTm = s.badTm ∧ (s.setChan g c).badScript = s.badScript ∧ (s.setChan g c).logMem = s.logMem ∧ (s.setChan g c).hostMem = s.hostMem ∧ (s.setChan g c).freeCtr = s.freeCtr ∧ (s.setChan g c).pending = s.pending := by
  refine ⟨rfl, rfl, rfl, rfl, rfl, rfl, rfl, rfl, rfl, rfl, rfl, rfl, rfl, rfl, rfl, rfl, rfl, rfl, rfl, rfl, rfl, rfl, rfl, rfl, rfl, rfl, rfl, rfl, rfl, rfl, rfl, rfl, rfl, rfl, rfl, rfl, rfl, rfl, rfl, rfl, rfl, rfl, rfl, rfl, rfl, rfl, rfl, rfl, rfl, rfl, rfl, rfl, rfl, rfl, rfl, rfl, rfl, rfl, rfl, rfl, rfl, rfl, rfl, rfl, rfl, rfl, rfl, rfl, rfl, rfl, rfl, rfl, rfl, rfl, rfl, rfl, rfl, rfl, rfl, rfl, rfl, rfl, rfl, rfl, rfl, rfl, rfl, rfl, rfl, rfl, rfl, rfl, rfl, rfl, rfl, rfl, rfl, rfl, rfl, rfl, rfl, rfl, rfl, rfl, rfl, rfl, rfl, rfl, rfl, rfl, rfl, rfl, rfl, rfl, rfl, rfl, rfl, rfl, rfl, rfl, rfl, rfl, rfl, rfl, rfl, rfl⟩
theorem State.setChan_part (s : State) (g : Nat) (c : Chan) (a : Area) (h : a ≠ .tile) : (s.setChan g c).part a = s.part a := by
  cases a <;> first | rfl | exact absurd rfl h

@[simp] theorem State.setBridge_fields (s : State) (b : Nat) (x : Bridge) :
    (s.setBridge b x).variant = s.variant ∧ (s.setBridge b x).ownerKey = s.ownerKey ∧ (s.setBridge b x).ownerSign = s.ownerSign ∧ (s.setBridge b x).now = s.now ∧ (s.setBridge b x).aoRem = s.aoRem ∧ (s.setBridge b x).copies = s.copies ∧ (s.setBridge b x).beacon = s.beacon ∧ (s.setBridge b x).trimmed = s.trimmed ∧ (s.setBridge b x).stray = s.stray ∧ (s.setBridge b x).aoEntry = s.aoEntry ∧ (s.setBridge b x).regs = s.regs ∧ (s.setBridge b x).latch = s.latch ∧ (s.setBridge b x).lastRead = s.lastRead ∧ (s.setBridge b x).barData = s.barData ∧ (s.setBridge b x).readHi = s.readHi ∧ (s.setBridge b x).chans = s.chans ∧ (s.setBridge b x).trips = s.trips ∧ (s.setBridge b x).slots = s.slots ∧ (s.setBridge b x).fols = s.fols ∧ (s.setBridge b x).stopAt = s.stopAt ∧ (s.setBridge b x).folMiss = s.folMiss ∧ (s.setBridge b x).switching = s.switching ∧ (s.setBridge b x).holdSpan = s.holdSpan ∧ (s.setBridge b x).padHold = s.padHold ∧ (s.setBridge b x).pinStill = s.pinStill ∧ (s.setBridge b x).launched = s.launched ∧ (s.setBridge b x).clockStop = s.clockStop ∧ (s.setBridge b x).stays = s.stays ∧ (s.setBridge b x).pinIn = s.pinIn ∧ (s.setBridge b x).unsensed = s.unsensed ∧ (s.setBridge b x).lines = s.lines ∧ (s.setBridge b x).edges = s.edges ∧ (s.setBridge b x).doms = s.doms ∧ (s.setBridge b x).entries = s.entries ∧ (s.setBridge b x).calAnswer = s.calAnswer ∧ (s.setBridge b x).calTurn = s.calTurn ∧ (s.setBridge b x).calIssue = s.calIssue ∧ (s.setBridge b x).offers = s.offers ∧ (s.setBridge b x).lastEv = s.lastEv ∧ (s.setBridge b x).afterMark = s.afterMark ∧ (s.setBridge b x).dropping = s.dropping ∧ (s.setBridge b x).logQ = s.logQ ∧ (s.setBridge b x).sigs = s.sigs ∧ (s.setBridge b x).logRecs = s.logRecs ∧ (s.setBridge b x).logLast = s.logLast ∧ (s.setBridge b x).markAt = s.markAt ∧ (s.setBridge b x).markSeq = s.markSeq ∧ (s.setBridge b x).sampler = s.sampler ∧ (s.setBridge b x).portX = s.portX ∧ (s.setBridge b x).gpr = s.gpr ∧ (s.setBridge b x).ctxs = s.ctxs ∧ (s.setBridge b x).lastIssue = s.lastIssue ∧ (s.setBridge b x).cycleAt = s.cycleAt ∧ (s.setBridge b x).govFine = s.govFine ∧ (s.setBridge b x).govRem = s.govRem ∧ (s.setBridge b x).admits = s.admits ∧ (s.setBridge b x).unsettled = s.unsettled ∧ (s.setBridge b x).settledAt = s.settledAt ∧ (s.setBridge b x).drawNow = s.drawNow ∧ (s.setBridge b x).drawPast = s.drawPast ∧ (s.setBridge b x).busyAt = s.busyAt ∧ (s.setBridge b x).courseAt = s.courseAt ∧ (s.setBridge b x).idleOff = s.idleOff ∧ (s.setBridge b x).sensors = s.sensors ∧ (s.setBridge b x).pwrReq = s.pwrReq ∧ (s.setBridge b x).waking = s.waking ∧ (s.setBridge b x).scrubPos = s.scrubPos ∧ (s.setBridge b x).passCorr = s.passCorr ∧ (s.setBridge b x).lockTimes = s.lockTimes ∧ (s.setBridge b x).startWait = s.startWait ∧ (s.setBridge b x).feedAt = s.feedAt ∧ (s.setBridge b x).clrStrat = s.clrStrat ∧ (s.setBridge b x).imageDigest = s.imageDigest ∧ (s.setBridge b x).flashUp = s.flashUp ∧ (s.setBridge b x).flashQuad = s.flashQuad ∧ (s.setBridge b x).epUp = s.epUp ∧ (s.setBridge b x).subsys = s.subsys ∧ (s.setBridge b x).aoAt = s.aoAt ∧ (s.setBridge b x).dmas = s.dmas ∧ (s.setBridge b x).dmaLast = s.dmaLast ∧ (s.setBridge b x).micro = s.micro ∧ (s.setBridge b x).dispatch = s.dispatch ∧ (s.setBridge b x).golden = s.golden ∧ (s.setBridge b x).goldenDispatch = s.goldenDispatch ∧ (s.setBridge b x).goldenLost = s.goldenLost ∧ (s.setBridge b x).patchEnd = s.patchEnd ∧ (s.setBridge b x).heldChecks = s.heldChecks ∧ (s.setBridge b x).repairs = s.repairs ∧ (s.setBridge b x).jtag = s.jtag ∧ (s.setBridge b x).boundary = s.boundary ∧ (s.setBridge b x).scanned = s.scanned ∧ (s.setBridge b x).scratch = s.scratch ∧ (s.setBridge b x).links = s.links ∧ (s.setBridge b x).routes = s.routes ∧ (s.setBridge b x).msgQ = s.msgQ ∧ (s.setBridge b x).parked = s.parked ∧ (s.setBridge b x).slew = s.slew ∧ (s.setBridge b x).coastAt = s.coastAt ∧ (s.setBridge b x).slockQ = s.slockQ ∧ (s.setBridge b x).fltTotal = s.fltTotal ∧ (s.setBridge b x).fltAcked = s.fltAcked ∧ (s.setBridge b x).paused = s.paused ∧ (s.setBridge b x).failed = s.failed ∧ (s.setBridge b x).spares = s.spares ∧ (s.setBridge b x).goAt = s.goAt ∧ (s.setBridge b x).takenBy = s.takenBy ∧ (s.setBridge b x).vecFirst = s.vecFirst ∧ (s.setBridge b x).goOld = s.goOld ∧ (s.setBridge b x).doneAt = s.doneAt ∧ (s.setBridge b x).msixOn = s.msixOn ∧ (s.setBridge b x).msixMask = s.msixMask ∧ (s.setBridge b x).hostLink = s.hostLink ∧ (s.setBridge b x).d3hot = s.d3hot ∧ (s.setBridge b x).wakePin = s.wakePin ∧ (s.setBridge b x).replies = s.replies ∧ (s.setBridge b x).longOps = s.longOps ∧ (s.setBridge b x).longNext = s.longNext ∧ (s.setBridge b x).mgmtResp = s.mgmtResp ∧ (s.setBridge b x).mgmtOut = s.mgmtOut ∧ (s.setBridge b x).taskMem = s.taskMem ∧ (s.setBridge b x).badTm = s.badTm ∧ (s.setBridge b x).badScript = s.badScript ∧ (s.setBridge b x).logMem = s.logMem ∧ (s.setBridge b x).hostMem = s.hostMem ∧ (s.setBridge b x).freeCtr = s.freeCtr ∧ (s.setBridge b x).pending = s.pending := by
  refine ⟨rfl, rfl, rfl, rfl, rfl, rfl, rfl, rfl, rfl, rfl, rfl, rfl, rfl, rfl, rfl, rfl, rfl, rfl, rfl, rfl, rfl, rfl, rfl, rfl, rfl, rfl, rfl, rfl, rfl, rfl, rfl, rfl, rfl, rfl, rfl, rfl, rfl, rfl, rfl, rfl, rfl, rfl, rfl, rfl, rfl, rfl, rfl, rfl, rfl, rfl, rfl, rfl, rfl, rfl, rfl, rfl, rfl, rfl, rfl, rfl, rfl, rfl, rfl, rfl, rfl, rfl, rfl, rfl, rfl, rfl, rfl, rfl, rfl, rfl, rfl, rfl, rfl, rfl, rfl, rfl, rfl, rfl, rfl, rfl, rfl, rfl, rfl, rfl, rfl, rfl, rfl, rfl, rfl, rfl, rfl, rfl, rfl, rfl, rfl, rfl, rfl, rfl, rfl, rfl, rfl, rfl, rfl, rfl, rfl, rfl, rfl, rfl, rfl, rfl, rfl, rfl, rfl, rfl, rfl, rfl, rfl, rfl, rfl, rfl, rfl, rfl⟩
theorem State.setBridge_part (s : State) (b : Nat) (x : Bridge) (a : Area) (h : a ≠ .tile) : (s.setBridge b x).part a = s.part a := by
  cases a <;> first | rfl | exact absurd rfl h

@[simp] theorem State.setTrip_fields (s : State) (k : Nat) (x : TripIn) :
    (s.setTrip k x).variant = s.variant ∧ (s.setTrip k x).ownerKey = s.ownerKey ∧ (s.setTrip k x).ownerSign = s.ownerSign ∧ (s.setTrip k x).now = s.now ∧ (s.setTrip k x).aoRem = s.aoRem ∧ (s.setTrip k x).copies = s.copies ∧ (s.setTrip k x).beacon = s.beacon ∧ (s.setTrip k x).trimmed = s.trimmed ∧ (s.setTrip k x).stray = s.stray ∧ (s.setTrip k x).aoEntry = s.aoEntry ∧ (s.setTrip k x).regs = s.regs ∧ (s.setTrip k x).latch = s.latch ∧ (s.setTrip k x).lastRead = s.lastRead ∧ (s.setTrip k x).barData = s.barData ∧ (s.setTrip k x).readHi = s.readHi ∧ (s.setTrip k x).chans = s.chans ∧ (s.setTrip k x).bridges = s.bridges ∧ (s.setTrip k x).slots = s.slots ∧ (s.setTrip k x).fols = s.fols ∧ (s.setTrip k x).stopAt = s.stopAt ∧ (s.setTrip k x).folMiss = s.folMiss ∧ (s.setTrip k x).switching = s.switching ∧ (s.setTrip k x).holdSpan = s.holdSpan ∧ (s.setTrip k x).padHold = s.padHold ∧ (s.setTrip k x).pinStill = s.pinStill ∧ (s.setTrip k x).launched = s.launched ∧ (s.setTrip k x).clockStop = s.clockStop ∧ (s.setTrip k x).stays = s.stays ∧ (s.setTrip k x).pinIn = s.pinIn ∧ (s.setTrip k x).unsensed = s.unsensed ∧ (s.setTrip k x).lines = s.lines ∧ (s.setTrip k x).edges = s.edges ∧ (s.setTrip k x).doms = s.doms ∧ (s.setTrip k x).entries = s.entries ∧ (s.setTrip k x).calAnswer = s.calAnswer ∧ (s.setTrip k x).calTurn = s.calTurn ∧ (s.setTrip k x).calIssue = s.calIssue ∧ (s.setTrip k x).offers = s.offers ∧ (s.setTrip k x).lastEv = s.lastEv ∧ (s.setTrip k x).afterMark = s.afterMark ∧ (s.setTrip k x).dropping = s.dropping ∧ (s.setTrip k x).logQ = s.logQ ∧ (s.setTrip k x).sigs = s.sigs ∧ (s.setTrip k x).logRecs = s.logRecs ∧ (s.setTrip k x).logLast = s.logLast ∧ (s.setTrip k x).markAt = s.markAt ∧ (s.setTrip k x).markSeq = s.markSeq ∧ (s.setTrip k x).sampler = s.sampler ∧ (s.setTrip k x).portX = s.portX ∧ (s.setTrip k x).gpr = s.gpr ∧ (s.setTrip k x).ctxs = s.ctxs ∧ (s.setTrip k x).lastIssue = s.lastIssue ∧ (s.setTrip k x).cycleAt = s.cycleAt ∧ (s.setTrip k x).govFine = s.govFine ∧ (s.setTrip k x).govRem = s.govRem ∧ (s.setTrip k x).admits = s.admits ∧ (s.setTrip k x).unsettled = s.unsettled ∧ (s.setTrip k x).settledAt = s.settledAt ∧ (s.setTrip k x).drawNow = s.drawNow ∧ (s.setTrip k x).drawPast = s.drawPast ∧ (s.setTrip k x).busyAt = s.busyAt ∧ (s.setTrip k x).courseAt = s.courseAt ∧ (s.setTrip k x).idleOff = s.idleOff ∧ (s.setTrip k x).sensors = s.sensors ∧ (s.setTrip k x).pwrReq = s.pwrReq ∧ (s.setTrip k x).waking = s.waking ∧ (s.setTrip k x).scrubPos = s.scrubPos ∧ (s.setTrip k x).passCorr = s.passCorr ∧ (s.setTrip k x).lockTimes = s.lockTimes ∧ (s.setTrip k x).startWait = s.startWait ∧ (s.setTrip k x).feedAt = s.feedAt ∧ (s.setTrip k x).clrStrat = s.clrStrat ∧ (s.setTrip k x).imageDigest = s.imageDigest ∧ (s.setTrip k x).flashUp = s.flashUp ∧ (s.setTrip k x).flashQuad = s.flashQuad ∧ (s.setTrip k x).epUp = s.epUp ∧ (s.setTrip k x).subsys = s.subsys ∧ (s.setTrip k x).aoAt = s.aoAt ∧ (s.setTrip k x).dmas = s.dmas ∧ (s.setTrip k x).dmaLast = s.dmaLast ∧ (s.setTrip k x).micro = s.micro ∧ (s.setTrip k x).dispatch = s.dispatch ∧ (s.setTrip k x).golden = s.golden ∧ (s.setTrip k x).goldenDispatch = s.goldenDispatch ∧ (s.setTrip k x).goldenLost = s.goldenLost ∧ (s.setTrip k x).patchEnd = s.patchEnd ∧ (s.setTrip k x).heldChecks = s.heldChecks ∧ (s.setTrip k x).repairs = s.repairs ∧ (s.setTrip k x).jtag = s.jtag ∧ (s.setTrip k x).boundary = s.boundary ∧ (s.setTrip k x).scanned = s.scanned ∧ (s.setTrip k x).scratch = s.scratch ∧ (s.setTrip k x).links = s.links ∧ (s.setTrip k x).routes = s.routes ∧ (s.setTrip k x).msgQ = s.msgQ ∧ (s.setTrip k x).parked = s.parked ∧ (s.setTrip k x).slew = s.slew ∧ (s.setTrip k x).coastAt = s.coastAt ∧ (s.setTrip k x).slockQ = s.slockQ ∧ (s.setTrip k x).fltTotal = s.fltTotal ∧ (s.setTrip k x).fltAcked = s.fltAcked ∧ (s.setTrip k x).paused = s.paused ∧ (s.setTrip k x).failed = s.failed ∧ (s.setTrip k x).spares = s.spares ∧ (s.setTrip k x).goAt = s.goAt ∧ (s.setTrip k x).takenBy = s.takenBy ∧ (s.setTrip k x).vecFirst = s.vecFirst ∧ (s.setTrip k x).goOld = s.goOld ∧ (s.setTrip k x).doneAt = s.doneAt ∧ (s.setTrip k x).msixOn = s.msixOn ∧ (s.setTrip k x).msixMask = s.msixMask ∧ (s.setTrip k x).hostLink = s.hostLink ∧ (s.setTrip k x).d3hot = s.d3hot ∧ (s.setTrip k x).wakePin = s.wakePin ∧ (s.setTrip k x).replies = s.replies ∧ (s.setTrip k x).longOps = s.longOps ∧ (s.setTrip k x).longNext = s.longNext ∧ (s.setTrip k x).mgmtResp = s.mgmtResp ∧ (s.setTrip k x).mgmtOut = s.mgmtOut ∧ (s.setTrip k x).taskMem = s.taskMem ∧ (s.setTrip k x).badTm = s.badTm ∧ (s.setTrip k x).badScript = s.badScript ∧ (s.setTrip k x).logMem = s.logMem ∧ (s.setTrip k x).hostMem = s.hostMem ∧ (s.setTrip k x).freeCtr = s.freeCtr ∧ (s.setTrip k x).pending = s.pending := by
  refine ⟨rfl, rfl, rfl, rfl, rfl, rfl, rfl, rfl, rfl, rfl, rfl, rfl, rfl, rfl, rfl, rfl, rfl, rfl, rfl, rfl, rfl, rfl, rfl, rfl, rfl, rfl, rfl, rfl, rfl, rfl, rfl, rfl, rfl, rfl, rfl, rfl, rfl, rfl, rfl, rfl, rfl, rfl, rfl, rfl, rfl, rfl, rfl, rfl, rfl, rfl, rfl, rfl, rfl, rfl, rfl, rfl, rfl, rfl, rfl, rfl, rfl, rfl, rfl, rfl, rfl, rfl, rfl, rfl, rfl, rfl, rfl, rfl, rfl, rfl, rfl, rfl, rfl, rfl, rfl, rfl, rfl, rfl, rfl, rfl, rfl, rfl, rfl, rfl, rfl, rfl, rfl, rfl, rfl, rfl, rfl, rfl, rfl, rfl, rfl, rfl, rfl, rfl, rfl, rfl, rfl, rfl, rfl, rfl, rfl, rfl, rfl, rfl, rfl, rfl, rfl, rfl, rfl, rfl, rfl, rfl, rfl, rfl, rfl, rfl, rfl, rfl⟩
theorem State.setTrip_part (s : State) (k : Nat) (x : TripIn) (a : Area) (h : a ≠ .tile) : (s.setTrip k x).part a = s.part a := by
  cases a <;> first | rfl | exact absurd rfl h

@[simp] theorem State.setSlotX_fields (s : State) (k : Nat) (x : SlotX) :
    (s.setSlotX k x).variant = s.variant ∧ (s.setSlotX k x).ownerKey = s.ownerKey ∧ (s.setSlotX k x).ownerSign = s.ownerSign ∧ (s.setSlotX k x).now = s.now ∧ (s.setSlotX k x).aoRem = s.aoRem ∧ (s.setSlotX k x).copies = s.copies ∧ (s.setSlotX k x).beacon = s.beacon ∧ (s.setSlotX k x).trimmed = s.trimmed ∧ (s.setSlotX k x).stray = s.stray ∧ (s.setSlotX k x).aoEntry = s.aoEntry ∧ (s.setSlotX k x).regs = s.regs ∧ (s.setSlotX k x).latch = s.latch ∧ (s.setSlotX k x).lastRead = s.lastRead ∧ (s.setSlotX k x).barData = s.barData ∧ (s.setSlotX k x).readHi = s.readHi ∧ (s.setSlotX k x).chans = s.chans ∧ (s.setSlotX k x).bridges = s.bridges ∧ (s.setSlotX k x).trips = s.trips ∧ (s.setSlotX k x).fols = s.fols ∧ (s.setSlotX k x).stopAt = s.stopAt ∧ (s.setSlotX k x).folMiss = s.folMiss ∧ (s.setSlotX k x).switching = s.switching ∧ (s.setSlotX k x).holdSpan = s.holdSpan ∧ (s.setSlotX k x).padHold = s.padHold ∧ (s.setSlotX k x).pinStill = s.pinStill ∧ (s.setSlotX k x).launched = s.launched ∧ (s.setSlotX k x).clockStop = s.clockStop ∧ (s.setSlotX k x).stays = s.stays ∧ (s.setSlotX k x).pinIn = s.pinIn ∧ (s.setSlotX k x).unsensed = s.unsensed ∧ (s.setSlotX k x).lines = s.lines ∧ (s.setSlotX k x).edges = s.edges ∧ (s.setSlotX k x).doms = s.doms ∧ (s.setSlotX k x).entries = s.entries ∧ (s.setSlotX k x).calAnswer = s.calAnswer ∧ (s.setSlotX k x).calTurn = s.calTurn ∧ (s.setSlotX k x).calIssue = s.calIssue ∧ (s.setSlotX k x).offers = s.offers ∧ (s.setSlotX k x).lastEv = s.lastEv ∧ (s.setSlotX k x).afterMark = s.afterMark ∧ (s.setSlotX k x).dropping = s.dropping ∧ (s.setSlotX k x).logQ = s.logQ ∧ (s.setSlotX k x).sigs = s.sigs ∧ (s.setSlotX k x).logRecs = s.logRecs ∧ (s.setSlotX k x).logLast = s.logLast ∧ (s.setSlotX k x).markAt = s.markAt ∧ (s.setSlotX k x).markSeq = s.markSeq ∧ (s.setSlotX k x).sampler = s.sampler ∧ (s.setSlotX k x).portX = s.portX ∧ (s.setSlotX k x).gpr = s.gpr ∧ (s.setSlotX k x).ctxs = s.ctxs ∧ (s.setSlotX k x).lastIssue = s.lastIssue ∧ (s.setSlotX k x).cycleAt = s.cycleAt ∧ (s.setSlotX k x).govFine = s.govFine ∧ (s.setSlotX k x).govRem = s.govRem ∧ (s.setSlotX k x).admits = s.admits ∧ (s.setSlotX k x).unsettled = s.unsettled ∧ (s.setSlotX k x).settledAt = s.settledAt ∧ (s.setSlotX k x).drawNow = s.drawNow ∧ (s.setSlotX k x).drawPast = s.drawPast ∧ (s.setSlotX k x).busyAt = s.busyAt ∧ (s.setSlotX k x).courseAt = s.courseAt ∧ (s.setSlotX k x).idleOff = s.idleOff ∧ (s.setSlotX k x).sensors = s.sensors ∧ (s.setSlotX k x).pwrReq = s.pwrReq ∧ (s.setSlotX k x).waking = s.waking ∧ (s.setSlotX k x).scrubPos = s.scrubPos ∧ (s.setSlotX k x).passCorr = s.passCorr ∧ (s.setSlotX k x).lockTimes = s.lockTimes ∧ (s.setSlotX k x).startWait = s.startWait ∧ (s.setSlotX k x).feedAt = s.feedAt ∧ (s.setSlotX k x).clrStrat = s.clrStrat ∧ (s.setSlotX k x).imageDigest = s.imageDigest ∧ (s.setSlotX k x).flashUp = s.flashUp ∧ (s.setSlotX k x).flashQuad = s.flashQuad ∧ (s.setSlotX k x).epUp = s.epUp ∧ (s.setSlotX k x).subsys = s.subsys ∧ (s.setSlotX k x).aoAt = s.aoAt ∧ (s.setSlotX k x).dmas = s.dmas ∧ (s.setSlotX k x).dmaLast = s.dmaLast ∧ (s.setSlotX k x).micro = s.micro ∧ (s.setSlotX k x).dispatch = s.dispatch ∧ (s.setSlotX k x).golden = s.golden ∧ (s.setSlotX k x).goldenDispatch = s.goldenDispatch ∧ (s.setSlotX k x).goldenLost = s.goldenLost ∧ (s.setSlotX k x).patchEnd = s.patchEnd ∧ (s.setSlotX k x).heldChecks = s.heldChecks ∧ (s.setSlotX k x).repairs = s.repairs ∧ (s.setSlotX k x).jtag = s.jtag ∧ (s.setSlotX k x).boundary = s.boundary ∧ (s.setSlotX k x).scanned = s.scanned ∧ (s.setSlotX k x).scratch = s.scratch ∧ (s.setSlotX k x).links = s.links ∧ (s.setSlotX k x).routes = s.routes ∧ (s.setSlotX k x).msgQ = s.msgQ ∧ (s.setSlotX k x).parked = s.parked ∧ (s.setSlotX k x).slew = s.slew ∧ (s.setSlotX k x).coastAt = s.coastAt ∧ (s.setSlotX k x).slockQ = s.slockQ ∧ (s.setSlotX k x).fltTotal = s.fltTotal ∧ (s.setSlotX k x).fltAcked = s.fltAcked ∧ (s.setSlotX k x).paused = s.paused ∧ (s.setSlotX k x).failed = s.failed ∧ (s.setSlotX k x).spares = s.spares ∧ (s.setSlotX k x).goAt = s.goAt ∧ (s.setSlotX k x).takenBy = s.takenBy ∧ (s.setSlotX k x).vecFirst = s.vecFirst ∧ (s.setSlotX k x).goOld = s.goOld ∧ (s.setSlotX k x).doneAt = s.doneAt ∧ (s.setSlotX k x).msixOn = s.msixOn ∧ (s.setSlotX k x).msixMask = s.msixMask ∧ (s.setSlotX k x).hostLink = s.hostLink ∧ (s.setSlotX k x).d3hot = s.d3hot ∧ (s.setSlotX k x).wakePin = s.wakePin ∧ (s.setSlotX k x).replies = s.replies ∧ (s.setSlotX k x).longOps = s.longOps ∧ (s.setSlotX k x).longNext = s.longNext ∧ (s.setSlotX k x).mgmtResp = s.mgmtResp ∧ (s.setSlotX k x).mgmtOut = s.mgmtOut ∧ (s.setSlotX k x).taskMem = s.taskMem ∧ (s.setSlotX k x).badTm = s.badTm ∧ (s.setSlotX k x).badScript = s.badScript ∧ (s.setSlotX k x).logMem = s.logMem ∧ (s.setSlotX k x).hostMem = s.hostMem ∧ (s.setSlotX k x).freeCtr = s.freeCtr ∧ (s.setSlotX k x).pending = s.pending := by
  refine ⟨rfl, rfl, rfl, rfl, rfl, rfl, rfl, rfl, rfl, rfl, rfl, rfl, rfl, rfl, rfl, rfl, rfl, rfl, rfl, rfl, rfl, rfl, rfl, rfl, rfl, rfl, rfl, rfl, rfl, rfl, rfl, rfl, rfl, rfl, rfl, rfl, rfl, rfl, rfl, rfl, rfl, rfl, rfl, rfl, rfl, rfl, rfl, rfl, rfl, rfl, rfl, rfl, rfl, rfl, rfl, rfl, rfl, rfl, rfl, rfl, rfl, rfl, rfl, rfl, rfl, rfl, rfl, rfl, rfl, rfl, rfl, rfl, rfl, rfl, rfl, rfl, rfl, rfl, rfl, rfl, rfl, rfl, rfl, rfl, rfl, rfl, rfl, rfl, rfl, rfl, rfl, rfl, rfl, rfl, rfl, rfl, rfl, rfl, rfl, rfl, rfl, rfl, rfl, rfl, rfl, rfl, rfl, rfl, rfl, rfl, rfl, rfl, rfl, rfl, rfl, rfl, rfl, rfl, rfl, rfl, rfl, rfl, rfl, rfl, rfl, rfl⟩
theorem State.setSlotX_part (s : State) (k : Nat) (x : SlotX) (a : Area) (h : a ≠ .tile) : (s.setSlotX k x).part a = s.part a := by
  cases a <;> first | rfl | exact absurd rfl h

@[simp] theorem State.setFol_fields (s : State) (k : Nat) (x : Traj) :
    (s.setFol k x).variant = s.variant ∧ (s.setFol k x).ownerKey = s.ownerKey ∧ (s.setFol k x).ownerSign = s.ownerSign ∧ (s.setFol k x).now = s.now ∧ (s.setFol k x).aoRem = s.aoRem ∧ (s.setFol k x).copies = s.copies ∧ (s.setFol k x).beacon = s.beacon ∧ (s.setFol k x).trimmed = s.trimmed ∧ (s.setFol k x).stray = s.stray ∧ (s.setFol k x).aoEntry = s.aoEntry ∧ (s.setFol k x).regs = s.regs ∧ (s.setFol k x).latch = s.latch ∧ (s.setFol k x).lastRead = s.lastRead ∧ (s.setFol k x).barData = s.barData ∧ (s.setFol k x).readHi = s.readHi ∧ (s.setFol k x).chans = s.chans ∧ (s.setFol k x).bridges = s.bridges ∧ (s.setFol k x).trips = s.trips ∧ (s.setFol k x).slots = s.slots ∧ (s.setFol k x).stopAt = s.stopAt ∧ (s.setFol k x).folMiss = s.folMiss ∧ (s.setFol k x).switching = s.switching ∧ (s.setFol k x).holdSpan = s.holdSpan ∧ (s.setFol k x).padHold = s.padHold ∧ (s.setFol k x).pinStill = s.pinStill ∧ (s.setFol k x).launched = s.launched ∧ (s.setFol k x).clockStop = s.clockStop ∧ (s.setFol k x).stays = s.stays ∧ (s.setFol k x).pinIn = s.pinIn ∧ (s.setFol k x).unsensed = s.unsensed ∧ (s.setFol k x).lines = s.lines ∧ (s.setFol k x).edges = s.edges ∧ (s.setFol k x).doms = s.doms ∧ (s.setFol k x).entries = s.entries ∧ (s.setFol k x).calAnswer = s.calAnswer ∧ (s.setFol k x).calTurn = s.calTurn ∧ (s.setFol k x).calIssue = s.calIssue ∧ (s.setFol k x).offers = s.offers ∧ (s.setFol k x).lastEv = s.lastEv ∧ (s.setFol k x).afterMark = s.afterMark ∧ (s.setFol k x).dropping = s.dropping ∧ (s.setFol k x).logQ = s.logQ ∧ (s.setFol k x).sigs = s.sigs ∧ (s.setFol k x).logRecs = s.logRecs ∧ (s.setFol k x).logLast = s.logLast ∧ (s.setFol k x).markAt = s.markAt ∧ (s.setFol k x).markSeq = s.markSeq ∧ (s.setFol k x).sampler = s.sampler ∧ (s.setFol k x).portX = s.portX ∧ (s.setFol k x).gpr = s.gpr ∧ (s.setFol k x).ctxs = s.ctxs ∧ (s.setFol k x).lastIssue = s.lastIssue ∧ (s.setFol k x).cycleAt = s.cycleAt ∧ (s.setFol k x).govFine = s.govFine ∧ (s.setFol k x).govRem = s.govRem ∧ (s.setFol k x).admits = s.admits ∧ (s.setFol k x).unsettled = s.unsettled ∧ (s.setFol k x).settledAt = s.settledAt ∧ (s.setFol k x).drawNow = s.drawNow ∧ (s.setFol k x).drawPast = s.drawPast ∧ (s.setFol k x).busyAt = s.busyAt ∧ (s.setFol k x).courseAt = s.courseAt ∧ (s.setFol k x).idleOff = s.idleOff ∧ (s.setFol k x).sensors = s.sensors ∧ (s.setFol k x).pwrReq = s.pwrReq ∧ (s.setFol k x).waking = s.waking ∧ (s.setFol k x).scrubPos = s.scrubPos ∧ (s.setFol k x).passCorr = s.passCorr ∧ (s.setFol k x).lockTimes = s.lockTimes ∧ (s.setFol k x).startWait = s.startWait ∧ (s.setFol k x).feedAt = s.feedAt ∧ (s.setFol k x).clrStrat = s.clrStrat ∧ (s.setFol k x).imageDigest = s.imageDigest ∧ (s.setFol k x).flashUp = s.flashUp ∧ (s.setFol k x).flashQuad = s.flashQuad ∧ (s.setFol k x).epUp = s.epUp ∧ (s.setFol k x).subsys = s.subsys ∧ (s.setFol k x).aoAt = s.aoAt ∧ (s.setFol k x).dmas = s.dmas ∧ (s.setFol k x).dmaLast = s.dmaLast ∧ (s.setFol k x).micro = s.micro ∧ (s.setFol k x).dispatch = s.dispatch ∧ (s.setFol k x).golden = s.golden ∧ (s.setFol k x).goldenDispatch = s.goldenDispatch ∧ (s.setFol k x).goldenLost = s.goldenLost ∧ (s.setFol k x).patchEnd = s.patchEnd ∧ (s.setFol k x).heldChecks = s.heldChecks ∧ (s.setFol k x).repairs = s.repairs ∧ (s.setFol k x).jtag = s.jtag ∧ (s.setFol k x).boundary = s.boundary ∧ (s.setFol k x).scanned = s.scanned ∧ (s.setFol k x).scratch = s.scratch ∧ (s.setFol k x).links = s.links ∧ (s.setFol k x).routes = s.routes ∧ (s.setFol k x).msgQ = s.msgQ ∧ (s.setFol k x).parked = s.parked ∧ (s.setFol k x).slew = s.slew ∧ (s.setFol k x).coastAt = s.coastAt ∧ (s.setFol k x).slockQ = s.slockQ ∧ (s.setFol k x).fltTotal = s.fltTotal ∧ (s.setFol k x).fltAcked = s.fltAcked ∧ (s.setFol k x).paused = s.paused ∧ (s.setFol k x).failed = s.failed ∧ (s.setFol k x).spares = s.spares ∧ (s.setFol k x).goAt = s.goAt ∧ (s.setFol k x).takenBy = s.takenBy ∧ (s.setFol k x).vecFirst = s.vecFirst ∧ (s.setFol k x).goOld = s.goOld ∧ (s.setFol k x).doneAt = s.doneAt ∧ (s.setFol k x).msixOn = s.msixOn ∧ (s.setFol k x).msixMask = s.msixMask ∧ (s.setFol k x).hostLink = s.hostLink ∧ (s.setFol k x).d3hot = s.d3hot ∧ (s.setFol k x).wakePin = s.wakePin ∧ (s.setFol k x).replies = s.replies ∧ (s.setFol k x).longOps = s.longOps ∧ (s.setFol k x).longNext = s.longNext ∧ (s.setFol k x).mgmtResp = s.mgmtResp ∧ (s.setFol k x).mgmtOut = s.mgmtOut ∧ (s.setFol k x).taskMem = s.taskMem ∧ (s.setFol k x).badTm = s.badTm ∧ (s.setFol k x).badScript = s.badScript ∧ (s.setFol k x).logMem = s.logMem ∧ (s.setFol k x).hostMem = s.hostMem ∧ (s.setFol k x).freeCtr = s.freeCtr ∧ (s.setFol k x).pending = s.pending := by
  refine ⟨rfl, rfl, rfl, rfl, rfl, rfl, rfl, rfl, rfl, rfl, rfl, rfl, rfl, rfl, rfl, rfl, rfl, rfl, rfl, rfl, rfl, rfl, rfl, rfl, rfl, rfl, rfl, rfl, rfl, rfl, rfl, rfl, rfl, rfl, rfl, rfl, rfl, rfl, rfl, rfl, rfl, rfl, rfl, rfl, rfl, rfl, rfl, rfl, rfl, rfl, rfl, rfl, rfl, rfl, rfl, rfl, rfl, rfl, rfl, rfl, rfl, rfl, rfl, rfl, rfl, rfl, rfl, rfl, rfl, rfl, rfl, rfl, rfl, rfl, rfl, rfl, rfl, rfl, rfl, rfl, rfl, rfl, rfl, rfl, rfl, rfl, rfl, rfl, rfl, rfl, rfl, rfl, rfl, rfl, rfl, rfl, rfl, rfl, rfl, rfl, rfl, rfl, rfl, rfl, rfl, rfl, rfl, rfl, rfl, rfl, rfl, rfl, rfl, rfl, rfl, rfl, rfl, rfl, rfl, rfl, rfl, rfl, rfl, rfl, rfl, rfl⟩
theorem State.setFol_part (s : State) (k : Nat) (x : Traj) (a : Area) (h : a ≠ .tile) : (s.setFol k x).part a = s.part a := by
  cases a <;> first | rfl | exact absurd rfl h

@[simp] theorem State.setDom_fields (s : State) (d : Nat) (x : Dom) :
    (s.setDom d x).variant = s.variant ∧ (s.setDom d x).ownerKey = s.ownerKey ∧ (s.setDom d x).ownerSign = s.ownerSign ∧ (s.setDom d x).now = s.now ∧ (s.setDom d x).aoRem = s.aoRem ∧ (s.setDom d x).copies = s.copies ∧ (s.setDom d x).beacon = s.beacon ∧ (s.setDom d x).trimmed = s.trimmed ∧ (s.setDom d x).stray = s.stray ∧ (s.setDom d x).aoEntry = s.aoEntry ∧ (s.setDom d x).regs = s.regs ∧ (s.setDom d x).latch = s.latch ∧ (s.setDom d x).lastRead = s.lastRead ∧ (s.setDom d x).barData = s.barData ∧ (s.setDom d x).readHi = s.readHi ∧ (s.setDom d x).chans = s.chans ∧ (s.setDom d x).bridges = s.bridges ∧ (s.setDom d x).trips = s.trips ∧ (s.setDom d x).slots = s.slots ∧ (s.setDom d x).fols = s.fols ∧ (s.setDom d x).stopAt = s.stopAt ∧ (s.setDom d x).folMiss = s.folMiss ∧ (s.setDom d x).switching = s.switching ∧ (s.setDom d x).holdSpan = s.holdSpan ∧ (s.setDom d x).padHold = s.padHold ∧ (s.setDom d x).pinStill = s.pinStill ∧ (s.setDom d x).launched = s.launched ∧ (s.setDom d x).clockStop = s.clockStop ∧ (s.setDom d x).stays = s.stays ∧ (s.setDom d x).pinIn = s.pinIn ∧ (s.setDom d x).unsensed = s.unsensed ∧ (s.setDom d x).lines = s.lines ∧ (s.setDom d x).edges = s.edges ∧ (s.setDom d x).entries = s.entries ∧ (s.setDom d x).calAnswer = s.calAnswer ∧ (s.setDom d x).calTurn = s.calTurn ∧ (s.setDom d x).calIssue = s.calIssue ∧ (s.setDom d x).offers = s.offers ∧ (s.setDom d x).lastEv = s.lastEv ∧ (s.setDom d x).afterMark = s.afterMark ∧ (s.setDom d x).dropping = s.dropping ∧ (s.setDom d x).logQ = s.logQ ∧ (s.setDom d x).sigs = s.sigs ∧ (s.setDom d x).logRecs = s.logRecs ∧ (s.setDom d x).logLast = s.logLast ∧ (s.setDom d x).markAt = s.markAt ∧ (s.setDom d x).markSeq = s.markSeq ∧ (s.setDom d x).sampler = s.sampler ∧ (s.setDom d x).portX = s.portX ∧ (s.setDom d x).gpr = s.gpr ∧ (s.setDom d x).ctxs = s.ctxs ∧ (s.setDom d x).lastIssue = s.lastIssue ∧ (s.setDom d x).cycleAt = s.cycleAt ∧ (s.setDom d x).govFine = s.govFine ∧ (s.setDom d x).govRem = s.govRem ∧ (s.setDom d x).admits = s.admits ∧ (s.setDom d x).unsettled = s.unsettled ∧ (s.setDom d x).settledAt = s.settledAt ∧ (s.setDom d x).drawNow = s.drawNow ∧ (s.setDom d x).drawPast = s.drawPast ∧ (s.setDom d x).busyAt = s.busyAt ∧ (s.setDom d x).courseAt = s.courseAt ∧ (s.setDom d x).idleOff = s.idleOff ∧ (s.setDom d x).sensors = s.sensors ∧ (s.setDom d x).pwrReq = s.pwrReq ∧ (s.setDom d x).waking = s.waking ∧ (s.setDom d x).scrubPos = s.scrubPos ∧ (s.setDom d x).passCorr = s.passCorr ∧ (s.setDom d x).lockTimes = s.lockTimes ∧ (s.setDom d x).startWait = s.startWait ∧ (s.setDom d x).feedAt = s.feedAt ∧ (s.setDom d x).clrStrat = s.clrStrat ∧ (s.setDom d x).imageDigest = s.imageDigest ∧ (s.setDom d x).flashUp = s.flashUp ∧ (s.setDom d x).flashQuad = s.flashQuad ∧ (s.setDom d x).epUp = s.epUp ∧ (s.setDom d x).subsys = s.subsys ∧ (s.setDom d x).aoAt = s.aoAt ∧ (s.setDom d x).dmas = s.dmas ∧ (s.setDom d x).dmaLast = s.dmaLast ∧ (s.setDom d x).micro = s.micro ∧ (s.setDom d x).dispatch = s.dispatch ∧ (s.setDom d x).golden = s.golden ∧ (s.setDom d x).goldenDispatch = s.goldenDispatch ∧ (s.setDom d x).goldenLost = s.goldenLost ∧ (s.setDom d x).patchEnd = s.patchEnd ∧ (s.setDom d x).heldChecks = s.heldChecks ∧ (s.setDom d x).repairs = s.repairs ∧ (s.setDom d x).jtag = s.jtag ∧ (s.setDom d x).boundary = s.boundary ∧ (s.setDom d x).scanned = s.scanned ∧ (s.setDom d x).scratch = s.scratch ∧ (s.setDom d x).links = s.links ∧ (s.setDom d x).routes = s.routes ∧ (s.setDom d x).msgQ = s.msgQ ∧ (s.setDom d x).parked = s.parked ∧ (s.setDom d x).slew = s.slew ∧ (s.setDom d x).coastAt = s.coastAt ∧ (s.setDom d x).slockQ = s.slockQ ∧ (s.setDom d x).fltTotal = s.fltTotal ∧ (s.setDom d x).fltAcked = s.fltAcked ∧ (s.setDom d x).paused = s.paused ∧ (s.setDom d x).failed = s.failed ∧ (s.setDom d x).spares = s.spares ∧ (s.setDom d x).goAt = s.goAt ∧ (s.setDom d x).takenBy = s.takenBy ∧ (s.setDom d x).vecFirst = s.vecFirst ∧ (s.setDom d x).goOld = s.goOld ∧ (s.setDom d x).doneAt = s.doneAt ∧ (s.setDom d x).msixOn = s.msixOn ∧ (s.setDom d x).msixMask = s.msixMask ∧ (s.setDom d x).hostLink = s.hostLink ∧ (s.setDom d x).d3hot = s.d3hot ∧ (s.setDom d x).wakePin = s.wakePin ∧ (s.setDom d x).replies = s.replies ∧ (s.setDom d x).longOps = s.longOps ∧ (s.setDom d x).longNext = s.longNext ∧ (s.setDom d x).mgmtResp = s.mgmtResp ∧ (s.setDom d x).mgmtOut = s.mgmtOut ∧ (s.setDom d x).taskMem = s.taskMem ∧ (s.setDom d x).badTm = s.badTm ∧ (s.setDom d x).badScript = s.badScript ∧ (s.setDom d x).logMem = s.logMem ∧ (s.setDom d x).hostMem = s.hostMem ∧ (s.setDom d x).freeCtr = s.freeCtr ∧ (s.setDom d x).pending = s.pending := by
  refine ⟨rfl, rfl, rfl, rfl, rfl, rfl, rfl, rfl, rfl, rfl, rfl, rfl, rfl, rfl, rfl, rfl, rfl, rfl, rfl, rfl, rfl, rfl, rfl, rfl, rfl, rfl, rfl, rfl, rfl, rfl, rfl, rfl, rfl, rfl, rfl, rfl, rfl, rfl, rfl, rfl, rfl, rfl, rfl, rfl, rfl, rfl, rfl, rfl, rfl, rfl, rfl, rfl, rfl, rfl, rfl, rfl, rfl, rfl, rfl, rfl, rfl, rfl, rfl, rfl, rfl, rfl, rfl, rfl, rfl, rfl, rfl, rfl, rfl, rfl, rfl, rfl, rfl, rfl, rfl, rfl, rfl, rfl, rfl, rfl, rfl, rfl, rfl, rfl, rfl, rfl, rfl, rfl, rfl, rfl, rfl, rfl, rfl, rfl, rfl, rfl, rfl, rfl, rfl, rfl, rfl, rfl, rfl, rfl, rfl, rfl, rfl, rfl, rfl, rfl, rfl, rfl, rfl, rfl, rfl, rfl, rfl, rfl, rfl, rfl, rfl, rfl⟩
theorem State.setDom_part (s : State) (d : Nat) (x : Dom) (a : Area) (h : a ≠ .dom) : (s.setDom d x).part a = s.part a := by
  cases a <;> first | rfl | exact absurd rfl h

@[simp] theorem State.setEntry_fields (s : State) (e : Nat) (x : Entry) :
    (s.setEntry e x).variant = s.variant ∧ (s.setEntry e x).ownerKey = s.ownerKey ∧ (s.setEntry e x).ownerSign = s.ownerSign ∧ (s.setEntry e x).now = s.now ∧ (s.setEntry e x).aoRem = s.aoRem ∧ (s.setEntry e x).copies = s.copies ∧ (s.setEntry e x).beacon = s.beacon ∧ (s.setEntry e x).trimmed = s.trimmed ∧ (s.setEntry e x).stray = s.stray ∧ (s.setEntry e x).aoEntry = s.aoEntry ∧ (s.setEntry e x).regs = s.regs ∧ (s.setEntry e x).latch = s.latch ∧ (s.setEntry e x).lastRead = s.lastRead ∧ (s.setEntry e x).barData = s.barData ∧ (s.setEntry e x).readHi = s.readHi ∧ (s.setEntry e x).chans = s.chans ∧ (s.setEntry e x).bridges = s.bridges ∧ (s.setEntry e x).trips = s.trips ∧ (s.setEntry e x).slots = s.slots ∧ (s.setEntry e x).fols = s.fols ∧ (s.setEntry e x).stopAt = s.stopAt ∧ (s.setEntry e x).folMiss = s.folMiss ∧ (s.setEntry e x).switching = s.switching ∧ (s.setEntry e x).holdSpan = s.holdSpan ∧ (s.setEntry e x).padHold = s.padHold ∧ (s.setEntry e x).pinStill = s.pinStill ∧ (s.setEntry e x).launched = s.launched ∧ (s.setEntry e x).clockStop = s.clockStop ∧ (s.setEntry e x).stays = s.stays ∧ (s.setEntry e x).pinIn = s.pinIn ∧ (s.setEntry e x).unsensed = s.unsensed ∧ (s.setEntry e x).lines = s.lines ∧ (s.setEntry e x).edges = s.edges ∧ (s.setEntry e x).doms = s.doms ∧ (s.setEntry e x).calAnswer = s.calAnswer ∧ (s.setEntry e x).calTurn = s.calTurn ∧ (s.setEntry e x).calIssue = s.calIssue ∧ (s.setEntry e x).offers = s.offers ∧ (s.setEntry e x).lastEv = s.lastEv ∧ (s.setEntry e x).afterMark = s.afterMark ∧ (s.setEntry e x).dropping = s.dropping ∧ (s.setEntry e x).logQ = s.logQ ∧ (s.setEntry e x).sigs = s.sigs ∧ (s.setEntry e x).logRecs = s.logRecs ∧ (s.setEntry e x).logLast = s.logLast ∧ (s.setEntry e x).markAt = s.markAt ∧ (s.setEntry e x).markSeq = s.markSeq ∧ (s.setEntry e x).sampler = s.sampler ∧ (s.setEntry e x).portX = s.portX ∧ (s.setEntry e x).gpr = s.gpr ∧ (s.setEntry e x).ctxs = s.ctxs ∧ (s.setEntry e x).lastIssue = s.lastIssue ∧ (s.setEntry e x).cycleAt = s.cycleAt ∧ (s.setEntry e x).govFine = s.govFine ∧ (s.setEntry e x).govRem = s.govRem ∧ (s.setEntry e x).admits = s.admits ∧ (s.setEntry e x).unsettled = s.unsettled ∧ (s.setEntry e x).settledAt = s.settledAt ∧ (s.setEntry e x).drawNow = s.drawNow ∧ (s.setEntry e x).drawPast = s.drawPast ∧ (s.setEntry e x).busyAt = s.busyAt ∧ (s.setEntry e x).courseAt = s.courseAt ∧ (s.setEntry e x).idleOff = s.idleOff ∧ (s.setEntry e x).sensors = s.sensors ∧ (s.setEntry e x).pwrReq = s.pwrReq ∧ (s.setEntry e x).waking = s.waking ∧ (s.setEntry e x).scrubPos = s.scrubPos ∧ (s.setEntry e x).passCorr = s.passCorr ∧ (s.setEntry e x).lockTimes = s.lockTimes ∧ (s.setEntry e x).startWait = s.startWait ∧ (s.setEntry e x).feedAt = s.feedAt ∧ (s.setEntry e x).clrStrat = s.clrStrat ∧ (s.setEntry e x).imageDigest = s.imageDigest ∧ (s.setEntry e x).flashUp = s.flashUp ∧ (s.setEntry e x).flashQuad = s.flashQuad ∧ (s.setEntry e x).epUp = s.epUp ∧ (s.setEntry e x).subsys = s.subsys ∧ (s.setEntry e x).aoAt = s.aoAt ∧ (s.setEntry e x).dmas = s.dmas ∧ (s.setEntry e x).dmaLast = s.dmaLast ∧ (s.setEntry e x).micro = s.micro ∧ (s.setEntry e x).dispatch = s.dispatch ∧ (s.setEntry e x).golden = s.golden ∧ (s.setEntry e x).goldenDispatch = s.goldenDispatch ∧ (s.setEntry e x).goldenLost = s.goldenLost ∧ (s.setEntry e x).patchEnd = s.patchEnd ∧ (s.setEntry e x).heldChecks = s.heldChecks ∧ (s.setEntry e x).repairs = s.repairs ∧ (s.setEntry e x).jtag = s.jtag ∧ (s.setEntry e x).boundary = s.boundary ∧ (s.setEntry e x).scanned = s.scanned ∧ (s.setEntry e x).scratch = s.scratch ∧ (s.setEntry e x).links = s.links ∧ (s.setEntry e x).routes = s.routes ∧ (s.setEntry e x).msgQ = s.msgQ ∧ (s.setEntry e x).parked = s.parked ∧ (s.setEntry e x).slew = s.slew ∧ (s.setEntry e x).coastAt = s.coastAt ∧ (s.setEntry e x).slockQ = s.slockQ ∧ (s.setEntry e x).fltTotal = s.fltTotal ∧ (s.setEntry e x).fltAcked = s.fltAcked ∧ (s.setEntry e x).paused = s.paused ∧ (s.setEntry e x).failed = s.failed ∧ (s.setEntry e x).spares = s.spares ∧ (s.setEntry e x).goAt = s.goAt ∧ (s.setEntry e x).takenBy = s.takenBy ∧ (s.setEntry e x).vecFirst = s.vecFirst ∧ (s.setEntry e x).goOld = s.goOld ∧ (s.setEntry e x).doneAt = s.doneAt ∧ (s.setEntry e x).msixOn = s.msixOn ∧ (s.setEntry e x).msixMask = s.msixMask ∧ (s.setEntry e x).hostLink = s.hostLink ∧ (s.setEntry e x).d3hot = s.d3hot ∧ (s.setEntry e x).wakePin = s.wakePin ∧ (s.setEntry e x).replies = s.replies ∧ (s.setEntry e x).longOps = s.longOps ∧ (s.setEntry e x).longNext = s.longNext ∧ (s.setEntry e x).mgmtResp = s.mgmtResp ∧ (s.setEntry e x).mgmtOut = s.mgmtOut ∧ (s.setEntry e x).taskMem = s.taskMem ∧ (s.setEntry e x).badTm = s.badTm ∧ (s.setEntry e x).badScript = s.badScript ∧ (s.setEntry e x).logMem = s.logMem ∧ (s.setEntry e x).hostMem = s.hostMem ∧ (s.setEntry e x).freeCtr = s.freeCtr ∧ (s.setEntry e x).pending = s.pending := by
  refine ⟨rfl, rfl, rfl, rfl, rfl, rfl, rfl, rfl, rfl, rfl, rfl, rfl, rfl, rfl, rfl, rfl, rfl, rfl, rfl, rfl, rfl, rfl, rfl, rfl, rfl, rfl, rfl, rfl, rfl, rfl, rfl, rfl, rfl, rfl, rfl, rfl, rfl, rfl, rfl, rfl, rfl, rfl, rfl, rfl, rfl, rfl, rfl, rfl, rfl, rfl, rfl, rfl, rfl, rfl, rfl, rfl, rfl, rfl, rfl, rfl, rfl, rfl, rfl, rfl, rfl, rfl, rfl, rfl, rfl, rfl, rfl, rfl, rfl, rfl, rfl, rfl, rfl, rfl, rfl, rfl, rfl, rfl, rfl, rfl, rfl, rfl, rfl, rfl, rfl, rfl, rfl, rfl, rfl, rfl, rfl, rfl, rfl, rfl, rfl, rfl, rfl, rfl, rfl, rfl, rfl, rfl, rfl, rfl, rfl, rfl, rfl, rfl, rfl, rfl, rfl, rfl, rfl, rfl, rfl, rfl, rfl, rfl, rfl, rfl, rfl, rfl⟩
theorem State.setEntry_part (s : State) (e : Nat) (x : Entry) (a : Area) (h : a ≠ .cal) : (s.setEntry e x).part a = s.part a := by
  cases a <;> first | rfl | exact absurd rfl h

@[simp] theorem State.setLatch_fields (s : State) (m : Nat) (w : Word) :
    (s.setLatch m w).variant = s.variant ∧ (s.setLatch m w).ownerKey = s.ownerKey ∧ (s.setLatch m w).ownerSign = s.ownerSign ∧ (s.setLatch m w).now = s.now ∧ (s.setLatch m w).aoRem = s.aoRem ∧ (s.setLatch m w).copies = s.copies ∧ (s.setLatch m w).beacon = s.beacon ∧ (s.setLatch m w).trimmed = s.trimmed ∧ (s.setLatch m w).stray = s.stray ∧ (s.setLatch m w).aoEntry = s.aoEntry ∧ (s.setLatch m w).regs = s.regs ∧ (s.setLatch m w).lastRead = s.lastRead ∧ (s.setLatch m w).barData = s.barData ∧ (s.setLatch m w).readHi = s.readHi ∧ (s.setLatch m w).chans = s.chans ∧ (s.setLatch m w).bridges = s.bridges ∧ (s.setLatch m w).trips = s.trips ∧ (s.setLatch m w).slots = s.slots ∧ (s.setLatch m w).fols = s.fols ∧ (s.setLatch m w).stopAt = s.stopAt ∧ (s.setLatch m w).folMiss = s.folMiss ∧ (s.setLatch m w).switching = s.switching ∧ (s.setLatch m w).holdSpan = s.holdSpan ∧ (s.setLatch m w).padHold = s.padHold ∧ (s.setLatch m w).pinStill = s.pinStill ∧ (s.setLatch m w).launched = s.launched ∧ (s.setLatch m w).clockStop = s.clockStop ∧ (s.setLatch m w).stays = s.stays ∧ (s.setLatch m w).pinIn = s.pinIn ∧ (s.setLatch m w).unsensed = s.unsensed ∧ (s.setLatch m w).lines = s.lines ∧ (s.setLatch m w).edges = s.edges ∧ (s.setLatch m w).doms = s.doms ∧ (s.setLatch m w).entries = s.entries ∧ (s.setLatch m w).calAnswer = s.calAnswer ∧ (s.setLatch m w).calTurn = s.calTurn ∧ (s.setLatch m w).calIssue = s.calIssue ∧ (s.setLatch m w).offers = s.offers ∧ (s.setLatch m w).lastEv = s.lastEv ∧ (s.setLatch m w).afterMark = s.afterMark ∧ (s.setLatch m w).dropping = s.dropping ∧ (s.setLatch m w).logQ = s.logQ ∧ (s.setLatch m w).sigs = s.sigs ∧ (s.setLatch m w).logRecs = s.logRecs ∧ (s.setLatch m w).logLast = s.logLast ∧ (s.setLatch m w).markAt = s.markAt ∧ (s.setLatch m w).markSeq = s.markSeq ∧ (s.setLatch m w).sampler = s.sampler ∧ (s.setLatch m w).portX = s.portX ∧ (s.setLatch m w).gpr = s.gpr ∧ (s.setLatch m w).ctxs = s.ctxs ∧ (s.setLatch m w).lastIssue = s.lastIssue ∧ (s.setLatch m w).cycleAt = s.cycleAt ∧ (s.setLatch m w).govFine = s.govFine ∧ (s.setLatch m w).govRem = s.govRem ∧ (s.setLatch m w).admits = s.admits ∧ (s.setLatch m w).unsettled = s.unsettled ∧ (s.setLatch m w).settledAt = s.settledAt ∧ (s.setLatch m w).drawNow = s.drawNow ∧ (s.setLatch m w).drawPast = s.drawPast ∧ (s.setLatch m w).busyAt = s.busyAt ∧ (s.setLatch m w).courseAt = s.courseAt ∧ (s.setLatch m w).idleOff = s.idleOff ∧ (s.setLatch m w).sensors = s.sensors ∧ (s.setLatch m w).pwrReq = s.pwrReq ∧ (s.setLatch m w).waking = s.waking ∧ (s.setLatch m w).scrubPos = s.scrubPos ∧ (s.setLatch m w).passCorr = s.passCorr ∧ (s.setLatch m w).lockTimes = s.lockTimes ∧ (s.setLatch m w).startWait = s.startWait ∧ (s.setLatch m w).feedAt = s.feedAt ∧ (s.setLatch m w).clrStrat = s.clrStrat ∧ (s.setLatch m w).imageDigest = s.imageDigest ∧ (s.setLatch m w).flashUp = s.flashUp ∧ (s.setLatch m w).flashQuad = s.flashQuad ∧ (s.setLatch m w).epUp = s.epUp ∧ (s.setLatch m w).subsys = s.subsys ∧ (s.setLatch m w).aoAt = s.aoAt ∧ (s.setLatch m w).dmas = s.dmas ∧ (s.setLatch m w).dmaLast = s.dmaLast ∧ (s.setLatch m w).micro = s.micro ∧ (s.setLatch m w).dispatch = s.dispatch ∧ (s.setLatch m w).golden = s.golden ∧ (s.setLatch m w).goldenDispatch = s.goldenDispatch ∧ (s.setLatch m w).goldenLost = s.goldenLost ∧ (s.setLatch m w).patchEnd = s.patchEnd ∧ (s.setLatch m w).heldChecks = s.heldChecks ∧ (s.setLatch m w).repairs = s.repairs ∧ (s.setLatch m w).jtag = s.jtag ∧ (s.setLatch m w).boundary = s.boundary ∧ (s.setLatch m w).scanned = s.scanned ∧ (s.setLatch m w).scratch = s.scratch ∧ (s.setLatch m w).links = s.links ∧ (s.setLatch m w).routes = s.routes ∧ (s.setLatch m w).msgQ = s.msgQ ∧ (s.setLatch m w).parked = s.parked ∧ (s.setLatch m w).slew = s.slew ∧ (s.setLatch m w).coastAt = s.coastAt ∧ (s.setLatch m w).slockQ = s.slockQ ∧ (s.setLatch m w).fltTotal = s.fltTotal ∧ (s.setLatch m w).fltAcked = s.fltAcked ∧ (s.setLatch m w).paused = s.paused ∧ (s.setLatch m w).failed = s.failed ∧ (s.setLatch m w).spares = s.spares ∧ (s.setLatch m w).goAt = s.goAt ∧ (s.setLatch m w).takenBy = s.takenBy ∧ (s.setLatch m w).vecFirst = s.vecFirst ∧ (s.setLatch m w).goOld = s.goOld ∧ (s.setLatch m w).doneAt = s.doneAt ∧ (s.setLatch m w).msixOn = s.msixOn ∧ (s.setLatch m w).msixMask = s.msixMask ∧ (s.setLatch m w).hostLink = s.hostLink ∧ (s.setLatch m w).d3hot = s.d3hot ∧ (s.setLatch m w).wakePin = s.wakePin ∧ (s.setLatch m w).replies = s.replies ∧ (s.setLatch m w).longOps = s.longOps ∧ (s.setLatch m w).longNext = s.longNext ∧ (s.setLatch m w).mgmtResp = s.mgmtResp ∧ (s.setLatch m w).mgmtOut = s.mgmtOut ∧ (s.setLatch m w).taskMem = s.taskMem ∧ (s.setLatch m w).badTm = s.badTm ∧ (s.setLatch m w).badScript = s.badScript ∧ (s.setLatch m w).logMem = s.logMem ∧ (s.setLatch m w).hostMem = s.hostMem ∧ (s.setLatch m w).freeCtr = s.freeCtr ∧ (s.setLatch m w).pending = s.pending := by
  refine ⟨rfl, rfl, rfl, rfl, rfl, rfl, rfl, rfl, rfl, rfl, rfl, rfl, rfl, rfl, rfl, rfl, rfl, rfl, rfl, rfl, rfl, rfl, rfl, rfl, rfl, rfl, rfl, rfl, rfl, rfl, rfl, rfl, rfl, rfl, rfl, rfl, rfl, rfl, rfl, rfl, rfl, rfl, rfl, rfl, rfl, rfl, rfl, rfl, rfl, rfl, rfl, rfl, rfl, rfl, rfl, rfl, rfl, rfl, rfl, rfl, rfl, rfl, rfl, rfl, rfl, rfl, rfl, rfl, rfl, rfl, rfl, rfl, rfl, rfl, rfl, rfl, rfl, rfl, rfl, rfl, rfl, rfl, rfl, rfl, rfl, rfl, rfl, rfl, rfl, rfl, rfl, rfl, rfl, rfl, rfl, rfl, rfl, rfl, rfl, rfl, rfl, rfl, rfl, rfl, rfl, rfl, rfl, rfl, rfl, rfl, rfl, rfl, rfl, rfl, rfl, rfl, rfl, rfl, rfl, rfl, rfl, rfl, rfl, rfl, rfl, rfl⟩
theorem State.setLatch_part (s : State) (m : Nat) (w : Word) (a : Area) (h : a ≠ .bus) : (s.setLatch m w).part a = s.part a := by
  cases a <;> first | rfl | exact absurd rfl h

@[simp] theorem State.setRead_fields (s : State) (m : Nat) (w : Word) :
    (s.setRead m w).variant = s.variant ∧ (s.setRead m w).ownerKey = s.ownerKey ∧ (s.setRead m w).ownerSign = s.ownerSign ∧ (s.setRead m w).now = s.now ∧ (s.setRead m w).aoRem = s.aoRem ∧ (s.setRead m w).copies = s.copies ∧ (s.setRead m w).beacon = s.beacon ∧ (s.setRead m w).trimmed = s.trimmed ∧ (s.setRead m w).stray = s.stray ∧ (s.setRead m w).aoEntry = s.aoEntry ∧ (s.setRead m w).regs = s.regs ∧ (s.setRead m w).latch = s.latch ∧ (s.setRead m w).barData = s.barData ∧ (s.setRead m w).readHi = s.readHi ∧ (s.setRead m w).chans = s.chans ∧ (s.setRead m w).bridges = s.bridges ∧ (s.setRead m w).trips = s.trips ∧ (s.setRead m w).slots = s.slots ∧ (s.setRead m w).fols = s.fols ∧ (s.setRead m w).stopAt = s.stopAt ∧ (s.setRead m w).folMiss = s.folMiss ∧ (s.setRead m w).switching = s.switching ∧ (s.setRead m w).holdSpan = s.holdSpan ∧ (s.setRead m w).padHold = s.padHold ∧ (s.setRead m w).pinStill = s.pinStill ∧ (s.setRead m w).launched = s.launched ∧ (s.setRead m w).clockStop = s.clockStop ∧ (s.setRead m w).stays = s.stays ∧ (s.setRead m w).pinIn = s.pinIn ∧ (s.setRead m w).unsensed = s.unsensed ∧ (s.setRead m w).lines = s.lines ∧ (s.setRead m w).edges = s.edges ∧ (s.setRead m w).doms = s.doms ∧ (s.setRead m w).entries = s.entries ∧ (s.setRead m w).calAnswer = s.calAnswer ∧ (s.setRead m w).calTurn = s.calTurn ∧ (s.setRead m w).calIssue = s.calIssue ∧ (s.setRead m w).offers = s.offers ∧ (s.setRead m w).lastEv = s.lastEv ∧ (s.setRead m w).afterMark = s.afterMark ∧ (s.setRead m w).dropping = s.dropping ∧ (s.setRead m w).logQ = s.logQ ∧ (s.setRead m w).sigs = s.sigs ∧ (s.setRead m w).logRecs = s.logRecs ∧ (s.setRead m w).logLast = s.logLast ∧ (s.setRead m w).markAt = s.markAt ∧ (s.setRead m w).markSeq = s.markSeq ∧ (s.setRead m w).sampler = s.sampler ∧ (s.setRead m w).portX = s.portX ∧ (s.setRead m w).gpr = s.gpr ∧ (s.setRead m w).ctxs = s.ctxs ∧ (s.setRead m w).lastIssue = s.lastIssue ∧ (s.setRead m w).cycleAt = s.cycleAt ∧ (s.setRead m w).govFine = s.govFine ∧ (s.setRead m w).govRem = s.govRem ∧ (s.setRead m w).admits = s.admits ∧ (s.setRead m w).unsettled = s.unsettled ∧ (s.setRead m w).settledAt = s.settledAt ∧ (s.setRead m w).drawNow = s.drawNow ∧ (s.setRead m w).drawPast = s.drawPast ∧ (s.setRead m w).busyAt = s.busyAt ∧ (s.setRead m w).courseAt = s.courseAt ∧ (s.setRead m w).idleOff = s.idleOff ∧ (s.setRead m w).sensors = s.sensors ∧ (s.setRead m w).pwrReq = s.pwrReq ∧ (s.setRead m w).waking = s.waking ∧ (s.setRead m w).scrubPos = s.scrubPos ∧ (s.setRead m w).passCorr = s.passCorr ∧ (s.setRead m w).lockTimes = s.lockTimes ∧ (s.setRead m w).startWait = s.startWait ∧ (s.setRead m w).feedAt = s.feedAt ∧ (s.setRead m w).clrStrat = s.clrStrat ∧ (s.setRead m w).imageDigest = s.imageDigest ∧ (s.setRead m w).flashUp = s.flashUp ∧ (s.setRead m w).flashQuad = s.flashQuad ∧ (s.setRead m w).epUp = s.epUp ∧ (s.setRead m w).subsys = s.subsys ∧ (s.setRead m w).aoAt = s.aoAt ∧ (s.setRead m w).dmas = s.dmas ∧ (s.setRead m w).dmaLast = s.dmaLast ∧ (s.setRead m w).micro = s.micro ∧ (s.setRead m w).dispatch = s.dispatch ∧ (s.setRead m w).golden = s.golden ∧ (s.setRead m w).goldenDispatch = s.goldenDispatch ∧ (s.setRead m w).goldenLost = s.goldenLost ∧ (s.setRead m w).patchEnd = s.patchEnd ∧ (s.setRead m w).heldChecks = s.heldChecks ∧ (s.setRead m w).repairs = s.repairs ∧ (s.setRead m w).jtag = s.jtag ∧ (s.setRead m w).boundary = s.boundary ∧ (s.setRead m w).scanned = s.scanned ∧ (s.setRead m w).scratch = s.scratch ∧ (s.setRead m w).links = s.links ∧ (s.setRead m w).routes = s.routes ∧ (s.setRead m w).msgQ = s.msgQ ∧ (s.setRead m w).parked = s.parked ∧ (s.setRead m w).slew = s.slew ∧ (s.setRead m w).coastAt = s.coastAt ∧ (s.setRead m w).slockQ = s.slockQ ∧ (s.setRead m w).fltTotal = s.fltTotal ∧ (s.setRead m w).fltAcked = s.fltAcked ∧ (s.setRead m w).paused = s.paused ∧ (s.setRead m w).failed = s.failed ∧ (s.setRead m w).spares = s.spares ∧ (s.setRead m w).goAt = s.goAt ∧ (s.setRead m w).takenBy = s.takenBy ∧ (s.setRead m w).vecFirst = s.vecFirst ∧ (s.setRead m w).goOld = s.goOld ∧ (s.setRead m w).doneAt = s.doneAt ∧ (s.setRead m w).msixOn = s.msixOn ∧ (s.setRead m w).msixMask = s.msixMask ∧ (s.setRead m w).hostLink = s.hostLink ∧ (s.setRead m w).d3hot = s.d3hot ∧ (s.setRead m w).wakePin = s.wakePin ∧ (s.setRead m w).replies = s.replies ∧ (s.setRead m w).longOps = s.longOps ∧ (s.setRead m w).longNext = s.longNext ∧ (s.setRead m w).mgmtResp = s.mgmtResp ∧ (s.setRead m w).mgmtOut = s.mgmtOut ∧ (s.setRead m w).taskMem = s.taskMem ∧ (s.setRead m w).badTm = s.badTm ∧ (s.setRead m w).badScript = s.badScript ∧ (s.setRead m w).logMem = s.logMem ∧ (s.setRead m w).hostMem = s.hostMem ∧ (s.setRead m w).freeCtr = s.freeCtr ∧ (s.setRead m w).pending = s.pending := by
  refine ⟨rfl, rfl, rfl, rfl, rfl, rfl, rfl, rfl, rfl, rfl, rfl, rfl, rfl, rfl, rfl, rfl, rfl, rfl, rfl, rfl, rfl, rfl, rfl, rfl, rfl, rfl, rfl, rfl, rfl, rfl, rfl, rfl, rfl, rfl, rfl, rfl, rfl, rfl, rfl, rfl, rfl, rfl, rfl, rfl, rfl, rfl, rfl, rfl, rfl, rfl, rfl, rfl, rfl, rfl, rfl, rfl, rfl, rfl, rfl, rfl, rfl, rfl, rfl, rfl, rfl, rfl, rfl, rfl, rfl, rfl, rfl, rfl, rfl, rfl, rfl, rfl, rfl, rfl, rfl, rfl, rfl, rfl, rfl, rfl, rfl, rfl, rfl, rfl, rfl, rfl, rfl, rfl, rfl, rfl, rfl, rfl, rfl, rfl, rfl, rfl, rfl, rfl, rfl, rfl, rfl, rfl, rfl, rfl, rfl, rfl, rfl, rfl, rfl, rfl, rfl, rfl, rfl, rfl, rfl, rfl, rfl, rfl, rfl, rfl, rfl, rfl⟩
theorem State.setRead_part (s : State) (m : Nat) (w : Word) (a : Area) (h : a ≠ .bus) : (s.setRead m w).part a = s.part a := by
  cases a <;> first | rfl | exact absurd rfl h

@[simp] theorem State.setEdges_fields (s : State) (c : Nat) (l : List (Stamp × Bool)) :
    (s.setEdges c l).variant = s.variant ∧ (s.setEdges c l).ownerKey = s.ownerKey ∧ (s.setEdges c l).ownerSign = s.ownerSign ∧ (s.setEdges c l).now = s.now ∧ (s.setEdges c l).aoRem = s.aoRem ∧ (s.setEdges c l).copies = s.copies ∧ (s.setEdges c l).beacon = s.beacon ∧ (s.setEdges c l).trimmed = s.trimmed ∧ (s.setEdges c l).stray = s.stray ∧ (s.setEdges c l).aoEntry = s.aoEntry ∧ (s.setEdges c l).regs = s.regs ∧ (s.setEdges c l).latch = s.latch ∧ (s.setEdges c l).lastRead = s.lastRead ∧ (s.setEdges c l).barData = s.barData ∧ (s.setEdges c l).readHi = s.readHi ∧ (s.setEdges c l).chans = s.chans ∧ (s.setEdges c l).bridges = s.bridges ∧ (s.setEdges c l).trips = s.trips ∧ (s.setEdges c l).slots = s.slots ∧ (s.setEdges c l).fols = s.fols ∧ (s.setEdges c l).stopAt = s.stopAt ∧ (s.setEdges c l).folMiss = s.folMiss ∧ (s.setEdges c l).switching = s.switching ∧ (s.setEdges c l).holdSpan = s.holdSpan ∧ (s.setEdges c l).padHold = s.padHold ∧ (s.setEdges c l).pinStill = s.pinStill ∧ (s.setEdges c l).launched = s.launched ∧ (s.setEdges c l).clockStop = s.clockStop ∧ (s.setEdges c l).stays = s.stays ∧ (s.setEdges c l).pinIn = s.pinIn ∧ (s.setEdges c l).unsensed = s.unsensed ∧ (s.setEdges c l).lines = s.lines ∧ (s.setEdges c l).doms = s.doms ∧ (s.setEdges c l).entries = s.entries ∧ (s.setEdges c l).calAnswer = s.calAnswer ∧ (s.setEdges c l).calTurn = s.calTurn ∧ (s.setEdges c l).calIssue = s.calIssue ∧ (s.setEdges c l).offers = s.offers ∧ (s.setEdges c l).lastEv = s.lastEv ∧ (s.setEdges c l).afterMark = s.afterMark ∧ (s.setEdges c l).dropping = s.dropping ∧ (s.setEdges c l).logQ = s.logQ ∧ (s.setEdges c l).sigs = s.sigs ∧ (s.setEdges c l).logRecs = s.logRecs ∧ (s.setEdges c l).logLast = s.logLast ∧ (s.setEdges c l).markAt = s.markAt ∧ (s.setEdges c l).markSeq = s.markSeq ∧ (s.setEdges c l).sampler = s.sampler ∧ (s.setEdges c l).portX = s.portX ∧ (s.setEdges c l).gpr = s.gpr ∧ (s.setEdges c l).ctxs = s.ctxs ∧ (s.setEdges c l).lastIssue = s.lastIssue ∧ (s.setEdges c l).cycleAt = s.cycleAt ∧ (s.setEdges c l).govFine = s.govFine ∧ (s.setEdges c l).govRem = s.govRem ∧ (s.setEdges c l).admits = s.admits ∧ (s.setEdges c l).unsettled = s.unsettled ∧ (s.setEdges c l).settledAt = s.settledAt ∧ (s.setEdges c l).drawNow = s.drawNow ∧ (s.setEdges c l).drawPast = s.drawPast ∧ (s.setEdges c l).busyAt = s.busyAt ∧ (s.setEdges c l).courseAt = s.courseAt ∧ (s.setEdges c l).idleOff = s.idleOff ∧ (s.setEdges c l).sensors = s.sensors ∧ (s.setEdges c l).pwrReq = s.pwrReq ∧ (s.setEdges c l).waking = s.waking ∧ (s.setEdges c l).scrubPos = s.scrubPos ∧ (s.setEdges c l).passCorr = s.passCorr ∧ (s.setEdges c l).lockTimes = s.lockTimes ∧ (s.setEdges c l).startWait = s.startWait ∧ (s.setEdges c l).feedAt = s.feedAt ∧ (s.setEdges c l).clrStrat = s.clrStrat ∧ (s.setEdges c l).imageDigest = s.imageDigest ∧ (s.setEdges c l).flashUp = s.flashUp ∧ (s.setEdges c l).flashQuad = s.flashQuad ∧ (s.setEdges c l).epUp = s.epUp ∧ (s.setEdges c l).subsys = s.subsys ∧ (s.setEdges c l).aoAt = s.aoAt ∧ (s.setEdges c l).dmas = s.dmas ∧ (s.setEdges c l).dmaLast = s.dmaLast ∧ (s.setEdges c l).micro = s.micro ∧ (s.setEdges c l).dispatch = s.dispatch ∧ (s.setEdges c l).golden = s.golden ∧ (s.setEdges c l).goldenDispatch = s.goldenDispatch ∧ (s.setEdges c l).goldenLost = s.goldenLost ∧ (s.setEdges c l).patchEnd = s.patchEnd ∧ (s.setEdges c l).heldChecks = s.heldChecks ∧ (s.setEdges c l).repairs = s.repairs ∧ (s.setEdges c l).jtag = s.jtag ∧ (s.setEdges c l).boundary = s.boundary ∧ (s.setEdges c l).scanned = s.scanned ∧ (s.setEdges c l).scratch = s.scratch ∧ (s.setEdges c l).links = s.links ∧ (s.setEdges c l).routes = s.routes ∧ (s.setEdges c l).msgQ = s.msgQ ∧ (s.setEdges c l).parked = s.parked ∧ (s.setEdges c l).slew = s.slew ∧ (s.setEdges c l).coastAt = s.coastAt ∧ (s.setEdges c l).slockQ = s.slockQ ∧ (s.setEdges c l).fltTotal = s.fltTotal ∧ (s.setEdges c l).fltAcked = s.fltAcked ∧ (s.setEdges c l).paused = s.paused ∧ (s.setEdges c l).failed = s.failed ∧ (s.setEdges c l).spares = s.spares ∧ (s.setEdges c l).goAt = s.goAt ∧ (s.setEdges c l).takenBy = s.takenBy ∧ (s.setEdges c l).vecFirst = s.vecFirst ∧ (s.setEdges c l).goOld = s.goOld ∧ (s.setEdges c l).doneAt = s.doneAt ∧ (s.setEdges c l).msixOn = s.msixOn ∧ (s.setEdges c l).msixMask = s.msixMask ∧ (s.setEdges c l).hostLink = s.hostLink ∧ (s.setEdges c l).d3hot = s.d3hot ∧ (s.setEdges c l).wakePin = s.wakePin ∧ (s.setEdges c l).replies = s.replies ∧ (s.setEdges c l).longOps = s.longOps ∧ (s.setEdges c l).longNext = s.longNext ∧ (s.setEdges c l).mgmtResp = s.mgmtResp ∧ (s.setEdges c l).mgmtOut = s.mgmtOut ∧ (s.setEdges c l).taskMem = s.taskMem ∧ (s.setEdges c l).badTm = s.badTm ∧ (s.setEdges c l).badScript = s.badScript ∧ (s.setEdges c l).logMem = s.logMem ∧ (s.setEdges c l).hostMem = s.hostMem ∧ (s.setEdges c l).freeCtr = s.freeCtr ∧ (s.setEdges c l).pending = s.pending := by
  refine ⟨rfl, rfl, rfl, rfl, rfl, rfl, rfl, rfl, rfl, rfl, rfl, rfl, rfl, rfl, rfl, rfl, rfl, rfl, rfl, rfl, rfl, rfl, rfl, rfl, rfl, rfl, rfl, rfl, rfl, rfl, rfl, rfl, rfl, rfl, rfl, rfl, rfl, rfl, rfl, rfl, rfl, rfl, rfl, rfl, rfl, rfl, rfl, rfl, rfl, rfl, rfl, rfl, rfl, rfl, rfl, rfl, rfl, rfl, rfl, rfl, rfl, rfl, rfl, rfl, rfl, rfl, rfl, rfl, rfl, rfl, rfl, rfl, rfl, rfl, rfl, rfl, rfl, rfl, rfl, rfl, rfl, rfl, rfl, rfl, rfl, rfl, rfl, rfl, rfl, rfl, rfl, rfl, rfl, rfl, rfl, rfl, rfl, rfl, rfl, rfl, rfl, rfl, rfl, rfl, rfl, rfl, rfl, rfl, rfl, rfl, rfl, rfl, rfl, rfl, rfl, rfl, rfl, rfl, rfl, rfl, rfl, rfl, rfl, rfl, rfl, rfl⟩
theorem State.setEdges_part (s : State) (c : Nat) (l : List (Stamp × Bool)) (a : Area) (h : a ≠ .pins) : (s.setEdges c l).part a = s.part a := by
  cases a <;> first | rfl | exact absurd rfl h

@[simp] theorem State.setReplies_fields (s : State) (c : Nat) (l : List (List Word)) :
    (s.setReplies c l).variant = s.variant ∧ (s.setReplies c l).ownerKey = s.ownerKey ∧ (s.setReplies c l).ownerSign = s.ownerSign ∧ (s.setReplies c l).now = s.now ∧ (s.setReplies c l).aoRem = s.aoRem ∧ (s.setReplies c l).copies = s.copies ∧ (s.setReplies c l).beacon = s.beacon ∧ (s.setReplies c l).trimmed = s.trimmed ∧ (s.setReplies c l).stray = s.stray ∧ (s.setReplies c l).aoEntry = s.aoEntry ∧ (s.setReplies c l).regs = s.regs ∧ (s.setReplies c l).latch = s.latch ∧ (s.setReplies c l).lastRead = s.lastRead ∧ (s.setReplies c l).barData = s.barData ∧ (s.setReplies c l).readHi = s.readHi ∧ (s.setReplies c l).chans = s.chans ∧ (s.setReplies c l).bridges = s.bridges ∧ (s.setReplies c l).trips = s.trips ∧ (s.setReplies c l).slots = s.slots ∧ (s.setReplies c l).fols = s.fols ∧ (s.setReplies c l).stopAt = s.stopAt ∧ (s.setReplies c l).folMiss = s.folMiss ∧ (s.setReplies c l).switching = s.switching ∧ (s.setReplies c l).holdSpan = s.holdSpan ∧ (s.setReplies c l).padHold = s.padHold ∧ (s.setReplies c l).pinStill = s.pinStill ∧ (s.setReplies c l).launched = s.launched ∧ (s.setReplies c l).clockStop = s.clockStop ∧ (s.setReplies c l).stays = s.stays ∧ (s.setReplies c l).pinIn = s.pinIn ∧ (s.setReplies c l).unsensed = s.unsensed ∧ (s.setReplies c l).lines = s.lines ∧ (s.setReplies c l).edges = s.edges ∧ (s.setReplies c l).doms = s.doms ∧ (s.setReplies c l).entries = s.entries ∧ (s.setReplies c l).calAnswer = s.calAnswer ∧ (s.setReplies c l).calTurn = s.calTurn ∧ (s.setReplies c l).calIssue = s.calIssue ∧ (s.setReplies c l).offers = s.offers ∧ (s.setReplies c l).lastEv = s.lastEv ∧ (s.setReplies c l).afterMark = s.afterMark ∧ (s.setReplies c l).dropping = s.dropping ∧ (s.setReplies c l).logQ = s.logQ ∧ (s.setReplies c l).sigs = s.sigs ∧ (s.setReplies c l).logRecs = s.logRecs ∧ (s.setReplies c l).logLast = s.logLast ∧ (s.setReplies c l).markAt = s.markAt ∧ (s.setReplies c l).markSeq = s.markSeq ∧ (s.setReplies c l).sampler = s.sampler ∧ (s.setReplies c l).portX = s.portX ∧ (s.setReplies c l).gpr = s.gpr ∧ (s.setReplies c l).ctxs = s.ctxs ∧ (s.setReplies c l).lastIssue = s.lastIssue ∧ (s.setReplies c l).cycleAt = s.cycleAt ∧ (s.setReplies c l).govFine = s.govFine ∧ (s.setReplies c l).govRem = s.govRem ∧ (s.setReplies c l).admits = s.admits ∧ (s.setReplies c l).unsettled = s.unsettled ∧ (s.setReplies c l).settledAt = s.settledAt ∧ (s.setReplies c l).drawNow = s.drawNow ∧ (s.setReplies c l).drawPast = s.drawPast ∧ (s.setReplies c l).busyAt = s.busyAt ∧ (s.setReplies c l).courseAt = s.courseAt ∧ (s.setReplies c l).idleOff = s.idleOff ∧ (s.setReplies c l).sensors = s.sensors ∧ (s.setReplies c l).pwrReq = s.pwrReq ∧ (s.setReplies c l).waking = s.waking ∧ (s.setReplies c l).scrubPos = s.scrubPos ∧ (s.setReplies c l).passCorr = s.passCorr ∧ (s.setReplies c l).lockTimes = s.lockTimes ∧ (s.setReplies c l).startWait = s.startWait ∧ (s.setReplies c l).feedAt = s.feedAt ∧ (s.setReplies c l).clrStrat = s.clrStrat ∧ (s.setReplies c l).imageDigest = s.imageDigest ∧ (s.setReplies c l).flashUp = s.flashUp ∧ (s.setReplies c l).flashQuad = s.flashQuad ∧ (s.setReplies c l).epUp = s.epUp ∧ (s.setReplies c l).subsys = s.subsys ∧ (s.setReplies c l).aoAt = s.aoAt ∧ (s.setReplies c l).dmas = s.dmas ∧ (s.setReplies c l).dmaLast = s.dmaLast ∧ (s.setReplies c l).micro = s.micro ∧ (s.setReplies c l).dispatch = s.dispatch ∧ (s.setReplies c l).golden = s.golden ∧ (s.setReplies c l).goldenDispatch = s.goldenDispatch ∧ (s.setReplies c l).goldenLost = s.goldenLost ∧ (s.setReplies c l).patchEnd = s.patchEnd ∧ (s.setReplies c l).heldChecks = s.heldChecks ∧ (s.setReplies c l).repairs = s.repairs ∧ (s.setReplies c l).jtag = s.jtag ∧ (s.setReplies c l).boundary = s.boundary ∧ (s.setReplies c l).scanned = s.scanned ∧ (s.setReplies c l).scratch = s.scratch ∧ (s.setReplies c l).links = s.links ∧ (s.setReplies c l).routes = s.routes ∧ (s.setReplies c l).msgQ = s.msgQ ∧ (s.setReplies c l).parked = s.parked ∧ (s.setReplies c l).slew = s.slew ∧ (s.setReplies c l).coastAt = s.coastAt ∧ (s.setReplies c l).slockQ = s.slockQ ∧ (s.setReplies c l).fltTotal = s.fltTotal ∧ (s.setReplies c l).fltAcked = s.fltAcked ∧ (s.setReplies c l).paused = s.paused ∧ (s.setReplies c l).failed = s.failed ∧ (s.setReplies c l).spares = s.spares ∧ (s.setReplies c l).goAt = s.goAt ∧ (s.setReplies c l).takenBy = s.takenBy ∧ (s.setReplies c l).vecFirst = s.vecFirst ∧ (s.setReplies c l).goOld = s.goOld ∧ (s.setReplies c l).doneAt = s.doneAt ∧ (s.setReplies c l).msixOn = s.msixOn ∧ (s.setReplies c l).msixMask = s.msixMask ∧ (s.setReplies c l).hostLink = s.hostLink ∧ (s.setReplies c l).d3hot = s.d3hot ∧ (s.setReplies c l).wakePin = s.wakePin ∧ (s.setReplies c l).longOps = s.longOps ∧ (s.setReplies c l).longNext = s.longNext ∧ (s.setReplies c l).mgmtResp = s.mgmtResp ∧ (s.setReplies c l).mgmtOut = s.mgmtOut ∧ (s.setReplies c l).taskMem = s.taskMem ∧ (s.setReplies c l).badTm = s.badTm ∧ (s.setReplies c l).badScript = s.badScript ∧ (s.setReplies c l).logMem = s.logMem ∧ (s.setReplies c l).hostMem = s.hostMem ∧ (s.setReplies c l).freeCtr = s.freeCtr ∧ (s.setReplies c l).pending = s.pending := by
  refine ⟨rfl, rfl, rfl, rfl, rfl, rfl, rfl, rfl, rfl, rfl, rfl, rfl, rfl, rfl, rfl, rfl, rfl, rfl, rfl, rfl, rfl, rfl, rfl, rfl, rfl, rfl, rfl, rfl, rfl, rfl, rfl, rfl, rfl, rfl, rfl, rfl, rfl, rfl, rfl, rfl, rfl, rfl, rfl, rfl, rfl, rfl, rfl, rfl, rfl, rfl, rfl, rfl, rfl, rfl, rfl, rfl, rfl, rfl, rfl, rfl, rfl, rfl, rfl, rfl, rfl, rfl, rfl, rfl, rfl, rfl, rfl, rfl, rfl, rfl, rfl, rfl, rfl, rfl, rfl, rfl, rfl, rfl, rfl, rfl, rfl, rfl, rfl, rfl, rfl, rfl, rfl, rfl, rfl, rfl, rfl, rfl, rfl, rfl, rfl, rfl, rfl, rfl, rfl, rfl, rfl, rfl, rfl, rfl, rfl, rfl, rfl, rfl, rfl, rfl, rfl, rfl, rfl, rfl, rfl, rfl, rfl, rfl, rfl, rfl, rfl, rfl⟩
theorem State.setReplies_part (s : State) (c : Nat) (l : List (List Word)) (a : Area) (h : a ≠ .mbox) : (s.setReplies c l).part a = s.part a := by
  cases a <;> first | rfl | exact absurd rfl h

@[simp] theorem State.setCtx_fields (s : State) (x : Nat) (c : Ctx) :
    (s.setCtx x c).variant = s.variant ∧ (s.setCtx x c).ownerKey = s.ownerKey ∧ (s.setCtx x c).ownerSign = s.ownerSign ∧ (s.setCtx x c).now = s.now ∧ (s.setCtx x c).aoRem = s.aoRem ∧ (s.setCtx x c).copies = s.copies ∧ (s.setCtx x c).beacon = s.beacon ∧ (s.setCtx x c).trimmed = s.trimmed ∧ (s.setCtx x c).stray = s.stray ∧ (s.setCtx x c).aoEntry = s.aoEntry ∧ (s.setCtx x c).regs = s.regs ∧ (s.setCtx x c).latch = s.latch ∧ (s.setCtx x c).lastRead = s.lastRead ∧ (s.setCtx x c).barData = s.barData ∧ (s.setCtx x c).readHi = s.readHi ∧ (s.setCtx x c).chans = s.chans ∧ (s.setCtx x c).bridges = s.bridges ∧ (s.setCtx x c).trips = s.trips ∧ (s.setCtx x c).slots = s.slots ∧ (s.setCtx x c).fols = s.fols ∧ (s.setCtx x c).stopAt = s.stopAt ∧ (s.setCtx x c).folMiss = s.folMiss ∧ (s.setCtx x c).switching = s.switching ∧ (s.setCtx x c).holdSpan = s.holdSpan ∧ (s.setCtx x c).padHold = s.padHold ∧ (s.setCtx x c).pinStill = s.pinStill ∧ (s.setCtx x c).launched = s.launched ∧ (s.setCtx x c).clockStop = s.clockStop ∧ (s.setCtx x c).stays = s.stays ∧ (s.setCtx x c).pinIn = s.pinIn ∧ (s.setCtx x c).unsensed = s.unsensed ∧ (s.setCtx x c).lines = s.lines ∧ (s.setCtx x c).edges = s.edges ∧ (s.setCtx x c).doms = s.doms ∧ (s.setCtx x c).entries = s.entries ∧ (s.setCtx x c).calAnswer = s.calAnswer ∧ (s.setCtx x c).calTurn = s.calTurn ∧ (s.setCtx x c).calIssue = s.calIssue ∧ (s.setCtx x c).offers = s.offers ∧ (s.setCtx x c).lastEv = s.lastEv ∧ (s.setCtx x c).afterMark = s.afterMark ∧ (s.setCtx x c).dropping = s.dropping ∧ (s.setCtx x c).logQ = s.logQ ∧ (s.setCtx x c).sigs = s.sigs ∧ (s.setCtx x c).logRecs = s.logRecs ∧ (s.setCtx x c).logLast = s.logLast ∧ (s.setCtx x c).markAt = s.markAt ∧ (s.setCtx x c).markSeq = s.markSeq ∧ (s.setCtx x c).sampler = s.sampler ∧ (s.setCtx x c).portX = s.portX ∧ (s.setCtx x c).gpr = s.gpr ∧ (s.setCtx x c).lastIssue = s.lastIssue ∧ (s.setCtx x c).cycleAt = s.cycleAt ∧ (s.setCtx x c).govFine = s.govFine ∧ (s.setCtx x c).govRem = s.govRem ∧ (s.setCtx x c).admits = s.admits ∧ (s.setCtx x c).unsettled = s.unsettled ∧ (s.setCtx x c).settledAt = s.settledAt ∧ (s.setCtx x c).drawNow = s.drawNow ∧ (s.setCtx x c).drawPast = s.drawPast ∧ (s.setCtx x c).busyAt = s.busyAt ∧ (s.setCtx x c).courseAt = s.courseAt ∧ (s.setCtx x c).idleOff = s.idleOff ∧ (s.setCtx x c).sensors = s.sensors ∧ (s.setCtx x c).pwrReq = s.pwrReq ∧ (s.setCtx x c).waking = s.waking ∧ (s.setCtx x c).scrubPos = s.scrubPos ∧ (s.setCtx x c).passCorr = s.passCorr ∧ (s.setCtx x c).lockTimes = s.lockTimes ∧ (s.setCtx x c).startWait = s.startWait ∧ (s.setCtx x c).feedAt = s.feedAt ∧ (s.setCtx x c).clrStrat = s.clrStrat ∧ (s.setCtx x c).imageDigest = s.imageDigest ∧ (s.setCtx x c).flashUp = s.flashUp ∧ (s.setCtx x c).flashQuad = s.flashQuad ∧ (s.setCtx x c).epUp = s.epUp ∧ (s.setCtx x c).subsys = s.subsys ∧ (s.setCtx x c).aoAt = s.aoAt ∧ (s.setCtx x c).dmas = s.dmas ∧ (s.setCtx x c).dmaLast = s.dmaLast ∧ (s.setCtx x c).micro = s.micro ∧ (s.setCtx x c).dispatch = s.dispatch ∧ (s.setCtx x c).golden = s.golden ∧ (s.setCtx x c).goldenDispatch = s.goldenDispatch ∧ (s.setCtx x c).goldenLost = s.goldenLost ∧ (s.setCtx x c).patchEnd = s.patchEnd ∧ (s.setCtx x c).heldChecks = s.heldChecks ∧ (s.setCtx x c).repairs = s.repairs ∧ (s.setCtx x c).jtag = s.jtag ∧ (s.setCtx x c).boundary = s.boundary ∧ (s.setCtx x c).scanned = s.scanned ∧ (s.setCtx x c).scratch = s.scratch ∧ (s.setCtx x c).links = s.links ∧ (s.setCtx x c).routes = s.routes ∧ (s.setCtx x c).msgQ = s.msgQ ∧ (s.setCtx x c).parked = s.parked ∧ (s.setCtx x c).slew = s.slew ∧ (s.setCtx x c).coastAt = s.coastAt ∧ (s.setCtx x c).slockQ = s.slockQ ∧ (s.setCtx x c).fltTotal = s.fltTotal ∧ (s.setCtx x c).fltAcked = s.fltAcked ∧ (s.setCtx x c).paused = s.paused ∧ (s.setCtx x c).failed = s.failed ∧ (s.setCtx x c).spares = s.spares ∧ (s.setCtx x c).goAt = s.goAt ∧ (s.setCtx x c).takenBy = s.takenBy ∧ (s.setCtx x c).vecFirst = s.vecFirst ∧ (s.setCtx x c).goOld = s.goOld ∧ (s.setCtx x c).doneAt = s.doneAt ∧ (s.setCtx x c).msixOn = s.msixOn ∧ (s.setCtx x c).msixMask = s.msixMask ∧ (s.setCtx x c).hostLink = s.hostLink ∧ (s.setCtx x c).d3hot = s.d3hot ∧ (s.setCtx x c).wakePin = s.wakePin ∧ (s.setCtx x c).replies = s.replies ∧ (s.setCtx x c).longOps = s.longOps ∧ (s.setCtx x c).longNext = s.longNext ∧ (s.setCtx x c).mgmtResp = s.mgmtResp ∧ (s.setCtx x c).mgmtOut = s.mgmtOut ∧ (s.setCtx x c).taskMem = s.taskMem ∧ (s.setCtx x c).badTm = s.badTm ∧ (s.setCtx x c).badScript = s.badScript ∧ (s.setCtx x c).logMem = s.logMem ∧ (s.setCtx x c).hostMem = s.hostMem ∧ (s.setCtx x c).freeCtr = s.freeCtr ∧ (s.setCtx x c).pending = s.pending := by
  refine ⟨rfl, rfl, rfl, rfl, rfl, rfl, rfl, rfl, rfl, rfl, rfl, rfl, rfl, rfl, rfl, rfl, rfl, rfl, rfl, rfl, rfl, rfl, rfl, rfl, rfl, rfl, rfl, rfl, rfl, rfl, rfl, rfl, rfl, rfl, rfl, rfl, rfl, rfl, rfl, rfl, rfl, rfl, rfl, rfl, rfl, rfl, rfl, rfl, rfl, rfl, rfl, rfl, rfl, rfl, rfl, rfl, rfl, rfl, rfl, rfl, rfl, rfl, rfl, rfl, rfl, rfl, rfl, rfl, rfl, rfl, rfl, rfl, rfl, rfl, rfl, rfl, rfl, rfl, rfl, rfl, rfl, rfl, rfl, rfl, rfl, rfl, rfl, rfl, rfl, rfl, rfl, rfl, rfl, rfl, rfl, rfl, rfl, rfl, rfl, rfl, rfl, rfl, rfl, rfl, rfl, rfl, rfl, rfl, rfl, rfl, rfl, rfl, rfl, rfl, rfl, rfl, rfl, rfl, rfl, rfl, rfl, rfl, rfl, rfl, rfl, rfl⟩
theorem State.setCtx_part (s : State) (x : Nat) (c : Ctx) (a : Area) (h : a ≠ .chanter) : (s.setCtx x c).part a = s.part a := by
  cases a <;> first | rfl | exact absurd rfl h

@[simp] theorem State.setG_fields (s : State) (x : Nat) (r : GReg) (w : Word) :
    (s.setG x r w).variant = s.variant ∧ (s.setG x r w).ownerKey = s.ownerKey ∧ (s.setG x r w).ownerSign = s.ownerSign ∧ (s.setG x r w).now = s.now ∧ (s.setG x r w).aoRem = s.aoRem ∧ (s.setG x r w).copies = s.copies ∧ (s.setG x r w).beacon = s.beacon ∧ (s.setG x r w).trimmed = s.trimmed ∧ (s.setG x r w).stray = s.stray ∧ (s.setG x r w).aoEntry = s.aoEntry ∧ (s.setG x r w).regs = s.regs ∧ (s.setG x r w).latch = s.latch ∧ (s.setG x r w).lastRead = s.lastRead ∧ (s.setG x r w).barData = s.barData ∧ (s.setG x r w).readHi = s.readHi ∧ (s.setG x r w).chans = s.chans ∧ (s.setG x r w).bridges = s.bridges ∧ (s.setG x r w).trips = s.trips ∧ (s.setG x r w).slots = s.slots ∧ (s.setG x r w).fols = s.fols ∧ (s.setG x r w).stopAt = s.stopAt ∧ (s.setG x r w).folMiss = s.folMiss ∧ (s.setG x r w).switching = s.switching ∧ (s.setG x r w).holdSpan = s.holdSpan ∧ (s.setG x r w).padHold = s.padHold ∧ (s.setG x r w).pinStill = s.pinStill ∧ (s.setG x r w).launched = s.launched ∧ (s.setG x r w).clockStop = s.clockStop ∧ (s.setG x r w).stays = s.stays ∧ (s.setG x r w).pinIn = s.pinIn ∧ (s.setG x r w).unsensed = s.unsensed ∧ (s.setG x r w).lines = s.lines ∧ (s.setG x r w).edges = s.edges ∧ (s.setG x r w).doms = s.doms ∧ (s.setG x r w).entries = s.entries ∧ (s.setG x r w).calAnswer = s.calAnswer ∧ (s.setG x r w).calTurn = s.calTurn ∧ (s.setG x r w).calIssue = s.calIssue ∧ (s.setG x r w).offers = s.offers ∧ (s.setG x r w).lastEv = s.lastEv ∧ (s.setG x r w).afterMark = s.afterMark ∧ (s.setG x r w).dropping = s.dropping ∧ (s.setG x r w).logQ = s.logQ ∧ (s.setG x r w).sigs = s.sigs ∧ (s.setG x r w).logRecs = s.logRecs ∧ (s.setG x r w).logLast = s.logLast ∧ (s.setG x r w).markAt = s.markAt ∧ (s.setG x r w).markSeq = s.markSeq ∧ (s.setG x r w).sampler = s.sampler ∧ (s.setG x r w).portX = s.portX ∧ (s.setG x r w).ctxs = s.ctxs ∧ (s.setG x r w).lastIssue = s.lastIssue ∧ (s.setG x r w).cycleAt = s.cycleAt ∧ (s.setG x r w).govFine = s.govFine ∧ (s.setG x r w).govRem = s.govRem ∧ (s.setG x r w).admits = s.admits ∧ (s.setG x r w).unsettled = s.unsettled ∧ (s.setG x r w).settledAt = s.settledAt ∧ (s.setG x r w).drawNow = s.drawNow ∧ (s.setG x r w).drawPast = s.drawPast ∧ (s.setG x r w).busyAt = s.busyAt ∧ (s.setG x r w).courseAt = s.courseAt ∧ (s.setG x r w).idleOff = s.idleOff ∧ (s.setG x r w).sensors = s.sensors ∧ (s.setG x r w).pwrReq = s.pwrReq ∧ (s.setG x r w).waking = s.waking ∧ (s.setG x r w).scrubPos = s.scrubPos ∧ (s.setG x r w).passCorr = s.passCorr ∧ (s.setG x r w).lockTimes = s.lockTimes ∧ (s.setG x r w).startWait = s.startWait ∧ (s.setG x r w).feedAt = s.feedAt ∧ (s.setG x r w).clrStrat = s.clrStrat ∧ (s.setG x r w).imageDigest = s.imageDigest ∧ (s.setG x r w).flashUp = s.flashUp ∧ (s.setG x r w).flashQuad = s.flashQuad ∧ (s.setG x r w).epUp = s.epUp ∧ (s.setG x r w).subsys = s.subsys ∧ (s.setG x r w).aoAt = s.aoAt ∧ (s.setG x r w).dmas = s.dmas ∧ (s.setG x r w).dmaLast = s.dmaLast ∧ (s.setG x r w).micro = s.micro ∧ (s.setG x r w).dispatch = s.dispatch ∧ (s.setG x r w).golden = s.golden ∧ (s.setG x r w).goldenDispatch = s.goldenDispatch ∧ (s.setG x r w).goldenLost = s.goldenLost ∧ (s.setG x r w).patchEnd = s.patchEnd ∧ (s.setG x r w).heldChecks = s.heldChecks ∧ (s.setG x r w).repairs = s.repairs ∧ (s.setG x r w).jtag = s.jtag ∧ (s.setG x r w).boundary = s.boundary ∧ (s.setG x r w).scanned = s.scanned ∧ (s.setG x r w).scratch = s.scratch ∧ (s.setG x r w).links = s.links ∧ (s.setG x r w).routes = s.routes ∧ (s.setG x r w).msgQ = s.msgQ ∧ (s.setG x r w).parked = s.parked ∧ (s.setG x r w).slew = s.slew ∧ (s.setG x r w).coastAt = s.coastAt ∧ (s.setG x r w).slockQ = s.slockQ ∧ (s.setG x r w).fltTotal = s.fltTotal ∧ (s.setG x r w).fltAcked = s.fltAcked ∧ (s.setG x r w).paused = s.paused ∧ (s.setG x r w).failed = s.failed ∧ (s.setG x r w).spares = s.spares ∧ (s.setG x r w).goAt = s.goAt ∧ (s.setG x r w).takenBy = s.takenBy ∧ (s.setG x r w).vecFirst = s.vecFirst ∧ (s.setG x r w).goOld = s.goOld ∧ (s.setG x r w).doneAt = s.doneAt ∧ (s.setG x r w).msixOn = s.msixOn ∧ (s.setG x r w).msixMask = s.msixMask ∧ (s.setG x r w).hostLink = s.hostLink ∧ (s.setG x r w).d3hot = s.d3hot ∧ (s.setG x r w).wakePin = s.wakePin ∧ (s.setG x r w).replies = s.replies ∧ (s.setG x r w).longOps = s.longOps ∧ (s.setG x r w).longNext = s.longNext ∧ (s.setG x r w).mgmtResp = s.mgmtResp ∧ (s.setG x r w).mgmtOut = s.mgmtOut ∧ (s.setG x r w).taskMem = s.taskMem ∧ (s.setG x r w).badTm = s.badTm ∧ (s.setG x r w).badScript = s.badScript ∧ (s.setG x r w).logMem = s.logMem ∧ (s.setG x r w).hostMem = s.hostMem ∧ (s.setG x r w).freeCtr = s.freeCtr ∧ (s.setG x r w).pending = s.pending := by
  refine ⟨rfl, rfl, rfl, rfl, rfl, rfl, rfl, rfl, rfl, rfl, rfl, rfl, rfl, rfl, rfl, rfl, rfl, rfl, rfl, rfl, rfl, rfl, rfl, rfl, rfl, rfl, rfl, rfl, rfl, rfl, rfl, rfl, rfl, rfl, rfl, rfl, rfl, rfl, rfl, rfl, rfl, rfl, rfl, rfl, rfl, rfl, rfl, rfl, rfl, rfl, rfl, rfl, rfl, rfl, rfl, rfl, rfl, rfl, rfl, rfl, rfl, rfl, rfl, rfl, rfl, rfl, rfl, rfl, rfl, rfl, rfl, rfl, rfl, rfl, rfl, rfl, rfl, rfl, rfl, rfl, rfl, rfl, rfl, rfl, rfl, rfl, rfl, rfl, rfl, rfl, rfl, rfl, rfl, rfl, rfl, rfl, rfl, rfl, rfl, rfl, rfl, rfl, rfl, rfl, rfl, rfl, rfl, rfl, rfl, rfl, rfl, rfl, rfl, rfl, rfl, rfl, rfl, rfl, rfl, rfl, rfl, rfl, rfl, rfl, rfl, rfl⟩
theorem State.setG_part (s : State) (x : Nat) (r : GReg) (w : Word) (a : Area) (h : a ≠ .chanter) : (s.setG x r w).part a = s.part a := by
  cases a <;> first | rfl | exact absurd rfl h

@[simp] theorem State.setLink_fields (s : State) (k : Nat) (l : Link) :
    (s.setLink k l).variant = s.variant ∧ (s.setLink k l).ownerKey = s.ownerKey ∧ (s.setLink k l).ownerSign = s.ownerSign ∧ (s.setLink k l).now = s.now ∧ (s.setLink k l).aoRem = s.aoRem ∧ (s.setLink k l).copies = s.copies ∧ (s.setLink k l).beacon = s.beacon ∧ (s.setLink k l).trimmed = s.trimmed ∧ (s.setLink k l).stray = s.stray ∧ (s.setLink k l).aoEntry = s.aoEntry ∧ (s.setLink k l).regs = s.regs ∧ (s.setLink k l).latch = s.latch ∧ (s.setLink k l).lastRead = s.lastRead ∧ (s.setLink k l).barData = s.barData ∧ (s.setLink k l).readHi = s.readHi ∧ (s.setLink k l).chans = s.chans ∧ (s.setLink k l).bridges = s.bridges ∧ (s.setLink k l).trips = s.trips ∧ (s.setLink k l).slots = s.slots ∧ (s.setLink k l).fols = s.fols ∧ (s.setLink k l).stopAt = s.stopAt ∧ (s.setLink k l).folMiss = s.folMiss ∧ (s.setLink k l).switching = s.switching ∧ (s.setLink k l).holdSpan = s.holdSpan ∧ (s.setLink k l).padHold = s.padHold ∧ (s.setLink k l).pinStill = s.pinStill ∧ (s.setLink k l).launched = s.launched ∧ (s.setLink k l).clockStop = s.clockStop ∧ (s.setLink k l).stays = s.stays ∧ (s.setLink k l).pinIn = s.pinIn ∧ (s.setLink k l).unsensed = s.unsensed ∧ (s.setLink k l).lines = s.lines ∧ (s.setLink k l).edges = s.edges ∧ (s.setLink k l).doms = s.doms ∧ (s.setLink k l).entries = s.entries ∧ (s.setLink k l).calAnswer = s.calAnswer ∧ (s.setLink k l).calTurn = s.calTurn ∧ (s.setLink k l).calIssue = s.calIssue ∧ (s.setLink k l).offers = s.offers ∧ (s.setLink k l).lastEv = s.lastEv ∧ (s.setLink k l).afterMark = s.afterMark ∧ (s.setLink k l).dropping = s.dropping ∧ (s.setLink k l).logQ = s.logQ ∧ (s.setLink k l).sigs = s.sigs ∧ (s.setLink k l).logRecs = s.logRecs ∧ (s.setLink k l).logLast = s.logLast ∧ (s.setLink k l).markAt = s.markAt ∧ (s.setLink k l).markSeq = s.markSeq ∧ (s.setLink k l).sampler = s.sampler ∧ (s.setLink k l).portX = s.portX ∧ (s.setLink k l).gpr = s.gpr ∧ (s.setLink k l).ctxs = s.ctxs ∧ (s.setLink k l).lastIssue = s.lastIssue ∧ (s.setLink k l).cycleAt = s.cycleAt ∧ (s.setLink k l).govFine = s.govFine ∧ (s.setLink k l).govRem = s.govRem ∧ (s.setLink k l).admits = s.admits ∧ (s.setLink k l).unsettled = s.unsettled ∧ (s.setLink k l).settledAt = s.settledAt ∧ (s.setLink k l).drawNow = s.drawNow ∧ (s.setLink k l).drawPast = s.drawPast ∧ (s.setLink k l).busyAt = s.busyAt ∧ (s.setLink k l).courseAt = s.courseAt ∧ (s.setLink k l).idleOff = s.idleOff ∧ (s.setLink k l).sensors = s.sensors ∧ (s.setLink k l).pwrReq = s.pwrReq ∧ (s.setLink k l).waking = s.waking ∧ (s.setLink k l).scrubPos = s.scrubPos ∧ (s.setLink k l).passCorr = s.passCorr ∧ (s.setLink k l).lockTimes = s.lockTimes ∧ (s.setLink k l).startWait = s.startWait ∧ (s.setLink k l).feedAt = s.feedAt ∧ (s.setLink k l).clrStrat = s.clrStrat ∧ (s.setLink k l).imageDigest = s.imageDigest ∧ (s.setLink k l).flashUp = s.flashUp ∧ (s.setLink k l).flashQuad = s.flashQuad ∧ (s.setLink k l).epUp = s.epUp ∧ (s.setLink k l).subsys = s.subsys ∧ (s.setLink k l).aoAt = s.aoAt ∧ (s.setLink k l).dmas = s.dmas ∧ (s.setLink k l).dmaLast = s.dmaLast ∧ (s.setLink k l).micro = s.micro ∧ (s.setLink k l).dispatch = s.dispatch ∧ (s.setLink k l).golden = s.golden ∧ (s.setLink k l).goldenDispatch = s.goldenDispatch ∧ (s.setLink k l).goldenLost = s.goldenLost ∧ (s.setLink k l).patchEnd = s.patchEnd ∧ (s.setLink k l).heldChecks = s.heldChecks ∧ (s.setLink k l).repairs = s.repairs ∧ (s.setLink k l).jtag = s.jtag ∧ (s.setLink k l).boundary = s.boundary ∧ (s.setLink k l).scanned = s.scanned ∧ (s.setLink k l).scratch = s.scratch ∧ (s.setLink k l).routes = s.routes ∧ (s.setLink k l).msgQ = s.msgQ ∧ (s.setLink k l).parked = s.parked ∧ (s.setLink k l).slew = s.slew ∧ (s.setLink k l).coastAt = s.coastAt ∧ (s.setLink k l).slockQ = s.slockQ ∧ (s.setLink k l).fltTotal = s.fltTotal ∧ (s.setLink k l).fltAcked = s.fltAcked ∧ (s.setLink k l).paused = s.paused ∧ (s.setLink k l).failed = s.failed ∧ (s.setLink k l).spares = s.spares ∧ (s.setLink k l).goAt = s.goAt ∧ (s.setLink k l).takenBy = s.takenBy ∧ (s.setLink k l).vecFirst = s.vecFirst ∧ (s.setLink k l).goOld = s.goOld ∧ (s.setLink k l).doneAt = s.doneAt ∧ (s.setLink k l).msixOn = s.msixOn ∧ (s.setLink k l).msixMask = s.msixMask ∧ (s.setLink k l).hostLink = s.hostLink ∧ (s.setLink k l).d3hot = s.d3hot ∧ (s.setLink k l).wakePin = s.wakePin ∧ (s.setLink k l).replies = s.replies ∧ (s.setLink k l).longOps = s.longOps ∧ (s.setLink k l).longNext = s.longNext ∧ (s.setLink k l).mgmtResp = s.mgmtResp ∧ (s.setLink k l).mgmtOut = s.mgmtOut ∧ (s.setLink k l).taskMem = s.taskMem ∧ (s.setLink k l).badTm = s.badTm ∧ (s.setLink k l).badScript = s.badScript ∧ (s.setLink k l).logMem = s.logMem ∧ (s.setLink k l).hostMem = s.hostMem ∧ (s.setLink k l).freeCtr = s.freeCtr ∧ (s.setLink k l).pending = s.pending := by
  refine ⟨rfl, rfl, rfl, rfl, rfl, rfl, rfl, rfl, rfl, rfl, rfl, rfl, rfl, rfl, rfl, rfl, rfl, rfl, rfl, rfl, rfl, rfl, rfl, rfl, rfl, rfl, rfl, rfl, rfl, rfl, rfl, rfl, rfl, rfl, rfl, rfl, rfl, rfl, rfl, rfl, rfl, rfl, rfl, rfl, rfl, rfl, rfl, rfl, rfl, rfl, rfl, rfl, rfl, rfl, rfl, rfl, rfl, rfl, rfl, rfl, rfl, rfl, rfl, rfl, rfl, rfl, rfl, rfl, rfl, rfl, rfl, rfl, rfl, rfl, rfl, rfl, rfl, rfl, rfl, rfl, rfl, rfl, rfl, rfl, rfl, rfl, rfl, rfl, rfl, rfl, rfl, rfl, rfl, rfl, rfl, rfl, rfl, rfl, rfl, rfl, rfl, rfl, rfl, rfl, rfl, rfl, rfl, rfl, rfl, rfl, rfl, rfl, rfl, rfl, rfl, rfl, rfl, rfl, rfl, rfl, rfl, rfl, rfl, rfl, rfl, rfl⟩
theorem State.setLink_part (s : State) (k : Nat) (l : Link) (a : Area) (h : a ≠ .mortar) : (s.setLink k l).part a = s.part a := by
  cases a <;> first | rfl | exact absurd rfl h

@[simp] theorem State.setRoute_fields (s : State) (dev : Nat) (k : Option Nat) :
    (s.setRoute dev k).variant = s.variant ∧ (s.setRoute dev k).ownerKey = s.ownerKey ∧ (s.setRoute dev k).ownerSign = s.ownerSign ∧ (s.setRoute dev k).now = s.now ∧ (s.setRoute dev k).aoRem = s.aoRem ∧ (s.setRoute dev k).copies = s.copies ∧ (s.setRoute dev k).beacon = s.beacon ∧ (s.setRoute dev k).trimmed = s.trimmed ∧ (s.setRoute dev k).stray = s.stray ∧ (s.setRoute dev k).aoEntry = s.aoEntry ∧ (s.setRoute dev k).regs = s.regs ∧ (s.setRoute dev k).latch = s.latch ∧ (s.setRoute dev k).lastRead = s.lastRead ∧ (s.setRoute dev k).barData = s.barData ∧ (s.setRoute dev k).readHi = s.readHi ∧ (s.setRoute dev k).chans = s.chans ∧ (s.setRoute dev k).bridges = s.bridges ∧ (s.setRoute dev k).trips = s.trips ∧ (s.setRoute dev k).slots = s.slots ∧ (s.setRoute dev k).fols = s.fols ∧ (s.setRoute dev k).stopAt = s.stopAt ∧ (s.setRoute dev k).folMiss = s.folMiss ∧ (s.setRoute dev k).switching = s.switching ∧ (s.setRoute dev k).holdSpan = s.holdSpan ∧ (s.setRoute dev k).padHold = s.padHold ∧ (s.setRoute dev k).pinStill = s.pinStill ∧ (s.setRoute dev k).launched = s.launched ∧ (s.setRoute dev k).clockStop = s.clockStop ∧ (s.setRoute dev k).stays = s.stays ∧ (s.setRoute dev k).pinIn = s.pinIn ∧ (s.setRoute dev k).unsensed = s.unsensed ∧ (s.setRoute dev k).lines = s.lines ∧ (s.setRoute dev k).edges = s.edges ∧ (s.setRoute dev k).doms = s.doms ∧ (s.setRoute dev k).entries = s.entries ∧ (s.setRoute dev k).calAnswer = s.calAnswer ∧ (s.setRoute dev k).calTurn = s.calTurn ∧ (s.setRoute dev k).calIssue = s.calIssue ∧ (s.setRoute dev k).offers = s.offers ∧ (s.setRoute dev k).lastEv = s.lastEv ∧ (s.setRoute dev k).afterMark = s.afterMark ∧ (s.setRoute dev k).dropping = s.dropping ∧ (s.setRoute dev k).logQ = s.logQ ∧ (s.setRoute dev k).sigs = s.sigs ∧ (s.setRoute dev k).logRecs = s.logRecs ∧ (s.setRoute dev k).logLast = s.logLast ∧ (s.setRoute dev k).markAt = s.markAt ∧ (s.setRoute dev k).markSeq = s.markSeq ∧ (s.setRoute dev k).sampler = s.sampler ∧ (s.setRoute dev k).portX = s.portX ∧ (s.setRoute dev k).gpr = s.gpr ∧ (s.setRoute dev k).ctxs = s.ctxs ∧ (s.setRoute dev k).lastIssue = s.lastIssue ∧ (s.setRoute dev k).cycleAt = s.cycleAt ∧ (s.setRoute dev k).govFine = s.govFine ∧ (s.setRoute dev k).govRem = s.govRem ∧ (s.setRoute dev k).admits = s.admits ∧ (s.setRoute dev k).unsettled = s.unsettled ∧ (s.setRoute dev k).settledAt = s.settledAt ∧ (s.setRoute dev k).drawNow = s.drawNow ∧ (s.setRoute dev k).drawPast = s.drawPast ∧ (s.setRoute dev k).busyAt = s.busyAt ∧ (s.setRoute dev k).courseAt = s.courseAt ∧ (s.setRoute dev k).idleOff = s.idleOff ∧ (s.setRoute dev k).sensors = s.sensors ∧ (s.setRoute dev k).pwrReq = s.pwrReq ∧ (s.setRoute dev k).waking = s.waking ∧ (s.setRoute dev k).scrubPos = s.scrubPos ∧ (s.setRoute dev k).passCorr = s.passCorr ∧ (s.setRoute dev k).lockTimes = s.lockTimes ∧ (s.setRoute dev k).startWait = s.startWait ∧ (s.setRoute dev k).feedAt = s.feedAt ∧ (s.setRoute dev k).clrStrat = s.clrStrat ∧ (s.setRoute dev k).imageDigest = s.imageDigest ∧ (s.setRoute dev k).flashUp = s.flashUp ∧ (s.setRoute dev k).flashQuad = s.flashQuad ∧ (s.setRoute dev k).epUp = s.epUp ∧ (s.setRoute dev k).subsys = s.subsys ∧ (s.setRoute dev k).aoAt = s.aoAt ∧ (s.setRoute dev k).dmas = s.dmas ∧ (s.setRoute dev k).dmaLast = s.dmaLast ∧ (s.setRoute dev k).micro = s.micro ∧ (s.setRoute dev k).dispatch = s.dispatch ∧ (s.setRoute dev k).golden = s.golden ∧ (s.setRoute dev k).goldenDispatch = s.goldenDispatch ∧ (s.setRoute dev k).goldenLost = s.goldenLost ∧ (s.setRoute dev k).patchEnd = s.patchEnd ∧ (s.setRoute dev k).heldChecks = s.heldChecks ∧ (s.setRoute dev k).repairs = s.repairs ∧ (s.setRoute dev k).jtag = s.jtag ∧ (s.setRoute dev k).boundary = s.boundary ∧ (s.setRoute dev k).scanned = s.scanned ∧ (s.setRoute dev k).scratch = s.scratch ∧ (s.setRoute dev k).links = s.links ∧ (s.setRoute dev k).msgQ = s.msgQ ∧ (s.setRoute dev k).parked = s.parked ∧ (s.setRoute dev k).slew = s.slew ∧ (s.setRoute dev k).coastAt = s.coastAt ∧ (s.setRoute dev k).slockQ = s.slockQ ∧ (s.setRoute dev k).fltTotal = s.fltTotal ∧ (s.setRoute dev k).fltAcked = s.fltAcked ∧ (s.setRoute dev k).paused = s.paused ∧ (s.setRoute dev k).failed = s.failed ∧ (s.setRoute dev k).spares = s.spares ∧ (s.setRoute dev k).goAt = s.goAt ∧ (s.setRoute dev k).takenBy = s.takenBy ∧ (s.setRoute dev k).vecFirst = s.vecFirst ∧ (s.setRoute dev k).goOld = s.goOld ∧ (s.setRoute dev k).doneAt = s.doneAt ∧ (s.setRoute dev k).msixOn = s.msixOn ∧ (s.setRoute dev k).msixMask = s.msixMask ∧ (s.setRoute dev k).hostLink = s.hostLink ∧ (s.setRoute dev k).d3hot = s.d3hot ∧ (s.setRoute dev k).wakePin = s.wakePin ∧ (s.setRoute dev k).replies = s.replies ∧ (s.setRoute dev k).longOps = s.longOps ∧ (s.setRoute dev k).longNext = s.longNext ∧ (s.setRoute dev k).mgmtResp = s.mgmtResp ∧ (s.setRoute dev k).mgmtOut = s.mgmtOut ∧ (s.setRoute dev k).taskMem = s.taskMem ∧ (s.setRoute dev k).badTm = s.badTm ∧ (s.setRoute dev k).badScript = s.badScript ∧ (s.setRoute dev k).logMem = s.logMem ∧ (s.setRoute dev k).hostMem = s.hostMem ∧ (s.setRoute dev k).freeCtr = s.freeCtr ∧ (s.setRoute dev k).pending = s.pending := by
  refine ⟨rfl, rfl, rfl, rfl, rfl, rfl, rfl, rfl, rfl, rfl, rfl, rfl, rfl, rfl, rfl, rfl, rfl, rfl, rfl, rfl, rfl, rfl, rfl, rfl, rfl, rfl, rfl, rfl, rfl, rfl, rfl, rfl, rfl, rfl, rfl, rfl, rfl, rfl, rfl, rfl, rfl, rfl, rfl, rfl, rfl, rfl, rfl, rfl, rfl, rfl, rfl, rfl, rfl, rfl, rfl, rfl, rfl, rfl, rfl, rfl, rfl, rfl, rfl, rfl, rfl, rfl, rfl, rfl, rfl, rfl, rfl, rfl, rfl, rfl, rfl, rfl, rfl, rfl, rfl, rfl, rfl, rfl, rfl, rfl, rfl, rfl, rfl, rfl, rfl, rfl, rfl, rfl, rfl, rfl, rfl, rfl, rfl, rfl, rfl, rfl, rfl, rfl, rfl, rfl, rfl, rfl, rfl, rfl, rfl, rfl, rfl, rfl, rfl, rfl, rfl, rfl, rfl, rfl, rfl, rfl, rfl, rfl, rfl, rfl, rfl, rfl⟩
theorem State.setRoute_part (s : State) (dev : Nat) (k : Option Nat) (a : Area) (h : a ≠ .mortar) : (s.setRoute dev k).part a = s.part a := by
  cases a <;> first | rfl | exact absurd rfl h

@[simp] theorem State.setSig_fields (s : State) (k : Nat) (x : SigX) :
    (s.setSig k x).variant = s.variant ∧ (s.setSig k x).ownerKey = s.ownerKey ∧ (s.setSig k x).ownerSign = s.ownerSign ∧ (s.setSig k x).now = s.now ∧ (s.setSig k x).aoRem = s.aoRem ∧ (s.setSig k x).copies = s.copies ∧ (s.setSig k x).beacon = s.beacon ∧ (s.setSig k x).trimmed = s.trimmed ∧ (s.setSig k x).stray = s.stray ∧ (s.setSig k x).aoEntry = s.aoEntry ∧ (s.setSig k x).regs = s.regs ∧ (s.setSig k x).latch = s.latch ∧ (s.setSig k x).lastRead = s.lastRead ∧ (s.setSig k x).barData = s.barData ∧ (s.setSig k x).readHi = s.readHi ∧ (s.setSig k x).chans = s.chans ∧ (s.setSig k x).bridges = s.bridges ∧ (s.setSig k x).trips = s.trips ∧ (s.setSig k x).slots = s.slots ∧ (s.setSig k x).fols = s.fols ∧ (s.setSig k x).stopAt = s.stopAt ∧ (s.setSig k x).folMiss = s.folMiss ∧ (s.setSig k x).switching = s.switching ∧ (s.setSig k x).holdSpan = s.holdSpan ∧ (s.setSig k x).padHold = s.padHold ∧ (s.setSig k x).pinStill = s.pinStill ∧ (s.setSig k x).launched = s.launched ∧ (s.setSig k x).clockStop = s.clockStop ∧ (s.setSig k x).stays = s.stays ∧ (s.setSig k x).pinIn = s.pinIn ∧ (s.setSig k x).unsensed = s.unsensed ∧ (s.setSig k x).lines = s.lines ∧ (s.setSig k x).edges = s.edges ∧ (s.setSig k x).doms = s.doms ∧ (s.setSig k x).entries = s.entries ∧ (s.setSig k x).calAnswer = s.calAnswer ∧ (s.setSig k x).calTurn = s.calTurn ∧ (s.setSig k x).calIssue = s.calIssue ∧ (s.setSig k x).offers = s.offers ∧ (s.setSig k x).lastEv = s.lastEv ∧ (s.setSig k x).afterMark = s.afterMark ∧ (s.setSig k x).dropping = s.dropping ∧ (s.setSig k x).logQ = s.logQ ∧ (s.setSig k x).logRecs = s.logRecs ∧ (s.setSig k x).logLast = s.logLast ∧ (s.setSig k x).markAt = s.markAt ∧ (s.setSig k x).markSeq = s.markSeq ∧ (s.setSig k x).sampler = s.sampler ∧ (s.setSig k x).portX = s.portX ∧ (s.setSig k x).gpr = s.gpr ∧ (s.setSig k x).ctxs = s.ctxs ∧ (s.setSig k x).lastIssue = s.lastIssue ∧ (s.setSig k x).cycleAt = s.cycleAt ∧ (s.setSig k x).govFine = s.govFine ∧ (s.setSig k x).govRem = s.govRem ∧ (s.setSig k x).admits = s.admits ∧ (s.setSig k x).unsettled = s.unsettled ∧ (s.setSig k x).settledAt = s.settledAt ∧ (s.setSig k x).drawNow = s.drawNow ∧ (s.setSig k x).drawPast = s.drawPast ∧ (s.setSig k x).busyAt = s.busyAt ∧ (s.setSig k x).courseAt = s.courseAt ∧ (s.setSig k x).idleOff = s.idleOff ∧ (s.setSig k x).sensors = s.sensors ∧ (s.setSig k x).pwrReq = s.pwrReq ∧ (s.setSig k x).waking = s.waking ∧ (s.setSig k x).scrubPos = s.scrubPos ∧ (s.setSig k x).passCorr = s.passCorr ∧ (s.setSig k x).lockTimes = s.lockTimes ∧ (s.setSig k x).startWait = s.startWait ∧ (s.setSig k x).feedAt = s.feedAt ∧ (s.setSig k x).clrStrat = s.clrStrat ∧ (s.setSig k x).imageDigest = s.imageDigest ∧ (s.setSig k x).flashUp = s.flashUp ∧ (s.setSig k x).flashQuad = s.flashQuad ∧ (s.setSig k x).epUp = s.epUp ∧ (s.setSig k x).subsys = s.subsys ∧ (s.setSig k x).aoAt = s.aoAt ∧ (s.setSig k x).dmas = s.dmas ∧ (s.setSig k x).dmaLast = s.dmaLast ∧ (s.setSig k x).micro = s.micro ∧ (s.setSig k x).dispatch = s.dispatch ∧ (s.setSig k x).golden = s.golden ∧ (s.setSig k x).goldenDispatch = s.goldenDispatch ∧ (s.setSig k x).goldenLost = s.goldenLost ∧ (s.setSig k x).patchEnd = s.patchEnd ∧ (s.setSig k x).heldChecks = s.heldChecks ∧ (s.setSig k x).repairs = s.repairs ∧ (s.setSig k x).jtag = s.jtag ∧ (s.setSig k x).boundary = s.boundary ∧ (s.setSig k x).scanned = s.scanned ∧ (s.setSig k x).scratch = s.scratch ∧ (s.setSig k x).links = s.links ∧ (s.setSig k x).routes = s.routes ∧ (s.setSig k x).msgQ = s.msgQ ∧ (s.setSig k x).parked = s.parked ∧ (s.setSig k x).slew = s.slew ∧ (s.setSig k x).coastAt = s.coastAt ∧ (s.setSig k x).slockQ = s.slockQ ∧ (s.setSig k x).fltTotal = s.fltTotal ∧ (s.setSig k x).fltAcked = s.fltAcked ∧ (s.setSig k x).paused = s.paused ∧ (s.setSig k x).failed = s.failed ∧ (s.setSig k x).spares = s.spares ∧ (s.setSig k x).goAt = s.goAt ∧ (s.setSig k x).takenBy = s.takenBy ∧ (s.setSig k x).vecFirst = s.vecFirst ∧ (s.setSig k x).goOld = s.goOld ∧ (s.setSig k x).doneAt = s.doneAt ∧ (s.setSig k x).msixOn = s.msixOn ∧ (s.setSig k x).msixMask = s.msixMask ∧ (s.setSig k x).hostLink = s.hostLink ∧ (s.setSig k x).d3hot = s.d3hot ∧ (s.setSig k x).wakePin = s.wakePin ∧ (s.setSig k x).replies = s.replies ∧ (s.setSig k x).longOps = s.longOps ∧ (s.setSig k x).longNext = s.longNext ∧ (s.setSig k x).mgmtResp = s.mgmtResp ∧ (s.setSig k x).mgmtOut = s.mgmtOut ∧ (s.setSig k x).taskMem = s.taskMem ∧ (s.setSig k x).badTm = s.badTm ∧ (s.setSig k x).badScript = s.badScript ∧ (s.setSig k x).logMem = s.logMem ∧ (s.setSig k x).hostMem = s.hostMem ∧ (s.setSig k x).freeCtr = s.freeCtr ∧ (s.setSig k x).pending = s.pending := by
  refine ⟨rfl, rfl, rfl, rfl, rfl, rfl, rfl, rfl, rfl, rfl, rfl, rfl, rfl, rfl, rfl, rfl, rfl, rfl, rfl, rfl, rfl, rfl, rfl, rfl, rfl, rfl, rfl, rfl, rfl, rfl, rfl, rfl, rfl, rfl, rfl, rfl, rfl, rfl, rfl, rfl, rfl, rfl, rfl, rfl, rfl, rfl, rfl, rfl, rfl, rfl, rfl, rfl, rfl, rfl, rfl, rfl, rfl, rfl, rfl, rfl, rfl, rfl, rfl, rfl, rfl, rfl, rfl, rfl, rfl, rfl, rfl, rfl, rfl, rfl, rfl, rfl, rfl, rfl, rfl, rfl, rfl, rfl, rfl, rfl, rfl, rfl, rfl, rfl, rfl, rfl, rfl, rfl, rfl, rfl, rfl, rfl, rfl, rfl, rfl, rfl, rfl, rfl, rfl, rfl, rfl, rfl, rfl, rfl, rfl, rfl, rfl, rfl, rfl, rfl, rfl, rfl, rfl, rfl, rfl, rfl, rfl, rfl, rfl, rfl, rfl, rfl⟩
theorem State.setSig_part (s : State) (k : Nat) (x : SigX) (a : Area) (h : a ≠ .log) : (s.setSig k x).part a = s.part a := by
  cases a <;> first | rfl | exact absurd rfl h

@[simp] theorem State.setPort_fields (s : State) (p : Nat) (x : PortX) :
    (s.setPort p x).variant = s.variant ∧ (s.setPort p x).ownerKey = s.ownerKey ∧ (s.setPort p x).ownerSign = s.ownerSign ∧ (s.setPort p x).now = s.now ∧ (s.setPort p x).aoRem = s.aoRem ∧ (s.setPort p x).copies = s.copies ∧ (s.setPort p x).beacon = s.beacon ∧ (s.setPort p x).trimmed = s.trimmed ∧ (s.setPort p x).stray = s.stray ∧ (s.setPort p x).aoEntry = s.aoEntry ∧ (s.setPort p x).regs = s.regs ∧ (s.setPort p x).latch = s.latch ∧ (s.setPort p x).lastRead = s.lastRead ∧ (s.setPort p x).barData = s.barData ∧ (s.setPort p x).readHi = s.readHi ∧ (s.setPort p x).chans = s.chans ∧ (s.setPort p x).bridges = s.bridges ∧ (s.setPort p x).trips = s.trips ∧ (s.setPort p x).slots = s.slots ∧ (s.setPort p x).fols = s.fols ∧ (s.setPort p x).stopAt = s.stopAt ∧ (s.setPort p x).folMiss = s.folMiss ∧ (s.setPort p x).switching = s.switching ∧ (s.setPort p x).holdSpan = s.holdSpan ∧ (s.setPort p x).padHold = s.padHold ∧ (s.setPort p x).pinStill = s.pinStill ∧ (s.setPort p x).launched = s.launched ∧ (s.setPort p x).clockStop = s.clockStop ∧ (s.setPort p x).stays = s.stays ∧ (s.setPort p x).pinIn = s.pinIn ∧ (s.setPort p x).unsensed = s.unsensed ∧ (s.setPort p x).lines = s.lines ∧ (s.setPort p x).edges = s.edges ∧ (s.setPort p x).doms = s.doms ∧ (s.setPort p x).entries = s.entries ∧ (s.setPort p x).calAnswer = s.calAnswer ∧ (s.setPort p x).calTurn = s.calTurn ∧ (s.setPort p x).calIssue = s.calIssue ∧ (s.setPort p x).offers = s.offers ∧ (s.setPort p x).lastEv = s.lastEv ∧ (s.setPort p x).afterMark = s.afterMark ∧ (s.setPort p x).dropping = s.dropping ∧ (s.setPort p x).logQ = s.logQ ∧ (s.setPort p x).sigs = s.sigs ∧ (s.setPort p x).logRecs = s.logRecs ∧ (s.setPort p x).logLast = s.logLast ∧ (s.setPort p x).markAt = s.markAt ∧ (s.setPort p x).markSeq = s.markSeq ∧ (s.setPort p x).sampler = s.sampler ∧ (s.setPort p x).gpr = s.gpr ∧ (s.setPort p x).ctxs = s.ctxs ∧ (s.setPort p x).lastIssue = s.lastIssue ∧ (s.setPort p x).cycleAt = s.cycleAt ∧ (s.setPort p x).govFine = s.govFine ∧ (s.setPort p x).govRem = s.govRem ∧ (s.setPort p x).admits = s.admits ∧ (s.setPort p x).unsettled = s.unsettled ∧ (s.setPort p x).settledAt = s.settledAt ∧ (s.setPort p x).drawNow = s.drawNow ∧ (s.setPort p x).drawPast = s.drawPast ∧ (s.setPort p x).busyAt = s.busyAt ∧ (s.setPort p x).courseAt = s.courseAt ∧ (s.setPort p x).idleOff = s.idleOff ∧ (s.setPort p x).sensors = s.sensors ∧ (s.setPort p x).pwrReq = s.pwrReq ∧ (s.setPort p x).waking = s.waking ∧ (s.setPort p x).scrubPos = s.scrubPos ∧ (s.setPort p x).passCorr = s.passCorr ∧ (s.setPort p x).lockTimes = s.lockTimes ∧ (s.setPort p x).startWait = s.startWait ∧ (s.setPort p x).feedAt = s.feedAt ∧ (s.setPort p x).clrStrat = s.clrStrat ∧ (s.setPort p x).imageDigest = s.imageDigest ∧ (s.setPort p x).flashUp = s.flashUp ∧ (s.setPort p x).flashQuad = s.flashQuad ∧ (s.setPort p x).epUp = s.epUp ∧ (s.setPort p x).subsys = s.subsys ∧ (s.setPort p x).aoAt = s.aoAt ∧ (s.setPort p x).dmas = s.dmas ∧ (s.setPort p x).dmaLast = s.dmaLast ∧ (s.setPort p x).micro = s.micro ∧ (s.setPort p x).dispatch = s.dispatch ∧ (s.setPort p x).golden = s.golden ∧ (s.setPort p x).goldenDispatch = s.goldenDispatch ∧ (s.setPort p x).goldenLost = s.goldenLost ∧ (s.setPort p x).patchEnd = s.patchEnd ∧ (s.setPort p x).heldChecks = s.heldChecks ∧ (s.setPort p x).repairs = s.repairs ∧ (s.setPort p x).jtag = s.jtag ∧ (s.setPort p x).boundary = s.boundary ∧ (s.setPort p x).scanned = s.scanned ∧ (s.setPort p x).scratch = s.scratch ∧ (s.setPort p x).links = s.links ∧ (s.setPort p x).routes = s.routes ∧ (s.setPort p x).msgQ = s.msgQ ∧ (s.setPort p x).parked = s.parked ∧ (s.setPort p x).slew = s.slew ∧ (s.setPort p x).coastAt = s.coastAt ∧ (s.setPort p x).slockQ = s.slockQ ∧ (s.setPort p x).fltTotal = s.fltTotal ∧ (s.setPort p x).fltAcked = s.fltAcked ∧ (s.setPort p x).paused = s.paused ∧ (s.setPort p x).failed = s.failed ∧ (s.setPort p x).spares = s.spares ∧ (s.setPort p x).goAt = s.goAt ∧ (s.setPort p x).takenBy = s.takenBy ∧ (s.setPort p x).vecFirst = s.vecFirst ∧ (s.setPort p x).goOld = s.goOld ∧ (s.setPort p x).doneAt = s.doneAt ∧ (s.setPort p x).msixOn = s.msixOn ∧ (s.setPort p x).msixMask = s.msixMask ∧ (s.setPort p x).hostLink = s.hostLink ∧ (s.setPort p x).d3hot = s.d3hot ∧ (s.setPort p x).wakePin = s.wakePin ∧ (s.setPort p x).replies = s.replies ∧ (s.setPort p x).longOps = s.longOps ∧ (s.setPort p x).longNext = s.longNext ∧ (s.setPort p x).mgmtResp = s.mgmtResp ∧ (s.setPort p x).mgmtOut = s.mgmtOut ∧ (s.setPort p x).taskMem = s.taskMem ∧ (s.setPort p x).badTm = s.badTm ∧ (s.setPort p x).badScript = s.badScript ∧ (s.setPort p x).logMem = s.logMem ∧ (s.setPort p x).hostMem = s.hostMem ∧ (s.setPort p x).freeCtr = s.freeCtr ∧ (s.setPort p x).pending = s.pending := by
  refine ⟨rfl, rfl, rfl, rfl, rfl, rfl, rfl, rfl, rfl, rfl, rfl, rfl, rfl, rfl, rfl, rfl, rfl, rfl, rfl, rfl, rfl, rfl, rfl, rfl, rfl, rfl, rfl, rfl, rfl, rfl, rfl, rfl, rfl, rfl, rfl, rfl, rfl, rfl, rfl, rfl, rfl, rfl, rfl, rfl, rfl, rfl, rfl, rfl, rfl, rfl, rfl, rfl, rfl, rfl, rfl, rfl, rfl, rfl, rfl, rfl, rfl, rfl, rfl, rfl, rfl, rfl, rfl, rfl, rfl, rfl, rfl, rfl, rfl, rfl, rfl, rfl, rfl, rfl, rfl, rfl, rfl, rfl, rfl, rfl, rfl, rfl, rfl, rfl, rfl, rfl, rfl, rfl, rfl, rfl, rfl, rfl, rfl, rfl, rfl, rfl, rfl, rfl, rfl, rfl, rfl, rfl, rfl, rfl, rfl, rfl, rfl, rfl, rfl, rfl, rfl, rfl, rfl, rfl, rfl, rfl, rfl, rfl, rfl, rfl, rfl, rfl⟩
theorem State.setPort_part (s : State) (p : Nat) (x : PortX) (a : Area) (h : a ≠ .port) : (s.setPort p x).part a = s.part a := by
  cases a <;> first | rfl | exact absurd rfl h

end Sys2Proof.Machine
end

