-- ==== Sys2Proof/Laws/Access.lean ====
section
/-! SUPPORT. The shared operations of commands where they act: `gate`, `access`, `happens`, `onBus`, `issue`. -/

namespace Sys2Proof.Machine

/-! ## Time -/

/-- A cycle of the master moves its count and what is left of its slew. -/
theorem State.tick_spec (s : State) : ∃ n l, s.tick = { s with now := n, slew := l } := by
  unfold State.tick
  split
  · exact ⟨_, _, rfl⟩
  · split
    · exact ⟨_, _, rfl⟩
    · exact ⟨_, _, rfl⟩

@[simp] theorem State.tick_pstate (s : State) : s.tick.pstate = s.pstate := by
  obtain ⟨n, l, h⟩ := s.tick_spec; rw [h]; rfl
@[simp] theorem State.tick_regs (s : State) : s.tick.regs = s.regs := by
  obtain ⟨n, l, h⟩ := s.tick_spec; rw [h]
@[simp] theorem State.tick_variant (s : State) : s.tick.variant = s.variant := by
  obtain ⟨n, l, h⟩ := s.tick_spec; rw [h]
@[simp] theorem State.tick_rd (s : State) (n : RegName) (i j : Nat) : s.tick.rd n i j = s.rd n i j := by
  obtain ⟨_, _, h⟩ := s.tick_spec; rw [h]; rfl

/-- A timed event whose condition holds acts on the state that time has reached. -/
theorem State.happens_eq {s : State} {i : Nat} {ts : Stamp} {ok : State → Bool} (hp : s.pstate < 3)
    (h : ok (s.reachIn i ts) = true) (f : State → State) : s.happens i ts ok f = f (s.reachIn i ts) := by
  unfold State.happens
  have hq : (s.reachIn i ts).pstate < 3 := hp
  simp [hq, h]

/-- An unmet condition lets time pass and no more. -/
theorem State.happens_not {s : State} {i : Nat} {ts : Stamp} {ok : State → Bool} (h : ok (s.reachIn i ts) = false)
    (f : State → State) : s.happens i ts ok f = s.reachIn i ts := by
  unfold State.happens
  simp [h]

/-! ## Register writes -/

/-- An access above Nap is made a cycle later. -/
theorem State.onBus_eq {s : State} (hp : s.pstate < 3) (f : State → State) : s.onBus f = f s.tick := by
  unfold State.onBus
  rw [if_neg (by omega)]

/-- A write to a fitted instance above Nap: dropped where it is refused, and else its effect. -/
theorem State.gate_fitted {s : State} {m : Master} {n : RegName} {i j : Nat} (ha : s.keyAbsent ⟨n, i, j⟩ = false)
    (hp : s.pstate < 3) (f : State → State) :
    s.gate m n i j f = match (s.wakeFor (RegKey.unit ⟨n, i, j⟩)).refusal m (RegKey.unit ⟨n, i, j⟩) ⟨n, i, j⟩ with
      | some r => (s.wakeFor (RegKey.unit ⟨n, i, j⟩)).dropWrite m (RegKey.unit ⟨n, i, j⟩) ⟨n, i, j⟩ r
      | none => f (s.wakeFor (RegKey.unit ⟨n, i, j⟩)) := by
  unfold State.gate
  rw [if_neg (by simp only [ha, Bool.false_eq_true, false_or]; omega)] <;> rfl

/-- A register write that acts does its effect on the state it finds. -/
theorem State.access_eq {s : State} {m : Master} {n : RegName} {i j : Nat} (h : s.lets m n i j = true) (f : State → State) :
    s.access m n i j f = f (s.arrived n i j) := by
  simp only [State.lets, State.arrived, Bool.and_eq_true, Bool.not_eq_true', decide_eq_true_eq,
    Option.isNone_iff_eq_none] at h
  obtain ⟨⟨h1, h2⟩, h3⟩ := h
  unfold State.access State.arrived
  rw [State.onBus_eq h2, State.gate_fitted h1 (by simpa using h2), h3]

/-- A write that is refused is dropped and counted. -/
theorem State.access_refused {s : State} {m : Master} {n : RegName} {i j : Nat} {r : AccReason}
    (ha : s.tick.keyAbsent ⟨n, i, j⟩ = false) (hp : s.pstate < 3)
    (h : (s.arrived n i j).refusal m (RegKey.unit ⟨n, i, j⟩) ⟨n, i, j⟩ = some r) (f : State → State) :
    s.access m n i j f = (s.arrived n i j).dropWrite m (RegKey.unit ⟨n, i, j⟩) ⟨n, i, j⟩ r := by
  unfold State.access State.arrived at *
  rw [State.onBus_eq hp, State.gate_fitted ha (by simpa using hp), h]

/-- A write to an absent instance is ignored. -/
theorem State.access_absent {s : State} {m : Master} {n : RegName} {i j : Nat} (ha : s.tick.keyAbsent ⟨n, i, j⟩ = true)
    (hp : s.pstate < 3) (f : State → State) : s.access m n i j f = s.tick := by
  unfold State.access State.gate
  rw [State.onBus_eq hp, if_pos (.inl ha)]

/-- In Nap and deeper nothing reaches a register. -/
theorem State.access_deep {s : State} (hp : 3 ≤ s.pstate) (m : Master) (n : RegName) (i j : Nat) (f : State → State) :
    s.access m n i j f = s := by
  unfold State.access State.onBus
  rw [if_pos hp]

/-! ## Issue -/

/-- Two changes of one context are one. -/
theorem State.onCtx_onCtx (s : State) (x : Nat) (f g : Ctx → Ctx) : (s.onCtx x f).onCtx x g = s.onCtx x (fun c => g (f c)) := by
  simp [State.onCtx, State.setCtx, State.ctx]

/-- What waking a gated island can do. -/
theorem State.wakeIsland_spec (s : State) (b : Nat) : ∃ r w, s.wakeIsland b = { s with regs := r, waking := w } ∧
    ∀ n i j, n ≠ .govIsl → n ≠ .govWakeCnt → (s.wakeIsland b).rd n i j = s.rd n i j := by
  unfold State.wakeIsland State.wakeUp
  split
  · split
    · refine ⟨_, _, rfl, fun n i j h1 h2 => ?_⟩
      simp only [State.bumpW, State.setFld, State.setFlag]
      rw [State.rd_wr_name _ _ _ _ _ _ _ _ h2, State.rd_wr_name _ _ _ _ _ _ _ _ h1]
      rfl
    · refine ⟨_, _, rfl, fun n i j h1 h2 => ?_⟩
      simp only [State.bumpW, State.setFld, State.setFlag]
      rw [State.rd_wr_name _ _ _ _ _ _ _ _ h2, State.rd_wr_name _ _ _ _ _ _ _ _ h1]
  · exact ⟨_, _, rfl, fun _ _ _ _ _ => rfl⟩

/-- Charging an opcode changes what waits to be settled, and no more. -/
theorem State.chargeOp_spec (s : State) (x op : Nat) : ∃ m, s.chargeOp x op = { s with unsettled := m } := by
  have step : ∀ (l : List Nat) (u : State), ∃ m, l.foldl (fun v c => v.chargeWords x c (Config.microwords op c)) u =
      { u with unsettled := m } := by
    intro l
    induction l with
    | nil => exact fun u => ⟨_, rfl⟩
    | cons c r ih =>
      intro u
      obtain ⟨m, h⟩ := ih (u.chargeWords x c (Config.microwords op c))
      exact ⟨m, by rw [List.foldl_cons, h]; rfl⟩
  obtain ⟨m, h⟩ := step (List.range 8) s
  unfold State.chargeOp State.each
  dsimp only
  rw [h]
  split
  · exact ⟨_, rfl⟩
  · exact ⟨m, rfl⟩

/-- Everything that counting an instruction does: its cycle comes, the island wakes, two counters step, the context goes behind
those of its priority and is busy for a while. -/
theorem State.countIssue_spec (s : State) (x op : Nat) : ∃ n r w b l c t, s.countIssue x op = { s with
      now := n, regs := r, waking := w, busyAt := b, lastIssue := l, cycleAt := c
      ctxs := s.ctxs.set {} x { s.ctx x with readyAt := t } } ∧
    ∀ nm i j, nm ∉ [RegName.govIsl, .govWakeCnt, .engIssue, .ctxIssued] → (s.countIssue x op).rd nm i j = s.rd nm i j := by
  obtain ⟨r, w, h, hr⟩ := (s.reach (s.issueAt x)).wakeIsland_spec (x / 32)
  unfold State.countIssue
  dsimp only
  rw [h] at hr ⊢
  refine ⟨_, _, _, _, _, _, _, rfl, ?_⟩
  intro nm i j hn
  simp only [List.mem_cons, List.not_mem_nil, or_false, not_or] at hn
  obtain ⟨h1, h2, h3, h4⟩ := hn
  have hk := hr nm i j h1 h2
  simp only [State.bumpW, State.setFld]
  exact ((State.rd_wr_name _ _ _ _ _ _ _ _ h4).trans (State.rd_wr_name _ _ _ _ _ _ _ _ h3)).trans hk

/-- Everything that issuing an instruction does before it acts. -/
theorem State.issued_spec (s : State) (x op : Nat) : ∃ n r w b l c t u, s.issued x op = { s with
      now := n, regs := r, waking := w, busyAt := b, lastIssue := l, cycleAt := c, unsettled := u
      ctxs := s.ctxs.set {} x { s.ctx x with readyAt := t } } ∧
    ∀ nm i j, nm ∉ [RegName.govIsl, .govWakeCnt, .engIssue, .ctxIssued] → (s.issued x op).rd nm i j = s.rd nm i j := by
  obtain ⟨n, r, w, b, l, c, t, h, hr⟩ := s.countIssue_spec x op
  obtain ⟨u, hu⟩ := (s.countIssue x op).chargeOp_spec x op
  unfold State.issued
  refine ⟨n, r, w, b, l, c, t, u, by rw [hu, h], fun nm i j hn => ?_⟩
  rw [hu]
  exact hr nm i j hn

theorem State.issued_rd (s : State) (x op : Nat) (nm : RegName) (i j : Nat)
    (h : nm ∉ [RegName.govIsl, .govWakeCnt, .engIssue, .ctxIssued]) : (s.issued x op).rd nm i j = s.rd nm i j := by
  obtain ⟨_, _, _, _, _, _, _, _, -, hr⟩ := s.issued_spec x op
  exact hr nm i j h
@[simp] theorem State.issued_gpr (s : State) (x op : Nat) : (s.issued x op).gpr = s.gpr := by
  obtain ⟨_, _, _, _, _, _, _, _, h, -⟩ := s.issued_spec x op; rw [h]
@[simp] theorem State.issued_taskMem (s : State) (x op : Nat) : (s.issued x op).taskMem = s.taskMem := by
  obtain ⟨_, _, _, _, _, _, _, _, h, -⟩ := s.issued_spec x op; rw [h]
@[simp] theorem State.issued_badTm (s : State) (x op : Nat) : (s.issued x op).badTm = s.badTm := by
  obtain ⟨_, _, _, _, _, _, _, _, h, -⟩ := s.issued_spec x op; rw [h]
@[simp] theorem State.issued_variant (s : State) (x op : Nat) : (s.issued x op).variant = s.variant := by
  obtain ⟨_, _, _, _, _, _, _, _, h, -⟩ := s.issued_spec x op; rw [h]
@[simp] theorem State.issued_latch (s : State) (x op : Nat) : (s.issued x op).latch = s.latch := by
  obtain ⟨_, _, _, _, _, _, _, _, h, -⟩ := s.issued_spec x op; rw [h]
@[simp] theorem State.issued_g (s : State) (x op y : Nat) (r : GReg) : (s.issued x op).g y r = s.g y r := by
  simp [State.g]
@[simp] theorem State.issued_tm (s : State) (x op a : Nat) : (s.issued x op).tm a = s.tm a := by
  simp [State.tm]
@[simp] theorem State.issued_badWordIn (s : State) (x op a n : Nat) : (s.issued x op).badWordIn a n = s.badWordIn a n := by
  simp [State.badWordIn]

/-- A context is as before, but for the time of its next issue. -/
theorem State.issued_ctx (s : State) (x op y : Nat) : ∃ t, (s.issued x op).ctx y = { s.ctx y with readyAt := t } := by
  obtain ⟨n, r, w, b, l, c, t, u, h, -⟩ := s.issued_spec x op
  rw [h]
  by_cases hy : y = x
  · subst hy
    exact ⟨t, SMap.at_set_self _ _ _ _⟩
  · exact ⟨(s.ctx y).readyAt, SMap.at_set_ne _ _ _ _ _ hy⟩
@[simp] theorem State.issued_pc (s : State) (x op y : Nat) : ((s.issued x op).ctx y).pc = (s.ctx y).pc := by
  obtain ⟨t, h⟩ := s.issued_ctx x op y; rw [h]
@[simp] theorem State.issued_sp (s : State) (x op y : Nat) : ((s.issued x op).ctx y).sp = (s.ctx y).sp := by
  obtain ⟨t, h⟩ := s.issued_ctx x op y; rw [h]
@[simp] theorem State.issued_prog (s : State) (x op y : Nat) : ((s.issued x op).ctx y).prog = (s.ctx y).prog := by
  obtain ⟨t, h⟩ := s.issued_ctx x op y; rw [h]
@[simp] theorem State.issued_cause (s : State) (x op y : Nat) : ((s.issued x op).ctx y).cause = (s.ctx y).cause := by
  obtain ⟨t, h⟩ := s.issued_ctx x op y; rw [h]
@[simp] theorem State.issued_evq (s : State) (x op y : Nat) : ((s.issued x op).ctx y).evq = (s.ctx y).evq := by
  obtain ⟨t, h⟩ := s.issued_ctx x op y; rw [h]
@[simp] theorem State.issued_mons (s : State) (x op y : Nat) : ((s.issued x op).ctx y).mons = (s.ctx y).mons := by
  obtain ⟨t, h⟩ := s.issued_ctx x op y; rw [h]
@[simp] theorem State.issued_traps (s : State) (x op y : Nat) : ((s.issued x op).ctx y).traps = (s.ctx y).traps := by
  obtain ⟨t, h⟩ := s.issued_ctx x op y; rw [h]
@[simp] theorem State.issued_psw (s : State) (x op y : Nat) : (s.issued x op).psw y = s.psw y := by
  obtain ⟨t, h⟩ := s.issued_ctx x op y
  simp only [State.psw, State.ceil, State.cf, State.fld, h]
  rw [State.issued_rd _ _ _ _ _ _ (by decide)]
@[simp] theorem State.issued_privOf (s : State) (x op y : Nat) : (s.issued x op).privOf y = s.privOf y := by
  simp [State.privOf]
@[simp] theorem State.issued_accFault (s : State) (x op y : Nat) (k : AccKind) (a n al : Nat) :
    (s.issued x op).accFault y k a n al = s.accFault y k a n al := by
  have hw : ∀ b z, b ∉ [RegName.govIsl, .govWakeCnt, .engIssue, .ctxIssued] →
      z ∉ [RegName.govIsl, .govWakeCnt, .engIssue, .ctxIssued] → ∀ a n, (s.issued x op).inWindow y b z a n = s.inWindow y b z a n := by
    intro b z hb hz a n
    unfold State.inWindow State.cr
    rw [State.issued_rd _ _ _ _ _ _ hb, State.issued_rd _ _ _ _ _ _ hz]
  cases k <;> simp only [State.accFault, State.grants, State.issued_privOf, hw .codeBase .codeSize (by decide) (by decide),
    hw .dataBase .dataSize (by decide) (by decide), hw .tabBase .tabSize (by decide) (by decide)]

/-- Where counting leaves the fetch and the dispatch as they were. -/
theorem State.countIssue_fetch (s : State) (x op : Nat) :
    (s.countIssue x op).accFault x .fetch ((s.countIssue x op).ctx x).pc.toNat 4 4 = s.accFault x .fetch (s.ctx x).pc.toNat 4 4 := by
  obtain ⟨u, hu⟩ := (s.countIssue x op).chargeOp_spec x op
  have h1 := s.issued_accFault x op x .fetch (s.ctx x).pc.toNat 4 4
  have h2 := s.issued_pc x op x
  unfold State.issued at h1 h2
  rw [hu] at h1 h2
  exact (congrArg (fun p : Word => (s.countIssue x op).accFault x .fetch p.toNat 4 4) h2).trans h1

/-- An instruction that starts, with its unused fields 0, does its effect once it is counted and charged. -/
theorem State.issue_eq {s : State} {x op : Nat} {fits : Bool} (h : s.starts x op = true) (hf : fits = true) (f : State → State) :
    s.issue x op fits f = f (s.issued x op) := by
  simp only [State.starts, Bool.and_eq_true, Option.isNone_iff_eq_none, Option.isSome_iff_exists] at h
  obtain ⟨⟨⟨h1, h2⟩, ⟨a, h3⟩⟩, h4⟩ := h
  obtain ⟨n, r, w, b, l, c, t, hc, -⟩ := s.countIssue_spec x op
  have hs : (s.countIssue x op).startOf (x / 32) op true = some a := by rw [hc]; exact h3
  have hb : (s.countIssue x op).isBase (x / 32) op = true := by rw [hc]; exact h4
  unfold State.issue
  simp only [h1, s.countIssue_fetch, h2, hs, hb, hf, State.issued, Bool.not_true, Bool.and_self, Bool.false_eq_true, if_false,
    if_true]

/-- An instruction that starts with an unused field not 0 raises ILLEGAL (R173). -/
theorem State.issue_unfit {s : State} {x op : Nat} (h : s.starts x op = true) (f : State → State) :
    s.issue x op false f = (s.countIssue x op).raiseFault x fcIllegal := by
  simp only [State.starts, Bool.and_eq_true, Option.isNone_iff_eq_none, Option.isSome_iff_exists] at h
  obtain ⟨⟨⟨h1, h2⟩, ⟨a, h3⟩⟩, h4⟩ := h
  obtain ⟨n, r, w, b, l, c, t, hc, -⟩ := s.countIssue_spec x op
  have hs : (s.countIssue x op).startOf (x / 32) op true = some a := by rw [hc]; exact h3
  have hb : (s.countIssue x op).isBase (x / 32) op = true := by rw [hc]; exact h4
  unfold State.issue
  simp only [h1, s.countIssue_fetch, h2, hs, hb, Bool.not_true, Bool.and_self, Bool.false_eq_true, if_false]

/-- A context that is not ready issues nothing. -/
theorem State.issue_not {s : State} {x op : Nat} {fits : Bool} (h : s.canIssue x = false) (f : State → State) :
    s.issue x op fits f = s := by
  unfold State.issue
  simp [h]

end Sys2Proof.Machine
end

