-- ==== Sys2Proof/Tests/Slice0.lean ====
section
/-! SUPPORT. Tests, expected results by hand from the spec: ill-formed terms, words from the encodings of R173 and R174, and for
the statements states and operands that meet their hypotheses, with one step. -/

namespace Sys2Proof.Machine

set_option Elab.async false

/-- The outcome is a next state with the property. -/
def nextIs (o : Host.Outcome State Fault Refusal) (p : State → Bool) : Bool := match o with | .next t => p t | _ => false

/-! ## Well-formedness -/

def tPacket (n : Nat) (path : CmdPath) : Packet :=
  { path := path, tag := 1, wait := false, quiet := false, target := 0xFFFF, params := List.replicate n 0 }

theorem test_wf_read_width : (Instr.droppedRead .host 0 9).wellFormed = false := by decide
theorem test_wf_write_width : (Instr.registerWrite .host 0 9 0).wellFormed = false := by decide
theorem test_wf_box_packet : (Instr.echo (tPacket 15 (.hostBox 0))).wellFormed = false := by decide
theorem test_wf_ring_packet : (Instr.echo (tPacket 255 (.ring 0))).wellFormed = false := by decide +kernel
theorem test_wf_ring_packet_fits : (Instr.echo (tPacket 15 (.ring 0))).wellFormed = true := by decide
def tFrame (ty n : Nat) : RxFrame := { seq := 0, crc := 0, frame := ⟨ty, 0, 0, false, 0, List.replicate n 0⟩ }
theorem test_wf_frame : (Instr.frameReceive 0 (tFrame 1 19) 0).wellFormed = false := by decide
theorem test_wf_frame_type : (Instr.frameReceive 0 (tFrame 16 0) 0).wellFormed = false := by decide
theorem test_wf_peer : (Instr.peerMboxReceive { dev := 1, srcIdx := 0, dstIdx := 0, op := .data [] } 0).wellFormed = false := by
  decide
theorem test_wf_link :
    (Instr.linkTrain 0 { num := 1, root := false, depth := 16, role := 0, joined := false, comma := true } 0).wellFormed = false := by
  decide
theorem test_wf_memory : (Instr.mcMemory 3 0x400000 0).wellFormed = false := by decide
theorem test_wf_boundary : (Instr.samplePreload (List.replicate 438 true)).wellFormed = true ∧
    (Instr.samplePreload (List.replicate 439 true)).wellFormed = false := by decide +kernel

/-! ## Words -/

theorem test_word_add : decodeTask 0 0x01234000 = .add 0 2 3 4 := by decide
theorem test_word_andi : decodeTask 1 0x1385000F = .andi 1 8 5 0x000F := by decide
theorem test_word_bne : decodeTask 2 0x42000003 = .bne 2 3 := by decide
theorem test_word_ldw : decodeTask 3 0x30120010 = .ldw 3 1 2 0x10 := by decide
theorem test_word_wait_event : decodeTask 4 0x50403000 = .waitEvent 4 4 0 0 := by decide
theorem test_word_tbl1 : decodeTask 5 0x78647000 = .tbl1 5 6 4 7 := by decide
theorem test_word_reserved_opcode : decodeTask 6 0x12000000 = .illegal 6 0x12000000 := by decide
theorem test_word_unused_field : decodeTask 7 0x01234001 = .illegal 7 0x01234001 := by decide
theorem test_word_well_formed : TaskWf (.andi 1 8 5 0xFFFF) = true ∧ taskCtx (.andi 1 8 5 0xFFFF) = some 1 := by decide
theorem test_word_ill_formed : TaskWf (.shli 1 8 5 32) = false ∧ TaskWf (.trapUnknown 1 0x80) = false ∧
    TaskWf (.mboxSend 1 2 3 0x4000) = false := by decide

/-! ## Task instructions -/

/-- Context 3 of an FJ4-512, READY in code at 0x100 with data from 0x800 to 0xA00, its general registers as given. -/
def tCtx (g : SMap Word) : State :=
  let s := ((({ State.reset with admits := [(0, 15)], gpr := g }.wr .sysId 1).setCtxState 3 2).setCr .codeSize 0x400 3)
  let s := (s.setCr .dataBase 0x800 3).setCr .dataSize 0x200 3
  s.setCtx 3 { pc := 0x100, sp := 0x900, psw := 0x1030 }

/-- The same context with words of data from 0x800 on. -/
def tMem (g : SMap Word) (ws : List Word) : State := { tCtx g with taskMem := Mem.putWords [] 0x800 ws }

theorem test_starts : ((List.range 256).all (fun op => (tCtx []).starts 3 op)) = true := by decide +kernel
theorem test_not_starts : ((tCtx []).setCtxState 3 4).starts 3 1 = false := by decide
theorem test_add_wraps : nextIs (exec (.add 3 2 4 5) (tCtx [(52, 0xFFFFFFFF), (53, 1)])) (fun t =>
    t.g 3 2 == 0 && t.psw 3 == 0x1035 && (t.ctx 3).pc == 0x104) = true := by decide
theorem test_sub_borrow : nextIs (exec (.sub 3 4 4 5) (tCtx [(52, 0), (53, 1)])) (fun t =>
    t.g 3 4 == 0xFFFFFFFF && t.psw 3 == 0x1032) = true := by decide
theorem test_sar : nextIs (exec (.sar 3 2 4 5) (tCtx [(52, 0x80000001), (53, 0x21)])) (fun t =>
    t.g 3 2 == 0xC0000000 && getB (t.psw 3) psC) = true := by decide
theorem test_div : divS 0x80000000 0xFFFFFFFF = (0x80000000, true) ∧ divS 7 0 = (0, true) ∧ divU 7 0 = (0, true) ∧
    divS 0xFFFFFFF9 2 = (0xFFFFFFFD, false) ∧ divU 0xFFFFFFF9 2 = (0x7FFFFFFC, false) := by decide
theorem test_shift_bound : (31 : BitVec 16).toNat < 32 ∧ nextIs (exec (.shli 3 2 4 31) (tCtx [(52, 3)])) (fun t =>
    t.g 3 2 == 0x80000000 && getB (t.psw 3) psC) = true := by decide
theorem test_shift_unfit : nextIs (exec (.shli 3 2 4 32) (tCtx [(52, 3)])) (fun t =>
    (t.ctx 3).fault == some { code := 0x12, pc := 0x100 }) = true := by decide
theorem test_cmp : nextIs (exec (.cmp 3 4 5) (tCtx [(52, 1), (53, 2)])) (fun t => t.psw 3 == 0x1032 && t.gpr == [(52, 1), (53, 2)]) =
    true := by decide
theorem test_bltu : ((tCtx []).setCtx 3 { pc := 0x100, psw := flagsSub 0x1030 1 2 }).psw 3 = flagsSub 0x1030 1 2 ∧
    nextIs (exec (.bltu 3 0xFFFF) ((tCtx []).setCtx 3 { pc := 0x100, psw := flagsSub 0x1030 1 2 })) (fun t => (t.ctx 3).pc == 0x100) =
      true := by decide
theorem test_mfs : nextIs (exec (.mfs 3 2 1) (tCtx [])) (fun t => t.g 3 2 == 0x900) = true ∧
    nextIs (exec (.mfs 3 2 9) (tCtx [])) (fun t => (t.ctx 3).fault == some { code := 0x12, pc := 0x100 }) = true := by decide
theorem test_mts_privilege : (tCtx []).privOf 3 ≠ 0 ∧ ((tCtx []).setCtx 32 { psw := 0 }).privOf 32 = 0 ∧
    nextIs (exec (.mts 3 2 4) (tCtx [])) (fun t => (t.ctx 3).fault == some { code := 0x13, pc := 0x100 }) = true := by decide

theorem test_loads_granted : (tMem [(52, 0x804)] []).accFault 3 .load 0x804 4 4 = none ∧ (tMem [] []).badWordIn 0x804 4 = none ∧
    (tCtx []).accFault 3 .load 0x9FF 1 1 = none ∧ (tCtx []).accFault 3 .load 0x9FE 2 2 = none ∧
    (tCtx []).accFault 3 .store 0x9FC 4 4 = none ∧ (tCtx []).accFault 3 .store 0x8FC 4 4 = none := by decide
theorem test_ldb : nextIs (exec (.ldb 3 2 4 0xFFFF) (tMem [(52, 0x805)] [0, 0x80])) (fun t =>
    (t.ctx 3).out == some { regs := [(2, 0xFFFFFF80)], pc := 0x104 }) = true := by decide
theorem test_ldhu : nextIs (exec (.ldhu 3 2 4 2) (tMem [(52, 0x800)] [0x80017FFF])) (fun t =>
    (t.ctx 3).out == some { regs := [(2, 0x8001)], pc := 0x104 }) = true := by decide
theorem test_reply : nextIs (exec (.fabricReply 3 0) ((tCtx []).onCtx 3 (fun c =>
    { c with out := some { regs := [(2, 7)], sp := some 0x904, pc := 0x104 } }))) (fun t =>
      t.g 3 2 == 7 && (t.ctx 3).out == none && (t.ctx 3).sp == 0x904 && (t.ctx 3).pc == 0x104) = true := by decide
theorem test_sth : nextIs (exec (.sth 3 2 4 2) (tMem [(50, 0x1234BEEF), (52, 0x800)] [0x11223344])) (fun t =>
    t.tm 0x800 == 0xBEEF3344) = true := by decide
theorem test_push : nextIs (exec (.push 3 2) (tCtx [(50, 9)])) (fun t => (t.ctx 3).sp == 0x8FC && t.tm 0x8FC == 9) = true := by decide
theorem test_window : (tCtx []).grants 3 .load 0xA00 4 = false ∧ (tCtx []).grants 3 .load 0x802 4 = true ∧
    (tCtx []).grants 3 .store 0x7FF 4 = false ∧ (tCtx []).grants 3 .store 0x9FE 2 = true ∧ (tCtx []).grants 3 .store 0x9FE 4 = false ∧
    (tCtx []).grants 3 .store 0x801 2 = true := by decide
theorem test_align : nextIs (exec (.ldw 3 2 4 0) (tCtx [(52, 0x802)])) (fun t =>
    (t.ctx 3).fault == some { code := 0x11, pc := 0x100 } && t.g 3 2 == 0) = true := by decide
theorem test_call_ret : nextIs (exec (.call 3 2) (tCtx [])) (fun t => (t.ctx 3).pc == 0x10C && t.tm 0x8FC == 0x104) = true ∧
    nextIs (exec (.ret 3) ((tMem [] [0x204]).setCtx 3 { pc := 0x100, sp := 0x800, psw := 0x1030 })) (fun t =>
      (t.ctx 3).out == some { pc := 0x204, sp := some 0x804 }) = true := by decide

/-! WAIT and TRAP. -/

theorem test_wait_first : (tCtx []).monHere 3 = none := by decide
theorem test_wait_time : (ns32 ((tCtx []).reach 1600).now - 0xFFFFFFFF).toNat < 2 ^ 31 ∧
    2 ^ 31 ≤ (ns32 (tCtx [(52, 1)]).now - (tCtx [(52, 1)]).g 3 4).toNat ∧
    nextIs (exec (.waitTime 3 2 4 0) (tCtx [(50, 5), (52, 1)])) (fun t => t.ctxState 3 == 3 && (t.ctx 3).pc == 0x100) = true ∧
    nextIs (exec (.waitTime 3 2 4 0) (tCtx [(50, 5), (52, 0)])) (fun t => t.g 3 2 == 0 && (t.ctx 3).pc == 0x104) = true := by decide
theorem test_wait_delay : nextIs (exec (.waitDelay 3 2 4 0) (tCtx [(52, 100)])) (fun t =>
    (t.monHere 3).bind (·.deadline) == some 1600 && (t.ctx 3).prog == 0x80000064) = true ∧
    nextIs (exec (.waitDelay 3 2 4 0) (tCtx [])) (fun t => (t.ctx 3).pc == 0x104) = true := by decide
/-- A domain in SYNC with 58 teeth and 2 missing, once a cycle. -/
def tSync : State := (tCtx [(52, 0x10000)]).setFld .domStat 0 3 3 0
theorem test_wait_angle : (tCtx []).domState 0 ≠ 3 ∧ (0 : Nat) < (tCtx []).domains ∧ 15 < (tCtx []).domains ∧
    nextIs (exec (.waitAngle 3 2 4 0) (tCtx [])) (fun t => t.g 3 2 == 2) = true := by decide
theorem test_wait_event : nextIs (exec (.waitEvent 3 15 0 0) ((tCtx []).setCtx 3 { pc := 0x100, psw := 0x1030, evq := [(8, 9)] }))
    (fun t => t.g 3 15 == 8 && t.g 3 0 == 9 && (t.ctx 3).evq == []) = true ∧
    nextIs (exec (.waitEvent 3 15 0 0) (tCtx [])) (fun t => t.ctxState 3 == 3) = true := by decide
/-- Context 3 is the party of host pair 0, whose inbound mailbox is full. -/
def tBox : State := (((tCtx [(52, 0x800)]).wr .mbCfg 0x83 0).wr .mbCfg 0x83 16).wr .mbCtrl 1 0
theorem test_wait_mbox : tBox.boxMine 3 0 = true ∧ tBox.boxMine 3 64 = true ∧ tBox.boxMine 3 17 = false ∧
    tBox.go (waitBox 0) ≠ (0 : Nat).testBit 6 ∧ tBox.go (waitBox 64) ≠ (64 : Nat).testBit 6 ∧
    ((tBox.wr .mbCtrl 1 16).go (waitBox 64)) = (64 : Nat).testBit 6 ∧
    nextIs (exec (.waitMbox 3 2 0 17) tBox) (fun t => t.g 3 2 == 0x24) = true := by decide
theorem test_wait_lock : (tCtx []).rd .lockOwner 255 = 0 ∧ ((tCtx []).wr .lockOwner 1 0).rd .lockOwner 0 ≠ toW (5 + 3 * 256) ∧
    nextIs (exec (.waitLock 3 2 0 255) (tCtx [])) (fun t => t.rd .lockOwner 255 == 0x305) = true ∧
    nextIs (exec (.waitLock 3 2 0 0) ((tCtx []).wr .lockOwner 1 0)) (fun t => t.ctxState 3 == 3) = true := by decide
/-- Context 3 waits for an event until 1600, or with kind 0 for a time. -/
def tWaits (kind : Nat) : State := (((tCtx []).setFlag .droneStat 0 true).setCtxState 3 3).onCtx 3 (fun c =>
  { c with mons := [{ ilvl := 16, pc := 0x100, kind := kind, arg := 0, rd := 2, opnd := 50, since := 0, deadline := some 1600 }] })
theorem test_wait_ends : (tWaits 3).canWake 3 = true ∧ ((tWaits 3).monHere 3).isSome = true ∧
    ((tWaits 0).monHere 3).all (fun m => (((tWaits 0).reach 800).waitMet 3 m).isSome) = true ∧
    ((tWaits 3).monHere 3).all (fun m => ((tWaits 3).reach 1600).timedOut 3 m && (((tWaits 3).reach 1600).waitMet 3 m).isNone) = true ∧
    nextIs (exec (.waitWake 3 800) (tWaits 0)) (fun t => t.ctxState 3 == 2 && (t.ctx 3).pc == 0x104) = true ∧
    nextIs (exec (.waitTimeout 3 1600) (tWaits 3)) (fun t => t.g 3 3 == 0xF) = true := by decide
theorem test_traps : (tCtx []).trapHere 3 = none ∧
    nextIs (exec (.trapInfo 3) (tCtx [])) (fun t => (t.trapHere 3).bind (·.answer) == some (0, 0x2F303)) = true ∧
    nextIs (exec (.trapLower 3) (tCtx [(49, 0xF3)])) (fun t => t.cr .ctxCtrl 3 == 0xBF) = true ∧
    (tCtx []).cmdBuffersOk 3 0x800 0x900 1 = false ∧ (tMem [] [0]).cmdBuffersOk 3 0x800 0x900 16 = true ∧
    (7 : BitVec 16).toNat ∉ [0, 0x80, 0x81, 0x82] := by decide
theorem test_trap_answer : nextIs (exec (.trapAnswer 3 0) (((tCtx []).setCtxState 3 3).onCtx 3 (fun c =>
    { c with traps := [{ ilvl := 16, pc := 0x100, call := 0x82, answer := some (0, 5) }] }))) (fun t =>
      t.g 3 1 == 5 && t.ctxState 3 == 2 && (t.ctx 3).pc == 0x104) = true := by decide
theorem test_end : nextIs (exec (.endTask 3) (tCtx [])) (fun t => t.ctxState 3 == 4) = true := by decide

/-! Requests, mailboxes, locks, long instructions. -/

theorem test_requests : (tCtx []).regFault 3 0x100000 = some 0x10 ∧
    ((tCtx []).setCr .ctxIomask 0x10 3).regFault 3 0x40000 = none := by decide
theorem test_post : nextIs (exec (.post 3 2 4 3) (tCtx [(52, 77)])) (fun t => ((t.ctx 3).evq.map (·.1)) == [77]) = true := by decide
theorem test_arm_block : (tCtx []).accFault 3 .load 0x9E8 24 4 = none := by decide
/-- Tile 1 and port 2 are context 3's. -/
def tOwns : State := ((tCtx [(52, 1)]).setCr .ctxTilesLo 2 3).setCr .ctxPorts 4 3
theorem test_owns : (tOwns.issued 3 0x68).tileMine 3 1 = true ∧ (tOwns.issued 3 0x68).tileOffOk 3 0x404 = true ∧
    getB ((tOwns.issued 3 0x70).cr .ctxPorts 3) 2 = true ∧ (tOwns.issued 3 0x71).logsFor 3 0 = false ∧
    ((tOwns.wr .catW0 5 9).wr .catW1 3 9).logsFor 3 9 = true := by decide
theorem test_mbox : selOk 0x0400 = true ∧ countOk 0x0400 = true ∧ boxCount 0x0040 = 1 ∧ boxCount 0x0400 = 16 ∧ tBox.selFitted 0 = true ∧
    (tBox.issued 3 0x72).isSender (.ctx 3) 16 = true ∧ (tBox.issued 3 0x72).isReceiver (.ctx 3) 0 = true ∧
    (tBox.issued 3 0x72).go 16 = false ∧ (tBox.issued 3 0x72).go 0 = true ∧ (tBox.issued 3 0x72).isSender (.ctx 3) 17 = false := by decide
theorem test_mbox_send : nextIs (exec (.mboxSend 3 2 4 0x0040) { tBox with taskMem := Mem.putWords [] 0x800 [42] }) (fun t =>
    t.go 16 && t.rd .mbData 16 0 == 42 && (t.ctx 3).out == some { regs := [(2, 0)], pc := 0x104, unit := true }) = true := by decide
theorem test_mbox_recv : nextIs (exec (.mboxRecv 3 2 4 0x4040) (tBox.wr .mbData 42 0 0)) (fun t => !t.go 0 && t.tm 0x800 == 42) = true := by
  decide
theorem test_locks : nextIs (exec (.lock 3 2 255) (tCtx [])) (fun t => t.rd .lockOwner 255 == 0x305) = true ∧
    nextIs (exec (.unlock 3 0) ((tCtx []).wr .lockOwner 0x305 0)) (fun t => t.rd .lockOwner 0 == 0) = true ∧
    nextIs (exec (.unlock 3 0) ((tCtx []).wr .lockOwner 1 0)) (fun t => t.fld .lockStat 0 16 == 1) = true := by decide
theorem test_blkcp : (tCtx []).longAt 3 = none ∧ nextIs (exec (.blkcp 3 2 4 5) (tMem [(50, 0x810), (52, 0x800), (53, 2)] [1, 2]))
    (fun t => t.tm 0x810 == 1 && t.tm 0x814 == 2 && (t.ctx 3).pc == 0x104) = true ∧
    nextIs (exec (.blkcp 3 2 4 5) (tMem [(50, 0x880), (52, 0x800), (53, 9)] [1])) (fun t => t.longAt 3 == some (0, 8)) = true := by decide
theorem test_fill : nextIs (exec (.fill 3 2 4 5) (tCtx [(50, 0x800), (52, 7), (53, 17)])) (fun t =>
    t.tm 0x83C == 7 && t.tm 0x840 == 0 && t.longAt 3 == some (0, 16)) = true ∧
    nextIs (exec (.fill 3 2 4 5) (tCtx [(50, 0x800), (52, 7), (53, 16)])) (fun t => (t.ctx 3).pc == 0x104) = true := by decide +kernel
/-- A TBL1 table of two points: 0 to 10, 4 to 30; its last step is due. -/
def tTable : State := (tMem [(52, 1), (53, 0x800)] [2, 0, 4, 10, 30]).setCtx 3 { pc := 0x100, psw := 0x1030, prog := progWord 2 0 }
theorem test_tbl1 : tTable.longAt 3 = some (2, 0) ∧ nextIs (exec (.tbl1 3 2 4 5) tTable) (fun t => t.g 3 2 == 15 && (t.ctx 3).pc == 0x104) =
    true := by decide
theorem test_tbl_begins : nextIs (exec (.tbl1 3 2 4 5) (tMem [(52, 1), (53, 0x800)] [2, 0, 4, 10, 30])) (fun t =>
    t.longAt 3 == some (1, 0)) = true ∧
    nextIs (exec (.tbl2 3 2 4 5) (tMem [(53, 0x800)] [0x20002])) (fun t => t.longAt 3 == some (1, 0)) = true := by decide
theorem test_illegal : (tCtx []).canIssue 3 = true ∧ (tCtx []).accFault 3 .fetch 0x100 4 4 = none ∧
    nextIs (exec (.illegal 3 0x12000000) (tCtx [])) (fun t => (t.ctx 3).fault == some { code := 0x12, pc := 0x100 }) = true ∧
    ({ tCtx [] with dispatch := [(0x12, some 0x9C00)] }).startOf 0 0x12 false = some 0x1C00 ∧
    nextIs (exec (.illegal 3 0x12000000) { tCtx [] with dispatch := [(0x12, some 0x9C00)] }) (fun t =>
      (t.ctx 3).fault == some { code := 0x12, pc := 0x100 }) = true ∧
    nextIs (exec (.illegal 3 0x12000000) { tCtx [] with dispatch := [(0x12, some 0x9C00)], micro := [(0x1C00, [0, 0, 0, 0])] }) (fun t =>
      (t.ctx 3).fault == some { code := 0x13, pc := 0x100 }) = true := by decide +kernel

/-! ## Mailboxes, locks, interrupts, registers, time -/

/-- The fuses are loaded. -/
def tDev : State := { State.reset.wr .sysId 1 with admits := [(0, 15)] }

theorem test_rights : tDev.lets .host .mbxCtrl 0 0 = true ∧ tDev.lets .host .lockRel 255 0 = true ∧ tDev.lets .host .droneCtrl 0 0 = false ∧
    tDev.lets (.ctx 0) .droneCtrl 0 0 = true ∧ tDev.lets .supervisor .lockRel 0 0 = true ∧ tDev.lets .supervisor .tileStart 0 0 = false ∧
    tDev.lets .host .tileCtrl 63 0 = true ∧ tDev.lets .host .pmPin 255 0 = true ∧ tDev.lets .host .domCtrl 15 0 = true := by decide
theorem test_box_parties : tDev.isSender .host 15 = true ∧ tDev.isSender .host 16 = false ∧ tDev.isReceiver .host 31 = true ∧
    tDev.isReceiver .supervisor 35 = true ∧ tDev.isSender .supervisor 33 = true ∧ tDev.go 0 = false ∧ tDev.mayCfg .host 15 = true ∧
    tDev.mayCfg .host 0 = false := by decide
theorem test_go : nextIs (exec (.mbGoSet .host 15) tDev) (fun t => t.go 15 && t.pend 163) = true ∧
    nextIs (exec (.mbGoSet .host 15) (tDev.wr .mbCtrl 1 15)) (fun t => t.fld .mbCnt 24 8 15 == 1) = true ∧
    nextIs (exec (.mbDataWrite .host 16 0 5) tDev) (fun t => t.fld .mbCnt 16 8 16 == 1 && t.rd .sysAccerr == 1) = true := by decide +kernel
theorem test_done : nextIs (exec (.mbDone .host 31) (tDev.wr .mbCtrl 1 31)) (fun t => !t.go 31) = true ∧
    (({ tDev with replies := [(0, [[7, 8]])] }).wr .mbCtrl 1 16).cmdBox 16 = true ∧
    nextIs (exec (.mbDone .host 16) (({ tDev with replies := [(0, [[7, 8]])] }).wr .mbCtrl 1 16)) (fun t =>
      t.go 16 && t.repliesOf 0 == [] && t.rd .mbData 16 1 == 8) = true := by decide
theorem test_lock : nextIs (exec (.lockRead .host 255) tDev) (fun t => t.rd .lockOwner 255 == 1 && t.readOf 0 == 1) = true ∧
    nextIs (exec (.lockRead .supervisor 255) (tDev.wr .lockOwner 1 255)) (fun t => t.rd .lockOwner 255 == 1 && t.readOf 1 == 0) = true ∧
    nextIs (exec (.lockRead (.dma 0) 255) tDev) (fun t => t.rd .lockOwner 255 == 0 && t.rd .sysAccerr == 1) = true := by decide
theorem test_lock_release : nextIs (exec (.lockRelease .host 255) ((tDev.wr .lockOwner 1 255).setFlag .lockWatch 31 true 7)) (fun t =>
    t.rd .lockOwner 255 == 0 && t.flag .lockFreed 31 7 && t.pend 190) = true ∧
    nextIs (exec (.lockRelease .supervisor 255) (tDev.wr .lockOwner 1 255)) (fun t =>
      t.rd .lockOwner 255 == 1 && t.rd .lockStat == 0x1FF0001) = true := by decide +kernel
theorem test_sources : tDev.intGeneral .host = true ∧ tDev.routeLocked 255 = false ∧ (tDev.setFlag .intRoute 31 true 0).routeLocked 0 = true ∧
    tDev.srcPresent 255 = true ∧ tDev.prvMay .host 3 true = true ∧ (3 : Nat) < tDev.engines := by decide +kernel
theorem test_pend : nextIs (exec (.intPendSet .host 7 0x80000001) tDev) (fun t => t.pend 224 && t.pend 255 && !t.pend 225) = true ∧
    nextIs (exec (.intEnClr .host 0 3) ((tDev.wr .intEnSet 3 0).setFlag .intRoute 31 true 0)) (fun t => t.enabled 0 && !t.enabled 1) = true ∧
    nextIs (exec (.intRouteWrite .host 0 5) tDev) (fun t => t.target 0 == 5) = true ∧
    nextIs (exec (.intRouteWrite .host 0 6) tDev) (fun t => t.target 0 == 4 && t.fld .intErr 0 16 == 1) = true := by decide +kernel
/-- Source 200 waits for the supervisor. -/
def tSup : State := ((tDev.wr .intRoute 0x30005 200).setFlag .intEnSet 8 true 6).setFlag .intPendSet 8 true 6
theorem test_claim : tSup.supSource = some (3, 200) ∧ tDev.supSource = none ∧
    nextIs (exec (.supClaim .supervisor) tSup) (fun t => t.readOf 1 == 0x800000C8 && t.active 200 && !t.pend 200) = true := by
  decide +kernel
theorem test_eoi : (tDev.deliver 200 129).active 200 = true ∧ (tDev.deliver 200 129).takenBy.at 130 200 = 129 ∧
    nextIs (exec (.supEoi .supervisor 200) (tDev.deliver 200 129)) (fun t => !t.active 200) = true ∧
    nextIs (exec (.hostEoi .host 200) (tDev.deliver 200 128)) (fun t => !t.active 200) = true ∧
    nextIs (exec (.hostEoi .host 200) tDev) (fun t => t.fld .intErr 0 16 == 1) = true := by decide
/-- Vector 63 gathers one event of source 200, its message is 0xAB to address 0x1000. -/
def tVec : State := (((({ tDev with msixOn := true, hostLink := .up }.wr .intRoute 0x3F0F0004 200).setFlag .intEnSet 8 true 6).setFlag
  .intPendSet 8 true 6).wr .vecStat 0x80000001 63).wr .msixData 0xAB 63 |>.wr .msixAddrLo 0x1000 63
theorem test_vector : tVec.vectorDue 63 0 = true ∧ (tVec.wr .msixVctrl 0 63).vectorFree 63 = true ∧ tVec.vectorFree 63 = false ∧
    nextIs (exec (.vectorIssue 63 0) (tVec.wr .msixVctrl 0 63)) (fun t => t.hostMem.word 0x1000 == 0xAB && t.active 200) = true ∧
    nextIs (exec (.vectorIssue 63 0) tVec) (fun t => t.flag .msixPba 31 1) = true := by decide +kernel
theorem test_register_write : regAt 0xA0000 ≠ none ∧ tDev.reachable 0xA0000 = true ∧ taskWindow 0xA0000 = none ∧
    (regAt 0x53000).isNone = true ∧ taskWindow 0x1000000 = some 0 := by decide +kernel
theorem test_task_memory_write : nextIs (exec (.registerWrite .host 0x13BFFFC 4 0x11223344) tDev) (fun t => t.tm 0x3BFFFC == 0x11223344) = true ∧
    nextIs (exec (.registerWrite .host 0x1000001 1 0x1FF) tDev) (fun t => t.tm 0 == 0xFF00) = true ∧
    nextIs (exec (.registerWrite .host 0x60008 3 0) tDev) (fun t => t.rd .sysAccerr == 1) = true := by decide +kernel
theorem test_linked : tDev.linkedFitted (.count 63 3) = true ∧ (tDev.wr .chCtrl 8 63 6).linked 63 6 = true ∧
    tDev.linkedFitted .droneNow = true ∧ ({ tDev with variant := .fj4_256 }).linkedFitted (.count 63 3) = false ∧
    nextIs (exec (.linkedLowRead .host .droneNow) { tDev with now := 0x500000006 }) (fun t => t.readOf 0 == 0x280 && t.latchOf 0 == 5) = true := by
  decide +kernel
theorem test_system : tDev.fitted 63 = true ∧ ({ tDev with variant := .fj4_256 }).fitted 63 = false ∧ unitSetAllows 80 3 = true ∧
    unitSetAllows 79 3 = false ∧ (5 : BitVec 3).toNat < 6 ∧ 6 ≤ (6 : BitVec 3).toNat ∧
    nextIs (exec (.supReqWrite 63 5) tDev) (fun t => t.fld .unitReq 4 3 63 == 5) = true ∧
    nextIs (exec (.supReqWrite 63 6) tDev) (fun t => t.rd .sysAccerr == 1) = true ∧
    tDev.lets .host .sysCtrl 0 0 = true ∧ tDev.lets .host .sysCmdMbox 0 0 = true := by decide +kernel
theorem test_link_trained : ({ tDev with hostLink := .training }).hostLink ≠ .reset ∧
    nextIs (exec .pcieLinkTrained { tDev with hostLink := .training, epUp := true }) (fun t => t.hostLink == .up) = true := by decide +kernel
/-- The main PLL is locked and the standby too. -/
def tLocked : State := (tDev.setFlag .droneStat 0 true).setFlag .pllStat 1 true
theorem test_time : tDev.flag .droneStat 0 = false ∧ tLocked.copyRuns 65 = true ∧ tLocked.copyRuns 90 = true ∧
    (({ tLocked with stray := [(90, some (0, 20))] }).stray.at none 90).isSome = true ∧ tLocked.flag .pllStat 1 = true ∧ (16384 : Stamp).toNat % 16384 = 0 ∧
    (tLocked.setFlag .droneStat 1 true).flag .droneStat 1 = true ∧
    nextIs (exec (.pllLock 24) tDev) (fun t => t.now == 32 && t.flag .droneStat 0) = true ∧
    nextIs (exec (.beacon 90 (-17) 0 1024) tLocked) (fun t => t.fld .droneIsl 0 8 90 == 0xEF && t.fld .droneIsl 8 16 90 == 1 &&
      (t.stray.at none 90).isSome) = true ∧
    nextIs (exec (.pllSwitchover 0) tLocked) (fun t => t.flag .pllStat 2 && t.fld .pllStat 8 8 == 1 && t.rd .fltSeq == 1) = true := by
  decide +kernel

/-! ## Tiles -/

/-- Channel 1 of tile 0 runs UP_WRAP to 9 from the given count. -/
def tChan (count : Word) : State :=
  ((((tDev.wr .chCtrl 1 0 1).wr .chPeriod 9 0 1).wr .chAperiod 9 0 1).wr .chCount count 0 1).setFlag .chStat 0 true 0 1 |>.setChan 1
    { top := 9 }
theorem test_step : (tChan 8).tileRuns 0 = true ∧ (tChan 8).running 0 1 = true ∧ (tChan 8).presc 0 1 ≤ 1 ∧ (tChan 8).modeF 0 1 = 1 ∧
    (tChan 8).bridged 0 1 = false ∧ ((tChan 9).chan 1).acc + (tChan 9).fineStep 0 1 < 16 ∧
    nextIs (exec (.channelStep 1 16) (tChan 8)) (fun t => t.rd .chCount 0 1 == 9) = true ∧
    nextIs (exec (.channelStep 1 16) (tChan 9)) (fun t => t.rd .chCount 0 1 == 0 && t.flag .chStat 4 0 1) = true ∧
    nextIs (exec (.channelStep 1 16) ((tChan 9).setChan 1 { top := 9, acc := 12 } |>.wr .chFrac 4 0 1 |>.wr .chAfrac 4 0 1)) (fun t =>
      t.rd .chCount 0 1 == 9 && (t.chan 1).hold) = true := by decide +kernel
theorem test_ch_ctrl : nextIs (exec (.chCtrlWrite .host 1 5) tDev) (fun t => t.rd .chCtrl 0 1 == 5) = true ∧
    nextIs (exec (.chCtrlWrite .host 1 6) tDev) (fun t => t.rd .chCtrl 0 1 == 0 && t.fld .chErrcnt 8 8 0 1 == 1) = true ∧
    nextIs (exec (.chCtrlWrite .host 1 2) (tChan 0)) (fun t => t.rd .chCtrl 0 1 == 1) = true := by decide +kernel
theorem test_shadow : nextIs (exec (.shadowWrite .host 1 .period 20) tDev) (fun t =>
    t.rd .chPeriod 0 1 == 20 && t.rd .chAperiod 0 1 == 20) = true ∧
    nextIs (exec (.shadowWrite .host 1 .period 20) (tChan 0)) (fun t => t.rd .chPeriod 0 1 == 20 && t.rd .chAperiod 0 1 == 9) = true ∧
    nextIs (exec (.shadowWrite .host 1 .period 20) ((tChan 0).setFlag .chStat 2 true 0 1)) (fun t =>
      t.rd .chPeriod 0 1 == 9 && t.fld .chErrcnt 0 8 0 1 == 1) = true := by decide +kernel
theorem test_start : 1 ∈ tDev.named 0 2 ∧ periodMin 1 ≤ 9 ∧
    nextIs (exec (.tileStartWrite .host 0 2) ((tChan 5).setFlag .chStat 0 false 0 1)) (fun t => t.running 0 1 && t.rd .chCount 0 1 == 0) = true ∧
    nextIs (exec (.tileStartWrite .host 0 2) (tChan 5)) (fun t => t.rd .chCount 0 1 == 5 && t.flag .chStat 10 0 1) = true ∧
    nextIs (exec (.tileStopWrite .host 0 2) (tChan 5)) (fun t => !t.running 0 1 && t.rd .chCount 0 1 == 5) = true ∧
    nextIs (exec (.tileCommit .host 0 2) (tChan 5)) (fun t => t.flag .chStat 2 0 1) = true := by decide +kernel
theorem test_armed_start : nextIs (exec (.armedStart 0 1600) (((tChan 5).setFlag .chStat 0 false 0 1).wr .tileStartArm 0x102 0
    |>.wr .tileStartAtLo 1600 0)) (fun t => t.running 0 1 && !t.flag .tileStartArm 8 0) = true ∧
    nsOf (((tDev.wr .tileStartAtLo 1600 0)).armDue 0) = nsOf 1600 := by decide +kernel
/-- Channel 1 captures both edges and one is accepted at 1600. -/
def tCap : State := { ((tDev.wr .chCtrl 0x24 0 1).setFlag .chStat 0 true 0 1) with edges := [(1, [(1600, true)])] }
theorem test_capture : nextIs (exec (.captureLanding 1 3200) tCap) (fun t => t.rd .chCapvLo 0 1 == 100 && t.flag .chStat 7 0 1 &&
    t.edgesOf 1 == []) = true ∧ tDev.takes (.primary 0) true = false ∧
    ((tDev.setFlag .domCtrl 0 true 0).takes (.primary 0) true) = true := by decide +kernel
theorem test_pins : pinOk 0x2400 = true ∧ pinOk 0xFFFFFFFF = false ∧ tDev.courseIdle 7 = true ∧ (7 : Nat) < tDev.courses ∧
    tDev.flag .govCtrl 1 = true ∧
    nextIs (exec (.coursePowerDown 7 160000) tDev) (fun t => t.flag .pmBank 2 7) = true ∧
    nextIs (exec (.coursePowerUp 7) (tDev.setFlag .pmBank 2 true 7)) (fun t => !t.flag .pmBank 2 7 && t.fld .govWakeCnt 16 16 == 1) = true ∧
    nextIs (exec (.islandWake 5) (tDev.setFlag .govIsl 5 true)) (fun t => t.fld .govWakeCnt 0 16 == 1) = true := by decide +kernel
/-- Pair 3 of tile 0 is a bridge whose side H is due at 160, and its trip input A is at pin 1. -/
def tBridge : State := (((tDev.wr .brCtrl 1 0 3).wr .pmTrip 0x21 0).wr .tripCtrlA 1 0).setBridge 3 { due := some (true, 160), minpw := 5 }
theorem test_bridge : tBridge.hasBridge = true ∧ tBridge.bridged 0 6 = true ∧ tBridge.nextCommand 0 6 false 160 = none ∧
    nextIs (exec (.deadTimeExpiry 0 3 160) tBridge) (fun t => t.sideOn 0 3 true && (t.bridge 3).due == none) = true ∧
    nextIs (exec (.brCtrlWrite .host 0 3 1) tDev) (fun t => t.rd .brCtrl 0 3 == 1) = true ∧
    nextIs (exec (.minpwExtension 0 3 160) (tBridge.setBridge 3 { ext := some (true, 160) })) (fun t => t.fld .brStat 16 8 0 3 == 1) = true := by
  decide +kernel
theorem test_trip : tBridge.tripPin 0 false = some 1 ∧ tDev.tripPin 0 false = none ∧ tBridge.tripCtrl 0 false = 1 ∧
    nextIs (exec (.tripAccept 0 false 16 48) tBridge) (fun t => t.rd .tripTimeA 0 == 1 && t.fld .tripCnt 0 16 0 == 1) = true ∧
    tDev.stillTripped 0 7 false = false ∧ bothHigh 0 3 = false ∧
    nextIs (exec (.tripClear .host 0 0x80) (tDev.setFlag .tripStat 7 true 0)) (fun t => !t.flag .tripStat 7 0) = true := by decide +kernel

/-- Slot 3 of tile 0 waits on channel 2, whose follower 0 follows domain 0 in SYNC, for count 65536 crossed at 1600. -/
def tSlot (act phase : Nat) (x : SlotX) : State :=
  ((((tDev.wr .chCtrl 5 0 2).setFlag .chStat 0 true 0 2).wr .folCtrl 1 0 0).setFld .domStat 0 3 3 0).wr .slotCtrl
    (toW (1 + 2 * 2 + act * 16 + phase * 256 + 7 * 65536)) 0 3 |>.setSlotX 3 x
theorem test_follower : tDev.folDom 0 0 = 0 ∧ (tSlot 1 0 {}).folOn 0 0 = true ∧
    nextIs (exec (.followerEnable .host 0 3 0xF1) tDev) (fun t => t.rd .folCtrl 0 3 == 0xF1) = true ∧
    nextIs (exec (.followerEnable .host 0 0 0x11) (tSlot 1 0 {})) (fun t => t.rd .folCtrl 0 0 == 1) = true := by decide +kernel
/-- An update that follower 0 has not had. -/
def tUpdate : State := ((tSlot 1 0 {}).setFol 0 { run := true }).setDom 0 { last := some { pu := 65536, te := 800, step := 100, cap := 200000, fast := false } }
theorem test_follower_update : nextIs (exec (.followerUpdate 0 0 1600) tUpdate) (fun t => (t.fol 0).te == 800) = true := by decide +kernel
theorem test_slot_load : (tSlot 1 0 {}).slotFolOk 0 3 = true ∧ (tSlot 1 0 {}).tileRuns 0 = true ∧
    nextIs (exec (.slotLoad 0 3 1600) (tSlot 1 0 {})) (fun t => (t.slotX 3).judged) = true ∧
    nextIs (exec (.slotLoad 0 3 1600) ((tSlot 1 0 {}).wr .folCtrl 0 0 0)) (fun t => (t.entry 7).noEffect) = true := by decide +kernel
theorem test_slot_fire : (tSlot 1 0 { judged := true, fire := some 1600 }).slotFireDue 0 3 = some 1600 ∧
    nextIs (exec (.slotFire 0 3 1616) (tSlot 1 0 { judged := true, fire := some 1600 })) (fun t => (t.chan 2).level) = true ∧
    nextIs (exec (.slotFire 0 3 1616) (tSlot 4 0 { judged := true, fire := some 1600 })) (fun t =>
      (t.chan 2).level && t.slotPhase 0 3 == 1) = true := by decide +kernel
theorem test_slot_close : (tSlot 5 1 { openDue := 1600 }).guardDue 0 3 = some 1600 ∧ (tSlot 5 1 { openDue := 1600 }).slotCloseDue 0 3 = some 1600 ∧
    nextIs (exec (.slotCloseDuration 0 3 1616) ((tSlot 5 1 { openDue := 1600 }).setChan 2 { level := true })) (fun t => !(t.chan 2).level) = true ∧
    nextIs (exec (.slotCloseAngle 0 3 1616) (((tSlot 4 1 { openDue := 1584, close := some 1600 }).wr .slotGuard 9 0 3).setChan 2 { level := true })) (fun t =>
      !(t.chan 2).level) = true ∧
    nextIs (exec (.guarded 0 3 1616) ((tSlot 4 1 { openDue := 1600, close := some 1616 }).setChan 2 { level := true })) (fun t =>
      !(t.chan 2).level) = true := by decide +kernel
theorem test_slot_clear : nextIs (exec (.slotClear 0 3 1616) ((tSlot 4 1 { clear := some 101 }).setChan 2 { level := true })) (fun t =>
    !(t.chan 2).level) = true ∧ (tSlot 6 2 {}).burstEnd? 0 3 = some 0 ∧
    nextIs (exec (.burstEnd 0 3 1616) ((tSlot 6 2 {}).setChan 2 { level := true, stepNs := 100 })) (fun t => !(t.chan 2).level) = true := by decide +kernel

/-! ## Domains and the calendar -/

/-- Domain 0: a 60-2 wheel of one revolution, enabled, in the state given, its last tooth at 1,600,000. -/
def tDom (st : Nat) (on : Word) : State :=
  ((((tDev.wr .domCtrl (0x22 + on) 0).wr .domPat0 0x203C 0).wr .domPeriod 1600000 0).setFld .domStat 0 3 st 0).setDom 0
    { tp := 1600000, t1 := 1600000, periods := 1, lastEdge := 1600000, wTooth := true, wStart := 1600000, pos := 4,
      ratio := 0x8246B428, stall := 0x0186A004, ctrl := 0x23 }
theorem test_domain_enable : (tDom 0 0).domEnableOk 0 = true ∧ tDev.domEnableOk 0 = false ∧
    nextIs (exec (.domainEnable .host 0) (tDom 0 0)) (fun t => t.domState 0 == 1 && t.flag .domCtrl 0 0) = true ∧
    nextIs (exec (.domainEnable .host 0) tDev) (fun t => !t.flag .domCtrl 0 0 && t.flag .domEvt 10 0) = true ∧
    nextIs (exec (.domainDisable .host 0) (tDom 3 1)) (fun t => t.domState 0 == 0) = true := by decide +kernel
theorem test_domain_config : (regAt 0x8F104).isSome = true ∧ (tDom 3 1).domBad 0 .domPat1 0x403C80 = true ∧ tDev.domBad 15 .domPat1 0x403C80 = false ∧
    nextIs (exec (.domainConfigWrite .host 15 0x104 0x403C40) tDev) (fun t => t.rd .domPat1 15 == 0x403C40) = true ∧
    nextIs (exec (.domainConfigWrite .host 0 0x104 0x403C40) (tDom 3 1)) (fun t => t.rd .domPat1 0 == 0x403C80 && t.fld .domCnt3 16 8 0 == 1) = true := by
  decide +kernel
/-- With an accepted edge of the primary input. -/
def tEdge (st : Nat) (e : Stamp) (lv : Bool) : State := { tDom st 1 with edges := [(512, [(e, lv)])] }
theorem test_primary : (tDom 3 1).activeLevel 0 = true ∧ (tDom 3 1).classify 0 3200000 = .real 1 false false ∧
    (tDom 3 1).classify 0 1700000 = .noise ∧ ((tDom 3 1).onDom 0 (fun x => { x with s := 3 })).classify 0 3200000 = .mismatch ∧
    nextIs (exec (.primaryEdge 0 3200000) (tEdge 3 3200000 true)) (fun t => (t.dom 0).pos == 5 && (t.dom 0).tp == 3200000) = true ∧
    nextIs (exec (.primaryEdge 0 3200000) (tEdge 3 1700000 true)) (fun t => (t.dom 0).pos == 4 && t.fld .domCnt0 16 8 0 == 1) = true ∧
    nextIs (exec (.primaryEdge 0 3200000) ((tEdge 3 3200000 true).onDom 0 (fun x => { x with s := 3 }))) (fun t => t.domState 0 == 1) = true ∧
    nextIs (exec (.primaryEdge 0 3200000) (tEdge 4 3200000 true)) (fun t => t.domState 0 == 1 && (t.dom 0).hist == [3200000]) = true := by
  decide +kernel
theorem test_primary_inactive : nextIs (exec (.primaryInactiveEdge 0 1700000) ((tEdge 3 1700000 false).onDom 0 (fun x =>
    { x with ctrl := 0xA3, dir := 0x10001 }))) (fun t => t.domState 0 == 3 || t.domState 0 == 5) = true ∧
    ({ ctrl := 0xA3 : Dom }).dirSrc = 1 := by decide +kernel
theorem test_late : (tDom 3 1).edgeWaits 0 4000000 = false ∧ (tDom 3 1).mirror 0 = false ∧
    nextIs (exec (.toothLate 0 4000000) (tDom 3 1)) (fun t => t.flag .domStat 3 0) = true ∧
    nextIs (exec (.stallTimeout 0 0x40000000000) (tDom 3 1)) (fun t => t.domState 0 == 4) = true ∧
    nextIs (exec (.seekTimeout 0 0x40000000000) (tDom 1 1)) (fun t => (t.dom 0).hist == []) = true := by decide +kernel
theorem test_tooth_update : nextIs (exec (.toothUpdate 0 1600) ((tDom 3 1).onDom 0 (fun x =>
    { x with upd := some { pu := 65536, te := 800, step := 100, cap := 200000, fast := false } }))) (fun t => (t.dom 0).upd == none) = true ∧
    nextIs (exec (.fastRunEnd 0 1600) ((tDom 3 1).onDom 0 (fun x => { x with traj := { fast := true, step := 1 } }))) (fun t =>
      !(t.dom 0).traj.fast) = true := by decide +kernel
/-- An accepted edge of the phase input, the leading one at angle count 5. -/
def tPhase (st : Nat) : State := { (tDom st 1).onDom 0 (fun x => { x with lead := some 5 }) with edges := [(528, [(1600, false)])] }
theorem test_phase : (tDom 3 1).toothLevel 0 = true ∧ (tPhase 3).phaseMatches 0 5 ((tPhase 3).angleStamp 0 1600) 0 = [] ∧
    nextIs (exec (.phaseToothEdge 0 1600) (tPhase 3)) (fun t => t.fld .domCnt3 0 8 0 == 1) = true := by decide +kernel
theorem test_phm : nextIs (exec (.phmEdge 0 3 1600) { tDom 3 1 with edges := [(547, [(1600, true)])] }) (fun t => t.edgesOf 547 == []) = true := by
  decide +kernel
/-- Domain 0 mirrors domain 0 of device 5. -/
def tMirror : State := ((tDom 1 5).wr .domMirror 5 0).setFlag .droneStat 2 true
theorem test_mirror : (tMirror.flag .domCtrl 0 0 && tMirror.mirror 0) = true ∧
    nextIs (exec (.angleMessage 0 5 (toW (7 + 3 * 2 ^ 14 + 2 ^ 18 + 60 * 2 ^ 19 + 2 * 2 ^ 30)) 100 0 9 1600) tMirror) (fun t =>
      t.domState 0 == 3 && (t.dom 0).pos == 7 && t.rd .domRate 0 == 9) = true ∧
    nextIs (exec (.angleMessage 0 5 0 100 0 9 1600) tMirror) (fun t => t.domState 0 == 1 && t.fld .domCnt3 16 8 0 == 1) = true := by
  decide +kernel

/-- An arm request of a POST to context 3 at angle 5. -/
def tArm : ArmWords := ⟨0x90, 5, 0, 3, 77, 0⟩
theorem test_arm_checks : (tDom 3 1).armAbsent tArm = false ∧ (tDom 3 1).armDenied .host tArm = false ∧ (tDom 3 1).armBad tArm = false ∧
    (tDom 3 1).freeIndex 0 = some 0 ∧ (tDom 3 1).armAbsent { tArm with w3 := 128, w0 := 0x91 } = false ∧
    ({ tDom 3 1 with variant := .fj4_256 }).armAbsent { tArm with w0 := 0x98 } = true ∧
    ({ tDom 3 1 with failed := [136] }).armDenied .host tArm = true ∧ (tDom 3 1).armBad { tArm with w1 := 0x3C0000 } = true ∧
    ((tDom 3 1).wr .calPart 0 0).freeIndex 0 = none := by decide +kernel
theorem test_arm : nextIs (exec (.calendarArmDecision .host tArm 0) (tDom 3 1)) (fun t => t.calAnswer == (0, 0x2000) && t.ePhase 0 == 2 &&
    t.rd .entryW4 0 == 77) = true ∧
    nextIs (exec (.calendarArmDecision .host tArm 0) (tDom 0 0)) (fun t => t.calAnswer == (0x20, 1)) = true := by decide +kernel
/-- Entry 0 of domain 0 is that POST, armed by the host. -/
def tArmed : State := match exec (.calendarArmDecision .host tArm 0) (tDom 3 1) with | .next t => t | _ => tDev
theorem test_cancel : tArmed.cancellable 0 = true ∧ (tArmed.entry 0).gen = 1 ∧
    nextIs (exec (.calendarCancelDecision .host 0x2000 0) tArmed) (fun t => t.ePhase 0 == 0 && (t.entry 0).gen == 2) = true ∧
    nextIs (exec (.calendarCancelDecision .host 0x4000 0) tArmed) (fun t => t.calAnswer == (0x27, 0x4000)) = true ∧
    nextIs (exec (.calendarCancelDecision (.ctx 35) 0x2000 0) tArmed) (fun t => t.calAnswer == (0x27, 0x2000) || t.calAnswer == (0x24, 0x2000)) = true ∧
    nextIs (exec (.calendarFlushDecision .host 0 0) tArmed) (fun t => t.calAnswer == (0, 1) && t.ePhase 0 == 0) = true := by decide +kernel
theorem test_post_issue : nextIs (exec (.calendarActionIssue 0 1600) ((tArmed.setCtxState 3 2).onEntry 0 (fun x => { x with cross := some 800 })))
    (fun t => t.calIssue == 25 || (t.ctx 3).evq.length == 1) = true := by decide +kernel
theorem test_staging : nextIs (exec (.staging 0 1600) (match exec (.calendarArmDecision .host ⟨0x10, 5, 0, 2, 0, 0⟩ 0) (tDom 3 1) with
    | .next t => t | _ => tDev)) (fun t => t.slotValid 0 0 && t.ePhase 0 == 3 && t.slotCh 0 0 == 2) = true := by decide +kernel
theorem test_calendar_registers : tDev.partBad 0 0 = false ∧ tDev.partBad 0 0x20000001 = true ∧ queueFits 0 4 = true ∧ queueFits 0x3FFFF0 4 = false ∧
    nextIs (exec (.calPartWrite .host 0 0) tDev) (fun t => t.rd .calPart 0 == 0) = true ∧
    nextIs (exec (.cqRdWrite .host 0 32) tDev) (fun t => t.flag .calStat 16) = true := by decide +kernel

/-! ## The Governor and power states -/

/-- Every bucket at 1 mJ, and engine 0's levels short. -/
def tGov : State := { tDev with govFine := [(1, 16000), (2, 16000), (3, 16000)] }
theorem test_pfixed :
    nextIs (exec (.pfixedUpdate 65535 0) tDev) (fun t => t.rd .govPfixed == 65535) = true := by decide +kernel
theorem test_refill :
    tGov.stopped 3 = false ∧ (tGov.setFld .govStat 0 2 2).stopped 3 = true ∧
    nextIs (exec (.bucketRefill 16) tGov) (fun t => t.level 1 == 160016000 && t.level 3 == 80016000) = true ∧
    nextIs (exec (.bucketRefill 16) (tGov.setFld .govStat 0 2 2)) (fun t => t.level 3 == 16000) = true := by decide +kernel
theorem test_admission :
    (3 : Nat) < ({ tDev with variant := .fj4_512 }).engines ∧
    nextIs (exec (.admissionRefresh 0 16) { tGov with unsettled := [(1, 10), (3, 20000)] }) (fun t =>
      t.level 1 == 15980 && t.admits.at 0 0 == 6) = true := by decide +kernel
/-- The calibration page is loaded and holds zeros. -/
def tTrim : State := { tDev.setFlag .calstat 0 true with trimmed := true }
/-- Its sensors have all failed. -/
def tBlind : State := (List.range 8).foldl (fun s i => s.setFlag .govTs 17 true i) tTrim
theorem test_sensors :
    tDev.sensorFailed 7 = false ∧
    nextIs (exec (.sensorReading (List.replicate 8 2800) 0) tTrim) (fun t => t.thermal == 3) = true ∧
    nextIs (exec (.sensorReading (List.replicate 8 (-880)) 0) tTrim) (fun t => t.thermal == 0 && t.fld .govTj 0 16 == encS 16 (-880)) = true := by decide +kernel
theorem test_sensors_lost :
    tBlind.sensorFailed 7 = true ∧
    nextIs (exec (.sensorReading (List.replicate 8 2801) 0) tBlind) (fun t => t.thermal == 3 && t.flag .govStat 6) = true := by decide +kernel
theorem test_gate :
    tDev.flag .govCtrl 0 = true ∧ tDev.islandIdle 5 = true ∧
    nextIs (exec (.islandGate 5 0) tDev) (fun t => t.flag .govIsl 5) = true ∧
    nextIs (exec (.forecast 160) tDev) (fun t => t.rd .govFcTime == 10) = true := by decide +kernel
theorem test_budget :
    tDev.lets .host .govBudgetMw 0 0 = true ∧
    nextIs (exec (.govBudgetWrite .host 0x12345678) tDev) (fun t => t.rd .govBudgetMw == 0x27105678) = true ∧
    nextIs (exec (.govBudgetWrite .supervisor 0x12345678) tDev) (fun t => t.rd .govBudgetMw == 0x12342710) = true ∧
    nextIs (exec (.govBudgetWrite (.ctx 0) 0x12345678) tDev) (fun t => t.rd .govBudgetMw == 0x12345678) = true := by decide +kernel
theorem test_gov_config :
    tDev.lets .host .govShare 0 0 = true ∧ govBad .share 0x00808000 = false ∧ govBad .share 0x00808001 = true ∧
    govBad (.depth 2) 1 = false ∧ govBad (.depth 2) 0x10000 = true ∧ tDev.lets .host .govFcTime 0 0 = true ∧
    nextIs (exec (.govConfigWrite .host .share 0x00808000) tDev) (fun t => t.rd .govShare == 0x00808000) = true ∧
    nextIs (exec (.govConfigWrite .host .share 0x00808001) tDev) (fun t => t.rd .govShare == tDev.rd .govShare && t.flag .govStat 7 && t.fld .govCnt 0 8 == 1) = true ∧
    nextIs (exec (.govClrCnt .host) (tDev.wr .govCnt 5)) (fun t => t.rd .govCnt == 0) = true := by decide +kernel
/-- A request for state n is under way. -/
def tReq (n : Nat) : State := { tDev with pwrReq := some { target := n, force := true, host := true, unchecked := false, op := none } }
theorem test_power_request :
    tDev.refusal .host 138 ⟨.govPstateReq, 0, 0⟩ = none ∧ tDev.pstateStateBad 1 false = false ∧
    tDev.pstateStateBad 5 false = true ∧ tDev.pstateStateBad 5 true = false ∧ tDev.switchoverOn = false ∧
    nextIs (exec (.govPstateReq .host 9) tDev) (fun t => t.flag .govPstate 3 && t.pwrReq.isSome && t.pstate == 0) = true ∧
    nextIs (exec (.govPstateReq .host 6) tDev) (fun t => t.fld .govPstate 16 16 == stParam && t.pwrReq.isNone) = true ∧
    nextIs (exec (.govPstateReq .host 5) tDev) (fun t => t.fld .govPstate 16 16 == stState && t.pwrReq.isNone) = true ∧
    nextIs (exec (.govPstateReq .host 1) (tReq 1)) (fun t => t.fld .govPstate 16 16 == stBusy) = true := by decide +kernel
theorem test_power_commit :
    nextIs (exec (.powerStateCommit 0) (tReq 1)) (fun t => t.pstate == 1 && t.pwrReq.isNone) = true ∧
    nextIs (exec (.powerStateExit 0 0) { tDev.setFld .govPstate 0 3 1 with waking := true }) (fun t => t.pstate == 0) = true ∧
    ({ tDev.setFld .govPstate 0 3 4 with waking := true }).pstate = 4 := by decide +kernel
/-- Watch slot 15 wakes on the given kind, in Slumber. -/
def tWatch (kind : Word) : State := (tDev.wr .wwSlot kind 15).setFld .govPstate 0 3 3
theorem test_watch :
    (tWatch 5).watches 15 .perst = true ∧ (tWatch 5).slotKind 15 = 5 ∧
    nextIs (exec (.watchSlotFire .perst true 0) (tWatch 5)) (fun t => t.flag .wwStat 15 && t.waking) = true ∧
    nextIs (exec (.watchSlotFire .perst true 0) ((tWatch 5).setFld .govPstate 0 3 1)) (fun t => !t.waking) = true ∧
    nextIs (exec (.alarm 0) ((tWatch 6).wr .govAoAlarm 77)) (fun t => t.flag .wwStat 15 && t.waking && t.rd .govAoCnt == 77) = true := by decide +kernel

/-! ## Interrupts, faults and commands of contexts -/

/-- Source 5, its level 4, is pending for context 3, whose vector of level 4 is 0x140. -/
def tIrq : State := ((({ tCtx [] with taskMem := Mem.putWords [] 0x10 [0x140] }.wr .intRoute (0x40300) 5).setFlag
  .intEnSet 5 true 0).setFlag .intPendSet 5 true 0)
theorem test_interrupt_entry :
    ((3 : Fin 128).val / 32 < tIrq.engines ∧ tIrq.atBoundary 3 = true) ∧ (tIrq.takable 3 (tIrq.ilvl 3)).isSome = true ∧
    tIrq.frameOk 3 (0x900 - 32) = true ∧ (tIrq.vectorOf 3 4).isSome = true ∧ (tCtx []).takable 3 16 = none ∧
    nextIs (exec (.interruptEntry 3 0) tIrq) (fun t => (t.ctx 3).pc == 0x140 && (t.ctx 3).sp == 0x8E0 && t.tm 0x8E0 == 0x100 && t.active 5) = true ∧
    nextIs (exec (.interruptEntry 3 0) (tIrq.onCtx 3 (fun c => { c with sp := 0x810 }))) (fun t => (t.ctx 3).fault == some { code := 0x15, pc := 0x100 }) = true ∧
    nextIs (exec (.interruptEntry 3 0) { tIrq with taskMem := Mem.putWords [] 0x10 [0x142] }) (fun t => (t.ctx 3).fault == some { code := 0x16, pc := 0x100 }) = true := by decide +kernel
/-- A handler of level 4, its frame at 0x8E0. -/
def tHandler : State := match exec (.interruptEntry 3 0) tIrq with | .next t => t | _ => tDev
theorem test_rete :
    tHandler.starts 3 0x54 ∧ tHandler.ilvl 3 = 4 ∧ tHandler.frameOk 3 0x8E0 = true ∧ tHandler.badWordIn 0x8E0 32 = none ∧
    tHandler.ceil 3 ≤ getF (tHandler.tm 0x8E4) 4 2 ∧ tHandler.ilvl 3 < getF (tHandler.tm 0x8E4) 8 5 ∧
    nextIs (exec (.rete 3) tHandler) (fun t => (t.ctx 3).pc == 0x100 && (t.ctx 3).sp == 0x900 && t.ilvl 3 == 16) = true ∧
    nextIs (exec (.rete 3) (tCtx [])) (fun t => (t.ctx 3).fault.isSome) = true := by decide +kernel
theorem test_noint_expiry :
    nextIs (exec (.nointExpiry 3 0xFFFFF) ((tCtx []).onCtx 3 (fun c => { c with psw := putB c.psw psNoint true }))) (fun t => !getB (t.psw 3) psNoint && getB (t.psw 3) psOverstay) = true := by decide +kernel
/-- The context that the fault has stopped. -/
def tFault (x : Nat) : State := (tDev.setCtxState x 2).setCtx x { fault := some { code := 0x12, pc := 0x100 } }
theorem test_task_fault :
    (tFault 127).halted 3 = false ∧
    nextIs (exec (.taskFault 127 0) (tFault 127)) (fun t => t.ctxState 127 == 5 && t.cr .ctxCause 127 == 0x12 && t.cr .ctxFaultPc 127 == 0x100) = true ∧
    nextIs (exec (.serviceFault 2 none 0) ((tFault 2).setCr .ctxEntry 0x40 2)) (fun t => t.ctxState 2 == 2 && (t.ctx 2).pc == 0x40) = true := by decide +kernel
theorem test_machine_checks :
    (tDev.halted 3 = false ∧ tDev.liveEngines.length = 4) ∧
    nextIs (exec (.mcMemory 3 0x806 0) { tCtx [] with badTm := [0x804] }) (fun t => t.ctxState 3 == 5 && t.fld .csStat 24 8 == 1) = true ∧
    ((tDev.repairs.at [] 3) = [] ∧ 2 ≤ tDev.liveEngines.length) := by decide +kernel
theorem test_retired :
    (tFault 32).mustRetire 1 = true ∧ ({ tFault 32 with failed := [80, 82, 83] }).liveEngines = [1] := by decide +kernel
theorem test_ctx_commands :
    (tDev.setCtxState 127 1).lets .host .ctxCmd 3 31 = false ∧ tDev.lets (.ctx 0) .ctxCmd 3 31 = true ∧ startable 4 = true ∧
    startable 5 = false ∧ stoppable 5 = true ∧
    nextIs (exec (.ctxCmdStart (.ctx 0) 3) ((tCtx [(52, 7)]).setCtxState 3 4)) (fun t => t.ctxState 3 == 2 && (t.ctx 3).sp == 0xA00 && t.g 3 4 == 0) = true ∧
    nextIs (exec (.ctxCmdStart (.ctx 0) 3) (tCtx [(52, 7)])) (fun t => t.g 3 4 == 7 && (t.ctx 3).pc == 0x100) = true ∧
    nextIs (exec (.ctxCmdStop (.ctx 0) 3) (tCtx [(52, 7)])) (fun t => t.ctxState 3 == 1 && t.g 3 4 == 7) = true ∧
    nextIs (exec (.ctxCmdStop (.ctx 0) 3) ((tCtx []).onCtx 3 (fun c => { c with out := some { regs := [], pc := 0x104 } }))) (fun t => t.ctxState 3 == 2 && (t.ctx 3).stopping) = true ∧
    nextIs (exec (.ctxStopEffect 3 0) ((tCtx []).onCtx 3 (fun c => { c with stopping := true }))) (fun t => t.ctxState 3 == 1) = true := by decide +kernel
/-- The test access port debugs engine 0, whose context 3 has MOVI r2, 0x8000 at its PC. -/
def tDebug : State := ({ tMem [] [] with jtag := .engDebug, taskMem := Mem.putWords [] 0x100 [encodeTask (.movi 3 2 0x8000)] }).setFlag .engDbg 0 true 0
theorem test_debug :
    tDebug.debugs 0 = true ∧ tDev.debugs 0 = false ∧ decodeTask 3 (tDebug.tm 0x100) = .movi 3 2 0x8000 ∧
    nextIs (exec (.engDebugHalt 3) { tDev with jtag := .engDebug }) (fun t => t.halted 3) = true ∧
    nextIs (exec (.engDebugResume 0) tDebug) (fun t => !t.halted 0) = true := by decide +kernel
theorem test_tap :
    nextIs (exec .idcode tDev) (fun t => t.scanned.length == 32) = true := by decide +kernel
/-- A management frame whose check is right. -/
def tMgmt (a d : Word) : MgmtFrame := { bits := 72, a := a, d := d, crc := Fin.ofNat 256 (mgmtCrc a d), early := false }
theorem test_management :
    tDev.mgmtReady 0 = true ∧ supReads 0 = true ∧ supMayWrite 0x0 = false ∧
    nextIs (exec (.mgmtRead { tMgmt 0 0 with bits := 71 }) tDev) (fun t => t.mgmtResp == (2, 0, 0) && t.fld .sysMgmt 8 8 == 1) = true ∧
    nextIs (exec (.mgmtNop { tMgmt 0x40000000 0 with crc := (tMgmt 0x40000000 0).crc + 1 }) tDev) (fun t => t.mgmtResp.1 == 1 && t.fld .sysMgmt 0 8 == 1) = true ∧
    nextIs (exec (.mgmtNop (tMgmt 0x40000000 0)) tDev) (fun t => t == tDev) = true ∧
    nextIs (exec (.mgmtRead (tMgmt 0 0)) tDev) (fun t => t.mgmtResp == (0, 1, 0)) = true ∧
    nextIs (exec (.mgmtRead (tMgmt 0x0 0)) (tDev.setFld .govPstate 0 3 3)) (fun t => t.mgmtResp.1 != 0) = true := by decide +kernel


/-! ## Start, masking and the log -/

/-- Every step of the start succeeds at once. -/
def tObs : StartObs :=
  { recOk := false, s2 := [true], s3 := [true], s4 := [true], s5 := [true], s6 := [true], csVer := 3, patchLevel := 0, patchId := 0,
    flashPatch := false, fwKs := 1, fwSvc := 2, csDigest := 0, subsys := 0, digest := 0, s7 := [true], fuseWord := 0, calTrims := [],
    badTiles := [], s10 := [true], v33 := [], octal := true, octalVolt := true, edges := [1, 1, 1],
    stepNs := [0, 100, 100, 100, 100, 100, 100, 100] }
theorem test_reset_and_brownout :
    nextIs (exec (.nresetAssert 999) (tChan 4)) (fun t => t == tChan 4) = true ∧
    nextIs (exec (.nresetAssert 10000) { tChan 4 with taskMem := [(0, 1)] }) (fun t => t.taskMem == [] && t.rd .chCount 0 1 == 0 && t.now == 0) = true ∧
    nextIs (exec (.vddBrownout 1000) (tDev.wr .wwSlot 5 3)) (fun t => t.rd .wwSlot 3 == 5) = true ∧
    nextIs (exec .vddAoLoss (tDev.wr .wwSlot 5 3)) (fun t => t.rd .wwSlot 3 == 0 && t.rd .sysId == 1) = true := by decide +kernel
/-- The start waits for the image that the host feeds. -/
def tFeed (len : Word) : State := ({ tDev with startWait := some (tObs, false), taskMem := Mem.putWords [] 8 [192] }).setFld .startFeedLen 0 22 len.toNat
theorem test_feed :
    ((tFeed 192).tm 8).toNat = 192 ∧ (tFeed 192).firstStrategy 10 2 = 0 ∧
    nextIs (exec (.startFeedGo .host true) (tFeed 191)) (fun t => t.flag .startFeed 1 && t.startWait.isSome) = true ∧
    nextIs (exec (.startFeedGo .host false) (tFeed 192)) (fun t => t.startHalted) = true ∧
    nextIs (exec (.feedTimeout 160000000000) (tFeed 192)) (fun t => t.startHalted && t.startWait.isNone) = true ∧
    nextIs (exec (.startFeedGo .supervisor true) (tFeed 192)) (fun t => t.startWait.isSome && t.fld .sysAccerr 0 16 == 1) = true := by decide +kernel
theorem test_clr_strat :
    tDev.lets .host .startCtrl 0 0 = true ∧ nextIs (exec (.clrStrat .host) tDev) (fun t => t.clrStrat) = true ∧
    nextIs (exec (.clrCounts .host) (tDev.wr .startRec 0x305 2)) (fun t => t.rd .startRec 2 == 0x300) = true := by decide +kernel
theorem test_spare :
    tDev.freeSpare = some 64 ∧ ({ tDev with variant := .fj4_256, spares := [(0, some 64), (1, some 65)] }).freeSpare = none ∧
    (63 < tDev.tiles ∧ tDev.isFailed 63 = false) ∧
    nextIs (exec (.tileSpare 63 0) tDev) (fun t => t.spares.at none 63 == some 64 && t.excluded 63 && t.flag .tileStat 11 63) = true ∧
    nextIs (exec (.spareRelease 63 16) { tDev with switching := [(63, some 0)], spares := [(63, some 64)] }) (fun _ => true) = true ∧
    ({ tDev with switching := [(63, some 0)] }).switching.at none 63 = some 0 := by decide +kernel
theorem test_scrub :
    tDev.partOf 0 = some 0 ∧
    nextIs (exec (.scrubRead .taskMemory 0xEFFFF .uncorrectable 0) tDev) (fun t => t.badTm == [0x3BFFFC]) = true ∧
    nextIs (exec (.scrubRead (.portScript 31) 255 .uncorrectable 0) tDev) (fun t => t.badScript == [0x1FFF]) = true ∧
    nextIs (exec (.scrubRead .catalogueEntry 131071 .uncorrectable 0) (tDev.wr .catW0 7 131071)) (fun t => t.fld .catW0 0 4 131071 == 0) = true ∧
    nextIs (exec (.scrubRead .calendarEntry 0 .corrected 0) tDev) (fun t => t.fld .fltMem 0 16 == 1) = true := by decide +kernel
theorem test_fault_ack :
    (tDev.lets .host .fltAck 0 0 = true ∧ tDev.fltAcked = 0) ∧
    nextIs (exec (.fltAckWrite .host 4) tDev) (fun t => t.fltAcked == 5 && t.rd .fltAck == 4) = true ∧
    nextIs (exec (.fltAckWrite .host 4) { tDev with fltAcked := 5 }) (fun t => t.fltAcked == 5 && t.rd .fltAck == 0) = true := by decide +kernel
theorem test_catalogue :
    tDev.lets .host .catW0 131071 0 = true ∧ tDev.catCheck 131071 1 511 0 = stOk ∧ tDev.catCheck 131071 1 512 0 = stParam ∧
    ({ tDev with variant := .fj4_256 }).catCheck 131071 1 511 0 = stAbsent ∧ tDev.catCheck 131071 0x201 511 0 = stParam ∧
    nextIs (exec (.catalogueWord0Write .host 131071 0xFF000001) tDev) (fun t => t.rd .catW0 131071 == 1) = true ∧
    nextIs (exec (.catalogueWord0Write .host 131071 0x201) tDev) (fun t => t.rd .catW0 131071 == 0 && t.rd .logCfgerr == toW (131071 + 2 ^ 17 + stParam * 2 ^ 24)) = true ∧
    nextIs (exec (.catalogueWord12Write .host 5 true 9) tDev) (fun t => t.rd .catW2 5 == 9) = true ∧
    nextIs (exec (.catalogueWord12Write .host 5 true 9) (tDev.wr .catW0 1 5)) (fun t => t.rd .catW2 5 == 0 && t.flag .logEvt 3) = true := by decide +kernel
theorem test_log_registers :
    (tDev.lets .host .logRing 0 0 = true ∧ tDev.lets .host .logRd 0 0 = true ∧ tDev.lets .host .logThresh 0 0 = true ∧ tDev.lets .host .logCtrl 0 0 = true) ∧
    tDev.logSize = 2 ^ 24 ∧ nextIs (exec (.logRingWrite .host 16) tDev) (fun t => t.rd .logRing == 16) = true ∧
    nextIs (exec (.logRingWrite .host 15) tDev) (fun t => t.rd .logRing == 24 && t.flag .logEvt 3) = true ∧
    nextIs (exec (.logRdWrite .host 8) ((tDev.wr .logWr 16))) (fun t => t.rd .logRd == 8) = true ∧
    nextIs (exec (.logRdWrite .host 24) ((tDev.wr .logWr 16))) (fun t => t.rd .logRd == 0 && t.flag .logEvt 3) = true ∧
    nextIs (exec (.logThreshWrite .host 0x1030201) tDev) (fun t => t.rd .logThresh == 0x1030201) = true ∧
    nextIs (exec (.logThreshWrite .host 0x1020201) tDev) (fun t => t.rd .logThresh == tDev.rd .logThresh && t.flag .logEvt 3) = true ∧
    nextIs (exec (.logCtrlWrite .host 1) tDev) (fun t => t.rd .logWr == 16 && t.rd .logCtrl == 1 && t.flag .logStat 4) = true ∧
    nextIs (exec (.logCtrlWrite .host 1) (tDev.wr .logWr 0xFFFFF8)) (fun t => t.rd .logWr == 0xFFFFF8 && t.flag .logStat 7) = true := by decide +kernel
/-- The log runs; signal 5 takes the events of channel 3 of tile 0, and one is offered. -/
def tLog : State := { ((tDev.setFlag .logCtrl 0 true).wr .catW0 1 5).wr .catW1 3 5 with offers := [{ src := 1, sel := 3, value := 77, ts := 1600 }] }
/-- A record of signal 5. -/
def tRec : State := { tLog with logQ := [{ sig := 5, cls := 0, value := 77, ts := 1600 }] }
theorem test_log_event :
    tLog.signalsOf 1 3 = [5] ∧ tLog.catF 24 8 5 = 0 ∧ tLog.logQ.length + 1 ≤ tLog.logT 0 * 4 ∧
    ¬tLog.logQ.length + 1 ≤ (tLog.setFld .logThresh 16 8 0).logT 1 * 4 ∧
    nextIs (exec (.logSourceEvent 1600) tLog) (fun t => t.logQ == [{ sig := 5, cls := 0, value := 77, ts := 1600 }] && t.offers == []) = true ∧
    nextIs (exec (.logSourceEvent 1600) ((tLog.wr .catW0 0x41 5).wr .logThresh 0)) (fun t => t.logQ == [] && t.fld .catW3 0 16 5 == 1 && t.flag .logStat 1) = true := by decide +kernel
theorem test_log_samples :
    nextIs (exec (.rateSample 5 32000) ((tLog.wr .catW0 0x11 5).wr .catW2 100 5)) (fun t => t.logQ.length == 1 && t.sampler == 32032) = true ∧
    nextIs (exec (.rateSample 5 1600) ({ (tLog.wr .catW0 0x11 5).wr .catW2 100 5 with sampler := 3200 })) (fun t => t.fld .logCntMisc 0 16 == 1 && t.logQ == []) = true := by decide +kernel
theorem test_log_record :
    (4 ≤ tRec.fld .logRing 0 5 ∧ tRec.compactOk { sig := 5, cls := 0, value := 77, ts := 1600 } false = false) ∧
    nextIs (exec (.logRecordWrite 1600) tRec) (fun t => t.rd .logWr == 16 && t.logMem.word 12 == 77 && t.logRecs == [(0, 16, 1280)]) = true ∧
    nextIs (exec (.logRecordWrite 1600) (tRec.wr .catW0 0 5)) (fun t => t.rd .logWr == 0 && t.fld .logCntMisc 16 16 == 1) = true ∧
    nextIs (exec (.logRecordWrite 1600) ((tRec.wr .logWr 0x1000000))) (fun t => t.logRecs == [] && t.fld .catW3 0 16 5 == 1) = true := by decide +kernel
theorem test_log_mark :
    nextIs (exec (.mark 0x400000000) tLog) (fun t => t.markSeq == 1 && t.rd .logWr == 16 && t.logMem.word 0 == 0x80000) = true ∧
    nextIs (exec (.mark 0x400000000) (tLog.wr .logWr 0xFFFFF8)) (fun t => t.flag .logStat 7) = true ∧
    (tLog.wr .catW0 7 5).signalsOf 7 3 = [5] ∧
    nextIs (exec (.remoteLogReceive 3 0 9 0) (tLog.wr .catW0 7 5)) (fun t => t.offers.length == 2) = true ∧
    nextIs (exec (.logFlushExpiry 160000) { tLog with logRecs := [(0, 16, 0)] }) (fun t => t.flag .logEvt 0) = true := by decide +kernel
/-- DMA channel 0 drains one record of the ring into task memory at 0x1000. -/
def tDrain : State := { ((((tLog.setFlag .logCtrl 1 true).wr .dmaCtrl 1 0).wr .logWr 16).setFld .logRing 0 5 16) with
  logRecs := [(0, 16, 0)], logMem := Mem.putWords [] 0 [1, 2, 3, 4],
  dmas := [(0, { desc := [toW (2 ^ 31 + 4 * 2 ^ 8), 16, 0, 0, 0x1000, 0, 0, 0] })] }
theorem test_log_drain :
    (tDrain.drains 0 = true ∧ tDrain.dmaGoes 0 = true ∧ tDrain.descBad 0 = false) ∧
    (fitRecs (tDrain.descLen 0 - tDrain.descDone 0) tDrain.logRecs).1 = [(0, 16, 0)] := by decide +kernel


/-! ## DMA channels and ports -/

/-- DMA channel 15 is enabled, its ring of one descriptor in task memory at 0x400. -/
def tRing (ws : List Word) : State := { (tDev.wr .dmaCtrl 0x11 15).wr .dmaRingLo 0x400 15 with taskMem := Mem.putWords [] 0x400 ws }
/-- It processes that descriptor. -/
def tDesc (ws : List Word) : State := { tRing ws with dmas := [(15, { desc := ws })] }
theorem test_dma_registers :
    (tDev.lets .host .dmaTail 15 0 = true ∧ tDev.lets .host .dmaCtrl 15 0 = true ∧ tDev.lets .host .dmaShare 15 0 = true ∧ tDev.lets .host .dmaGctrl 0 0 = true) ∧
    nextIs (exec (.dmaTail .host 15 5) ((tDev.wr .dmaRingSize 5 15).setFlag .dmaStat 1 true 15)) (fun t => t.rd .dmaTail 15 == 5 && !t.flag .dmaStat 1 15) = true ∧
    nextIs (exec (.dmaTail .host 15 6) ((tDev.wr .dmaRingSize 5 15).setFlag .dmaStat 3 true 15)) (fun t => t.rd .dmaTail 15 == 0 && (t.dma 15).bell) = true ∧
    nextIs (exec (.dmaEnWrite .host 15 true) tDev) (fun t => t.flag .dmaCtrl 0 15) = true ∧
    nextIs (exec (.pause .host 15 true) tDev) (fun t => t.flag .dmaStat 2 15 && t.flag .dmaEvt 2 15) = true ∧
    nextIs (exec (.resume .host 15) ((tDev.setFlag .dmaStat 3 true 15))) (fun t => !t.flag .dmaStat 3 15) = true ∧
    nextIs (exec (.skip .host 15) ((tRing [toW (2 ^ 31), 0, 0, 0, 0, 0, 0, 0]).setFlag .dmaStat 3 true 15)) (fun t => !getB (t.tm 0x400) 31 && !t.flag .dmaStat 3 15) = true ∧
    nextIs (exec (.skip .host 15) tDev) (fun t => t.dmas == [] && t.rd .dmaCnt 15 == 0) = true := by decide +kernel
theorem test_dma_ring_write :
    nextIs (exec (.dmaRingWrite .host 15 .share 256) tDev) (fun t => t.rd .dmaShare 15 == 256) = true ∧
    nextIs (exec (.dmaRingWrite .host 15 .share 257) tDev) (fun t => t.rd .dmaShare 15 == 0x700 && t.fld .dmaCnt 28 4 15 == 1) = true ∧
    nextIs (exec (.dmaRingWrite .host 15 .baseLo 31) tDev) (fun t => t.rd .dmaRingLo 15 == 0 && t.fld .dmaCnt 28 4 15 == 1) = true ∧
    nextIs (exec (.dmaRingWrite .host 15 .baseLo 32) tDev) (fun t => t.rd .dmaRingLo 15 == 32) = true ∧
    nextIs (exec (.dmaRingWrite .host 15 .head 0) tDev) (fun t => t.fld .dmaCnt 28 4 15 == 0) = true ∧
    nextIs (exec (.dmaRingWrite .host 15 .head 1) tDev) (fun t => t.fld .dmaCnt 28 4 15 == 1) = true ∧
    nextIs (exec (.dmaClrCnt .host) (tDev.wr .dmaCnt 5 3)) (fun t => t.rd .dmaCnt 3 == 0) = true := by decide +kernel
theorem test_dma_halt :
    tDev.ringSp 15 = 0 ∧
    nextIs (exec (.dmaHalt 15 { cause := 4, addr := 0x1234, write := false } 0) (tDev.wr .dmaCtrl 1 15)) (fun t => t.flag .dmaStat 3 15 && t.fld .dmaStat 5 3 15 == 1 && t.rd .dmaErrAddrLo 15 == 0x1234) = true ∧
    (tDesc [toW (2 ^ 31), 4, 0, 0, 0, 0, 0, 0]).srcSp 15 = 0 ∧
    nextIs (exec (.dmaHalt 15 { cause := 1, addr := 0x1234, write := true } 0) (tDesc [toW (2 ^ 31), 4, 0, 0, 0, 0, 0, 0])) (fun t => t.fld .dmaStat 5 3 15 == 3) = true := by decide +kernel
theorem test_dma_fetch :
    (tRing []).dmaFails 1 0x400 32 false = none ∧
    nextIs (exec (.descriptorFetch 15 0) (tRing [toW (2 ^ 31), 4, 0, 0, 0, 0, 0, 9])) (fun t => (t.dma 15).desc == [toW (2 ^ 31), 4, 0, 0, 0, 0, 0, 9] && t.flag .dmaStat 0 15) = true ∧
    nextIs (exec (.descriptorFetch 15 0) (tRing [5])) (fun t => (t.dma 15).desc == [] && t.flag .dmaStat 1 15) = true ∧
    nextIs (exec (.descriptorFetch 15 0) { tRing [5] with badTm := [0x41C] }) (fun t => t.flag .dmaStat 3 15 && t.fld .dmaStat 5 3 15 == 1 && t.rd .dmaErrAddrLo 15 == 0x41C) = true := by decide +kernel
/-- FILL, COPY and COMPARE of 8 bytes from 0x800 in task memory to 0x900. -/
def tMove (op : Word) : State := { tDesc [op + 0x50 + toW (2 ^ 31), 8, 0x800, 0, 0x900, 0, 0x11223344, 0] with taskMem := Mem.putWords (Mem.putWords [] 0x800 [1, 2]) 0x900 [1, 3] }
theorem test_dma_burst :
    ((tMove 0).srcSp 15 = 1 ∧ (tMove 0).dstSp 15 = 1 ∧ (tMove 0).burstLen 15 = 8) ∧
    ((tMove 1).mayBurst 15 [1] 0 = true ∧ (tMove 0).mayBurst 15 [0] 0 = true ∧ (tMove 2).mayBurst 15 [2] 0 = true) ∧
    (tMove 0).dmaFails 1 0x800 8 false = none ∧ getB ((tMove 2).descW 15 0) 8 = false ∧
    nextIs (exec (.fillDescriptor 15 0) (tMove 1)) (fun t => t.tm 0x900 == 0x11223344 && t.tm 0x904 == 0x11223344) = true ∧
    nextIs (exec (.copy 15 0) (tMove 0)) (fun t => t.tm 0x900 == 1 && t.tm 0x904 == 2 && t.rd .dmaProg 15 == 8) = true ∧
    nextIs (exec (.compare 15 0) (tMove 2)) (fun t => (t.dma 15).diff && t.rd .dmaProg 15 == 4) = true ∧
    nextIs (exec (.dmaBurst 15 0) (tMove 2)) (fun t => (t.dma 15).diff && t.rd .dmaProg 15 == 4) = true ∧
    nextIs (exec (.copy 15 0) (tMove 1)) (fun t => t == tMove 1) = true := by decide +kernel
theorem test_dma_complete :
    ((tMove 0).wr .dmaProg 8 15).descDoneAll 15 = true ∧
    nextIs (exec (.descriptorComplete 15 0) ((tMove 0).wr .dmaProg 8 15)) (fun t => t.tm 0x400 == 0x50 && t.tm 0x41C == toW (2 ^ 31 + 8) && t.fld .dmaCnt 0 16 15 == 1) = true := by decide +kernel
/-- Port 31 runs in a mode with a script word at 7, and has a transaction there. -/
def tPort (mode w : Word) : State := ((tDev.wr .portCfg (mode + 4) 31).wr .portScript w 31 7)
def tRun (mode w : Word) : State := { tPort mode w with portX := [(31, { run := some { txn := { script := 2, arg := 0, src := .host }, pc := 7, mark := 0, opEnd := 0, lead := 0, check := { pc := 7, mark := 0 } } })] }
theorem test_port_registers :
    (tDev.lets .host .portCfg 31 0 = true ∧ tDev.lets .host .portCtrl 31 0 = true ∧ tDev.lets .host .portScript 31 255 = true ∧ tDev.lets .host .portTt 31 0 = true) ∧
    tDev.portBad 31 .spi 0x3FF = false ∧ (tDev.portOn 31 = false ∧ (tPort 1 0).portOn 31 = true) ∧
    nextIs (exec (.portCfgWrite .host 31 .spi 0x3FE) tDev) (fun t => t.rd .portSpi 31 == 0x3FE) = true ∧
    nextIs (exec (.portCfgWrite .host 31 .spi 0x3FE) (tPort 1 0)) (fun t => t.rd .portSpi 31 == 0x3FF && t.fld .portCnt2 0 8 31 == 1) = true ∧
    nextIs (exec (.portCfgWrite .host 31 .cfg 1) (tPort 1 0)) (fun t => t.rd .portCfg 31 == 1) = true ∧
    nextIs (exec (.portCfgWrite .host 31 .cfg 1) (tRun 1 0)) (fun t => ((t.port 31).run.map (·.abort)) == some true) = true ∧
    nextIs (exec (.portScriptWrite .host 31 255 9) tDev) (fun t => t.rd .portScript 31 255 == 9) = true ∧
    nextIs (exec (.portScriptWrite .host 31 255 9) (tRun 1 0)) (fun t => t.rd .portScript 31 255 == 0 && t.fld .portCnt2 0 8 31 == 1) = true := by decide +kernel
theorem test_port_control :
    nextIs (exec (.portAbort .host 31) (tRun 1 0)) (fun t => ((t.port 31).run.map (·.abort)) == some true) = true ∧
    nextIs (exec (.portFlush .host 31) { tPort 1 0 with portX := [(31, { queue := [{ script := 9, arg := 0, src := .host }] })] }) (fun t => (t.port 31).queue == [] && t.fld .portCnt0 0 16 31 == 1 && t.rd .portLast 31 == completionWord 0 4 false 9) = true ∧
    nextIs (exec (.portClrCnt .host 31) (tDev.wr .portCnt1 5 31)) (fun t => t.rd .portCnt1 31 == 0) = true ∧
    nextIs (exec (.portDmemPtrWrite .host 31 0xFFFFFFFF) tDev) (fun t => t.rd .portDmemPtr 31 == 0x3FFFFC) = true := by decide +kernel
theorem test_port_time_trigger :
    nextIs (exec (.portTtWrite .host 31 .per 999) tDev) (fun t => t.rd .portTtPer 31 == 1000 && t.fld .portCnt2 0 8 31 == 1) = true ∧
    nextIs (exec (.portTtWrite .host 31 .per 1001) tDev) (fun t => t.rd .portTtPer 31 == 1001) = true ∧
    nextIs (exec (.portTtWrite .host 31 .tt 0x301) { (tPort 1 0).wr .portTtPer 1000 31 with now := 160 }) (fun t => ((t.port 31).queue.map (·.script)) == [3]) = true ∧
    nextIs (exec (.timeTrigger 31 1600) { ((tPort 1 0).wr .portTt 0x301 31).wr .portTtPer 1000 31 with portX := [(31, { tt := some 1600 })] }) (fun t => (t.port 31).queue.length == 1 && (t.port 31).tt == some 17600) = true ∧
    nextIs (exec (.timeTrigger 31 1600) { ((tPort 1 0).wr .portTt 0x301 31).wr .portTtPer 1000 31 with portX := [(31, { tt := some 1600 })], failed := [115] }) (fun t => (t.port 31).queue == [] && t.fld .portCnt0 24 8 31 == 1) = true := by decide +kernel
theorem test_port_start :
    nextIs (exec (.transactionStart 31 160000) ({ (tPort 1 0).wr .portScrEntry 0x107 31 2 with portX := [(31, { queue := [{ script := 2, arg := 0, src := .host }] })] })) (fun t => ((t.port 31).run.map (·.pc)) == some 7 && t.flag .portStat 0 31) = true ∧
    nextIs (exec (.transactionStart 31 160000) ({ tPort 1 0 with portX := [(31, { queue := [{ script := 2, arg := 0, src := .host }] })] })) (fun t => (t.port 31).run.isNone && t.rd .portLast 31 == completionWord 0 2 false 2) = true := by decide +kernel
/-- The running transaction. -/
def tTxn : PortRun := { txn := { script := 2, arg := 0, src := .host }, pc := 7, mark := 0, opEnd := 0, lead := 0, check := { pc := 7, mark := 0 } }
theorem test_script_words :
    ((tRun 1 0x10000002).scriptOp 31 tTxn = 1 ∧ (tRun 1 0x10000003).scriptOp 31 tTxn = 6) ∧
    nextIs (exec (.scriptCs 31 0) (tRun 1 0x10000002)) (fun t => (t.port 31).cs == 2 && ((t.port 31).run.map (·.pc)) == some 8) = true ∧
    ((tRun 1 0x20000108).scriptOp 31 tTxn = 2 ∧ (tRun 1 0x20000108).portMode 31 ≠ 3) ∧
    nextIs (exec (.xfer 31 0x1A5 0x100000) (tRun 1 0x20000108)) (fun t => t.rd .portRes 31 0 == 0xA5 && ((t.port 31).run.map (·.pc)) == some 8) = true ∧
    (tRun 3 0x30000000).scriptOp 31 tTxn = 3 ∧
    nextIs (exec (.recv 31 0) { tRun 3 0x30000100 with portX := [(31, { run := some tTxn, rx := [(0x55, 0, 0)] })] }) (fun t => t.rd .portRes 31 0 == 0x55 && (t.port 31).rx == []) = true ∧
    nextIs (exec (.timeout 31 0x1000000) (tRun 3 0x30010100)) (fun t => (t.port 31).run.isNone && t.rd .portLast 31 == completionWord 0 1 false 2) = true ∧
    (tRun 1 0x40000000).scriptOp 31 tTxn = 4 ∧
    nextIs (exec (.scriptWait 31 0) (tRun 1 0x40000000)) (fun t => ((t.port 31).run.map (·.pc)) == some 8) = true ∧
    (tRun 1 0x50030001).scriptOp 31 tTxn = 5 ∧
    nextIs (exec (.loop 31 0) (tRun 1 0x50030001)) (fun t => ((t.port 31).run.map (·.pc)) == some 3 && ((t.port 31).run.bind (·.loop)) == some (7, 0)) = true ∧
    nextIs (exec (.loop 31 0) { tRun 1 0x50030001 with portX := [(31, { run := some { tTxn with loop := some (7, 0) } })] }) (fun t => ((t.port 31).run.map (·.pc)) == some 8) = true ∧
    nextIs (exec (.loop 31 0) { tRun 1 0x50030001 with portX := [(31, { run := some { tTxn with abort := true }, cs := 1 })] }) (fun t => (t.port 31).run.isNone && (t.port 31).cs == 0) = true ∧
    nextIs (exec (.scriptEnd 31 0) (tRun 1 0)) (fun t => t.rd .portLast 31 == completionWord 0 0 false 2) = true ∧
    nextIs (exec (.scriptEnd 31 0) (tRun 1 0x10000003)) (fun t => t.rd .portLast 31 == completionWord 0 2 false 2) = true := by decide +kernel
/-- A SENT frame of one nibble at 3 µs ticks. -/
def tSent (calib crc : Nat) : SentObs :=
  { calib := calib, pulses := [12, 17, 12 + crc].map (fun n => n * 48000), pause := none, start := 0 }
def tSentPort : State := (tPort 2 0).wr .portSent (30 + 0x400) 31
theorem test_sent :
    sentCrc [5] false < 16 ∧
    nextIs (exec (.sentFrame 31 (tSent (56 * 48000) (sentCrc [5] false)) 1600) tSentPort) (fun t => (t.port 31).fast.isSome) = true ∧
    nextIs (exec (.sentFrame 31 (tSent (56 * 48000) ((sentCrc [5] false + 1) % 16)) 1600) tSentPort) (fun t => (t.port 31).fast.isNone && t.fld .portCnt1 0 8 31 == 1) = true ∧
    nextIs (exec (.sentFrame 31 (tSent (42 * 48000 - 1) 0) 1600) tSentPort) (fun t => t.fld .portCnt1 8 8 31 == 1) = true := by decide +kernel
theorem test_uart :
    nextIs (exec (.uartByte 31 0x41 true 1600) (tPort 3 0)) (fun t => ((t.port 31).rx.map (·.1)) == [0x41]) = true ∧
    nextIs (exec (.uartByte 31 0x41 false 1600) (tPort 3 0)) (fun t => (t.port 31).rx == [] && t.fld .portCnt1 8 8 31 == 1) = true ∧
    nextIs (exec (.uartByte 31 0x41 true 1600) { tPort 3 0 with portX := [(31, { rx := List.replicate 16 (0, 0, 0) })] }) (fun t => t.fld .portCnt1 16 8 31 == 1) = true := by decide +kernel
theorem test_port_swap :
    (31 < tDev.ports ∧ tDev.isFailed (portUnit 31) = false ∧ (tDev.setFld .fltSpare 4 2 1).freePortEngine = some 33) := by decide +kernel


/-! ## Mortar -/

/-- A part with links; Mortar is on, link 0 is enabled in the state given. -/
def tLink (st : Nat) : State := (((tDev.setFlag .mlCtrl 0 true).wr .mlLctrl 1 0).setFld .mlLstat 0 2 st 0).wr .mlDev 5
/-- The other end's training information. -/
def tPeer (role : Fin 3) (comma : Bool) : LinkInfo := { num := 9, root := true, depth := 7, role := role, joined := true, comma := comma }
theorem test_link_train :
    (0 < (tLink 0).linkCount ∧ (tLink 0).linkUp 0 = false ∧ (tLink 2).linkUp 0 = true) ∧
    ((tLink 0).role 0 = 0 ∧ (tLink 0).roleFits 0 (tPeer 1 true) = true ∧ (tLink 0).roleFits 0 (tPeer 0 true) = false) ∧
    nextIs (exec (.linkTrain 0 (tPeer 1 false) 0) (tLink 0)) (fun t => t.fld .mlLstat 0 2 == 1) = true ∧
    nextIs (exec (.linkTrain 0 (tPeer 0 true) 0) (tLink 0)) (fun t => t.fld .mlLstat 0 3 == 5) = true ∧
    nextIs (exec (.linkTrain 0 (tPeer 1 true) 0) (tLink 0)) (fun t => t.fld .mlLstat 0 2 == 2 && t.fld .mlLstat 4 9 == 9 && t.fld .mlStat 5 4 == 8) = true := by decide +kernel
/-- A frame of the type for this device. -/
def tGot (ty seq : Nat) (good : Bool) : RxFrame :=
  let f : MFrame := { (tFrame ty 2).frame with src := 3, dst := 5 }
  { seq := Fin.ofNat 256 seq, frame := f, crc := if good then frameCrc f else frameCrc f + 1 }
theorem test_frames :
    ((tGot 7 0 true).seq.toNat = ((tLink 2).link 0).rxSeq ∧ (tGot 7 0 true).frame.dst = (tLink 2).devNum ∧ (tGot 7 0 true).frame.hops < 9) ∧
    nextIs (exec (.frameReceive 0 (tGot 0 0 true) 0) (tLink 2)) (fun t => (t.link 0).rxSeq == 1) = true ∧
    nextIs (exec (.frameReceive 0 (tGot 7 0 true) 0) (tLink 2)) (fun t => (t.link 0).rxSeq == 1 && t.msgQ == [(0, 3, 0)]) = true ∧
    nextIs (exec (.frameReceive 0 (tGot 11 0 true) 0) (tLink 2)) (fun t => t.fld .mlCnt1 24 8 == 1) = true ∧
    nextIs (exec (.frameReceive 0 (tGot 7 1 true) 0) (tLink 2)) (fun t => (t.link 0).rxSeq == 0 && t.fld .mlCnt0 0 16 == 1) = true ∧
    nextIs (exec (.frameReceive 0 (tGot 7 0 false) 0) (tLink 2)) (fun t => t.msgQ == [] && t.fld .mlCnt0 0 16 == 1) = true := by decide +kernel
/-- Frame 200 has been sent n times. -/
def tSent9 (n : Nat) : State := { tLink 2 with links := [(0, { txSeq := 201, unacked := [(200, (tFrame 7 0).frame, n)] })] }
theorem test_retransmit :
    nextIs (exec (.retransmitTimeout 0 32000) (tSent9 8)) (fun t => ((t.link 0).unacked.map (·.2.2)) == [9] && t.fld .mlCnt0 16 16 == 1) = true ∧
    nextIs (exec (.retransmitTimeout 0 32000) (tSent9 9)) (fun t => !t.linkUp 0 && t.fld .mlCnt1 0 8 == 1) = true ∧
    nextIs (exec (.ackNakReceive 0 false 200) (tSent9 1)) (fun t => (t.link 0).unacked == []) = true ∧
    nextIs (exec (.ackNakReceive 0 true 199) (tSent9 1)) (fun t => (t.link 0).unacked.length == 1) = true ∧
    nextIs (exec (.linkDown 0 0) (tLink 2)) (fun t => t.fld .mlLstat 0 4 == 0 && t.flag .mlEvt 1) = true ∧
    nextIs (exec (.linkDown 0 0) (tLink 0)) (fun t => t == tLink 0) = true := by decide +kernel
theorem test_link_time :
    nextIs (exec (.beaconSend 0 16384) (tLink 2)) (fun t => (t.link 0).sentBeacon == 16384) = true ∧
    nextIs (exec (.beaconReceive 0 7 (Fin.ofNat 256 (beaconCheck 7 + 1)) 16384) (tLink 2)) (fun t => (t.link 0).beacon == none && t.fld .mlCnt1 16 8 == 1) = true ∧
    nextIs (exec (.beaconReceive 0 7 (Fin.ofNat 256 (beaconCheck 7)) 16384) (tLink 2)) (fun t => (t.link 0).beacon == some (7, 16384) && (t.link 0).total == 1) = true ∧
    nextIs (exec (.delayFrame 0 100 160 200) { tLink 2 with links := [(0, { beacon := some (0, 40) })] }) (fun t => t.rd .mlDelay 0 == 50 && (t.link 0).exchanges == 1) = true ∧
    nextIs (exec (.alive 0 160000) (tLink 2)) (fun t => (t.link 0).unacked.length == 1) = true := by decide +kernel
/-- Link 1 is a standby, its other end joined; the device has joined and lost its uplink. -/
def tStandby : State := { ((tLink 0).wr .mlLctrl 5 1 |>.setFld .mlLstat 0 2 2 1).setFld .mlStat 0 2 2 with links := [(1, { peerJoined := true })] }
theorem test_takeover :
    (tStandby.role 1 = 2 ∧ tStandby.uplink = none ∧ tStandby.joined = true ∧ tStandby.linkUp 1 = true) ∧
    nextIs (exec (.standbyTakeover 1 0) tStandby) (fun t => t.flag .mlLstat 3 1 && t.fld .mlCnt1 8 8 1 == 1) = true := by decide +kernel
/-- The device asks to join over link 0, its offset as given. -/
def tJoin (off : Word) : State :=
  { ((((tLink 2).setFlag .droneStat 0 true).setFlag .mlLstat 3 true 0).setFld .mlStat 0 2 1).wr .mlOffset off with links := [(0, { peerJoined := true, total := 16, exchanges := 1 })] }
theorem test_join :
    ((tJoin 0).joinState = 1 ∧ (tJoin 0).depthOf ≤ 8 ∧ (tJoin 0).uplink = some 0 ∧ (tJoin 0).quiet = true) ∧
    nextIs (exec (.joinJudgement true 0) (tJoin 0)) (fun t => t.fld .mlStat 0 5 == 15) = true ∧
    nextIs (exec (.joinJudgement false 0) (tJoin 64000)) (fun t => t.fld .mlStat 0 5 == 2 && t.flag .droneStat 2) = true ∧
    nextIs (exec (.joinJudgement false 0) (tJoin 64001)) (fun t => t.fld .mlStat 0 5 == 11) = true ∧
    nextIs (exec (.joinJudgement false 0) (tJoin (-64001))) (fun t => t.fld .mlStat 0 5 == 2 && t.now == 80385) = true ∧
    nextIs (exec (.joinJudgement false 0) ((tJoin (-64001)).setFlag .logCtrl 0 true)) (fun t => t.fld .mlStat 0 5 == 7) = true := by decide +kernel
theorem test_root :
    (tDev.lets .host .mlCtrl 0 0 = true ∧ (tDev.setFlag .mlCtrl 1 true).quiet = true) ∧
    nextIs (exec (.mlCtrlEnable .host) (tDev.setFlag .mlCtrl 1 true)) (fun t => t.now == 0x10000000000000 && t.flag .droneStat 3) = true ∧
    nextIs (exec (.mlClrCnt .host) (tDev.wr .mlCnt0 9 3)) (fun t => t.rd .mlCnt0 3 == 0) = true ∧
    nextIs (exec (.holdMaxExpiry 16000000) ((tLink 0).wr .mlStat 0x802 |>.wr .mlHold 1)) (fun t => t.fld .mlStat 0 5 == 0 && !t.flag .mlStat 11) = true := by decide +kernel
/-- The root, whose start names channel 0 of tile 63 at 320,640. -/
def tRoot : State := ((((tLink 0).setFlag .mlCtrl 1 true).wr .mlSsCtrl 1).wr .mlSsTilesHi 0x80000000).setFld .mlSsChmask 0 8 1 63 |>.wr .mlSsAtLo 320640
theorem test_system_start :
    (tRoot.isRoot = true ∧ tRoot.lets .host .mlSsGo 0 0 = true ∧ tRoot.flag .mlSsTilesHi 31 = true) ∧
    (stampOf (tRoot.rd .mlSsAtLo) (tRoot.rd .mlSsAtHi)).toNat = 320640 ∧
    nextIs (exec (.sysstartSend .host 0x70001) tRoot) (fun t => t.rd .mlSsGo == 0x70000 && t.rd .tileStartArm 63 == 257) = true ∧
    nextIs (exec (.sysstartSend .host 0x70001) { tRoot with now := 641 }) (fun t => t.flag .mlStat 12 && t.rd .tileStartArm 63 == 0) = true ∧
    nextIs (exec (.sysstartReceive 0x500000000 7 0) tRoot) (fun t => t.rd .mlSsGo == 0x70000 && t.rd .tileStartArm 63 == 257) = true := by decide +kernel
theorem test_system_locks :
    nextIs (exec (.systemLockRequest 63 .acquire 511 127 0) tRoot) (fun t => t.rd .mlSlockOwner 63 == 0x807F01FF) = true ∧
    nextIs (exec (.systemLockRequest 63 .acquire 4 1 0) (tRoot.wr .mlSlockOwner 0x807F01FF 63)) (fun t => t.rd .mlSlockOwner 63 == 0x807F01FF) = true ∧
    nextIs (exec (.systemLockRequest 63 .wait 4 1 0) (tRoot.wr .mlSlockOwner 0x807F01FF 63)) (fun t => t.slockWaiters 63 == [(4, 1)]) = true ∧
    nextIs (exec (.systemLockRequest 63 .release 4 1 0) (tRoot.wr .mlSlockOwner 0x807F01FF 63)) (fun t => t.fld .lockStat 0 16 == 1) = true ∧
    nextIs (exec (.systemLockRequest 63 .release 511 127 0) { tRoot.wr .mlSlockOwner 0x807F01FF 63 with slockQ := [(63, [(4, 1)])] }) (fun t => t.rd .mlSlockOwner 63 == 0x80010004 && t.slockWaiters 63 == []) = true ∧
    nextIs (exec (.deviceLost 511 0) (tRoot.wr .mlSlockOwner 0x807F01FF 63)) (fun t => t.rd .mlSlockOwner 63 == 0 && t.rd .fltSeq == 1) = true := by decide +kernel
theorem test_messages :
    nextIs (exec (.msgReceive 0 7 9 77 0) (tLink 2)) (fun t => t.msgQ == [(9, 7, 77)]) = true ∧
    nextIs (exec (.msgReceive 0 7 9 77 0) { tLink 2 with msgQ := List.replicate 16 (0, 0, 0) }) (fun t => t.msgQ.length == 16 && t.fld .mlCnt1 24 8 == 1) = true ∧
    nextIs (exec (.mlMsgqPop .host) { tLink 2 with msgQ := [(9, 7, 77), (1, 2, 3)] }) (fun t => t.msgQ == [(1, 2, 3)]) = true ∧
    nextIs (exec (.faultNoticeReceive 0 511 0x13 99) (tLink 2)) (fun t => t.rd .mlFnLast == 0x1301FF && t.rd .mlFnTime == 99) = true ∧
    peerOf ((tLink 2).wr .mlPmbSrc 0xC07 3 |>.rd .mlPmbSrc 3) = (7, 3) ∧
    nextIs (exec (.peerMboxReceive { dev := 7, srcIdx := 3, dstIdx := 3, op := .data [5, 6] } 0) ((tLink 2).wr .mlPmbSrc 0xC07 3)) (fun t => t.go 39 && t.rd .mbData 39 1 == 6) = true ∧
    nextIs (exec (.peerMboxReceive { dev := 7, srcIdx := 3, dstIdx := 3, op := .data [5, 6] } 0) (((tLink 2).wr .mlPmbSrc 0xC07 3).wr .mbCtrl 1 39)) (fun t => t.rd .mbData 39 1 == 0) = true ∧
    nextIs (exec (.peerMboxReceive { dev := 7, srcIdx := 3, dstIdx := 3, op := .ack } 0) (((tLink 2).wr .mlPmbDst 0xC07 3).wr .mbCtrl 1 43)) (fun t => !t.go 43) = true := by decide +kernel

/-! ## Commands of packets, the queue and rights -/

/-- A packet on host channel 3, the box empty. -/
def tPk (target : Word) (ps : List Word) : Packet := { path := .hostBox 3, tag := 0x55, wait := false, quiet := false, target := target, params := ps }
/-- The checks of R316 are passed. -/
def tCarries (s : State) (op : Nat) (pk : Packet) : Bool :=
  s.mayTake pk.path 3 && !s.go (inBox 3) && (match cmdOf op with | some c => s.cmdCheck c op pk false == none | none => false)
/-- What the reply box holds: status and the first result. -/
def tSays (o : Host.Outcome State Fault Refusal) (w0 w2 : Word) : Bool := nextIs o (fun t => t.go (outBox 3) && t.rd .mbData (outBox 3) 0 == w0 && t.rd .mbData (outBox 3) 2 == w2)
theorem test_channel_refusals :
    (tDev.mayTake (.hostBox 15) 15 = false ∧ tDev.mayTake (.hostBox 3) 3 = true) := by decide +kernel
/-- For each opcode with the target and the number of parameters given, a packet of zeros passes the checks of R316. -/
def tPasses (l : List (Nat × Word × Nat)) : Bool := l.all (fun (op, tg, n) => tCarries tDev op (tPk tg (List.replicate n 0)))
theorem test_passes_device_units :
    tPasses [(0, 0xFFFF, 0), (1, 0xFFFF, 0), (2, 0xFFFF, 0), (3, 63, 0), (4, 63, 1), (5, 63, 1), (6, 0xFFFF, 0), (0x100, 138, 1), (0x101, 138, 5), (0x102, 138, 2), (0x103, 138, 1), (0x104, 138, 0)] = true := by decide +kernel
theorem test_passes_tiles :
    tPasses [(0x200, 63, 11), (0x201, 63, 1), (0x202, 63, 4), (0x203, 63, 1), (0x204, 63, 1), (0x205, 63, 4), (0x206, 63, 6), (0x207, 63, 1), (0x208, 63, 2), (0x209, 63, 1), (0x20A, 143, 2)] = true := by decide +kernel
theorem test_passes_domains_calendar :
    tPasses [(0x300, 79, 10), (0x301, 79, 2), (0x302, 79, 1), (0x303, 79, 5), (0x304, 79, 11), (0x305, 79, 0), (0x400, 136, 6), (0x401, 136, 1), (0x402, 136, 1), (0x403, 136, 2), (0x404, 136, 3), (0x405, 136, 1), (0x406, 136, 1)] = true := by decide +kernel
theorem test_passes_log_ports :
    tPasses [(0x500, 137, 5), (0x501, 137, 1), (0x502, 137, 2), (0x503, 137, 5), (0x504, 137, 0), (0x600, 115, 8), (0x601, 115, 2), (0x602, 115, 2), (0x603, 115, 2), (0x604, 115, 5), (0x605, 115, 1), (0x606, 115, 0)] = true := by decide +kernel
theorem test_passes_mortar_contexts :
    tPasses [(0x700, 139, 3), (0x701, 116, 2), (0x702, 139, 6), (0x703, 139, 3), (0x704, 139, 3), (0x705, 139, 0), (0x800, 0x103, 13), (0x801, 0x103, 0), (0x802, 0x103, 0), (0x803, 0x103, 0), (0x804, 0x103, 1), (0x805, 0x103, 1)] = true := by decide +kernel
theorem test_passes_firmware :
    tPasses [(0x900, 80, 0), (0x901, 0xFFFF, 2), (0xA00, 0xFFFF, 2), (0xB00, 0xFFFF, 1), (0xB01, 0xFFFF, 1), (0xB02, 0xFFFF, 1)] = true ∧
    tCarries tDev 0xA01 (tPk 0xFFFF [0x5E0, 1, 7]) = true := by decide +kernel
theorem test_replies :
    tSays (exec (.nop (tPk 0xFFFF [])) tDev) 0 0 = true ∧ tSays (exec (.echo (tPk 0xFFFF [7, 8])) tDev) 0x20000 7 = true ∧
    tSays (exec (.devInfo (tPk 0xFFFF [])) tDev) 0x80000 1 = true ∧
    tSays (exec (.tileRead (tPk 63 [7])) (tDev.wr .chStat 0 63 7)) 0xC0000 0 = true ∧
    tSays (exec (.calRead (tPk 0xFFFF [0, 1])) (tDev.wr .calPage 7 0)) 0x10000 7 = true ∧
    tSays (exec (.faultRead (tPk 0xFFFF [0])) tDev) (toW stParam) 0 = true ∧
    tSays (exec (.ctxStart (tPk 0x100 [])) tDev) (toW stDenied) 0 = true := by decide +kernel
theorem test_refusals :
    rowCommand (.unitSet (tPk 63 [])) = some (4, tPk 63 []) ∧ ((cmdOf 4).map (fun c => c.len true [])) = some false ∧
    tDev.targetAbsent 0x99 = true ∧ (cmdOf 0x200).map (fun c => c.target.takes 64) = some false ∧
    ({ tDev with failed := [63] }).barred (.hostBox 3) 63 = true ∧ (cmdOf 0x502).map (·.long) = some true ∧
    nextIs (exec (.nop { tPk 0xFFFF [] with path := .hostBox 15 }) tDev) (fun t => t == tDev) = true ∧
    tSays (exec (.unitSet (tPk 63 [])) tDev) (toW stParam) 0 = true ∧
    tSays (exec (.tileCtrl (tPk 64 [0])) tDev) (toW stParam) 0 = true ∧
    tSays (exec (.tileCtrl (tPk 63 [0])) { tDev with failed := [63] }) (toW stDenied) 0 = true := by decide +kernel
theorem test_command_effects :
    nextIs (exec (.pwrBudget (tPk 138 [0x1234])) tDev) (fun t => t.rd .govBudgetMw == 0x27101234) = true ∧
    nextIs (exec (.tileStop (tPk 0 [2])) (tChan 5)) (fun t => !t.running 0 1) = true ∧
    nextIs (exec (.portScript (tPk 115 [255, 1, 9])) tDev) (fun t => t.rd .portScript 31 255 == 9) = true ∧
    nextIs (exec (.catWrite (tPk 137 [5, 1, 7, 0, 0])) tDev) (fun t => t.rd .catW0 5 == 1 && t.rd .catW1 5 == 7) = true ∧
    nextIs (exec (.ctxPost (tPk 0x103 [42])) (tCtx [])) (fun t => ((t.ctx 3).evq.map (·.1)) == [42]) = true ∧
    nextIs (exec (.ctxLower (tPk 0x103 [0x30])) (tCtx [])) (fun t => t.cf .ctxCtrl 0 4 3 == (tCtx []).cf .ctxCtrl 0 4 3) = true ∧
    nextIs (exec (.mlSetup (tPk 139 [7, 2, 1])) tDev) (fun t => t.rd .mlDev == 7 && t.rd .mlHold == 1) = true ∧
    nextIs (exec (.faultAck (tPk 0xFFFF [3])) tDev) (fun t => t.fltAcked == 4) = true := by decide +kernel
theorem test_long_operations :
    nextIs (exec (.portRun (tPk 115 [2, 9])) (tPort 1 0)) (fun t => (t.port 31).queue == [{ script := 2, arg := 9, src := .host, op := some 0 }] && t.longNext == 1) = true ∧
    nextIs (exec (.longCompletion 4) { tDev with longOps := [{ num := 4, opcode := 0x502, path := .hostBox 3, tag := 1, wait := false, quiet := false, target := 137, params := [], outcome := some (0, [6]) }] }) (fun t => t.rd .mbData 19 0 == 0x01010000 && t.rd .mbData 19 2 == 6 && t.longOps == []) = true ∧
    nextIs (exec (.longCompletion 4) tDev) (fun t => t == tDev) = true := by decide +kernel
/-- Channel 0's COMMAND descriptor, whose packet is a NOP. -/
def tCmd : State := { tDev.wr .dmaCtrl 1 0 with taskMem := Mem.putWords [] 0x800 [0, toW (7 + 0xFFFF * 2 ^ 16)], dmas := [(0, { desc := [toW (2 ^ 31 + 0x53), 8, 0x800, 0, 0x900, 0, 64, 0] })] }
theorem test_command_descriptor :
    (tCmd.atCommand 0 = true ∧ tDev.atCommand 0 = false) ∧
    nextIs (exec (.command 0 0) tCmd) (fun t => (t.dma 0).taken && t.rd .dmaProg 0 == 8 && t.tm 0x904 == 7) = true := by decide +kernel
theorem test_refused_writes :
    gateOf (.chCtrlWrite .host 511 0) = some (.host, .chCtrl, 63, 7) ∧
    (({ tDev with variant := .fj4_256 }).fitted 63 = false ∧ tDev.fitted 63 = true) ∧
    nextIs (exec (.chCtrlWrite .host 511 1) { tDev with variant := .fj4_256 }) (fun t => t.rd .chCtrl 63 7 == 0) = true ∧
    nextIs (exec (.chCtrlWrite .host 511 1) (tDev.setFlag .unitReq 3 true 63)) (fun t => t.rd .chCtrl 63 7 == 0 && t.fld .unitReq 8 8 63 == 1 && t.rd .sysAccerrSrc == accSrc .host .ownership) = true ∧
    nextIs (exec (.chCtrlWrite .supervisor 511 1) tDev) (fun t => t.rd .chCtrl 63 7 == 0 && t.rd .sysAccerr == 1) = true ∧
    nextIs (exec (.chCtrlWrite (.ctx 0) 511 1) (tDev.setFlag .unitReq 3 true 63)) (fun t => t.rd .chCtrl 63 7 == 1) = true ∧
    (RegName.droneCtrl.block.hostReadOnly = true ∧ tDev.privOf 0 = 0 ∧ (tCtx []).privOf 3 = 3) ∧
    nextIs (exec (.chCtrlWrite (.ctx 3) 511 1) (tCtx [])) (fun t => t.fld .sysAccerr 0 16 == 0) = true := by decide +kernel
theorem test_queue :
    nextIs (step { tDev with pending := [.chCtrlWrite .host 511 1, .tapReset] }) (fun t => t.rd .chCtrl 63 7 == 1 && t.pending == [.tapReset]) = true ∧
    State.reset.waitingChannel = none ∧ (tDev.wr .mbCtrl 1 3).waitingChannel = some 3 ∧
    (nextIs (step State.reset) (fun t => t.now == 640) = true ∧ nextIs (step (tDev.setFlag .droneStat 0 true)) (fun t => t.now == 16) = true) ∧
    nextIs (step (tDev.wr .mbCtrl 1 3)) (fun t => !t.go 3 && t.go 19) = true ∧ State.reset.memsWf = true := by decide +kernel
theorem test_start_observations :
    (tObs.recOk = false ∧ tObs.s2.getD 0 false = true ∧ tObs.s10.getD 0 false = true ∧ tObs.badTiles = []) ∧
    nextIs (exec (.coldStart { tObs with s2 := [false, false] }) State.reset) (fun t => t.startHalted) = true := by decide +kernel

/-! ## Clauses met where they part -/

theorem test_capture_second : nextIs (exec (.inputFilterAccept (.capture 1) true 1600 3200)
    (((tDev.wr .chCtrl 0x24 0 1).setFlag .chStat 0 true 0 1).setChan 1 { capNs := 100 })) (fun t =>
      t.fld .chErrcnt 16 8 0 1 == 1 && t.edgesOf 1 == []) = true := by decide +kernel
/-- Domain 0 in HALF, one phase edge expected at angle 5 of either direction, and an edge accepted. -/
def tHalf : State := { ((((tDom 2 1).setFld .domPat1 16 5 1 0).setFld .domPat2 0 16 3 0).wr .domPhRise 5 0 0).onDom 0 (fun x =>
  { x with lead := some 5 }) with edges := [(528, [(1600, false)])] }
theorem test_half_to_sync : nextIs (exec (.phaseToothEdge 0 1600) tHalf) (fun t => t.domState 0 == 3) = true := by decide +kernel
theorem test_bridge_meets_minpw : nextIs (exec (.deadTimeExpiry 0 3 1600) (((((((tBridge.wr .chCtrl 1 0 6).wr .chPeriod 20 0 6).wr
    .chAperiod 20 0 6).wr .chAcmpa 5 0 6).wr .chAact 0x9 0 6).setFlag .chStat 0 true 0 6).setChan 6 { top := 20, stepNs := 98 } |>.setBridge 3
    { due := some (false, 1600), minpw := 60000 })) (fun t => !t.sideOn 0 3 true && t.fld .brStat 8 8 0 3 == 1) = true := by decide +kernel
/-- The entry freed, its generation 2, otherwise as given. -/
def tFreed (x : Entry → Entry) : State := (tArmed.setPhase 0 0).onEntry 0 (fun e => x { e with gen := 2 })
theorem test_cancel_corners :
    nextIs (exec (.calendarCancelDecision .host 0x2000 0) (tFreed (fun e => { e with cancelled := (tArmed.reachIn islFabric 0).fabNow + 1 })))
      (fun t => t.calAnswer.1 == toW stOk) = true ∧
    nextIs (exec (.calendarCancelDecision .host 0x2000 0) (tFreed (fun e => { e with firedNs := 5 }))) (fun t => t.calAnswer.1 == toW stTooLate) = true ∧
    nextIs (exec (.calendarCancelDecision (.ctx 35) 0x2000 0) (tFreed (fun e => { e with firedNs := 5 }))) (fun t => t.calAnswer.1 == toW stDenied) = true ∧
    nextIs (exec (.calendarCancelDecision .host 0x2000 0) (tArmed.setPhase 0 4)) (fun t => t.calAnswer.1 == toW stTooLate && t.ePhase 0 == 4) = true ∧
    nextIs (exec (.calendarCancelDecision .host 0x2000 0) (tArmed.onEntry 0 (fun e => { e with firedNs := 5 }))) (fun t =>
      t.calAnswer.1 == toW stTooLate && t.ePhase 0 == 2) = true := by decide +kernel
theorem test_sleep_intent :
    nextIs (exec (.sleepIntent .l2) { tDev with hostLink := .l1, d3hot := true }) (fun t => t.hostLink == .l2) = true ∧
    nextIs (exec (.sleepIntent .d0) { tDev with hostLink := .l1, d3hot := true }) (fun t => !t.d3hot) = true ∧
    nextIs (exec (.sleepIntent .l1) { tDev with hostLink := .up }) (fun t => t.hostLink == .l1) = true ∧
    nextIs (exec (.sleepIntent .d3hot) { tDev with hostLink := .reset }) (fun t => t.hostLink == .reset && !t.d3hot) = true ∧
    nextIs (exec (.sleepIntent .l2) tVec) (fun t => t.hostLink == tVec.hostLink || t.hostLink == .l2) = true := by decide +kernel
theorem test_debug_held :
    { tDebug with heldChecks := [(0, [{ l := 3, word := none }])] }.debugs 0 = true ∧
    nextIs (exec (.engDebugStep 0 3) tDebug) (fun t => t.g 3 2 == 0xFFFF8000 && (t.ctx 3).pc == 0x104 && t.halted 0) = true := by decide +kernel
/-- A patch for engines 0 and 1 waits in task memory at 0x1000, so long in bytes. -/
def tPatch (n : Word) (ws : List Word) : State :=
  { (tDev.wr .csVer 3 0).wr .csVer 3 1 with taskMem := Mem.putWords [] 0x1000 (ws ++ List.replicate 16 0), longOps := [
    { num := 4, opcode := 0x901, path := .hostBox 3, tag := 1, wait := false, quiet := false, target := 0xFFFF, params := [0x1000, n], outcome := none }] }
/-- A MICROCODE record: four words at 0x1C00. -/
def tPatchMicro : State := tPatch 120 [0x48435450, 0x10008, 3, 7, 9, 1, 1, 24, 0x10001, 0x1C00, 1, 2, 3, 4]
theorem test_patch :
    (tPatchMicro.patchCheck (tPatchMicro.taskMem.words 0x1000 30) true).1 = stOk ∧ tPatchMicro.settled 0 = true ∧
    nextIs (exec (.patchApply false 0) tPatchMicro) (fun t => t.rd .csPatch 0 == 0 && t.longOps.all (fun o => o.outcome.isSome)) = true ∧
    (tPatchMicro.patchCheck ([0x48435450, 0x10008, 3, 7, 9, 3, 1, 12, 0x10002, 0xC1, 0x9C00] ++ List.replicate 16 0) true).1 = stOk ∧
    nextIs (exec (.patchApply true 0) (tPatchMicro.onCtx 5 (fun x => { x with out := some { regs := [], pc := 0 } }))) (fun t =>
      t.rd .csPatch 0 == 0 && t.longOps.all (fun o => o.outcome.isNone)) = true := by decide +kernel
theorem test_dma_corners :
    nextIs (exec (.pause (.ctx 0) 15 true) ((tDev.wr .dmaCtrl 1 15).onDma 15 (fun x =>
      { x with pausedBy := ((tDev.arrived .dmaCtrl 15 0).fabNow + 1, 133) }))) (fun t => !t.flag .dmaCtrl 1 15) = true ∧
    nextIs (exec (.dmaBurst 15 0) (({ tMove 0 with dmas := [(3, (tMove 0).dma 15), (15, (tMove 0).dma 15)] }).wr .dmaCtrl 0x11 3)) (fun t =>
      t.dmaLast == 3 || t.dmaLast == 15) = true := by decide +kernel
theorem test_golden_lost :
    { tDev with goldenLost := [goldenKey 0 5] }.goldenLost.contains (goldenKey 0 5) = true ∧ tDev.goldenLost = [] ∧
    ({ tFault 32 with failed := [80, 82, 83] }.mustRetire 1 = true ∧ { tFault 32 with failed := [80, 82, 83] }.liveEngines.length = 1) := by decide +kernel
theorem test_angle_trigger : nextIs (exec (.angleTrigger 5 96) (((((tDom 3 1).setFlag .logCtrl 0 true).wr .catW0 0x21 5).wr .catW2 3 5).onDom 0 (fun x =>
    { x with traj := { u := 65530, ns := 5, step := 100000, cap := 100000000, run := true } }))) (fun t => t.logQ.length == 1) = true := by
  decide +kernel
theorem test_management_barred : nextIs (exec (.mgmtWrite (tMgmt 0x80012000 1)) tDev) (fun t => t.mgmtResp.1 == 3) = true := by decide +kernel
/-- Domain 0 before a reference of too few teeth, its phase edges of the reverse direction. -/
def tReverse : State := { (((((tDom 3 1).setFld .domPat1 16 5 4 0).setFld .domPat2 0 16 3 0).wr .domPhRise 5 0 1).wr .domCtrl 0x123 0).onDom 0 (fun x =>
  { x with lead := some 5, s := 3, lastPh := some 2 }) with edges := [(512, [(3200000, true)]), (528, [(3200000, false)])] }
theorem test_reverse_over_mismatch :
    nextIs (exec (.primaryEdge 0 3200000) tReverse) (fun t => t.domState 0 == 3) = true ∧
    nextIs (exec (.primaryEdge 0 3200000) { tReverse with edges := [(512, [(3200000, true)])] }) (fun t => t.domState 0 == 1) = true := by
  decide +kernel
theorem test_link_corners :
    nextIs (exec (.frameReceive 0 (tGot 10 0 true) 0) (tLink 2)) (fun t => (t.link 0).rxSeq == 1) = true ∧
    nextIs (exec (.delayFrame 0 100 160 200) { tLink 2 with links := [(0, { beacon := some (0, 40), rerouteIv := some 0 })] }) (fun t =>
      (t.link 0).rerouteIv == none || (t.link 0).rerouteIv == some 0) = true ∧
    nextIs (exec (.ackNakReceive 0 true 200) (tSent9 9)) (fun t => !t.linkUp 0) = true ∧
    nextIs (exec (.ackNakReceive 0 true 200) (tSent9 8)) (fun t => t.linkUp 0 && ((t.link 0).unacked.map (·.2.2)) == [9]) = true := by decide +kernel
theorem test_join_corners :
    nextIs (exec (.joinJudgement false 0) ((tJoin 0).setFld .mlStat 5 4 9)) (fun t => t.fld .mlStat 0 2 ≠ 2) = true ∧
    nextIs (exec (.joinJudgement false 0) ((tJoin (-64001)).setFld .domStat 0 3 3 0)) (fun t => t.fld .mlStat 0 2 ≠ 2) = true ∧
    nextIs (exec (.systemLockRequest 63 .acquire 4 1 0) { tRoot with pending := [.systemLockRequest 63 .acquire 0 0 0] }) (fun t =>
      t.rd .mlSlockOwner 63 == 0 || t.rd .mlSlockOwner 63 == 0x80010004) = true := by decide +kernel
theorem test_power_corners :
    nextIs (exec (.govPstateReq .host 1) (tDev.setFlag .unitState 4 true 138)) (fun t => t.fld .govPstate 16 16 == stDenied) = true ∧
    ({ tDev.setFld .govPstate 0 3 5 with waking := true }.pstate = 5 ∧ { tDev.setFld .govPstate 0 3 5 with waking := true }.waking = true) ∧
    nextIs (exec (.waitLock 3 2 0 255) (((tCtx []).setCtxState 0 3).onCtx 0 (fun c => { c with mons :=
      [{ ilvl := 16, pc := 0, kind := 5, arg := 255, rd := 2, opnd := 0, since := 0, deadline := none }] }))) (fun t => t.ctxState 3 == 3) = true := by
  decide +kernel

/-- The record may be compact: its signal's last one stands at 1280. -/
def tCompact : State := { tRec.wr .catW0 0x301 5 with sigs := [(5, { any := true, written := 7 })], logLast := 1280 }
theorem test_log_writes :
    tCompact.compactOk { sig := 5, cls := 0, value := 77, ts := 1600 } false = true ∧
    nextIs (exec (.logRecordWrite 1600) tCompact) (fun t => t.rd .logWr == 8 && t.logMem.word 0 == 0x520005 && t.logMem.word 4 == 70) = true ∧
    nextIs (exec (.logRecordWrite 1600) (tRec.wr .catW3 0x50003 5)) (fun t => t.rd .logWr == 32 && t.logMem.word 12 == 3 && t.logMem.word 28 == 77) = true ∧
    nextIs (exec (.logRecordWrite 1600) { tRec.wr .logWr 0xF00000 with dropping := [(0, (true, false))] }) (fun t =>
      t.rd .logWr == 0xF00000 || (t.dropping.at (false, false) 0).1 == false) = true ∧
    nextIs (exec (.logRdWrite .host 8) { (tDev.wr .logWr 0x100000).setFlag .logStat 0 true with dropping := [(0, (true, false))] }) (fun t =>
      !t.flag .logStat 0) = true ∧
    nextIs (exec (.logFlushExpiry 160000) { tLog.wr .logFlush 0 with logRecs := [(0, 16, 0)] }) (fun t => !t.flag .logEvt 0) = true := by decide +kernel
/-- One transaction waits from before, another comes at a later instant. -/
def tQueue : State := { (tPort 1 0).setFlag .droneStat 0 true with now := 64000, portX := [(31, { queue :=
  [{ script := 2, arg := 0, src := .host }, { script := 3, arg := 0, src := .host, came := 0x7FFFFFFF }] })] }
theorem test_port_corners :
    nextIs (exec (.portFlush .host 31) tQueue) (fun t => ((t.port 31).queue.map (·.script)) == [3] && t.fld .portCnt0 0 16 31 == 1) = true ∧
    nextIs (exec (.portTtWrite .host 31 .tt 0x201) (tQueue.wr .portTtAtLo 128000 31)) (fun t => (t.port 31).queue.length == 2) = true ∧
    nextIs (exec (.xfer 31 0x1A5 0x100000) { tRun 1 0x20000108 with portX := [(31, { run := some { tTxn with mute := true } })] }) (fun t =>
      t.rd .portRes 31 0 == 0 && ((t.port 31).run.map (·.pc)) == some 8) = true ∧
    nextIs (exec (.sentFrame 31 (tSent (56 * 48000) (sentCrc [5] false)) 1600) { tSentPort with portX := [(31, { outTo := 5 })] }) (fun t =>
      (t.port 31).fast.isNone && t.fld .portCnt1 8 8 31 == 1) = true := by decide +kernel
theorem test_standby_trains :
    (((tLink 0).setFld .mlLctrl 1 2 2 0).role 0 = 2 ∧ ((tLink 0).setFld .mlLctrl 1 2 2 0).roleFits 0 (tPeer 1 true) = true) ∧
    nextIs (exec (.linkTrain 0 (tPeer 1 true) 0) ((tLink 0).setFld .mlLctrl 1 2 2 0)) (fun t => t.linkUp 0 && !t.flag .mlLstat 3 0) = true := by
  decide +kernel
theorem test_hold_max : nextIs (exec (.holdMaxExpiry 160000000000) ((tMirror.wr .mlStat 0x802).setFld .domStat 0 3 3 0)) (fun t =>
    t.domState 0 == 1 && !t.flag .mlStat 11) = true := by decide +kernel
theorem test_arm_denied :
    tSays (exec (.evArm { tPk 136 [0x90, 5, 0, 3, 77, 0] with tag := 0 }) { tDom 3 1 with failed := [136] }) (toW stDenied) 0 = true ∧
    (({ tDev with variant := .fj4_256 }.tick).keyAbsent ⟨.chCtrl, 63, 0⟩ = true ∧ tDev.tick.keyAbsent ⟨.chCtrl, 63, 0⟩ = false) := by decide +kernel

end Sys2Proof.Machine
end

section
/-! PROOFS. Reads of linked pairs and of reserved offsets (R5, R47 to R49, R306): the field laws of words, what a raised source and
a waking unit may change, and the statement of the reads. -/

namespace Sys2Proof.Machine

/-! ## Fields of words -/

/-- Inside its field, a word shows the bits put there. -/
theorem getLsbD_putF {n : Nat} (w : BitVec n) (lo len v i : Nat) (h : lo + len ≤ n) (hi : i < len) :
    (putF w lo len v).getLsbD (lo + i) = v.testBit i := by
  have hn : lo + i < n := by omega
  simp only [putF, BitVec.getLsbD_or, BitVec.getLsbD_and, BitVec.getLsbD_not, BitVec.getLsbD_ofNat, Nat.testBit_shiftLeft,
    Nat.testBit_two_pow_sub_one, Nat.testBit_mod_two_pow, Nat.add_sub_cancel_left]
  simp [hi, hn]

/-- A field put into a word is read back, as far as it fits. -/
theorem getF_putF_self {n : Nat} (w : BitVec n) (lo len v : Nat) (h : lo + len ≤ n) :
    getF (putF w lo len v) lo len = v % 2 ^ len := by
  apply Nat.eq_of_testBit_eq
  intro i
  simp only [getF, Nat.testBit_mod_two_pow, Nat.testBit_shiftRight, BitVec.testBit_toNat]
  by_cases hi : i < len
  · rw [getLsbD_putF w lo len v i h hi]
  · simp [hi]

/-- A wrapping counter reads its next count. -/
theorem State.fld_bumpW_self (s : State) (n : RegName) (lo len i j k : Nat) (h : lo + len ≤ 32) :
    (s.bumpW n lo len i j k).fld n lo len i j = (s.fld n lo len i j + k) % 2 ^ len := by
  unfold State.bumpW State.setFld
  rw [State.fld, State.rd_wr_self, getF_putF_self _ _ _ _ h]

/-! ## What a raised source and a waking unit may change -/

/-- From s to t nothing changes but registers of the names listed, the latched wake, what the interrupt controller notes of
a vector, and the Drone copies and pad latches of a Course that powers up. -/
def State.stirs (s t : State) (l : List RegName) : Prop :=
  t = { s with
    regs := t.regs, waking := t.waking, vecFirst := t.vecFirst, wakePin := t.wakePin, copies := t.copies, padHold := t.padHold } ∧
  s.keeps t l

theorem State.wr_stirs (s : State) {l : List RegName} {n : RegName} (hn : n ∈ l) (w : Word) (i j : Nat) :
    s.stirs (s.wr n w i j) l :=
  ⟨rfl, fun _ _ _ hm => State.rd_wr_name _ _ _ _ _ _ _ _ (fun e => hm (e ▸ hn))⟩

namespace State.stirs

variable {s t u : State} {l : List RegName}

theorem latch (h : s.stirs t l) : t.latch = s.latch := by rw [h.1]
theorem taskMem (h : s.stirs t l) : t.taskMem = s.taskMem := by rw [h.1]

theorem refl (s : State) (l : List RegName) : s.stirs s l := ⟨rfl, fun _ _ _ _ => rfl⟩

theorem trans (h : s.stirs t l) (h' : t.stirs u l) : s.stirs u l := by
  obtain ⟨ht, hk⟩ := h
  obtain ⟨hu, hk'⟩ := h'
  refine ⟨hu.trans ?_, fun n i j hn => (hk' n i j hn).trans (hk n i j hn)⟩
  rw [ht]

theorem mono {l' : List RegName} (h : s.stirs t l) (hl : l ⊆ l') : s.stirs t l' :=
  ⟨h.1, fun n i j hn => h.2 n i j (fun hm => hn (hl hm))⟩

theorem wr (h : s.stirs t l) {n : RegName} (hn : n ∈ l) (w : Word) (i j : Nat) : s.stirs (t.wr n w i j) l :=
  h.trans (t.wr_stirs hn w i j)

theorem waking (h : s.stirs t l) (b : Bool) : s.stirs { t with waking := b } l := h.trans ⟨rfl, fun _ _ _ _ => rfl⟩
theorem vecFirst (h : s.stirs t l) (m : SMap Stamp) : s.stirs { t with vecFirst := m } l := h.trans ⟨rfl, fun _ _ _ _ => rfl⟩
theorem wakePin (h : s.stirs t l) (b : Bool) : s.stirs { t with wakePin := b } l := h.trans ⟨rfl, fun _ _ _ _ => rfl⟩
theorem setAhead (h : s.stirs t l) (i : Nat) (d : Int) : s.stirs (t.setAhead i d) l := h.trans ⟨rfl, fun _ _ _ _ => rfl⟩
theorem openPads (h : s.stirs t l) (ps : List Nat) : s.stirs (t.openPads ps) l := h.trans ⟨rfl, fun _ _ _ _ => rfl⟩

/-- A step taken under a condition. -/
theorem ite {p : Prop} [Decidable p] (h : s.stirs t l) (h' : s.stirs u l) : s.stirs (if p then t else u) l := by
  split
  · exact h
  · exact h'
theorem when (h : s.stirs t l) (b : Bool) {f : State → State} (hf : ∀ v, State.stirs v (f v) l) : s.stirs (t.when b f) l :=
  .ite (h.trans (hf t)) h

/-- A step taken for each member of a list. -/
theorem foldl {α : Type} (h : s.stirs t l) {f : State → α → State} (hf : ∀ v a, State.stirs v (f v a) l) (as : List α) :
    s.stirs (as.foldl f t) l := by
  induction as generalizing t with
  | nil => exact h
  | cons a r ih => exact ih (h.trans (hf t a))

end State.stirs

/-- The registers that a raised source may change (R340, R345). -/
def raiseRegs : List RegName := [.intPendSet, .vecStat, .intErr]

theorem State.wakeUp_stirs (s : State) (l : List RegName) : s.stirs s.wakeUp l :=
  .ite ((State.stirs.refl s l).waking true) (.refl s l)

theorem State.countVector_stirs (s : State) (v : Nat) : s.stirs (s.countVector v) raiseRegs := by
  unfold State.countVector
  extract_lets noted counted issued
  have hn : s.stirs noted raiseRegs := .ite ((State.stirs.refl s _).vecFirst _) (.refl s _)
  have hc : s.stirs counted raiseRegs := hn.wr (by decide) _ _ _
  have hi : s.stirs issued raiseRegs := hc.when _ (fun u => u.wr_stirs (by decide) _ _ _)
  exact .ite (hi.wakePin true) hi

theorem State.raise_stirs (s : State) (n : Nat) : s.stirs (s.raise n) raiseRegs := by
  unfold State.raise
  extract_lets pends woken again counted
  have hp : s.stirs pends raiseRegs := s.wr_stirs (by decide) _ _ _
  have hw : s.stirs woken raiseRegs := hp.when _ (fun u => u.wakeUp_stirs _)
  have hc : s.stirs counted raiseRegs := .ite (hw.wr (by decide) _ _ _) hw
  have hv := (hc.trans (counted.countVector_stirs (counted.fld .intRoute 24 6 n))).when again
    (f := (·.setFlag .vecStat 31 true (counted.fld .intRoute 24 6 n))) (fun u => u.wr_stirs (by decide) _ _ _)
  exact .ite (.refl s _) (.ite hw (.ite hv hc))

/-- The registers that waking a unit may change (R17, R84): those of its Course or island, and those of source 191, which a changed
unit state raises. -/
def wakeRegs : List RegName := [.pmBank, .govIsl, .govWakeCnt, .pmPin, .chStat] ++ raiseRegs

/-- Units whose state may change: source 191 and the tiles that leave HELD add to what the change itself does. -/
theorem State.withUnits_stirs (s : State) (us : List Nat) (f : State → State) (hf : s.stirs (f s) wakeRegs) :
    s.stirs (s.withUnits us f) wakeRegs := by
  have leaves : ∀ v t, State.stirs v (v.leaveHeld t) wakeRegs := fun v t =>
    ((State.stirs.refl v _).foldl (fun w _ => w.wr_stirs (by decide) _ _ _) _).foldl
      (fun w _ => w.wr_stirs (by decide) _ _ _) _
  exact (hf.foldl leaves _).foldl (fun v _ => .ite (.refl v _) ((v.raise_stirs 191).mono (by decide))) us

theorem State.powerUpCourse_stirs (s : State) (k : Nat) : s.stirs (s.powerUpCourse k) wakeRegs := by
  unfold State.powerUpCourse
  refine .ite (.refl s _) ((s.wakeUp_stirs _).trans (State.withUnits_stirs _ _ _ ?_))
  have loaded := (State.stirs.refl s.wakeUp wakeRegs).foldl (f := fun s i => s.setAhead (8 * k + i) 0)
    (fun v _ => (State.stirs.refl v _).setAhead _ _) (List.range 8)
  exact (((loaded.wr (by decide) _ _ _).wr (by decide) _ _ _).wr (by decide) _ _ _).openPads _

theorem State.wakeIsland_stirs (s : State) (b : Nat) : s.stirs (s.wakeIsland b) wakeRegs :=
  .ite (((s.wakeUp_stirs _).wr (by decide) _ _ _).wr (by decide) _ _ _) (.refl s _)

/-- All that an access wakes (R17, R84). -/
theorem State.wakeFor_stirs (s : State) (u : Nat) : s.stirs (s.wakeFor u) wakeRegs :=
  .ite (s.powerUpCourse_stirs _) <| .ite (s.wakeIsland_stirs _) <| .ite (s.wakeIsland_stirs _) <| .ite (s.wakeIsland_stirs _) <|
    .ite (s.powerUpCourse_stirs _) (.refl s _)

/-! ## Access errors -/

/-- What a counted access error changes (R306). -/
theorem State.accErr_stirs (s : State) (m : Master) (off : Nat) (r : AccReason) : s.stirs (s.accErr m off r) accRegs := by
  unfold State.accErr
  extract_lets counted
  have hc : s.stirs counted accRegs := by
    cases r <;> exact s.wr_stirs (by decide) _ _ _
  exact ((hc.wr (by decide) _ _ _).wr (by decide) _ _ _).trans ((State.raise_stirs _ _).mono (by decide))

/-- An access to a reserved offset steps the count of errors, and leaves its offset (R306). -/
theorem State.accErr_reserved (s : State) (m : Master) (off : Nat) :
    (s.accErr m off .reserved).fld .sysAccerr 0 16 = (s.fld .sysAccerr 0 16 + 1) % 65536 ∧
    (s.accErr m off .reserved).rd .sysAccerrAddr = toW off := by
  have raised := fun n hn => (State.raise_stirs (((s.bumpW .sysAccerr 0 16).wr .sysAccerrAddr (toW off)).wr .sysAccerrSrc
    (accSrc m .reserved)) 191).2 n 0 0 hn
  constructor
  · unfold State.accErr State.fld
    rw [raised .sysAccerr (by decide), State.rd_wr_name _ _ _ _ _ _ _ _ (by decide), State.rd_wr_name _ _ _ _ _ _ _ _ (by decide)]
    exact s.fld_bumpW_self .sysAccerr 0 16 0 0 1 (by decide)
  · unfold State.accErr
    rw [raised .sysAccerrAddr (by decide), State.rd_wr_name _ _ _ _ _ _ _ _ (by decide), State.rd_wr_self]

/-! ## Reads on the bus -/

@[simp] theorem State.readOf_setRead (s : State) (m : Nat) (w : Word) : (s.setRead m w).readOf m = w := SMap.at_set_self ..
@[simp] theorem State.latchOf_setLatch (s : State) (m : Nat) (w : Word) : (s.setLatch m w).latchOf m = w := SMap.at_set_self ..
/-- States of one latch table show the same latches. -/
theorem State.latchOf_eq {s t : State} (h : t.latch = s.latch) (m : Nat) : t.latchOf m = s.latchOf m :=
  congrArg (SMap.at 0 · m) h
theorem State.rd_setRead (s : State) (m : Nat) (w : Word) (n : RegName) (i j : Nat) :
    (s.setRead m w).rd n i j = s.rd n i j := rfl
theorem State.fld_setRead (s : State) (m : Nat) (w : Word) (n : RegName) (lo len i j : Nat) :
    (s.setRead m w).fld n lo len i j = s.fld n lo len i j := rfl

@[simp] theorem State.tick_latch (s : State) : s.tick.latch = s.latch := by
  obtain ⟨_, _, h⟩ := s.tick_spec; rw [h]
@[simp] theorem State.tick_latchOf (s : State) (m : Nat) : s.tick.latchOf m = s.latchOf m := State.latchOf_eq s.tick_latch m
@[simp] theorem State.tick_taskMem (s : State) : s.tick.taskMem = s.taskMem := by
  obtain ⟨_, _, h⟩ := s.tick_spec; rw [h]
@[simp] theorem State.tick_fld (s : State) (n : RegName) (lo len i j : Nat) : s.tick.fld n lo len i j = s.fld n lo len i j :=
  congrArg (getF · lo len) (s.tick_rd n i j)
@[simp] theorem State.tick_reachable (s : State) (off : Nat) : s.tick.reachable off = s.reachable off := by
  obtain ⟨_, _, h⟩ := s.tick_spec; rw [h]; rfl
@[simp] theorem State.tick_linkedFitted (s : State) (q : Linked) : s.tick.linkedFitted q = s.linkedFitted q := by
  obtain ⟨_, _, h⟩ := s.tick_spec; rw [h]; cases q <;> rfl

/-- A read above Nap is made a cycle later, and its word is kept for the master. -/
theorem State.readOn_eq {s : State} (hp : s.pstate < 3) (m : Master) (f : State → Word × State) :
    s.readOn m f = (f s.tick).2.setRead (masterIx m) (f s.tick).1 := by
  unfold State.readOn
  rw [if_neg (by omega), State.onBus_eq hp]

theorem exec_linkedLowRead {s : State} (hp : s.pstate < 3) (m : Master) (q : Linked) :
    exec (.linkedLowRead m q) s = .next ((s.tick.readLow m q).2.setRead (masterIx m) (s.tick.readLow m q).1) :=
  congrArg _ (State.readOn_eq hp m _)
theorem exec_linkedHighRead {s : State} (hp : s.pstate < 3) (m : Master) (q : Linked) :
    exec (.linkedHighRead m q) s = .next
      ((if s.linkedFitted q then s.tick.wakeFor (linkedTile q) else s.tick).setRead (masterIx m) (s.tick.readHigh m q)) :=
  (congrArg _ (State.readOn_eq hp m _)).trans (by rw [State.tick_linkedFitted])
theorem exec_linked64bitRead {s : State} (hp : s.pstate < 3) (q : Linked) :
    exec (.linked64bitRead q) s = .next (s.tick.read64 q) :=
  congrArg _ ((if_neg (by omega)).trans (State.onBus_eq hp _))
theorem exec_droppedRead {s : State} (hp : s.pstate < 3) (m : Master) (off width : Nat) :
    exec (.droppedRead m off width) s =
      .next ((s.tick.busRead m off width).2.setRead (masterIx m) (s.tick.busRead m off width).1) :=
  congrArg _ (State.readOn_eq hp m _)

/-! ## Linked pairs -/

/-- The acknowledgement of a capture changes a register only. -/
theorem State.ackCapture_stirs (s : State) (t c : Nat) : s.stirs (s.ackCapture t c) [.chCapvHi] :=
  (s.wr_stirs (by decide) _ _ _).wr (by decide) _ _ _

/-- A read of the low word of a fitted pair: both words are of one instant, and the high one goes to the master's latch (R47). -/
theorem State.readLow_fitted {s : State} {q : Linked} (hf : s.linkedFitted q = true) (m : Master)
    (hl : ∀ t p, q = .count t p → (s.wakeFor (linkedTile q)).linked t (2 * p) = true) :
    ∃ t, s.readLow m q = (((s.wakeFor (linkedTile q)).linkedWords q).1, t) ∧
      t.latchOf (masterIx m) = ((s.wakeFor (linkedTile q)).linkedWords q).2 ∧ t.taskMem = s.taskMem := by
  have htm := (s.wakeFor_stirs (linkedTile q)).taskMem
  unfold State.readLow
  simp only [hf, Bool.not_true, Bool.false_eq_true, if_false]
  generalize s.wakeFor (linkedTile q) = u at hl htm ⊢
  obtain ⟨lo, hi⟩ := u.linkedWords q
  have hlatch := u.latchOf_setLatch (masterIx m) hi
  cases q with
  | count t p =>
    dsimp only
    rw [if_pos (hl t p rfl)]
    exact ⟨_, rfl, hlatch, htm⟩
  | capture g =>
    have ack := (u.setLatch (masterIx m) hi).ackCapture_stirs (tileOf g) (chOf g)
    exact ⟨_, rfl, (State.latchOf_eq ack.latch _).trans hlatch, ack.taskMem.trans htm⟩
  | _ => exact ⟨_, rfl, hlatch, htm⟩

/-- A read of DRONE_NOW_LO shows the present count, and wakes nothing (R36, R47). -/
theorem State.readLow_droneNow (s : State) (m : Master) :
    s.readLow m .droneNow = (loW s.now, s.setLatch (masterIx m) (hiW s.now)) := rfl

/-- A read of the high word of a fitted pair gives the master's latch (R47). -/
theorem State.readHigh_fitted {s : State} {q : Linked} (hf : s.linkedFitted q = true) (m : Master)
    (hl : ∀ t p, q = .count t p → s.linked t (2 * p) = true) : s.readHigh m q = s.latchOf (masterIx m) := by
  unfold State.readHigh
  simp only [hf, Bool.not_true, Bool.false_eq_true, if_false]
  cases q with
  | count t p => exact if_pos (hl t p rfl)
  | _ => rfl

/-- A high word of an absent unit reads 0 (R2). -/
theorem State.readHigh_absent {s : State} {q : Linked} (hf : s.linkedFitted q = false) (m : Master) : s.readHigh m q = 0 := by
  unfold State.readHigh
  simp [hf]

/-- A 64-bit read of a fitted pair gives both words of one instant, and leaves the latches (R49). -/
theorem State.read64_fitted {s : State} {q : Linked} (hf : s.linkedFitted q = true) :
    (s.read64 q).readOf 0 = ((s.wakeFor (linkedTile q)).linkedWords q).1 ∧
    (s.read64 q).readHi = ((s.wakeFor (linkedTile q)).linkedWords q).2 ∧ (s.read64 q).latch = s.latch := by
  have woken := (s.wakeFor_stirs (linkedTile q)).latch
  unfold State.read64
  simp only [hf, Bool.not_true, Bool.false_eq_true, if_false]
  generalize s.wakeFor (linkedTile q) = u at woken ⊢
  obtain ⟨lo, hi⟩ := u.linkedWords q
  refine ⟨State.readOf_setRead _ _ _, rfl, Eq.trans ?_ woken⟩
  cases q with
  | capture g => exact (u.ackCapture_stirs (tileOf g) (chOf g)).latch
  | _ => rfl

/-! ## Reserved offsets -/

/-- An aligned word read where neither a register nor a window lies is dropped and counted (R5, R306). -/
theorem State.busRead_reserved {s : State} {m : Master} {off : Nat} (hr : regAt off = none) (hw : taskWindow off = none)
    (hd : ¬(0xD0000 ≤ off ∧ off < 0xE0000)) (ha : off % 4 = 0) (hm : m ≠ .supervisor) (hs : s.reachable off = true)
    (hb : off < bar2Base) : s.busRead m off 4 = (0, s.accErr m off .reserved) := by
  have hh : haltedAt off = none := if_neg (fun h => hd ⟨h.1, h.2.1⟩)
  have hb' : ¬(bar2Base ≤ off ∧ m = .host) := fun h => absurd hb (by omega)
  unfold State.busRead
  simp [hb', hs, hw, hr, hh, ha, hm]

theorem exec_droppedRead_reserved {s : State} {m : Master} {off : Nat} (hp : s.pstate < 3) (hr : regAt off = none)
    (hw : taskWindow off = none) (hd : ¬(0xD0000 ≤ off ∧ off < 0xE0000)) (ha : off % 4 = 0) (hm : m ≠ .supervisor)
    (hs : s.reachable off = true) (hb : off < bar2Base) :
    exec (.droppedRead m off 4) s = .next ((s.tick.accErr m off .reserved).setRead (masterIx m) 0) := by
  rw [exec_droppedRead hp, State.busRead_reserved hr hw hd ha hm ((s.tick_reachable off).trans hs) hb]

/-! ## The statement -/

/-- Settles O26: the reads of a pair by the case of its quantity, the dropped read by the account of an access error. -/
theorem registerReads : Obligations.RegisterReads := by
  unfold Obligations.RegisterReads
  intro m q off s hp
  dsimp only
  refine ⟨fun hf hl => ?low, fun hf hl => ?high, fun hf => ?wide, ?now, fun hf => ?absent, fun hr hw hd ha hm hs hb => ?reserved⟩
  case low =>
    obtain ⟨t, ht, hlatch, htm⟩ := State.readLow_fitted ((s.tick_linkedFitted q).trans hf) m hl
    rw [exec_linkedLowRead hp, ht]
    exact ⟨_, rfl, State.readOf_setRead _ _ _, hlatch, htm.trans s.tick_taskMem⟩
  case high =>
    rw [exec_linkedHighRead hp, if_pos hf, State.readHigh_fitted ((s.tick_linkedFitted q).trans hf) m hl, State.tick_latchOf]
  case wide =>
    obtain ⟨hlo, hhi, hlatch⟩ := State.read64_fitted ((s.tick_linkedFitted q).trans hf)
    exact ⟨_, exec_linked64bitRead hp q, hlo, hhi, State.latchOf_eq (hlatch.trans s.tick_latch) 0⟩
  case now =>
    rw [exec_linkedLowRead hp, State.readLow_droneNow]
    exact ⟨_, rfl, State.readOf_setRead _ _ _, State.latchOf_setLatch s.tick _ _, s.tick_regs⟩
  case absent =>
    rw [exec_linkedHighRead hp, if_neg (by simp [hf]), State.readHigh_absent ((s.tick_linkedFitted q).trans hf)]
    exact ⟨_, rfl, State.readOf_setRead _ _ _, s.tick_regs⟩
  case reserved =>
    obtain ⟨hcount, haddr⟩ := s.tick.accErr_reserved m off
    rw [State.tick_fld] at hcount
    have hkeeps := (s.tick.accErr_stirs m off .reserved).2
    exact ⟨_, exec_droppedRead_reserved hp hr hw hd ha hm hs hb, State.readOf_setRead _ _ _, (State.fld_setRead ..).trans hcount,
      (State.rd_setRead ..).trans haddr, fun n i j hn => (State.rd_setRead ..).trans ((hkeeps n i j hn).trans (s.tick_rd n i j))⟩

end Sys2Proof.Machine
end

section
/-! PROOFS. The flags of additions and subtractions and the unsigned branch (R175): the four flags as bits of a word, what PSW
reads where the privilege ceiling holds, and the flags that the arithmetic instructions leave. -/

namespace Sys2Proof.Machine

/-! ## Bits put into words -/

/-- Outside its field, a word keeps its bits when the field is put. -/
theorem getLsbD_putF_outside {n : Nat} (w : BitVec n) (lo len v j : Nat) (h : j < lo ∨ lo + len ≤ j) :
    (putF w lo len v).getLsbD j = w.getLsbD j := by
  simp only [putF, BitVec.getLsbD_or, BitVec.getLsbD_and, BitVec.getLsbD_not, BitVec.getLsbD_ofNat, Nat.testBit_shiftLeft,
    Nat.testBit_two_pow_sub_one, Nat.testBit_mod_two_pow]
  by_cases hj : j < n
  · by_cases hlo : j < lo
    · have hle : ¬ lo ≤ j := by omega
      simp [hj, hle]
    · have hlen : ¬ j - lo < len := by omega
      simp [hj, hlen]
  · simp [hj, BitVec.getLsbD_of_ge w j (by omega)]

theorem getB_putB_self {n : Nat} (w : BitVec n) (i : Nat) (b : Bool) (h : i < n) : getB (putB w i b) i = b := by
  refine (getLsbD_putF w i 1 _ 0 h Nat.zero_lt_one).trans ?_
  cases b <;> rfl

theorem getB_putB_ne {n : Nat} (w : BitVec n) (i j : Nat) (b : Bool) (h : j ≠ i) : getB (putB w i b) j = getB w j :=
  getLsbD_putF_outside w i 1 _ j (by omega)

/-- A bit below a field does not show in it. -/
theorem getF_putB_below {n : Nat} (w : BitVec n) (i lo len : Nat) (b : Bool) (h : i < lo) :
    getF (putB w i b) lo len = getF w lo len := by
  apply Nat.eq_of_testBit_eq
  intro k
  simp only [getF, Nat.testBit_mod_two_pow, Nat.testBit_shiftRight, BitVec.testBit_toNat]
  rw [show (putB w i b).getLsbD (lo + k) = w.getLsbD (lo + k) from getB_putB_ne w i (lo + k) b (by omega)]

/-- A bit below a field and the field are put in either order. -/
theorem putF_putB_below {n : Nat} (w : BitVec n) (i lo len v : Nat) (b : Bool) (hi : i < lo) (h : lo + len ≤ n) :
    putF (putB w i b) lo len v = putB (putF w lo len v) i b := by
  apply BitVec.eq_of_getLsbD_eq
  intro j _
  change _ = getB (putB (putF w lo len v) i b) j
  by_cases hin : lo ≤ j ∧ j < lo + len
  · obtain ⟨k, rfl⟩ := Nat.exists_eq_add_of_le hin.1
    rw [getB_putB_ne _ _ _ _ (by omega), getB, getLsbD_putF _ _ _ _ k h (by omega), getLsbD_putF _ _ _ _ k h (by omega)]
  · rw [getLsbD_putF_outside _ _ _ _ _ (by omega)]
    by_cases hj : j = i
    · subst hj
      rw [getB_putB_self _ _ _ (by omega)]
      exact getB_putB_self _ _ _ (by omega)
    · rw [getB_putB_ne _ _ _ _ hj, getB, getLsbD_putF_outside _ _ _ _ _ (by omega)]
      exact getB_putB_ne _ _ _ _ hj

/-- Of two values put into one field the later stands. -/
theorem putF_putF_self {n : Nat} (w : BitVec n) (lo len u v : Nat) (h : lo + len ≤ n) :
    putF (putF w lo len u) lo len v = putF w lo len v := by
  apply BitVec.eq_of_getLsbD_eq
  intro j _
  by_cases hin : lo ≤ j ∧ j < lo + len
  · obtain ⟨k, rfl⟩ := Nat.exists_eq_add_of_le hin.1
    rw [getLsbD_putF _ _ _ _ k h (by omega), getLsbD_putF _ _ _ _ k h (by omega)]
  · simp only [getLsbD_putF_outside _ _ _ _ j (by omega : j < lo ∨ lo + len ≤ j)]

/-! ## The four flags -/

/-- A PSW with these flags Z, N, C and V. -/
def putZNCV (p : Word) (z n c v : Bool) : Word := putB (putB (putB (putB p psZ z) psN n) psC c) psV v

section
variable (p : Word) (z n c v : Bool)

theorem getB_putZNCV_z : getB (putZNCV p z n c v) 0 = z := by
  unfold putZNCV
  rw [getB_putB_ne _ psV _ _ (by decide), getB_putB_ne _ psC _ _ (by decide), getB_putB_ne _ psN _ _ (by decide)]
  exact getB_putB_self _ psZ _ (by decide)

theorem getB_putZNCV_n : getB (putZNCV p z n c v) 1 = n := by
  unfold putZNCV
  rw [getB_putB_ne _ psV _ _ (by decide), getB_putB_ne _ psC _ _ (by decide)]
  exact getB_putB_self _ psN _ (by decide)

theorem getB_putZNCV_c : getB (putZNCV p z n c v) 2 = c := by
  unfold putZNCV
  rw [getB_putB_ne _ psV _ _ (by decide)]
  exact getB_putB_self _ psC _ (by decide)

theorem getB_putZNCV_v : getB (putZNCV p z n c v) 3 = v := getB_putB_self _ psV _ (by decide)

/-- The bits above the flags stay. -/
theorem getB_putZNCV_above (i : Nat) (h : 4 ≤ i) : getB (putZNCV p z n c v) i = getB p i := by
  have above : ∀ {k : Nat}, k < 4 → i ≠ k := fun hk => by omega
  unfold putZNCV
  rw [getB_putB_ne _ psV _ _ (above (by decide)), getB_putB_ne _ psC _ _ (above (by decide)),
    getB_putB_ne _ psN _ _ (above (by decide)), getB_putB_ne _ psZ _ _ (above (by decide))]

theorem getF_putZNCV_priv : getF (putZNCV p z n c v) 4 2 = getF p 4 2 := by
  unfold putZNCV
  rw [getF_putB_below _ psV _ _ _ (by decide), getF_putB_below _ psC _ _ _ (by decide),
    getF_putB_below _ psN _ _ _ (by decide), getF_putB_below _ psZ _ _ _ (by decide)]

theorem putF_putZNCV_priv (k : Nat) : putF (putZNCV p z n c v) 4 2 k = putZNCV (putF p 4 2 k) z n c v := by
  unfold putZNCV
  rw [putF_putB_below _ psV _ _ _ _ (by decide) (by decide), putF_putB_below _ psC _ _ _ _ (by decide) (by decide),
    putF_putB_below _ psN _ _ _ _ (by decide) (by decide), putF_putB_below _ psZ _ _ _ _ (by decide) (by decide)]

end

/-- Where a − b does not borrow, a + NOT b + 1 carries out of bit 31 (R175). -/
theorem toNat_le_iff_carry_not (a b : Word) : b.toNat ≤ a.toNat ↔ 2 ^ 32 ≤ a.toNat + (~~~b).toNat + 1 := by
  have hb := b.isLt
  rw [BitVec.toNat_not]
  omega

/-- A subtraction is a + NOT b + 1 (R175). -/
theorem sub_eq_add_not_add_one (a b : Word) : a - b = a + ~~~b + 1 := by
  rw [BitVec.sub_eq_add_neg, BitVec.neg_eq_not_add, ← BitVec.add_assoc]
  rfl

theorem sub_eq_zero_iff (a b : Word) : a - b = 0 ↔ a = b := by
  rw [BitVec.sub_eq_iff_eq_add]
  exact iff_of_eq (congrArg (a = ·) (BitVec.zero_add b))

/-! ## What PSW reads (R209) -/

/-- What PSW reads in a context that holds the word w. -/
def State.pswFrom (s : State) (x : Nat) (w : Word) : Word :=
  if x % 32 = 0 then w else putF w 4 2 (max (getF w 4 2) (s.ceil x))

theorem State.psw_eq_pswFrom (s : State) (x : Nat) : s.psw x = s.pswFrom x (s.ctx x).psw := rfl

theorem State.ceil_lt (s : State) (x : Nat) : s.ceil x < 2 ^ 2 := Nat.mod_lt _ (by decide)

/-- The ceiling holds once it is applied. -/
theorem State.pswFrom_pswFrom (s : State) (x : Nat) (w : Word) : s.pswFrom x (s.pswFrom x w) = s.pswFrom x w := by
  unfold State.pswFrom
  split
  · rfl
  · have hw : getF w 4 2 < 2 ^ 2 := Nat.mod_lt _ (by decide)
    have hmax : max (getF w 4 2) (s.ceil x) < 2 ^ 2 := Nat.max_lt.mpr ⟨hw, s.ceil_lt x⟩
    rw [putF_putF_self _ _ _ _ _ (by decide), getF_putF_self _ _ _ _ (by decide), Nat.mod_eq_of_lt hmax,
      Nat.max_eq_left (Nat.le_max_right _ _)]

/-- The flags and the ceiling do not meet. -/
theorem State.pswFrom_putZNCV (s : State) (x : Nat) (p : Word) (z n c v : Bool) :
    s.pswFrom x (putZNCV p z n c v) = putZNCV (s.pswFrom x p) z n c v := by
  unfold State.pswFrom
  split
  · rfl
  · rw [getF_putZNCV_priv, putF_putZNCV_priv]

theorem State.pswFrom_psw (s : State) (x : Nat) : s.pswFrom x (s.psw x) = s.psw x := s.pswFrom_pswFrom x _

theorem State.pswFrom_flagsAdd (s : State) (x : Nat) (p a b : Word) :
    s.pswFrom x (flagsAdd p a b) = flagsAdd (s.pswFrom x p) a b := s.pswFrom_putZNCV ..

theorem State.pswFrom_flagsSub (s : State) (x : Nat) (p a b : Word) :
    s.pswFrom x (flagsSub p a b) = flagsSub (s.pswFrom x p) a b := s.pswFrom_putZNCV ..

theorem State.ctx_onCtx_self (s : State) (x : Nat) (f : Ctx → Ctx) : (s.onCtx x f).ctx x = f (s.ctx x) := SMap.at_set_self ..

theorem State.psw_onCtx_self (s : State) (x : Nat) (f : Ctx → Ctx) : (s.onCtx x f).psw x = s.pswFrom x (f (s.ctx x)).psw := by
  rw [State.psw_eq_pswFrom, State.ctx_onCtx_self]
  rfl

theorem State.psw_result (s : State) (x : Nat) (rd : GReg) (r p : Word) : (s.result x rd r p).psw x = s.pswFrom x p :=
  (s.setG x rd r).psw_onCtx_self x _

/-! ## The flags that an instruction leaves -/

/-- An instruction of two operands whose flags do not meet the ceiling leaves them as they are. -/
theorem State.binary_psw {s : State} {x op : Nat} (h : s.starts x op = true) (rd : GReg) (a b : State → Word)
    (f : Word → Word → Word → Word × Word) (hf : ∀ (t : State) p a b, t.pswFrom x (f p a b).2 = (f (t.pswFrom x p) a b).2) :
    (s.binary x op true rd a b f).psw x = (f (s.psw x) (a (s.issued x op)) (b (s.issued x op))).2 := by
  rw [State.binary, State.issue_eq h rfl, State.psw_result, hf, State.pswFrom_psw, State.issued_psw]

theorem State.compare_psw {s : State} {x op : Nat} (h : s.starts x op = true) (a b : State → Word) :
    (s.compare x op a b).psw x = flagsSub (s.psw x) (a (s.issued x op)) (b (s.issued x op)) := by
  rw [State.compare, State.issue_eq h rfl, State.advance, State.onCtx_onCtx, State.psw_onCtx_self]
  dsimp only
  rw [State.pswFrom_flagsSub, ← State.psw_eq_pswFrom, State.issued_psw]

/-- A branch goes on at PC + 4, and where its condition holds of PSW by four times its immediate further (R174). -/
theorem State.branch_pc {s : State} {x op : Nat} (h : s.starts x op = true) (imm : BitVec 16) (cond : Word → Bool) :
    ((s.branch x op imm cond).ctx x).pc = (s.ctx x).pc + 4 + if cond (s.psw x) then imm.signExtend 32 * 4 else 0 := by
  rw [State.branch, State.issue_eq h rfl, State.issued_psw]
  split
  · rw [State.hold, State.jump, State.ctx_onCtx_self, State.ctx_onCtx_self]
    exact congrArg (· + 4 + simm imm * 4) (s.issued_pc x op x)
  · rw [State.advance, State.ctx_onCtx_self]
    exact (congrArg (· + 4) (s.issued_pc x op x)).trans (BitVec.add_zero _).symm

/-- Settles O3: the flags are four bits put into PSW, and the privilege ceiling, which applies to what PSW reads, lies above
them. -/
theorem flagRules : Obligations.FlagRules := by
  unfold Obligations.FlagRules
  intro p a b
  have borrow : getB (flagsSub p a b) 2 = decide (b.toNat ≤ a.toNat) := getB_putZNCV_c ..
  refine ⟨⟨?addZ, getB_putZNCV_n .., getB_putZNCV_c .., getB_putZNCV_v ..⟩,
    ⟨?subZ, getB_putZNCV_n .., borrow, getB_putZNCV_v ..⟩,
    fun i hi => ⟨getB_putZNCV_above _ _ _ _ _ i hi, getB_putZNCV_above _ _ _ _ _ i hi⟩,
    borrow.trans (decide_eq_decide.mpr (toNat_le_iff_carry_not a b)), sub_eq_add_not_add_one a b, fun x rd rs rt imm s => ?instr⟩
  case addZ => exact getB_putZNCV_z ..
  case subZ => exact (getB_putZNCV_z ..).trans (decide_eq_decide.mpr (sub_eq_zero_iff a b))
  case instr =>
    dsimp only
    have reg : ∀ op r, (s.issued x op).g x r = s.g x r := fun op r => s.issued_g x op x r
    refine ⟨fun h => ⟨_, rfl, ?add⟩, fun h => ⟨_, rfl, ?addi⟩, fun h => ⟨_, rfl, ?sub⟩, fun h => ⟨_, rfl, ?cmp⟩,
      fun h => ⟨_, rfl, ?cmpi⟩, fun h hp => ⟨_, rfl, ?bltu⟩⟩
    case add => rw [State.rrr, State.binary_psw h _ _ _ _ (fun t => t.pswFrom_flagsAdd x), reg, reg, fAdd]
    case addi => rw [State.binary_psw h _ _ _ _ (fun t => t.pswFrom_flagsAdd x), reg, simm, fAdd]
    case sub => rw [State.rrr, State.binary_psw h _ _ _ _ (fun t => t.pswFrom_flagsSub x), reg, reg, fSub]
    case cmp => rw [State.compare_psw h, reg, reg]
    case cmpi => rw [State.compare_psw h, reg, simm]
    case bltu =>
      rw [State.branch_pc h, hp, show psC = 2 from rfl, borrow]
      simp

end Sys2Proof.Machine
end

section
/-! PROOFS. Mailboxes and local locks (R318, R327 to R338): counters and fields of registers, what telling a unit may change, the
rules of GO, of the writes to a mailbox and of the locks, and the statement of both. -/

namespace Sys2Proof.Machine

/-! ## Fields and counters of registers -/

/-- A field put into a word does not show in a field beside it. -/
theorem getF_putF_beside {n : Nat} (w : BitVec n) (lo len v lo' len' : Nat) (h : lo' + len' ≤ lo ∨ lo + len ≤ lo') :
    getF (putF w lo len v) lo' len' = getF w lo' len' := by
  apply Nat.eq_of_testBit_eq
  intro i
  simp only [getF, Nat.testBit_mod_two_pow, Nat.testBit_shiftRight, BitVec.testBit_toNat]
  by_cases hi : i < len'
  · rw [getLsbD_putF_outside w lo len v (lo' + i) (by omega)]
  · simp [hi]

theorem State.fld_setFld_self (s : State) (n : RegName) (lo len v i j : Nat) (h : lo + len ≤ 32) :
    (s.setFld n lo len v i j).fld n lo len i j = v % 2 ^ len := by
  unfold State.setFld
  rw [State.fld, State.rd_wr_self, getF_putF_self _ _ _ _ h]

theorem State.fld_setFld_beside (s : State) (n : RegName) (lo len v lo' len' i j : Nat) (h : lo' + len' ≤ lo ∨ lo + len ≤ lo') :
    (s.setFld n lo len v i j).fld n lo' len' i j = s.fld n lo' len' i j := by
  unfold State.setFld
  rw [State.fld, State.rd_wr_self, getF_putF_beside _ _ _ _ _ _ h]
  rfl

theorem State.flag_setFlag_self (s : State) (n : RegName) (b : Nat) (v : Bool) (i j : Nat) (h : b < 32) :
    (s.setFlag n b v i j).flag n b i j = v := by
  unfold State.setFlag
  rw [State.flag, State.rd_wr_self, getB_putB_self _ _ _ h]

/-- A saturating counter reads its next count, or its highest. -/
theorem State.fld_bump_self (s : State) (n : RegName) (lo len i j : Nat) (h : lo + len ≤ 32) :
    (s.bump n lo len i j).fld n lo len i j = min (2 ^ len - 1) (s.fld n lo len i j + 1) := by
  unfold State.bump addSat satNat
  rw [State.fld, State.rd_wr_self, getF_putF_self _ _ _ _ h]
  have := Nat.two_pow_pos len
  exact (Nat.mod_eq_of_lt (by omega)).trans (Nat.min_comm _ _)

/-- States whose registers of this name read alike show the same fields and flags of it. -/
theorem State.keeps_fld {s t : State} {l : List RegName} (h : s.keeps t l) {n : RegName} (hn : n ∉ l) (lo len i j : Nat) :
    t.fld n lo len i j = s.fld n lo len i j := congrArg (getF · lo len) (h n i j hn)
theorem State.keeps_flag {s t : State} {l : List RegName} (h : s.keeps t l) {n : RegName} (hn : n ∉ l) (b i j : Nat) :
    t.flag n b i j = s.flag n b i j := congrArg (getB · b) (h n i j hn)

theorem State.wr_onlyRegs (s : State) (n : RegName) (w : Word) (i j : Nat) : s.onlyRegs (s.wr n w i j) [n] :=
  ⟨rfl, (s.wr_stirs (List.mem_singleton.mpr rfl) w i j).2⟩

theorem State.onlyRegs_trans {s t u : State} {l : List RegName} (h : s.onlyRegs t l) (h' : t.onlyRegs u l) : s.onlyRegs u l := by
  obtain ⟨ht, hk⟩ := h
  obtain ⟨hu, hk'⟩ := h'
  refine ⟨hu.trans ?_, fun n i j hn => (hk' n i j hn).trans (hk n i j hn)⟩
  rw [ht]

/-- Clearing one register for each number of a list clears those and no other. -/
theorem State.rd_each_clr (s : State) (n : RegName) (l : List Nat) (i : Nat) :
    (s.each l (fun u b => u.clr n b)).rd n i = if i ∈ l then 0 else s.rd n i := by
  unfold State.each
  induction l generalizing s with
  | nil => rfl
  | cons b r ih =>
    rw [List.foldl_cons, ih]
    by_cases hb : i = b
    · subst hb
      simp [State.clr]
    · have hne : (⟨n, i, 0⟩ : RegKey) ≠ ⟨n, b, 0⟩ := fun e => hb (congrArg RegKey.i e)
      simp [State.clr, hb, State.rd_wr_ne _ _ _ _ _ _ _ _ hne]

theorem State.each_clr_onlyRegs (s : State) (n : RegName) (l : List Nat) : s.onlyRegs (s.each l (fun u b => u.clr n b)) [n] := by
  unfold State.each
  induction l generalizing s with
  | nil => exact ⟨rfl, fun _ _ _ _ => rfl⟩
  | cons b r ih => exact State.onlyRegs_trans (s.wr_onlyRegs n 0 b 0) (ih _)

/-! ## Telling a unit -/

/-- From s to t a unit may have been told something, by an interrupt or a frame: registers of the names listed may change, and
other parts of the state, but no clock, and nothing that the mailboxes hold beside registers. -/
structure State.tells (s t : State) (l : List RegName) : Prop where
  now : t.now = s.now
  copies : t.copies = s.copies
  goAt : t.goAt = s.goAt
  replies : t.replies = s.replies
  keeps : s.keeps t l

/-- The registers that telling a unit may change: those of a raised source, and the count of frames without a path. -/
def tellRegs : List RegName := [.prvPendSet, .mlCnt1] ++ raiseRegs

theorem State.wr_tells (s : State) {l : List RegName} {n : RegName} (hn : n ∈ l) (w : Word) (i j : Nat) : s.tells (s.wr n w i j) l :=
  ⟨rfl, rfl, rfl, rfl, (s.wr_stirs hn w i j).2⟩

namespace State.tells

variable {s t u : State} {l : List RegName}

theorem refl (s : State) (l : List RegName) : s.tells s l := ⟨rfl, rfl, rfl, rfl, fun _ _ _ _ => rfl⟩

theorem trans (h : s.tells t l) (h' : t.tells u l) : s.tells u l where
  now := h'.now.trans h.now
  copies := h'.copies.trans h.copies
  goAt := h'.goAt.trans h.goAt
  replies := h'.replies.trans h.replies
  keeps n i j hn := (h'.keeps n i j hn).trans (h.keeps n i j hn)

theorem mono {l' : List RegName} (h : s.tells t l) (hl : l ⊆ l') : s.tells t l' :=
  { h with keeps := fun n i j hn => h.keeps n i j (fun hm => hn (hl hm)) }

theorem ite {p : Prop} [Decidable p] (h : s.tells t l) (h' : s.tells u l) : s.tells (if p then t else u) l := by
  split
  · exact h
  · exact h'
theorem when (h : s.tells t l) (b : Bool) {f : State → State} (hf : ∀ v, State.tells v (f v) l) : s.tells (t.when b f) l :=
  .ite (h.trans (hf t)) h

theorem clock (h : s.tells t l) (i : Nat) : t.clock i = s.clock i := by
  unfold State.clock State.ahead
  rw [h.now, h.copies]
theorem repliesOf (h : s.tells t l) (k : Nat) : t.repliesOf k = s.repliesOf k := congrArg (SMap.at [] · k) h.replies
theorem go (h : s.tells t tellRegs) (b : Nat) : t.go b = s.go b := State.keeps_flag h.keeps (by decide) 0 b 0
theorem boxAge (h : s.tells t tellRegs) (b : Nat) : t.boxAge b = s.boxAge b := by
  unfold State.boxAge
  rw [h.go, h.goAt, h.clock, State.keeps_fld h.keeps (by decide)]
theorem cmdBox (h : s.tells t tellRegs) (b : Nat) : t.cmdBox b = s.cmdBox b := by
  have flag := fun k => State.keeps_flag h.keeps (n := .sysCmdMbox) (by decide) k 0 0
  unfold State.cmdBox
  rw [flag, flag]

end State.tells

theorem State.wakeUp_tells (s : State) (l : List RegName) : s.tells s.wakeUp l :=
  .ite ⟨rfl, rfl, rfl, rfl, fun _ _ _ _ => rfl⟩ (.refl s l)

theorem State.countVector_tells (s : State) (v : Nat) : s.tells (s.countVector v) [.vecStat, .intErr] := by
  unfold State.countVector
  extract_lets noted counted issued
  have hn : s.tells noted [.vecStat, .intErr] := .ite ⟨rfl, rfl, rfl, rfl, fun _ _ _ _ => rfl⟩ (.refl s _)
  have hi : s.tells issued [.vecStat, .intErr] :=
    (hn.trans (noted.wr_tells (by decide) _ _ _)).when _ (fun u => u.wr_tells (by decide) _ _ _)
  exact .ite ⟨hi.now, hi.copies, hi.goAt, hi.replies, hi.keeps⟩ hi

/-- A present source that is raised becomes pending, and what follows leaves it so (R340). -/
theorem State.raise_present {s : State} {n : Nat} (h : s.srcPresent n = true) :
    (s.setFlag .intPendSet (n % 32) true (n / 32)).tells (s.raise n) [.vecStat, .intErr] := by
  unfold State.raise
  extract_lets pends woken again counted
  have hw : pends.tells woken [.vecStat, .intErr] := (State.tells.refl pends _).when _ (fun u => u.wakeUp_tells _)
  have hc : pends.tells counted [.vecStat, .intErr] := .ite (hw.trans (woken.wr_tells (by decide) _ _ _)) hw
  have hv := (hc.trans (counted.countVector_tells (counted.fld .intRoute 24 6 n))).when again
    (f := (·.setFlag .vecStat 31 true (counted.fld .intRoute 24 6 n))) (fun u => u.wr_tells (by decide) _ _ _)
  rw [if_neg (by simp [h])]
  exact .ite hw (.ite hv hc)

theorem State.pend_raise {s : State} {n : Nat} (h : s.srcPresent n = true) : (s.raise n).pend n = true :=
  (State.keeps_flag (State.raise_present h).keeps (by decide) _ _ _).trans
    (s.flag_setFlag_self _ _ _ _ _ (Nat.mod_lt _ (by decide)))

theorem State.raise_tells (s : State) (n : Nat) : s.tells (s.raise n) tellRegs := by
  by_cases h : s.srcPresent n = true
  · exact (s.wr_tells (by decide) _ _ _).trans ((State.raise_present h).mono (by decide))
  · unfold State.raise
    rw [if_pos (by simp [h])]
    exact .refl s _

theorem State.raisePrv_tells (s : State) (e p : Nat) : s.tells (s.raisePrv e p) tellRegs := by
  have pends : s.tells (s.setFlag .prvPendSet p true e) tellRegs := s.wr_tells (by decide) _ _ _
  exact .ite (pends.when _ (fun u => u.wakeUp_tells _)) (.refl s _)

theorem State.note_tells (s : State) (b : Nat) : s.tells (s.note b) tellRegs := .ite (s.raise_tells _) (.refl s _)

/-- A frame for one device goes out on a link, waits for a path, or is dropped and counted. -/
theorem State.mlSend_tells (s : State) (ty dst : Nat) (payload : List Word) : s.tells (s.mlSend ty dst false payload) tellRegs := by
  have parks : ∀ p, s.tells { s with parked := p } tellRegs := fun _ => ⟨rfl, rfl, rfl, rfl, fun _ _ _ _ => rfl⟩
  unfold State.mlSend
  extract_lets f
  have routed : s.tells (s.mlRoute f none) tellRegs := by
    unfold State.mlRoute
    rw [if_neg Bool.false_ne_true]
    split
    · exact ⟨rfl, rfl, rfl, rfl, fun _ _ _ _ => rfl⟩
    · exact .ite (parks _) (s.wr_tells (by decide) _ _ _)
  exact .ite routed (.ite (parks _) (.refl s _))

/-! ## GO -/

theorem State.goSet_tells (s : State) (b : Nat) : s.tells (s.goSet b) tellRegs :=
  .ite (s.raise_tells _) (.ite (s.raise_tells _) (.ite (s.raise_tells _) (s.note_tells _)))

theorem State.goCleared_tells (s : State) (b : Nat) : s.tells (s.goCleared b) tellRegs :=
  .ite (s.raisePrv_tells _ _) (.ite (s.raisePrv_tells _ _) (.ite (s.raisePrv_tells _ _) (s.note_tells _)))

/-- GO is of its own mailbox. -/
theorem State.go_wr_ne (s : State) (w : Word) {b i : Nat} (h : i ≠ b) : (s.wr .mbCtrl w b).go i = s.go i :=
  congrArg (getB · 0) (s.rd_wr_ne _ _ _ _ _ _ _ (fun e => h (congrArg RegKey.i e)))

/-- MB_CTRL as GO is set, with the time that AGE counts from. -/
def State.goOn (s : State) (b : Nat) : State :=
  { (s.keepGo b).wr .mbCtrl 1 b with goAt := s.goAt.set 0 b (s.clock islFabric) }

/-- MB_CTRL as GO is cleared. -/
def State.goOff (s : State) (b : Nat) : State := (s.keepGo b).wr .mbCtrl (toW (s.boxAge b * 256)) b

/-- The setting of GO, and the sources told of it. -/
theorem State.setGo_tells (s : State) (b : Nat) : (s.goOn b).tells (s.setGo b) tellRegs := State.goSet_tells _ b
/-- The clearing of GO, and the sources told of it. -/
theorem State.clearGo_tells (s : State) (b : Nat) : (s.goOff b).tells (s.clearGo b) tellRegs := State.goCleared_tells _ b

theorem State.goOn_keeps (s : State) (b : Nat) : s.keeps (s.goOn b) [.mbCtrl] := ((s.keepGo b).wr_onlyRegs .mbCtrl 1 b 0).2
theorem State.goOff_keeps (s : State) (b : Nat) : s.keeps (s.goOff b) [.mbCtrl] := ((s.keepGo b).wr_onlyRegs .mbCtrl _ b 0).2

theorem State.goOn_go_self (s : State) (b : Nat) : (s.goOn b).go b = true :=
  congrArg (getB · 0) (State.rd_wr_self (s.keepGo b) .mbCtrl 1 b 0)
theorem State.goOn_go_ne (s : State) {b i : Nat} (h : i ≠ b) : (s.goOn b).go i = s.go i := (s.keepGo b).go_wr_ne 1 h

theorem State.goOn_boxAge (s : State) (b : Nat) : (s.goOn b).boxAge b = 0 := by
  have since : (s.goOn b).goAt.at 0 b = (s.goOn b).clock islFabric := SMap.at_set_self ..
  unfold State.boxAge
  rw [if_pos (s.goOn_go_self b), since, usBetween, Nat.sub_self]
  decide

theorem State.boxAge_of_go {s : State} {b : Nat} (h : s.go b = true) : s.boxAge b < 2 ^ 24 := by
  unfold State.boxAge
  rw [if_pos h]
  omega

theorem State.goOff_go_self (s : State) (b : Nat) : (s.goOff b).go b = false := by
  unfold State.goOff State.go State.flag
  rw [State.rd_wr_self, getB, toW, BitVec.getLsbD_ofNat, Nat.testBit_zero]
  simp; omega
theorem State.goOff_go_ne (s : State) {b i : Nat} (h : i ≠ b) : (s.goOff b).go i = s.go i := (s.keepGo b).go_wr_ne _ h

/-- AGE keeps its count as GO clears (R330). -/
theorem State.goOff_boxAge {s : State} {b : Nat} (h : s.go b = true) : (s.goOff b).boxAge b = s.boxAge b := by
  have hage := State.boxAge_of_go h
  have hctrl : (s.goOff b).rd .mbCtrl b = toW (s.boxAge b * 256) := State.rd_wr_self ..
  rw [State.boxAge, if_neg (by rw [s.goOff_go_self b]; decide), State.fld, hctrl, getF, toW, BitVec.toNat_ofNat,
    Nat.shiftRight_eq_div_pow]
  omega

section
variable (s : State) (b : Nat)

theorem State.setGo_go_self : (s.setGo b).go b = true := ((s.setGo_tells b).go b).trans (s.goOn_go_self b)
theorem State.setGo_go_ne {i : Nat} (h : i ≠ b) : (s.setGo b).go i = s.go i := ((s.setGo_tells b).go i).trans (s.goOn_go_ne h)
theorem State.setGo_boxAge : (s.setGo b).boxAge b = 0 := ((s.setGo_tells b).boxAge b).trans (s.goOn_boxAge b)
theorem State.setGo_repliesOf (k : Nat) : (s.setGo b).repliesOf k = s.repliesOf k := (s.setGo_tells b).repliesOf k
theorem State.setGo_mbData (i j : Nat) : (s.setGo b).rd .mbData i j = s.rd .mbData i j :=
  ((s.setGo_tells b).keeps _ i j (by decide)).trans (s.goOn_keeps b _ i j (by decide))

theorem State.clearGo_go_self : (s.clearGo b).go b = false := ((s.clearGo_tells b).go b).trans (s.goOff_go_self b)
theorem State.clearGo_go_ne {i : Nat} (h : i ≠ b) : (s.clearGo b).go i = s.go i :=
  ((s.clearGo_tells b).go i).trans (s.goOff_go_ne h)
theorem State.clearGo_boxAge {b : Nat} (h : s.go b = true) : (s.clearGo b).boxAge b = s.boxAge b :=
  ((s.clearGo_tells b).boxAge b).trans (State.goOff_boxAge h)
theorem State.clearGo_repliesOf (k : Nat) : (s.clearGo b).repliesOf k = s.repliesOf k := (s.clearGo_tells b).repliesOf k
theorem State.clearGo_mbData (i j : Nat) : (s.clearGo b).rd .mbData i j = s.rd .mbData i j :=
  ((s.clearGo_tells b).keeps _ i j (by decide)).trans (s.goOff_keeps b _ i j (by decide))
theorem State.clearGo_cmdBox (k : Nat) : (s.clearGo b).cmdBox k = s.cmdBox k := by
  have flag := fun i => State.keeps_flag (s.goOff_keeps b) (n := .sysCmdMbox) (by decide) i 0 0
  rw [(s.clearGo_tells b).cmdBox, State.cmdBox, flag, flag, State.cmdBox]

end

/-- GO of an inbound mailbox of a host channel pends the channel's source. -/
theorem State.setGo_pend (s : State) {b : Nat} (h : b < 16) : (s.setGo b).pend (148 + b) = true := by
  have raised : s.setGo b = (s.goOn b).raise (148 + b) := if_pos h
  rw [raised]
  refine State.pend_raise ?_
  unfold State.srcPresent
  rw [if_neg (by omega), if_neg (by omega), if_neg (by omega), if_neg (by omega), if_neg (by omega)]

/-! ## Refused accesses -/

/-- An access that is not refused for ownership or a hold steps the count of errors, and leaves what it was (R306). -/
theorem State.accErr_counted (s : State) (m : Master) (off : Nat) {r : AccReason} (ho : r ≠ .ownership) (hh : r ≠ .hold) :
    (s.accErr m off r).fld .sysAccerr 0 16 = (s.fld .sysAccerr 0 16 + 1) % 65536 ∧
    (s.accErr m off r).rd .sysAccerrSrc = accSrc m r := by
  have counted : s.accErr m off r =
      (((s.bumpW .sysAccerr 0 16).wr .sysAccerrAddr (toW off)).wr .sysAccerrSrc (accSrc m r)).raise 191 := by
    cases r with
    | ownership => exact absurd rfl ho
    | hold => exact absurd rfl hh
    | _ => rfl
  have raised := (State.raise_tells (((s.bumpW .sysAccerr 0 16).wr .sysAccerrAddr (toW off)).wr .sysAccerrSrc (accSrc m r)) 191).keeps
  rw [counted]
  constructor
  · rw [State.keeps_fld raised (by decide), State.fld, State.rd_wr_name _ _ _ _ _ _ _ _ (by decide),
      State.rd_wr_name _ _ _ _ _ _ _ _ (by decide)]
    exact s.fld_bumpW_self .sysAccerr 0 16 0 0 1 (by decide)
  · rw [raised _ _ _ (by decide), State.rd_wr_self]

/-- A write by a master that is not the party counts at the mailbox and as an access error, and changes no word and no GO (R328). -/
theorem State.rightsDrop_spec (s : State) (m : Master) (b off : Nat) :
    s.keeps (s.rightsDrop m b off) (.mbCnt :: accRegs) ∧
    (s.rightsDrop m b off).fld .mbCnt 16 8 b = min 255 (s.fld .mbCnt 16 8 b + 1) ∧
    (s.rightsDrop m b off).fld .sysAccerr 0 16 = (s.fld .sysAccerr 0 16 + 1) % 65536 := by
  have bumped := (s.wr_onlyRegs .mbCnt (addSat (s.rd .mbCnt b) 16 8 1) b 0).2
  have err := ((s.bump .mbCnt 16 8 b).accErr_stirs m off .privilege).2
  refine ⟨fun n i j hn => ?_, ?_, ?_⟩
  · obtain ⟨hcnt, hacc⟩ := List.ne_and_not_mem_of_not_mem_cons hn
    exact (err n i j hacc).trans (bumped n i j (by simpa using hcnt))
  · exact (State.keeps_fld err (by decide) _ _ _ _).trans (s.fld_bump_self .mbCnt 16 8 b 0 (by decide))
  · obtain ⟨hcount, -⟩ := (s.bump .mbCnt 16 8 b).accErr_counted m off (r := .privilege) (by decide) (by decide)
    have kept : (s.bump .mbCnt 16 8 b).fld .sysAccerr 0 16 = s.fld .sysAccerr 0 16 := State.keeps_fld bumped (by decide) _ _ _ _
    rw [kept] at hcount
    exact hcount

/-! ## The writes to a mailbox -/

section
variable {s : State} {m : Master} {b : Nat}

theorem State.writeData_stored (hm : s.isSender m b = true) (hw : s.goWas b = false) (n : Nat) (v : Word) :
    s.writeData m b n v = s.wr .mbData v b n := by
  simp [State.writeData, hm, hw]
theorem State.writeData_busy (hm : s.isSender m b = true) (hw : s.goWas b = true) (n : Nat) (v : Word) :
    s.writeData m b n v = s.bump .mbCnt 0 16 b := by
  simp [State.writeData, hm, hw]
theorem State.writeData_barred (hm : s.isSender m b = false) (n : Nat) (v : Word) :
    s.writeData m b n v = s.rightsDrop m b (RegKey.offset ⟨.mbData, b, n⟩) := by
  simp [State.writeData, hm]

/-- GO is set in the state that a wake may have been latched in; an outbound peer mailbox then sends its message. -/
theorem State.writeGo_set (hm : s.isSender m b = true) (hw : s.goWas b = false) (hg : s.go b = false) :
    (s.wakeUp.setGo b).tells (s.writeGo m b) tellRegs ∧ (b < 40 → s.writeGo m b = s.wakeUp.setGo b) := by
  have eq : s.writeGo m b = if 40 ≤ b then (s.wakeUp.setGo b).sendBox (b % 4) else s.wakeUp.setGo b := by
    simp [State.writeGo, hm, hw, hg]
  rw [eq]
  exact ⟨.ite (State.mlSend_tells _ _ _ _) (.refl _ _), fun h => if_neg (by omega)⟩
theorem State.writeGo_busy (hm : s.isSender m b = true) (h : s.goWas b = true ∨ s.go b = true) :
    s.writeGo m b = s.bump .mbCnt 24 8 b := by
  simp [State.writeGo, hm, h]

/-- The reply that a DONE lets out: of the channel whose outbound mailbox b is. -/
def State.nextReply (s : State) (b : Nat) : State :=
  if 16 ≤ b ∧ b < 32 then s.pumpReply (b - 16) else if b = 34 ∨ b = 35 then s.pumpReply (16 + b % 2) else s

/-- DONE clears GO; what follows is told to the sender of a peer mailbox, or lets the next reply out. -/
theorem State.writeDone_cleared (hm : s.isReceiver m b = true) (hw : s.goWas b = true) (hg : s.go b = true) :
    s.writeDone m b = if 36 ≤ b ∧ b < 40 then (s.clearGo b).answerBox (b % 4) 3 else (s.clearGo b).nextReply b := by
  simp [State.writeDone, State.nextReply, hm, hw, hg]
theorem State.writeDone_idle (hm : s.isReceiver m b = true) (h : s.goWas b = false ∨ s.go b = false) :
    s.writeDone m b = s.bump .mbCnt 24 8 b := by
  simp [State.writeDone, hm, h]

theorem State.writeMbCfg_stored {v : Word} (hm : s.mayCfg m b = true) (hw : s.goWas b = false) (hg : s.go b = false)
    (hv : getB v 24 = true → 192 ≤ getF v 16 8 ∧ getF v 16 8 ≠ 210) : s.writeMbCfg m b v = s.wr .mbCfg (v &&& 0x1FF00FF) b := by
  have note : ¬(getB v 24 = true ∧ (getF v 16 8 < 192 ∨ getF v 16 8 = 210)) := fun ⟨h24, hn⟩ => by
    obtain ⟨hlo, hne⟩ := hv h24
    omega
  simp [State.writeMbCfg, hm, hw, hg, note]

end

/-! ## Replies of command channels -/

/-- With no reply waiting, none goes out. -/
theorem State.pumpReply_nil {s : State} {k : Nat} (h : s.repliesOf k = []) : s.pumpReply k = s := by
  unfold State.pumpReply
  simp only [h]

/-- The words of a reply, put into mailbox b from place k on. -/
def State.putReply (s : State) (b k : Nat) (r : List Word) : State :=
  (r.zipIdx k).foldl (fun s (w, n) => if n < 16 then s.wr .mbData w b n else s) s

theorem State.putReply_onlyRegs (s : State) (b k : Nat) (r : List Word) : s.onlyRegs (s.putReply b k r) [.mbData] := by
  unfold State.putReply
  induction r generalizing s k with
  | nil => exact ⟨rfl, fun _ _ _ _ => rfl⟩
  | cons w r ih =>
    rw [List.zipIdx_cons, List.foldl_cons]
    refine State.onlyRegs_trans ?_ (ih _ (k + 1))
    dsimp only
    split
    · exact s.wr_onlyRegs .mbData w b k
    · exact ⟨rfl, fun _ _ _ _ => rfl⟩

/-- Words before the first place stay. -/
theorem State.putReply_before (s : State) (b k : Nat) (r : List Word) {j : Nat} (h : j < k) :
    (s.putReply b k r).rd .mbData b j = s.rd .mbData b j := by
  unfold State.putReply
  induction r generalizing s k with
  | nil => rfl
  | cons w r ih =>
    rw [List.zipIdx_cons, List.foldl_cons, ih _ (k + 1) (by omega)]
    dsimp only
    split
    · exact s.rd_wr_ne _ _ _ _ _ _ _ (fun e => absurd (congrArg RegKey.j e) (by simp; omega))
    · rfl

/-- A mailbox shows the words of the reply, as far as it holds them. -/
theorem State.putReply_word (s : State) (b k : Nat) (r : List Word) {j : Nat} (hr : j < r.length) (hj : k + j < 16) :
    (s.putReply b k r).rd .mbData b (k + j) = r.getD j 0 := by
  induction r generalizing s k j with
  | nil => exact absurd hr (Nat.not_lt_zero j)
  | cons w r ih =>
    have first : s.putReply b k (w :: r) = (if k < 16 then s.wr .mbData w b k else s).putReply b (k + 1) r := rfl
    rw [first, if_pos (by omega)]
    cases j with
    | zero => exact (State.putReply_before _ b (k + 1) r (Nat.lt_succ_self k)).trans (State.rd_wr_self ..)
    | succ j =>
      rw [show k + (j + 1) = k + 1 + j by omega]
      exact ih _ _ (by simpa using hr) (by omega)

/-- The oldest reply that waits goes out where GO is clear (R318). -/
theorem State.pumpReply_cons {s : State} {k : Nat} {r : List Word} {rest : List (List Word)} (h : s.repliesOf k = r :: rest)
    (hg : s.go (outBox k) = false) (hc : s.cmdBox (outBox k) = true) :
    s.pumpReply k = (((s.putReply (outBox k) 0 r).setReplies k rest).setStall k false).setGo (outBox k) := by
  unfold State.pumpReply
  simp only [h, hg, hc]
  rfl

/-- After the oldest reply has gone out, GO is set, the others wait, and the mailbox holds its words. -/
theorem State.pumpReply_spec {s : State} {k : Nat} {r : List Word} {rest : List (List Word)} (h : s.repliesOf k = r :: rest)
    (hg : s.go (outBox k) = false) (hc : s.cmdBox (outBox k) = true) :
    (s.pumpReply k).go (outBox k) = true ∧ (s.pumpReply k).repliesOf k = rest ∧
    ∀ j, j < 16 → j < r.length → (s.pumpReply k).rd .mbData (outBox k) j = r.getD j 0 := by
  rw [State.pumpReply_cons h hg hc]
  refine ⟨State.setGo_go_self _ _, ?_, fun j hj hr => ?_⟩
  · rw [State.setGo_repliesOf]
    exact SMap.at_set_self ..
  · rw [State.setGo_mbData, State.setStall, State.setFlag, State.rd_wr_name _ _ _ _ _ _ _ _ (by decide)]
    have word := s.putReply_word (outBox k) 0 r hr (by omega)
    rw [Nat.zero_add] at word
    exact word

/-- With no reply waiting for mailbox b, DONE only clears its GO, and tells so. -/
theorem State.writeDone_tells {s : State} {m : Master} {b : Nat} (hm : s.isReceiver m b = true) (hw : s.goWas b = true)
    (hg : s.go b = true) (hh : 16 ≤ b ∧ b < 32 → s.repliesOf (b - 16) = []) (hs : b = 34 ∨ b = 35 → s.repliesOf (b - 18) = []) :
    (s.clearGo b).tells (s.writeDone m b) tellRegs := by
  have waits := s.clearGo_repliesOf b
  rw [State.writeDone_cleared hm hw hg]
  refine .ite (State.mlSend_tells _ _ _ _) ?_
  unfold State.nextReply
  split
  · rename_i hb
    rw [State.pumpReply_nil ((waits _).trans (hh hb))]
    exact .refl _ _
  · split
    · rename_i hb
      rw [show 16 + b % 2 = b - 18 by omega, State.pumpReply_nil ((waits _).trans (hs hb))]
      exact .refl _ _
    · exact .refl _ _

/-- With a reply waiting for the outbound mailbox of a host channel, DONE lets it out. -/
theorem State.writeDone_reply {s : State} {m : Master} {b : Nat} (hm : s.isReceiver m b = true) (hw : s.goWas b = true)
    (hg : s.go b = true) (h16 : 16 ≤ b) (h32 : b < 32) : s.writeDone m b = (s.clearGo b).pumpReply (b - 16) := by
  rw [State.writeDone_cleared hm hw hg, if_neg (by omega), State.nextReply, if_pos ⟨h16, h32⟩]

/-! ## Local locks -/

theorem lockCode_ctx (x : Fin 128) : (lockCode (.ctx x)).toNat = 5 + x.val * 256 := by
  have := x.isLt
  rw [lockCode, toW, BitVec.toNat_ofNat]
  omega

/-- Every master but a DMA channel has a code of its own as a holder. -/
theorem lockCode_ne_zero {m : Master} (h : ∀ c, m ≠ .dma c) : lockCode m ≠ 0 := by
  cases m with
  | host => decide
  | supervisor => decide
  | ctx x =>
    intro h0
    have := lockCode_ctx x
    rw [h0] at this
    simp at this
    omega
  | dma c => exact absurd rfl (h c)

/-- The kind of a master that may hold a lock, as LOCK_STAT gives it. -/
def lockKind : Master → Nat
  | .host => 0
  | .supervisor => 1
  | _ => 2

/-- A holder's code carries its kind. -/
theorem getF_lockCode {m : Master} (h : ∀ c, m ≠ .dma c) : getF (lockCode m) 1 2 = lockKind m := by
  cases m with
  | host => rfl
  | supervisor => rfl
  | ctx x =>
    rw [getF, lockCode_ctx, Nat.shiftRight_eq_div_pow, show lockKind (.ctx x) = 2 from rfl]
    omega
  | dma c => exact absurd rfl (h c)

/-- A read of a lock: who takes it, and what is told (R335, R336). -/
theorem State.lockRead_eq {s : State} {m : Master} (h : ∀ c, m ≠ .dma c) (k : Nat) :
    let o := s.rd .lockOwner k
    let lost := s.lockLost m k || s.lockNext m k
    s.lockRead m k = (if (o = 0 ∧ lost = false) ∨ o = lockCode m then 1 else 0,
      if o = 0 ∧ lost = false then s.wr .lockOwner (lockCode m) k else s) := by
  intro o lost
  have hcode := lockCode_ne_zero h
  have reads : s.lockRead m k = if o = 0 then (if lost then (0, s) else (1, s.wr .lockOwner (lockCode m) k))
      else (if o = lockCode m then 1 else 0, s) := by
    cases m with
    | dma c => exact absurd rfl (h c)
    | _ => rfl
  rw [reads]
  by_cases ho : o = 0
  · have other : o ≠ lockCode m := fun e => hcode (e.symm.trans ho)
    by_cases hl : lost = true
    · have refused : ¬(o = 0 ∧ lost = false) := fun ⟨_, hf⟩ => Bool.false_ne_true (hf.symm.trans hl)
      rw [if_pos ho, if_pos hl, if_neg (not_or.mpr ⟨refused, other⟩), if_neg refused]
    · have takes : o = 0 ∧ lost = false := ⟨ho, Bool.eq_false_iff.mpr hl⟩
      rw [if_pos ho, if_neg hl, if_pos (.inl takes), if_pos takes]
  · have refused : ¬(o = 0 ∧ lost = false) := fun h => ho h.1
    simp only [if_neg ho, if_neg refused, or_iff_right refused]

/-- What a read of a lock leaves: a holder that may be new, and no other register changed. -/
theorem State.lockRead_owner {s : State} {m : Master} (h : ∀ c, m ≠ .dma c) (k : Nat) :
    let takes := s.rd .lockOwner k = 0 ∧ (s.lockLost m k || s.lockNext m k) = false
    s.onlyRegs (s.lockRead m k).2 [.lockOwner] ∧
    (s.lockRead m k).2.rd .lockOwner k = (if takes then lockCode m else s.rd .lockOwner k) ∧
    ∀ i, i ≠ k → (s.lockRead m k).2.rd .lockOwner i = s.rd .lockOwner i := by
  intro takes
  rw [State.lockRead_eq h]
  dsimp only
  by_cases ht : takes
  · rw [if_pos ht, if_pos ht]
    exact ⟨s.wr_onlyRegs _ _ _ _, State.rd_wr_self .., fun i hi => s.rd_wr_ne _ _ _ _ _ _ _ (fun e => hi (congrArg RegKey.i e))⟩
  · rw [if_neg ht, if_neg ht]
    exact ⟨⟨rfl, fun _ _ _ _ => rfl⟩, rfl, fun _ _ => rfl⟩

/-- What a released lock leaves: it is free, a watched one is reported, and no other lock has changed (R338). -/
theorem State.freeLock_spec (s : State) (k : Nat) :
    (s.freeLock k).rd .lockOwner k = 0 ∧ (∀ i, i ≠ k → (s.freeLock k).rd .lockOwner i = s.rd .lockOwner i) ∧
    (s.flag .lockWatch (k % 32) (k / 32) = true →
      (s.freeLock k).flag .lockFreed (k % 32) (k / 32) = true ∧ (s.freeLock k).pend 190 = true) := by
  have cleared := (s.wr_onlyRegs .lockOwner 0 k 0).2
  have report : State.keeps (s.clr .lockOwner k)
      (((s.clr .lockOwner k).setFlag .lockFreed (k % 32) true (k / 32)).raise 190) (.lockFreed :: tellRegs) := fun n i j hn =>
    (((s.clr .lockOwner k).wr_tells (by simp) _ _ _).trans ((State.raise_tells _ _).mono (by simp))).keeps n i j hn
  have owner : ∀ i, (s.freeLock k).rd .lockOwner i = (s.clr .lockOwner k).rd .lockOwner i := fun i => by
    unfold State.freeLock
    extract_lets freed
    split
    · exact report _ _ _ (by decide)
    · rfl
  refine ⟨(owner k).trans (State.rd_wr_self ..), fun i hi => (owner i).trans ?_, fun hw => ?_⟩
  · exact s.rd_wr_ne _ _ _ _ _ _ _ (fun e => hi (congrArg RegKey.i e))
  · have reported : s.freeLock k = ((s.clr .lockOwner k).setFlag .lockFreed (k % 32) true (k / 32)).raise 190 :=
      if_pos ((State.keeps_flag cleared (by decide) _ _ _).trans hw)
    rw [reported]
    refine ⟨?_, State.pend_raise rfl⟩
    rw [State.keeps_flag (State.raise_tells _ _).keeps (by decide)]
    exact State.flag_setFlag_self _ _ _ _ _ _ (Nat.mod_lt _ (by decide))

theorem State.lockRelease_holder {s : State} {m : Master} {k : Nat} (ho : s.rd .lockOwner k ≠ 0)
    (hm : s.rd .lockOwner k = lockCode m) : s.lockRelease m k = s.freeLock k := if_pos ⟨ho, hm⟩

/-- A release by another master than the holder counts in LOCK_STAT, with the lock and the kind of master (R335). -/
theorem State.lockRelease_other {s : State} {m : Master} {k : Nat} (hk : k < 256)
    (ho : s.rd .lockOwner k = 0 ∨ s.rd .lockOwner k ≠ lockCode m) :
    s.onlyRegs (s.lockRelease m k) [.lockStat] ∧
    (s.lockRelease m k).fld .lockStat 0 16 = (s.fld .lockStat 0 16 + 1) % 65536 ∧ (s.lockRelease m k).fld .lockStat 16 8 = k ∧
    (s.lockRelease m k).fld .lockStat 24 2 = getF (lockCode m) 1 2 := by
  have counts : s.lockRelease m k =
      ((s.bumpW .lockStat 0 16).setFld .lockStat 16 8 k).setFld .lockStat 24 2 (getF (lockCode m) 1 2) :=
    if_neg (fun ⟨h0, hm⟩ => ho.elim h0 (fun hne => hne hm))
  rw [counts]
  refine ⟨?_, ?_, ?_, ?_⟩
  · exact State.onlyRegs_trans (State.onlyRegs_trans (State.wr_onlyRegs _ _ _ _ _) (State.wr_onlyRegs _ _ _ _ _))
      (State.wr_onlyRegs _ _ _ _ _)
  · rw [State.fld_setFld_beside _ _ _ _ _ _ _ _ _ (by decide), State.fld_setFld_beside _ _ _ _ _ _ _ _ _ (by decide)]
    exact s.fld_bumpW_self .lockStat 0 16 0 0 1 (by decide)
  · rw [State.fld_setFld_beside _ _ _ _ _ _ _ _ _ (by decide), State.fld_setFld_self _ _ _ _ _ _ _ (by decide)]
    exact Nat.mod_eq_of_lt hk
  · rw [State.fld_setFld_self _ _ _ _ _ _ _ (by decide)]
    exact Nat.mod_eq_of_lt (Nat.mod_lt _ (by decide))

/-- No write of a DMA channel acts (R304). -/
theorem State.lets_not_dma {s : State} {m : Master} {n : RegName} {i j : Nat} (h : s.lets m n i j = true) (c : Fin 16) : m ≠ .dma c := by
  rintro rfl
  simp [State.lets, State.refusal] at h

/-- Registers of mailboxes and locks wake nothing. -/
theorem State.arrived_eq_tick (s : State) {n : RegName} {i j : Nat} (h : RegKey.unit ⟨n, i, j⟩ = 255) : s.arrived n i j = s.tick := by
  unfold State.arrived
  rw [h]
  rfl

/-! ## The cycle of an access -/

section
variable (s : State) (m : Master) (b : Nat)

@[simp] theorem State.tick_flag (n : RegName) (k i j : Nat) : s.tick.flag n k i j = s.flag n k i j :=
  congrArg (getB · k) (s.tick_rd n i j)
@[simp] theorem State.tick_go : s.tick.go b = s.go b := s.tick_flag ..
@[simp] theorem State.tick_repliesOf : s.tick.repliesOf b = s.repliesOf b := by
  obtain ⟨_, _, h⟩ := s.tick_spec; rw [h]; rfl
@[simp] theorem State.tick_cmdBox : s.tick.cmdBox b = s.cmdBox b := by
  obtain ⟨_, _, h⟩ := s.tick_spec; rw [h]; rfl
@[simp] theorem State.tick_isSender : s.tick.isSender m b = s.isSender m b := by
  obtain ⟨_, _, h⟩ := s.tick_spec; rw [h]; rfl
@[simp] theorem State.tick_isReceiver : s.tick.isReceiver m b = s.isReceiver m b := by
  obtain ⟨_, _, h⟩ := s.tick_spec; rw [h]; rfl
@[simp] theorem State.tick_mayCfg : s.tick.mayCfg m b = s.mayCfg m b := by
  obtain ⟨_, _, h⟩ := s.tick_spec; rw [h]; rfl

end

/-- A counter that steps in the cycle of an access: it alone changes. -/
theorem State.tick_bump (s : State) (n : RegName) (lo len i j : Nat) (h : lo + len ≤ 32) :
    s.tick.onlyRegs (s.tick.bump n lo len i j) [n] ∧
    (s.tick.bump n lo len i j).fld n lo len i j = min (2 ^ len - 1) (s.fld n lo len i j + 1) :=
  ⟨State.wr_onlyRegs .., by rw [State.fld_bump_self _ _ _ _ _ _ h, State.tick_fld]⟩

/-- A register that is written in the cycle of an access: it alone changes. -/
theorem State.tick_wr (s : State) (n : RegName) (w : Word) (i j : Nat) :
    s.tick.onlyRegs (s.tick.wr n w i j) [n] ∧ (s.tick.wr n w i j).rd n i j = w ∧
    ∀ i' j', ¬(i' = i ∧ j' = j) → (s.tick.wr n w i j).rd n i' j' = s.rd n i' j' := by
  refine ⟨State.wr_onlyRegs .., State.rd_wr_self .., fun i' j' hij => (State.rd_wr_ne _ _ _ _ _ _ _ _ ?_).trans (s.tick_rd _ _ _)⟩
  exact fun e => hij ⟨congrArg RegKey.i e, congrArg RegKey.j e⟩

section
variable {s : State} (hp : s.pstate < 3) (m : Master)
include hp

theorem exec_mbDataWrite (b : Fin 44) (n : Fin 16) (v : Word) :
    exec (.mbDataWrite m b n v) s = .next (s.tick.writeData m b n v) := congrArg _ (State.onBus_eq hp _)
theorem exec_mbGoSet (b : Fin 44) : exec (.mbGoSet m b) s = .next (s.tick.writeGo m b) := congrArg _ (State.onBus_eq hp _)
theorem exec_mbDone (b : Fin 44) : exec (.mbDone m b) s = .next (s.tick.writeDone m b) := congrArg _ (State.onBus_eq hp _)
theorem exec_mbCfgWrite (b : Fin 44) (v : Word) : exec (.mbCfgWrite m b v) s = .next (s.tick.writeMbCfg m b v) :=
  congrArg _ (State.onBus_eq hp _)
theorem exec_lockRead (k : Fin 256) :
    exec (.lockRead m k) s = .next ((s.tick.lockRead m k).2.setRead (masterIx m) (s.tick.lockRead m k).1) :=
  congrArg _ (State.onBus_eq hp _)

end

theorem exec_mbxClrCnt {s : State} {m : Master} (h : s.lets m .mbxCtrl 0 0 = true) :
    exec (.mbxClrCnt m) s = .next (s.arrived .mbxCtrl 0 0).clrBoxes :=
  congrArg Host.Outcome.next (State.access_eq h State.clrBoxes)
theorem exec_lockRelease {s : State} {m : Master} {k : Fin 256} (h : s.lets m .lockRel k 0 = true) :
    exec (.lockRelease m k) s = .next ((s.arrived .lockRel k 0).lockRelease m k) :=
  congrArg Host.Outcome.next (State.access_eq h (·.lockRelease m k))
theorem exec_lockClrCnt {s : State} {m : Master} (h : s.lets m .lockCtrl 0 0 = true) :
    exec (.lockClrCnt m) s = .next ((s.arrived .lockCtrl 0 0).setFld .lockStat 0 16 0) :=
  congrArg Host.Outcome.next (State.access_eq h (·.setFld .lockStat 0 16 0))

/-! ## The statement -/

/-- Settles O22: each clause by the rule of its access, on the state that the access's cycle has reached. -/
theorem mailboxesAndLocks : Obligations.MailboxesAndLocks := by
  unfold Obligations.MailboxesAndLocks
  refine ⟨fun m b n v s hp => ?boxes, fun m k s hp => ?locks⟩
  case boxes =>
    dsimp only
    rw [← s.tick_isSender m b, ← s.tick_isReceiver m b, ← s.tick_mayCfg m b, ← s.tick_go b]
    refine ⟨fun hm hw => ?store, fun hm hw => ?storeBusy, fun hm => ?storeBarred, fun hm hw hg => ?set, fun hm hb => ?setBusy,
      fun hm hw hg hh hs => ?done, fun r rest hm hw hg h16 h32 hc hr => ?reply, fun hm hi => ?doneIdle,
      fun hm hw hg hv => ?config, fun hl => ?clear⟩
    case store =>
      exact ⟨_, (exec_mbDataWrite hp ..).trans (congrArg _ (State.writeData_stored hm hw n v)), s.tick_wr ..⟩
    case storeBusy =>
      exact ⟨_, (exec_mbDataWrite hp ..).trans (congrArg _ (State.writeData_busy hm hw n v)), s.tick_bump _ _ _ _ _ (by decide)⟩
    case storeBarred =>
      obtain ⟨kept, rights, err⟩ := s.tick.rightsDrop_spec m b (RegKey.offset ⟨.mbData, b, n⟩)
      rw [State.tick_fld] at rights err
      exact ⟨_, (exec_mbDataWrite hp ..).trans (congrArg _ (State.writeData_barred hm n v)),
        fun i j => (kept _ i j (by decide)).trans (s.tick_rd _ _ _), State.keeps_flag kept (by decide) _ _ _, rights, err⟩
    case set =>
      obtain ⟨told, alone⟩ := State.writeGo_set hm hw hg
      have woken := s.tick.wakeUp_tells tellRegs
      refine ⟨_, exec_mbGoSet hp m b, (told.go _).trans (State.setGo_go_self _ _), (told.boxAge _).trans (State.setGo_boxAge _ _),
        fun i j => ?_, fun hb => ?_, fun i hi => ?_⟩
      · rw [told.keeps _ i j (by decide), State.setGo_mbData, woken.keeps _ i j (by decide), State.tick_rd]
      · rw [alone (by omega)]
        exact State.setGo_pend _ hb
      · rw [told.go, State.setGo_go_ne _ _ hi, woken.go, State.tick_go]
    case setBusy =>
      exact ⟨_, (exec_mbGoSet hp ..).trans (congrArg _ (State.writeGo_busy hm hb)), s.tick_bump _ _ _ _ _ (by decide)⟩
    case done =>
      rw [← s.tick_repliesOf] at hh hs
      have told := State.writeDone_tells hm hw hg hh hs
      refine ⟨_, exec_mbDone hp m b, (told.go _).trans (State.clearGo_go_self _ _),
        (told.boxAge _).trans (State.clearGo_boxAge _ hg), fun i j => ?_, fun i hi => ?_⟩
      · rw [told.keeps _ i j (by decide), State.clearGo_mbData, State.tick_rd]
      · rw [told.go, State.clearGo_go_ne _ _ hi, State.tick_go]
    case reply =>
      have out : outBox (b - 16) = b := by
        unfold outBox
        rw [if_pos (by omega)]
        omega
      have sends := State.pumpReply_spec (s := s.tick.clearGo b) (k := b - 16) (r := r) (rest := rest)
      rw [out, State.clearGo_repliesOf, State.clearGo_cmdBox, State.tick_repliesOf, State.tick_cmdBox] at sends
      exact ⟨_, (exec_mbDone hp m b).trans (congrArg _ (State.writeDone_reply hm hw hg h16 h32)),
        sends hr (State.clearGo_go_self _ _) hc⟩
    case doneIdle =>
      exact ⟨_, (exec_mbDone hp ..).trans (congrArg _ (State.writeDone_idle hm hi)), s.tick_bump _ _ _ _ _ (by decide)⟩
    case config =>
      exact ⟨_, (exec_mbCfgWrite hp ..).trans (congrArg _ (State.writeMbCfg_stored hm hw hg hv)), s.tick_wr ..⟩
    case clear =>
      exact ⟨_, exec_mbxClrCnt hl, State.each_clr_onlyRegs _ _ _,
        fun i hi => (State.rd_each_clr _ _ _ _).trans (if_pos (List.mem_range.mpr (by omega)))⟩
  case locks =>
    dsimp only
    have arrived : s.arrived .lockRel k 0 = s.tick := s.arrived_eq_tick rfl
    refine ⟨fun hd => ?read, fun c hc => ?readDma, fun hl ho hm => ?release, fun hl ho => ?releaseOther, fun hl => ?clear⟩
    case read =>
      obtain ⟨only, owner, others⟩ := State.lockRead_owner (s := s.tick) hd k
      have told := congrArg Prod.fst (State.lockRead_eq (s := s.tick) hd k)
      simp only [State.tick_rd] at owner told others
      exact ⟨_, exec_lockRead hp m k, fun n i j hn => (only.2 n i j hn).trans (s.tick_rd _ _ _), owner,
        (State.readOf_setRead _ _ _).trans told, others⟩
    case readDma =>
      subst hc
      obtain ⟨count, src⟩ := s.tick.accErr_counted (.dma c) (RegKey.offset ⟨.lock, k, 0⟩) (r := .privilege) (by decide) (by decide)
      have kept := (s.tick.accErr_stirs (.dma c) (RegKey.offset ⟨.lock, k, 0⟩) .privilege).2
      rw [State.tick_fld] at count
      exact ⟨_, exec_lockRead hp _ k, State.readOf_setRead _ _ _, count, src,
        fun i => (kept _ i 0 (by decide)).trans (s.tick_rd _ _ _)⟩
    case release =>
      obtain ⟨free, others, told⟩ := s.tick.freeLock_spec k
      rw [State.tick_flag] at told
      have freed : (s.arrived .lockRel k 0).lockRelease m k = s.tick.freeLock k := by
        rw [arrived]
        exact State.lockRelease_holder (by rwa [State.tick_rd]) (by rwa [State.tick_rd])
      exact ⟨_, (exec_lockRelease hl).trans (congrArg _ freed), free, told, fun i hi => (others i hi).trans (s.tick_rd _ _ _)⟩
    case releaseOther =>
      rw [arrived]
      obtain ⟨only, count, lock, kind⟩ := State.lockRelease_other (s := s.tick) (m := m) k.isLt (by simpa only [State.tick_rd] using ho)
      rw [State.tick_fld] at count
      rw [getF_lockCode (State.lets_not_dma hl)] at kind
      exact ⟨_, (exec_lockRelease hl).trans (by rw [arrived]), only, count, lock, kind⟩
    case clear =>
      refine ⟨_, exec_lockClrCnt hl, State.wr_onlyRegs .., State.fld_setFld_self _ _ _ _ _ _ _ (by decide), ?_⟩
      rw [State.fld_setFld_beside _ _ _ _ _ _ _ _ _ (by decide), s.arrived_eq_tick rfl, State.tick_fld]

end Sys2Proof.Machine
end

section
/-! PROOFS. The words of task instructions (R173, R174): the fields of an encoded word, and that it decodes to its instruction. -/

namespace Sys2Proof
open Sys2Proof.Machine (getF)

section
variable (op : Nat) (rd rs rt : GReg) (imm : BitVec 16)

/-- A word of form RR is one of form RI whose immediate has rt on top of zeros. -/
theorem encR_eq_encI : encR op rd rs rt = encI op rd rs (BitVec.ofNat 16 (rt.val * 2 ^ 12)) := by
  unfold encR encI
  congr 1
  have := rt.isLt
  simp only [BitVec.toNat_ofNat]
  omega

theorem toNat_encI (h : op < 256) :
    (encI op rd rs imm).toNat = op * 2 ^ 24 + rd.val * 2 ^ 20 + rs.val * 2 ^ 16 + imm.toNat := by
  have := rd.isLt
  have := rs.isLt
  have := imm.isLt
  unfold encI
  rw [BitVec.toNat_ofNat]
  exact Nat.mod_eq_of_lt (by omega)

theorem getF_encI (h : op < 256) (lo len : Nat) : getF (encI op rd rs imm) lo len =
    (op * 2 ^ 24 + rd.val * 2 ^ 20 + rs.val * 2 ^ 16 + imm.toNat) / 2 ^ lo % 2 ^ len := by
  unfold getF
  rw [toNat_encI _ _ _ _ h, Nat.shiftRight_eq_div_pow]

theorem fOp_encI (h : op < 256) : fOp (encI op rd rs imm) = op := by
  have := rd.isLt
  have := rs.isLt
  have := imm.isLt
  unfold fOp
  rw [getF_encI _ _ _ _ h]
  omega

@[simp] theorem fRd_encI : fRd (encI op rd rs imm) = rd := by
  have := rd.isLt
  have := rs.isLt
  have := imm.isLt
  apply Fin.ext
  simp only [fRd, getF, encI, BitVec.toNat_ofNat, Nat.shiftRight_eq_div_pow, Fin.val_ofNat]
  omega

@[simp] theorem fRs_encI : fRs (encI op rd rs imm) = rs := by
  have := rs.isLt
  have := imm.isLt
  apply Fin.ext
  simp only [fRs, getF, encI, BitVec.toNat_ofNat, Nat.shiftRight_eq_div_pow, Fin.val_ofNat]
  omega

@[simp] theorem fRt_encI : fRt (encI op rd rs imm) = Fin.ofNat 16 (imm.toNat / 2 ^ 12) := by
  have := imm.isLt
  apply Fin.ext
  simp only [fRt, getF, encI, BitVec.toNat_ofNat, Nat.shiftRight_eq_div_pow, Fin.val_ofNat]
  omega

@[simp] theorem fImm_encI : fImm (encI op rd rs imm) = imm := by
  apply BitVec.eq_of_toNat_eq
  have := imm.isLt
  simp only [fImm, encI, BitVec.toNat_setWidth, BitVec.toNat_ofNat]
  omega

/-- Fields within the immediate are those of the immediate. -/
theorem getF_encI_low {lo len : Nat} (h : lo + len ≤ 16) : getF (encI op rd rs imm) lo len = getF imm lo len := by
  have e : fImm (encI op rd rs imm) = imm := fImm_encI op rd rs imm
  unfold getF
  apply Nat.eq_of_testBit_eq
  intro i
  by_cases hi : i < len
  · simp only [Nat.testBit_mod_two_pow, hi, decide_true, Bool.true_and, Nat.testBit_shiftRight]
    have bit := congrArg (fun b => b.getLsbD (lo + i)) e
    simp only [fImm, BitVec.getLsbD_setWidth, show lo + i < 16 by omega, decide_true, Bool.true_and] at bit
    exact bit
  · simp [Nat.testBit_mod_two_pow, hi]

end

/-- The bound of the immediate, as `TaskWf` gives it. -/
theorem immBound_of_wf {i : Instr} (h : TaskWf i = true) : (immBound i).2.toNat < (immBound i).1 := by
  simp only [TaskWf, Bool.and_eq_true, decide_eq_true_eq] at h
  exact h.1.2

/-- A word whose fields are those of form RI with these operands. -/
structure Spells (w : Word) (op : Nat) (rd rs : GReg) (imm : BitVec 16) : Prop where
  op' : fOp w = op
  rd' : fRd w = rd
  rs' : fRs w = rs
  imm' : fImm w = imm
  low : ∀ lo len, lo + len ≤ 16 → getF w lo len = getF imm lo len

theorem encI_spells {op : Nat} (h : op < 256) (rd rs : GReg) (imm : BitVec 16) : Spells (encI op rd rs imm) op rd rs imm :=
  ⟨fOp_encI _ _ _ _ h, fRd_encI .., fRs_encI .., fImm_encI .., fun _ _ => getF_encI_low _ _ _ _⟩

/-- No register and no immediate: bits [23:0] are 0. -/
theorem Spells.bare {w : Word} {op : Nat} (h : Spells w op 0 0 0) : getF w 0 24 = 0 := by
  have hd := congrArg Fin.val h.rd'
  have hs := congrArg Fin.val h.rs'
  have hi := congrArg BitVec.toNat h.imm'
  simp only [fRd, fRs, fImm, getF, Nat.shiftRight_eq_div_pow, Fin.val_ofNat, BitVec.toNat_setWidth, BitVec.ofNat_eq_ofNat,
    BitVec.toNat_ofNat, Fin.val_zero] at hd hs hi ⊢
  omega

/-- The immediate of a WAIT: bits [15:12] its kind, as the row's base says, and the rest its argument. -/
theorem waitFields_of_fImm {w : Word} {b : Nat} {arg : BitVec 12} (hi : fImm w = BitVec.ofNat 16 (b + arg.toNat))
    (hb : b % 4096 = 0 ∧ b < 65536) : getF w 12 4 = b / 4096 ∧ w.setWidth 12 = arg := by
  have := arg.isLt
  have h := congrArg BitVec.toNat hi
  simp only [fImm, BitVec.toNat_setWidth, BitVec.toNat_ofNat] at h
  refine ⟨?_, BitVec.eq_of_toNat_eq ?_⟩
  · simp only [getF, Nat.shiftRight_eq_div_pow]
    omega
  · simp only [BitVec.toNat_setWidth]
    omega

/-- A word whose fields are those of form RR with these operands, as the decoder reads it. -/
def SpellsRRR (w : Word) (op : Nat) (rd rs rt : GReg) : Prop :=
  fOp w = op ∧ getF w 0 12 = 0 ∧ fRd w = rd ∧ fRs w = rs ∧ fRt w = rt

theorem encR_spells {op : Nat} (h : op < 256) (rd rs rt : GReg) : SpellsRRR (encR op rd rs rt) op rd rs rt := by
  have := rt.isLt
  rw [encR_eq_encI]
  refine ⟨fOp_encI _ _ _ _ h, ?_, fRd_encI .., fRs_encI .., (fRt_encI ..).trans (Fin.ext ?_)⟩
  · rw [getF_encI_low _ _ _ _ (by decide)]
    simp only [getF, BitVec.toNat_ofNat, Nat.shiftRight_eq_div_pow]
    omega
  · simp only [BitVec.toNat_ofNat, Fin.val_ofNat]
    omega

section
variable {i : Instr} {x : Fin 128} {op : Nat} {rd rs rt : GReg} {imm : BitVec 16}

/-- An instruction of form RI decodes where every word with its fields does. -/
theorem decodeTask_of_encI (he : encodeTask i = encI op rd rs imm) (hop : op < 256)
    (h : ∀ w, Spells w op rd rs imm → decodeTask x w = i) : decodeTask x (encodeTask i) = i := by
  rw [he, h _ (encI_spells hop rd rs imm)]

/-- An instruction of form RR likewise. -/
theorem decodeTask_of_encR (he : encodeTask i = encR op rd rs rt) (hop : op < 256)
    (h : ∀ w, SpellsRRR w op rd rs rt → decodeTask x w = i) : decodeTask x (encodeTask i) = i := by
  rw [he, h _ (encR_spells hop rd rs rt)]

end

/-- Settles O21: each form of word by the fields that its encoding has, the context of the instruction being the reader's. -/
theorem taskWordsDecode : Obligations.TaskWordsDecode := by
  unfold Obligations.TaskWordsDecode
  intro i x hw hx
  have hb := immBound_of_wf hw
  cases i
  case add | sub | and | or | xor | shl | shr | sar | mul | mulh | mulhu | div | divu | min | max | tbl1 | tbl2 | blkcp | fill =>
    cases hx
    refine decodeTask_of_encR rfl (by decide) fun w hw => ?_
    obtain ⟨hop, low, rfl, rfl, rfl⟩ := hw
    rw [decodeTask, hop]
    exact if_pos low
  case cmp =>
    cases hx
    refine decodeTask_of_encR rfl (by decide) fun w hw => ?_
    obtain ⟨hop, low, hd, rfl, rfl⟩ := hw
    rw [decodeTask, hop]
    exact if_pos ⟨hd, low⟩
  case addi | andi | ori | xori | ldw | ldh | ldhu | ldb | ldbu | stw | sth | stb | regrd | regwr =>
    cases hx
    refine decodeTask_of_encI rfl (by decide) fun w hw => ?_
    obtain ⟨hop, rfl, rfl, rfl, -⟩ := hw
    rw [decodeTask, hop]
    rfl
  case shli | shri | sari | post | tilewr | portx =>
    cases hx
    refine decodeTask_of_encI rfl (by decide) fun w hw => ?_
    obtain ⟨hop, rfl, rfl, rfl, -⟩ := hw
    rw [decodeTask, hop]
    exact if_pos hb
  case mfs | lock =>
    cases hx
    refine decodeTask_of_encI rfl (by decide) fun w hw => ?_
    obtain ⟨hop, rfl, hs, rfl, -⟩ := hw
    rw [decodeTask, hop]
    exact if_pos ⟨hs, hb⟩
  case mts | commit =>
    cases hx
    refine decodeTask_of_encI rfl (by decide) fun w hw => ?_
    obtain ⟨hop, hd, rfl, rfl, -⟩ := hw
    rw [decodeTask, hop]
    exact if_pos ⟨hd, hb⟩
  case unlock =>
    cases hx
    refine decodeTask_of_encI rfl (by decide) fun w hw => ?_
    obtain ⟨hop, hd, hs, rfl, -⟩ := hw
    rw [decodeTask, hop]
    exact if_pos ⟨hd, hs, hb⟩
  case cmpi =>
    cases hx
    refine decodeTask_of_encI rfl (by decide) fun w hw => ?_
    obtain ⟨hop, hd, rfl, rfl, -⟩ := hw
    rw [decodeTask, hop]
    exact if_pos hd
  case movi | movhi =>
    cases hx
    refine decodeTask_of_encI rfl (by decide) fun w hw => ?_
    obtain ⟨hop, rfl, hs, rfl, -⟩ := hw
    rw [decodeTask, hop]
    exact if_pos hs
  case mov | arm | log | cancel =>
    cases hx
    refine decodeTask_of_encI rfl (by decide) fun w hw => ?_
    obtain ⟨hop, rfl, rfl, hi, -⟩ := hw
    rw [decodeTask, hop]
    exact if_pos hi
  case cancelFlush =>
    cases hx
    refine decodeTask_of_encI rfl (by decide) fun w hw => ?_
    obtain ⟨hop, rfl, rfl, hi, -⟩ := hw
    rw [decodeTask, hop]
    exact (if_neg (by rw [hi]; decide)).trans (if_pos hi)
  case push | pop =>
    cases hx
    refine decodeTask_of_encI rfl (by decide) fun w hw => ?_
    obtain ⟨hop, rfl, hs, hi, -⟩ := hw
    rw [decodeTask, hop]
    exact if_pos ⟨hs, hi⟩
  case jr | callr =>
    cases hx
    refine decodeTask_of_encI rfl (by decide) fun w hw => ?_
    obtain ⟨hop, hd, rfl, hi, -⟩ := hw
    rw [decodeTask, hop]
    exact if_pos ⟨hd, hi⟩
  case b | beq | bne | blt | bge | bltu | bgeu | call =>
    cases hx
    refine decodeTask_of_encI rfl (by decide) fun w hw => ?_
    obtain ⟨hop, hd, hs, rfl, -⟩ := hw
    rw [decodeTask, hop]
    exact if_pos ⟨hd, hs⟩
  case ret | yield | endTask | rete =>
    cases hx
    refine decodeTask_of_encI rfl (by decide) fun w hw => ?_
    rw [decodeTask, hw.op']
    exact if_pos hw.bare
  case trapCmd | trapInfo | trapLower | trapLimit =>
    cases hx
    refine decodeTask_of_encI rfl (by decide) fun w hw => ?_
    obtain ⟨hop, hd, hs, hi, -⟩ := hw
    rw [decodeTask, hop]
    refine (if_pos ⟨hd, hs⟩).trans ?_
    rw [hi]
    rfl
  case trapUnknown =>
    simp only [TaskWf, Bool.and_eq_true, Bool.not_eq_true', Bool.or_eq_false_iff, beq_eq_false_iff_ne] at hw
    cases hx
    refine decodeTask_of_encI rfl (by decide) fun w hw => ?_
    obtain ⟨hop, hd, hs, rfl, -⟩ := hw
    rw [decodeTask, hop]
    refine (if_pos ⟨hd, hs⟩).trans ?_
    split <;> simp_all
  case waitTime | waitDelay | waitAngle | waitEvent | waitMbox | waitLock =>
    cases hx
    refine decodeTask_of_encI rfl (by decide) fun w hw => ?_
    obtain ⟨hop, rfl, rfl, hi, -⟩ := hw
    obtain ⟨kind, rfl⟩ := waitFields_of_fImm hi (by decide)
    rw [decodeTask, hop, kind]
    rfl
  case mboxSend | mboxRecv | mboxPeek =>
    simp only [TaskWf, Bool.and_eq_true, beq_iff_eq] at hw
    cases hx
    obtain ⟨-, kind⟩ := hw
    refine decodeTask_of_encI rfl (by decide) fun w hw => ?_
    obtain ⟨hop, rfl, rfl, rfl, low⟩ := hw
    rw [decodeTask, hop, low 14 2 (by decide), kind]
    rfl
  case illegal =>
    cases hx
    simp only [TaskWf, Bool.and_eq_true, beq_iff_eq] at hw
    exact hw.2
  all_goals cases hx

end Sys2Proof
end

section
/-! PROOFS. What lasts from step to step: the queue, the fuses and the canonical form of the memories (R1, R170, 95). Each operation
of the model has one lemma here, with its name: it leaves the queue and the fuses, and a memory in its canonical form in it. -/

namespace Sys2Proof.Machine

set_option Elab.async false

/-- From s to t the queue and the fuses stay, and memories in their canonical form stay in it. -/
structure State.lasts (s t : State) : Prop where
  pending : t.pending = s.pending
  variant : t.variant = s.variant
  ownerKey : t.ownerKey = s.ownerKey
  ownerSign : t.ownerSign = s.ownerSign
  wf : s.memsWf = true → t.memsWf = true

theorem State.memsWf_iff (s : State) : s.memsWf = true ↔ Memory.wf s.taskMem = true ∧ Memory.wf s.hostMem = true ∧
    Memory.wf s.logMem = true ∧ Memory.wf s.scratch = true := by
  simp only [State.memsWf, Bool.and_eq_true, and_assoc]

namespace State.lasts

/-! ## How changes are put together -/

theorem refl (s : State) : s.lasts s := ⟨rfl, rfl, rfl, rfl, id⟩

theorem trans {s t u : State} (h : s.lasts t) (h' : t.lasts u) : s.lasts u :=
  ⟨h'.pending.trans h.pending, h'.variant.trans h.variant, h'.ownerKey.trans h.ownerKey, h'.ownerSign.trans h.ownerSign,
    h'.wf ∘ h.wf⟩

variable {s₀ s u : State}

/-- A change of the memories that keeps their canonical form. -/
theorem memWrite (h : s₀.lasts s) (ht : Memory.wf s.taskMem = true → Memory.wf u.taskMem = true)
    (hh : Memory.wf s.hostMem = true → Memory.wf u.hostMem = true) (hl : Memory.wf s.logMem = true → Memory.wf u.logMem = true)
    (hs : Memory.wf s.scratch = true → Memory.wf u.scratch = true) (hp : u.pending = s.pending := by rfl)
    (hv : u.variant = s.variant := by rfl) (hk : u.ownerKey = s.ownerKey := by rfl)
    (hg : u.ownerSign = s.ownerSign := by rfl) : s₀.lasts u :=
  h.trans ⟨hp, hv, hk, hg, fun hw => by
    rw [State.memsWf_iff] at hw ⊢
    obtain ⟨wt, wh, wl, ws⟩ := hw
    exact ⟨ht wt, hh wh, hl wl, hs ws⟩⟩

/-- A change of other fields. -/
theorem put (h : s₀.lasts s) (hp : u.pending = s.pending := by rfl) (hv : u.variant = s.variant := by rfl)
    (hk : u.ownerKey = s.ownerKey := by rfl) (hg : u.ownerSign = s.ownerSign := by rfl)
    (hm : u.memsWf = s.memsWf := by rfl) : s₀.lasts u :=
  h.trans ⟨hp, hv, hk, hg, fun hw => hm.trans hw⟩

theorem ite {p : Prop} [Decidable p] (h : s₀.lasts s) (h' : s₀.lasts u) : s₀.lasts (if p then s else u) := by
  split
  · exact h
  · exact h'

/-- The same for the state that comes with an answer. -/
theorem ite2 {α : Type} {p : Prop} [Decidable p] {a b : α × State} (h : s₀.lasts a.2) (h' : s₀.lasts b.2) :
    s₀.lasts (if p then a else b).2 := by
  split
  · exact h
  · exact h'

theorem dite {p : Prop} [Decidable p] {a : p → State} {b : ¬p → State} (ha : ∀ hp, s₀.lasts (a hp)) (hb : ∀ hp, s₀.lasts (b hp)) :
    s₀.lasts (if hp : p then a hp else b hp) := by
  split
  · exact ha _
  · exact hb _

section
variable (h₀ : s₀.lasts s)
include h₀

theorem foldl {α : Type} {f : State → α → State} {l : List α} (hf : ∀ t a, s₀.lasts t → s₀.lasts (f t a)) :
    s₀.lasts (l.foldl f s) := by
  induction l generalizing s with
  | nil => exact h₀
  | cons a r ih => exact ih (hf s a h₀)

/-- A fold over states that come with a value. -/
theorem foldl2 {α β : Type} {f : β × State → α → β × State} {l : List α} {b : β}
    (hf : ∀ p a, s₀.lasts p.2 → s₀.lasts (f p a).2) : s₀.lasts (l.foldl f (b, s)).2 := by
  generalize hp : (b, s) = p
  replace h₀ : s₀.lasts p.2 := hp ▸ h₀
  clear hp
  induction l generalizing p with
  | nil => exact h₀
  | cons a l ih => exact ih (f p a) (hf p a h₀)

/-- The state beside an answer. -/
theorem beside {α : Type} {a : α} : s₀.lasts (a, s).2 := h₀

theorem putTask {a : Nat} {ws : List Word} : s₀.lasts { s with taskMem := s.taskMem.putWords a ws } :=
  .memWrite h₀ (Memory.wf_putWords _ _ _) id id id
theorem putHost {a : Nat} {w : Word} : s₀.lasts { s with hostMem := s.hostMem.putWord a w } :=
  .memWrite h₀ id (Memory.wf_putWord _ _ _) id id

/-! ## Single fields -/

theorem put_afterMark_logRecs_logLast {a b c} : s₀.lasts { s with afterMark := a, logRecs := b, logLast := c } := .put h₀
theorem put_afterMark_markSeq {a b} : s₀.lasts { s with afterMark := a, markSeq := b } := .put h₀
theorem put_aoAt {a} : s₀.lasts { s with aoAt := a } := .put h₀
theorem put_aoEntry_hostLink {a b} : s₀.lasts { s with aoEntry := a, hostLink := b } := .put h₀
theorem put_aoRem {a} : s₀.lasts { s with aoRem := a } := .put h₀
theorem put_badScript {a} : s₀.lasts { s with badScript := a } := .put h₀
theorem put_badTm {a} : s₀.lasts { s with badTm := a } := .put h₀
theorem put_calTurn {a} : s₀.lasts { s with calTurn := a } := .put h₀
theorem put_clockStop {a} : s₀.lasts { s with clockStop := a } := .put h₀
theorem put_clrStrat {a} : s₀.lasts { s with clrStrat := a } := .put h₀
theorem put_coastAt {a} : s₀.lasts { s with coastAt := a } := .put h₀
theorem put_cycleAt_patchEnd {a b} : s₀.lasts { s with cycleAt := a, patchEnd := b } := .put h₀
theorem put_dmaLast {a} : s₀.lasts { s with dmaLast := a } := .put h₀
theorem put_edges {a} : s₀.lasts { s with edges := a } := .put h₀
theorem put_epUp {a} : s₀.lasts { s with epUp := a } := .put h₀
theorem put_fltTotal {a} : s₀.lasts { s with fltTotal := a } := .put h₀
theorem put_folMiss {a} : s₀.lasts { s with folMiss := a } := .put h₀
theorem put_freeCtr {a} : s₀.lasts { s with freeCtr := a } := .put h₀
theorem put_goAt {a} : s₀.lasts { s with goAt := a } := .put h₀
theorem put_golden {a} : s₀.lasts { s with golden := a } := .put h₀
theorem put_goldenDispatch {a} : s₀.lasts { s with goldenDispatch := a } := .put h₀
theorem put_goldenLost {a} : s₀.lasts { s with goldenLost := a } := .put h₀
theorem put_imageDigest {a} : s₀.lasts { s with imageDigest := a } := .put h₀
theorem put_lastIssue_cycleAt {a b} : s₀.lasts { s with lastIssue := a, cycleAt := b } := .put h₀
theorem put_logRecs {a} : s₀.lasts { s with logRecs := a } := .put h₀
theorem put_mgmtOut {a} : s₀.lasts { s with mgmtOut := a } := .put h₀
theorem put_offers {a} : s₀.lasts { s with offers := a } := .put h₀
theorem put_pwrReq {a} : s₀.lasts { s with pwrReq := a } := .put h₀
theorem put_readHi {a} : s₀.lasts { s with readHi := a } := .put h₀
theorem put_slew {a} : s₀.lasts { s with slew := a } := .put h₀
theorem put_startWait {a} : s₀.lasts { s with startWait := a } := .put h₀
theorem put_startWait_feedAt_epUp {a b c} : s₀.lasts { s with startWait := a, feedAt := b, epUp := c } := .put h₀
theorem put_stopAt {a} : s₀.lasts { s with stopAt := a } := .put h₀
theorem put_stray_switching_spares {a b c} : s₀.lasts { s with stray := a, switching := b, spares := c } := .put h₀
theorem put_subsys {a} : s₀.lasts { s with subsys := a } := .put h₀
theorem put_switching {a} : s₀.lasts { s with switching := a } := .put h₀
theorem put_takenBy {a} : s₀.lasts { s with takenBy := a } := .put h₀
theorem put_takenBy_doneAt {a b} : s₀.lasts { s with takenBy := a, doneAt := b } := .put h₀
theorem put_trimmed {a} : s₀.lasts { s with trimmed := a } := .put h₀
theorem put_unsensed {a} : s₀.lasts { s with unsensed := a } := .put h₀
theorem put_wakePin {a} : s₀.lasts { s with wakePin := a } := .put h₀
theorem put_waking {a} : s₀.lasts { s with waking := a } := .put h₀
theorem put_waking_wakePin {a b} : s₀.lasts { s with waking := a, wakePin := b } := .put h₀
theorem put_admits {a} : s₀.lasts { s with admits := a } := .put h₀
theorem put_calAnswer {a} : s₀.lasts { s with calAnswer := a } := .put h₀
theorem put_heldChecks {a} : s₀.lasts { s with heldChecks := a } := .put h₀
theorem put_hostLink {a} : s₀.lasts { s with hostLink := a } := .put h₀
theorem put_logQ {a} : s₀.lasts { s with logQ := a } := .put h₀
theorem put_msixOn_msixMask {a b} : s₀.lasts { s with msixOn := a, msixMask := b } := .put h₀
theorem put_msixOn_msixMask_hostLink_d3hot {a b c d} : s₀.lasts { s with msixOn := a, msixMask := b, hostLink := c, d3hot := d } := .put h₀
theorem put_parked {a} : s₀.lasts { s with parked := a } := .put h₀
theorem put_passCorr {a} : s₀.lasts { s with passCorr := a } := .put h₀
theorem put_scrubPos {a} : s₀.lasts { s with scrubPos := a } := .put h₀
theorem put_settledAt {a} : s₀.lasts { s with settledAt := a } := .put h₀
theorem put_spares {a} : s₀.lasts { s with spares := a } := .put h₀
theorem put_unsettled {a} : s₀.lasts { s with unsettled := a } := .put h₀
theorem put_slockQ {a} : s₀.lasts { s with slockQ := a } := .put h₀

/-! ## The operations of the model -/

theorem wr {n : RegName} {w : Word} {i : Nat} {j : Nat} : s₀.lasts (s.wr n w i j) := by
  unfold State.wr
  exact .put h₀
theorem setFld {n : RegName} {lo len v : Nat} {i : Nat} {j : Nat} : s₀.lasts (s.setFld n lo len v i j) := by
  unfold State.setFld
  exact .wr h₀
theorem setFlag {n : RegName} {b : Nat} {v : Bool} {i : Nat} {j : Nat} : s₀.lasts (s.setFlag n b v i j) := by
  unfold State.setFlag
  exact .wr h₀
theorem bump {n : RegName} {lo len : Nat} {i : Nat} {j : Nat} {k : Nat} : s₀.lasts (s.bump n lo len i j k) := by
  unfold State.bump
  exact .wr h₀
theorem bumpW {n : RegName} {lo len : Nat} {i : Nat} {j : Nat} {k : Nat} : s₀.lasts (s.bumpW n lo len i j k) := by
  unfold State.bumpW
  exact .setFld h₀
theorem clr {n : RegName} {i : Nat} {j : Nat} : s₀.lasts (s.clr n i j) := by
  unfold State.clr
  exact .wr h₀
theorem each {l : List Nat} {f : State → Nat → State} (hf : ∀ t a, s₀.lasts t → s₀.lasts (f t a)) : s₀.lasts (s.each l f) := by
  unfold State.each
  exact .foldl h₀ fun _ _ h1 => hf _ _ h1
theorem when {b : Bool} {f : State → State} (hf : ∀ t, s₀.lasts t → s₀.lasts (f t)) : s₀.lasts (s.when b f) := by
  unfold State.when
  exact .ite (hf _ h₀) h₀
theorem reach {ts : Stamp} : s₀.lasts (s.reach ts) := by
  unfold State.reach
  exact .put h₀
theorem setAhead {i : Nat} {d : Int} : s₀.lasts (s.setAhead i d) := by
  unfold State.setAhead
  exact .put h₀
theorem reachIn {i : Nat} {ts : Stamp} : s₀.lasts (s.reachIn i ts) := by
  unfold State.reachIn
  exact .reach h₀
theorem tick : s₀.lasts s.tick := by
  unfold State.tick
  exact .ite (.reach h₀) (.ite (.put_slew (.reach h₀)) (.reach h₀))
theorem stepTo {t : Stamp} : s₀.lasts (s.stepTo t) := by
  unfold State.stepTo
  exact .put h₀
theorem touch {e : Nat} : s₀.lasts (s.touch e) := by
  unfold State.touch
  exact .put h₀
theorem wakeUp : s₀.lasts s.wakeUp := by
  unfold State.wakeUp
  exact .ite (.put h₀) h₀
theorem drawn : s₀.lasts s.drawn := by
  unfold State.drawn
  exact .put h₀
theorem setChan {g : Nat} {c : Chan} : s₀.lasts (s.setChan g c) := by
  unfold State.setChan
  exact .put h₀
theorem onChan {g : Nat} {f : Chan → Chan} : s₀.lasts (s.onChan g f) := by
  unfold State.onChan
  exact .setChan h₀
theorem setBridge {b : Nat} {x : Bridge} : s₀.lasts (s.setBridge b x) := by
  unfold State.setBridge
  exact .put h₀
theorem setTrip {k : Nat} {x : TripIn} : s₀.lasts (s.setTrip k x) := by
  unfold State.setTrip
  exact .put h₀
theorem setSlotX {k : Nat} {x : SlotX} : s₀.lasts (s.setSlotX k x) := by
  unfold State.setSlotX
  exact .put h₀
theorem setFol {k : Nat} {x : Traj} : s₀.lasts (s.setFol k x) := by
  unfold State.setFol
  exact .put h₀
theorem setDom {d : Nat} {x : Dom} : s₀.lasts (s.setDom d x) := by
  unfold State.setDom
  exact .put h₀
theorem onDom {d : Nat} {f : Dom → Dom} : s₀.lasts (s.onDom d f) := by
  unfold State.onDom
  exact .setDom h₀
theorem setEntry {e : Nat} {x : Entry} : s₀.lasts (s.setEntry e x) := by
  unfold State.setEntry
  exact .put h₀
theorem onEntry {e : Nat} {f : Entry → Entry} : s₀.lasts (s.onEntry e f) := by
  unfold State.onEntry
  exact .setEntry h₀
theorem setLatch {m : Nat} {w : Word} : s₀.lasts (s.setLatch m w) := by
  unfold State.setLatch
  exact .put h₀
theorem setRead {m : Nat} {w : Word} : s₀.lasts (s.setRead m w) := by
  unfold State.setRead
  exact .put h₀
theorem setEdges {c : Nat} {l : List (Stamp × Bool)} : s₀.lasts (s.setEdges c l) := by
  unfold State.setEdges
  exact .put h₀
theorem setReplies {c : Nat} {l : List (List Word)} : s₀.lasts (s.setReplies c l) := by
  unfold State.setReplies
  exact .put h₀
theorem setCtx {x : Nat} {c : Ctx} : s₀.lasts (s.setCtx x c) := by
  unfold State.setCtx
  exact .put h₀
theorem onCtx {x : Nat} {f : Ctx → Ctx} : s₀.lasts (s.onCtx x f) := by
  unfold State.onCtx
  exact .setCtx h₀
theorem setG {x : Nat} {r : GReg} {w : Word} : s₀.lasts (s.setG x r w) := by
  unfold State.setG
  exact .put h₀
theorem setLink {k : Nat} {l : Link} : s₀.lasts (s.setLink k l) := by
  unfold State.setLink
  exact .put h₀
theorem onLink {k : Nat} {f : Link → Link} : s₀.lasts (s.onLink k f) := by
  unfold State.onLink
  exact .setLink h₀
theorem setRoute {dev : Nat} {k : Option Nat} : s₀.lasts (s.setRoute dev k) := by
  unfold State.setRoute
  exact .put h₀
theorem setSig {k : Nat} {x : SigX} : s₀.lasts (s.setSig k x) := by
  unfold State.setSig
  exact .put h₀
theorem onSig {k : Nat} {f : SigX → SigX} : s₀.lasts (s.onSig k f) := by
  unfold State.onSig
  exact .setSig h₀
theorem setPort {p : Nat} {x : PortX} : s₀.lasts (s.setPort p x) := by
  unfold State.setPort
  exact .put h₀
theorem onPort {p : Nat} {f : PortX → PortX} : s₀.lasts (s.onPort p f) := by
  unfold State.onPort
  exact .setPort h₀
theorem keepEvent {src sel : Nat} {value aux : Word} : s₀.lasts (s.keepEvent src sel value aux) := by
  unfold State.keepEvent
  exact .put h₀
theorem offer {src sel : Nat} {value aux : Word} {ts : Stamp} : s₀.lasts (s.offer src sel value aux ts) := by
  unfold State.offer
  exact .ite (.keepEvent h₀) (.put_offers (.keepEvent h₀))
theorem setCr {n : RegName} {w : Word} {x : Nat} : s₀.lasts (s.setCr n w x) := by
  unfold State.setCr
  exact .wr h₀
theorem setCf {n : RegName} {lo len v x : Nat} : s₀.lasts (s.setCf n lo len v x) := by
  unfold State.setCf
  exact .setFld h₀
theorem setCtxState {x v : Nat} : s₀.lasts (s.setCtxState x v) := by
  unfold State.setCtxState
  exact .touch (.setCf h₀)
theorem healTm {a : Nat} : s₀.lasts (s.healTm a) := by
  unfold State.healTm
  exact .put h₀
theorem setTm {a : Nat} {w : Word} : s₀.lasts (s.setTm a w) := by
  unfold State.setTm
  have h := h₀.memWrite (u := { s with taskMem := s.taskMem.putWord a w }) (Memory.wf_putWord _ _ _) id id id
  exact .healTm h
theorem setPaused {u : Nat} {b : Bool} : s₀.lasts (s.setPaused u b) := by
  unfold State.setPaused
  exact .put h₀
theorem setFailed {u : Nat} : s₀.lasts (s.setFailed u) := by
  unfold State.setFailed
  exact .put h₀
theorem countVector {v : Nat} : s₀.lasts (s.countVector v) := by
  unfold State.countVector
  exact .ite (.put_wakePin (.when (.bump (.ite (.put h₀) h₀)) (fun _ h1 => .setFlag h1))) (.when (.bump (.ite (.put h₀) h₀))
    (fun _ h1 => .setFlag h1))
theorem raise {n : Nat} : s₀.lasts (s.raise n) := by
  unfold State.raise
  exact .ite h₀ (.ite (.when (.setFlag h₀) (fun _ h1 => .wakeUp h1)) (.ite (.when (.countVector (.ite (.bumpW (.when (.setFlag
    h₀) (fun _ h1 => .wakeUp h1))) (.when (.setFlag h₀) (fun _ h1 => .wakeUp h1)))) (fun _ h1 => .setFlag h1)) (.ite (.bumpW
    (.when (.setFlag h₀) (fun _ h1 => .wakeUp h1))) (.when (.setFlag h₀) (fun _ h1 => .wakeUp h1)))))
theorem raisePrv {e p : Nat} : s₀.lasts (s.raisePrv e p) := by
  unfold State.raisePrv
  exact .ite (.when (.setFlag h₀) (fun _ h1 => .wakeUp h1)) h₀
theorem event {evt ien : RegName} {b src : Nat} {i : Nat} : s₀.lasts (s.event evt ien b src i) := by
  unfold State.event
  exact .when (.setFlag h₀) (fun _ h1 => .raise h1)
theorem leaveHeld {t : Nat} : s₀.lasts (s.leaveHeld t) := by
  unfold State.leaveHeld
  exact .each (.each h₀ (fun _ _ h1 => .setFlag h1)) (fun _ _ h1 => .setFlag h1)
theorem withUnits {us : List Nat} {f : State → State} (hf : ∀ t, s₀.lasts t → s₀.lasts (f t)) : s₀.lasts (s.withUnits us f) :=
    by
  unfold State.withUnits
  exact .foldl (.each (hf _ h₀) (fun _ _ h1 => .leaveHeld h1)) fun _ _ h1 => .ite h1 (.raise h1)
theorem withUnit {u : Nat} {f : State → State} (hf : ∀ t, s₀.lasts t → s₀.lasts (f t)) : s₀.lasts (s.withUnit u f) := by
  unfold State.withUnit
  exact .withUnits h₀ (fun _ h1 => hf _ h1)
theorem accErr {m : Master} {off : Nat} {r : AccReason} : s₀.lasts (s.accErr m off r) := by
  unfold State.accErr
  refine .raise (.wr (.wr ?_))
  split
  all_goals exact .bumpW h₀
theorem post {x : Nat} {value tag : Word} : s₀.lasts (s.post x value tag) := by
  unfold State.post
  exact .ite (.onCtx h₀) (.bump h₀)
theorem sendOn {k : Nat} {f : MFrame} : s₀.lasts (s.sendOn k f) := by
  unfold State.sendOn
  exact .onLink h₀
theorem mlRoute {f : MFrame} {frm : Option Nat} : s₀.lasts (s.mlRoute f frm) := by
  unfold State.mlRoute
  split
  · have h := h₀.each (l := s.downlinks.filter (fun k => frm ≠ some k)) (f := fun s k => s.sendOn k f) fun _ _ h1 => .sendOn h1
    dsimp only
    split
    · exact .ite h (.sendOn h)
    · exact h
  · split
    · exact .sendOn h₀
    · exact .ite (.put h₀) (.bump h₀)
theorem mlSend {ty dst : Nat} {bcast : Bool} {payload : List Word} : s₀.lasts (s.mlSend ty dst bcast payload) := by
  unfold State.mlSend
  exact .ite (.mlRoute h₀) (.ite (.put h₀) h₀)
theorem fltEvent {b : Nat} : s₀.lasts (s.fltEvent b) := by
  unfold State.fltEvent
  exact .event h₀
theorem fltRefresh : s₀.lasts s.fltRefresh := by
  unfold State.fltRefresh
  exact .setFlag (.setFlag (.setFld h₀))
theorem fault {kind unit phys : Nat} {failure : Bool} {ns : Nat} {a b : Word} {found : Option Stamp} : s₀.lasts (s.fault kind
    unit phys failure ns a b found) := by
  unfold State.fault
  exact .mlSend (.when (.ite (.fltEvent (.fltRefresh (.when (.wr (.put_fltTotal (.foldl h₀ fun _ _ h1 => .wr h1))) (fun _ h1 =>
    .bump h1)))) (.ite (.fltRefresh (.when (.wr (.put_fltTotal (.foldl h₀ fun _ _ h1 => .wr h1))) (fun _ h1 => .bump h1)))
    (.fltEvent (.fltRefresh (.when (.wr (.put_fltTotal (.foldl h₀ fun _ _ h1 => .wr h1))) (fun _ h1 => .bump h1)))))) (fun _
    h1 => .fltEvent h1))
theorem lostWord {unit code idx : Nat} : s₀.lasts (s.lostWord unit code idx) := by
  unfold State.lostWord
  exact .fault (.bump h₀)
theorem closePads {ps : List Nat} : s₀.lasts (s.closePads ps) := by
  unfold State.closePads
  exact .put h₀
theorem stillPins {t : Nat} : s₀.lasts (s.stillPins t) := by
  unfold State.stillPins
  exact .each h₀ (fun _ _ h1 => .put h1)
theorem freePins {ps : List Nat} : s₀.lasts (s.freePins ps) := by
  unfold State.freePins
  exact .each h₀ (fun _ _ h1 => .put h1)
theorem openPads {ps : List Nat} : s₀.lasts (s.openPads ps) := by
  unfold State.openPads
  exact .put h₀
theorem dropWrite {m : Master} {u : Nat} {k : RegKey} {r : AccReason} : s₀.lasts (s.dropWrite m u k r) := by
  unfold State.dropWrite
  split
  · exact .bump h₀
  · exact .accErr (.bump h₀)
  · exact .accErr (.bump h₀)
  · exact .accErr h₀
theorem powerUpCourse {k : Nat} : s₀.lasts (s.powerUpCourse k) := by
  unfold State.powerUpCourse
  exact .ite h₀ (.withUnits (.wakeUp h₀) (fun _ h1 => .openPads (.bumpW (.setFlag (.setFlag (.each h1 (fun _ _ h2 => .setAhead
    h2)))))))
theorem wakeIsland {b : Nat} : s₀.lasts (s.wakeIsland b) := by
  unfold State.wakeIsland
  exact .ite (.bumpW (.setFlag (.wakeUp h₀))) h₀
theorem wakeFor {u : Nat} : s₀.lasts (s.wakeFor u) := by
  unfold State.wakeFor
  exact .ite (.powerUpCourse h₀) (.ite (.wakeIsland h₀) (.ite (.wakeIsland h₀) (.ite (.wakeIsland h₀) (.ite (.powerUpCourse h₀)
    h₀))))
theorem gate {m : Master} {n : RegName} {i j : Nat} {f : State → State} (hf : ∀ t, s₀.lasts t → s₀.lasts (f t)) : s₀.lasts
    (s.gate m n i j f) := by
  unfold State.gate
  refine .ite h₀ ?_
  dsimp only
  split
  · exact .dropWrite (.wakeFor h₀)
  · exact hf _ (.wakeFor h₀)
theorem onBus {f : State → State} (hf : ∀ t, s₀.lasts t → s₀.lasts (f t)) : s₀.lasts (s.onBus f) := by
  unfold State.onBus
  exact .ite h₀ (hf _ (.tick h₀))
theorem access {m : Master} {n : RegName} {i j : Nat} {f : State → State} (hf : ∀ t, s₀.lasts t → s₀.lasts (f t)) : s₀.lasts
    (s.access m n i j f) := by
  unfold State.access
  exact .onBus h₀ (fun _ h1 => .gate h1 (fun _ h2 => hf _ h2))
theorem happens {i : Nat} {ts : Stamp} {ok : State → Bool} {f : State → State} (hf : ∀ t, s₀.lasts t → s₀.lasts (f t)) :
    s₀.lasts (s.happens i ts ok f) := by
  unfold State.happens
  exact .ite (hf _ (.reachIn h₀)) (.reachIn h₀)
theorem lockPll {ts : Stamp} : s₀.lasts (s.lockPll ts) := by
  unfold State.lockPll
  exact .ite (.reach h₀) (.reach (.setFlag (.setFlag h₀)))
theorem loadCopy {i : Nat} : s₀.lasts (s.loadCopy i) := by
  unfold State.loadCopy
  exact .setAhead h₀
theorem markStray {i : Nat} {d : Int} : s₀.lasts (s.markStray i d) := by
  unfold State.markStray
  exact .ite h₀ (.put h₀)
theorem judgeCopy {i : Nat} {d : Int} : s₀.lasts (s.judgeCopy i d) := by
  unfold State.judgeCopy
  exact .markStray (.setFlag (.setFld (.setFld (.when (.setFld h₀) (fun _ h1 => .setAhead (.bump h1))))))
theorem launch {t c : Nat} {e : Stamp} : s₀.lasts (s.launch t c e) := by
  unfold State.launch
  exact .each h₀ (fun _ _ h1 => .put h1)
theorem setHoldover {b : Bool} : s₀.lasts (s.setHoldover b) := by
  unfold State.setHoldover
  exact .setFlag (.setFlag (.setFlag h₀))
theorem clrDroneStats : s₀.lasts s.clrDroneStats := by
  unfold State.clrDroneStats
  exact .each (.each (.setFld h₀) (fun _ _ h1 => .setFld (.setFld h1))) (fun _ _ h1 => .setFld h1)
theorem withSum {t : Nat} {f : State → State} (hf : ∀ t, s₀.lasts t → s₀.lasts (f t)) : s₀.lasts (s.withSum t f) := by
  unfold State.withSum
  exact .ite (.raise (hf _ h₀)) (hf _ h₀)
theorem chDrop {t c : Nat} : s₀.lasts (s.chDrop t c) := by
  unfold State.chDrop
  exact .bump (.setFlag h₀)
theorem noteCourse {t : Nat} : s₀.lasts (s.noteCourse t) := by
  unfold State.noteCourse
  exact .put h₀
theorem setRun {t c : Nat} {b : Bool} : s₀.lasts (s.setRun t c b) := by
  unfold State.setRun
  exact .noteCourse (.withUnit h₀ (fun _ h1 => .each h1 (fun _ _ h2 => .setFlag h2)))
theorem setWide {n : RegName} {v t c : Nat} : s₀.lasts (s.setWide n v t c) := by
  unfold State.setWide
  exact .ite (.wr (.wr h₀)) (.wr h₀)
theorem blank {t c : Nat} {e : Stamp} : s₀.lasts (s.blank t c e) := by
  unfold State.blank
  exact .each (.launch h₀) (fun _ _ h1 => .ite (.setTrip h1) h1)
theorem setSide {t p : Nat} {high on : Bool} {e : Stamp} : s₀.lasts (s.setSide t p high on e) := by
  unfold State.setSide
  exact .ite h₀ (.blank (.setFlag h₀))
theorem absent {t p : Nat} {high : Bool} : s₀.lasts (s.absent t p high) := by
  unfold State.absent
  exact .bump h₀
theorem bridgeStart {t p : Nat} {e : Stamp} : s₀.lasts (s.bridgeStart t p e) := by
  unfold State.bridgeStart
  exact .setBridge (.setSide (.setSide h₀))
theorem bridgeStop {t p : Nat} {e : Stamp} : s₀.lasts (s.bridgeStop t p e) := by
  unfold State.bridgeStop
  exact .setBridge (.setSide (.setSide h₀))
theorem endTripHold {t p : Nat} : s₀.lasts (s.endTripHold t p) := by
  unfold State.endTripHold
  exact .onChan (.onChan h₀)
theorem bridgeEdge {t p : Nat} {up : Bool} {e : Stamp} : s₀.lasts (s.bridgeEdge t p up e) := by
  unfold State.bridgeEdge
  refine .ite (.bridgeStart (.endTripHold h₀)) (.ite (.setBridge ?_) (.ite (.ite (.setBridge ?_) (.setBridge (.setSide ?_)))
    (.setBridge ?_)))
  · split
    · exact h₀
    · exact .ite h₀ (.ite (.setSide (.setBridge h₀)) (.absent h₀))
  · split
    · exact h₀
    · exact .ite h₀ (.ite (.setSide (.setBridge h₀)) (.absent h₀))
  · split
    · exact h₀
    · exact .ite h₀ (.ite (.setSide (.setBridge h₀)) (.absent h₀))
  · split
    · exact h₀
    · exact .ite h₀ (.ite (.setSide (.setBridge h₀)) (.absent h₀))
theorem drive {t c n rank act fine : Nat} {base : Option Bool} : s₀.lasts (s.drive t c n rank act fine base) := by
  unfold State.drive
  refine .ite ?_ ?_
  · dsimp only
    split
    · exact .bridgeEdge (.setChan h₀)
    · exact .setChan h₀
  · dsimp only
    split
    · exact .blank (.setChan h₀)
    · exact .setChan h₀
theorem copySet {t c : Nat} : s₀.lasts (s.copySet t c) := by
  unfold State.copySet
  exact .ite (.setBridge (.ite (.wr (.setWide (.ite (.wr (.setWide (.wr (.wr (.setWide (.setWide (.setWide h₀))))))) (.wr (.wr
    (.setWide (.setWide (.setWide h₀)))))))) (.ite (.wr (.setWide (.wr (.wr (.setWide (.setWide (.setWide h₀))))))) (.wr (.wr
    (.setWide (.setWide (.setWide h₀)))))))) (.ite (.wr (.setWide (.ite (.wr (.setWide (.wr (.wr (.setWide (.setWide (.setWide
    h₀))))))) (.wr (.wr (.setWide (.setWide (.setWide h₀)))))))) (.ite (.wr (.setWide (.wr (.wr (.setWide (.setWide (.setWide
    h₀))))))) (.wr (.wr (.setWide (.setWide (.setWide h₀)))))))
theorem handOver {t c r : Nat} : s₀.lasts (s.handOver t c r) := by
  unfold State.handOver
  exact .ite (.ite (.ite (.bridgeStart (.endTripHold h₀)) h₀) (.onChan h₀)) (.ite (.chDrop (.setFlag (.ite (.ite (.bridgeStart
    (.endTripHold h₀)) h₀) (.onChan h₀)))) (.onChan (.copySet (.setFlag (.ite (.ite (.bridgeStart (.endTripHold h₀)) h₀)
    (.onChan h₀))))))
theorem judgeStep {t c n cnt : Nat} {down : Bool} {base : Option Bool} {fin : Bool} : s₀.lasts (s.judgeStep t c n cnt down base
    fin) := by
  unfold State.judgeStep
  exact .ite (.drive (.when (.when (.when (.when (.when h₀ (fun _ h1 => .setFlag h1)) (fun _ h1 => .bumpW (.setFlag h1))) (fun _
    h1 => .setFlag h1)) (fun _ h1 => .setFlag h1)) (fun _ h1 => .setFlag (.setRun h1)))) (.offer (.drive (.when (.when (.when
    (.when (.when h₀ (fun _ h1 => .setFlag h1)) (fun _ h1 => .bumpW (.setFlag h1))) (fun _ h1 => .setFlag h1)) (fun _ h1 =>
    .setFlag h1)) (fun _ h1 => .setFlag (.setRun h1)))))
theorem ditherStep {t c : Nat} : s₀.lasts (s.ditherStep t c) := by
  unfold State.ditherStep
  exact .setFld h₀
theorem stepZero {t c r acc : Nat} : s₀.lasts (s.stepZero t c r acc) := by
  unfold State.stepZero
  exact .judgeStep (.setWide (.onChan (.ditherStep (.handOver (.onChan h₀)))))
theorem countStep {t c r : Nat} : s₀.lasts (s.countStep t c r) := by
  unfold State.countStep
  exact .ite (.ite (.setChan h₀) (.ite (.ite (.stepZero h₀) (.judgeStep (.setChan (.setWide h₀)))) (.judgeStep (.when (.setChan
    (.setWide h₀)) (fun _ h1 => .handOver h1))))) (.ite (.judgeStep (.setChan (.setWide h₀))) (.ite (.judgeStep (.setChan
    (.setWide h₀))) (.ite (.setChan h₀) (.ite h₀ (.stepZero (.setChan h₀))))))
theorem startOne {t c n acc : Nat} : s₀.lasts (s.startOne t c n acc) := by
  unfold State.startOne
  exact .ite h₀ (.ite (.setFlag h₀) (.ite (.bridgeStart (.drive (.ite (.setChan (.setFld (.copySet (.each (.setFlag (.setRun
    (.onChan h₀))) (fun _ _ h1 => .setFlag h1))))) (.judgeStep (.setWide (.setChan (.setFld (.copySet (.each (.setFlag
    (.setRun (.onChan h₀))) (fun _ _ h1 => .setFlag h1)))))))))) (.drive (.ite (.setChan (.setFld (.copySet (.each (.setFlag
    (.setRun (.onChan h₀))) (fun _ _ h1 => .setFlag h1))))) (.judgeStep (.setWide (.setChan (.setFld (.copySet (.each
    (.setFlag (.setRun (.onChan h₀))) (fun _ _ h1 => .setFlag h1)))))))))))
theorem startMask {t mask n acc : Nat} : s₀.lasts (s.startMask t mask n acc) := by
  unfold State.startMask
  exact .withSum h₀ (fun _ h1 => .each h1 (fun _ _ h2 => .ite (.setFlag h2) (.startOne h2)))
theorem stopOne {t c n : Nat} : s₀.lasts (s.stopOne t c n) := by
  unfold State.stopOne
  exact .ite h₀ (.each (.ite (.bridgeStop (.setRun (.ite (.ite (.chDrop (.setFlag h₀)) (.copySet (.setFlag h₀))) h₀))) (.setRun
    (.ite (.ite (.chDrop (.setFlag h₀)) (.copySet (.setFlag h₀))) h₀))) (fun _ _ h1 => .each (.setFlag h1) (fun _ _ h2 =>
    .setFlag h2)))
theorem stopMask {t mask n : Nat} : s₀.lasts (s.stopMask t mask n) := by
  unfold State.stopMask
  exact .withSum h₀ (fun _ h1 => .each h1 (fun _ _ h2 => .stopOne h2))
theorem commitMask {t mask n : Nat} : s₀.lasts (s.commitMask t mask n) := by
  unfold State.commitMask
  exact .each h₀ (fun _ _ h1 => .ite (.onChan (.setFlag h1)) h1)
theorem shiftTile {t d : Nat} {all : Bool} : s₀.lasts (s.shiftTile t d all) := by
  unfold State.shiftTile
  exact .ite (.each (.each (.each h₀ (fun _ _ h1 => .onChan h1)) (fun _ _ h1 => .setBridge h1)) (fun _ _ h1 => .ite (.setTrip
    h1) h1)) (.each (.each (.each (.each (.each h₀ (fun _ _ h1 => .onChan h1)) (fun _ _ h1 => .setBridge h1)) (fun _ _ h1 =>
    .ite (.setTrip h1) h1)) (fun _ _ h1 => .setFol h1)) (fun _ _ h1 => .setSlotX h1))
theorem loadFol {t f : Nat} : s₀.lasts (s.loadFol t f) := by
  unfold State.loadFol
  exact .put_folMiss (.setFol h₀)
theorem syncTile {t : Nat} : s₀.lasts (s.syncTile t) := by
  unfold State.syncTile
  split
  · exact .put_stopAt (.when h₀ (fun _ h1 => .stillPins h1))
  · exact .each (.shiftTile (.put_stopAt (.freePins h₀))) (fun _ _ h1 => .loadFol h1)
  · exact h₀
theorem syncTiles : s₀.lasts s.syncTiles := by
  unfold State.syncTiles
  exact .each h₀ (fun _ _ h1 => .syncTile h1)
theorem angleCompare {t c n : Nat} : s₀.lasts (s.angleCompare t c n) := by
  unfold State.angleCompare
  exact .ite h₀ (.ite (.drive (.setFlag (.ite (.drive (.setFlag h₀)) (.ite (.drive (.setFlag h₀)) h₀)))) (.ite (.drive (.setFlag
    (.ite (.drive (.setFlag h₀)) (.ite (.drive (.setFlag h₀)) h₀)))) (.ite (.drive (.setFlag h₀)) (.ite (.drive (.setFlag h₀))
    h₀))))
theorem writeChCtrl {t c : Nat} {v0 : Word} : s₀.lasts (s.writeChCtrl t c v0) := by
  unfold State.writeChCtrl
  exact .ite (.chDrop h₀) (.wr h₀)
theorem writeStopped {n : RegName} {mask : Word} {t c : Nat} {v : Word} : s₀.lasts (s.writeStopped n mask t c v) := by
  unfold State.writeStopped
  exact .withSum h₀ (fun _ h1 => .ite (.chDrop h1) (.wr h1))
theorem writeShadow {t c : Nat} {r : ShadowReg} {v0 : Word} : s₀.lasts (s.writeShadow t c r v0) := by
  unfold State.writeShadow
  refine .ite h₀ (.ite (.bump h₀) (.ite (.ite (.wr h₀) (.setBridge (.wr h₀))) ?_))
  split
  · exact .ite (.wr h₀) (.wr (.wr h₀))
  · exact .wr h₀
theorem dropTrips {k : Nat} : s₀.lasts (s.dropTrips k) := by
  unfold State.dropTrips
  exact .each h₀ (fun _ _ h1 => .ite (.setTrip h1) h1)
theorem setPin {p : Nat} {level : Bool} : s₀.lasts (s.setPin p level) := by
  unfold State.setPin
  exact .dropTrips (.put h₀)
theorem ackCapture {t c : Nat} : s₀.lasts (s.ackCapture t c) := by
  unfold State.ackCapture
  exact .setFlag (.setFlag h₀)
theorem linkedRead {m : Master} {lo hi : Word} : s₀.lasts (s.linkedRead m lo hi) := by
  unfold State.linkedRead
  exact .setLatch (.setRead h₀)
theorem lateStart {t n : Nat} : s₀.lasts (s.lateStart t n) := by
  unfold State.lateStart
  exact .startMask (.setFlag (.setFlag h₀))
theorem armStart {t mask : Nat} : s₀.lasts (s.armStart t mask) := by
  unfold State.armStart
  exact .ite (.lateStart (.wr h₀)) (.wr h₀)
theorem stopTile {t mask : Nat} : s₀.lasts (s.stopTile t mask) := by
  unfold State.stopTile
  exact .ite (.startMask (.setFlag (.stopMask h₀))) (.stopMask h₀)
theorem clrTile {t : Nat} : s₀.lasts (s.clrTile t) := by
  unfold State.clrTile
  exact .clr (.each (.each h₀ (fun _ _ h1 => .clr (.clr h1))) (fun _ _ h1 => .setFld h1))
theorem writeTileCtrl {t : Nat} {v : Word} : s₀.lasts (s.writeTileCtrl t v) := by
  unfold State.writeTileCtrl
  exact .syncTile (.when (.withUnit h₀ (fun _ h1 => .wr h1)) (fun _ h1 => .clrTile h1))
theorem writeBrCtrl {t p : Nat} {v : Word} : s₀.lasts (s.writeBrCtrl t p v) := by
  unfold State.writeBrCtrl
  exact .ite h₀ (.ite (.withSum h₀ (fun _ h1 => .chDrop h1)) (.wr h₀))
theorem latchTrips {t : Nat} {inB : Bool} : s₀.lasts (s.latchTrips t inB) := by
  unfold State.latchTrips
  exact .each h₀ (fun _ _ h1 => .onChan (.setFlag (.setFlag h1)))
theorem clearTrips {t mask : Nat} : s₀.lasts (s.clearTrips t mask) := by
  unfold State.clearTrips
  exact .ite h₀ (.withSum h₀ (fun _ h1 => .each h1 (fun _ _ h2 => .ite (.when (.when h2 (fun _ h3 => .bump h3)) (fun _ h3 =>
    .bump h3)) (.onChan (.setFlag (.setFlag h2))))))
theorem writeTripLvl {t : Nat} {v : Word} : s₀.lasts (s.writeTripLvl t v) := by
  unfold State.writeTripLvl
  exact .ite h₀ (.withSum h₀ (fun _ h1 => .ite (.wr h1) (.each (.each h1 (fun _ _ h2 => .chDrop h2)) (fun _ _ h2 => .chDrop
    h2))))
theorem storePin {p : Nat} {v : Word} : s₀.lasts (s.storePin p v) := by
  unfold State.storePin
  exact .freePins (.wr h₀)
theorem onSlot {t k : Nat} {f : SlotX → SlotX} : s₀.lasts (s.onSlot t k f) := by
  unfold State.onSlot
  exact .setSlotX h₀
theorem fillSlot {t k d handle ch act angle delay close guard : Nat} : s₀.lasts (s.fillSlot t k d handle ch act angle delay
    close guard) := by
  unfold State.fillSlot
  exact .setFld (.setSlotX (.wr (.wr (.wr (.wr (.wr h₀))))))
theorem dropSlot {t k : Nat} : s₀.lasts (s.dropSlot t k) := by
  unfold State.dropSlot
  exact .setFld (.setFlag h₀)
theorem judgeSlot {t k n : Nat} : s₀.lasts (s.judgeSlot t k n) := by
  unfold State.judgeSlot
  exact .ite (.onSlot (.setFlag h₀)) (.onSlot h₀)
theorem slotEdge {t k act : Nat} {e : Stamp} {delayed : Bool} : s₀.lasts (s.slotEdge t k act e delayed) := by
  unfold State.slotEdge
  exact .ite (.onSlot (.onChan (.drive h₀))) (.drive h₀)
theorem burstStart {t k : Nat} {e : Stamp} : s₀.lasts (s.burstStart t k e) := by
  unfold State.burstStart
  exact .judgeStep (.setFld (.setWide (.onChan h₀)))
theorem slotLow {t k : Nat} {e : Stamp} {delayed : Bool} : s₀.lasts (s.slotLow t k e delayed) := by
  unfold State.slotLow
  exact .slotEdge (.onChan h₀)
theorem clearSlot {t k n : Nat} : s₀.lasts (s.clearSlot t k n) := by
  unfold State.clearSlot
  exact .onSlot h₀
theorem fixSlots {t f n : Nat} {old new : Traj} : s₀.lasts (s.fixSlots t f n old new) := by
  unfold State.fixSlots
  exact .each h₀ (fun _ _ h1 => .ite h1 (.ite (.ite (.setFlag (.onSlot h1)) (.onSlot h1)) (.ite (.onSlot h1) h1)))
theorem logEvent {b : Nat} : s₀.lasts (s.logEvent b) := by
  unfold State.logEvent
  exact .event h₀
theorem logCfgErr {sig status : Nat} : s₀.lasts (s.logCfgErr sig status) := by
  unfold State.logCfgErr
  exact .logEvent (.wr h₀)
theorem catStore {sig : Nat} {w0 : Word} : s₀.lasts (s.catStore sig w0) := by
  unfold State.catStore
  exact .onSig (.wr (.wr h₀))
theorem writeCat0 {sig : Nat} {w0 : Word} : s₀.lasts (s.writeCat0 sig w0) := by
  unfold State.writeCat0
  exact .ite (.catStore h₀) (.logCfgErr h₀)
theorem writeCat12 {sig : Nat} {word2 : Bool} {v : Word} : s₀.lasts (s.writeCat12 sig word2 v) := by
  unfold State.writeCat12
  exact .ite (.logCfgErr h₀) (.wr h₀)
theorem setDropping {k : Nat} {ring queue : Bool} : s₀.lasts (s.setDropping k ring queue) := by
  unfold State.setDropping
  exact .setFlag (.put h₀)
theorem logDrop {r : LogRec} {queue : Bool} : s₀.lasts (s.logDrop r queue) := by
  unfold State.logDrop
  exact .ite (.logEvent (.setDropping (.when (.bumpW (.bump (.bump h₀))) (fun _ h1 => .logEvent h1)))) (.setDropping (.when
    (.bumpW (.bump (.bump h₀))) (fun _ h1 => .logEvent h1)))
theorem logReturn {k : Nat} : s₀.lasts (s.logReturn k) := by
  unfold State.logReturn
  exact .ite (.setDropping h₀) h₀
theorem logReturns : s₀.lasts s.logReturns := by
  unfold State.logReturns
  exact .each h₀ (fun _ _ h1 => .logReturn h1)
theorem logArrive {r : LogRec} : s₀.lasts (s.logArrive r) := by
  unfold State.logArrive
  exact .ite (.bumpW h₀) (.ite (.logDrop h₀) (.ite (.logDrop h₀) (.put h₀)))
theorem logMake {sig : Nat} {value aux : Word} {ts : Stamp} {snap : Bool} : s₀.lasts (s.logMake sig value aux ts snap) := by
  unfold State.logMake
  exact .logArrive h₀
theorem logQualify {sig : Nat} {value aux : Word} {ts : Stamp} : s₀.lasts (s.logQualify sig value aux ts) := by
  unfold State.logQualify
  exact .ite (.logMake (.setFld h₀)) (.setFld h₀)
theorem logEventOf {o : Offer} {sig : Nat} : s₀.lasts (s.logEventOf o sig) := by
  unfold State.logEventOf
  split
  · exact .logQualify h₀
  · exact .ite (.logQualify (.onSig h₀)) h₀
  · exact h₀
theorem snapshot {sig : Nat} {ts : Stamp} : s₀.lasts (s.snapshot sig ts) := by
  unfold State.snapshot
  exact .ite (.bumpW h₀) (.logMake h₀)
theorem ringPut {i : Nat} {ws : List Word} : s₀.lasts (s.ringPut i ws) := by
  refine .memWrite h₀ id id (fun hw => ?_) id
  unfold State.ringPut
  dsimp only
  generalize s.logMem = m at hw ⊢
  generalize ws.zipIdx = l
  induction l generalizing m with
  | nil => exact hw
  | cons a l ih => exact ih _ (Memory.wf_putWord _ _ _ hw)
theorem dataEvent : s₀.lasts s.dataEvent := by
  unfold State.dataEvent
  exact .ite (.logEvent h₀) h₀
theorem ringAdd {ws : List Word} {ts : Stamp} : s₀.lasts (s.ringAdd ws ts) := by
  unfold State.ringAdd
  exact .dataEvent (.put_afterMark_logRecs_logLast (.bumpW (.wr (.ringPut h₀))))
theorem writeMark : s₀.lasts s.writeMark := by
  unfold State.writeMark
  exact .setFlag (.put_afterMark_markSeq (.ringAdd h₀))
theorem tryMark : s₀.lasts s.tryMark := by
  unfold State.tryMark
  exact .ite (.writeMark h₀) h₀
theorem markDue {t : Stamp} : s₀.lasts (s.markDue t) := by
  unfold State.markDue
  exact .tryMark (.setFlag (.put h₀))
theorem logExport {r : LogRec} : s₀.lasts (s.logExport r) := by
  unfold State.logExport
  refine .ite h₀ ?_
  dsimp only
  split
  · exact .bump h₀
  · exact .mlSend h₀
theorem writeRec {r : LogRec} : s₀.lasts (s.writeRec r) := by
  unfold State.writeRec
  exact .ite (.logDrop h₀) (.ite (.logExport (.onSig (.ringAdd (.ite (.setFld (.ringAdd (.ite (.writeMark h₀) h₀))) (.ite
    (.writeMark h₀) h₀))))) (.onSig (.ringAdd (.ite (.setFld (.ringAdd (.ite (.writeMark h₀) h₀))) (.ite (.writeMark h₀)
    h₀)))))
theorem writeLogRing {v : Word} : s₀.lasts (s.writeLogRing v) := by
  unfold State.writeLogRing
  exact .ite (.logCfgErr h₀) (.logReturns (.put_logRecs (.wr (.wr (.wr h₀)))))
theorem setLogRd {rd : Nat} : s₀.lasts (s.setLogRd rd) := by
  unfold State.setLogRd
  exact .tryMark (.logReturns (.put_logRecs (.wr h₀)))
theorem writeLogRd {v : Word} : s₀.lasts (s.writeLogRd v) := by
  unfold State.writeLogRd
  exact .ite (.logCfgErr h₀) (.setLogRd h₀)
theorem clrLog : s₀.lasts s.clrLog := by
  unfold State.clrLog
  exact .setFld (.clr (.each h₀ (fun _ _ h1 => .clr h1)))
theorem freshSigs : s₀.lasts s.freshSigs := by
  unfold State.freshSigs
  exact .put h₀
theorem writeLogCtrl {v : Word} : s₀.lasts (s.writeLogCtrl v) := by
  unfold State.writeLogCtrl
  exact .ite (.markDue (.freshSigs (.setFlag (.withUnit (.ite (.clrLog h₀) h₀) (fun _ h1 => .wr h1))))) (.setFlag (.withUnit
    (.ite (.clrLog h₀) h₀) (fun _ h1 => .wr h1)))
theorem writeLogThresh {v : Word} : s₀.lasts (s.writeLogThresh v) := by
  unfold State.writeLogThresh
  exact .ite (.wr h₀) (.logCfgErr h₀)
theorem portEvent {p b : Nat} : s₀.lasts (s.portEvent p b) := by
  unfold State.portEvent
  exact .event h₀
theorem portDrop {p : Nat} : s₀.lasts (s.portDrop p) := by
  unfold State.portDrop
  exact .bump h₀
theorem finishOp {n status : Nat} {res : List Word} : s₀.lasts (s.finishOp n status res) := by
  unfold State.finishOp
  exact .put h₀
theorem txnDone {p : Nat} {t : Txn} {results status : Nat} {swapped : Bool} : s₀.lasts (s.txnDone p t results status swapped) := by
  unfold State.txnDone
  extract_lets w s₁ s₂ s₃ s₄
  have h₃ : s₀.lasts s₃ := .ite (.portEvent (.bumpW (.wr h₀))) (.portEvent (.bump (.portEvent (.bumpW (.wr h₀)))))
  have h₄ : s₀.lasts s₄ := by
    unfold s₄
    split
    · exact .post h₃
    · exact .ite (.post h₃) h₃
  split
  · exact .finishOp h₄
  · exact h₄
theorem portDropQueue {p status : Nat} {which : Txn → Bool} : s₀.lasts (s.portDropQueue p status which) := by
  unfold State.portDropQueue
  exact .foldl (.onPort h₀) fun _ _ h1 => .txnDone h1
theorem portFlushAll {p status : Nat} : s₀.lasts (s.portFlushAll p status) := by
  unfold State.portFlushAll
  exact .portDropQueue h₀
theorem portFlush {p : Nat} : s₀.lasts (s.portFlush p) := by
  unfold State.portFlush
  exact .portDropQueue h₀
theorem portFinish {p : Nat} {r : PortRun} {status : Nat} {e : Stamp} : s₀.lasts (s.portFinish p r status e) := by
  unfold State.portFinish
  exact .ite (.portFlushAll (.txnDone (.withUnit h₀ (fun _ h1 => .setFlag (.onPort h1))))) (.txnDone (.withUnit h₀ (fun _ h1 =>
    .setFlag (.onPort h1))))
theorem portAbortNow {p : Nat} {r : PortRun} : s₀.lasts (s.portAbortNow p r) := by
  unfold State.portAbortNow
  exact .portFinish (.ite (.onPort h₀) h₀)
theorem portGo {p : Nat} {r : PortRun} : s₀.lasts (s.portGo p r) := by
  unfold State.portGo
  exact .ite (.portAbortNow h₀) (.onPort h₀)
theorem notQueued {p : Nat} : s₀.lasts (s.notQueued p) := by
  unfold State.notQueued
  exact .portEvent (.bump h₀)
theorem portTrigger {p : Nat} {t : Txn} : s₀.lasts (s.portTrigger p t).2 := by
  unfold State.portTrigger
  exact .ite2 (.notQueued (.wakeIsland h₀)) (.setPort (.wakeIsland h₀))
theorem scriptStep {p op : Nat} {ts : Stamp} {f : State → PortRun → State} (hf : ∀ t a, s₀.lasts t → s₀.lasts (f t a)) :
    s₀.lasts (s.scriptStep p op ts f) := by
  unfold State.scriptStep
  refine .happens h₀ (fun _ h1 => ?_)
  split
  · exact h1
  · exact .ite (hf _ _ h1) h1
theorem scriptCs {p : Nat} {r : PortRun} : s₀.lasts (s.scriptCs p r) := by
  unfold State.scriptCs
  exact .ite (.portGo (.setPort h₀)) (.portGo (.setPort h₀))
theorem portStore {p : Nat} {w : Word} {value : Word} {e : Stamp} : s₀.lasts (s.portStore p w value e) := by
  unfold State.portStore
  exact .ite (.wr (.setTm (.ite (.offer (.wr h₀)) h₀))) (.ite (.offer (.wr h₀)) h₀)
theorem scriptXfer {p : Nat} {r : PortRun} {rx : Word} {ts : Stamp} : s₀.lasts (s.scriptXfer p r rx ts) := by
  unfold State.scriptXfer
  exact .ite (.ite h₀ (.portGo h₀)) (.ite h₀ (.portGo (.ite (.onPort h₀) (.portStore (.onPort h₀)))))
theorem scriptRecv {p : Nat} {r : PortRun} : s₀.lasts (s.scriptRecv p r) := by
  unfold State.scriptRecv
  split
  · exact h₀
  · exact .portGo (.portStore (.ite (.onPort h₀) h₀))
theorem slowBits {p : Nat} {f : SentObs} {ts : Stamp} : s₀.lasts (s.slowBits p f ts) := by
  unfold State.slowBits
  refine .ite h₀ ?_
  dsimp only
  split
  · exact .onPort h₀
  · exact .ite (.onPort (.onPort h₀)) (.bump (.onPort h₀))
theorem frameErr {p : Nat} : s₀.lasts (s.frameErr p) := by
  unfold State.frameErr
  exact .bump h₀
theorem ttFire {p : Nat} : s₀.lasts (s.ttFire p) := by
  unfold State.ttFire
  exact .ite (.portTrigger h₀) (.bump (.portTrigger h₀))
theorem ttPlan {p : Nat} {fresh : Bool} : s₀.lasts (s.ttPlan p fresh) := by
  unfold State.ttPlan
  exact .onPort (.ite (.ttFire h₀) h₀)
theorem writeTt {p : Nat} {r : PortTtReg} {v : Word} : s₀.lasts (s.writeTt p r v) := by
  unfold State.writeTt
  split
  · exact .ite (.onPort (.wr h₀)) (.ttPlan (.wr h₀))
  · exact .wr h₀
  · exact .ite (.portDrop h₀) (.when (.wr h₀) (fun _ h1 => .ttPlan h1))
  · exact .when (.wr h₀) (fun _ h1 => .ttPlan h1)
  · exact .when (.wr h₀) (fun _ h1 => .ttPlan h1)
theorem portDisable {p : Nat} : s₀.lasts (s.portDisable p) := by
  unfold State.portDisable
  split
  · exact .onPort h₀
  · exact .portFlushAll (.onPort h₀)
theorem writePortCfg {p : Nat} {r : PortCfgReg} {v0 : Word} : s₀.lasts (s.writePortCfg p r v0) := by
  unfold State.writePortCfg
  refine .ite (.portDrop h₀) ?_
  split
  · exact .ite (.portDisable (.withUnit h₀ (fun _ h1 => .wr h1))) (.withUnit h₀ (fun _ h1 => .wr h1))
  · exact .wr h₀
theorem portStop {p : Nat} : s₀.lasts (s.portStop p) := by
  unfold State.portStop
  split
  · exact .onPort h₀
  · exact h₀
theorem clrPort {p : Nat} : s₀.lasts (s.clrPort p) := by
  unfold State.clrPort
  exact .clr (.clr (.clr h₀))
theorem writeScript {p w : Nat} {v : Word} : s₀.lasts (s.writeScript p w v) := by
  unfold State.writeScript
  exact .ite (.portDrop h₀) (.put_badScript (.wr h₀))
theorem portRestart {p : Nat} {r : PortRun} {ts up : Nat} : s₀.lasts (s.portRestart p r ts up) := by
  unfold State.portRestart
  dsimp only
  split
  · exact .setPort h₀
  · exact .setPort h₀
  · exact .ite (.setPort h₀) (.setPort h₀)
theorem setPhase {idx v : Nat} : s₀.lasts (s.setPhase idx v) := by
  unfold State.setPhase
  exact .setFld h₀
theorem calEvent {d b : Nat} : s₀.lasts (s.calEvent d b) := by
  unfold State.calEvent
  exact .event h₀
theorem countStatus {d st : Nat} : s₀.lasts (s.countStatus d st) := by
  unfold State.countStatus
  split
  · exact .bumpW h₀
  · exact .bumpW h₀
  · exact .bumpW h₀
  · exact .bump h₀
  · exact .bumpW h₀
  · exact .bump h₀
  · exact .bumpW h₀
theorem putRecord {d st : Nat} {ws : List Word} : s₀.lasts (s.putRecord d st ws) := by
  unfold State.putRecord
  refine .ite (.calEvent (.bump (.countStatus h₀))) ?_
  split
  · exact .calEvent (.calEvent (.wr (.foldl (.countStatus h₀) fun _ _ h1 => .setTm h1)))
  · exact .calEvent (.calEvent (.wr (.foldl (.countStatus h₀) fun _ _ h1 => .setTm h1)))
  · exact .calEvent (.calEvent (.wr (.foldl (.countStatus h₀) fun _ _ h1 => .setTm h1)))
  · exact .calEvent (.calEvent (.wr (.foldl (.countStatus h₀) fun _ _ h1 => .setTm h1)))
  · exact .calEvent (.wr (.foldl (.countStatus h₀) fun _ _ h1 => .setTm h1))
theorem notify {idx : Nat} {w0 : Word} : s₀.lasts (s.notify idx w0) := by
  unfold State.notify
  exact .ite h₀ (.ite (.post h₀) (.ite (.raise h₀) (.raise (.bumpW (.wr h₀)))))
theorem record {idx st detail : Nat} {time : Stamp} {x : Entry} : s₀.lasts (s.record idx st detail time x) := by
  unfold State.record
  exact .ite (.offer (.notify (.setFld (.putRecord h₀)))) (.notify (.setFld (.putRecord h₀)))
theorem freeEntry {idx : Nat} : s₀.lasts (s.freeEntry idx) := by
  unfold State.freeEntry
  exact .setEntry (.wr (.setFld (.setPhase h₀)))
theorem rearm {idx : Nat} : s₀.lasts (s.rearm idx) := by
  unfold State.rearm
  exact .ite (.freeEntry h₀) (.setEntry (.setPhase (.wr (.bumpW h₀))))
theorem finish {idx : Nat} {time : Stamp} : s₀.lasts (s.finish idx time) := by
  unfold State.finish
  exact .ite (.rearm (.record h₀)) (.freeEntry (.record h₀))
theorem ended {idx : Nat} {e : Stamp} : s₀.lasts (s.ended idx e) := by
  unfold State.ended
  exact .ite (.setPhase (.onEntry h₀)) (.finish (.onEntry h₀))
theorem lateNow {idx detail : Nat} {e : Stamp} : s₀.lasts (s.lateNow idx detail e) := by
  unfold State.lateNow
  exact .finish (.onEntry h₀)
theorem endAs {idx st detail : Nat} : s₀.lasts (s.endAs idx st detail) := by
  unfold State.endAs
  exact .freeEntry (.record h₀)
theorem stage {idx t k : Nat} : s₀.lasts (s.stage idx t k) := by
  unfold State.stage
  exact .fillSlot (.wr (.setPhase (.onEntry h₀)))
theorem stageWaiting {t : Nat} : s₀.lasts (s.stageWaiting t) := by
  unfold State.stageWaiting
  refine .ite h₀ ?_
  split
  · exact h₀
  · dsimp only
    split
    · exact h₀
    · exact .stage (.onEntry h₀)
theorem stageAll {t : Nat} : s₀.lasts (s.stageAll t) := by
  unfold State.stageAll
  exact .each h₀ (fun _ _ h1 => .stageWaiting h1)
theorem releaseSlot {t k : Nat} : s₀.lasts (s.releaseSlot t k) := by
  unfold State.releaseSlot
  exact .stageWaiting (.dropSlot h₀)
theorem loseSlot {t k : Nat} : s₀.lasts (s.loseSlot t k) := by
  unfold State.loseSlot
  exact .releaseSlot (.setPhase (.onEntry (.withSum h₀ (fun _ h1 => .onSlot h1))))
theorem recheckSlots {t : Nat} : s₀.lasts (s.recheckSlots t) := by
  unfold State.recheckSlots
  exact .each h₀ (fun _ _ h1 => .ite (.loseSlot h1) h1)
theorem acted {idx : Nat} {e cross : Stamp} {target : Nat} {jumped late trip : Bool} {detail : Nat} : s₀.lasts (s.acted idx e
    cross target jumped late trip detail) := by
  unfold State.acted
  exact .onEntry h₀
theorem fireSlot {t k : Nat} {due e : Stamp} {delayed : Bool} : s₀.lasts (s.fireSlot t k due e delayed) := by
  unfold State.fireSlot
  exact .ite (.releaseSlot (.lateNow (.onEntry h₀))) (.ite (.releaseSlot (.lateNow (.withSum (.setFlag (.setFlag (.onEntry h₀)))
    (fun _ h1 => .onSlot h1)))) (.ite (.releaseSlot (.ended (.withSum (.acted (.onEntry h₀)) (fun _ h1 => .slotEdge h1))))
    (.ite (.setFld (.withSum (.setPhase (.acted (.onEntry h₀))) (fun _ h1 => .burstStart h1))) (.onSlot (.setFld (.withSum
    (.setPhase (.acted (.onEntry h₀))) (fun _ h1 => .slotEdge h1)))))))
theorem closeSlot {t k : Nat} {e : Stamp} {delayed guarded : Bool} : s₀.lasts (s.closeSlot t k e delayed guarded) := by
  unfold State.closeSlot
  exact .releaseSlot (.ended (.onEntry (.ite (.setFlag (.withSum h₀ (fun _ h1 => .slotLow h1))) (.withSum h₀ (fun _ h1 =>
    .slotLow h1)))))
theorem ownClose {t k act : Nat} {ts : Stamp} : s₀.lasts (s.ownClose t k act ts) := by
  unfold State.ownClose
  refine .ite h₀ ?_
  split
  · exact .ite h₀ (.closeSlot h₀)
  · exact h₀
theorem makeClear {t k n : Nat} : s₀.lasts (s.makeClear t k n) := by
  unfold State.makeClear
  exact .releaseSlot (.ite (.withSum h₀ (fun _ h1 => .slotLow h1)) h₀)
theorem makeClears : s₀.lasts s.makeClears := by
  unfold State.makeClears
  refine .each h₀ (fun _ _ h1 => .each h1 (fun _ _ h2 => ?_))
  split
  · exact .ite (.makeClear h2) h2
  · exact h2
theorem loadFols {d : Nat} : s₀.lasts (s.loadFols d) := by
  unfold State.loadFols
  exact .foldl h₀ fun _ _ h1 => .ite (.put h1) (.loadFol h1)
theorem writeFol {t f : Nat} {v : Word} : s₀.lasts (s.writeFol t f v) := by
  unfold State.writeFol
  exact .ite (.withSum h₀ (fun _ h1 => .each h1 (fun _ _ h2 => .chDrop h2))) (.recheckSlots (.noteCourse (.ite (.loadFol (.wr
    h₀)) (.ite (.setFol (.wr (.wr h₀))) (.wr h₀)))))
theorem setChCtrl {t c : Nat} {v : Word} : s₀.lasts (s.setChCtrl t c v) := by
  unfold State.setChCtrl
  exact .recheckSlots (.withSum h₀ (fun _ h1 => .writeChCtrl h1))
theorem judgeEntry {n idx : Nat} : s₀.lasts (s.judgeEntry n idx) := by
  unfold State.judgeEntry
  dsimp only
  split
  · exact h₀
  · split
    · exact .ite h₀ (.ite (.lateNow h₀) (.ite (.ite (.lateNow h₀) (.ite (.lateNow h₀) (.ite (.lateNow h₀) (.setEntry h₀))))
        (.setEntry h₀)))
    · exact .ite h₀ (.onEntry (.bumpW (.record h₀)))
    · exact .ite h₀ (.onEntry (.bumpW (.record h₀)))
    · exact h₀
theorem judgeDomain {d n : Nat} : s₀.lasts (s.judgeDomain d n) := by
  unfold State.judgeDomain
  exact .ite h₀ (.each (.setDom (.ite (.event h₀) h₀)) (fun _ _ h1 => .judgeEntry h1))
theorem issueAct {idx : Nat} {e : Stamp} : s₀.lasts (s.issueAct idx e).2 := by
  unfold State.issueAct
  split
  · exact .portTrigger h₀
  · exact .snapshot h₀
  · exact .post h₀
  · exact .mlSend h₀
theorem calDecides {r : Requester} : s₀.lasts (s.calDecides r) := by
  unfold State.calDecides
  exact .put_calTurn (.ite (.reachIn h₀) h₀)
theorem armDecision {r : Requester} {ws : ArmWords} : s₀.lasts (s.armDecision r ws).2 := by
  unfold State.armDecision
  refine .ite2 (.calDecides h₀) (.ite2 (.calDecides h₀) (.ite2 (.calDecides h₀) (.ite2 (.calDecides h₀) ?_)))
  split
  · exact .calDecides h₀
  · exact .setEntry (.wr (.wr (.foldl (.wr (.calDecides h₀)) fun _ _ h1 => .wr h1)))
theorem releaseEntries {d : Nat} : s₀.lasts (s.releaseEntries d) := by
  unfold State.releaseEntries
  exact .each h₀ (fun _ _ h1 => .onEntry (.setPhase h1))
theorem cancelEntry {idx : Nat} : s₀.lasts (s.cancelEntry idx) := by
  unfold State.cancelEntry
  exact .endAs (.ite (.clearSlot h₀) h₀)
theorem cancelDecision {r : Requester} {handle : Nat} : s₀.lasts (s.cancelDecision r handle).2 := by
  unfold State.cancelDecision
  refine .ite2 (.setEntry (.calDecides h₀)) (.ite2 (.ite2 (.calDecides h₀) (.bumpW (.calDecides h₀))) (.ite2 ?_ (.ite2
    (.calDecides h₀) (.ite2 (.cancelEntry (.calDecides h₀)) (.bumpW (.calDecides h₀))))))
  split
  · exact .bump (.calDecides h₀)
  · exact .calDecides h₀
theorem flushDecision {r : Requester} {d : Nat} : s₀.lasts (s.flushDecision r d).2 := by
  unfold State.flushDecision
  exact .each (.calDecides h₀) (fun _ _ h1 => .cancelEntry h1)
theorem withdrawn {st detail idx : Nat} : s₀.lasts (s.withdrawn st detail idx) := by
  unfold State.withdrawn
  exact .ite (.onEntry (.endAs h₀)) (.endAs h₀)
theorem withdrawEntry {st detail : Nat} {heldSpan : Bool} {idx : Nat} : s₀.lasts (s.withdrawEntry st detail heldSpan idx) := by
  unfold State.withdrawEntry
  split
  · exact .withdrawn (.clearSlot h₀)
  · exact .finish (.onEntry (.clearSlot h₀))
  · exact .finish (.onEntry h₀)
  · exact .withdrawn h₀
theorem withdraw {d st detail : Nat} {heldSpan : Bool} : s₀.lasts (s.withdraw d st detail heldSpan) := by
  unfold State.withdraw
  exact .each h₀ (fun _ _ h1 => .withdrawEntry h1)
theorem barTile {t detail : Nat} : s₀.lasts (s.barTile t detail) := by
  unfold State.barTile
  exact .each h₀ (fun _ _ h1 => .ite h1 (.ite (.dropSlot (.setPhase h1)) (.finish (.onEntry (.dropSlot (.slotEdge (.onChan
    h1)))))))
theorem endSpan {d : Nat} {heldSpan : Bool} {pu : Nat} {tp te : Stamp} {sp : Nat} : s₀.lasts (s.endSpan d heldSpan pu tp te sp)
    := by
  unfold State.endSpan
  exact .each h₀ (fun _ _ h1 => .ite (.finish (.setEntry h1)) (.setEntry h1))
theorem calErr : s₀.lasts s.calErr := by
  unfold State.calErr
  exact .setFlag h₀
theorem writePart {d : Nat} {v : Word} : s₀.lasts (s.writePart d v) := by
  unfold State.writePart
  exact .ite (.calErr h₀) (.wr h₀)
theorem writeCqRd {d : Nat} {v : Word} : s₀.lasts (s.writeCqRd d v) := by
  unfold State.writeCqRd
  exact .ite (.wr h₀) (.calErr h₀)
theorem writeCq {d : Nat} {size : Bool} {v : Word} : s₀.lasts (s.writeCq d size v) := by
  unfold State.writeCq
  exact .ite (.calErr h₀) (.ite (.ite (.wr h₀) (.calErr h₀)) (.ite (.wr h₀) (.calErr h₀)))
theorem clrCal : s₀.lasts s.clrCal := by
  unfold State.clrCal
  exact .each (.each h₀ (fun _ _ h1 => .clr (.clr (.clr (.clr h1))))) (fun _ _ h1 => .wr h1)
theorem domEvent {d b : Nat} : s₀.lasts (s.domEvent d b) := by
  unfold State.domEvent
  exact .event h₀
theorem exportAngle {d : Nat} : s₀.lasts (s.exportAngle d) := by
  unfold State.exportAngle
  exact .ite h₀ (.mlSend h₀)
theorem enter {d v : Nat} : s₀.lasts (s.enter d v) := by
  unfold State.enter
  exact .exportAngle (.offer (.onDom (.withUnit h₀ (fun _ h1 => .setFld h1))))
theorem holdAngle {d : Nat} : s₀.lasts (s.holdAngle d) := by
  unfold State.holdAngle
  exact .loadFols (.onDom h₀)
theorem leaveLive {d v st detail : Nat} {h : List Stamp} : s₀.lasts (s.leaveLive d v st detail h) := by
  unfold State.leaveLive
  exact .ite (.onDom (.holdAngle (.enter (.judgeDomain h₀)))) (.withdraw (.onDom (.holdAngle (.enter (.judgeDomain h₀)))))
theorem lose {d : Nat} {h : List Stamp} : s₀.lasts (s.lose d h) := by
  unfold State.lose
  exact .leaveLive (.ite (.domEvent (.bump h₀)) (.bump h₀))
theorem stall {d : Nat} : s₀.lasts (s.stall d) := by
  unfold State.stall
  exact .leaveLive (.domEvent (.bump h₀))
theorem reverse {d : Nat} : s₀.lasts (s.reverse d) := by
  unfold State.reverse
  exact .ite (.onDom (.leaveLive (.domEvent (.bump (.setFlag h₀))))) (.ite (.onDom (.bump (.setFlag h₀))) (.bump (.setFlag h₀)))
theorem enterSync {d : Nat} : s₀.lasts (s.enterSync d) := by
  unfold State.enterSync
  exact .releaseEntries (.loadFols (.onDom (.each (.enter (.domEvent h₀)) (fun _ _ h1 => .setFlag h1))))
theorem reseek {d : Nat} {h : List Stamp} : s₀.lasts (s.reseek d h) := by
  unfold State.reseek
  exact .onDom (.enter (.setFlag h₀))
theorem showTooth {d : Nat} {e : Stamp} {span : Nat} {held recov : Bool} : s₀.lasts (s.showTooth d e span held recov) := by
  unfold State.showTooth
  exact .exportAngle (.offer (.offer (.offer (.bumpW (.setFlag (.wr (.wr h₀)))))))
theorem countTooth {d : Nat} {t : Tooth} : s₀.lasts (s.countTooth d t) := by
  unfold State.countTooth
  split
  · exact .domEvent (.bump h₀)
  · exact .ite (.domEvent (.bump (.ite (.domEvent (.bump h₀)) h₀))) (.ite (.domEvent (.bump h₀)) h₀)
  · exact h₀
theorem setRate {d t : Nat} : s₀.lasts (s.setRate d t) := by
  unfold State.setRate
  exact .wr (.wr h₀)
theorem applyTooth {d n : Nat} : s₀.lasts (s.applyTooth d n) := by
  unfold State.applyTooth
  split
  · exact h₀
  · exact .judgeDomain (.ite (.bumpW (.ite (.bumpW (.setDom (.judgeDomain h₀))) (.setDom (.judgeDomain h₀)))) (.ite (.bumpW
      (.setDom (.judgeDomain h₀))) (.setDom (.judgeDomain h₀))))
theorem acceptTooth {d : Nat} {e : Stamp} {q : Nat} {recov : Bool} : s₀.lasts (s.acceptTooth d e q recov) := by
  unfold State.acceptTooth
  exact .showTooth (.setRate (.setDom (.endSpan (.wr h₀))))
theorem found {d pos : Nat} {e : Stamp} {t : Nat} : s₀.lasts (s.found d pos e t) := by
  unfold State.found
  exact .ite (.enterSync (.showTooth (.setRate (.setDom h₀)))) (.loadFols (.enter (.domEvent (.showTooth (.setRate (.setDom
    h₀))))))
theorem shows {d pos : Nat} {e : Stamp} {t : Nat} : s₀.lasts (s.shows d pos e t) := by
  unfold State.shows
  exact .ite (.wr (.onDom h₀)) (.found h₀)
theorem seekGap {d : Nat} {e : Stamp} : s₀.lasts (s.seekGap d e) := by
  unfold State.seekGap
  dsimp only
  split
  · exact .setDom h₀
  · exact .ite (.countTooth (.setDom h₀)) (.ite (.shows h₀) (.setDom h₀))
theorem seekExtra {d : Nat} {e : Stamp} : s₀.lasts (s.seekExtra d e) := by
  unfold State.seekExtra
  dsimp only
  split
  · exact .ite (.setDom h₀) (.ite (.countTooth (.setDom h₀)) (.ite (.shows h₀) (.setDom h₀)))
  · exact .setDom h₀
theorem seekWidth {d : Nat} {e : Stamp} : s₀.lasts (s.seekWidth d e) := by
  unfold State.seekWidth
  dsimp only
  split
  · exact .ite (.countTooth (.setDom h₀)) (.setDom h₀)
  · exact .setDom h₀
theorem confirming {d : Nat} {c : Confirm} {e : Stamp} : s₀.lasts (s.confirming d c e) := by
  unfold State.confirming
  dsimp only
  split
  · exact .setDom (.countTooth h₀)
  · exact .setDom (.countTooth h₀)
  · exact .setDom (.countTooth h₀)
  · exact .ite (.setDom (.countTooth h₀)) (.ite (.found (.wr (.setDom (.countTooth h₀)))) (.wr (.setDom (.countTooth h₀))))
theorem seekEdge {d : Nat} {e : Stamp} : s₀.lasts (s.seekEdge d e) := by
  unfold State.seekEdge
  split
  · exact .confirming h₀
  · split
    · exact .seekGap h₀
    · exact .seekExtra h₀
    · exact .seekWidth h₀
theorem takeConfig {d : Nat} : s₀.lasts (s.takeConfig d) := by
  unfold State.takeConfig
  exact .onDom h₀
theorem primaryEdge {d : Nat} {e : Stamp} : s₀.lasts (s.primaryEdge d e) := by
  unfold State.primaryEdge
  extract_lets was s₁ s₂ s₃
  have h : s₀.lasts s₃ := .onDom (.ite (.exportAngle (.takeConfig (.applyTooth h₀))) (.takeConfig (.applyTooth h₀)))
  clear_value s₃
  split
  · exact .seekEdge (.setFlag h)
  · exact .reseek h
  · exact .ite h (.reseek h)
  · exact h
  next k s₄ _ _ _ _ _ =>
    have h₄ : s₀.lasts s₄ := .countTooth h
    clear_value k s₄
    split
    · exact .onDom h₄
    · exact .onDom h₄
    · exact .ite h₄ (.lose (.setFlag h₄))
    · exact .acceptTooth h₄
theorem primaryEnd {d : Nat} {e : Stamp} : s₀.lasts (s.primaryEnd d e) := by
  unfold State.primaryEnd
  refine .ite h₀ (.ite (.ite (.ite (.setDom h₀) (.reverse (.setDom h₀))) (.ite (.reseek (.setFlag (.setDom h₀))) (.setFlag
    (.setDom h₀)))) (.ite (.setDom h₀) (.ite (.ite (.setDom h₀) (.lose (.setDom h₀))) (.ite ?_ (.setDom h₀)))))
  split
  · exact .ite (.onDom (.setDom h₀)) (.ite (.found (.setDom h₀)) (.setDom h₀))
  · split
    · exact .ite (.shows (.setDom h₀)) (.setDom h₀)
    · exact .setDom h₀
theorem halfStep {d : Nat} : s₀.lasts (s.halfStep d) := by
  unfold State.halfStep
  exact .setFld (.onDom h₀)
theorem phaseTooth {d rise fall : Nat} {ts : Stamp} : s₀.lasts (s.phaseTooth d rise fall ts) := by
  unfold State.phaseTooth
  dsimp only
  split
  · exact .domEvent (.bump h₀)
  · exact .bump h₀
  · exact .ite (.ite h₀ (.enterSync (.setDom h₀))) (.ite (.reverse h₀) (.setDom (.ite (.setFlag h₀) h₀)))
  · exact .ite (.ite h₀ (.enterSync (.halfStep (.setDom h₀)))) (.ite (.lose h₀) (.setDom h₀))
theorem phmEdge {d i : Nat} {e : Stamp} : s₀.lasts (s.phmEdge d i e) := by
  -- `unfold` would have the kernel run the search of `nearestNom`.
  have def_phmEdge : State.phmEdge = State.phmEdge := rfl
  conv at def_phmEdge => rhs; delta State.phmEdge
  rw [def_phmEdge]
  dsimp -zeta only
  obtain ⟨a, ha⟩ : ∃ a, s.angleStamp d e = a := ⟨_, rfl⟩
  rw [ha]
  extract_lets b t
  have h : s₀.lasts t := .wr h₀
  split
  · exact .bump h
  · exact .ite (.bump h) (.offer (.offer (.bumpW (.setFlag (.setFlag (.setFld (.wr (.wr (.onDom h)))))))))
theorem mirrorTooth {d pos next : Nat} {e : Stamp} {step : Nat} {lead : Bool} : s₀.lasts (s.mirrorTooth d pos next e step lead)
    := by
  unfold State.mirrorTooth
  exact .showTooth (.wr (.wr (.setDom (.applyTooth (.endSpan h₀)))))
theorem mirrorStart {d v pos next : Nat} {e : Stamp} {step : Nat} {lead : Bool} : s₀.lasts (s.mirrorStart d v pos next e step
    lead) := by
  unfold State.mirrorStart
  exact .ite (.enterSync (.showTooth (.wr (.wr (.setDom h₀))))) (.loadFols (.enter (.domEvent (.showTooth (.wr (.wr (.setDom
    h₀)))))))
theorem mirrorLeave {d v : Nat} : s₀.lasts (s.mirrorLeave d v) := by
  unfold State.mirrorLeave
  refine .ite h₀ (.ite ?_ ?_)
  · split
    · exact .stall h₀
    · exact .reverse h₀
    · exact .lose h₀
  · split
    · exact .leaveLive (.domEvent (.bump h₀))
    · exact .leaveLive (.domEvent (.bump (.setFlag h₀)))
    · exact .reseek h₀
theorem angleMessage {d : Nat} {w1 w2 w3 w4 : Word} : s₀.lasts (s.angleMessage d w1 w2 w3 w4) := by
  unfold State.angleMessage
  exact .ite (.mirrorLeave (.bump (.domEvent (.onDom (.setFlag h₀))))) (.ite (.mirrorLeave (.onDom (.setFlag h₀))) (.ite (.ite
    (.mirrorStart (.onDom (.onDom (.setFlag h₀)))) (.ite (.mirrorStart (.lose (.onDom (.onDom (.setFlag h₀))))) (.ite
    (.enterSync (.ite (.ite (.onDom (.onDom (.onDom (.setFlag h₀)))) (.halfStep (.onDom (.onDom (.setFlag h₀)))))
    (.mirrorTooth (.onDom (.onDom (.setFlag h₀)))))) (.ite (.ite (.onDom (.onDom (.onDom (.setFlag h₀)))) (.halfStep (.onDom
    (.onDom (.setFlag h₀))))) (.mirrorTooth (.onDom (.onDom (.setFlag h₀)))))))) (.mirrorLeave (.onDom (.setFlag h₀)))))
theorem unalign : s₀.lasts s.unalign := by
  unfold State.unalign
  exact .each (.setFlag h₀) (fun _ _ h1 => .mirrorLeave h1)
theorem domDrop {d : Nat} : s₀.lasts (s.domDrop d) := by
  unfold State.domDrop
  exact .bump (.domEvent h₀)
theorem domEnable {d : Nat} : s₀.lasts (s.domEnable d) := by
  unfold State.domEnable
  exact .ite (.domEvent (.setFlag h₀)) (.enter (.onDom (.takeConfig (.setEdges (.setEdges h₀)))))
theorem domDisable {d : Nat} : s₀.lasts (s.domDisable d) := by
  unfold State.domDisable
  exact .setEdges (.setEdges (.setFld (.leaveLive h₀)))
theorem clrDom {d : Nat} : s₀.lasts (s.clrDom d) := by
  unfold State.clrDom
  exact .each (.clr (.clr (.clr (.clr h₀)))) (fun _ _ h1 => .setFld h1)
theorem writeDomCtrl {d : Nat} {v : Word} : s₀.lasts (s.writeDomCtrl d v) := by
  unfold State.writeDomCtrl
  exact .ite (.domDrop h₀) (.ite (.ite (.wr (.ite (.clrDom h₀) h₀)) (.domDisable (.wr (.ite (.clrDom h₀) h₀)))) (.ite
    (.domEnable (.wr (.ite (.clrDom h₀) h₀))) (.wr (.ite (.clrDom h₀) h₀))))
theorem writeDom {k : RegKey} {v : Word} : s₀.lasts (s.writeDom k v) := by
  unfold State.writeDom
  split
  · exact .writeDomCtrl h₀
  · exact .wr h₀
  · exact .ite (.domDrop h₀) (.ite (.setFlag (.wr h₀)) (.wr h₀))
theorem govEvent {b : Nat} : s₀.lasts (s.govEvent b) := by
  unfold State.govEvent
  exact .event h₀
theorem setLevel {k : Nat} {v : Int} : s₀.lasts (s.setLevel k v) := by
  unfold State.setLevel
  exact .wr (.put h₀)
theorem fill {k : Nat} {offer : Int} : s₀.lasts (s.fill k offer).2 := by
  unfold State.fill
  exact .ite2 h₀ (.setLevel h₀)
theorem charge {k n : Nat} : s₀.lasts (s.charge k n) := by
  unfold State.charge
  exact .ite (.wr (.put h₀)) (.setLevel (.wr (.put h₀)))
theorem showAdmit : s₀.lasts s.showAdmit := by
  unfold State.showAdmit
  exact .setFld h₀
theorem judgeSensor {i : Nat} {x med : Int} : s₀.lasts (s.judgeSensor i x med) := by
  unfold State.judgeSensor
  exact .ite (.govEvent (.setFlag (.put h₀))) (.ite (.govEvent (.setFlag (.put h₀))) (.put h₀))
theorem govDrop : s₀.lasts s.govDrop := by
  unfold State.govDrop
  exact .govEvent (.bump (.setFlag h₀))
theorem writeBudget {m : Master} {v : Word} : s₀.lasts (s.writeBudget m v) := by
  unfold State.writeBudget
  exact .ite h₀ (.govEvent (.wr h₀))
theorem clrGov : s₀.lasts s.clrGov := by
  unfold State.clrGov
  exact .clr (.clr (.each h₀ (fun _ _ h1 => .clr h1)))
theorem writeGov {r : GovReg} {v : Word} : s₀.lasts (s.writeGov r v) := by
  unfold State.writeGov
  refine .ite (.govDrop h₀) ?_
  dsimp only
  split
  · exact .ite (.setLevel (.wr (.ite (.clrGov h₀) h₀))) (.wr (.ite (.clrGov h₀) h₀))
  · exact .wr (.ite (.clrGov h₀) h₀)
theorem keepGo {b : Nat} : s₀.lasts (s.keepGo b) := by
  unfold State.keepGo
  exact .put h₀
theorem rightsDrop {m : Master} {b off : Nat} : s₀.lasts (s.rightsDrop m b off) := by
  unfold State.rightsDrop
  exact .accErr (.bump h₀)
theorem note {b : Nat} : s₀.lasts (s.note b) := by
  unfold State.note
  exact .ite (.raise h₀) h₀
theorem goSet {b : Nat} : s₀.lasts (s.goSet b) := by
  unfold State.goSet
  exact .ite (.raise h₀) (.ite (.raise h₀) (.ite (.raise h₀) (.note h₀)))
theorem goCleared {b : Nat} : s₀.lasts (s.goCleared b) := by
  unfold State.goCleared
  exact .ite (.raisePrv h₀) (.ite (.raisePrv h₀) (.ite (.raisePrv h₀) (.note h₀)))
theorem sendBox {k : Nat} : s₀.lasts (s.sendBox k) := by
  unfold State.sendBox
  exact .mlSend h₀
theorem answerBox {k op : Nat} : s₀.lasts (s.answerBox k op) := by
  unfold State.answerBox
  exact .mlSend h₀
theorem setGo {b : Nat} : s₀.lasts (s.setGo b) := by
  unfold State.setGo
  exact .goSet (.put_goAt (.wr (.keepGo h₀)))
theorem clearGo {b : Nat} : s₀.lasts (s.clearGo b) := by
  unfold State.clearGo
  exact .goCleared (.wr (.keepGo h₀))
theorem setStall {k : Nat} {b : Bool} : s₀.lasts (s.setStall k b) := by
  unfold State.setStall
  exact .setFlag h₀
theorem pumpReply {k : Nat} : s₀.lasts (s.pumpReply k) := by
  unfold State.pumpReply
  split
  · exact h₀
  · exact .ite h₀ (.setGo (.setStall (.setReplies (.foldl h₀ fun _ _ h1 => .ite (.wr h1) h1))))
theorem writeData {m : Master} {b n : Nat} {v : Word} : s₀.lasts (s.writeData m b n v) := by
  unfold State.writeData
  exact .ite (.rightsDrop h₀) (.ite (.bump h₀) (.wr h₀))
theorem writeGo {m : Master} {b : Nat} : s₀.lasts (s.writeGo m b) := by
  unfold State.writeGo
  exact .ite (.rightsDrop h₀) (.ite (.bump h₀) (.ite (.sendBox (.setGo (.wakeUp h₀))) (.setGo (.wakeUp h₀))))
theorem writeDone {m : Master} {b : Nat} : s₀.lasts (s.writeDone m b) := by
  unfold State.writeDone
  exact .ite (.rightsDrop h₀) (.ite (.bump h₀) (.ite (.answerBox (.clearGo h₀)) (.ite (.pumpReply (.clearGo h₀)) (.ite
    (.pumpReply (.clearGo h₀)) (.clearGo h₀)))))
theorem writeMbCfg {m : Master} {b : Nat} {v : Word} : s₀.lasts (s.writeMbCfg m b v) := by
  unfold State.writeMbCfg
  exact .ite (.rightsDrop h₀) (.ite (.bump h₀) (.ite h₀ (.wr h₀)))
theorem clrBoxes : s₀.lasts s.clrBoxes := by
  unfold State.clrBoxes
  exact .each h₀ (fun _ _ h1 => .clr h1)
theorem lockRead {m : Master} {k : Nat} : s₀.lasts (s.lockRead m k).2 := by
  unfold State.lockRead
  split
  · exact .accErr h₀
  · exact .ite2 (.ite2 h₀ (.wr h₀)) h₀
theorem freeLock {k : Nat} : s₀.lasts (s.freeLock k) := by
  unfold State.freeLock
  exact .ite (.raise (.setFlag (.clr h₀))) (.clr h₀)
theorem lockRelease {m : Master} {k : Nat} : s₀.lasts (s.lockRelease m k) := by
  unfold State.lockRelease
  exact .ite (.freeLock h₀) (.setFld (.setFld (.bumpW h₀)))
theorem deliver {n tgt : Nat} : s₀.lasts (s.deliver n tgt) := by
  unfold State.deliver
  exact .put_takenBy (.setFlag (.setFlag h₀))
theorem complete {n : Nat} : s₀.lasts (s.complete n) := by
  unfold State.complete
  exact .ite (.ite (.setFlag (.bumpW (.put_takenBy_doneAt (.setFlag h₀)))) (.bumpW (.put_takenBy_doneAt (.setFlag h₀))))
    (.put_takenBy_doneAt (.setFlag h₀))
theorem deliverPrv {e p : Nat} : s₀.lasts (s.deliverPrv e p) := by
  unfold State.deliverPrv
  exact .put_takenBy (.setFlag (.setFlag h₀))
theorem completePrv {e p : Nat} : s₀.lasts (s.completePrv e p) := by
  unfold State.completePrv
  exact .ite (.bumpW (.put_takenBy (.setFlag h₀))) (.put_takenBy (.setFlag h₀))
theorem completeAll {x : Nat} : s₀.lasts (s.completeAll x) := by
  unfold State.completeAll
  exact .each (.each h₀ (fun _ _ h1 => .complete h1)) (fun _ _ h1 => .completePrv h1)
theorem intDrop {m : Master} {off : Nat} : s₀.lasts (s.intDrop m off) := by
  unfold State.intDrop
  exact .accErr (.bumpW h₀)
theorem maskWrite {m : Master} {off ok : Nat} {v : Word} {f : State → State} (hf : ∀ t, s₀.lasts t → s₀.lasts (f t)) : s₀.lasts
    (s.maskWrite m off ok v f) := by
  unfold State.maskWrite
  exact .ite (hf _ h₀) (.intDrop (hf _ h₀))
theorem writePendSet {m : Master} {n : Nat} {v : Word} : s₀.lasts (s.writePendSet m n v) := by
  unfold State.writePendSet
  exact .maskWrite h₀ (fun _ h1 => .each h1 (fun _ _ h2 => .raise h2))
theorem writePendClr {m : Master} {n : Nat} {v : Word} : s₀.lasts (s.writePendClr m n v) := by
  unfold State.writePendClr
  exact .maskWrite h₀ (fun _ h1 => .wr h1)
theorem writeEnSet {m : Master} {n : Nat} {v : Word} : s₀.lasts (s.writeEnSet m n v) := by
  unfold State.writeEnSet
  exact .maskWrite h₀ (fun _ h1 => .wr h1)
theorem writeEnClr {m : Master} {n : Nat} {v : Word} : s₀.lasts (s.writeEnClr m n v) := by
  unfold State.writeEnClr
  exact .maskWrite h₀ (fun _ h1 => .wr h1)
theorem writeRoute {m : Master} {n : Nat} {v : Word} : s₀.lasts (s.writeRoute m n v) := by
  unfold State.writeRoute
  exact .ite (.intDrop h₀) (.ite (.bumpW h₀) (.wr h₀))
theorem writePrvPend {m : Master} {e : Nat} {v : Word} : s₀.lasts (s.writePrvPend m e v) := by
  unfold State.writePrvPend
  exact .ite h₀ (.ite (.intDrop h₀) (.each h₀ (fun _ _ h1 => .raisePrv h1)))
theorem writePrv {m : Master} {k : RegKey} {v : Word} : s₀.lasts (s.writePrv m k v) := by
  unfold State.writePrv
  refine .ite h₀ (.ite (.intDrop h₀) ?_)
  split
  · exact .wr h₀
  · exact .wr h₀
  · exact .wr h₀
  · exact .wr h₀
  · exact h₀
theorem issueVector {v : Nat} : s₀.lasts (s.issueVector v) := by
  unfold State.issueVector
  exact .ite (.each (.setFlag (.wr (.putHost h₀))) (fun _ _ h1 => .deliver h1)) (.setFlag (.setFlag h₀))
theorem flushVectors : s₀.lasts s.flushVectors := by
  unfold State.flushVectors
  exact .each h₀ (fun _ _ h1 => .issueVector h1)
theorem writeHostPm {m : Master} : s₀.lasts (s.writeHostPm m) := by
  unfold State.writeHostPm
  exact .ite (.flushVectors h₀) (.intDrop h₀)
theorem writeHostEoi {m : Master} {n : Nat} : s₀.lasts (s.writeHostEoi m n) := by
  unfold State.writeHostEoi
  exact .ite (.intDrop h₀) (.ite (.complete h₀) (.bumpW h₀))
theorem writeVecMod {m : Master} {i : Nat} {v : Word} : s₀.lasts (s.writeVecMod m i v) := by
  unfold State.writeVecMod
  exact .ite (.intDrop h₀) (.ite (.bumpW h₀) (.ite (.setFlag (.wr h₀)) (.wr h₀)))
theorem clrInt {m : Master} : s₀.lasts (s.clrInt m) := by
  unfold State.clrInt
  exact .ite (.clr h₀) (.intDrop h₀)
theorem supClaim {m : Master} : s₀.lasts (s.supClaim m).2 := by
  unfold State.supClaim
  refine .ite2 (.accErr h₀) ?_
  split
  · exact .deliver h₀
  · exact h₀
theorem writeSupEoi {m : Master} {n : Nat} : s₀.lasts (s.writeSupEoi m n) := by
  unfold State.writeSupEoi
  exact .ite (.intDrop h₀) (.ite (.complete h₀) (.bumpW h₀))
theorem linkEvent {k b : Nat} : s₀.lasts (s.linkEvent k b) := by
  unfold State.linkEvent
  exact .event h₀
theorem mlDrop {k : Nat} : s₀.lasts (s.mlDrop k) := by
  unfold State.mlDrop
  exact .bump h₀
theorem resend {k : Nat} {frm : Nat} : s₀.lasts (s.resend k frm) := by
  unfold State.resend
  exact .bumpW (.setLink h₀)
theorem acked {k seq : Nat} : s₀.lasts (s.acked k seq) := by
  unfold State.acked
  exact .ite h₀ (.setLink h₀)
theorem markLost {b : Bool} : s₀.lasts (s.markLost b) := by
  unfold State.markLost
  exact .ite h₀ (.each h₀ (fun _ _ h1 => .ite (.setFlag h1) h1))
theorem dropLink {k : Nat} : s₀.lasts (s.dropLink k) := by
  unfold State.dropLink
  exact .ite h₀ (.ite (.markLost (.put_coastAt (.setFlag (.ite (.mlSend (.foldl (.setLink (.ite (.linkEvent (.bump (.wr h₀)))
    (.wr h₀))) fun _ _ h1 => .mlRoute h1)) (.foldl (.setLink (.ite (.linkEvent (.bump (.wr h₀))) (.wr h₀))) fun _ _ h1 =>
    .mlRoute h1))))) (.ite (.mlSend (.foldl (.setLink (.ite (.linkEvent (.bump (.wr h₀))) (.wr h₀))) fun _ _ h1 => .mlRoute
    h1)) (.foldl (.setLink (.ite (.linkEvent (.bump (.wr h₀))) (.wr h₀))) fun _ _ h1 => .mlRoute h1)))
theorem takeUplink {k : Nat} {depth : Nat} {root : Option Nat} : s₀.lasts (s.takeUplink k depth root) := by
  unfold State.takeUplink
  refine .ite (.setFld (.markLost (.setFlag ?_))) (.markLost (.setFlag ?_))
  · split
    · exact .setFld (.setFld (.setFld (.setFlag h₀)))
    · exact .setFld (.setFld (.setFlag h₀))
  · split
    · exact .setFld (.setFld (.setFld (.setFlag h₀)))
    · exact .setFld (.setFld (.setFlag h₀))
theorem delayExchange {k : Nat} {t3 t4 : Stamp} : s₀.lasts (s.delayExchange k t3 t4) := by
  unfold State.delayExchange
  dsimp only
  split
  · exact h₀
  · exact .ite h₀ (.onLink (.ite (.wr (.wr h₀)) (.wr h₀)))
theorem joinIs {j reason : Nat} : s₀.lasts (s.joinIs j reason) := by
  unfold State.joinIs
  exact .linkEvent (.setFld h₀)
theorem joinNow : s₀.lasts s.joinNow := by
  unfold State.joinNow
  exact .mlSend (.each (.setFlag (.joinIs h₀)) (fun _ _ h1 => .sendOn h1))
theorem writeMlCtrl {v : Word} : s₀.lasts (s.writeMlCtrl v) := by
  unfold State.writeMlCtrl
  exact .ite (.ite (.each h₀ (fun _ _ h1 => .clr (.clr h1))) h₀) (.ite (.ite (.ite (.stepTo (.setFld (.setFlag (.wr (.ite (.each
    h₀ (fun _ _ h1 => .clr (.clr h1))) h₀))))) (.setFld (.setFlag (.wr (.ite (.each h₀ (fun _ _ h1 => .clr (.clr h1))) h₀)))))
    (.setFlag (.wr (.ite (.each h₀ (fun _ _ h1 => .clr (.clr h1))) h₀)))) (.ite (.wr (.setFlag (.unalign (.each (.wr (.ite
    (.each h₀ (fun _ _ h1 => .clr (.clr h1))) h₀)) (fun _ _ h1 => .dropLink h1))))) (.wr (.ite (.each h₀ (fun _ _ h1 => .clr
    (.clr h1))) h₀))))
theorem sysstart {t : Stamp} {tag : Nat} : s₀.lasts (s.sysstart t tag) := by
  unfold State.sysstart
  exact .when (.when (.when h₀ (fun _ h1 => .each h1 (fun _ _ h2 => .armStart (.wr (.wr h2))))) (fun _ h1 => .each h1 (fun _ _
    h2 => .writeTt (.wr (.wr h2))))) (fun _ h1 => .post h1)
theorem startSystem : s₀.lasts s.startSystem.2 := by
  unfold State.startSystem
  exact .ite2 (.setFlag h₀) (.sysstart (.mlSend h₀))
theorem writeSsGo {v : Word} : s₀.lasts (s.writeSsGo v) := by
  unfold State.writeSsGo
  exact .ite (.startSystem (.wr h₀)) (.wr h₀)
theorem gotSysstart {t : Stamp} {tag : Nat} : s₀.lasts (s.gotSysstart t tag) := by
  unfold State.gotSysstart
  exact .sysstart (.wr (.wr (.wr h₀)))
theorem lockReply {k x res : Nat} : s₀.lasts (s.lockReply k x res) := by
  unfold State.lockReply
  exact .onCtx (.ite (.wr h₀) h₀)
theorem answerLock {k dev x res : Nat} : s₀.lasts (s.answerLock k dev x res) := by
  unfold State.answerLock
  exact .ite (.lockReply h₀) (.mlSend h₀)
theorem grantNext {k : Nat} : s₀.lasts (s.grantNext k) := by
  unfold State.grantNext
  split
  · exact .clr h₀
  · exact .answerLock (.wr (.put h₀))
theorem serveLock {k : Nat} {op : LockOp} {dev x : Nat} : s₀.lasts (s.serveLock k op dev x) := by
  unfold State.serveLock
  split
  · exact .ite (.grantNext h₀) (.ite (.put h₀) (.setFld (.setFld (.bumpW h₀))))
  · exact .ite (.answerLock h₀) (.ite (.answerLock (.wr h₀)) (.answerLock h₀))
  · exact .ite (.answerLock h₀) (.ite (.answerLock (.wr h₀)) (.ite h₀ (.put h₀)))
theorem askLock {k : Nat} {op : LockOp} {x : Nat} : s₀.lasts (s.askLock k op x) := by
  unfold State.askLock
  refine .ite (.serveLock h₀) (.ite ?_ (.mlSend (.ite (.clr h₀) h₀)))
  split
  · exact .lockReply h₀
  · exact h₀
theorem gotMsg {k dev code : Nat} {v : Word} : s₀.lasts (s.gotMsg k dev code v) := by
  unfold State.gotMsg
  exact .ite (.mlDrop h₀) (.linkEvent (.put h₀))
theorem popMsg : s₀.lasts s.popMsg := by
  unfold State.popMsg
  exact .put h₀
theorem gotBox {link : Nat} {f : PeerFrame} : s₀.lasts (s.gotBox link f) := by
  unfold State.gotBox
  split
  · exact .ite (.mlSend (.mlDrop h₀)) (.ite (.answerBox h₀) (.answerBox (.setGo (.foldl h₀ fun _ _ h1 => .wr h1))))
  · exact .ite (.clearGo h₀) h₀
  · exact h₀
  · exact .ite (.sendBox h₀) h₀
theorem gotFault {k dev kind : Nat} {time : Word} : s₀.lasts (s.gotFault k dev kind time) := by
  unfold State.gotFault
  exact .linkEvent (.wr (.wr h₀))
theorem gotLog {dev : Nat} {l : List Word} : s₀.lasts (s.gotLog dev l) := by
  induction s, l using State.gotLog.induct (dev := dev) with
  | case1 s w0 w1 _ v r ih => exact ih (.offer h₀)
  | case2 s l h =>
    unfold State.gotLog
    split
    · exact absurd rfl (h _ _ _ _ _)
    · exact h₀
theorem accept {k : Nat} {f : MFrame} : s₀.lasts (s.accept k f) := by
  unfold State.accept
  split
  · exact .onLink (.setFld (.setFld h₀))
  · exact .delayExchange h₀
  · exact .each h₀ (fun _ _ h1 => .angleMessage h1)
  · exact .gotSysstart h₀
  · exact .ite (.lockReply h₀) (.ite (.serveLock h₀) h₀)
  · exact .gotBox h₀
  · exact .gotMsg h₀
  · exact .gotLog h₀
  · exact .gotFault h₀
  · exact h₀
theorem gotFrame {k : Nat} {f : MFrame} : s₀.lasts (s.gotFrame k f) := by
  unfold State.gotFrame
  exact .ite (.mlDrop h₀) (.ite (.accept h₀) (.ite (.ite h₀ (.accept (.mlRoute h₀))) (.ite (.accept (.ite (.setRoute h₀) h₀))
    (.mlRoute (.ite (.setRoute h₀) h₀)))))
theorem writeMl {k : RegKey} {v : Word} : s₀.lasts (s.writeMl k v) := by
  unfold State.writeMl
  split
  · exact .writeMlCtrl h₀
  · exact .ite h₀ (.wr h₀)
  · exact .ite (.setFlag h₀) h₀
  · exact .ite (.wr h₀) h₀
  · exact .writeSsGo h₀
  · exact .ite (.popMsg h₀) h₀
  · exact .ite h₀ (.wr h₀)
  · exact .wr h₀
  · exact .ite h₀ (.ite (.dropLink (.wr h₀)) (.wr h₀))
  · exact .wr h₀
theorem startCtx {x : Nat} : s₀.lasts (s.startCtx x) := by
  unfold State.startCtx
  exact .setCtxState (.setCtx (.each h₀ (fun _ _ h1 => .put h1)))
theorem freeLocks {x : Nat} : s₀.lasts (s.freeLocks x) := by
  unfold State.freeLocks
  exact .each (.each h₀ (fun _ _ h1 => .freeLock h1)) (fun _ _ h1 => .askLock h1)
theorem flushOwn {x : Nat} : s₀.lasts (s.flushOwn x) := by
  unfold State.flushOwn
  exact .ite (.each h₀ (fun _ _ h1 => .each h1 (fun _ _ h2 => .cancelEntry h2))) h₀
theorem endWork {x : Nat} : s₀.lasts (s.endWork x) := by
  unfold State.endWork
  exact .completeAll (.flushOwn (.freeLocks (.onCtx (.each h₀ (fun _ _ h1 => .ite (.askLock h1) h1)))))
theorem stopNow {x : Nat} : s₀.lasts (s.stopNow x) := by
  unfold State.stopNow
  exact .setCtxState (.onCtx (.endWork h₀))
theorem ctxCmd {x : Nat} {start stop : Bool} : s₀.lasts (s.ctxCmd x start stop) := by
  unfold State.ctxCmd
  exact .ite (.ite (.onCtx (.ite (.startCtx h₀) h₀)) (.stopNow (.ite (.startCtx h₀) h₀))) (.ite (.startCtx h₀) h₀)
theorem exclude {p : Nat} : s₀.lasts (s.exclude p) := by
  unfold State.exclude
  exact .setFlag h₀
theorem failTile {t : Nat} : s₀.lasts (s.failTile t) := by
  unfold State.failTile
  exact .syncTile (.fault (.openPads (.barTile (.setFlag (.withUnit (.put_switching (.exclude h₀)) (fun _ h1 => .setFailed
    h1))))))
theorem spareTile {t : Nat} : s₀.lasts (s.spareTile t) := by
  unfold State.spareTile
  extract_lets s₁
  have h : s₀.lasts s₁ := by
    unfold s₁
    split
    · exact .fault h₀
    · exact h₀
  clear_value s₁
  split
  · exact .failTile h
  · exact .syncTile (.ite (.fltEvent (.setFld (.put_stray_switching_spares (.ite (.exclude h) (.setFlag (.closePads (.exclude h)))))))
      (.setFld (.put_stray_switching_spares (.ite (.exclude h) (.setFlag (.closePads (.exclude h)))))))
theorem spareClock {t : Nat} : s₀.lasts (s.spareClock t) := by
  unfold State.spareClock
  exact .wr (.drawn (.wr (.loadCopy h₀)))
theorem lostEntry {idx : Nat} : s₀.lasts (s.lostEntry idx) := by
  unfold State.lostEntry
  dsimp only
  split
  · exact .ite (.clearSlot h₀) h₀
  · exact .freeEntry (.putRecord (.ite (.clearSlot h₀) h₀))
theorem lostLog {idx : Nat} : s₀.lasts (s.lostLog idx) := by
  unfold State.lostLog
  exact .bump (.put h₀)
theorem lostGolden {e addr : Nat} : s₀.lasts (s.lostGolden e addr) := by
  unfold State.lostGolden
  dsimp only
  split
  · exact .ite (.put_golden (.setFlag h₀)) (.put_goldenDispatch (.setFlag h₀))
  · exact .put_goldenLost (.setFlag h₀)
theorem goodGolden {e : Nat} : s₀.lasts (s.goodGolden e) := by
  unfold State.goodGolden
  exact .setFlag h₀
theorem uncorrectable {mem : GuardedMem} {idx : Nat} : s₀.lasts (s.uncorrectable mem idx) := by
  unfold State.uncorrectable
  split
  · exact .put_badTm (.lostWord h₀)
  · exact .lostEntry (.lostWord h₀)
  · exact .logCfgErr (.setFld (.lostWord h₀))
  · exact .lostLog (.lostWord h₀)
  · exact .put_badScript (.lostWord h₀)
  · exact .lostGolden (.lostWord h₀)
  · exact .lostWord h₀
theorem ackFault {v : Word} : s₀.lasts (s.ackFault v) := by
  unfold State.ackFault
  exact .ite h₀ (.fltRefresh (.wr (.put h₀)))
theorem resetDevice : s₀.lasts s.resetDevice := by
  unfold State.resetDevice
  have h := h₀.memWrite (u := { State.reset with
    variant := s.variant, ownerKey := s.ownerKey, ownerSign := s.ownerSign
    regs := s.regs.filter (fun e => keptReg e.1)
    pinIn := s.pinIn, lines := s.lines, hostMem := s.hostMem, scratch := s.scratch, freeCtr := s.freeCtr, pending := s.pending
    clrStrat := s.clrStrat, imageDigest := s.imageDigest, flashQuad := s.flashQuad
    hostLink := if s.hostLink = .reset then .reset else .training }) (fun _ => rfl) id (fun _ => rfl) id
  exact .ite (.setFlag (.each h fun _ _ h1 => .setFlag h1)) (.each h fun _ _ h1 => .setFlag h1)
theorem sealRec : s₀.lasts s.sealRec := by
  unfold State.sealRec
  exact .setFld h₀
theorem noteStep {st tries outcome strategy detail : Nat} : s₀.lasts (s.noteStep st tries outcome strategy detail) := by
  unfold State.noteStep
  exact .setFld (.wr h₀)
theorem clearStrategies : s₀.lasts s.clearStrategies := by
  unfold State.clearStrategies
  exact .ite (.put_clrStrat (.each h₀ (fun _ _ h1 => .setFld h1))) h₀
theorem haltStart : s₀.lasts s.haltStart := by
  unfold State.haltStart
  exact .sealRec (.setFlag (.setFld (.setFld h₀)))
theorem noteAlternate {st strategy : Nat} : s₀.lasts (s.noteAlternate st strategy) := by
  unfold State.noteAlternate
  exact .fault h₀
theorem plainStep {st n : Nat} {outs : List Bool} {detail : Nat → Nat} : s₀.lasts (s.plainStep st n outs detail).2 := by
  unfold State.plainStep
  dsimp only
  split
  · exact .haltStart (.noteStep h₀)
  · exact .noteStep h₀
theorem loadFuses {v33 : List Bool} : s₀.lasts (s.loadFuses v33) := by
  unfold State.loadFuses
  exact .each (.put_unsensed (.wr (.wr (.wr (.wr (.wr (.wr h₀))))))) (fun _ _ h1 => .setFlag h1)
theorem loadImage {o : StartObs} : s₀.lasts (s.loadImage o) := by
  unfold State.loadImage
  exact .each h₀ (fun _ _ h1 => .setFlag (.wr (.wr (.wr (.wr h1)))))
theorem loadPage {bytes : List Byte} : s₀.lasts (s.loadPage bytes) := by
  unfold State.loadPage
  exact .ite h₀ (.each h₀ (fun _ _ h1 => .wr h1))
theorem checkPage {take : Bool} : s₀.lasts (s.checkPage take) := by
  unfold State.checkPage
  exact .ite (.setFld (.each (.each (.put_trimmed (.setFlag (.setFlag h₀))) (fun _ _ h1 => .setFlag h1)) (fun _ _ h1 => .setFlag
    h1))) (.fltEvent (.fault (.setFld (.each (.each (.put_trimmed (.setFlag (.setFlag h₀))) (fun _ _ h1 => .setFlag h1)) (fun
    _ _ h1 => .setFlag h1)))))
theorem startKeystone {o : StartObs} : s₀.lasts (s.startKeystone o) := by
  unfold State.startKeystone
  exact .setFld (.each h₀ (fun _ _ h1 => .startCtx (.setCf (.wr h1))))
theorem mapSpares {bad : List Nat} : s₀.lasts (s.mapSpares bad) := by
  unfold State.mapSpares
  refine .ite (.fltEvent (.setFld (.each (.each h₀ (fun _ _ h1 => .exclude h1)) (fun _ _ h1 => ?_)))) (.setFld (.each (.each h₀
    (fun _ _ h1 => .exclude h1)) (fun _ _ h1 => ?_)))
  · split
    · exact .setFlag (.setFlag (.put h1))
    · exact .fault (.setFailed h1)
  · split
    · exact .setFlag (.setFlag (.put h1))
    · exact .fault (.setFailed h1)
theorem restartService : s₀.lasts s.restartService := by
  unfold State.restartService
  exact .each h₀ (fun _ _ h1 => .each h1 (fun _ _ h2 => .startCtx (.setCf h2)))
theorem startService {o : StartObs} : s₀.lasts (s.startService o) := by
  unfold State.startService
  exact .setFld (.wr (.each (.each (.restartService (.each h₀ (fun _ _ h1 => .wr h1))) (fun _ _ h1 => .setFlag (.wr (.wr (.wr
    h1))))) (fun _ _ h1 => .setFlag (.wr (.wr (.wr h1))))))
theorem startEdges {o : StartObs} {k : Nat} : s₀.lasts (s.startEdges o k) := by
  unfold State.startEdges
  exact .reach h₀
theorem startNs {o : StartObs} {k : Nat} : s₀.lasts (s.startNs o k) := by
  unfold State.startNs
  exact .reach h₀
theorem ready {mark : Bool} : s₀.lasts (s.ready mark) := by
  unfold State.ready
  exact .sealRec (.ite (.fltEvent (.setFld (.setFld h₀))) (.setFld (.setFld h₀)))
theorem startTail {o : StartObs} {warm mark : Bool} {i : Nat} : s₀.lasts (s.startTail o warm i mark) := by
  unfold State.startTail
  extract_lets s₁ s₁' s₂ s₃ s₄
  have h₂ : s₀.lasts s₂ := .put_subsys (.setFlag (.loadImage (.setFld (.noteStep (.startNs h₀)))))
  have h₄ : s₀.lasts s₄ := .startNs (.ite h₂ (.put_imageDigest h₂))
  clear_value s₄
  split
  · exact .haltStart (.noteStep h₄)
  · extract_lets s₅ calOk s₆ bad s₇ alt8 s₈ s₈' s₉
    have h₆ : s₀.lasts s₆ := .startNs (.noteStep (.checkPage (.loadPage (.startKeystone h₄))))
    have h₈ : s₀.lasts s₈ := .noteStep (.mapSpares (.ite h₆ (.setFld (.wr (.wr h₆)))))
    have h₉ : s₀.lasts s₉ := .put_epUp (.when h₈ fun _ h1 => .noteStep (.startNs h1))
    clear_value s₉
    have hp : s₀.lasts ((s₉.startNs o 10).plainStep 10 2 o.s10 (fun _ => 0)).2 := .plainStep (.startNs h₉)
    generalize (s₉.startNs o 10).plainStep 10 2 o.s10 (fun _ => 0) = p at hp ⊢
    obtain ⟨r, t⟩ := p
    dsimp only at hp ⊢
    split
    · exact hp
    · have h₁ : s₀.lasts (if calOk then t.startService o else (t.startService o).noteAlternate 7 1) :=
        .ite (.startService hp) (.noteAlternate (.startService hp))
      exact .ready (.ite (.ite (.noteAlternate h₁) h₁) (.noteAlternate (.ite (.noteAlternate h₁) h₁)))
theorem noteRefused {o : StartObs} {b : Nat} {till : Option Nat} : s₀.lasts (s.noteRefused o b till) := by
  unfold State.noteRefused
  exact .ite h₀ (.noteStep h₀)
theorem startImage {o : StartObs} {warm mark : Bool} : s₀.lasts (s.startImage o warm mark) := by
  unfold State.startImage
  dsimp only
  split
  · exact .startTail (.ite (.noteStep (.noteRefused (.startNs (.put h₀)))) (.noteAlternate (.noteStep (.noteRefused (.startNs
      (.put h₀))))))
  · exact .put_startWait_feedAt_epUp (.sealRec (.setFlag (.noteStep (.noteStep (.noteRefused (.startNs (.put h₀)))))))
theorem startSram {o : StartObs} {mark : Bool} : s₀.lasts (s.startSram o mark) := by
  unfold State.startSram
  dsimp only
  split
  · exact .startImage (.ite (.setFlag (.noteStep (.startNs h₀))) (.noteAlternate (.setFlag (.noteStep (.startNs h₀)))))
  · exact .ite (.haltStart (.setFlag (.noteStep (.startNs h₀)))) (.startImage (.noteAlternate (.setFlag (.noteStep (.startNs
      h₀)))))
theorem startUp {o : StartObs} {warm : Bool} : s₀.lasts (s.startUp o warm) := by
  unfold State.startUp
  extract_lets s₁ s₂ s₃ b2
  have h₁ : s₀.lasts s₁ := .clearStrategies (.ite h₀ (.each h₀ fun _ _ h1 => .clr h1))
  have h₃ : s₀.lasts s₃ := .noteStep (.setFlag (.setFld (.ite (.setFld h₁) (.setFld h₁))))
  clear_value s₃
  generalize hp : State.plainStep _ 2 2 _ _ = p
  have h : s₀.lasts p.2 := hp ▸ .plainStep (.startEdges (.startEdges h₃))
  clear hp
  obtain ⟨r2, t⟩ := p
  dsimp only at h ⊢
  split
  · exact h
  · next i2 =>
    have h : s₀.lasts (if i2 = 0 then t.loadFuses o.v33 else (t.loadFuses o.v33).noteAlternate 2 i2) :=
      .ite (.loadFuses h) (.noteAlternate (.loadFuses h))
    generalize (if i2 = 0 then t.loadFuses o.v33 else (t.loadFuses o.v33).noteAlternate 2 i2) = t at h ⊢
    generalize hp : State.plainStep _ 3 2 _ _ = p
    have h : s₀.lasts p.2 := hp ▸ .plainStep (.startEdges h)
    clear hp
    obtain ⟨r3, t⟩ := p
    dsimp only at h ⊢
    split
    · exact h
    · next i3 =>
      have h : s₀.lasts (((((t.setFlag .droneStat 0 true).startNs o 3).wr .pllStat
          (toW (1 + b2n (i3 = 0) * 2 + b2n (i3 = 1) * 4 + 8 + 16)))).setFlag .fltSpare 8 (decide (i3 = 0))) :=
        .setFlag (.wr (.startNs (.setFlag h)))
      generalize State.setFlag _ .fltSpare 8 _ = t at h ⊢
      have h : s₀.lasts (if warm then t.govEvent 4 else t) := .ite (.govEvent h) h
      generalize (if warm then t.govEvent 4 else t) = t at h ⊢
      have h : s₀.lasts (if i3 = 0 then t else (t.noteAlternate 3 i3).fltEvent 3) := .ite h (.fltEvent (.noteAlternate h))
      generalize (if i3 = 0 then t else (t.noteAlternate 3 i3).fltEvent 3) = t at h ⊢
      exact .ite (.startImage (.setFlag (.noteStep h))) (.startSram (.setFlag (.ite (.noteStep (.noteStep h)) h)))
theorem feedGo {accepted : Bool} : s₀.lasts (s.feedGo accepted) := by
  unfold State.feedGo
  split
  · exact h₀
  · exact .ite (.setFlag h₀) (.ite (.startTail (.noteAlternate (.noteStep (.put_startWait (.setFlag h₀))))) (.haltStart
      (.noteStep (.noteStep (.put_startWait (.setFlag h₀))))))
theorem writeStartCtrl {v : Word} : s₀.lasts (s.writeStartCtrl v) := by
  unfold State.writeStartCtrl
  exact .ite (.sealRec (.each (.wr (.setFld (.ite (.put h₀) h₀))) (fun _ _ h1 => .setFld h1))) (.ite (.put h₀) h₀)
theorem setDma {c : Nat} {x : Dma} : s₀.lasts (s.setDma c x) := by
  unfold State.setDma
  exact .put h₀
theorem onDma {c : Nat} {f : Dma → Dma} : s₀.lasts (s.onDma c f) := by
  unfold State.onDma
  exact .setDma h₀
theorem dmaEvent {c b : Nat} : s₀.lasts (s.dmaEvent c b) := by
  unfold State.dmaEvent
  exact .event h₀
theorem dmaDrop {c : Nat} : s₀.lasts (s.dmaDrop c) := by
  unfold State.dmaDrop
  exact .bump h₀
theorem putDmaByte {sp a : Nat} {b : Byte} : s₀.lasts (s.putDmaByte sp a b) := by
  unfold State.putDmaByte
  exact .ite (.memWrite h₀ id (Memory.wf_putByte _ _ _) id id) (.ite (.memWrite h₀ (Memory.wf_putByte _ _ _) id id id) h₀)
theorem putDmaWord {sp a : Nat} {w : Word} : s₀.lasts (s.putDmaWord sp a w) := by
  unfold State.putDmaWord
  exact .ite (.healTm (.foldl h₀ fun _ _ h1 => .putDmaByte h1)) (.foldl h₀ fun _ _ h1 => .putDmaByte h1)
theorem putDmaWords {sp a : Nat} {ws : List Word} : s₀.lasts (s.putDmaWords sp a ws) := by
  unfold State.putDmaWords
  exact .foldl h₀ fun _ _ h1 => .putDmaWord h1
theorem dmaHalt {c kind cause sp : Nat} {addr : Nat} {write : Bool} : s₀.lasts (s.dmaHalt c kind cause sp addr write) := by
  unfold State.dmaHalt
  exact .ite (.logEvent (.setFlag (.when (.dmaEvent (.bump (.wr (.wr (.wr (.withUnit h₀ (fun _ h1 => .setFld (.setFlag (.setFlag
    h1))))))))) (fun _ h1 => .lostWord h1)))) (.when (.dmaEvent (.bump (.wr (.wr (.wr (.withUnit h₀ (fun _ h1 => .setFld
    (.setFlag (.setFlag h1))))))))) (fun _ h1 => .lostWord h1))
theorem doorbell {c : Nat} : s₀.lasts (s.doorbell c) := by
  unfold State.doorbell
  exact .ite (.onDma h₀) (.setFlag h₀)
theorem burstNow {c : Nat} : s₀.lasts (s.burstNow c) := by
  unfold State.burstNow
  exact .onDma h₀
theorem bellKept {c : Nat} : s₀.lasts (s.bellKept c) := by
  unfold State.bellKept
  exact .ite (.setFlag (.onDma h₀)) h₀
theorem dropDesc {c : Nat} : s₀.lasts (s.dropDesc c) := by
  unfold State.dropDesc
  exact .withUnit h₀ (fun _ h1 => .wr (.setFlag (.onDma h1)))
theorem stepHead {c : Nat} : s₀.lasts (s.stepHead c) := by
  unfold State.stepHead
  exact .wr h₀
theorem completeDesc {c err count : Nat} : s₀.lasts (s.completeDesc c err count) := by
  unfold State.completeDesc
  dsimp only
  split
  · exact .dmaHalt h₀
  · exact .onDma (.dropDesc (.stepHead (.when (.bumpW (.ite (.dmaEvent (.putDmaWord (.putDmaWord h₀))) (.putDmaWord (.putDmaWord
      h₀)))) (fun _ h1 => .bump h1))))
theorem writeTail {c : Nat} {v : Word} : s₀.lasts (s.writeTail c v) := by
  unfold State.writeTail
  exact .doorbell (.wr (.wakeUp h₀))
theorem writeEn {c : Nat} {on : Bool} : s₀.lasts (s.writeEn c on) := by
  unfold State.writeEn
  exact .ite h₀ (.ite (.setFlag (.onDma (.dropDesc (.withUnit h₀ (fun _ h1 => .setFlag h1))))) (.dropDesc (.withUnit h₀ (fun _
    h1 => .setFlag h1))))
theorem writePause {c : Nat} {on : Bool} : s₀.lasts (s.writePause c on) := by
  unfold State.writePause
  exact .ite h₀ (.ite (.dmaEvent (.setFlag (.withUnit h₀ (fun _ h1 => .setFlag h1)))) (.ite (.setFlag (.withUnit h₀ (fun _ h1 =>
    .setFlag h1))) (.bellKept (.burstNow (.setFlag (.withUnit h₀ (fun _ h1 => .setFlag h1)))))))
theorem pauseWrite {m : Master} {c : Nat} {on : Bool} : s₀.lasts (s.pauseWrite m c on) := by
  unfold State.pauseWrite
  exact .ite h₀ (.writePause (.onDma h₀))
theorem leaveHalt {c : Nat} : s₀.lasts (s.leaveHalt c) := by
  unfold State.leaveHalt
  exact .when (.onDma (.ite (.setFlag (.withUnit h₀ (fun _ h1 => .setFld (.setFlag h1)))) (.withUnit h₀ (fun _ h1 => .setFld
    (.setFlag h1))))) (fun _ h1 => .bellKept (.burstNow h1))
theorem dmaResume {c : Nat} : s₀.lasts (s.dmaResume c) := by
  unfold State.dmaResume
  exact .ite (.dropDesc (.leaveHalt h₀)) h₀
theorem dmaSkip {c : Nat} : s₀.lasts (s.dmaSkip c) := by
  unfold State.dmaSkip
  exact .ite (.completeDesc (.leaveHalt h₀)) h₀
theorem writeDmaCtrl {m : Master} {c : Nat} {v : Word} : s₀.lasts (s.writeDmaCtrl m c v) := by
  unfold State.writeDmaCtrl
  exact .ite (.dmaSkip (.ite (.dmaResume (.writeEn (.pauseWrite (.ite h₀ (.ite (.dmaDrop h₀) (.setFld h₀)))))) (.writeEn
    (.pauseWrite (.ite h₀ (.ite (.dmaDrop h₀) (.setFld h₀))))))) (.ite (.dmaResume (.writeEn (.pauseWrite (.ite h₀ (.ite
    (.dmaDrop h₀) (.setFld h₀)))))) (.writeEn (.pauseWrite (.ite h₀ (.ite (.dmaDrop h₀) (.setFld h₀))))))
theorem writeRing {c : Nat} {r : DmaRingReg} {v : Word} : s₀.lasts (s.writeRing c r v) := by
  unfold State.writeRing
  split
  · exact .ite (.dmaDrop h₀) (.wr h₀)
  · exact .ite (.dmaDrop h₀) (.wr h₀)
  · exact .ite (.dmaDrop h₀) (.wr h₀)
  · exact .ite (.dmaDrop h₀) (.onDma (.wr h₀))
  · exact .ite (.dmaDrop h₀) (.wr h₀)
theorem clrDma : s₀.lasts s.clrDma := by
  unfold State.clrDma
  exact .each h₀ (fun _ _ h1 => .clr h1)
theorem dmaReleased {c : Nat} : s₀.lasts (s.dmaReleased c) := by
  unfold State.dmaReleased
  exact .when (.onDma h₀) (fun _ h1 => .bellKept (.burstNow h1))
theorem queueReply {k : Nat} {ws : List Word} : s₀.lasts (s.queueReply k ws) := by
  unfold State.queueReply
  exact .pumpReply (.setReplies h₀)
theorem taskReply {x : Nat} {buf size : Nat} {ws : List Word} {st : Nat} : s₀.lasts (s.taskReply x buf size ws st) := by
  unfold State.taskReply
  exact .ite h₀ (.onCtx (.foldl h₀ fun _ _ h1 => .setTm h1))
theorem beginLong {op : LongOp} : s₀.lasts (s.beginLong op) := by
  unfold State.beginLong
  exact .put h₀
theorem endLong {n : Nat} : s₀.lasts (s.endLong n) := by
  unfold State.endLong
  exact .put h₀
theorem sendCompletion {o : LongOp} {st : Nat} {res : List Word} : s₀.lasts (s.sendCompletion o st res) := by
  unfold State.sendCompletion
  split
  · exact .ite (.endLong h₀) (.ite (.setStall h₀) (.queueReply (.endLong h₀)))
  · exact .ite (.endLong h₀) (.ite (.setStall h₀) (.queueReply (.endLong h₀)))
  · refine .ite (.onDma (.endLong h₀)) (.ite (.endLong h₀) ?_)
    split
    · exact .ite h₀ (.ite (.dmaEvent (.putDmaWord (.putDmaWords (.endLong h₀)))) (.putDmaWord (.putDmaWords (.endLong h₀))))
  · split
    · exact .taskReply (.endLong h₀)
theorem completeLong {n : Nat} : s₀.lasts (s.completeLong n) := by
  unfold State.completeLong
  split
  · split
    · exact .sendCompletion h₀
    · exact h₀
  · exact h₀
theorem finishNow {n st : Nat} {res : List Word} : s₀.lasts (s.finishNow n st res) := by
  unfold State.finishNow
  exact .completeLong (.finishOp h₀)
theorem setAo {w : Word} : s₀.lasts (s.setAo w) := by
  unfold State.setAo
  exact .put_aoAt (.wr h₀)
theorem setLast {st : Nat} : s₀.lasts (s.setLast st) := by
  unfold State.setLast
  exact .setFld h₀
theorem pstateReq {target : Nat} {force host : Bool} {op : Option Nat} : s₀.lasts (s.pstateReq target force host op).2 := by
  unfold State.pstateReq
  exact .ite2 h₀ (.ite2 h₀ (.ite2 h₀ (.ite2 h₀ (.put_pwrReq (.setFlag h₀)))))
theorem writePstateReq {m : Master} {v : Word} : s₀.lasts (s.writePstateReq m v) := by
  unfold State.writePstateReq
  dsimp only
  split
  · exact .accErr h₀
  · exact .accErr h₀
  · exact .dropWrite h₀
  · exact .setLast (.pstateReq h₀)
theorem sleepDomains : s₀.lasts s.sleepDomains := by
  unfold State.sleepDomains
  exact .put_edges (.makeClears (.each h₀ (fun _ _ h1 => .withdraw (.ite (.stall h1) h1))))
theorem sleepLinks : s₀.lasts s.sleepLinks := by
  unfold State.sleepLinks
  refine .memWrite (.ite ?_ (.setFlag ?_)) id id (fun _ => rfl) id
  all_goals
    refine .each (.put_slew (.ite (.each h₀ fun _ _ h1 => .dropLink h1)
      (.setFld (.setFlag (.unalign (.each h₀ fun _ _ h1 => .dropLink h1)))))) (fun t p h1 => .portFlushAll ?_)
    split
    · exact .portFinish (.onPort h1)
    · exact h1
theorem latchWake {l : List Nat} : s₀.lasts (s.latchWake l) := by
  unfold State.latchWake
  exact .ite h₀ (.put_waking (.each h₀ (fun _ _ h1 => .setFlag h1)))
theorem commitSleep {t : Nat} : s₀.lasts (s.commitSleep t) := by
  unfold State.commitSleep
  exact .ite (.latchWake (.ite (.setFld (.wr (.resetDevice (.setFld (.govEvent (.syncTiles (.setFld (.ite (.put_aoEntry_hostLink
    (.setFlag (.ite (.put_clockStop (.closePads (.each h₀ (fun _ _ h1 => .setFlag h1)))) (.each h₀ (fun _ _ h1 => .setFlag
    h1))))) (.ite (.put_clockStop (.closePads (.each h₀ (fun _ _ h1 => .setFlag h1)))) (.each h₀ (fun _ _ h1 => .setFlag
    h1))))))))))) (.govEvent (.syncTiles (.setFld (.ite (.put_aoEntry_hostLink (.setFlag (.ite (.put_clockStop (.closePads
    (.each h₀ (fun _ _ h1 => .setFlag h1)))) (.each h₀ (fun _ _ h1 => .setFlag h1))))) (.ite (.put_clockStop (.closePads
    (.each h₀ (fun _ _ h1 => .setFlag h1)))) (.each h₀ (fun _ _ h1 => .setFlag h1))))))))) (.ite (.setFld (.wr (.resetDevice
    (.setFld (.govEvent (.syncTiles (.setFld (.ite (.put_aoEntry_hostLink (.setFlag (.ite (.put_clockStop (.closePads (.each
    h₀ (fun _ _ h1 => .setFlag h1)))) (.each h₀ (fun _ _ h1 => .setFlag h1))))) (.ite (.put_clockStop (.closePads (.each h₀
    (fun _ _ h1 => .setFlag h1)))) (.each h₀ (fun _ _ h1 => .setFlag h1))))))))))) (.govEvent (.syncTiles (.setFld (.ite
    (.put_aoEntry_hostLink (.setFlag (.ite (.put_clockStop (.closePads (.each h₀ (fun _ _ h1 => .setFlag h1)))) (.each h₀ (fun
    _ _ h1 => .setFlag h1))))) (.ite (.put_clockStop (.closePads (.each h₀ (fun _ _ h1 => .setFlag h1)))) (.each h₀ (fun _ _
    h1 => .setFlag h1))))))))
theorem endPwr {r : PwrReq} {st : Nat} {w : Word} : s₀.lasts (s.endPwr r st w) := by
  unfold State.endPwr
  split
  · exact .finishNow (.put_pwrReq (.setLast (.setFlag h₀)))
  · exact .put_pwrReq (.setLast (.setFlag h₀))
theorem advanceAo {ticks : Nat} : s₀.lasts (s.advanceAo ticks) := by
  unfold State.advanceAo
  exact .setAo (.wr (.put_aoRem (.stepTo h₀)))
theorem leaveSlumber : s₀.lasts s.leaveSlumber := by
  unfold State.leaveSlumber
  extract_lets s₁ s₂ s₃ s₄
  have h₁ : s₀.lasts s₁ := .each h₀ fun _ _ h1 => .freeLock h1
  have h₂ : s₀.lasts s₂ := .memWrite h₁ (Memory.wf_filter _ _) id id id
  clear_value s₂
  exact .restartService (.each (.each h₂ fun _ _ h1 => .clr h1) fun _ _ h1 => .writeEn h1)
theorem loadCopies {deep : Bool} : s₀.lasts (s.loadCopies deep) := by
  unfold State.loadCopies
  exact .each h₀ (fun _ _ h1 => .loadCopy h1)
theorem clocksRun : s₀.lasts s.clocksRun := by
  unfold State.clocksRun
  split
  · exact h₀
  · exact .put h₀
theorem tilesGo {deep : Bool} : s₀.lasts (s.tilesGo deep) := by
  unfold State.tilesGo
  exact .each (.each (.openPads (.syncTiles (.clocksRun (.loadCopies h₀)))) (fun _ _ h1 => .loadFols h1)) (fun _ _ h1 => .each
    h1 (fun _ _ h2 => .ite (.judgeSlot h2) h2))
theorem logRestart : s₀.lasts s.logRestart := by
  unfold State.logRestart
  exact .when (.freshSigs (.logReturns (.wr (.wr h₀)))) (fun _ h1 => .markDue h1)
theorem toRun {ts : Stamp} : s₀.lasts (s.toRun ts) := by
  unfold State.toRun
  exact .when (.ite (.tilesGo (.ite (.each (.logRestart (.each (.put_waking_wakePin (.reach (.setFld (.when (.ite (.leaveSlumber
    h₀) h₀) (fun _ h1 => .setFlag h1))))) (fun _ _ h1 => .reseek h1))) (fun _ _ h1 => .ttPlan h1)) (.put_waking_wakePin
    (.reach (.setFld (.when (.ite (.leaveSlumber h₀) h₀) (fun _ h1 => .setFlag h1))))))) (.ite (.each (.logRestart (.each
    (.put_waking_wakePin (.reach (.setFld (.when (.ite (.leaveSlumber h₀) h₀) (fun _ h1 => .setFlag h1))))) (fun _ _ h1 =>
    .reseek h1))) (fun _ _ h1 => .ttPlan h1)) (.put_waking_wakePin (.reach (.setFld (.when (.ite (.leaveSlumber h₀) h₀) (fun _
    h1 => .setFlag h1))))))) (fun _ h1 => .govEvent h1)
theorem abandon {r : PwrReq} : s₀.lasts (s.abandon r) := by
  unfold State.abandon
  exact .endPwr (.toRun (.bump (.setFlag (.ite (.sleepLinks (.ite (.sleepDomains (.drawn h₀)) (.drawn h₀))) (.ite (.sleepDomains
    (.drawn h₀)) (.drawn h₀))))))
theorem slotsFire {l : List Nat} : s₀.lasts (s.slotsFire l) := by
  unfold State.slotsFire
  refine .ite h₀ ?_
  split
  · exact .ite (.abandon h₀) h₀
  · exact .ite h₀ (.latchWake h₀)
theorem setWatched {src : WatchSrc} {level : Bool} : s₀.lasts (s.setWatched src level) := by
  unfold State.setWatched
  split
  · exact .put h₀
  · exact .put h₀
  · exact .put h₀
  · exact .put h₀
  · exact h₀
theorem writeWwSlot {n : Nat} {v : Word} : s₀.lasts (s.writeWwSlot n v) := by
  unfold State.writeWwSlot
  exact .ite h₀ (.wr h₀)
theorem readLow {m : Master} {q : Linked} : s₀.lasts (s.readLow m q).2 := by
  unfold State.readLow
  refine .ite2 h₀ ?_
  split
  · exact .ite (.setLatch (.wakeFor h₀)) (.wakeFor h₀)
  · exact .ackCapture (.setLatch (.wakeFor h₀))
  · exact .setLatch (.wakeFor h₀)
theorem read64 {q : Linked} : s₀.lasts (s.read64 q) := by
  unfold State.read64
  refine .ite (.setRead (.put h₀)) (.setRead (.put_readHi ?_))
  split
  · exact .ackCapture (.wakeFor h₀)
  · exact .wakeFor h₀
theorem readOn {m : Master} {f : State → Word × State} (hf : ∀ t, s₀.lasts t → s₀.lasts (f t).2) : s₀.lasts (s.readOn m f) := by
  unfold State.readOn
  exact .ite (.setRead h₀) (.onBus h₀ (fun _ h1 => .setRead (hf _ h1)))
theorem readKey {m : Master} {k : RegKey} : s₀.lasts (s.readKey m k).2 := by
  unfold State.readKey
  refine .ite2 h₀ ?_
  split
  · exact .ite2 (.wakeFor h₀) (.readLow (.wakeFor h₀))
  · exact .lockRead (.wakeFor h₀)
  · exact .supClaim (.wakeFor h₀)
  · exact .wakeFor h₀
theorem plainWrite {k : RegKey} {v : Word} : s₀.lasts (s.plainWrite k v) := by
  unfold State.plainWrite
  exact .wr h₀
theorem writeCmdMbox {v : Word} : s₀.lasts (s.writeCmdMbox v) := by
  unfold State.writeCmdMbox
  exact .each h₀ (fun _ _ h1 => .setFlag h1)
theorem clrSys : s₀.lasts s.clrSys := by
  unfold State.clrSys
  exact .clr (.each h₀ (fun _ _ h1 => .setFld h1))
theorem writeUnit {m : Master} {k : RegKey} {v : Word} : s₀.lasts (s.writeUnit m k v) := by
  unfold State.writeUnit
  split
  · exact .ite (.clrSys h₀) h₀
  · exact .writeCmdMbox h₀
  · exact .ite (.clrDroneStats h₀) h₀
  · refine .ite h₀ ?_
    split
    · exact .setChCtrl h₀
    · exact .writeStopped h₀
    · exact .writeStopped h₀
    · exact .writeShadow h₀
    · exact .writeShadow h₀
    · exact .writeShadow h₀
    · exact .writeShadow h₀
    · exact .writeShadow h₀
    · exact .writeShadow h₀
    · exact .writeShadow h₀
    · exact .writeShadow h₀
    · exact .writeShadow h₀
    · exact .writeBrCtrl h₀
    · exact .writeTileCtrl h₀
    · exact .startMask h₀
    · exact .stopTile h₀
    · exact .commitMask h₀
    · exact .armStart h₀
    · exact .clearTrips h₀
    · exact .writeTripLvl h₀
    · exact .writeFol h₀
    · exact .dropTrips (.withSum h₀ (fun _ h1 => .plainWrite h1))
    · exact .dropTrips (.withSum h₀ (fun _ h1 => .plainWrite h1))
    · exact .withSum h₀ (fun _ h1 => .plainWrite h1)
  · exact .ite (.storePin h₀) (.accErr h₀)
  · exact .ite (.dropTrips (.plainWrite h₀)) h₀
  · exact .writeDom h₀
  · exact .ite (.clrCal h₀) h₀
  · exact .writePart h₀
  · exact .writeCq h₀
  · exact .writeCq h₀
  · exact .writeCqRd h₀
  · exact .plainWrite h₀
  · exact .ctxCmd h₀
  · exact .writeGov h₀
  · exact .writeGov h₀
  · exact .writeGov h₀
  · exact .writeGov h₀
  · exact .writeGov h₀
  · exact .writeGov h₀
  · exact .writeGov h₀
  · exact .writeGov h₀
  · exact .writeWwSlot h₀
  · exact .writeCat0 h₀
  · exact .writeCat12 h₀
  · exact .writeCat12 h₀
  · exact .writeLogCtrl h₀
  · exact .writeLogRing h₀
  · exact .writeLogRd h₀
  · exact .writeLogThresh h₀
  · split
    · exact .writePortCfg h₀
    · exact .writePortCfg h₀
    · exact .writePortCfg h₀
    · exact .writePortCfg h₀
    · exact .writePortCfg h₀
    · exact .writePortCfg h₀
    · exact .writePortCfg h₀
    · exact .writePortCfg h₀
    · exact .writeTt h₀
    · exact .writeTt h₀
    · exact .writeTt h₀
    · exact .writeTt h₀
    · exact .writeTt h₀
    · exact .ite (.clrPort (.ite (.portFlush (.ite (.portStop h₀) h₀)) (.ite (.portStop h₀) h₀))) (.ite (.portFlush (.ite
        (.portStop h₀) h₀)) (.ite (.portStop h₀) h₀))
    · exact .writeScript h₀
    · exact .plainWrite h₀
  · exact .writeMl h₀
  · exact .writeMl h₀
  · exact .ite (.clrBoxes h₀) h₀
  · exact .ite (.lockRelease h₀) h₀
  · exact .ite (.setFld h₀) h₀
  · split
    · exact .writeDmaCtrl h₀
    · exact .writeRing h₀
    · exact .writeRing h₀
    · exact .writeRing h₀
    · exact .writeRing h₀
    · exact .writeRing h₀
    · exact .writeTail h₀
    · exact .ite (.clrDma h₀) h₀
    · exact .plainWrite h₀
  · exact .ackFault h₀
  · exact .writeStartCtrl h₀
  · exact .ite (.wr h₀) (.accErr h₀)
  · exact .ite (.accErr h₀) (.ite (.feedGo (.drawn h₀)) h₀)
  · exact .ite (.accErr h₀) (.plainWrite h₀)
  · exact h₀
  · exact .plainWrite h₀
theorem setUnit {u v : Nat} : s₀.lasts (s.setUnit u v) := by
  unfold State.setUnit
  exact .ite (.withUnit h₀ (fun _ h1 => .setPaused h1)) (.ite (.writePause h₀) h₀)
theorem heldChange {u : Nat} {was : Bool} : s₀.lasts (s.heldChange u was) := by
  unfold State.heldChange
  exact .ite (.dmaReleased (.ite (.each (.ite (.stageAll (.ite (.barTile h₀) h₀)) (.ite (.barTile h₀) h₀)) (fun _ _ h1 =>
    .stageAll h1)) (.ite (.stageAll (.ite (.barTile h₀) h₀)) (.ite (.barTile h₀) h₀)))) (.ite (.each (.ite (.stageAll (.ite
    (.barTile h₀) h₀)) (.ite (.barTile h₀) h₀)) (fun _ _ h1 => .stageAll h1)) (.ite (.stageAll (.ite (.barTile h₀) h₀)) (.ite
    (.barTile h₀) h₀)))
theorem supReq {u req : Nat} : s₀.lasts (s.supReq u req) := by
  unfold State.supReq
  exact .ite h₀ (.ite (.accErr h₀) (.heldChange (.ite (.setUnit (.withUnit h₀ (fun _ h1 => .setFld h1))) (.withUnit h₀ (fun _ h1
    => .setFld h1)))))
theorem writeKey {m : Master} {k : RegKey} {v : Word} : s₀.lasts (s.writeKey m k v) := by
  unfold State.writeKey
  split
  · exact .ite (.supReq h₀) (.accErr h₀)
  · exact .writeData h₀
  · exact .ite (.writeDone (.ite (.writeGo h₀) h₀)) (.ite (.writeGo h₀) h₀)
  · exact .writeMbCfg h₀
  · exact .writeRoute h₀
  · exact .writeEnSet h₀
  · exact .writeEnClr h₀
  · exact .writePendSet h₀
  · exact .writePendClr h₀
  · exact .writePrvPend h₀
  · exact .writePrv h₀
  · exact .writePrv h₀
  · exact .writePrv h₀
  · exact .writePrv h₀
  · exact .ite (.writeHostPm h₀) h₀
  · exact .writeHostEoi h₀
  · exact .writeSupEoi h₀
  · exact .ite (.clrInt h₀) h₀
  · exact .writeVecMod h₀
  · exact .ite (.plainWrite h₀) (.intDrop h₀)
  · exact .ite (.plainWrite h₀) (.intDrop h₀)
  · exact .ite (.plainWrite h₀) (.intDrop h₀)
  · exact .ite (.plainWrite h₀) (.intDrop h₀)
  · exact .gate h₀ (fun _ h1 => .writeBudget h1)
  · exact .writePstateReq h₀
  · exact .gate h₀ (fun _ h1 => .writeUnit h1)
theorem busRead {m : Master} {off width : Nat} : s₀.lasts (s.busRead m off width).2 := by
  unfold State.busRead
  refine .ite2 (.put h₀) (.ite2 (.accErr h₀) ?_)
  split
  · exact .ite2 (.accErr h₀) (.ite2 (.accErr h₀) (.ite2 (.accErr h₀) h₀))
  · refine .ite2 ?_ (.ite2 (.accErr h₀) (.ite2 (.accErr h₀) ?_))
    · split
      · exact .read64 h₀
      · exact h₀
    · split
      · exact .readKey h₀
      · exact .ite2 (.wakeFor h₀) h₀
      · exact .accErr h₀
theorem busWrite {m : Master} {off width : Nat} {v : Word} : s₀.lasts (s.busWrite m off width v) := by
  unfold State.busWrite
  refine .ite (.accErr h₀) (.ite (.accErr h₀) ?_)
  split
  · refine .ite (.accErr h₀) (.ite (.accErr h₀) (.ite (.accErr h₀) ?_))
    split
    · exact .memWrite h₀ (Memory.wf_putByte _ _ _) id id id
    · exact .memWrite h₀ (Memory.wf_putHalf _ _ _) id id id
    · exact .setTm h₀
  · refine .ite h₀ (.ite (.accErr h₀) ?_)
    split
    · exact .writeKey h₀
    · exact .accErr h₀
theorem raiseFault {x code : Nat} {addr : Nat} : s₀.lasts (s.raiseFault x code addr) := by
  unfold State.raiseFault
  exact .onCtx h₀
theorem noteCheck {e code l : Nat} : s₀.lasts (s.noteCheck e code l) := by
  unfold State.noteCheck
  exact .wr (.wr (.wr (.setFld (.setFld h₀))))
theorem memoryCheck {x addr : Nat} : s₀.lasts (s.memoryCheck x addr) := by
  unfold State.memoryCheck
  exact .raiseFault (.noteCheck (.bump (.lostWord h₀)))
theorem reading {x : Nat} {a n align : Nat} {f : State → State} (hf : ∀ t, s₀.lasts t → s₀.lasts (f t)) : s₀.lasts (s.reading x
    a n align f) := by
  unfold State.reading
  split
  · exact .raiseFault h₀
  · split
    · exact .memoryCheck h₀
    · exact hf _ h₀
theorem writing {x : Nat} {a n align : Nat} {f : State → State} (hf : ∀ t, s₀.lasts t → s₀.lasts (f t)) : s₀.lasts (s.writing x
    a n align f) := by
  unfold State.writing
  split
  · exact .raiseFault h₀
  · exact hf _ h₀
theorem hold {x n : Nat} : s₀.lasts (s.hold x n) := by
  unfold State.hold
  exact .onCtx h₀
theorem countIssue {x op : Nat} : s₀.lasts (s.countIssue x op) := by
  unfold State.countIssue
  exact .hold (.put_lastIssue_cycleAt (.touch (.bumpW (.bumpW (.wakeIsland (.reach h₀))))))
theorem chargeWords {x c n : Nat} : s₀.lasts (s.chargeWords x c n) := by
  unfold State.chargeWords
  exact .put h₀
theorem chargeOp {x op : Nat} : s₀.lasts (s.chargeOp x op) := by
  unfold State.chargeOp
  split
  · exact .chargeWords (.each h₀ (fun _ _ h1 => .chargeWords h1))
  · exact .each h₀ (fun _ _ h1 => .chargeWords h1)
theorem microEnd {x : Nat} : s₀.lasts (s.microEnd x) := by
  unfold State.microEnd
  exact .onCtx (.drawn (.each h₀ (fun _ _ h1 => .drawn (.setG h1))))
theorem microRun {fuel x a : Nat} {calls : List Nat} : s₀.lasts (State.microRun fuel s x a calls) := by
  induction fuel generalizing s a calls with
  | zero => exact .microEnd h₀
  | succ fuel ih =>
    unfold State.microRun
    split
    · refine .ite (.raiseFault h₀) ?_
      dsimp only
      split
      · exact ih (.chargeWords h₀)
      · exact ih (.chargeWords h₀)
      · exact ih (.chargeWords h₀)
      · exact ih (.drawn (.chargeWords h₀))
      · exact ih (.chargeWords h₀)
      · split
        · exact ih (.chargeWords h₀)
        · exact .microEnd (.chargeWords h₀)
      · exact .microEnd (.chargeWords h₀)
    · exact .ite (.raiseFault h₀) (.microEnd h₀)
theorem issue {x op : Nat} {fits listed : Bool} {f : State → State} (hf : ∀ t, s₀.lasts t → s₀.lasts (f t)) :
    s₀.lasts (s.issue x op fits f listed) := by
  have h : s₀.lasts (s.countIssue x op) := .countIssue h₀
  unfold State.issue
  refine .ite h₀ ?_
  dsimp only
  split
  · exact .raiseFault h
  · split
    · exact .raiseFault h
    · exact .ite (.microRun h) (.ite (hf _ (.chargeOp h)) (.raiseFault h))
theorem advance {x : Nat} : s₀.lasts (s.advance x) := by
  unfold State.advance
  exact .onCtx h₀
theorem result {x : Nat} {rd : GReg} {r psw : Word} : s₀.lasts (s.result x rd r psw) := by
  unfold State.result
  exact .onCtx (.setG h₀)
theorem await {x : Nat} {regs : List (GReg × Word)} {unit : Bool} : s₀.lasts (s.await x regs unit) := by
  unfold State.await
  exact .onCtx h₀
theorem fabricReply {x : Nat} : s₀.lasts (s.fabricReply x) := by
  unfold State.fabricReply
  split
  · exact .ite h₀ (.touch (.onCtx (.foldl h₀ fun _ _ h1 => .setG h1)))
  · exact h₀
theorem storeVal {a width : Nat} {w : Word} : s₀.lasts (s.storeVal a width w) := by
  unfold State.storeVal
  split
  · exact .memWrite h₀ (Memory.wf_putByte _ _ _) id id id
  · exact .memWrite h₀ (Memory.wf_putHalf _ _ _) id id id
  · exact .setTm h₀
theorem binary {x op : Nat} {fits : Bool} {rd : GReg} {a b : State → Word} {f : Word → Word → Word → Word × Word} : s₀.lasts
    (s.binary x op fits rd a b f) := by
  unfold State.binary
  exact .issue h₀ (fun _ h1 => .result h1)
theorem compare {x op : Nat} {a b : State → Word} : s₀.lasts (s.compare x op a b) := by
  unfold State.compare
  exact .issue h₀ (fun _ h1 => .advance (.onCtx h1))
theorem rrr {x op : Nat} {rd rs rt : GReg} {f : Word → Word → Word → Word × Word} : s₀.lasts (s.rrr x op rd rs rt f) := by
  unfold State.rrr
  exact .binary h₀
theorem readSpecial {x n : Nat} {p : Word × State} (h : s.readSpecial x n = some p) : s₀.lasts p.2 := by
  unfold State.readSpecial at h
  dsimp only at h
  split at h
  case h_7 => cases h; exact .setLatch h₀
  case h_10 => cases h
  all_goals cases h; exact h₀
theorem setNoint {x : Nat} {v afresh : Bool} : s₀.lasts (s.setNoint x v afresh) := by
  unfold State.setNoint
  exact .ite (.ite (.bump (.onCtx h₀)) (.onCtx h₀)) (.onCtx h₀)
theorem writePsw {x : Nat} {v : Word} : s₀.lasts (s.writePsw x v) := by
  unfold State.writePsw
  exact .setNoint (.ite (.onCtx h₀) (.onCtx h₀))
theorem load {x op : Nat} {rd rs : GReg} {imm : BitVec 16} {width : Nat} {signed : Bool} : s₀.lasts (s.load x op rd rs imm width
    signed) := by
  unfold State.load
  exact .issue h₀ (fun _ h1 => .reading h1 (fun _ h2 => .await h2))
theorem store {x op : Nat} {rd rs : GReg} {imm : BitVec 16} {width : Nat} : s₀.lasts (s.store x op rd rs imm width) := by
  unfold State.store
  exact .issue h₀ (fun _ h1 => .writing h1 (fun _ h2 => .advance (.storeVal h2)))
theorem push {x : Nat} {w : Word} {f : State → State} (hf : ∀ t, s₀.lasts t → s₀.lasts (f t)) : s₀.lasts (s.push x w f) := by
  unfold State.push
  exact .writing h₀ (fun _ h1 => hf _ (.onCtx (.setTm h1)))
theorem pop {x : Nat} {f : Word → Reply} : s₀.lasts (s.pop x f) := by
  unfold State.pop
  exact .reading h₀ (fun _ h1 => .onCtx h1)
theorem jump {x : Nat} {a : Word} : s₀.lasts (s.jump x a) := by
  unfold State.jump
  exact .onCtx h₀
theorem branch {x op : Nat} {imm : BitVec 16} {cond : Word → Bool} : s₀.lasts (s.branch x op imm cond) := by
  unfold State.branch
  exact .issue h₀ (fun _ h1 => .ite (.hold (.jump h1)) (.advance h1))
theorem postTo {x t : Nat} {v : Word} : s₀.lasts (s.postTo x t v).2 := by
  unfold State.postTo
  exact .ite2 h₀ (.ite2 h₀ (.post h₀))
theorem tileWrite {x : Fin 128} {t off : Nat} {v : Word} : s₀.lasts (s.tileWrite x t off v) := by
  unfold State.tileWrite
  exact .ite (.bump h₀) (.busWrite h₀)
theorem portx {x p script : Nat} {arg : Word} {notify : Bool} : s₀.lasts (s.portx x p script arg notify).2 := by
  unfold State.portx
  exact .ite2 h₀ (.portTrigger h₀)
theorem waitMet {x : Fin 128} {m : Monitor} {p : List (GReg × Word) × State} (h : s.waitMet x m = some p) : s₀.lasts p.2 := by
  unfold State.waitMet at h
  dsimp only at h
  split at h
  · split at h <;> cases h; exact h₀
  · split at h <;> cases h; exact h₀
  · split at h
    · cases h; exact h₀
    · split at h <;> cases h; exact h₀
  · split at h <;> cases h
    dsimp only
    exact .onCtx h₀
  · split at h
    · cases h; exact h₀
    · split at h <;> cases h; exact h₀
  · split at h
    · split at h <;> cases h
      dsimp only
      exact .lockRead h₀
    · split at h <;> cases h; exact h₀
theorem endWait {x : Nat} {m : Monitor} {regs : List (GReg × Word)} : s₀.lasts (s.endWait x m regs) := by
  unfold State.endWait
  exact .setCtxState (.onCtx (.foldl h₀ fun _ _ h1 => .setG h1))
theorem timeoutWait {x : Nat} {m : Monitor} : s₀.lasts (s.timeoutWait x m) := by
  unfold State.timeoutWait
  exact .endWait (.ite (.askLock h₀) h₀)
theorem judgeWait {x : Fin 128} {m : Monitor} : s₀.lasts (s.judgeWait x m) := by
  unfold State.judgeWait
  split
  next h => exact .endWait (.waitMet h₀ h)
  next => exact .ite (.timeoutWait h₀) (.setCtxState h₀)
theorem waitNs {v : Word} : s₀.lasts (s.waitNs v).2 := by
  unfold State.waitNs
  exact .ite2 h₀ (.drawn h₀)
theorem newMonitor {x kind arg : Nat} {rd rs : GReg} {timed : Bool} : s₀.lasts (s.newMonitor x kind rd rs arg timed) := by
  unfold State.newMonitor
  dsimp only
  generalize hq : (if kind = 1 then _ else _ : Option Stamp × State) = q
  have h : s₀.lasts q.2 := by
    rw [← hq]
    exact .ite2 (.waitNs h₀) (.ite2 (.waitNs h₀) h₀)
  clear hq
  generalize hr : (if kind ≠ 2 then _ else _ : Nat × State) = r
  have h : s₀.lasts r.2 := by
    rw [← hr]
    exact .ite2 h (.ite2 h (.drawn h))
  exact .ite (.askLock (.onCtx h)) (.onCtx h)
theorem wait {x : Fin 128} {kind : Nat} {rd rs : GReg} {arg : BitVec 12} {fits : Bool} : s₀.lasts (s.wait x kind rd rs arg fits)
    := by
  unfold State.wait
  refine .issue h₀ (fun _ h1 => .ite (.raiseFault h1) (.ite (.raiseFault h1) ?_))
  dsimp only
  split
  · exact .judgeWait (.ite h1 (.newMonitor h1))
  · exact .ite h1 (.newMonitor h1)
theorem trap {x call : Nat} {f : State → TrapCall → TrapCall × State} (hf : ∀ t c, s₀.lasts t → s₀.lasts (f t c).2) :
    s₀.lasts (s.trap x call f) := by
  unfold State.trap
  exact .issue h₀ (fun _ h1 => .ite (.setCtxState h1) (.setCtxState (.onCtx (hf _ _ h1))))
theorem lower {x : Nat} {v : Word} : s₀.lasts (s.lower x v).2 := by
  unfold State.lower
  exact .ite2 h₀ (.setCf (.setCf h₀))
theorem stepDone {x phase v : Nat} : s₀.lasts (s.stepDone x phase v) := by
  unfold State.stepDone
  exact .onCtx h₀
theorem longDone {x : Nat} : s₀.lasts (s.longDone x) := by
  unfold State.longDone
  exact .onCtx h₀
theorem readAll {x : Nat} {as : List Nat} {f : List Word → State} (hf : ∀ l, s₀.lasts (f l)) : s₀.lasts (s.readAll x as f) := by
  unfold State.readAll
  split
  next t h =>
    obtain ⟨a, _, ha⟩ := List.exists_of_findSome?_eq_some h
    split at ha
    · cases ha
      exact .raiseFault h₀
    · obtain ⟨b, _, rfl⟩ := Option.map_eq_some_iff.mp ha
      exact .memoryCheck h₀
  next => exact hf _
theorem searchStep {x base lo hi : Nat} {v : Int} {f : Nat → Nat → State} (hf : ∀ i j, s₀.lasts (f i j)) :
    s₀.lasts (s.searchStep x base v lo hi f) := by
  unfold State.searchStep
  exact .readAll h₀ fun _ => .ite (.raiseFault h₀) (.ite (hf _ _) (.ite (hf _ _) (hf _ _)))
theorem deliverTo {x n : Nat} : s₀.lasts (s.deliverTo x n) := by
  unfold State.deliverTo
  exact .ite (.deliver h₀) (.deliverPrv h₀)
theorem reportDone {x n : Nat} : s₀.lasts (s.reportDone x n) := by
  unfold State.reportDone
  exact .ite (.ite (.complete h₀) h₀) (.ite (.completePrv h₀) h₀)
theorem enterHandler {x l n : Nat} : s₀.lasts (s.enterHandler x l n) := by
  unfold State.enterHandler
  refine .ite (.raiseFault h₀) ?_
  split
  · exact .raiseFault h₀
  · exact .hold (.setCtxState (.deliverTo (.onCtx (.foldl h₀ fun _ _ h1 => .setTm h1))))
theorem faultNow {x kind : Nat} {f : CtxFault} : s₀.lasts (s.faultNow x kind f) := by
  unfold State.faultNow
  exact .fltEvent (.fault (.endWork (.onCtx (.bump (.setCr (.setCr (.setCtxState h₀)))))))
theorem rename {x y : Nat} : s₀.lasts (s.rename x y) := by
  unfold State.rename
  exact .each (.ite (.setFld (.each (.each (.each (.each (.each h₀ (fun _ _ h1 => .setFld h1)) (fun _ _ h1 => .setFld h1)) (fun
    _ _ h1 => .setFld (.setFld h1))) (fun _ _ h1 => .setFld h1)) (fun _ _ h1 => .setFld h1))) (.each (.each (.each (.each
    (.each h₀ (fun _ _ h1 => .setFld h1)) (fun _ _ h1 => .setFld h1)) (fun _ _ h1 => .setFld (.setFld h1))) (fun _ _ h1 =>
    .setFld h1)) (fun _ _ h1 => .setFld h1))) (fun _ _ h1 => .put h1)
theorem noteMove {x : Nat} {y : Option Nat} : s₀.lasts (s.noteMove x y) := by
  unfold State.noteMove
  exact .wr h₀
theorem moveCtx {x was : Nat} : s₀.lasts (s.moveCtx x was) := by
  unfold State.moveCtx
  dsimp only
  split
  · exact .fltEvent (.noteMove (.setCtxState (.setCr (.freeLocks h₀))))
  · exact .noteMove (.rename (.setCtx (.setCtxState (.setCtxState (.setCr (.setLatch (.setCtx (.each (.foldl (.freeLocks h₀) fun
      _ _ h1 => .setCr h1) (fun _ _ h1 => .setG h1)))))))))
theorem haltDevice : s₀.lasts s.haltDevice := by
  unfold State.haltDevice
  exact .haltStart (.memWrite h₀ (fun _ => rfl) id (fun _ => rfl) id)
theorem retire {e : Nat} : s₀.lasts (s.retire e) := by
  unfold State.retire
  exact .ite h₀ (.ite (.haltDevice (.fault h₀)) (.fault (.drawn (.foldl (.each (.each (.setFld (.withUnit h₀ (fun _ h1 =>
    .setFailed h1))) (fun _ _ h1 => .rename h1)) (fun _ _ h1 => .setCtxState h1)) fun _ _ h1 => .moveCtx h1))))
theorem repairWord {e addr : Nat} : s₀.lasts (s.repairWord e addr) := by
  unfold State.repairWord
  exact .ite (.put h₀) (.put h₀)
theorem parityCheck {e l addr : Nat} {goldenOk : Bool} : s₀.lasts (s.parityCheck e l addr goldenOk) := by
  unfold State.parityCheck
  exact .ite (.retire (.when (.noteCheck (.put h₀)) (fun _ h1 => .uncorrectable h1))) (.ite (.retire (.noteCheck (.put h₀)))
    (.fault (.drawn (.repairWord (.setFld (.bump (.noteCheck (.put h₀))))))))
theorem lockstepCheck {e l : Nat} : s₀.lasts (s.lockstepCheck e l) := by
  unfold State.lockstepCheck
  exact .fault (.drawn (.noteCheck (.bump (.put h₀))))
theorem checkNow {e : Nat} {c : HeldCheck} : s₀.lasts (s.checkNow e c) := by
  unfold State.checkNow
  refine .ite h₀ ?_
  split
  · exact .parityCheck h₀
  · exact .lockstepCheck h₀
theorem machineCheck {e : Nat} {c : HeldCheck} : s₀.lasts (s.machineCheck e c) := by
  unfold State.machineCheck
  exact .ite (.put h₀) (.checkNow h₀)
theorem patchRec {e : Nat} {r : PatchRec} : s₀.lasts (s.patchRec e r) := by
  unfold State.patchRec
  exact .foldl h₀ fun _ _ h1 => .repairWord (.put_goldenLost (.ite (.put h1) (.put h1)))
theorem patchHold {e : Nat} : s₀.lasts (s.patchHold e) := by
  unfold State.patchHold
  exact .put_cycleAt_patchEnd (.drawn h₀)
theorem loadTap {i : JtagInstr} {dr : List Bool} : s₀.lasts (s.loadTap i dr) := by
  unfold State.loadTap
  exact .put h₀
theorem sampleTap {i : JtagInstr} : s₀.lasts (s.sampleTap i) := by
  unfold State.sampleTap
  exact .put_freeCtr (.loadTap h₀)
theorem writeHalted {x n : Nat} {v : Word} : s₀.lasts (s.writeHalted x n v) := by
  unfold State.writeHalted
  exact .ite (.setG h₀) (.onCtx h₀)
theorem setHalt {e : Nat} {b : Bool} : s₀.lasts (s.setHalt e b) := by
  unfold State.setHalt
  exact .syncTiles (.withUnits h₀ (fun _ h1 => .setFlag h1))
theorem respond {st : Nat} {r a : Word} : s₀.lasts (s.respond st r a) := by
  unfold State.respond
  exact .put h₀
theorem mgSelect : s₀.lasts s.mgSelect := by
  unfold State.mgSelect
  exact .slotsFire h₀
theorem mgmtFrame {f : MgmtFrame} {g : State → State} (hf : ∀ t, s₀.lasts t → s₀.lasts (g t)) : s₀.lasts (s.mgmtFrame f g) := by
  unfold State.mgmtFrame
  exact .ite (.mgSelect (.respond (.put h₀))) (.ite (.put_mgmtOut (.mgSelect h₀)) (.ite (.respond (.bump (.put_mgmtOut
    (.mgSelect h₀)))) (.ite (.respond (.bump (.put_mgmtOut (.mgSelect h₀)))) (hf _ (.put_mgmtOut (.mgSelect h₀))))))
theorem mgmtReads {a : Word} : s₀.lasts (s.mgmtReads a) := by
  unfold State.mgmtReads
  exact .ite (.respond h₀) (.ite (.respond (.accErr h₀)) (.respond (.setRead (.busRead h₀))))
theorem mgmtWrites {a d : Word} : s₀.lasts (s.mgmtWrites a d) := by
  unfold State.mgmtWrites
  exact .ite (.respond h₀) (.ite (.respond (.accErr h₀)) (.respond (.busWrite h₀)))
theorem mgmtAct {f : MgmtFrame} : s₀.lasts (s.mgmtAct f) := by
  unfold State.mgmtAct
  exact .mgmtFrame h₀ (fun _ h1 => .ite h1 (.onBus h1 (fun _ h2 => .ite (.mgmtWrites h2) (.mgmtReads h2))))
theorem srcBytes {c k n : Nat} : s₀.lasts (s.srcBytes c k n).2 := by
  have read : ∀ t m a w, s₀.lasts t → s₀.lasts (State.busRead t m a w).2 := fun _ _ _ _ h1 => .busRead h1
  unfold State.srcBytes
  -- A name for the read keeps the kernel from running it.
  obtain ⟨r, hr⟩ : ∃ r, State.busRead = r := ⟨_, rfl⟩
  rw [hr] at read ⊢
  exact .ite2 (.foldl2 h₀ fun p i h1 => read _ _ _ _ h1) h₀
theorem putBytes {sp a : Nat} {l : List Byte} : s₀.lasts (s.putBytes sp a l) := by
  unfold State.putBytes
  exact .ite (.put_badTm (.foldl h₀ fun _ _ h1 => .putDmaByte h1)) (.foldl h₀ fun _ _ h1 => .putDmaByte h1)
theorem copyBytes {sp dp a b : Nat} {n : Nat} : s₀.lasts (s.copyBytes sp dp a b n) := by
  unfold State.copyBytes
  exact .ite (.put_badTm (.foldl h₀ fun _ _ h1 => .putDmaByte h1)) (.foldl h₀ fun _ _ h1 => .putDmaByte h1)
theorem stepProg {c n : Nat} : s₀.lasts (s.stepProg c n) := by
  unfold State.stepProg
  exact .wr h₀
theorem burst {c : Nat} : s₀.lasts (s.burst c) := by
  unfold State.burst
  have h := (h₀.onDma (c := c) (f := fun x => { x with ready := toS (x.ready.toNat + s.burstGap c) })).put_dmaLast (a := c)
  dsimp only at h ⊢
  split
  · exact .dmaHalt h
  · split
    · split
      · exact .dmaHalt h
      · split
        · exact .stepProg (.onDma (.srcBytes h))
        · exact .stepProg (.srcBytes h)
    · split
      · exact .dmaHalt h
      · exact .ite (.stepProg (.putBytes h)) (.ite (.stepProg (.putBytes (.srcBytes h))) (.stepProg (.copyBytes h)))
theorem bursts {c op n : Nat} {ts : Stamp} : s₀.lasts (s.bursts c op ts n) := by
  induction n generalizing s with
  | zero => exact h₀
  | succ n ih => exact .ite (ih (.burst h₀)) h₀
theorem runOp {c op : Nat} {ts : Stamp} : s₀.lasts (s.runOp c op ts) := by
  unfold State.runOp
  exact .happens h₀ (fun _ h1 => .bursts h1)
theorem burstAt {ts : Stamp} {c : Nat} : s₀.lasts (s.burstAt ts c) := by
  unfold State.burstAt
  exact .burst (.onDma h₀)
theorem tryCmd {c : Cmd} {op : Nat} {pk : Packet} {buf : Nat × Nat × Nat × Bool} {bad : Bool}
    (hc : ∀ t k n, s₀.lasts t → s₀.lasts (c.run t pk k n).2) : s₀.lasts (s.tryCmd c op pk buf bad).2 := by
  unfold State.tryCmd
  split
  · exact h₀
  · have h : ∀ t, s₀.lasts t → s₀.lasts (c.run t pk (c.target.index pk.target.toNat) s.longNext).2 := fun t => hc t _ _
    refine .ite (.endLong ?_) ?_
    all_goals exact h _ (.ite (.beginLong h₀) h₀)
theorem runCmd {c : Cmd} {op : Nat} {pk : Packet} {buf : Nat × Nat × Nat × Bool} {bad : Bool}
    (hc : ∀ t k n, s₀.lasts t → s₀.lasts (c.run t pk k n).2) : s₀.lasts (s.runCmd c op pk buf bad).2 := by
  have h : s₀.lasts (s.tryCmd c op pk buf bad).2 := .tryCmd h₀ hc
  unfold State.runCmd
  dsimp only
  split
  · exact .ite (.bump h) h
  · exact h
theorem cmdWrite {n : RegName} {w : Word} {i : Nat} {j : Nat} : s₀.lasts (s.cmdWrite n w i j) := by
  unfold State.cmdWrite
  exact .writeUnit (.wakeFor h₀)
theorem cmdWrites {l : List (RegName × Word)} {i : Nat} {j : Nat} : s₀.lasts (s.cmdWrites l i j) := by
  unfold State.cmdWrites
  exact .foldl h₀ fun _ _ h1 => .cmdWrite h1
theorem inState {u : Nat} : s₀.lasts (s.inState u).2 := by
  unfold State.inState
  exact h₀
theorem inParam : s₀.lasts (Machine.inParam s).2 := h₀
theorem chCfg {t : Nat} {ps : List Word} : s₀.lasts (s.chCfg t ps).2 := by
  unfold State.chCfg
  exact .ite2 (.inState h₀) (.ite2 (.inParam h₀) (.cmdWrites h₀))
theorem chUpdate {t : Nat} {ps : List Word} : s₀.lasts (s.chUpdate t ps).2 := by
  unfold State.chUpdate
  exact .ite2 h₀ (.ite (.commitMask (.cmdWrites h₀)) (.cmdWrites h₀))
theorem bridgeCommand {t : Nat} {ps : List Word} : s₀.lasts (s.bridgeCommand t ps).2 := by
  unfold State.bridgeCommand
  exact .ite2 (.inState h₀) (.ite2 (.inParam h₀) (.cmdWrites h₀))
theorem tripCommand {t : Nat} {ps : List Word} : s₀.lasts (s.tripCommand t ps).2 := by
  unfold State.tripCommand
  exact .ite2 (.inParam h₀) (.cmdWrites h₀)
theorem folCommand {t : Nat} {ps : List Word} : s₀.lasts (s.folCommand t ps).2 := by
  unfold State.folCommand
  dsimp only
  split
  · exact .inState h₀
  · split
    · exact .inParam h₀
    · dsimp only
      exact .cmdWrite h₀
theorem pinCfg {k : Nat} {ps : List Word} : s₀.lasts (s.pinCfg k ps).2 := by
  unfold State.pinCfg
  exact .ite2 (.inParam h₀) (.foldl h₀ fun _ _ h1 => .cmdWrite h1)
theorem domCfg {d : Nat} {ps : List Word} : s₀.lasts (s.domCfg d ps).2 := by
  unfold State.domCfg
  exact .ite2 (.inState h₀) (.ite2 (.inParam h₀) (.cmdWrites h₀))
theorem domPhteeth {d : Nat} {ps : List Word} : s₀.lasts (s.domPhteeth d ps).2 := by
  unfold State.domPhteeth
  exact .ite2 (.inState h₀) (.ite2 (.inParam h₀) (.each h₀ (fun _ _ h1 => .cmdWrite (.cmdWrite h1))))
theorem domEnableCmd {d : Nat} {on : Bool} : s₀.lasts (s.domEnableCmd d on).2 := by
  unfold State.domEnableCmd
  split
  · exact .inParam h₀
  · dsimp only
    exact .cmdWrite h₀
theorem domPhm {d : Nat} {ps : List Word} : s₀.lasts (s.domPhm d ps).2 := by
  unfold State.domPhm
  exact .ite2 (.inParam h₀) (.cmdWrites h₀)
theorem portSetup {p : Nat} {ps : List Word} : s₀.lasts (s.portSetup p ps).2 := by
  unfold State.portSetup
  exact .ite2 (.inState h₀) (.ite2 (.inParam h₀) (.cmdWrites (.wr (.wr (.wakeFor h₀)))))
theorem portScriptCmd {p : Nat} {ps : List Word} : s₀.lasts (s.portScriptCmd p ps).2 := by
  unfold State.portScriptCmd
  exact .ite2 (.inState h₀) (.ite2 (.inParam h₀) (.foldl h₀ fun _ _ h1 => .cmdWrite h1))
theorem portRunCmd {pk : Packet} {p n : Nat} : s₀.lasts (s.portRunCmd pk p n).2 := by
  unfold State.portRunCmd
  exact .ite2 (.inParam h₀) (.portTrigger h₀)
theorem portTtCmd {p : Nat} {ps : List Word} : s₀.lasts (s.portTtCmd p ps).2 := by
  unfold State.portTtCmd
  split
  · exact .inParam h₀
  · dsimp only
    exact .writeTt (.wr (.wr (.wr (.wr (.wakeFor h₀)))))
theorem mlSetup {ps : List Word} : s₀.lasts (s.mlSetup ps).2 := by
  unfold State.mlSetup
  exact .ite2 (.inState h₀) (.ite2 (.inParam h₀) (.cmdWrites h₀))
theorem mlLink {k : Nat} {ps : List Word} : s₀.lasts (s.mlLink k ps).2 := by
  unfold State.mlLink
  exact .ite2 (.inState h₀) (.ite2 (.inParam h₀) (.cmdWrites h₀))
theorem mlSsSetup {ps : List Word} : s₀.lasts (s.mlSsSetup ps).2 := by
  unfold State.mlSsSetup
  exact .ite2 (.inParam h₀) (.foldl (.cmdWrites h₀) fun _ _ h1 => .cmdWrite h1)
theorem mlSysstart {lo hi : Word} {tag : Nat} : s₀.lasts (s.mlSysstart lo hi tag).2 := by
  unfold State.mlSysstart
  split
  · exact .inState h₀
  · split
    · exact .inParam h₀
    · exact .beside (.startSystem (.wr (.wr (.wr (.wakeFor h₀)))))
theorem mlPeer {ps : List Word} : s₀.lasts (s.mlPeer ps).2 := by
  unfold State.mlPeer
  exact .ite2 (.inState h₀) (.ite2 (.inParam h₀) (.cmdWrites h₀))
theorem inCtxState {x : Nat} : s₀.lasts (s.inCtxState x).2 := by
  unfold State.inCtxState
  exact h₀
theorem wakeCtx {x : Nat} : s₀.lasts (s.wakeCtx x) := by
  unfold State.wakeCtx
  exact .wakeFor h₀
theorem loadImageInto {x a : Nat} {ps : List Word} : s₀.lasts (s.loadImageInto x a ps) := by
  unfold State.loadImageInto
  dsimp only
  exact .setCtxState (.setCtx (.setCf (.setCf (.setCf (.setCf (.setCr (.foldl (.copyBytes (.putBytes (.copyBytes (.copyBytes h₀))))
    fun _ _ h1 => .setCr h1)))))))
theorem ctxLoad {x n : Nat} {ps : List Word} : s₀.lasts (s.ctxLoad x n ps).2 := by
  unfold State.ctxLoad
  exact .ite2 (.inParam h₀) (.ite2 (.drawn h₀) (.ite2 h₀ (.ite2 (.inCtxState h₀) (.finishOp (.loadImageInto (.wakeCtx (.drawn
    h₀)))))))
theorem evArm {pk : Packet} : s₀.lasts (s.evArm pk).2 := by
  unfold State.evArm
  exact .ite2 h₀ (.armDecision h₀)
theorem evPart {d : Nat} {v : Word} : s₀.lasts (s.evPart d v).2 := by
  unfold State.evPart
  split
  · exact .inState h₀
  · split
    · exact .inParam h₀
    · dsimp only
      exact .cmdWrite h₀
theorem evCq {d : Nat} {base size : Word} : s₀.lasts (s.evCq d base size).2 := by
  unfold State.evCq
  exact .ite2 (.inState h₀) (.ite2 (.inParam h₀) (.wr (.wr h₀)))
theorem evEntry {p : CmdPath} {h : Nat} : s₀.lasts (s.evEntry p h).2 := by
  unfold State.evEntry
  exact .ite2 h₀ (.ite2 h₀ h₀)
theorem catWrite {pk : Packet} : s₀.lasts (s.catWrite pk).2 := by
  unfold State.catWrite
  split
  · exact .ite2 h₀ (.ite2 h₀ (.ite2 (.inParam h₀) (.ite2 h₀ (.catStore (.wr (.wr h₀))))))
theorem catRead {p : CmdPath} {sig : Nat} : s₀.lasts (s.catRead p sig).2 := by
  unfold State.catRead
  exact .ite2 h₀ (.ite2 (.inParam h₀) h₀)
theorem catClear {pk : Packet} {n : Nat} : s₀.lasts (s.catClear pk n).2 := by
  unfold State.catClear
  exact .ite2 (.inParam h₀) (.finishOp (.each h₀ (fun _ _ h1 => .catStore h1)))
theorem logSetup {ps : List Word} : s₀.lasts (s.logSetup ps).2 := by
  unfold State.logSetup
  exact .ite2 (.inState h₀) (.ite2 (.inParam h₀) (.cmdWrites (.ite (.cmdWrite h₀) h₀)))
theorem unitSet {p : CmdPath} {u v : Nat} : s₀.lasts (s.unitSet p u v).2 := by
  unfold State.unitSet
  exact .ite2 (.ite2 (.supReq h₀) h₀) (.ite2 (.setUnit (.withUnit h₀ (fun _ h1 => .setFld h1))) h₀)
theorem govCommand {l : List (GovReg × Word)} : s₀.lasts (s.govCommand l).2 := by
  unfold State.govCommand
  exact .ite2 h₀ (.foldl h₀ fun _ _ h1 => .writeGov h1)
theorem pwrState {pk : Packet} {n : Nat} : s₀.lasts (s.pwrState pk n).2 := by
  unfold State.pwrState
  exact .ite2 h₀ (.pstateReq h₀)
theorem fillPage : s₀.lasts s.fillPage := by
  unfold State.fillPage
  exact .setFlag (.put_freeCtr (.wr (.wr (.wr (.wr (.each h₀ (fun _ _ h1 => .wr h1)))))))
theorem writePage {i : Nat} {ws : List Word} : s₀.lasts (s.writePage i ws) := by
  unfold State.writePage
  exact .fltEvent (.checkPage (.wr (.wr (.foldl (.ite h₀ (.fillPage h₀)) fun _ _ h1 => .wr h1))))
/-- What each command does lasts. -/
theorem cmdOf_run {op : Nat} {c : Cmd} {pk : Packet} {k n : Nat} (hc : cmdOf op = some c) : s₀.lasts (c.run s pk k n).2 := by
  unfold cmdOf at hc
  split at hc <;> cases hc
  · exact h₀
  · exact h₀
  · exact h₀
  · exact h₀
  · exact .unitSet h₀
  · exact .beside (.setFlag h₀)
  · exact h₀
  · exact .beside (.ite (.writeBudget h₀) (.writeBudget h₀))
  · exact .govCommand h₀
  · exact .govCommand h₀
  · exact .pwrState h₀
  · exact h₀
  · exact .chCfg h₀
  · exact .chUpdate h₀
  · exact .beside (.ite (.armStart (.wr (.wr (.wakeFor h₀)))) (.startMask (.wakeFor h₀)))
  · exact .beside (.stopTile (.wakeFor h₀))
  · exact .ite2 (.inParam h₀) (.beside (.wakeFor h₀))
  · exact .bridgeCommand h₀
  · exact .tripCommand h₀
  · exact .beside (.clearTrips (.wakeFor h₀))
  · exact .folCommand h₀
  · exact .beside (.cmdWrite h₀)
  · exact .pinCfg h₀
  · exact .domCfg h₀
  · exact .domPhteeth h₀
  · exact .domEnableCmd h₀
  · exact .beside (.cmdWrites h₀)
  · exact .domPhm h₀
  · exact h₀
  · exact .evArm h₀
  · exact .beside (.cancelDecision h₀)
  · exact .beside (.flushDecision h₀)
  · exact .ite2 h₀ (.evPart h₀)
  · exact .ite2 h₀ (.evCq h₀)
  · exact .evEntry h₀
  · exact h₀
  · exact .catWrite h₀
  · exact .catRead h₀
  · exact .catClear h₀
  · exact .ite2 h₀ (.logSetup h₀)
  · exact h₀
  · exact .portSetup h₀
  · exact .portScriptCmd h₀
  · exact .ite2 (.inParam h₀) (.beside (.cmdWrite h₀))
  · exact .portRunCmd h₀
  · exact .portTtCmd h₀
  · exact .beside (.ite (.portFlush (.ite (.portStop (.wakeFor h₀)) (.wakeFor h₀))) (.ite (.portStop (.wakeFor h₀)) (.wakeFor h₀)))
  · exact .beside (.wakeFor h₀)
  · exact .mlSetup h₀
  · exact .mlLink h₀
  · exact .mlSsSetup h₀
  · exact .mlSysstart h₀
  · exact .mlPeer h₀
  · exact .beside (.wakeFor h₀)
  · exact .ctxLoad h₀
  · exact .ite2 h₀ (.ite2 (.inCtxState h₀) (.beside (.ctxCmd (.wakeCtx h₀))))
  · exact .ite2 h₀ (.ite2 (.inCtxState h₀) (.beside (.ctxCmd (.wakeCtx h₀))))
  · exact .ite2 h₀ (.beside (.wakeCtx h₀))
  · exact .ite2 h₀ (.beside (.post (.wakeCtx h₀)))
  · exact .ite2 h₀ (.beside (.ite (.lower (.wakeCtx h₀)) h₀))
  · exact .beside (.wakeFor h₀)
  · exact .ite2 h₀ h₀
  · exact .ite2 h₀ h₀
  · exact .ite2 h₀ (.beside (.finishOp (.writePage h₀)))
  · exact .ite2 h₀ h₀
  · exact .beside (.ackFault h₀)
  · exact h₀
theorem runPacket {op : Nat} {pk : Packet} {buf : Nat × Nat × Nat × Bool} {bad : Bool} : s₀.lasts (s.runPacket op pk buf bad).2 := by
  unfold State.runPacket
  split
  · exact h₀
  · next c hc => exact .runCmd h₀ fun _ _ _ h1 => .cmdOf_run h1 hc
theorem mailCommand {k op : Nat} {pk : Packet} {bad : Bool} : s₀.lasts (s.mailCommand k op pk bad) := by
  unfold State.mailCommand
  exact .ite (.runPacket h₀) (.queueReply (.runPacket h₀))
theorem mailPacket {k op : Nat} {pk : Packet} : s₀.lasts (s.mailPacket k op pk) := by
  unfold State.mailPacket
  exact .ite h₀ (.ite (.mailCommand h₀) (.ite (.mailCommand (.clearGo h₀)) h₀))
theorem takeMessage {k : Nat} : s₀.lasts (s.takeMessage k) := by
  unfold State.takeMessage
  exact .mailCommand (.clearGo h₀)
theorem ringTake {c : Nat} : s₀.lasts (s.ringTake c) := by
  unfold State.ringTake
  exact .onDma (.runPacket (.srcBytes h₀))
theorem ringReply {c : Nat} : s₀.lasts (s.ringReply c) := by
  unfold State.ringReply
  dsimp only
  split
  · exact .dmaHalt h₀
  · exact .ite h₀ (.wr (.putDmaWord (.putDmaWords h₀)))
theorem ringCommand {c : Nat} : s₀.lasts (s.ringCommand c) := by
  unfold State.ringCommand
  refine .ite h₀ (.ite (.ite h₀ (.ringReply h₀)) ?_)
  split
  · exact .dmaHalt h₀
  · exact .ite (.ringTake h₀) (.ringReply (.ringTake h₀))
theorem taskCommand {x : Nat} {t : TrapCall} {op : Nat} {pk : Packet} {st : Option Nat} : s₀.lasts (s.taskCommand x t op pk st)
    := by
  unfold State.taskCommand
  refine .ite (.onCtx ?_) (.taskReply (.onCtx ?_))
  · split
    · exact h₀
    · exact .runPacket h₀
  · split
    · exact h₀
    · exact .runPacket h₀
theorem taskPacket {x op : Nat} {pk : Packet} : s₀.lasts (s.taskPacket x op pk) := by
  unfold State.taskPacket
  split
  · exact .ite (.taskCommand h₀) h₀
  · exact h₀
theorem answerBusy {p : CmdPath} : s₀.lasts (s.answerBusy p) := by
  unfold State.answerBusy
  split
  · exact .ite h₀ (.queueReply (.clearGo h₀))
  · exact .ite h₀ (.queueReply (.clearGo h₀))
  · exact .ite h₀ (.ringReply (.onDma h₀))
  · split
    · exact .taskCommand h₀
    · exact h₀
theorem packetRow {op : Nat} {pk : Packet} : s₀.lasts (s.packetRow op pk) := by
  unfold State.packetRow
  split
  · exact .mailPacket h₀
  · exact .mailPacket h₀
  · exact .ite (.ringCommand h₀) h₀
  · exact .taskPacket h₀
theorem idle : s₀.lasts s.idle := by
  unfold State.idle
  split
  · exact .takeMessage h₀
  · exact .tick h₀

end

end State.lasts

end Sys2Proof.Machine
end

section
/-! PROOFS. Each command is answered by a next state, leaves the queue and the fuses, and keeps the memories in their canonical form
(R1, R170, 95). -/

namespace Sys2Proof.Machine

set_option Elab.async false

/-- An outcome is a next state, to which the queue, the fuses and the form of the memories last. -/
def State.goesOn (s : State) : Host.Outcome State Fault Refusal → Prop
  | .next t => s.lasts t
  | _ => False

theorem State.goesOn.ofNext {s t : State} (h : s.lasts t) : s.goesOn (.next t) := h

namespace State.goesOn

open State.lasts

variable {s₀ s : State}

section
variable (h₀ : s₀.lasts s)
include h₀

theorem execCommit {x : Fin 128} {rs : GReg} {imm : BitVec 16} : s₀.goesOn (Machine.execCommit x rs imm s) := by
  unfold Machine.execCommit
  exact .ofNext (.issue h₀ (fun _ h1 => .ite (.raiseFault h1) (.advance (.tileWrite h1))))
theorem execMovi {x : Fin 128} {rd : GReg} {imm : BitVec 16} : s₀.goesOn (Machine.execMovi x rd imm s) :=
  .ofNext (.issue h₀ fun _ h1 => .advance (.setG h1))
theorem execMovhi {x : Fin 128} {rd : GReg} {imm : BitVec 16} : s₀.goesOn (Machine.execMovhi x rd imm s) :=
  .ofNext (.issue h₀ fun _ h1 => .advance (.setG h1))
theorem execMov {x : Fin 128} {rd rs : GReg} : s₀.goesOn (Machine.execMov x rd rs s) :=
  .ofNext (.issue h₀ fun _ h1 => .advance (.setG h1))
theorem execMfs {x : Fin 128} {rd : GReg} {imm : BitVec 16} : s₀.goesOn (Machine.execMfs x rd imm s) := by
  unfold Machine.execMfs
  refine .ofNext (.issue h₀ fun t h1 => ?_)
  split
  · next hr => exact .advance (.setG (.readSpecial h1 hr))
  · exact .raiseFault h1
theorem execMts {x : Fin 128} {rs : GReg} {imm : BitVec 16} : s₀.goesOn (Machine.execMts x rs imm s) := by
  unfold Machine.execMts
  refine .ofNext (.issue h₀ (fun _ h1 => ?_))
  split
  · exact .advance (.onCtx h1)
  · exact .advance (.writePsw h1)
  · exact .advance (.ite (.onCtx h1) h1)
  · exact .ite (.advance (.onCtx h1)) (.raiseFault h1)
  · exact .advance h1
  · exact .advance h1
  · exact .advance h1
  · exact .advance h1
  · exact .raiseFault h1
theorem execPush {x : Fin 128} {rd : GReg} : s₀.goesOn (Machine.execPush x rd s) := by
  unfold Machine.execPush
  exact .ofNext (.issue h₀ (fun _ h1 => .push h1 (fun _ h2 => .advance h2)))
theorem execRegrd {x : Fin 128} {rd rs : GReg} {imm : BitVec 16} : s₀.goesOn (Machine.execRegrd x rd rs imm s) := by
  unfold Machine.execRegrd
  refine .ofNext (.issue h₀ (fun _ h1 => ?_))
  dsimp only
  split
  · exact .raiseFault h1
  · exact .await (.busRead h1)
theorem execRegwr {x : Fin 128} {rd rs : GReg} {imm : BitVec 16} : s₀.goesOn (Machine.execRegwr x rd rs imm s) := by
  unfold Machine.execRegwr
  refine .ofNext (.issue h₀ (fun _ h1 => .ite (.raiseFault h1) ?_))
  split
  · exact .raiseFault h1
  · exact .await (.busWrite h1)
theorem execCall {x : Fin 128} {imm : BitVec 16} : s₀.goesOn (Machine.execCall x imm s) :=
  .ofNext (.issue h₀ fun _ h1 => .push h1 fun _ h2 => .jump h2)
theorem execCallr {x : Fin 128} {rs : GReg} : s₀.goesOn (Machine.execCallr x rs s) :=
  .ofNext (.issue h₀ fun _ h1 => .push h1 fun _ h2 => .jump h2)
theorem execYield {x : Fin 128} : s₀.goesOn (Machine.execYield x s) := by
  unfold Machine.execYield
  exact .ofNext (.issue h₀ (fun _ h1 => .advance h1))
theorem execEndTask {x : Fin 128} : s₀.goesOn (Machine.execEndTask x s) := by
  unfold Machine.execEndTask
  exact .ofNext (.issue h₀ (fun _ h1 => .setCtxState h1))
theorem execTrapCmd {x : Fin 128} : s₀.goesOn (Machine.execTrapCmd x s) := by
  unfold Machine.execTrapCmd
  refine .ofNext (.trap h₀ fun t c h1 => ?_)
  extract_lets a b n
  split
  · exact h1
  · split
    · exact .beside (.putTask h1)
    · exact h1
theorem execTrapInfo {x : Fin 128} : s₀.goesOn (Machine.execTrapInfo x s) :=
  .ofNext (.trap h₀ fun _ _ h1 => h1)
theorem execTrapLower {x : Fin 128} : s₀.goesOn (Machine.execTrapLower x s) :=
  .ofNext (.trap h₀ fun _ _ h1 => .lower h1)
theorem execTrapLimit {x : Fin 128} : s₀.goesOn (Machine.execTrapLimit x s) :=
  .ofNext (.trap h₀ fun _ _ h1 => h1)
theorem execTrapUnknown {x : Fin 128} {imm : BitVec 16} : s₀.goesOn (Machine.execTrapUnknown x imm s) := by
  unfold Machine.execTrapUnknown
  exact .ofNext (.ite h₀ (.issue h₀ (fun _ h1 => .advance (.setG h1))))
theorem execRete {x : Fin 128} : s₀.goesOn (Machine.execRete x s) := by
  unfold Machine.execRete
  refine .ofNext (.issue h₀ fun u h1 => ?_)
  extract_lets c t a w
  have h : s₀.lasts t := .ite (.reportDone h1) h1
  clear_value t
  refine .ite (.raiseFault h) ?_
  split
  · exact .memoryCheck h
  · split
    · split
      · exact .raiseFault h
      · exact .hold (.deliverTo (.onCtx h))
    · exact .ite (.raiseFault h) (.setNoint (.onCtx (.setG (.setG (.setG (.setG h))))))
theorem execPost {x : Fin 128} {rd rs : GReg} {imm : BitVec 16} : s₀.goesOn (Machine.execPost x rd rs imm s) := by
  unfold Machine.execPost
  exact .ofNext (.issue h₀ (fun _ h1 => .await (.postTo h1)))
theorem execArm {x : Fin 128} {rd rs : GReg} : s₀.goesOn (Machine.execArm x rd rs s) := by
  unfold Machine.execArm
  exact .ofNext (.issue h₀ fun t h1 => .reading h1 fun u h2 => .await (.armDecision h2))
theorem execCancel {x : Fin 128} {rd rs : GReg} : s₀.goesOn (Machine.execCancel x rd rs s) := by
  unfold Machine.execCancel
  exact .ofNext (.issue h₀ (fun _ h1 => .await (.cancelDecision h1)))
theorem execCancelFlush {x : Fin 128} {rd rs : GReg} : s₀.goesOn (Machine.execCancelFlush x rd rs s) := by
  unfold Machine.execCancelFlush
  exact .ofNext (.issue h₀ (fun _ h1 => .ite (.raiseFault h1) (.await (.each h1 (fun _ _ h2 => .cancelEntry h2)))))
theorem execTilewr {x : Fin 128} {rd rs : GReg} {imm : BitVec 16} : s₀.goesOn (Machine.execTilewr x rd rs imm s) := by
  unfold Machine.execTilewr
  exact .ofNext (.issue h₀ (fun _ h1 => .ite (.raiseFault h1) (.ite (.raiseFault h1) (.advance (.tileWrite h1)))))
theorem execPortx {x : Fin 128} {rd rs : GReg} {imm : BitVec 16} : s₀.goesOn (Machine.execPortx x rd rs imm s) := by
  unfold Machine.execPortx
  exact .ofNext (.issue h₀ (fun _ h1 => .ite (.raiseFault h1) (.await (.portx h1))))
theorem execLog {x : Fin 128} {rd rs : GReg} : s₀.goesOn (Machine.execLog x rd rs s) := by
  unfold Machine.execLog
  exact .ofNext (.issue h₀ (fun _ h1 => .advance (.ite (.logEventOf (.keepEvent h1)) (.bump h1))))
theorem execMboxSend {x : Fin 128} {rd rs : GReg} {imm : BitVec 16} : s₀.goesOn (Machine.execMboxSend x rd rs imm s) := by
  unfold Machine.execMboxSend
  exact .ofNext (.issue h₀ (fun _ h1 => .ite (.raiseFault h1) (.reading h1 (fun _ h2 => .ite (.await h2) (.ite (.await h2)
    (.await (.writeGo (.each h2 (fun _ _ h3 => .writeData h3)))))))))
theorem execMboxRecv {x : Fin 128} {rd rs : GReg} {imm : BitVec 16} : s₀.goesOn (Machine.execMboxRecv x rd rs imm s) := by
  unfold Machine.execMboxRecv
  exact .ofNext (.issue h₀ (fun _ h1 => .ite (.raiseFault h1) (.writing h1 (fun _ h2 => .ite (.await h2) (.ite (.await h2)
    (.await (.writeDone (.each h2 (fun _ _ h3 => .setTm h3)))))))))
theorem execMboxPeek {x : Fin 128} {rd rs : GReg} {imm : BitVec 16} : s₀.goesOn (Machine.execMboxPeek x rd rs imm s) := by
  unfold Machine.execMboxPeek
  exact .ofNext (.issue h₀ (fun _ h1 => .ite (.raiseFault h1) (.ite (.await h1) (.await (.drawn h1)))))
theorem execLock {x : Fin 128} {rd : GReg} {imm : BitVec 16} : s₀.goesOn (Machine.execLock x rd imm s) := by
  unfold Machine.execLock
  refine .ofNext (.issue h₀ fun t h1 => ?_)
  dsimp only
  exact .ite (.await (.lockRead h1)) (.askLock (.onCtx h1))
theorem execUnlock {x : Fin 128} {imm : BitVec 16} : s₀.goesOn (Machine.execUnlock x imm s) := by
  unfold Machine.execUnlock
  exact .ofNext (.issue h₀ (fun _ h1 => .advance (.ite (.lockRelease h1) (.askLock h1))))
theorem execTbl1 {x : Fin 128} {rd rs rt : GReg} : s₀.goesOn (Machine.execTbl1 x rd rs rt s) := by
  unfold Machine.execTbl1
  refine .ofNext (.issue h₀ fun t h1 => .readAll h1 fun ws => .ite (.raiseFault h1) ?_)
  split
  · exact .stepDone h1
  · exact .searchStep h1 fun _ _ => .ite (.stepDone h1) (.stepDone h1)
  · exact .readAll h1 fun _ => .ite (.raiseFault h1) (.hold (.longDone (.setG h1)))
theorem execTbl2 {x : Fin 128} {rd rs rt : GReg} : s₀.goesOn (Machine.execTbl2 x rd rs rt s) := by
  unfold Machine.execTbl2
  refine .ofNext (.issue h₀ fun t h1 => .readAll h1 fun ws => .ite (.raiseFault h1) ?_)
  split
  · exact .stepDone h1
  · exact .searchStep h1 fun _ _ => .ite (.stepDone h1) (.stepDone h1)
  · exact .searchStep h1 fun _ _ => .stepDone h1
  · exact .readAll h1 fun _ => .ite (.raiseFault h1) (.hold (.longDone (.setG h1)))
theorem execBlkcp {x : Fin 128} {rd rs rt : GReg} : s₀.goesOn (Machine.execBlkcp x rd rs rt s) := by
  unfold Machine.execBlkcp
  exact .ofNext (.issue h₀ (fun _ h1 => .ite (.hold (.advance h1)) (.reading h1 (fun _ h2 => .writing h2 (fun _ h3 => .ite
    (.stepDone (.each h3 (fun _ _ h4 => .setTm h4))) (.longDone (.each h3 (fun _ _ h4 => .setTm h4))))))))
theorem execFill {x : Fin 128} {rd rs rt : GReg} : s₀.goesOn (Machine.execFill x rd rs rt s) := by
  unfold Machine.execFill
  exact .ofNext (.issue h₀ (fun _ h1 => .ite (.hold (.advance h1)) (.writing h1 (fun _ h2 => .ite (.stepDone (.each h2 (fun _ _
    h3 => .setTm h3))) (.longDone (.each h2 (fun _ _ h3 => .setTm h3)))))))
theorem execIllegal {x : Fin 128} {word : Word} : s₀.goesOn (Machine.execIllegal x word s) := by
  unfold Machine.execIllegal
  exact .ofNext (.ite (.issue h₀ fun _ h1 => h1) h₀)
theorem execWarmStart {o : StartObs} : s₀.goesOn (Machine.execWarmStart o s) := by
  unfold Machine.execWarmStart
  exact .ofNext (.ite h₀ (.startUp (.put_wakePin (.drawn (.wr (.wr (.wr (.resetDevice h₀))))))))
theorem execFeedTimeout {ts : Stamp} : s₀.goesOn (Machine.execFeedTimeout ts s) := by
  unfold Machine.execFeedTimeout
  exact .ofNext (.happens h₀ (fun _ h1 => .haltStart (.noteStep (.put h1))))
theorem execStartFeedGo {m : Master} {accepted : Bool} : s₀.goesOn (Machine.execStartFeedGo m accepted s) := by
  unfold Machine.execStartFeedGo
  exact .ofNext (.ite h₀ (.ite (.feedGo h₀) (.accErr h₀)))
theorem execClrStrat {m : Master} : s₀.goesOn (Machine.execClrStrat m s) := by
  unfold Machine.execClrStrat
  exact .ofNext (.access h₀ (fun _ h1 => .writeStartCtrl h1))
theorem execClrCounts {m : Master} : s₀.goesOn (Machine.execClrCounts m s) := by
  unfold Machine.execClrCounts
  exact .ofNext (.access h₀ (fun _ h1 => .writeStartCtrl h1))
theorem execNresetAssert {ns : Nat} : s₀.goesOn (Machine.execNresetAssert ns s) := by
  unfold Machine.execNresetAssert
  exact .ofNext (.ite h₀ (.ite (.resetDevice h₀) (.ite (.drawn h₀) (.resetDevice (.drawn h₀)))))
theorem execRegisterWrite {m : Master} {off width : Nat} {v : Word} : s₀.goesOn (Machine.execRegisterWrite m off width v s) :=
    by
  unfold Machine.execRegisterWrite
  exact .ofNext (.onBus h₀ (fun _ h1 => .busWrite h1))
theorem execBeacon {isl : Fin 91} {drift late : Int} {ts : Stamp} : s₀.goesOn (Machine.execBeacon isl drift late ts s) := by
  unfold Machine.execBeacon
  exact .ofNext (.happens h₀ (fun _ h1 => .judgeCopy (.setAhead (.put h1))))
theorem execIslandReload {isl : Fin 91} {ts : Stamp} : s₀.goesOn (Machine.execIslandReload isl ts s) := by
  unfold Machine.execIslandReload
  refine .ofNext (.happens h₀ (fun _ h1 => ?_))
  split
  · exact h1
  · exact .fault (.loadCopy (.put h1))
theorem execVernierCalibration {t : Fin 64} {err : Int} {ts : Stamp} : s₀.goesOn (Machine.execVernierCalibration t err ts s) :=
    by
  unfold Machine.execVernierCalibration
  exact .ofNext (.happens h₀ (fun _ h1 => .ite (.bump (.setFld (.setFlag h1))) (.setFlag h1)))
theorem execPllSwitchover {ts : Stamp} : s₀.goesOn (Machine.execPllSwitchover ts s) := by
  unfold Machine.execPllSwitchover
  exact .ofNext (.happens h₀ (fun _ h1 => .ite (.fltEvent (.fault (.setFlag (.bump (.setFlag (.setFlag (.setFlag h1)))))))
    (.fault (.setFlag h1))))
theorem execPllRetrain {locks : Bool} {ts : Stamp} : s₀.goesOn (Machine.execPllRetrain locks ts s) := by
  unfold Machine.execPllRetrain
  exact .ofNext (.happens h₀ (fun _ h1 => .setFlag (.setFlag h1)))
theorem execRefclkHoldover {ts : Stamp} : s₀.goesOn (Machine.execRefclkHoldover ts s) := by
  unfold Machine.execRefclkHoldover
  exact .ofNext (.happens h₀ (fun _ h1 => .fault (.setHoldover h1)))
theorem execHoldoverExit {ts : Stamp} : s₀.goesOn (Machine.execHoldoverExit ts s) := by
  unfold Machine.execHoldoverExit
  exact .ofNext (.happens h₀ (fun _ h1 => .setHoldover h1))
theorem execLinkedLowRead {m : Master} {q : Linked} : s₀.goesOn (Machine.execLinkedLowRead m q s) :=
  .ofNext (.readOn h₀ fun _ h1 => .readLow h1)
theorem execLinkedHighRead {m : Master} {q : Linked} : s₀.goesOn (Machine.execLinkedHighRead m q s) :=
  .ofNext (.readOn h₀ fun _ h1 => .ite (.wakeFor h1) h1)
theorem execLinked64bitRead {q : Linked} : s₀.goesOn (Machine.execLinked64bitRead q s) := by
  unfold Machine.execLinked64bitRead
  exact .ofNext (.ite (.setRead (.put h₀)) (.onBus h₀ (fun _ h1 => .read64 h1)))
theorem execClrStats {m : Master} : s₀.goesOn (Machine.execClrStats m s) := by
  unfold Machine.execClrStats
  exact .ofNext (.access h₀ (fun _ h1 => .clrDroneStats h1))
theorem execChannelStep {g : Fin 512} {ts : Stamp} : s₀.goesOn (Machine.execChannelStep g ts s) := by
  unfold Machine.execChannelStep
  exact .ofNext (.happens h₀ (fun _ h1 => .withSum h1 (fun _ h2 => .ite (.ite (.angleCompare (.onChan (.when h2 (fun _ h3 =>
    .handOver h3)))) h2) (.ite (.countStep h2) h2))))
theorem execChCtrlWrite {m : Master} {g : Fin 512} {v : Word} : s₀.goesOn (Machine.execChCtrlWrite m g v s) := by
  unfold Machine.execChCtrlWrite
  exact .ofNext (.access h₀ (fun _ h1 => .setChCtrl h1))
theorem execShadowWrite {m : Master} {g : Fin 512} {r : ShadowReg} {v : Word} : s₀.goesOn (Machine.execShadowWrite m g r v s) :=
    by
  unfold Machine.execShadowWrite
  exact .ofNext (.access h₀ (fun _ h1 => .writeShadow h1))
theorem execInputFilterAccept {consumer : Consumer} {level : Bool} {since ts : Stamp} : s₀.goesOn (Machine.execInputFilterAccept
    consumer level since ts s) := by
  unfold Machine.execInputFilterAccept
  refine .ofNext (.ite (.setPin (.reachIn h₀)) ?_)
  split
  · exact .ite (.bump (.setPin (.reachIn h₀))) (.onChan (.setEdges (.setPin (.reachIn h₀))))
  · exact .setEdges (.setPin (.reachIn h₀))
theorem execCaptureLanding {g : Fin 512} {ts : Stamp} : s₀.goesOn (Machine.execCaptureLanding g ts s) := by
  unfold Machine.execCaptureLanding
  refine .ofNext (.happens h₀ (fun _ h1 => ?_))
  split
  · exact h1
  · exact .ite h1 (.withSum h1 (fun _ h2 => .setFlag (.bumpW (.when (.wr (.wr (.setEdges (.offer (.onChan h2))))) (fun _ h3 =>
      .bump h3)))))
theorem execCaptureAckRead {m : Master} {g : Fin 512} : s₀.goesOn (Machine.execCaptureAckRead m g s) := by
  unfold Machine.execCaptureAckRead
  exact .ofNext (.ite (.setRead h₀) (.onBus h₀ (fun _ h1 => .ackCapture (.linkedRead (.wakeFor h1)))))
theorem execTileStartWrite {m : Master} {t : Fin 64} {mask : BitVec 8} : s₀.goesOn (Machine.execTileStartWrite m t mask s) := by
  unfold Machine.execTileStartWrite
  exact .ofNext (.access h₀ (fun _ h1 => .startMask h1))
theorem execTileStopWrite {m : Master} {t : Fin 64} {mask : BitVec 8} : s₀.goesOn (Machine.execTileStopWrite m t mask s) := by
  unfold Machine.execTileStopWrite
  exact .ofNext (.access h₀ (fun _ h1 => .stopTile h1))
theorem execTileStartArm {m : Master} {t : Fin 64} {mask : BitVec 8} : s₀.goesOn (Machine.execTileStartArm m t mask s) := by
  unfold Machine.execTileStartArm
  exact .ofNext (.access h₀ (fun _ h1 => .armStart h1))
theorem execArmedStart {t : Fin 64} {ts : Stamp} : s₀.goesOn (Machine.execArmedStart t ts s) := by
  unfold Machine.execArmedStart
  exact .ofNext (.happens h₀ (fun _ h1 => .ite (.startMask (.setFlag h1)) (.lateStart h1)))
theorem execTileCommit {m : Master} {t : Fin 64} {mask : BitVec 8} : s₀.goesOn (Machine.execTileCommit m t mask s) := by
  unfold Machine.execTileCommit
  exact .ofNext (.access h₀ (fun _ h1 => .commitMask h1))
theorem execTileClrCnt {m : Master} {t : Fin 64} : s₀.goesOn (Machine.execTileClrCnt m t s) := by
  unfold Machine.execTileClrCnt
  exact .ofNext (.access h₀ (fun _ h1 => .clrTile h1))
theorem execFollowerUpdate {t : Fin 64} {f : Fin 4} {ts : Stamp} : s₀.goesOn (Machine.execFollowerUpdate t f ts s) := by
  unfold Machine.execFollowerUpdate
  refine .ofNext (.happens h₀ (fun _ h1 => ?_))
  split
  · exact h1
  · exact .ite h1 (.ite (.bumpW (.fixSlots (.setFol h1))) (.fixSlots (.setFol h1)))
theorem execFollowerEnable {m : Master} {t : Fin 64} {f : Fin 4} {v : Word} : s₀.goesOn (Machine.execFollowerEnable m t f v s)
    := by
  unfold Machine.execFollowerEnable
  exact .ofNext (.access h₀ (fun _ h1 => .writeFol h1))
theorem execSlotLoad {t : Fin 64} {slot : Fin 16} {ts : Stamp} : s₀.goesOn (Machine.execSlotLoad t slot ts s) := by
  unfold Machine.execSlotLoad
  exact .ofNext (.happens h₀ (fun _ h1 => .ite (.judgeSlot h1) (.loseSlot h1)))
theorem execSlotFire {t : Fin 64} {slot : Fin 16} {ts : Stamp} : s₀.goesOn (Machine.execSlotFire t slot ts s) := by
  unfold Machine.execSlotFire
  refine .ofNext (.happens h₀ (fun _ h1 => ?_))
  split
  · exact h1
  · exact .ite h1 (.fireSlot h1)
theorem execSlotCloseDuration {t : Fin 64} {slot : Fin 16} {ts : Stamp} : s₀.goesOn (Machine.execSlotCloseDuration t slot ts s)
    := by
  unfold Machine.execSlotCloseDuration
  exact .ofNext (.happens h₀ (fun _ h1 => .ownClose h1))
theorem execSlotCloseAngle {t : Fin 64} {slot : Fin 16} {ts : Stamp} : s₀.goesOn (Machine.execSlotCloseAngle t slot ts s) := by
  unfold Machine.execSlotCloseAngle
  exact .ofNext (.happens h₀ (fun _ h1 => .ownClose h1))
theorem execGuarded {t : Fin 64} {slot : Fin 16} {ts : Stamp} : s₀.goesOn (Machine.execGuarded t slot ts s) := by
  unfold Machine.execGuarded
  refine .ofNext (.happens h₀ (fun _ h1 => ?_))
  split
  · exact h1
  · exact .ite h1 (.closeSlot h1)
theorem execBurstEnd {t : Fin 64} {slot : Fin 16} {ts : Stamp} : s₀.goesOn (Machine.execBurstEnd t slot ts s) := by
  unfold Machine.execBurstEnd
  refine .ofNext (.happens h₀ (fun _ h1 => ?_))
  split
  · exact h1
  · exact .ite h1 (.closeSlot h1)
theorem execSlotClear {t : Fin 64} {slot : Fin 16} {ts : Stamp} : s₀.goesOn (Machine.execSlotClear t slot ts s) := by
  unfold Machine.execSlotClear
  refine .ofNext (.happens h₀ (fun _ h1 => ?_))
  split
  · exact h1
  · exact .ite h1 (.makeClear h1)
theorem execPmPinWrite {m : Master} {pin : Fin 256} {v : Word} : s₀.goesOn (Machine.execPmPinWrite m pin v s) := by
  unfold Machine.execPmPinWrite
  exact .ofNext (.access h₀ (fun _ h1 => .ite (.storePin h1) (.accErr h1)))
theorem execCoursePowerDown {course : Fin 8} {ts : Stamp} : s₀.goesOn (Machine.execCoursePowerDown course ts s) := by
  unfold Machine.execCoursePowerDown
  exact .ofNext (.happens h₀ (fun _ h1 => .withUnits h1 (fun _ h2 => .setFlag (.setFlag (.closePads h2)))))
theorem execBrCtrlWrite {m : Master} {t : Fin 64} {pair : Fin 4} {v : Word} : s₀.goesOn (Machine.execBrCtrlWrite m t pair v s)
    := by
  unfold Machine.execBrCtrlWrite
  exact .ofNext (.access h₀ (fun _ h1 => .writeBrCtrl h1))
theorem execDeadTimeExpiry {t : Fin 64} {pair : Fin 4} {ts : Stamp} : s₀.goesOn (Machine.execDeadTimeExpiry t pair ts s) := by
  unfold Machine.execDeadTimeExpiry
  refine .ofNext (.happens h₀ (fun _ h1 => ?_))
  dsimp only
  split
  · exact h1
  · exact .ite h1 (.ite (.setSide (.setBridge (.setBridge h1))) (.absent (.setBridge h1)))
theorem execMinpwExtension {t : Fin 64} {pair : Fin 4} {ts : Stamp} : s₀.goesOn (Machine.execMinpwExtension t pair ts s) := by
  unfold Machine.execMinpwExtension
  refine .ofNext (.happens h₀ (fun _ h1 => ?_))
  dsimp only
  split
  · exact h1
  · exact .ite h1 (.bump (.setSide (.setBridge h1)))
theorem execTripAccept {t : Fin 64} {inB : Bool} {since ts : Stamp} : s₀.goesOn (Machine.execTripAccept t inB since ts s) := by
  unfold Machine.execTripAccept
  dsimp only
  split
  · exact .ofNext (.reachIn h₀)
  · exact .ofNext (.ite (.setPin (.reachIn h₀)) (.withSum (.setPin (.reachIn h₀)) fun _ h1 => .latchTrips
      (.ite (.wr (.bump (.setTrip h1))) (.wr (.bump (.setTrip h1))))))
theorem execBlankingEnd {t : Fin 64} {inB : Bool} {ts : Stamp} : s₀.goesOn (Machine.execBlankingEnd t inB ts s) := by
  unfold Machine.execBlankingEnd
  exact .ofNext (.happens h₀ (fun _ h1 => .setTrip h1))
theorem execTripClear {m : Master} {t : Fin 64} {mask : BitVec 8} : s₀.goesOn (Machine.execTripClear m t mask s) := by
  unfold Machine.execTripClear
  exact .ofNext (.access h₀ (fun _ h1 => .clearTrips h1))
theorem execTripLvlWrite {m : Master} {t : Fin 64} {v : Word} : s₀.goesOn (Machine.execTripLvlWrite m t v s) := by
  unfold Machine.execTripLvlWrite
  exact .ofNext (.access h₀ (fun _ h1 => .writeTripLvl h1))
theorem execDomainEnable {m : Master} {d : Fin 16} : s₀.goesOn (Machine.execDomainEnable m d s) := by
  unfold Machine.execDomainEnable
  exact .ofNext (.access h₀ (fun _ h1 => .writeDomCtrl h1))
theorem execDomainDisable {m : Master} {d : Fin 16} : s₀.goesOn (Machine.execDomainDisable m d s) := by
  unfold Machine.execDomainDisable
  exact .ofNext (.access h₀ (fun _ h1 => .writeDomCtrl h1))
theorem execDomainConfigWrite {m : Master} {d : Fin 16} {off : Nat} {v : Word} : s₀.goesOn (Machine.execDomainConfigWrite m d
    off v s) := by
  unfold Machine.execDomainConfigWrite
  split
  · exact .access h₀ (fun _ h1 => .writeDom h1)
  · exact .access h₀ (fun _ h1 => .accErr h1)
theorem execDomClrCnt {m : Master} {d : Fin 16} : s₀.goesOn (Machine.execDomClrCnt m d s) := by
  unfold Machine.execDomClrCnt
  exact .ofNext (.access h₀ (fun _ h1 => .clrDom h1))
theorem execPrimaryEdge {d : Fin 16} {ts : Stamp} : s₀.goesOn (Machine.execPrimaryEdge d ts s) := by
  unfold Machine.execPrimaryEdge
  refine .ofNext (.happens h₀ (fun _ h1 => ?_))
  split
  · exact .ite (.primaryEdge (.setEdges h1)) h1
  · exact h1
theorem execPrimaryInactiveEdge {d : Fin 16} {ts : Stamp} : s₀.goesOn (Machine.execPrimaryInactiveEdge d ts s) := by
  unfold Machine.execPrimaryInactiveEdge
  refine .ofNext (.happens h₀ (fun _ h1 => ?_))
  split
  · exact .ite h1 (.primaryEnd (.setEdges h1))
  · exact h1
theorem execToothUpdate {d : Fin 16} {ts : Stamp} : s₀.goesOn (Machine.execToothUpdate d ts s) := by
  unfold Machine.execToothUpdate
  exact .ofNext (.happens h₀ (fun _ h1 => .ite h1 (.applyTooth h1)))
theorem execFastRunEnd {d : Fin 16} {ts : Stamp} : s₀.goesOn (Machine.execFastRunEnd d ts s) := by
  unfold Machine.execFastRunEnd
  exact .ofNext (.happens h₀ (fun _ h1 => .onDom (.judgeDomain h1)))
theorem execToothLate {d : Fin 16} {ts : Stamp} : s₀.goesOn (Machine.execToothLate d ts s) := by
  unfold Machine.execToothLate
  exact .ofNext (.happens h₀ (fun _ h1 => .ite h1 (.bump (.domEvent (.setFlag h1)))))
theorem execStallTimeout {d : Fin 16} {ts : Stamp} : s₀.goesOn (Machine.execStallTimeout d ts s) := by
  unfold Machine.execStallTimeout
  exact .ofNext (.happens h₀ (fun _ h1 => .ite h1 (.stall (.ite (.setFlag h1) h1))))
theorem execSeekTimeout {d : Fin 16} {ts : Stamp} : s₀.goesOn (Machine.execSeekTimeout d ts s) := by
  unfold Machine.execSeekTimeout
  exact .ofNext (.happens h₀ (fun _ h1 => .ite h1 (.onDom h1)))
theorem execPhaseToothEdge {d : Fin 16} {ts : Stamp} : s₀.goesOn (Machine.execPhaseToothEdge d ts s) := by
  unfold Machine.execPhaseToothEdge
  refine .ofNext (.happens h₀ fun t h1 => ?_)
  split
  · exact h1
  · refine .ite h1 ?_
    dsimp only
    split
    · exact .setEdges h1
    · exact .ite (.phaseTooth (.onDom (.setEdges h1))) (.onDom (.setEdges h1))
theorem execPhmEdge {d : Fin 16} {i : Fin 4} {ts : Stamp} : s₀.goesOn (Machine.execPhmEdge d i ts s) := by
  unfold Machine.execPhmEdge
  refine .ofNext (.happens h₀ (fun _ h1 => ?_))
  split
  · exact h1
  · exact .ite (.phmEdge (.setEdges h1)) (.setEdges h1)
theorem execAngleMessage {d : Fin 16} {dev : Fin 512} {w1 w2 w3 w4 : Word} {ts : Stamp} : s₀.goesOn (Machine.execAngleMessage d
    dev w1 w2 w3 w4 ts s) := by
  unfold Machine.execAngleMessage
  exact .ofNext (.happens h₀ (fun _ h1 => .angleMessage h1))
theorem execCalPartWrite {m : Master} {d : Fin 16} {v : Word} : s₀.goesOn (Machine.execCalPartWrite m d v s) := by
  unfold Machine.execCalPartWrite
  exact .ofNext (.access h₀ (fun _ h1 => .writePart h1))
theorem execCalendarArmDecision {r : Requester} {ws : ArmWords} {ts : Stamp} : s₀.goesOn (Machine.execCalendarArmDecision r ws
    ts s) := by
  unfold Machine.execCalendarArmDecision
  exact .ofNext (.put_calAnswer (.armDecision (.reachIn h₀)))
theorem execCalendarCancelDecision {r : Requester} {handle : BitVec 16} {ts : Stamp} : s₀.goesOn
    (Machine.execCalendarCancelDecision r handle ts s) := by
  unfold Machine.execCalendarCancelDecision
  exact .ofNext (.put_calAnswer (.cancelDecision (.reachIn h₀)))
theorem execCalendarFlushDecision {r : Requester} {d : Fin 16} {ts : Stamp} :
    s₀.goesOn (Machine.execCalendarFlushDecision r d ts s) := by
  unfold Machine.execCalendarFlushDecision
  dsimp only
  split
  · exact .ofNext (.put_calAnswer (.reachIn h₀))
  · exact .ofNext (.put_calAnswer (.flushDecision (.reachIn h₀)))
theorem execStaging {idx : Fin 8192} {ts : Stamp} : s₀.goesOn (Machine.execStaging idx ts s) := by
  unfold Machine.execStaging
  refine .ofNext (.happens h₀ (fun _ h1 => .ite h1 ?_))
  split
  · exact .stage h1
  · exact .ite h1 (.bump (.onEntry h1))
theorem execCalendarActionIssue {idx : Fin 8192} {ts : Stamp} : s₀.goesOn (Machine.execCalendarActionIssue idx ts s) := by
  unfold Machine.execCalendarActionIssue
  refine .ofNext (.happens h₀ (fun _ h1 => ?_))
  split
  · exact h1
  · exact .ite (.ite h1 (.lateNow h1)) (.ite h1 (.ended (.ite (.onEntry (.acted (.issueAct (.put h1)))) (.acted (.issueAct (.put
      h1))))))
theorem execCqRdWrite {m : Master} {d : Fin 16} {v : Word} : s₀.goesOn (Machine.execCqRdWrite m d v s) := by
  unfold Machine.execCqRdWrite
  exact .ofNext (.access h₀ (fun _ h1 => .writeCqRd h1))
theorem execCqConfigWrite {m : Master} {d : Fin 16} {size : Bool} {v : Word} : s₀.goesOn (Machine.execCqConfigWrite m d size v
    s) := by
  unfold Machine.execCqConfigWrite
  exact .ofNext (.access h₀ (fun _ h1 => .writeCq h1))
theorem execCalClrCnt {m : Master} : s₀.goesOn (Machine.execCalClrCnt m s) := by
  unfold Machine.execCalClrCnt
  exact .ofNext (.access h₀ (fun _ h1 => .clrCal h1))
theorem execWaitWake {x : Fin 128} {ts : Stamp} : s₀.goesOn (Machine.execWaitWake x ts s) := by
  unfold Machine.execWaitWake
  refine .ofNext (.happens h₀ fun t h1 => ?_)
  split
  · split
    · next hr => exact .endWait (.wakeIsland (.waitMet h1 hr))
    · exact h1
  · exact h1
theorem execWaitTimeout {x : Fin 128} {ts : Stamp} : s₀.goesOn (Machine.execWaitTimeout x ts s) := by
  unfold Machine.execWaitTimeout
  refine .ofNext (.happens h₀ (fun _ h1 => ?_))
  split
  · exact .ite (.judgeWait h1) h1
  · exact h1
theorem execTrapAnswer {x : Fin 128} {ts : Stamp} : s₀.goesOn (Machine.execTrapAnswer x ts s) := by
  unfold Machine.execTrapAnswer
  refine .ofNext (.happens h₀ fun u h1 => ?_)
  extract_lets t
  have h : s₀.lasts t := by
    unfold t
    split
    · exact .taskPacket h1
    · exact h1
  clear_value t
  split
  · split
    · exact .setCtxState (.onCtx (.setG (.setG h)))
    · exact h
  · exact h
theorem execFabricReply {x : Fin 128} {ts : Stamp} : s₀.goesOn (Machine.execFabricReply x ts s) := by
  unfold Machine.execFabricReply
  exact .ofNext (.happens h₀ (fun _ h1 => .fabricReply h1))
theorem execCtxCmdStart {m : Master} {x : Fin 128} : s₀.goesOn (Machine.execCtxCmdStart m x s) := by
  unfold Machine.execCtxCmdStart
  exact .ofNext (.access h₀ (fun _ h1 => .ctxCmd h1))
theorem execCtxCmdStop {m : Master} {x : Fin 128} : s₀.goesOn (Machine.execCtxCmdStop m x s) := by
  unfold Machine.execCtxCmdStop
  exact .ofNext (.access h₀ (fun _ h1 => .ctxCmd h1))
theorem execCtxStopEffect {x : Fin 128} {ts : Stamp} : s₀.goesOn (Machine.execCtxStopEffect x ts s) := by
  unfold Machine.execCtxStopEffect
  exact .ofNext (.happens h₀ (fun _ h1 => .stopNow h1))
theorem execEngDebugResume {e : Fin 4} : s₀.goesOn (Machine.execEngDebugResume e s) := by
  unfold Machine.execEngDebugResume
  exact .ofNext (.ite (.foldl (.put_heldChecks (.setHalt h₀)) fun _ _ h1 => .checkNow h1) h₀)
theorem execInterruptEntry {x : Fin 128} {ts : Stamp} : s₀.goesOn (Machine.execInterruptEntry x ts s) := by
  unfold Machine.execInterruptEntry
  refine .ofNext (.happens h₀ (fun _ h1 => ?_))
  split
  · exact .enterHandler (.wakeIsland h1)
  · exact h1
theorem execNointExpiry {x : Fin 128} {ts : Stamp} : s₀.goesOn (Machine.execNointExpiry x ts s) := by
  unfold Machine.execNointExpiry
  exact .ofNext (.happens h₀ (fun _ h1 => .bump (.onCtx h1)))
theorem execTaskFault {x : Fin 128} {ts : Stamp} : s₀.goesOn (Machine.execTaskFault x ts s) := by
  unfold Machine.execTaskFault
  refine .ofNext (.happens h₀ (fun _ h1 => ?_))
  split
  · exact .faultNow h1
  · exact h1
theorem execServiceFault {x : Fin 128} {during : Option CmdPath} {ts : Stamp} : s₀.goesOn (Machine.execServiceFault x during ts
    s) := by
  unfold Machine.execServiceFault
  refine .ofNext (.happens h₀ (fun _ h1 => ?_))
  split
  · split
    · exact .answerBusy (.startCtx (.faultNow h1))
    · exact .startCtx (.faultNow h1)
  · exact h1
theorem execMcParity {e : Fin 4} {l : Fin 32} {addr : Fin 8192} {dispatch goldenOk : Bool} {ts : Stamp} : s₀.goesOn
    (Machine.execMcParity e l addr dispatch goldenOk ts s) := by
  unfold Machine.execMcParity
  exact .ofNext (.happens h₀ (fun _ h1 => .machineCheck h1))
theorem execMcLockstep {e : Fin 4} {l : Fin 32} {ts : Stamp} : s₀.goesOn (Machine.execMcLockstep e l ts s) := by
  unfold Machine.execMcLockstep
  exact .ofNext (.happens h₀ (fun _ h1 => .machineCheck h1))
theorem execMcMemory {x : Fin 128} {addr : Nat} {ts : Stamp} : s₀.goesOn (Machine.execMcMemory x addr ts s) := by
  unfold Machine.execMcMemory
  refine .ofNext (.happens h₀ fun u h1 => ?_)
  extract_lets t
  have h : s₀.lasts t := .ite (.memoryCheck (.onCtx h1)) h1
  clear_value t
  split
  · exact .ite h (.ite (.startCtx (.faultNow h)) (.faultNow h))
  · exact h
theorem execEngineRetired {e : Fin 4} {ts : Stamp} : s₀.goesOn (Machine.execEngineRetired e ts s) := by
  unfold Machine.execEngineRetired
  refine .ofNext (.happens h₀ (fun _ h1 => ?_))
  split
  · exact .retire (.fault (.onCtx (.setCr (.setCr h1))))
  · exact .retire (.put h1)
theorem execPatchApply {sigOk : Bool} {ts : Stamp} : s₀.goesOn (Machine.execPatchApply sigOk ts s) := by
  unfold Machine.execPatchApply
  refine .ofNext (.happens h₀ (fun _ h1 => ?_))
  split
  · exact h1
  · exact .ite (.finishNow h1) (.ite h1 (.finishNow (.ite (.fault (.each (.drawn h1) (fun _ _ h2 => .wr (.wr (.wr (.foldl
      (.patchHold h2) fun _ _ h3 => .patchRec h3)))))) (.each (.drawn h1) (fun _ _ h2 => .wr (.wr (.wr (.foldl (.patchHold
      h2) fun _ _ h3 => .patchRec h3))))))))
theorem execBucketRefill {ts : Stamp} : s₀.goesOn (Machine.execBucketRefill ts s) := by
  unfold Machine.execBucketRefill
  refine .ofNext (.happens h₀ fun u h1 => ?_)
  extract_lets r t share floor used t₁ t₂
  have h2 : s₀.lasts t₂ := .setFlag (.ite (.govEvent (.wr h1)) (.wr h1))
  clear_value t₂
  have h3 : s₀.lasts (t₂.fill 1 (Int.ofNat (max share floor))).2 := .fill h2
  obtain ⟨⟨x1, v⟩, hv⟩ : ∃ p, t₂.fill 1 (Int.ofNat (max share floor)) = p := ⟨_, rfl⟩
  rw [hv] at h3 ⊢
  have h4 : s₀.lasts (v.fill 2 (Int.ofNat (v.shareOf 2 r) + x1)).2 := .fill h3
  obtain ⟨⟨x2, w⟩, hw⟩ : ∃ p, v.fill 2 (Int.ofNat (v.shareOf 2 r) + x1) = p := ⟨_, rfl⟩
  rw [hw] at h4
  dsimp only at h4 ⊢
  rw [hw]
  exact .fill h4
theorem execAdmissionRefresh {e : Fin 4} {ts : Stamp} : s₀.goesOn (Machine.execAdmissionRefresh e ts s) := by
  unfold Machine.execAdmissionRefresh
  exact .ofNext (.happens h₀ (fun _ h1 => .showAdmit (.when (.put_admits (.put_settledAt (.each (.each h1 (fun _ _ h2 => .bumpW
    h2)) (fun _ _ h2 => .put_unsettled (.charge (.when h2 (fun _ h3 => .put h3))))))) (fun _ h2 => .touch h2))))
theorem execSensorReading {temps : List Int} {ts : Stamp} : s₀.goesOn (Machine.execSensorReading temps ts s) := by
  unfold Machine.execSensorReading
  refine .ofNext (.happens h₀ (fun _ h1 => .ite ?_ (.showAdmit (.govEvent (.setFld ?_)))))
  · split
    · exact .wr (.setFlag (.ite (.fault (.each h1 (fun _ _ h2 => .judgeSensor (.setFld h2)))) (.each h1 (fun _ _ h2 =>
        .judgeSensor (.setFld h2)))))
    · exact .setFlag (.ite (.fault (.each h1 (fun _ _ h2 => .judgeSensor (.setFld h2)))) (.each h1 (fun _ _ h2 => .judgeSensor
        (.setFld h2))))
  · split
    · exact .wr (.setFlag (.ite (.fault (.each h1 (fun _ _ h2 => .judgeSensor (.setFld h2)))) (.each h1 (fun _ _ h2 =>
        .judgeSensor (.setFld h2)))))
    · exact .setFlag (.ite (.fault (.each h1 (fun _ _ h2 => .judgeSensor (.setFld h2)))) (.each h1 (fun _ _ h2 => .judgeSensor
        (.setFld h2))))
theorem execForecast {ts : Stamp} : s₀.goesOn (Machine.execForecast ts s) := by
  unfold Machine.execForecast
  exact .ofNext (.happens h₀ (fun _ h1 => .ite (.govEvent (.wr (.wr (.put h1)))) (.wr (.wr (.put h1)))))
theorem execGovBudgetWrite {m : Master} {v : Word} : s₀.goesOn (Machine.execGovBudgetWrite m v s) := by
  unfold Machine.execGovBudgetWrite
  exact .ofNext (.access h₀ (fun _ h1 => .writeBudget h1))
theorem execGovConfigWrite {m : Master} {r : GovReg} {v : Word} : s₀.goesOn (Machine.execGovConfigWrite m r v s) := by
  unfold Machine.execGovConfigWrite
  exact .ofNext (.access h₀ (fun _ h1 => .ite h1 (.writeGov h1)))
theorem execGovClrCnt {m : Master} : s₀.goesOn (Machine.execGovClrCnt m s) := by
  unfold Machine.execGovClrCnt
  exact .ofNext (.access h₀ (fun _ h1 => .clrGov h1))
theorem execIslandGate {isl : Fin 6} {ts : Stamp} : s₀.goesOn (Machine.execIslandGate isl ts s) := by
  unfold Machine.execIslandGate
  exact .ofNext (.happens h₀ (fun _ h1 => .setFlag h1))
theorem execGovPstateReq {m : Master} {v : Word} : s₀.goesOn (Machine.execGovPstateReq m v s) := by
  unfold Machine.execGovPstateReq
  exact .ofNext (.onBus h₀ (fun _ h1 => .writePstateReq h1))
theorem execPowerStateCommit {ts : Stamp} : s₀.goesOn (Machine.execPowerStateCommit ts s) := by
  unfold Machine.execPowerStateCommit
  have h : s₀.lasts (s.reach ts) := .reach h₀
  refine .ofNext ?_
  split
  · exact h
  · exact .ite h (.ite (.endPwr h) (.commitSleep (.endPwr (.ite (.sleepLinks (.sleepDomains h)) h))))
theorem execPowerStateExit {aoTicks : Word} {ts : Stamp} : s₀.goesOn (Machine.execPowerStateExit aoTicks ts s) := by
  unfold Machine.execPowerStateExit
  exact .ofNext (.ite (.reach h₀) (.when (.toRun (.ite (.advanceAo h₀) h₀)) (fun _ h1 => .govEvent h1)))
theorem execWatchSlotFire {src : WatchSrc} {level : Bool} {ts : Stamp} : s₀.goesOn (Machine.execWatchSlotFire src level ts s) :=
    by
  unfold Machine.execWatchSlotFire
  exact .ofNext (.slotsFire (.setWatched (.reach h₀)))
theorem execAlarm {ts : Stamp} : s₀.goesOn (Machine.execAlarm ts s) := by
  unfold Machine.execAlarm
  exact .ofNext (.ite (.reach h₀) (.slotsFire (.setAo (.reach h₀))))
theorem execCatalogueWord0Write {m : Master} {sig : Fin 131072} {v : Word} : s₀.goesOn (Machine.execCatalogueWord0Write m sig v
    s) := by
  unfold Machine.execCatalogueWord0Write
  exact .ofNext (.access h₀ (fun _ h1 => .writeCat0 h1))
theorem execCatalogueWord12Write {m : Master} {sig : Fin 131072} {word2 : Bool} {v : Word} : s₀.goesOn
    (Machine.execCatalogueWord12Write m sig word2 v s) := by
  unfold Machine.execCatalogueWord12Write
  exact .ofNext (.access h₀ (fun _ h1 => .writeCat12 h1))
theorem execLogSourceEvent {ts : Stamp} : s₀.goesOn (Machine.execLogSourceEvent ts s) := by
  unfold Machine.execLogSourceEvent
  refine .ofNext ?_
  split
  · exact .reachIn h₀
  · exact .each (.put_offers (.reachIn h₀)) fun _ _ h1 => .logEventOf h1
theorem execRateSample {sig : Fin 131072} {ts : Stamp} : s₀.goesOn (Machine.execRateSample sig ts s) := by
  unfold Machine.execRateSample
  exact .ofNext (.happens h₀ (fun _ h1 => .ite (.bumpW h1) (.logQualify (.put h1))))
theorem execAngleTrigger {sig : Fin 131072} {ts : Stamp} : s₀.goesOn (Machine.execAngleTrigger sig ts s) := by
  unfold Machine.execAngleTrigger
  exact .ofNext (.happens h₀ (fun _ h1 => .ite (.logQualify h1) (.ite (.logQualify h1) h1)))
theorem execLogRecordWrite {ts : Stamp} : s₀.goesOn (Machine.execLogRecordWrite ts s) := by
  unfold Machine.execLogRecordWrite
  refine .ofNext ?_
  split
  · exact .reachIn h₀
  · exact .ite (.bumpW (.logReturns (.put_logQ (.reachIn h₀)))) (.writeRec (.logReturns (.put_logQ (.reachIn h₀))))
theorem execMark {ts : Stamp} : s₀.goesOn (Machine.execMark ts s) := by
  unfold Machine.execMark
  exact .ofNext (.happens h₀ (fun _ h1 => .markDue h1))
theorem execLogRingWrite {m : Master} {v : Word} : s₀.goesOn (Machine.execLogRingWrite m v s) := by
  unfold Machine.execLogRingWrite
  exact .ofNext (.access h₀ (fun _ h1 => .writeLogRing h1))
theorem execLogRdWrite {m : Master} {v : Word} : s₀.goesOn (Machine.execLogRdWrite m v s) := by
  unfold Machine.execLogRdWrite
  exact .ofNext (.access h₀ (fun _ h1 => .writeLogRd h1))
theorem execLogCtrlWrite {m : Master} {v : Word} : s₀.goesOn (Machine.execLogCtrlWrite m v s) := by
  unfold Machine.execLogCtrlWrite
  exact .ofNext (.access h₀ (fun _ h1 => .writeLogCtrl h1))
theorem execLogClrCnt {m : Master} : s₀.goesOn (Machine.execLogClrCnt m s) := by
  unfold Machine.execLogClrCnt
  exact .ofNext (.access h₀ (fun _ h1 => .clrLog h1))
theorem execLogThreshWrite {m : Master} {v : Word} : s₀.goesOn (Machine.execLogThreshWrite m v s) := by
  unfold Machine.execLogThreshWrite
  exact .ofNext (.access h₀ (fun _ h1 => .writeLogThresh h1))
theorem execLogDrainDescriptor {ts : Stamp} : s₀.goesOn (Machine.execLogDrainDescriptor ts s) := by
  unfold Machine.execLogDrainDescriptor
  refine .ofNext (.happens h₀ fun t h1 => ?_)
  dsimp only
  split
  · exact .onDma h1
  · split
    · exact .dmaHalt h1
    · exact .setLogRd (.onDma (.stepProg (.putBytes h1)))
theorem execLogFlushExpiry {ts : Stamp} : s₀.goesOn (Machine.execLogFlushExpiry ts s) := by
  unfold Machine.execLogFlushExpiry
  refine .ofNext (.happens h₀ (fun _ h1 => .ite (.ite (.onDma h1) h1) ?_))
  split
  · exact .ite (.logEvent h1) h1
  · exact h1
theorem execPortCfgWrite {m : Master} {p : Fin 32} {r : PortCfgReg} {v : Word} : s₀.goesOn (Machine.execPortCfgWrite m p r v s)
    := by
  unfold Machine.execPortCfgWrite
  exact .ofNext (.access h₀ (fun _ h1 => .writePortCfg h1))
theorem execPortAbort {m : Master} {p : Fin 32} : s₀.goesOn (Machine.execPortAbort m p s) := by
  unfold Machine.execPortAbort
  exact .ofNext (.access h₀ (fun _ h1 => .portStop h1))
theorem execPortFlush {m : Master} {p : Fin 32} : s₀.goesOn (Machine.execPortFlush m p s) := by
  unfold Machine.execPortFlush
  exact .ofNext (.access h₀ (fun _ h1 => .portFlush h1))
theorem execPortClrCnt {m : Master} {p : Fin 32} : s₀.goesOn (Machine.execPortClrCnt m p s) := by
  unfold Machine.execPortClrCnt
  exact .ofNext (.access h₀ (fun _ h1 => .clrPort h1))
theorem execTimeTrigger {p : Fin 32} {ts : Stamp} : s₀.goesOn (Machine.execTimeTrigger p ts s) := by
  unfold Machine.execTimeTrigger
  refine .ofNext (.happens h₀ (fun _ h1 => ?_))
  split
  · exact h1
  · exact .ite h1 (.ttFire (.onPort h1))
theorem execPortTtWrite {m : Master} {p : Fin 32} {r : PortTtReg} {v : Word} : s₀.goesOn (Machine.execPortTtWrite m p r v s) :=
    by
  unfold Machine.execPortTtWrite
  exact .ofNext (.access h₀ (fun _ h1 => .writeTt h1))
theorem execTransactionStart {p : Fin 32} {ts : Stamp} : s₀.goesOn (Machine.execTransactionStart p ts s) := by
  unfold Machine.execTransactionStart
  refine .ofNext (.happens h₀ (fun _ h1 => ?_))
  split
  · exact h1
  · exact .ite (.txnDone (.onPort (.onPort (.wakeIsland h1)))) (.withUnit (.onPort (.wakeIsland h1)) (fun _ h2 => .setFlag
      (.onPort h2)))
theorem execScriptCs {p : Fin 32} {ts : Stamp} : s₀.goesOn (Machine.execScriptCs p ts s) := by
  unfold Machine.execScriptCs
  exact .ofNext (.scriptStep h₀ (fun _ _ h1 => .scriptCs h1))
theorem execXfer {p : Fin 32} {rx : Word} {ts : Stamp} : s₀.goesOn (Machine.execXfer p rx ts s) := by
  unfold Machine.execXfer
  exact .ofNext (.scriptStep h₀ (fun _ _ h1 => .scriptXfer h1))
theorem execRecv {p : Fin 32} {ts : Stamp} : s₀.goesOn (Machine.execRecv p ts s) := by
  unfold Machine.execRecv
  exact .ofNext (.scriptStep h₀ (fun _ _ h1 => .scriptRecv h1))
theorem execTimeout {p : Fin 32} {ts : Stamp} : s₀.goesOn (Machine.execTimeout p ts s) := by
  unfold Machine.execTimeout
  exact .ofNext (.scriptStep h₀ (fun _ _ h1 => .ite h1 (.portFinish h1)))
theorem execScriptWait {p : Fin 32} {ts : Stamp} : s₀.goesOn (Machine.execScriptWait p ts s) := by
  unfold Machine.execScriptWait
  exact .ofNext (.scriptStep h₀ (fun _ _ h1 => .ite h1 (.portGo h1)))
theorem execLoop {p : Fin 32} {ts : Stamp} : s₀.goesOn (Machine.execLoop p ts s) := by
  unfold Machine.execLoop
  exact .ofNext (.scriptStep h₀ (fun _ _ h1 => .ite (.portGo h1) (.portGo h1)))
theorem execScriptEnd {p : Fin 32} {ts : Stamp} : s₀.goesOn (Machine.execScriptEnd p ts s) := by
  unfold Machine.execScriptEnd
  refine .ofNext (.happens h₀ (fun _ h1 => ?_))
  split
  · exact h1
  · split
    · exact .portFinish h1
    · exact .portFinish h1
    · exact h1
theorem execSentFrame {p : Fin 32} {f : SentObs} {ts : Stamp} : s₀.goesOn (Machine.execSentFrame p f ts s) := by
  unfold Machine.execSentFrame
  exact .ofNext (.happens h₀ (fun _ h1 => .ite (.frameErr (.onPort h1)) (.ite (.bump (.onPort h1)) (.slowBits (.onPort (.onPort
    h1))))))
theorem execUartByte {p : Fin 32} {byte : Byte} {ok : Bool} {ts : Stamp} : s₀.goesOn (Machine.execUartByte p byte ok ts s) := by
  unfold Machine.execUartByte
  exact .ofNext (.happens h₀ (fun _ h1 => .ite (.frameErr h1) (.ite (.bump h1) (.onPort h1))))
theorem execPortScriptWrite {m : Master} {p : Fin 32} {w : Fin 256} {v : Word} : s₀.goesOn (Machine.execPortScriptWrite m p w v
    s) := by
  unfold Machine.execPortScriptWrite
  exact .ofNext (.access h₀ (fun _ h1 => .writeScript h1))
theorem execPortSwap {p : Fin 32} {ts : Stamp} : s₀.goesOn (Machine.execPortSwap p ts s) := by
  unfold Machine.execPortSwap
  refine .ofNext (.happens h₀ (fun _ h1 => ?_))
  split
  · refine .ite (.fltEvent (.fault (.portEvent (.bump ?_)))) (.fault (.portEvent (.bump ?_)))
    · split
      · exact .onPort (.setFld (.put_spares (.setFlag (.setFld (.drawn h1)))))
      · exact .portRestart (.onPort (.setFld (.put_spares (.setFlag (.setFld (.drawn h1))))))
    · split
      · exact .onPort (.setFld (.put_spares (.setFlag (.setFld (.drawn h1)))))
      · exact .portRestart (.onPort (.setFld (.put_spares (.setFlag (.setFld (.drawn h1))))))
  · refine .fault (.portFlushAll ?_)
    split
    · exact .portFinish (.onPort (.withUnit h1 (fun _ h2 => .setFailed h2)))
    · exact .onPort (.withUnit h1 (fun _ h2 => .setFailed h2))
theorem execLinkTrain {k : Fin 4} {peer : LinkInfo} {ts : Stamp} : s₀.goesOn (Machine.execLinkTrain k peer ts s) := by
  unfold Machine.execLinkTrain
  exact .ofNext (.happens h₀ (fun _ h1 => .ite (.setFld h1) (.ite (.setFld h1) (.foldl (.put_parked (.ite (.takeUplink
    (.linkEvent (.setLink (.wr h1)))) (.linkEvent (.setLink (.wr h1))))) fun _ _ h2 => .mlRoute h2))))
theorem execFrameReceive {k : Fin 4} {f : RxFrame} {ts : Stamp} : s₀.goesOn (Machine.execFrameReceive k f ts s) := by
  unfold Machine.execFrameReceive
  exact .ofNext (.happens h₀ (fun _ h1 => .ite (.gotFrame (.setLink h1)) (.linkEvent (.bumpW (.setLink h1)))))
theorem execRetransmitTimeout {k : Fin 4} {ts : Stamp} : s₀.goesOn (Machine.execRetransmitTimeout k ts s) := by
  unfold Machine.execRetransmitTimeout
  refine .ofNext (.happens h₀ (fun _ h1 => ?_))
  split
  · exact h1
  · exact .ite (.dropLink h1) (.resend h1)
theorem execLinkDown {k : Fin 4} {ts : Stamp} : s₀.goesOn (Machine.execLinkDown k ts s) := by
  unfold Machine.execLinkDown
  exact .ofNext (.happens h₀ (fun _ h1 => .dropLink h1))
theorem execStandbyTakeover {k : Fin 4} {ts : Stamp} : s₀.goesOn (Machine.execStandbyTakeover k ts s) := by
  unfold Machine.execStandbyTakeover
  exact .ofNext (.happens h₀ (fun _ h1 => .foldl (.fault (.linkEvent (.bump (.onLink (.takeUplink (.each h1 (fun _ _ h2 =>
    .onLink h2))))))) fun _ _ h2 => .sendOn h2))
theorem execBeaconSend {k : Fin 4} {ts : Stamp} : s₀.goesOn (Machine.execBeaconSend k ts s) := by
  unfold Machine.execBeaconSend
  exact .ofNext (.happens h₀ (fun _ h1 => .onLink h1))
theorem execBeaconReceive {k : Fin 4} {stamp : BitVec 40} {check : Byte} {ts : Stamp} : s₀.goesOn (Machine.execBeaconReceive k
    stamp check ts s) := by
  unfold Machine.execBeaconReceive
  exact .ofNext (.happens h₀ (fun _ h1 => .ite (.linkEvent (.bump h1)) (.ite (.put_slew (.wr (.ite (.sendOn (.setLink h1))
    (.setLink h1)))) (.ite (.sendOn (.setLink h1)) (.setLink h1)))))
theorem execDelayFrame {k : Fin 4} {launch arrival ts : Stamp} : s₀.goesOn (Machine.execDelayFrame k launch arrival ts s) := by
  unfold Machine.execDelayFrame
  exact .ofNext (.happens h₀ (fun _ h1 => .delayExchange h1))
theorem execJoinJudgement {dup : Bool} {ts : Stamp} : s₀.goesOn (Machine.execJoinJudgement dup ts s) := by
  unfold Machine.execJoinJudgement
  refine .ofNext (.happens h₀ (fun _ h1 => ?_))
  split
  · exact h1
  · exact .ite h1 (.ite (.joinIs h1) (.ite (.joinIs h1) (.ite (.joinNow h1) (.ite (.joinIs h1) (.ite (.joinNow (.stepTo (.reach
      h1))) (.joinIs (.onLink h1)))))))
theorem execMlCtrlEnable {m : Master} : s₀.goesOn (Machine.execMlCtrlEnable m s) := by
  unfold Machine.execMlCtrlEnable
  exact .ofNext (.access h₀ (fun _ h1 => .writeMlCtrl h1))
theorem execMlClrCnt {m : Master} : s₀.goesOn (Machine.execMlClrCnt m s) := by
  unfold Machine.execMlClrCnt
  exact .ofNext (.access h₀ (fun _ h1 => .writeMlCtrl h1))
theorem execHoldMaxExpiry {ts : Stamp} : s₀.goesOn (Machine.execHoldMaxExpiry ts s) := by
  unfold Machine.execHoldMaxExpiry
  exact .ofNext (.happens h₀ (fun _ h1 => .setFld (.unalign (.setFlag h1))))
theorem execSysstartSend {m : Master} {v : Word} : s₀.goesOn (Machine.execSysstartSend m v s) := by
  unfold Machine.execSysstartSend
  exact .ofNext (.access h₀ (fun _ h1 => .writeSsGo h1))
theorem execSysstartReceive {start : Stamp} {tag : BitVec 16} {ts : Stamp} : s₀.goesOn (Machine.execSysstartReceive start tag ts
    s) := by
  unfold Machine.execSysstartReceive
  exact .ofNext (.happens h₀ (fun _ h1 => .gotSysstart h1))
theorem execSystemLockRequest {lock : Fin 64} {op : LockOp} {dev : Fin 512} {x : Fin 128} {ts : Stamp} : s₀.goesOn
    (Machine.execSystemLockRequest lock op dev x ts s) := by
  unfold Machine.execSystemLockRequest
  exact .ofNext (.happens h₀ (fun _ h1 => .serveLock h1))
theorem execDeviceLost {dev : Fin 512} {ts : Stamp} : s₀.goesOn (Machine.execDeviceLost dev ts s) := by
  unfold Machine.execDeviceLost
  exact .ofNext (.happens h₀ fun _ h1 => .fault (.setRoute (.each (.put_slockQ h1) fun _ _ h2 => .grantNext h2)))
theorem execMsgReceive {k : Fin 4} {dev : Fin 512} {code : Byte} {payload : Word} {ts : Stamp} : s₀.goesOn
    (Machine.execMsgReceive k dev code payload ts s) := by
  unfold Machine.execMsgReceive
  exact .ofNext (.happens h₀ (fun _ h1 => .gotMsg h1))
theorem execMlMsgqPop {m : Master} : s₀.goesOn (Machine.execMlMsgqPop m s) := by
  unfold Machine.execMlMsgqPop
  exact .ofNext (.access h₀ (fun _ h1 => .popMsg h1))
theorem execPeerMboxReceive {f : PeerFrame} {ts : Stamp} : s₀.goesOn (Machine.execPeerMboxReceive f ts s) := by
  unfold Machine.execPeerMboxReceive
  exact .ofNext (.happens h₀ (fun _ h1 => .gotBox h1))
theorem execAlive {k : Fin 4} {ts : Stamp} : s₀.goesOn (Machine.execAlive k ts s) := by
  unfold Machine.execAlive
  exact .ofNext (.happens h₀ (fun _ h1 => .sendOn h1))
theorem execPerstAssert  : s₀.goesOn (Machine.execPerstAssert s) := by
  unfold Machine.execPerstAssert
  exact .ofNext (.setLatch (.put_msixOn_msixMask_hostLink_d3hot (.each h₀ (fun _ _ h1 => .wr (.clr (.clr (.clr h1)))))))
theorem execSysClrCnt {m : Master} : s₀.goesOn (Machine.execSysClrCnt m s) := by
  unfold Machine.execSysClrCnt
  exact .ofNext (.access h₀ (fun _ h1 => .clrSys h1))
theorem execSysCmdMboxWrite {m : Master} {v : Word} : s₀.goesOn (Machine.execSysCmdMboxWrite m v s) := by
  unfold Machine.execSysCmdMboxWrite
  exact .ofNext (.access h₀ (fun _ h1 => .writeCmdMbox h1))
theorem execMbDataWrite {m : Master} {box : Fin 44} {n : Fin 16} {v : Word} : s₀.goesOn (Machine.execMbDataWrite m box n v s) :=
    by
  unfold Machine.execMbDataWrite
  exact .ofNext (.onBus h₀ (fun _ h1 => .writeData h1))
theorem execMbGoSet {m : Master} {box : Fin 44} : s₀.goesOn (Machine.execMbGoSet m box s) := by
  unfold Machine.execMbGoSet
  exact .ofNext (.onBus h₀ (fun _ h1 => .writeGo h1))
theorem execMbDone {m : Master} {box : Fin 44} : s₀.goesOn (Machine.execMbDone m box s) := by
  unfold Machine.execMbDone
  exact .ofNext (.onBus h₀ (fun _ h1 => .writeDone h1))
theorem execMbCfgWrite {m : Master} {box : Fin 44} {v : Word} : s₀.goesOn (Machine.execMbCfgWrite m box v s) := by
  unfold Machine.execMbCfgWrite
  exact .ofNext (.onBus h₀ (fun _ h1 => .writeMbCfg h1))
theorem execMbxClrCnt {m : Master} : s₀.goesOn (Machine.execMbxClrCnt m s) := by
  unfold Machine.execMbxClrCnt
  exact .ofNext (.access h₀ (fun _ h1 => .clrBoxes h1))
theorem execLockRead {m : Master} {lock : Fin 256} : s₀.goesOn (Machine.execLockRead m lock s) := by
  unfold Machine.execLockRead
  exact .ofNext (.onBus h₀ (fun _ h1 => .setRead (.lockRead h1)))
theorem execLockRelease {m : Master} {lock : Fin 256} : s₀.goesOn (Machine.execLockRelease m lock s) := by
  unfold Machine.execLockRelease
  exact .ofNext (.access h₀ (fun _ h1 => .lockRelease h1))
theorem execLockClrCnt {m : Master} : s₀.goesOn (Machine.execLockClrCnt m s) := by
  unfold Machine.execLockClrCnt
  exact .ofNext (.access h₀ (fun _ h1 => .setFld h1))
theorem execIntPendSet {m : Master} {n : Fin 8} {v : Word} : s₀.goesOn (Machine.execIntPendSet m n v s) := by
  unfold Machine.execIntPendSet
  exact .ofNext (.onBus h₀ (fun _ h1 => .writePendSet h1))
theorem execIntPendClr {m : Master} {n : Fin 8} {v : Word} : s₀.goesOn (Machine.execIntPendClr m n v s) := by
  unfold Machine.execIntPendClr
  exact .ofNext (.onBus h₀ (fun _ h1 => .writePendClr h1))
theorem execIntEnSet {m : Master} {n : Fin 8} {v : Word} : s₀.goesOn (Machine.execIntEnSet m n v s) := by
  unfold Machine.execIntEnSet
  exact .ofNext (.onBus h₀ (fun _ h1 => .writeEnSet h1))
theorem execIntEnClr {m : Master} {n : Fin 8} {v : Word} : s₀.goesOn (Machine.execIntEnClr m n v s) := by
  unfold Machine.execIntEnClr
  exact .ofNext (.onBus h₀ (fun _ h1 => .writeEnClr h1))
theorem execIntRouteWrite {m : Master} {src : Fin 256} {v : Word} : s₀.goesOn (Machine.execIntRouteWrite m src v s) := by
  unfold Machine.execIntRouteWrite
  exact .ofNext (.onBus h₀ (fun _ h1 => .writeRoute h1))
theorem execPrvPendSet {m : Master} {e : Fin 4} {v : Word} : s₀.goesOn (Machine.execPrvPendSet m e v s) := by
  unfold Machine.execPrvPendSet
  exact .ofNext (.onBus h₀ (fun _ h1 => .writePrvPend h1))
theorem execHostEoi {m : Master} {src : Byte} : s₀.goesOn (Machine.execHostEoi m src s) := by
  unfold Machine.execHostEoi
  exact .ofNext (.onBus h₀ (fun _ h1 => .writeHostEoi h1))
theorem execSupClaim {m : Master} : s₀.goesOn (Machine.execSupClaim m s) := by
  unfold Machine.execSupClaim
  exact .ofNext (.ite (.setRead h₀) (.onBus h₀ (fun _ h1 => .setRead (.supClaim h1))))
theorem execSupEoi {m : Master} {src : Byte} : s₀.goesOn (Machine.execSupEoi m src s) := by
  unfold Machine.execSupEoi
  exact .ofNext (.onBus h₀ (fun _ h1 => .writeSupEoi h1))
theorem execVectorIssue {vec : Fin 64} {ts : Stamp} : s₀.goesOn (Machine.execVectorIssue vec ts s) := by
  unfold Machine.execVectorIssue
  exact .ofNext (.happens h₀ (fun _ h1 => .issueVector (.each h1 (fun _ _ h2 => .issueVector h2))))
theorem execSleepIntent {e : PmEvent} : s₀.goesOn (Machine.execSleepIntent e s) := by
  unfold Machine.execSleepIntent
  split
  · exact .onBus h₀ (fun _ h1 => .writeHostPm h1)
  · exact .ite (.put_hostLink (.onBus h₀ (fun _ h1 => .flushVectors h1))) h₀
  · exact .ite (.put h₀) h₀
  · exact .ite (.put h₀) h₀
  · exact .ite (.put h₀) h₀
theorem execVectorUnmask {vec : Fin 64} {ts : Stamp} : s₀.goesOn (Machine.execVectorUnmask vec ts s) := by
  unfold Machine.execVectorUnmask
  exact .ofNext (.ite (.issueVector (.put_msixOn_msixMask (.setFlag (.reachIn h₀)))) (.put_msixOn_msixMask (.setFlag (.reachIn
    h₀))))
theorem execVecModWrite {m : Master} {vec : Fin 64} {v : Word} : s₀.goesOn (Machine.execVecModWrite m vec v s) := by
  unfold Machine.execVecModWrite
  exact .ofNext (.onBus h₀ (fun _ h1 => .writeVecMod h1))
theorem execDmaTail {m : Master} {c : Fin 16} {v : Word} : s₀.goesOn (Machine.execDmaTail m c v s) := by
  unfold Machine.execDmaTail
  exact .ofNext (.access h₀ (fun _ h1 => .writeTail h1))
theorem execDescriptorFetch {c : Fin 16} {ts : Stamp} : s₀.goesOn (Machine.execDescriptorFetch c ts s) := by
  unfold Machine.execDescriptorFetch
  refine .ofNext (.happens h₀ (fun _ h1 => ?_))
  dsimp only
  split
  · exact .dmaHalt h1
  · exact .ite (.withUnit h1 (fun _ h2 => .wr (.setFlag (.onDma h2)))) (.setFlag h1)
theorem execCommand {c : Fin 16} {ts : Stamp} : s₀.goesOn (Machine.execCommand c ts s) := by
  unfold Machine.execCommand
  exact .ofNext (.happens h₀ (fun _ h1 => .ringCommand h1))
theorem execDmaBurst {c : Fin 16} {ts : Stamp} : s₀.goesOn (Machine.execDmaBurst c ts s) := by
  unfold Machine.execDmaBurst
  exact .ofNext (.happens h₀ (fun _ h1 => .burstAt (.each h1 (fun _ _ h2 => .burstAt h2))))
theorem execDescriptorComplete {c : Fin 16} {ts : Stamp} : s₀.goesOn (Machine.execDescriptorComplete c ts s) := by
  unfold Machine.execDescriptorComplete
  exact .ofNext (.happens h₀ (fun _ h1 => .completeDesc h1))
theorem execDmaHalt {c : Fin 16} {h : HaltObs} {ts : Stamp} : s₀.goesOn (Machine.execDmaHalt c h ts s) := by
  unfold Machine.execDmaHalt
  exact .ofNext (.happens h₀ (fun _ h1 => .ite (.ite (.dmaHalt h1) h1) (.ite (.ite (.dmaHalt h1) (.ite (.dmaHalt h1) h1)) (.ite
    (.dmaHalt h1) h1))))
theorem execDmaEnWrite {m : Master} {c : Fin 16} {on : Bool} : s₀.goesOn (Machine.execDmaEnWrite m c on s) := by
  unfold Machine.execDmaEnWrite
  exact .ofNext (.access h₀ (fun _ h1 => .writeEn h1))
theorem execPause {m : Master} {c : Fin 16} {on : Bool} : s₀.goesOn (Machine.execPause m c on s) := by
  unfold Machine.execPause
  exact .ofNext (.access h₀ (fun _ h1 => .pauseWrite h1))
theorem execResume {m : Master} {c : Fin 16} : s₀.goesOn (Machine.execResume m c s) := by
  unfold Machine.execResume
  exact .ofNext (.access h₀ (fun _ h1 => .dmaResume h1))
theorem execSkip {m : Master} {c : Fin 16} : s₀.goesOn (Machine.execSkip m c s) := by
  unfold Machine.execSkip
  exact .ofNext (.access h₀ (fun _ h1 => .dmaSkip h1))
theorem execDmaRingWrite {m : Master} {c : Fin 16} {r : DmaRingReg} {v : Word} : s₀.goesOn (Machine.execDmaRingWrite m c r v s)
    := by
  unfold Machine.execDmaRingWrite
  exact .ofNext (.access h₀ (fun _ h1 => .writeRing h1))
theorem execDmaClrCnt {m : Master} : s₀.goesOn (Machine.execDmaClrCnt m s) := by
  unfold Machine.execDmaClrCnt
  exact .ofNext (.access h₀ (fun _ h1 => .clrDma h1))
theorem execScrubRead {mem : GuardedMem} {idx : Nat} {outcome : ScrubOutcome} {ts : Stamp} :
    s₀.goesOn (Machine.execScrubRead mem idx outcome ts s) := by
  unfold Machine.execScrubRead
  refine .ofNext (.happens h₀ fun t h1 => ?_)
  split
  extract_lets pos fresh t₀ t₁ t₂ t₃
  have h2 : s₀.lasts t₂ := .put_scrubPos (.ite (.put_passCorr (.wr (.bumpW h1))) h1)
  have h3 : s₀.lasts t₃ := by
    unfold t₃
    split
    · exact .ite h2 (.goodGolden h2)
    · exact h2
  clear_value t₃
  split
  · exact h3
  · exact .ite (.fltEvent (.put_passCorr (.bumpW h3))) (.put_passCorr (.bumpW h3))
  · exact .uncorrectable h3
theorem execTileSpare {t : Fin 64} {ts : Stamp} : s₀.goesOn (Machine.execTileSpare t ts s) := by
  unfold Machine.execTileSpare
  exact .ofNext (.happens h₀ (fun _ h1 => .spareTile h1))
theorem execSpareRelease {t : Fin 64} {ts : Stamp} : s₀.goesOn (Machine.execSpareRelease t ts s) := by
  unfold Machine.execSpareRelease
  refine .ofNext (.happens h₀ (fun _ h1 => ?_))
  split
  · exact h1
  · exact .fault (.syncTile (.setFlag (.setFlag (.setFlag (.openPads (.spareClock (.put h1)))))))
theorem execFltAckWrite {m : Master} {v : Word} : s₀.goesOn (Machine.execFltAckWrite m v s) := by
  unfold Machine.execFltAckWrite
  exact .ofNext (.access h₀ (fun _ h1 => .ackFault h1))
theorem execEngDebug {write : Option DebugWrite} : s₀.goesOn (Machine.execEngDebug write s) := by
  unfold Machine.execEngDebug
  split
  · exact .when (.loadTap h₀) (fun _ h1 => .writeHalted h1)
  · exact .loadTap h₀
theorem execAngleInterpolation {d : Fin 16} {ts : Stamp} : s₀.goesOn (Machine.execAngleInterpolation d ts s) := by
  unfold Machine.execAngleInterpolation
  exact .ofNext (.happens h₀ (fun _ h1 => .judgeDomain h1))
theorem execPhaseLeadingEdge {d : Fin 16} {ts : Stamp} : s₀.goesOn (Machine.execPhaseLeadingEdge d ts s) := by
  unfold Machine.execPhaseLeadingEdge
  refine .ofNext (.happens h₀ (fun _ h1 => ?_))
  split
  · exact h1
  · exact .ite h1 (.setDom (.setEdges h1))
theorem execAckNakReceive {k : Fin 4} {nak : Bool} {seq : Byte} : s₀.goesOn (Machine.execAckNakReceive k nak seq s) := by
  unfold Machine.execAckNakReceive
  exact .ofNext (.ite h₀ (.ite (.ite (.dropLink h₀) (.resend h₀)) (.acked h₀)))
theorem execPcieLinkTrained  : s₀.goesOn (Machine.execPcieLinkTrained s) := by
  unfold Machine.execPcieLinkTrained
  exact .ofNext (.ite h₀ (.each (.put h₀) (fun _ _ h1 => .issueVector h1)))
theorem execVddAoLoss : s₀.goesOn (Machine.execVddAoLoss s) :=
  .ofNext (.memWrite h₀ id id id (fun _ => rfl))
theorem execDroppedRead {m : Master} {off width : Nat} : s₀.goesOn (Machine.execDroppedRead m off width s) :=
  .ofNext (.readOn h₀ fun _ h1 => .busRead h1)

/-- Each instruction of a task goesOn to a state that lasts. -/
theorem taskMeaning {i : Instr} : s₀.goesOn (Machine.taskMeaning i s) := by
  unfold Machine.taskMeaning
  split
  · exact .execCommit h₀
  · exact .ofNext (.rrr h₀)
  · exact .ofNext (.rrr h₀)
  · exact .ofNext (.rrr h₀)
  · exact .ofNext (.rrr h₀)
  · exact .ofNext (.rrr h₀)
  · exact .ofNext (.rrr h₀)
  · exact .ofNext (.rrr h₀)
  · exact .ofNext (.rrr h₀)
  · exact .ofNext (.rrr h₀)
  · exact .ofNext (.rrr h₀)
  · exact .ofNext (.rrr h₀)
  · exact .ofNext (.rrr h₀)
  · exact .ofNext (.rrr h₀)
  · exact .ofNext (.rrr h₀)
  · exact .ofNext (.rrr h₀)
  · exact .ofNext (.compare h₀)
  · exact .ofNext (.binary h₀)
  · exact .ofNext (.binary h₀)
  · exact .ofNext (.binary h₀)
  · exact .ofNext (.binary h₀)
  · exact .ofNext (.binary h₀)
  · exact .ofNext (.binary h₀)
  · exact .ofNext (.binary h₀)
  · exact .ofNext (.compare h₀)
  · exact .execMovi h₀
  · exact .execMovhi h₀
  · exact .execMov h₀
  · exact .execMfs h₀
  · exact .execMts h₀
  · exact .ofNext (.load h₀)
  · exact .ofNext (.load h₀)
  · exact .ofNext (.load h₀)
  · exact .ofNext (.load h₀)
  · exact .ofNext (.load h₀)
  · exact .ofNext (.store h₀)
  · exact .ofNext (.store h₀)
  · exact .ofNext (.store h₀)
  · exact .execPush h₀
  · exact .ofNext (.issue h₀ (fun _ h1 => .pop h1))
  · exact .execRegrd h₀
  · exact .execRegwr h₀
  · exact .ofNext (.branch h₀)
  · exact .ofNext (.branch h₀)
  · exact .ofNext (.branch h₀)
  · exact .ofNext (.branch h₀)
  · exact .ofNext (.branch h₀)
  · exact .ofNext (.branch h₀)
  · exact .ofNext (.branch h₀)
  · exact .execCall h₀
  · exact .ofNext (.issue h₀ (fun _ h1 => .pop h1))
  · exact .ofNext (.issue h₀ (fun _ h1 => .jump h1))
  · exact .execCallr h₀
  · exact .ofNext (.wait h₀)
  · exact .ofNext (.wait h₀)
  · exact .ofNext (.wait h₀)
  · exact .ofNext (.wait h₀)
  · exact .ofNext (.wait h₀)
  · exact .ofNext (.wait h₀)
  · exact .execYield h₀
  · exact .execEndTask h₀
  · exact .execTrapCmd h₀
  · exact .execTrapInfo h₀
  · exact .execTrapLower h₀
  · exact .execTrapLimit h₀
  · exact .execTrapUnknown h₀
  · exact .execRete h₀
  · exact .execPost h₀
  · exact .execArm h₀
  · exact .execCancel h₀
  · exact .execCancelFlush h₀
  · exact .execTilewr h₀
  · exact .execPortx h₀
  · exact .execLog h₀
  · exact .execMboxSend h₀
  · exact .execMboxRecv h₀
  · exact .execMboxPeek h₀
  · exact .execLock h₀
  · exact .execUnlock h₀
  · exact .execTbl1 h₀
  · exact .execTbl2 h₀
  · exact .execBlkcp h₀
  · exact .execFill h₀
  · exact .execIllegal h₀
  · exact .ofNext h₀
theorem execEngDebugStep {e : Fin 4} {ctx : Fin 32} : s₀.goesOn (Machine.execEngDebugStep e ctx s) := by
  unfold Machine.execEngDebugStep
  split
  · exact .ofNext h₀
  · have h : ∀ c, s₀.goesOn (Machine.taskMeaning c ((s.setFld .engDbg 4 5 ctx e).setFlag .engDbg 1 true e)) :=
      fun _ => .taskMeaning (.setFlag (.setFld h₀))
    dsimp only
    split
    next t ht =>
      have h1 := h (decodeTask (Fin.ofNat 128 (ctxOf e ctx))
        (((s.setFld .engDbg 4 5 ctx e).setFlag .engDbg 1 true e).tm
          (((s.setFld .engDbg 4 5 ctx e).setFlag .engDbg 1 true e).ctx (Fin.ofNat 128 (ctxOf e ctx))).pc.toNat))
      rw [ht] at h1
      exact .ofNext (.setFlag h1)
    · exact h _

/-- Each command goesOn to a state that lasts. -/
theorem exec {c : Instr} : s₀.goesOn (Machine.exec c s) := by
  have task : s₀.goesOn (Machine.taskMeaning c s) := .taskMeaning h₀
  cases c with
  | commit | add | sub | and | or | xor | shl | shr | sar | mul | mulh | mulhu | div | divu | min | max | cmp | addi | andi | ori
  | xori | shli | shri | sari | cmpi | movi | movhi | mov | mfs | mts | ldw | ldh | ldhu | ldb | ldbu | stw | sth | stb | push |
  pop | regrd | regwr | b | beq | bne | blt | bge | bltu | bgeu | call | ret | jr | callr | waitTime | waitDelay | waitAngle |
  waitEvent | waitMbox | waitLock | yield | endTask | trapCmd | trapInfo | trapLower | trapLimit | trapUnknown | rete | post |
  arm | cancel | cancelFlush | tilewr | portx | log | mboxSend | mboxRecv | mboxPeek | lock | unlock | tbl1 | tbl2 | blkcp |
  fill | illegal => exact task
  | coldStart => exact .ofNext (.startUp (.wr (.resetDevice h₀)))
  | pllLock => exact .ofNext (.lockPll h₀)
  | warmStart => exact .execWarmStart h₀
  | feedTimeout => exact .execFeedTimeout h₀
  | startFeedGo => exact .execStartFeedGo h₀
  | clrStrat => exact .execClrStrat h₀
  | clrCounts => exact .execClrCounts h₀
  | nresetAssert => exact .execNresetAssert h₀
  | vddBrownout => exact .ofNext (.ite h₀ (.resetDevice h₀))
  | bankSupplyChange => exact .ofNext (.ite (.setFlag h₀) h₀)
  | islandWake => exact .ofNext (.wakeIsland h₀)
  | registerWrite => exact .execRegisterWrite h₀
  | beacon => exact .execBeacon h₀
  | islandReload => exact .execIslandReload h₀
  | vernierCalibration => exact .execVernierCalibration h₀
  | pllSwitchover => exact .execPllSwitchover h₀
  | pllRetrain => exact .execPllRetrain h₀
  | refclkHoldover => exact .execRefclkHoldover h₀
  | holdoverExit => exact .execHoldoverExit h₀
  | linkedLowRead => exact .execLinkedLowRead h₀
  | linkedHighRead => exact .execLinkedHighRead h₀
  | linked64bitRead => exact .execLinked64bitRead h₀
  | clrStats => exact .execClrStats h₀
  | channelStep => exact .execChannelStep h₀
  | chCtrlWrite => exact .execChCtrlWrite h₀
  | shadowWrite => exact .execShadowWrite h₀
  | inputFilterAccept => exact .execInputFilterAccept h₀
  | captureLanding => exact .execCaptureLanding h₀
  | captureAckRead => exact .execCaptureAckRead h₀
  | tileStartWrite => exact .execTileStartWrite h₀
  | tileStopWrite => exact .execTileStopWrite h₀
  | tileStartArm => exact .execTileStartArm h₀
  | armedStart => exact .execArmedStart h₀
  | tileCommit => exact .execTileCommit h₀
  | tileClrCnt => exact .execTileClrCnt h₀
  | followerUpdate => exact .execFollowerUpdate h₀
  | followerEnable => exact .execFollowerEnable h₀
  | slotLoad => exact .execSlotLoad h₀
  | slotFire => exact .execSlotFire h₀
  | slotCloseDuration => exact .execSlotCloseDuration h₀
  | slotCloseAngle => exact .execSlotCloseAngle h₀
  | guarded => exact .execGuarded h₀
  | burstEnd => exact .execBurstEnd h₀
  | slotClear => exact .execSlotClear h₀
  | pmPinWrite => exact .execPmPinWrite h₀
  | coursePowerDown => exact .execCoursePowerDown h₀
  | coursePowerUp => exact .ofNext (.powerUpCourse h₀)
  | brCtrlWrite => exact .execBrCtrlWrite h₀
  | deadTimeExpiry => exact .execDeadTimeExpiry h₀
  | minpwExtension => exact .execMinpwExtension h₀
  | tripAccept => exact .execTripAccept h₀
  | blankingEnd => exact .execBlankingEnd h₀
  | tripClear => exact .execTripClear h₀
  | tripLvlWrite => exact .execTripLvlWrite h₀
  | domainEnable => exact .execDomainEnable h₀
  | domainDisable => exact .execDomainDisable h₀
  | domainConfigWrite => exact .execDomainConfigWrite h₀
  | domClrCnt => exact .execDomClrCnt h₀
  | primaryEdge => exact .execPrimaryEdge h₀
  | primaryInactiveEdge => exact .execPrimaryInactiveEdge h₀
  | toothUpdate => exact .execToothUpdate h₀
  | fastRunEnd => exact .execFastRunEnd h₀
  | toothLate => exact .execToothLate h₀
  | stallTimeout => exact .execStallTimeout h₀
  | seekTimeout => exact .execSeekTimeout h₀
  | phaseToothEdge => exact .execPhaseToothEdge h₀
  | phmEdge => exact .execPhmEdge h₀
  | angleMessage => exact .execAngleMessage h₀
  | domainVote => exact .ofNext (.happens h₀ (fun _ h1 => .put h1))
  | calPartWrite => exact .execCalPartWrite h₀
  | calendarArmDecision => exact .execCalendarArmDecision h₀
  | calendarCancelDecision => exact .execCalendarCancelDecision h₀
  | calendarFlushDecision => exact .execCalendarFlushDecision h₀
  | staging => exact .execStaging h₀
  | calendarActionIssue => exact .execCalendarActionIssue h₀
  | cqRdWrite => exact .execCqRdWrite h₀
  | cqConfigWrite => exact .execCqConfigWrite h₀
  | calClrCnt => exact .execCalClrCnt h₀
  | waitWake => exact .execWaitWake h₀
  | waitTimeout => exact .execWaitTimeout h₀
  | trapAnswer => exact .execTrapAnswer h₀
  | fabricReply => exact .execFabricReply h₀
  | ctxCmdStart => exact .execCtxCmdStart h₀
  | ctxCmdStop => exact .execCtxCmdStop h₀
  | ctxStopEffect => exact .execCtxStopEffect h₀
  | engDebugHalt => exact .ofNext (.ite (.setHalt h₀) h₀)
  | engDebugStep => exact .execEngDebugStep h₀
  | engDebugResume => exact .execEngDebugResume h₀
  | interruptEntry => exact .execInterruptEntry h₀
  | nointExpiry => exact .execNointExpiry h₀
  | taskFault => exact .execTaskFault h₀
  | serviceFault => exact .execServiceFault h₀
  | mcParity => exact .execMcParity h₀
  | mcLockstep => exact .execMcLockstep h₀
  | mcMemory => exact .execMcMemory h₀
  | engineRetired => exact .execEngineRetired h₀
  | patchApply => exact .execPatchApply h₀
  | bucketRefill => exact .execBucketRefill h₀
  | admissionRefresh => exact .execAdmissionRefresh h₀
  | pfixedUpdate => exact .ofNext (.happens h₀ (fun _ h1 => .wr h1))
  | sensorReading => exact .execSensorReading h₀
  | forecast => exact .execForecast h₀
  | govBudgetWrite => exact .execGovBudgetWrite h₀
  | govConfigWrite => exact .execGovConfigWrite h₀
  | govClrCnt => exact .execGovClrCnt h₀
  | islandGate => exact .execIslandGate h₀
  | govPstateReq => exact .execGovPstateReq h₀
  | powerStateCommit => exact .execPowerStateCommit h₀
  | powerStateExit => exact .execPowerStateExit h₀
  | watchSlotFire => exact .execWatchSlotFire h₀
  | alarm => exact .execAlarm h₀
  | catalogueWord0Write => exact .execCatalogueWord0Write h₀
  | catalogueWord12Write => exact .execCatalogueWord12Write h₀
  | logSourceEvent => exact .execLogSourceEvent h₀
  | rateSample => exact .execRateSample h₀
  | angleTrigger => exact .execAngleTrigger h₀
  | logRecordWrite => exact .execLogRecordWrite h₀
  | mark => exact .execMark h₀
  | logRingWrite => exact .execLogRingWrite h₀
  | logRdWrite => exact .execLogRdWrite h₀
  | logCtrlWrite => exact .execLogCtrlWrite h₀
  | logClrCnt => exact .execLogClrCnt h₀
  | logThreshWrite => exact .execLogThreshWrite h₀
  | logDrainDescriptor => exact .execLogDrainDescriptor h₀
  | logFlushExpiry => exact .execLogFlushExpiry h₀
  | portCfgWrite => exact .execPortCfgWrite h₀
  | portAbort => exact .execPortAbort h₀
  | portFlush => exact .execPortFlush h₀
  | portClrCnt => exact .execPortClrCnt h₀
  | timeTrigger => exact .execTimeTrigger h₀
  | portTtWrite => exact .execPortTtWrite h₀
  | transactionStart => exact .execTransactionStart h₀
  | scriptCs => exact .execScriptCs h₀
  | xfer => exact .execXfer h₀
  | recv => exact .execRecv h₀
  | timeout => exact .execTimeout h₀
  | scriptWait => exact .execScriptWait h₀
  | loop => exact .execLoop h₀
  | scriptEnd => exact .execScriptEnd h₀
  | sentFrame => exact .execSentFrame h₀
  | uartByte => exact .execUartByte h₀
  | portScriptWrite => exact .execPortScriptWrite h₀
  | portDmemPtrWrite => exact .ofNext (.access h₀ (fun _ h1 => .wr h1))
  | portSwap => exact .execPortSwap h₀
  | linkTrain => exact .execLinkTrain h₀
  | frameReceive => exact .execFrameReceive h₀
  | retransmitTimeout => exact .execRetransmitTimeout h₀
  | linkDown => exact .execLinkDown h₀
  | standbyTakeover => exact .execStandbyTakeover h₀
  | beaconSend => exact .execBeaconSend h₀
  | beaconReceive => exact .execBeaconReceive h₀
  | delayFrame => exact .execDelayFrame h₀
  | joinJudgement => exact .execJoinJudgement h₀
  | mlCtrlEnable => exact .execMlCtrlEnable h₀
  | mlClrCnt => exact .execMlClrCnt h₀
  | holdMaxExpiry => exact .execHoldMaxExpiry h₀
  | sysstartSend => exact .execSysstartSend h₀
  | sysstartReceive => exact .execSysstartReceive h₀
  | systemLockRequest => exact .execSystemLockRequest h₀
  | deviceLost => exact .execDeviceLost h₀
  | msgReceive => exact .execMsgReceive h₀
  | mlMsgqPop => exact .execMlMsgqPop h₀
  | peerMboxReceive => exact .execPeerMboxReceive h₀
  | remoteLogReceive => exact .ofNext (.offer h₀)
  | faultNoticeReceive => exact .ofNext (.ite (.gotFault h₀) h₀)
  | alive => exact .execAlive h₀
  | perstAssert => exact .execPerstAssert h₀
  | supReqWrite => exact .ofNext (.onBus h₀ (fun _ h1 => .supReq h1))
  | sysClrCnt => exact .execSysClrCnt h₀
  | sysCmdMboxWrite => exact .execSysCmdMboxWrite h₀
  | longCompletion => exact .ofNext (.completeLong h₀)
  | nop | devInfo | echo | unitGet | unitSet | unitOwn | accerrRead | pwrBudget | pwrShare | pwrTherm | pwrState | pwrStatus |
    tileChCfg | tileChUpdate | tileStart | tileStop | tileRead | tileBridge | tileTrip | tileTripClr | tileFol | tileCtrl |
    pinCfg | domCfg | domPhteeth | domEnable | domRuntime | domPhm | domStatus | evArm | evCancel | evFlush | evPart | evCq |
    evEntry | evStatus | catWrite | catRead | catClear | logSetup | logStatus | portSetup | portScript | portEntry | portRun |
    portTt | portStop | portStatus | mlSetup | mlLink | mlSsSetup | mlSysstart | mlPeer | mlStatus | ctxLoad | ctxStart |
    ctxStop | ctxStatus | ctxPost | ctxLower | fwVersion | fwPatch | calRead | calWrite | faultRead | faultAck | startRead =>
    exact .ofNext (.packetRow h₀)
  | mgmtRead | mgmtWrite | mgmtNop => exact .ofNext (.mgmtAct h₀)
  | mbDataWrite => exact .execMbDataWrite h₀
  | mbGoSet => exact .execMbGoSet h₀
  | mbDone => exact .execMbDone h₀
  | mbCfgWrite => exact .execMbCfgWrite h₀
  | mbxClrCnt => exact .execMbxClrCnt h₀
  | lockRead => exact .execLockRead h₀
  | lockRelease => exact .execLockRelease h₀
  | lockClrCnt => exact .execLockClrCnt h₀
  | intPendSet => exact .execIntPendSet h₀
  | intPendClr => exact .execIntPendClr h₀
  | intEnSet => exact .execIntEnSet h₀
  | intEnClr => exact .execIntEnClr h₀
  | intRouteWrite => exact .execIntRouteWrite h₀
  | prvPendSet => exact .execPrvPendSet h₀
  | hostEoi => exact .execHostEoi h₀
  | supClaim => exact .execSupClaim h₀
  | supEoi => exact .execSupEoi h₀
  | vectorIssue => exact .execVectorIssue h₀
  | sleepIntent => exact .execSleepIntent h₀
  | vectorUnmask => exact .execVectorUnmask h₀
  | vecModWrite => exact .execVecModWrite h₀
  | intClrCnt => exact .ofNext (.onBus h₀ (fun _ h1 => .clrInt h1))
  | dmaTail => exact .execDmaTail h₀
  | descriptorFetch => exact .execDescriptorFetch h₀
  | copy | fillDescriptor | compare => exact .ofNext (.runOp h₀)
  | command => exact .execCommand h₀
  | dmaBurst => exact .execDmaBurst h₀
  | descriptorComplete => exact .execDescriptorComplete h₀
  | dmaHalt => exact .execDmaHalt h₀
  | dmaEnWrite => exact .execDmaEnWrite h₀
  | pause => exact .execPause h₀
  | resume => exact .execResume h₀
  | skip => exact .execSkip h₀
  | dmaRingWrite => exact .execDmaRingWrite h₀
  | dmaClrCnt => exact .execDmaClrCnt h₀
  | scrubRead => exact .execScrubRead h₀
  | tileSpare => exact .execTileSpare h₀
  | spareRelease => exact .execSpareRelease h₀
  | fltAckWrite => exact .execFltAckWrite h₀
  | idcode | bypass | clamp | highz | tapReset => exact .ofNext (.loadTap h₀)
  | samplePreload => exact .ofNext (.sampleTap (.put h₀))
  | extest => exact .ofNext (.sampleTap h₀)
  | engDebug => exact .execEngDebug h₀
  | angleInterpolation => exact .execAngleInterpolation h₀
  | phaseLeadingEdge => exact .execPhaseLeadingEdge h₀
  | ackNakReceive => exact .execAckNakReceive h₀
  | perstRelease => exact .ofNext (.ite (.put h₀) (.put h₀))
  | pcieLinkTrained => exact .execPcieLinkTrained h₀
  | vddAoLoss => exact .execVddAoLoss h₀
  | droppedRead => exact .execDroppedRead h₀

end

end State.goesOn

theorem exec_goesOn (c : Instr) (s : State) : s.goesOn (exec c s) := .exec (.refl s)

theorem exec_lasts {c : Instr} {s t : State} (h : exec c s = .next t) : s.lasts t := by
  have hl := exec_goesOn c s
  rw [h] at hl
  exact hl

/-- Settles O19: each command's outcome is a next state. -/
theorem everyCommandGoesOn : Obligations.EveryCommandGoesOn := by
  intro c s
  have h := exec_goesOn c s
  cases hx : exec c s with
  | next t => exact ⟨t, rfl⟩
  | fault r => rw [hx] at h; exact h.elim
  | refused r => rw [hx] at h; exact h.elim

/-- Settles O20: the queue and the fuses last from step to step. -/
theorem queueAndFusesStay : Obligations.QueueAndFusesStay := by
  intro c s t h
  have hl := exec_lasts h
  exact ⟨hl.pending, hl.variant, hl.ownerKey, hl.ownerSign⟩

/-- Settles O18: each operation that changes a memory keeps its canonical form; the queue is in none of them. -/
theorem stepKeepsMemories : Obligations.StepKeepsMemories := by
  intro s t hw h
  unfold step at h
  split at h
  · cases h
    exact (State.lasts.idle (.refl s)).wf hw
  · exact (exec_lasts h).wf hw

end Sys2Proof.Machine
end

section
/-! PROOFS. The arithmetic, logic and compare instructions (R173 to R175): each starts, writes its result with its flags, and goes
on. -/

namespace Sys2Proof.Machine

/-- An instruction of two operands that starts and fits writes its result and flags and goes on. -/
theorem State.binary_eq {s : State} {x op : Nat} {fits : Bool} (h : s.starts x op = true) (hf : fits = true) (rd : GReg)
    (a b : State → Word) (f : Word → Word → Word → Word × Word) : s.binary x op fits rd a b f =
      (s.issued x op).result x rd (f (s.psw x) (a (s.issued x op)) (b (s.issued x op))).1
        (f (s.psw x) (a (s.issued x op)) (b (s.issued x op))).2 := by
  unfold State.binary
  rw [State.issue_eq h hf]
  simp only [State.issued_psw]

/-- The same for the three-register form, whose operands are what the registers held before. -/
theorem State.rrr_eq {s : State} {x op : Nat} (h : s.starts x op = true) (rd rs rt : GReg)
    (f : Word → Word → Word → Word × Word) : s.rrr x op rd rs rt f =
      (s.issued x op).result x rd (f (s.psw x) (s.g x rs) (s.g x rt)).1 (f (s.psw x) (s.g x rs) (s.g x rt)).2 := by
  unfold State.rrr
  rw [State.binary_eq h rfl]
  simp only [State.issued_g]

/-- An immediate form: its second operand is the instruction's own. -/
theorem State.immediate_eq {s : State} {x op : Nat} {fits : Bool} (h : s.starts x op = true) (hf : fits = true) (rd rs : GReg)
    (w : Word) (f : Word → Word → Word → Word × Word) : s.binary x op fits rd (·.g x rs) (fun _ => w) f =
      (s.issued x op).result x rd (f (s.psw x) (s.g x rs) w).1 (f (s.psw x) (s.g x rs) w).2 := by
  rw [State.binary_eq h hf]
  simp only [State.issued_g]

/-- A compare that starts sets the flags of the subtraction and goes on. -/
theorem State.compare_eq {s : State} {x op : Nat} (h : s.starts x op = true) (a b : State → Word) : s.compare x op a b =
    (s.issued x op).onCtx x (fun c =>
      { c with psw := flagsSub c.psw (a (s.issued x op)) (b (s.issued x op)), pc := c.pc + 4 }) := by
  unfold State.compare
  rw [State.issue_eq h rfl, State.advance, State.onCtx_onCtx]

/-! ## Division -/

/-- A signed quotient that does not overflow fits a word. -/
theorem tdiv_fits (a b : Word) (hb : b ≠ 0) (h : ¬(a = 0x80000000 ∧ b = 0xFFFFFFFF)) :
    (intW (a.toInt.tdiv b.toInt)).toInt = a.toInt.tdiv b.toInt := by
  have ha : -2 ^ 31 ≤ a.toInt ∧ a.toInt < 2 ^ 31 := ⟨a.le_toInt, a.toInt_lt⟩
  have hb0 : b.toInt ≠ 0 := fun h0 => hb (BitVec.eq_of_toInt_eq (by simpa using h0))
  have habs : (a.toInt.tdiv b.toInt).natAbs = a.toInt.natAbs / b.toInt.natAbs := Int.natAbs_tdiv _ _
  have hle : a.toInt.natAbs / b.toInt.natAbs ≤ a.toInt.natAbs := Nat.div_le_self _ _
  have lower : -2 ^ 31 ≤ a.toInt.tdiv b.toInt := by omega
  have upper : a.toInt.tdiv b.toInt < 2 ^ 31 := by
    refine Classical.byContradiction fun hq => ?_
    -- A quotient of 2 ^ 31 takes the least dividend and a divisor of size 1, which is -1.
    have hq1 : a.toInt.natAbs / b.toInt.natAbs = 2 ^ 31 := by omega
    have hmin : a.toInt = -2 ^ 31 := by omega
    have hone : b.toInt.natAbs = 1 := by
      refine Classical.byContradiction fun h1 => ?_
      have h2 : 2 ≤ b.toInt.natAbs := by omega
      have h3 : a.toInt.natAbs / b.toInt.natAbs ≤ a.toInt.natAbs / 2 := Nat.div_le_div_left h2 (by decide)
      omega
    have hneg : b.toInt = -1 := by
      rcases Int.natAbs_eq b.toInt with hp | hn
      · rw [hone] at hp
        rw [hmin, hp] at hq
        exact absurd hq (by decide)
      · rw [hone] at hn
        exact hn
    exact h ⟨BitVec.eq_of_toInt_eq (hmin.trans (by decide)), BitVec.eq_of_toInt_eq (hneg.trans (by decide))⟩
  unfold intW
  rw [BitVec.toInt_ofInt]
  exact Int.bmod_eq_of_le (by omega) (by omega)

/-- The quotients and their V flag. -/
theorem quotients (a b : Word) :
    (b = 0 → divS a b = (0, true) ∧ divU a b = (0, true)) ∧
    (a = 0x80000000 → b = 0xFFFFFFFF → divS a b = (0x80000000, true)) ∧
    (b ≠ 0 → ¬(a = 0x80000000 ∧ b = 0xFFFFFFFF) → (divS a b).2 = false ∧ (divS a b).1.toInt = a.toInt.tdiv b.toInt) ∧
    (b ≠ 0 → (divU a b).2 = false ∧ (divU a b).1.toNat = a.toNat / b.toNat) := by
  refine ⟨fun hb => ?_, fun ha hb => ?_, fun hb h => ?_, fun hb => ?_⟩
  · subst hb
    exact ⟨rfl, rfl⟩
  · subst ha hb
    rfl
  · unfold divS
    rw [if_neg hb, if_neg h]
    exact ⟨rfl, tdiv_fits a b hb h⟩
  · unfold divU toW
    rw [if_neg hb]
    exact ⟨rfl, Nat.mod_eq_of_lt (Nat.lt_of_le_of_lt (Nat.div_le_self _ _) a.isLt)⟩

/-- Settles O1: each row is the three-register form with its own function, and the corners of the division are those of its
function. -/
theorem taskRegisterResults : Obligations.TaskRegisterResults := by
  unfold Obligations.TaskRegisterResults
  refine ⟨fun x rd rs rt s => ?_, quotients⟩
  refine ⟨?_, ?_, ?_, ?_, ?_, ?_, ?_, ?_, ?_, ?_, ?_, ?_, ?_, ?_, ?_⟩
  all_goals exact fun h => congrArg Host.Outcome.next (State.rrr_eq h ..)

/-- Settles O2: each row is the immediate form or a compare with its own function. -/
theorem taskImmediatesAndCompares : Obligations.TaskImmediatesAndCompares := by
  unfold Obligations.TaskImmediatesAndCompares
  refine ⟨fun x rd rs imm s => ?forms, fun x rs rt imm s => ?compares⟩
  case compares =>
    refine ⟨fun h => congrArg Host.Outcome.next ((State.compare_eq h ..).trans ?_),
      fun h => congrArg Host.Outcome.next ((State.compare_eq h ..).trans ?_)⟩
    · simp only [State.issued_g]
    · simp only [State.issued_g, simm]
  case forms =>
    refine ⟨?_, ?_, ?_, ?_, ?shl, ?shr, ?sar, ?movi, ?movhi, ?mov⟩
    case movi => exact fun h => congrArg Host.Outcome.next (State.issue_eq h rfl _)
    case movhi => exact fun h => congrArg Host.Outcome.next (State.issue_eq h rfl _)
    case mov =>
      intro h
      refine congrArg Host.Outcome.next ((State.issue_eq h rfl _).trans ?_)
      rw [State.issued_g]
    case' shl | shr | sar =>
      intro h hi
      refine congrArg Host.Outcome.next ((State.immediate_eq h (decide_eq_true hi) ..).trans ?_)
      have field : getF (uimm imm) 0 5 = imm.toNat := by
        rw [getF, uimm, BitVec.toNat_setWidth, Nat.shiftRight_zero, Nat.mod_eq_of_lt (Nat.lt_trans imm.isLt (by decide))]
        exact Nat.mod_eq_of_lt hi
      unfold fShift
      rw [field]
    case shl => rfl
    case shr => rfl
    case sar => rfl
    all_goals exact fun h => congrArg Host.Outcome.next (State.immediate_eq h rfl ..)

end Sys2Proof.Machine
end

section
/-! PROOFS. Special registers, loads and stores, the stack and the branches (R166, R167, R170, R171, R174 to R176). -/

namespace Sys2Proof.Machine

/-! ## What changing a context leaves -/

@[simp] theorem State.onCtx_gpr (s : State) (x : Nat) (f : Ctx → Ctx) : (s.onCtx x f).gpr = s.gpr := rfl
@[simp] theorem State.onCtx_taskMem (s : State) (x : Nat) (f : Ctx → Ctx) : (s.onCtx x f).taskMem = s.taskMem := rfl
@[simp] theorem State.onCtx_tm (s : State) (x : Nat) (f : Ctx → Ctx) (a : Nat) : (s.onCtx x f).tm a = s.tm a := rfl
@[simp] theorem State.advance_gpr (s : State) (x : Nat) : (s.advance x).gpr = s.gpr := rfl
@[simp] theorem State.advance_taskMem (s : State) (x : Nat) : (s.advance x).taskMem = s.taskMem := rfl
@[simp] theorem State.advance_pc (s : State) (x : Nat) : ((s.advance x).ctx x).pc = (s.ctx x).pc + 4 := by
  unfold State.advance
  rw [State.ctx_onCtx_self]
@[simp] theorem State.advance_sp (s : State) (x : Nat) : ((s.advance x).ctx x).sp = (s.ctx x).sp := by
  unfold State.advance
  rw [State.ctx_onCtx_self]
@[simp] theorem State.setTm_ctx (s : State) (a : Nat) (w : Word) (x : Nat) : (s.setTm a w).ctx x = s.ctx x := rfl
@[simp] theorem State.setTm_gpr (s : State) (a : Nat) (w : Word) : (s.setTm a w).gpr = s.gpr := rfl
theorem State.setTm_taskMem (s : State) (a : Nat) (w : Word) : (s.setTm a w).taskMem = s.taskMem.putWord a w := rfl

/-- Two changes of a context are the same where they do the same to it. -/
theorem State.onCtx_congr (s : State) (x : Nat) (f g : Ctx → Ctx) (h : f (s.ctx x) = g (s.ctx x)) : s.onCtx x f = s.onCtx x g := by
  unfold State.onCtx
  rw [h]

/-! ## Special registers -/

/-- MFS of a register that there is reads it. -/
theorem mfs_eq {x : Fin 128} {rd : GReg} {imm : BitVec 16} {s : State} (h : s.starts x 0x20 = true) {w : Word} {t : State}
    (hr : (s.issued x 0x20).readSpecial x imm.toNat = some (w, t)) :
    exec (.mfs x rd imm) s = .next ((t.setG x rd w).advance x) := by
  refine congrArg Host.Outcome.next ((State.issue_eq h rfl _).trans ?_)
  rw [hr]

/-- There is no special register above S8. -/
theorem State.readSpecial_above (s : State) (x : Nat) {n : Nat} (h : 9 ≤ n) : s.readSpecial x n = none := by
  unfold State.readSpecial
  dsimp only
  split
  case h_10 => rfl
  all_goals omega

/-- Settles O4: MFS and MTS case by case, on the state in which the instruction is counted. -/
theorem specialRegisters : Obligations.SpecialRegisters := by
  unfold Obligations.SpecialRegisters
  intro x rd rs s
  refine ⟨fun h => ⟨?mfs, fun imm hi => ?above⟩, fun h => ?mts⟩
  case mfs =>
    refine ⟨mfs_eq h ?_, mfs_eq h ?_, mfs_eq h ?_, mfs_eq h ?_, mfs_eq h ?_, mfs_eq h rfl, mfs_eq h rfl, mfs_eq h ?_, mfs_eq h ?_⟩
    · exact congrArg (fun w => some (w, s.issued x 0x20)) (s.issued_pc x 0x20 x)
    · exact congrArg (fun w => some (w, s.issued x 0x20)) (s.issued_sp x 0x20 x)
    · exact congrArg (fun w => some (w, s.issued x 0x20)) (s.issued_psw x 0x20 x)
    · exact congrArg (fun w => some (w, s.issued x 0x20)) (s.issued_cause x 0x20 x)
    · exact congrArg (fun w => some (w, s.issued x 0x20)) (s.issued_prog x 0x20 x)
    · exact congrArg (fun m => some (m.at 0 (2 + x.val), s.issued x 0x20)) (s.issued_latch x 0x20)
    · exact congrArg (fun l => some (toW l.length, s.issued x 0x20)) (s.issued_evq x 0x20 x)
  case above =>
    refine congrArg Host.Outcome.next ((State.issue_eq h rfl _).trans ?_)
    rw [State.readSpecial_above _ _ hi]
  case mts =>
    have reg : (s.issued x 0x21).g x rs = s.g x rs := s.issued_g x 0x21 x rs
    have key : (s.issued x 0x21).privOf x = s.privOf x := s.issued_privOf x 0x21 x
    have start := fun imm : BitVec 16 => (show exec (.mts x rs imm) s = _ from congrArg Host.Outcome.next (State.issue_eq h rfl _))
    simp only [reg, key] at start
    refine ⟨start 1, start 2, fun hp => (start 3).trans ?_, fun hp => (start 3).trans ?_, fun hp => (start 4).trans ?_,
      fun hp => (start 4).trans ?_, fun imm h5 h8 => (start imm).trans ?_, fun imm hi => (start imm).trans ?_⟩
    · simp [hp]
    · simp [hp]
    · simp [hp]
    · simp [hp]
    · obtain e | e | e | e : imm.toNat = 5 ∨ imm.toNat = 6 ∨ imm.toNat = 7 ∨ imm.toNat = 8 := by omega
      all_goals simp only [e]
    · split
      case h_9 => rfl
      all_goals omega

/-! ## Loads -/

@[simp] theorem State.issued_ea (s : State) (x op y : Nat) (r : GReg) (imm : BitVec 16) :
    (s.issued x op).ea y r imm = s.ea y r imm := by
  unfold State.ea
  rw [State.issued_g]

theorem State.reading_eq {s : State} {x a n align : Nat} (hf : s.accFault x .load a n align = none) (hb : s.badWordIn a n = none)
    (f : State → State) : s.reading x a n align f = f s := by
  unfold State.reading
  rw [hf, hb]

theorem State.reading_fault {s : State} {x a n align code : Nat} (hf : s.accFault x .load a n align = some code)
    (f : State → State) : s.reading x a n align f = s.raiseFault x code := by
  unfold State.reading
  rw [hf]

theorem State.writing_eq {s : State} {x a n align : Nat} (hf : s.accFault x .store a n align = none) (f : State → State) :
    s.writing x a n align f = f s := by
  unfold State.writing
  rw [hf]

theorem State.writing_fault {s : State} {x a n align code : Nat} (hf : s.accFault x .store a n align = some code)
    (f : State → State) : s.writing x a n align f = s.raiseFault x code := by
  unfold State.writing
  rw [hf]

/-- A load that starts and is granted has its value on the way. -/
theorem State.load_eq {s : State} {x op : Nat} {rd rs : GReg} {imm : BitVec 16} {width : Nat} (h : s.starts x op = true)
    (hf : s.accFault x .load (s.ea x rs imm).toNat width width = none) (hb : s.badWordIn (s.ea x rs imm).toNat width = none)
    (signed : Bool) : s.load x op rd rs imm width signed =
      (s.issued x op).await x [(rd, s.loadVal (s.ea x rs imm).toNat width signed)] := by
  unfold State.load
  rw [State.issue_eq h rfl]
  have hv : ∀ a, (s.issued x op).loadVal a width signed = s.loadVal a width signed := fun a => by
    unfold State.loadVal State.tm
    rw [State.issued_taskMem]
  dsimp only
  rw [State.issued_ea, State.reading_eq ((s.issued_accFault ..).trans hf) ((s.issued_badWordIn ..).trans hb), hv]

/-- A pop that starts and is granted has its word on the way, and SP with it. -/
theorem State.pop_eq {s : State} {x : Nat} (hf : s.accFault x .load (s.ctx x).sp.toNat 4 4 = none)
    (hb : s.badWordIn (s.ctx x).sp.toNat 4 = none) (f : Word → Reply) : s.pop x f =
      s.onCtx x (fun c => { c with out := some { f (s.tm (s.ctx x).sp.toNat) with sp := some ((s.ctx x).sp + 4) } }) := by
  unfold State.pop
  exact State.reading_eq hf hb _

/-- Registers written one after another leave the contexts and the memory. -/
theorem setG_foldl (x : Nat) (l : List (GReg × Word)) (s : State) :
    (∀ y, (l.foldl (fun s p => s.setG x p.1 p.2) s).ctx y = s.ctx y) ∧
      (l.foldl (fun s p => s.setG x p.1 p.2) s).taskMem = s.taskMem := by
  induction l generalizing s with
  | nil => exact ⟨fun _ => rfl, rfl⟩
  | cons p l ih => exact ih (s.setG x p.1 p.2)

@[simp] theorem State.touch_ctx (s : State) (e y : Nat) : (s.touch e).ctx y = s.ctx y := rfl

@[simp] theorem State.g_setG_self (s : State) (x : Nat) (r : GReg) (w : Word) : (s.setG x r w).g x r = w := SMap.at_set_self ..

theorem State.g_setG_ne (s : State) (x : Nat) {r q : GReg} (w : Word) (h : q ≠ r) : (s.setG x r w).g x q = s.g x q :=
  SMap.at_set_ne _ _ _ _ _ (fun e => h (Fin.ext (by omega)))

/-- What a reply leaves: the registers it brings, SP and PC, and no request. -/
theorem State.fabricReply_eq {s : State} {x : Nat} {r : Reply} (h : (s.ctx x).out = some r) (hr : r.sysLock = none) :
    s.fabricReply x = ((r.regs.foldl (fun s p => s.setG x p.1 p.2) s).onCtx x (fun c =>
      { c with out := none, pc := r.pc, sp := r.sp.getD c.sp })).touch (x / 32) := by
  unfold State.fabricReply
  rw [h]
  dsimp only
  rw [hr]
  rfl

/-- Settles O5: each load is the granted form with its width and sign; the reply is taken apart into its registers and its
context. -/
theorem loadsAndReplies : Obligations.LoadsAndReplies := by
  unfold Obligations.LoadsAndReplies
  refine ⟨fun x rd rs imm s => ?loads, fun x ts r s hp ho hl hs hh => ?reply⟩
  case loads =>
    refine ⟨?_, ?_, ?_, ?_, ?_, fun h hf hb => ?pop⟩
    case pop =>
      refine congrArg Host.Outcome.next ((State.issue_eq h rfl _).trans ?_)
      obtain ⟨t, ht⟩ := s.issued_ctx x 0x3D x
      have hsp := s.issued_sp x 0x3D x
      rw [State.pop_eq (by rw [hsp, State.issued_accFault]; exact hf) (by rw [hsp, State.issued_badWordIn]; exact hb), hsp,
        State.issued_tm]
      unfold State.onCtx
      rw [ht]
      rfl
    all_goals
      intro h hok
      exact congrArg Host.Outcome.next (State.load_eq h hok.1 hok.2 _)
  case reply =>
    have acts : exec (.fabricReply x ts) s = .next ((s.reachIn (islEngine (x / 32)) ts).fabricReply x) := by
      refine congrArg Host.Outcome.next (State.happens_eq hp ?_ _)
      show (!(s.ctx x).stopping && !s.halted (x / 32)) = true
      rw [hs, hh]
      rfl
    refine ⟨_, acts, ?_⟩
    have reached : ((s.reachIn (islEngine (x / 32)) ts).ctx x).out = some r := ho
    rw [State.fabricReply_eq reached hl]
    obtain ⟨regsCtx, regsMem⟩ := setG_foldl x r.regs (s.reachIn (islEngine (x / 32)) ts)
    have ctx : ((((r.regs.foldl (fun s p => s.setG x p.1 p.2) (s.reachIn (islEngine (x / 32)) ts)).onCtx x (fun c =>
        { c with out := none, pc := r.pc, sp := r.sp.getD c.sp })).touch (x / 32)).ctx x) =
        { s.ctx x with out := none, pc := r.pc, sp := r.sp.getD (s.ctx x).sp } := by
      rw [State.touch_ctx, State.ctx_onCtx_self, regsCtx]
      rfl
    refine ⟨congrArg Ctx.out ctx, congrArg Ctx.pc ctx, congrArg Ctx.sp ctx, (congrArg Ctx.psw ctx).trans rfl, fun rd w hr => ?_, fun hr q => ?_,
      regsMem⟩
    · rw [hr]
      exact ⟨State.g_setG_self .., fun q hq => State.g_setG_ne _ _ _ hq⟩
    · rw [hr]
      rfl

/-! ## Stores -/

theorem Mem.byte_putWord (m : Mem) (a : Nat) (w : Word) {i : Nat} (h : i < 4) : (m.putWord a w).byte (a + i) = byteOf w i := by
  unfold Mem.putWord
  obtain rfl | rfl | rfl | rfl : i = 0 ∨ i = 1 ∨ i = 2 ∨ i = 3 := by omega
  · rw [Mem.byte_putByte_ne _ _ _ _ (by omega), Mem.byte_putByte_ne _ _ _ _ (by omega), Mem.byte_putByte_ne _ _ _ _ (by omega)]
    exact Mem.byte_putByte_self ..
  · rw [Mem.byte_putByte_ne _ _ _ _ (by omega), Mem.byte_putByte_ne _ _ _ _ (by omega)]
    exact Mem.byte_putByte_self ..
  · rw [Mem.byte_putByte_ne _ _ _ _ (by omega)]
    exact Mem.byte_putByte_self ..
  · exact Mem.byte_putByte_self ..

theorem Mem.byte_putHalf (m : Mem) (a : Nat) (w : Word) {i : Nat} (h : i < 2) : (m.putHalf a w).byte (a + i) = byteOf w i := by
  unfold Mem.putHalf
  obtain rfl | rfl : i = 0 ∨ i = 1 := by omega
  · rw [Mem.byte_putByte_ne _ _ _ _ (by omega)]
    exact Mem.byte_putByte_self ..
  · exact Mem.byte_putByte_self ..

theorem Mem.byte_putHalf_ne (m : Mem) (a c : Nat) (w : Word) (h : c < a ∨ a + 2 ≤ c) : (m.putHalf a w).byte c = m.byte c := by
  unfold Mem.putHalf
  rw [Mem.byte_putByte_ne _ _ _ _ (by omega), Mem.byte_putByte_ne _ _ _ _ (by omega)]

/-- A store that starts and is granted puts the low bytes of its register and goes on. -/
theorem State.store_eq {s : State} {x op : Nat} {rd rs : GReg} {imm : BitVec 16} {width : Nat} (h : s.starts x op = true)
    (hf : s.accFault x .store (s.ea x rs imm).toNat width width = none) : s.store x op rd rs imm width =
      ((s.issued x op).storeVal (s.ea x rs imm).toNat width (s.g x rd)).advance x := by
  unfold State.store
  rw [State.issue_eq h rfl]
  dsimp only
  rw [State.issued_ea, State.writing_eq ((s.issued_accFault ..).trans hf), State.issued_g]

/-- A push that is granted stores its word below SP, moves SP there, and does what follows. -/
theorem State.push_eq {s : State} {x : Nat} (hf : s.accFault x .store ((s.ctx x).sp - 4).toNat 4 4 = none) (w : Word)
    (f : State → State) : s.push x w f =
      f ((s.setTm ((s.ctx x).sp - 4).toNat w).onCtx x (fun c => { c with sp := (s.ctx x).sp - 4 })) := by
  unfold State.push
  exact State.writing_eq hf _

theorem State.storeVal_ctx (s : State) (a width : Nat) (w : Word) (x : Nat) : (s.storeVal a width w).ctx x = s.ctx x := by
  unfold State.storeVal
  split <;> rfl

theorem State.storeVal_gpr (s : State) (a width : Nat) (w : Word) : (s.storeVal a width w).gpr = s.gpr := by
  unfold State.storeVal
  split <;> rfl

/-- What a store leaves of its context and of the registers. -/
theorem State.stored (s : State) (x : Nat) (op a width : Nat) (w : Word) :
    ((((s.issued x op).storeVal a width w).advance x).ctx x).pc = (s.ctx x).pc + 4 ∧
      (((s.issued x op).storeVal a width w).advance x).gpr = s.gpr := by
  rw [State.advance_pc, State.advance_gpr, State.storeVal_ctx, State.storeVal_gpr, State.issued_pc, State.issued_gpr]
  exact ⟨rfl, rfl⟩

theorem State.storeVal_word (s : State) (a : Nat) (w : Word) : (s.storeVal a 4 w).taskMem = s.taskMem.putWord a w := rfl
theorem State.storeVal_half (s : State) (a : Nat) (w : Word) : (s.storeVal a 2 w).taskMem = s.taskMem.putHalf a w := rfl
theorem State.storeVal_byte (s : State) (a : Nat) (w : Word) : (s.storeVal a 1 w).taskMem = s.taskMem.putByte a (byteOf w 0) := rfl

/-- Settles O6: the granted store with its width; the bytes are those of the memory's own put. -/
theorem stores : Obligations.Stores := by
  unfold Obligations.Stores
  intro x rd rs imm s
  refine ⟨fun h hf => ⟨_, congrArg Host.Outcome.next (State.store_eq h hf), ?_⟩,
    fun h hf => ⟨_, congrArg Host.Outcome.next (State.store_eq h hf), ?_⟩,
    fun h hf => ⟨_, congrArg Host.Outcome.next (State.store_eq h hf), ?_⟩, ?push⟩
  case push =>
    intro b h hf
    have hsp := s.issued_sp x 0x3C x
    have eq : exec (.push x rd) s = .next ((((s.issued x 0x3C).setTm b.toNat (s.g x rd)).onCtx x (fun c => { c with sp := b })).advance x) := by
      refine congrArg Host.Outcome.next ((State.issue_eq h rfl _).trans ?_)
      rw [State.push_eq (by rw [hsp, State.issued_accFault]; exact hf), hsp, State.issued_g]
    refine ⟨_, eq, ?_⟩
    rw [State.advance_sp, State.advance_pc, State.advance_taskMem, State.advance_gpr, State.onCtx_taskMem, State.onCtx_gpr,
      State.ctx_onCtx_self, State.setTm_ctx, State.setTm_gpr, State.setTm_taskMem, State.issued_taskMem, State.issued_gpr]
    exact ⟨rfl, congrArg (· + 4) (s.issued_pc x 0x3C x), fun i hi => Mem.byte_putWord _ _ _ hi,
      fun c hc => Mem.byte_putWord_ne _ _ _ _ hc, rfl⟩
  · obtain ⟨pc, gpr⟩ := s.stored x 0x38 (s.ea x rs imm).toNat 4 (s.g x rd)
    rw [State.advance_taskMem, State.storeVal_word, State.issued_taskMem]
    exact ⟨pc, fun i hi => Mem.byte_putWord _ _ _ hi, fun c hc => Mem.byte_putWord_ne _ _ _ _ hc, gpr⟩
  · obtain ⟨pc, gpr⟩ := s.stored x 0x39 (s.ea x rs imm).toNat 2 (s.g x rd)
    rw [State.advance_taskMem, State.storeVal_half, State.issued_taskMem]
    exact ⟨pc, fun i hi => Mem.byte_putHalf _ _ _ hi, fun c hc => Mem.byte_putHalf_ne _ _ _ _ hc, gpr⟩
  · obtain ⟨pc, gpr⟩ := s.stored x 0x3A (s.ea x rs imm).toNat 1 (s.g x rd)
    rw [State.advance_taskMem, State.storeVal_byte, State.issued_taskMem]
    exact ⟨pc, Mem.byte_putByte_self .., fun c hc => Mem.byte_putByte_ne _ _ _ _ hc, gpr⟩

/-! ## Faults of accesses -/

theorem State.accFault_window {s : State} {x a n align : Nat} {k : AccKind} (h : s.grants x k a n = false) :
    s.accFault x k a n align = some fcWindow := by
  unfold State.accFault
  rw [h]
  rfl

theorem State.accFault_align {s : State} {x a n align : Nat} {k : AccKind} (h : s.grants x k a n = true) (ha : a % align ≠ 0) :
    s.accFault x k a n align = some fcAlign := by
  unfold State.accFault
  rw [h, if_pos ha]
  rfl

theorem State.load_fault {s : State} {x op : Nat} {rd rs : GReg} {imm : BitVec 16} {width code : Nat} (h : s.starts x op = true)
    (hf : s.accFault x .load (s.ea x rs imm).toNat width width = some code) (signed : Bool) :
    s.load x op rd rs imm width signed = (s.issued x op).raiseFault x code := by
  unfold State.load
  rw [State.issue_eq h rfl]
  dsimp only
  rw [State.issued_ea, State.reading_fault ((s.issued_accFault ..).trans hf)]

theorem State.store_fault {s : State} {x op : Nat} {rd rs : GReg} {imm : BitVec 16} {width code : Nat} (h : s.starts x op = true)
    (hf : s.accFault x .store (s.ea x rs imm).toNat width width = some code) :
    s.store x op rd rs imm width = (s.issued x op).raiseFault x code := by
  unfold State.store
  rw [State.issue_eq h rfl]
  dsimp only
  rw [State.issued_ea, State.writing_fault ((s.issued_accFault ..).trans hf)]

/-- Settles O7: the windows are judged before the alignment. -/
theorem accessFaults : Obligations.AccessFaults := by
  unfold Obligations.AccessFaults
  intro x rd rs imm s
  refine ⟨fun h hg => ?_, fun h hg ha => ?_, fun h hg ha => ?_, fun h hg => ?_, fun h hg ha => ?_, fun h hg ha => ?_⟩
  · exact congrArg Host.Outcome.next (State.load_fault h (State.accFault_window hg) _)
  · exact congrArg Host.Outcome.next (State.load_fault h (State.accFault_align hg ha) _)
  · exact congrArg Host.Outcome.next (State.load_fault h (State.accFault_align hg ha) _)
  · exact congrArg Host.Outcome.next (State.store_fault h (State.accFault_window hg))
  · exact congrArg Host.Outcome.next (State.store_fault h (State.accFault_align hg ha))
  · exact congrArg Host.Outcome.next (State.store_fault h (State.accFault_align hg ha))

/-! ## Branches -/

/-- A branch that starts goes to its target where its condition holds, and else on. -/
theorem State.branch_eq {s : State} {x op : Nat} (h : s.starts x op = true) (imm : BitVec 16) (cond : Word → Bool) :
    s.branch x op imm cond = if cond (s.psw x) then
      ((s.issued x op).onCtx x (fun c => { c with pc := (s.ctx x).pc + 4 + imm.signExtend 32 * 4 })).hold x 2
      else (s.issued x op).advance x := by
  unfold State.branch State.jump State.branchTo simm
  rw [State.issue_eq h rfl]
  simp only [State.issued_psw, State.issued_pc]

/-- A call that starts and is granted pushes the return address and goes to its target. -/
theorem State.call_eq {s : State} {x op : Nat} (h : s.starts x op = true)
    (hf : s.accFault x .store ((s.ctx x).sp - 4).toNat 4 4 = none) (a : State → Word) :
    s.issue x op true (fun s => s.push x ((s.ctx x).pc + 4) (fun t => t.jump x (a s))) =
      ((s.issued x op).setTm ((s.ctx x).sp - 4).toNat ((s.ctx x).pc + 4)).onCtx x (fun c =>
        { c with sp := c.sp - 4, pc := a (s.issued x op) }) := by
  rw [State.issue_eq h rfl]
  have hsp := s.issued_sp x op x
  rw [State.push_eq (by rw [hsp, State.issued_accFault]; exact hf), hsp, State.issued_pc, State.jump, State.onCtx_onCtx]
  refine State.onCtx_congr _ _ _ _ ?_
  rw [State.setTm_ctx, hsp]

/-- Settles O8: the branches are one form with a condition each, the calls one with a target each. -/
theorem branches : Obligations.Branches := by
  unfold Obligations.Branches
  intro x rs imm s
  refine ⟨?_, ?_, ?_, ?_, ?_, ?_, ?_, fun h hf => ?call, fun h => ?jr, fun h hf => ?callr, fun h hf hb => ?ret⟩
  case call =>
    refine congrArg Host.Outcome.next ((State.call_eq h hf (fun s => s.branchTo x imm)).trans ?_)
    unfold State.branchTo simm
    rw [State.issued_pc]
  case jr =>
    refine congrArg Host.Outcome.next ((State.issue_eq h rfl _).trans ?_)
    rw [State.issued_g]
    rfl
  case callr =>
    refine congrArg Host.Outcome.next ((State.call_eq h hf (fun s => s.g x rs)).trans ?_)
    rw [State.issued_g]
  case ret =>
    refine congrArg Host.Outcome.next ((State.issue_eq h rfl _).trans ?_)
    have hsp := s.issued_sp x 0x49 x
    rw [State.pop_eq (by rw [hsp, State.issued_accFault]; exact hf) (by rw [hsp, State.issued_badWordIn]; exact hb), hsp,
      State.issued_tm]
    refine State.onCtx_congr _ _ _ _ ?_
    rw [hsp]
    rfl
  all_goals exact fun h => congrArg Host.Outcome.next (State.branch_eq h imm _)

end Sys2Proof.Machine
end

section
/-! PROOFS. What one step runs, the idle step, and the state that reset leaves (R30, R41, 95). -/

namespace Sys2Proof.Machine

/-- Settles O15: the definition of a step at a non-empty queue. -/
theorem stepRunsFront : Obligations.StepRunsFront := by
  intro c r s
  rfl

/-- A locked master whose beacons ask it to gain, in the last cycle of a 64 ns period (R41). -/
def slewing : State := { State.reset.setFlag .droneStat 0 true with now := 1008, slew := 1 }

theorem slewing_waits : slewing.pending = [] ∧ slewing.waitingChannel = none := by decide

theorem slewing_now : slewing.tick.now = 1025 := by decide

/-- Refutes O16: a locked master that slews adds 17 fine ticks in the first cycle after each 64 ns, not 16 (R41). -/
theorem not_idleStep : ¬ Obligations.IdleStep := by
  intro h
  obtain ⟨hp, hw⟩ := slewing_waits
  obtain ⟨t, ht, -, -, hn⟩ := (h slewing hp).1 hw
  have hs : step slewing = .next slewing.tick := by
    simp only [step, hp, State.idle, hw]
  obtain rfl : slewing.tick = t := by simpa [hs] using ht
  exact absurd (slewing_now.symm.trans hn) (by decide)

/-- A register of the state after reset reads its reset value. -/
theorem State.reset_rd (n : RegName) (i j : Nat) : State.reset.rd n i j = RegKey.reset .fj4_512 ⟨n, i, j⟩ := rfl

/-- Settles O17: each register reads its reset value, and everything else is empty. -/
theorem resetState : Obligations.ResetState := by
  refine ⟨?_, Memory.wf_reset⟩
  refine ⟨rfl, rfl, rfl, rfl, rfl, rfl, rfl, rfl, fun x => ⟨rfl, rfl, rfl, rfl⟩, fun x q => rfl, fun e l => rfl,
    fun e => ⟨rfl, rfl, rfl, fun l hl => ?ctrl⟩, fun n => ⟨rfl, rfl, rfl⟩, fun e p => rfl, fun d => ⟨rfl, rfl, rfl⟩, fun p => rfl,
    rfl, rfl, rfl, rfl, rfl, rfl, rfl, rfl, rfl, fun k hk => ?cfg, fun l => rfl, fun b n => ⟨rfl, show getB 0 0 = false by decide⟩⟩
  case ctrl =>
    have h0 : l ≠ 0 := by omega
    have h2 : ¬ l ≤ 2 := by omega
    simp [State.reset_rd, RegKey.reset, h0, h2]
  case cfg =>
    have low : ¬ 16 ≤ k := Nat.not_le.2 hk
    simp [State.reset_rd, RegKey.reset, hk, low, Nat.add_comm]

end Sys2Proof.Machine
end

section
/-! PROOFS. YIELD, END, TRAP and its answer (R165, R190, R207, R220): the state code of a context, and the record that a call parks
on. -/

namespace Sys2Proof.Machine

/-! ## The state code of a context -/

@[simp] theorem State.setCtxState_ctx (s : State) (x v y : Nat) : (s.setCtxState x v).ctx y = s.ctx y := rfl
@[simp] theorem State.setCtxState_gpr (s : State) (x v : Nat) : (s.setCtxState x v).gpr = s.gpr := rfl
@[simp] theorem State.setCtxState_g (s : State) (x v y : Nat) (r : GReg) : (s.setCtxState x v).g y r = s.g y r := rfl
@[simp] theorem State.onCtx_g (s : State) (x : Nat) (f : Ctx → Ctx) (y : Nat) (r : GReg) : (s.onCtx x f).g y r = s.g y r := rfl
theorem State.setCtxState_self (s : State) (x : Nat) {v : Nat} (h : v < 8) : (s.setCtxState x v).ctxState x = v :=
  (s.fld_setFld_self .ctxStat 0 3 v (x / 32) (x % 32) (by decide)).trans (Nat.mod_eq_of_lt h)
theorem State.setCtxState_rd (s : State) (x v : Nat) {n : RegName} (h : n ≠ .ctxStat) (i j : Nat) :
    (s.setCtxState x v).rd n i j = s.rd n i j := s.rd_wr_name _ _ _ _ _ _ _ h

theorem State.issued_cf (s : State) (x op : Nat) {n : RegName} (h : n ∉ [RegName.govIsl, .govWakeCnt, .engIssue, .ctxIssued])
    (lo len y : Nat) : (s.issued x op).cf n lo len y = s.cf n lo len y := congrArg (getF · lo len) (s.issued_rd x op n _ _ h)
@[simp] theorem State.issued_ilvl (s : State) (x op y : Nat) : (s.issued x op).ilvl y = s.ilvl y := by
  unfold State.ilvl
  rw [State.issued_psw]
@[simp] theorem State.issued_trapHere (s : State) (x op y : Nat) : (s.issued x op).trapHere y = s.trapHere y := by
  unfold State.trapHere
  rw [State.issued_traps, State.issued_ilvl, State.issued_pc]
@[simp] theorem State.issued_monHere (s : State) (x op y : Nat) : (s.issued x op).monHere y = s.monHere y := by
  unfold State.monHere
  rw [State.issued_mons, State.issued_ilvl, State.issued_pc]

/-- The nesting level of a context stays where its PSW and its ceiling do. -/
theorem State.ilvl_congr {s t : State} {x : Nat} (hp : (t.ctx x).psw = (s.ctx x).psw)
    (hc : t.rd .ctxCtrl (x / 32) (x % 32) = s.rd .ctxCtrl (x / 32) (x % 32)) : t.ilvl x = s.ilvl x := by
  unfold State.ilvl State.psw State.ceil State.cf State.fld
  rw [hp, hc]

/-! ## TRAP -/

/-- A call parked: its record stands first among those of its context, with PROG naming the call. -/
def State.parkTrap (s : State) (x call : Nat) (c : TrapCall) : State :=
  (s.onCtx x (fun k => { k with traps := c :: k.traps, prog := toW (2 ^ 31 + call) })).setCtxState x 3

/-- A TRAP that starts with no call outstanding submits its call and parks on it. -/
theorem State.trap_eq {s : State} {x : Nat} (h : s.starts x 0x53 = true) (hn : s.trapHere x = none) (call : Nat)
    (f : State → TrapCall → TrapCall × State) : s.trap x call f =
      let r := f (s.issued x 0x53) { ilvl := s.ilvl x, pc := (s.ctx x).pc, call := call }
      r.2.parkTrap x call r.1 := by
  unfold State.trap
  rw [State.issue_eq h rfl, State.issued_trapHere, hn, State.issued_ilvl, State.issued_pc]
  rfl

/-- What the parked call shows. -/
theorem State.parkTrap_parked (s : State) (x call : Nat) (c : TrapCall) : (s.parkTrap x call c).ctxState x = 3 ∧
    ((s.parkTrap x call c).ctx x).pc = (s.ctx x).pc ∧ ((s.parkTrap x call c).ctx x).prog = toW (2 ^ 31 + call) := by
  unfold State.parkTrap
  refine ⟨State.setCtxState_self _ _ (by decide), ?_, ?_⟩
  all_goals rw [State.setCtxState_ctx, State.ctx_onCtx_self]

/-- The parked call is the one of this level and PC. -/
theorem State.parkTrap_here {s : State} {x call : Nat} {c : TrapCall} (hl : c.ilvl = s.ilvl x) (hp : c.pc = (s.ctx x).pc) :
    (s.parkTrap x call c).trapHere x = some c := by
  unfold State.parkTrap
  have level : ((s.onCtx x (fun k => { k with traps := c :: k.traps, prog := toW (2 ^ 31 + call) })).setCtxState x 3).ilvl x = s.ilvl x :=
    State.ilvl_congr (by rw [State.setCtxState_ctx, State.ctx_onCtx_self]) (State.setCtxState_rd _ _ _ (by decide) _ _)
  unfold State.trapHere
  rw [level, State.setCtxState_ctx, State.ctx_onCtx_self, ← hl, ← hp]
  simp

theorem State.parkTrap_rd (s : State) (x call : Nat) (c : TrapCall) {n : RegName} (h : n ≠ .ctxStat) (i j : Nat) :
    (s.parkTrap x call c).rd n i j = s.rd n i j := State.setCtxState_rd _ _ _ h _ _

/-- LOWER does what it may: both fields are set, beside each other (R220). -/
theorem State.lower_eq {s : State} {x : Nat} {v : Word} (hk : s.cf .ctxCtrl 4 2 x ≤ getF v 0 2) (hp : s.cf .ctxCtrl 0 4 x ≤ getF v 4 4)
    (hc : 3 ≤ x % 32 ∨ getF v 0 2 = s.cf .ctxCtrl 4 2 x) : (s.lower x v).2.cf .ctxCtrl 4 2 x = getF v 0 2 ∧
      (s.lower x v).2.cf .ctxCtrl 0 4 x = getF v 4 4 := by
  unfold State.lower
  dsimp only
  rw [if_neg (by omega)]
  constructor
  · refine (State.fld_setFld_beside _ _ _ _ _ _ _ _ _ (by decide)).trans ((State.fld_setFld_self _ _ _ _ _ _ _ (by decide)).trans ?_)
    exact Nat.mod_eq_of_lt (Nat.mod_lt _ (by decide))
  · refine (State.fld_setFld_self _ _ _ _ _ _ _ (by decide)).trans ?_
    exact Nat.mod_eq_of_lt (Nat.mod_lt _ (by decide))

theorem State.lower_denied {s : State} {x : Nat} {v : Word} (h : getF v 0 2 < s.cf .ctxCtrl 4 2 x ∨ getF v 4 4 < s.cf .ctxCtrl 0 4 x ∨
    (x % 32 < 3 ∧ getF v 0 2 ≠ s.cf .ctxCtrl 4 2 x)) : s.lower x v = (stDenied, s) := if_pos h

theorem State.lower_ctx (s : State) (x : Nat) (v : Word) (y : Nat) : (s.lower x v).2.ctx y = s.ctx y := by
  unfold State.lower
  dsimp only
  split <;> rfl

/-- A TRAP parks on what its call gave. -/
theorem State.trap_parks {s t : State} {x call : Nat} {c : TrapCall} (ht : t.ctx x = (s.issued x 0x53).ctx x) :
    (t.parkTrap x call c).ctxState x = 3 ∧ ((t.parkTrap x call c).ctx x).pc = (s.ctx x).pc ∧
      ((t.parkTrap x call c).ctx x).prog = toW (2 ^ 31 + call) := by
  obtain ⟨state, pc, prog⟩ := t.parkTrap_parked x call c
  refine ⟨state, pc.trans ?_, prog⟩
  rw [ht, State.issued_pc]

/-- The call of this level and PC stands on the state in which the instruction is counted. -/
theorem State.issued_parkTrap_here {s : State} {x call : Nat} {c : TrapCall} (hl : c.ilvl = s.ilvl x) (hp : c.pc = (s.ctx x).pc) :
    ((s.issued x 0x53).parkTrap x call c).trapHere x = some c := by
  apply State.parkTrap_here
  · rw [hl, State.issued_ilvl]
  · rw [hp, State.issued_pc]

@[simp] theorem State.issued_cmdBuffersOk (s : State) (x op y a b n : Nat) :
    (s.issued x op).cmdBuffersOk y a b n = s.cmdBuffersOk y a b n := by
  unfold State.cmdBuffersOk
  simp only [State.issued_accFault, State.issued_tm]

/-- The record of TRAP CMD: the answer at once, or the packet with its buffer. -/
def State.cmdCall (s : State) (x : Fin 128) (c : TrapCall) : TrapCall × State :=
  let a := (s.g x 1).toNat
  let b := (s.g x 2).toNat
  let n := (s.g x 3).toNat
  if !s.cmdBuffersOk x a b n then ({ c with answer := some (stParam, 0) }, s)
  else
    let ws := s.taskMem.words a (2 + getF (s.tm a) 16 8)
    let pk := packetOf (.task x) ws
    let op := getF (s.tm a) 0 16
    if getF (s.tm a) 26 6 ≠ 0 then
      let r := (replyWords (refuse stParam) false pk.tag op).take n
      ({ c with answer := some (stParam, toW r.length) }, { s with taskMem := s.taskMem.putWords b r })
    else ({ c with pk := some (pk, op), buf := b, size := n }, s)

theorem State.cmdCall_ctx (s : State) (x : Fin 128) (c : TrapCall) (y : Nat) : (s.cmdCall x c).2.ctx y = s.ctx y := by
  unfold State.cmdCall
  dsimp only
  split
  · rfl
  · split <;> rfl

/-- An answer ends the call: its registers, its record gone, PROG clear, and the context goes on. -/
def State.endTrap (s : State) (x : Nat) (c : TrapCall) (st : Nat) (w : Word) : State :=
  (((s.setG x 0 (toW st)).setG x 1 w).onCtx x (fun k => { k with
    traps := k.traps.filter (fun t => !(t.ilvl == c.ilvl && t.pc == c.pc)), prog := 0, pc := k.pc + 4 })).setCtxState x 2

section
variable {x : Fin 128} {s : State}

/-- END leaves its context as it is, but for the time of the next issue, and DONE. -/
theorem exec_endTask (h : s.starts x 0x52 = true) :
    ∃ t r, exec (.endTask x) s = .next t ∧ t.ctxState x = 4 ∧ t.ctx x = { s.ctx x with readyAt := r } := by
  obtain ⟨r, hr⟩ := s.issued_ctx x 0x52 x
  refine ⟨(s.issued x 0x52).setCtxState x 4, r, congrArg Host.Outcome.next (State.issue_eq h rfl _), ?_, ?_⟩
  · exact State.setCtxState_self _ _ (by decide)
  · rw [State.setCtxState_ctx, hr]

theorem exec_trapInfo (h : s.starts x 0x53 = true) (hn : s.trapHere x = none) : exec (.trapInfo x) s = .next
    ((s.issued x 0x53).parkTrap x 0x80 { ilvl := s.ilvl x, pc := (s.ctx x).pc, call := 0x80, answer := some (stOk, s.ctxInfo x) }) := by
  refine congrArg Host.Outcome.next ((State.trap_eq h hn ..).trans ?_)
  have info : (s.issued x 0x53).ctxInfo x = s.ctxInfo x := by
    unfold State.ctxInfo
    rw [State.issued_cf _ _ _ (by decide), State.issued_cf _ _ _ (by decide), State.issued_cf _ _ _ (by decide)]
  rw [info]

theorem exec_trapLimit (h : s.starts x 0x53 = true) (hn : s.trapHere x = none) : exec (.trapLimit x) s = .next
    ((s.issued x 0x53).parkTrap x 0x82
      { ilvl := s.ilvl x, pc := (s.ctx x).pc, call := 0x82, answer := some (stOk, toW (s.cf .ctxNointLim 0 12 x)) }) := by
  refine congrArg Host.Outcome.next ((State.trap_eq h hn ..).trans ?_)
  rw [State.issued_cf _ _ _ (by decide)]

theorem exec_trapLower (h : s.starts x 0x53 = true) (hn : s.trapHere x = none) : ∃ c, exec (.trapLower x) s = .next
    (((s.issued x 0x53).lower x (s.g x 1)).2.parkTrap x 0x81 c) := by
  refine ⟨{ ilvl := s.ilvl x, pc := (s.ctx x).pc, call := 0x81, answer := some (((s.issued x 0x53).lower x (s.g x 1)).1, s.g x 1) },
    congrArg Host.Outcome.next ((State.trap_eq h hn ..).trans ?_)⟩
  rw [State.issued_g]

theorem exec_trapCmd (h : s.starts x 0x53 = true) (hn : s.trapHere x = none) :
    let r := (s.issued x 0x53).cmdCall x { ilvl := s.ilvl x, pc := (s.ctx x).pc, call := 0 }
    exec (.trapCmd x) s = .next (r.2.parkTrap x 0 r.1) := congrArg Host.Outcome.next (State.trap_eq h hn ..)

theorem exec_trapUnknown {imm : BitVec 16} (h : s.starts x 0x53 = true) (hi : imm.toNat ∉ [0, 0x80, 0x81, 0x82]) :
    exec (.trapUnknown x imm) s = .next (((s.issued x 0x53).setG x 0 0x22).advance x) :=
  congrArg Host.Outcome.next ((if_neg hi).trans (State.issue_eq h rfl _))

theorem exec_trapAnswer {ts : Stamp} {c : TrapCall} {st : Nat} {w : Word} (hp : s.pstate < 3) (h3 : s.ctxState x = 3)
    (hh : s.halted (x / 32) = false) (ht : s.trapHere x = some c) (hk : c.pk = none) (ha : c.answer = some (st, w)) :
    exec (.trapAnswer x ts) s = .next ((s.reachIn (islEngine (x / 32)) ts).endTrap x c st w) := by
  have here : (s.reachIn (islEngine (x / 32)) ts).trapHere x = some c := ht
  refine congrArg Host.Outcome.next ((State.happens_eq hp ?_ _).trans ?_)
  · rw [here]
    show (s.ctxState x == 3 && !s.halted (x / 32) && true) = true
    rw [h3, hh]
    rfl
  · simp only [here, Option.bind_some, hk, ha]
    rfl

end

/-- What an answered call leaves. -/
theorem State.endTrap_spec (s : State) (x : Nat) (c : TrapCall) (st : Nat) (w : Word) :
    (s.endTrap x c st w).g x 0 = toW st ∧ (s.endTrap x c st w).g x 1 = w ∧ (s.endTrap x c st w).ctxState x = 2 ∧
      ((s.endTrap x c st w).ctx x).pc = (s.ctx x).pc + 4 ∧ ((s.endTrap x c st w).ctx x).prog = 0 := by
  unfold State.endTrap
  refine ⟨?_, ?_, State.setCtxState_self _ _ (by decide), ?_, ?_⟩
  · rw [State.setCtxState_g, State.onCtx_g, State.g_setG_ne _ _ _ (by decide), State.g_setG_self]
  · rw [State.setCtxState_g, State.onCtx_g, State.g_setG_self]
  · rw [State.setCtxState_ctx, State.ctx_onCtx_self]
    rfl
  · rw [State.setCtxState_ctx, State.ctx_onCtx_self]

/-- The lowered fields stay through the parking, and where LOWER is denied the register does. -/
theorem State.lower_parked (s : State) (x : Nat) (v : Word) (c : TrapCall) :
    (s.cf .ctxCtrl 4 2 x ≤ getF v 0 2 → s.cf .ctxCtrl 0 4 x ≤ getF v 4 4 → (3 ≤ x % 32 ∨ getF v 0 2 = s.cf .ctxCtrl 4 2 x) →
      (((s.issued x 0x53).lower x v).2.parkTrap x 0x81 c).cf .ctxCtrl 4 2 x = getF v 0 2 ∧
      (((s.issued x 0x53).lower x v).2.parkTrap x 0x81 c).cf .ctxCtrl 0 4 x = getF v 4 4) ∧
    (getF v 0 2 < s.cf .ctxCtrl 4 2 x ∨ getF v 4 4 < s.cf .ctxCtrl 0 4 x ∨ (x % 32 < 3 ∧ getF v 0 2 ≠ s.cf .ctxCtrl 4 2 x) →
      (((s.issued x 0x53).lower x v).2.parkTrap x 0x81 c).cr .ctxCtrl x = s.cr .ctxCtrl x) := by
  have cf : ∀ lo len, (s.issued x 0x53).cf .ctxCtrl lo len x = s.cf .ctxCtrl lo len x := fun _ _ => s.issued_cf x 0x53 (by decide) ..
  have parked : ∀ (t : State), (t.parkTrap x 0x81 c).cr .ctxCtrl x = t.cr .ctxCtrl x := fun t => t.parkTrap_rd x 0x81 c (by decide) _ _
  have field : ∀ (t : State) lo len, (t.parkTrap x 0x81 c).cf .ctxCtrl lo len x = t.cf .ctxCtrl lo len x := fun t lo len =>
    congrArg (getF · lo len) (parked t)
  rw [← cf, ← cf]
  refine ⟨fun hk hp hc => ?_, fun hd => ?_⟩
  · rw [field, field]
    exact State.lower_eq hk hp hc
  · rw [parked, State.lower_denied hd]
    exact s.issued_rd x 0x53 _ _ _ (by decide)

/-- What TRAP CMD keeps: PARAM where its buffers are not granted, and else the packet read (R207). -/
theorem State.cmdCall_spec (s : State) (x : Fin 128) (c : TrapCall) :
    let r := (s.issued x 0x53).cmdCall x c
    (s.cmdBuffersOk x (s.g x 1).toNat (s.g x 2).toNat (s.g x 3).toNat = false →
      r = ({ c with answer := some (stParam, 0) }, s.issued x 0x53)) ∧
    (s.cmdBuffersOk x (s.g x 1).toNat (s.g x 2).toNat (s.g x 3).toNat = true → getF (s.tm (s.g x 1).toNat) 26 6 = 0 →
      r = ({ c with
        pk := some (packetOf (.task x) (s.taskMem.words (s.g x 1).toNat (2 + getF (s.tm (s.g x 1).toNat) 16 8)),
          getF (s.tm (s.g x 1).toNat) 0 16)
        buf := (s.g x 2).toNat, size := (s.g x 3).toNat }, s.issued x 0x53)) := by
  intro r
  have hr : r = (s.issued x 0x53).cmdCall x c := rfl
  unfold State.cmdCall at hr
  simp only [State.issued_g, State.issued_cmdBuffersOk, State.issued_tm, State.issued_taskMem] at hr
  refine ⟨fun hb => hr.trans ?_, fun hb hz => hr.trans ?_⟩
  · rw [if_pos (by simp [hb])]
  · rw [if_neg (by simp [hb]), if_neg (by simp [hz])]

/-- Settles O10: every call parks on its own record; the answer goes through `endTrap`. -/
theorem trapsAndEnd : Obligations.TrapsAndEnd := by
  unfold Obligations.TrapsAndEnd
  refine ⟨fun x imm s => ⟨fun h => congrArg Host.Outcome.next (State.issue_eq h rfl _), exec_endTask, fun h hn => ⟨?info, ?limit, ?lower, ?cmd⟩,
    exec_trapUnknown⟩, fun x ts c st w s hp h3 hh ht hk ha => ?answer⟩
  case info =>
    refine ⟨_, exec_trapInfo h hn, State.trap_parks rfl, ?_⟩
    rw [State.issued_parkTrap_here rfl rfl]
    rfl
  case limit =>
    refine ⟨_, exec_trapLimit h hn, State.trap_parks rfl, ?_⟩
    rw [State.issued_parkTrap_here rfl rfl]
    rfl
  case lower =>
    obtain ⟨c, acts⟩ := exec_trapLower h hn
    exact ⟨_, acts, State.trap_parks (State.lower_ctx ..), s.lower_parked x (s.g x 1) c⟩
  case cmd =>
    refine ⟨_, exec_trapCmd h hn, State.trap_parks (State.cmdCall_ctx ..), fun hb => ?_, fun hb hz => ?_⟩
    · rw [(s.cmdCall_spec x _).1 hb, State.issued_parkTrap_here rfl rfl]
      rfl
    · rw [(s.cmdCall_spec x _).2 hb hz, State.issued_parkTrap_here rfl rfl]
      rfl
  case answer =>
    obtain ⟨g0, g1, state, pc, prog⟩ := (s.reachIn (islEngine (x / 32)) ts).endTrap_spec x c st w
    exact ⟨_, exec_trapAnswer hp h3 hh ht hk ha, g0, g1, state, pc, prog⟩

end Sys2Proof.Machine
end

section
/-! PROOFS. WAIT at its issue and its end (R177, R178): the monitor that a WAIT sets up, how it is judged, and what it leaves. -/

namespace Sys2Proof.Machine

/-! ## The end of a WAIT -/

theorem State.setG_ctx (s : State) (x : Nat) (r : GReg) (w : Word) (y : Nat) : (s.setG x r w).ctx y = s.ctx y := rfl

/-- Registers written one after another leave the registers of the state codes. -/
theorem State.endWait_goes (s : State) (x : Nat) (m : Monitor) (regs : List (GReg × Word)) :
    (s.endWait x m regs).ctxState x = 2 ∧ ((s.endWait x m regs).ctx x).pc = (s.ctx x).pc + 4 ∧
      ((s.endWait x m regs).ctx x).prog = 0 := by
  unfold State.endWait
  refine ⟨State.setCtxState_self _ _ (by decide), ?_, ?_⟩
  · rw [State.setCtxState_ctx, State.ctx_onCtx_self]
    exact congrArg (fun c => c.pc + 4) ((setG_foldl x regs s).1 x)
  · rw [State.setCtxState_ctx, State.ctx_onCtx_self]

theorem State.endWait_one (s : State) (x : Nat) (m : Monitor) (r : GReg) (w : Word) : (s.endWait x m [(r, w)]).g x r = w := by
  unfold State.endWait
  rw [State.setCtxState_g, State.onCtx_g]
  exact State.g_setG_self ..

theorem nextG_ne (r : GReg) : r ≠ nextG r := by
  unfold nextG
  revert r
  decide

theorem State.endWait_two (s : State) (x : Nat) (m : Monitor) (r : GReg) (v w : Word) :
    (s.endWait x m [(r, v), (nextG r, w)]).g x r = v ∧ (s.endWait x m [(r, v), (nextG r, w)]).g x (r + 1) = w := by
  unfold State.endWait
  rw [State.setCtxState_g, State.onCtx_g, State.setCtxState_g, State.onCtx_g]
  exact ⟨(State.g_setG_ne _ _ _ (nextG_ne r)).trans (State.g_setG_self ..), State.g_setG_self ..⟩

theorem State.endWait_rd (s : State) (x : Nat) (m : Monitor) (regs : List (GReg × Word)) {n : RegName} (h : n ≠ .ctxStat) (i j : Nat) :
    (s.endWait x m regs).rd n i j = s.rd n i j := by
  have written : ∀ t : State, (regs.foldl (fun s p => s.setG x p.1 p.2) t).rd n i j = t.rd n i j := by
    induction regs with
    | nil => exact fun _ => rfl
    | cons p l ih => exact fun t => ih (t.setG x p.1 p.2)
  exact (State.setCtxState_rd _ _ _ h _ _).trans (written s)

theorem State.endWait_evq (s : State) (x : Nat) (m : Monitor) (regs : List (GReg × Word)) :
    ((s.endWait x m regs).ctx x).evq = (s.ctx x).evq := by
  unfold State.endWait
  rw [State.setCtxState_ctx, State.ctx_onCtx_self]
  dsimp only
  exact congrArg Ctx.evq ((setG_foldl x regs s).1 x)

/-! ## The monitor of a WAIT -/

/-- A context waits with m: the monitor stands first among its own, and PROG shows it. A free value may have been drawn. -/
def State.waiting (s : State) (x : Nat) (m : Monitor) (c : Nat) : State :=
  State.onCtx { s with freeCtr := c } x (fun k => { k with mons := m :: k.mons, prog := monProg m })

theorem State.waiting_ctx (s : State) (x : Nat) (m : Monitor) (c : Nat) :
    (s.waiting x m c).ctx x = { s.ctx x with mons := m :: (s.ctx x).mons, prog := monProg m } := by
  unfold State.waiting
  rw [State.ctx_onCtx_self]
  rfl

theorem State.waiting_ctx_ne (s : State) {x y : Nat} (m : Monitor) (c : Nat) (h : y ≠ x) : (s.waiting x m c).ctx y = s.ctx y :=
  SMap.at_set_ne _ _ _ _ _ h

theorem State.waiting_rd (s : State) (x : Nat) (m : Monitor) (c : Nat) (n : RegName) (i j : Nat) :
    (s.waiting x m c).rd n i j = s.rd n i j := rfl

theorem State.waiting_gpr (s : State) (x : Nat) (m : Monitor) (c : Nat) : (s.waiting x m c).gpr = s.gpr := rfl

theorem State.waiting_waitClock (s : State) (x : Nat) (m : Monitor) (c y : Nat) : (s.waiting x m c).waitClock y = s.waitClock y := rfl
theorem State.waiting_dom (s : State) (x : Nat) (m : Monitor) (c d : Nat) : (s.waiting x m c).dom d = s.dom d := rfl

theorem State.waiting_angleMet (s : State) (x : Nat) (m : Monitor) (c : Nat) (n : Monitor) :
    (s.waiting x m c).angleMet n = s.angleMet n := rfl

theorem State.waiting_here {s : State} {x : Nat} {m : Monitor} (c : Nat) (hl : m.ilvl = s.ilvl x) (hp : m.pc = (s.ctx x).pc) :
    (s.waiting x m c).monHere x = some m := by
  have level : (s.waiting x m c).ilvl x = s.ilvl x := State.ilvl_congr (by rw [State.waiting_ctx]) rfl
  unfold State.monHere
  rw [level, State.waiting_ctx, ← hl, ← hp]
  simp

/-- The monitor of a WAIT at its first issue, with the deadline d and the crossing due. -/
def State.monitor (s : State) (x kind : Nat) (rd rs : GReg) (arg : Nat) (d : Option Stamp) (due : Nat) : Monitor :=
  { ilvl := s.ilvl x, pc := (s.ctx x).pc, kind := kind, arg := arg, rd := rd, opnd := s.g x rs, since := s.waitClock x, deadline := d,
    due := due, losses := (s.dom (arg % 16)).losses }

theorem State.monitor_angleMet (s : State) (x kind : Nat) (rd rs : GReg) (arg : Nat) (d : Option Stamp) (due : Nat) :
    s.angleMet (s.monitor x kind rd rs arg d due) = decide (due ≤ s.domU (arg % 16) (nsOf (s.clock islDomain))) := rfl

/-- A DELAY within the values of R177 sets its deadline. -/
theorem State.newMonitor_delay {s : State} {x arg : Nat} {rd rs : GReg} (h : (s.g x rs).toNat < 2 ^ 31) :
    s.newMonitor x 1 rd rs arg false = s.waiting x
      (s.monitor x 1 rd rs arg (some (toS ((s.waitClock x).toNat + 16 * (s.g x rs).toNat))) 0) s.freeCtr := by
  unfold State.newMonitor State.waitNs
  dsimp only
  rw [if_pos rfl, if_pos h]
  rfl

/-- An ANGLE waits for a crossing: for one within the cycle the next above the domain's count, else for a free one. -/
theorem State.newMonitor_angle (s : State) (x arg : Nat) (rd rs : GReg) {kind : Nat} (hk : kind = 2) : s.newMonitor x kind rd rs arg false =
    if (s.g x rs).toNat * 65536 < s.cycleLen (arg % 16) then
      s.waiting x (s.monitor x kind rd rs arg none (nextAbove (s.domU (arg % 16) (nsOf (s.clock islDomain))) (s.cycleLen (arg % 16))
        ((s.g x rs).toNat * 65536))) s.freeCtr
    else
      s.waiting x (s.monitor x kind rd rs arg none (s.domU (arg % 16) (nsOf (s.clock islDomain)) + Config.freeNs s.freeCtr)) (s.freeCtr + 1) := by
  have h1 : ¬kind = 1 := by omega
  have h2 : ¬kind ≠ 2 := by omega
  have h5 : ¬(kind = 5 ∧ 256 ≤ arg) := by omega
  unfold State.newMonitor
  dsimp only
  simp only [if_neg h1, if_neg h2, if_neg h5, Bool.false_eq_true, if_false]
  split <;> rfl

/-- The others have neither. -/
theorem State.newMonitor_plain {s : State} {x kind arg : Nat} {rd rs : GReg} (h1 : kind ≠ 1) (h2 : kind ≠ 2) (h5 : kind ≠ 5 ∨ arg < 256) :
    s.newMonitor x kind rd rs arg false = s.waiting x (s.monitor x kind rd rs arg none 0) s.freeCtr := by
  have local' : ¬(kind = 5 ∧ 256 ≤ arg) := by omega
  unfold State.newMonitor
  dsimp only
  simp only [h1, h2, local', Bool.false_eq_true, if_false, ne_eq, not_false_eq_true, if_true]
  rfl

/-- A first WAIT that starts and fits, without a timeout, is judged on its monitor. -/
theorem State.wait_eq {s : State} {x : Fin 128} {kind : Nat} {rd rs : GReg} {arg : BitVec 12} {fits : Bool} (h : s.starts x 0x50 = true)
    (hf : fits = true) (hm : s.monHere x = none) (ht : arg.toNat < 2048)
    (hw : ¬((kind = 2 ∧ s.domains ≤ arg.toNat) ∨ (kind = 4 ∧ !s.selFitted (arg.toNat % 64)))) {d : Option Stamp} {due c : Nat}
    (hn : (s.issued x 0x50).newMonitor x kind rd rs arg.toNat false = (s.issued x 0x50).waiting x
      ((s.issued x 0x50).monitor x kind rd rs arg.toNat d due) c) :
    s.wait x kind rd rs arg fits = ((s.issued x 0x50).waiting x ((s.issued x 0x50).monitor x kind rd rs arg.toNat d due) c).judgeWait x
      ((s.issued x 0x50).monitor x kind rd rs arg.toNat d due) := by
  have untimed : getB arg 11 = false := by
    rw [getB, BitVec.getLsbD, Nat.testBit_lt_two_pow ht]
  have field : getF arg 0 11 = arg.toNat := Nat.mod_eq_of_lt ht
  unfold State.wait
  rw [State.issue_eq h hf]
  have doms : (s.issued x 0x50).domains = s.domains := by
    unfold State.domains State.tiles
    rw [State.issued_variant]
  have links : (s.issued x 0x50).selFitted (arg.toNat % 64) = s.selFitted (arg.toNat % 64) := by
    unfold State.selFitted State.linkCount
    rw [State.issued_variant]
  dsimp only
  rw [untimed, field, doms, links, if_neg (by simp), if_neg hw, State.issued_monHere, hm, if_neg (by simp), hn,
    State.waiting_here _ rfl rfl]

/-! ## How a WAIT is judged -/

theorem State.judgeWait_met {s t : State} {x : Fin 128} {m : Monitor} {regs : List (GReg × Word)} (h : s.waitMet x m = some (regs, t)) :
    s.judgeWait x m = t.endWait x m regs := by
  unfold State.judgeWait
  rw [h]

theorem State.judgeWait_parks {s : State} {x : Fin 128} {m : Monitor} (h : s.waitMet x m = none) (hd : m.kind = 1 ∨ m.deadline = none) :
    s.judgeWait x m = s.setCtxState x 3 := by
  have untimed : s.timedOut x m = false := by
    unfold State.timedOut
    obtain hk | hn := hd
    · rw [hk]
      rfl
    · rw [hn]
      exact Bool.and_false _
  unfold State.judgeWait
  rw [h, untimed]
  rfl

theorem State.judgeWait_timeout {s : State} {x : Fin 128} {m : Monitor} (h : s.waitMet x m = none) (ht : s.timedOut x m = true) :
    s.judgeWait x m = s.timeoutWait x m := by
  unfold State.judgeWait
  rw [h, ht]
  rfl

/-! ## When the condition of a WAIT holds -/

section
variable {s : State} {x : Fin 128} {m : Monitor}

theorem State.waitMet_time (h : m.kind = 0) : s.waitMet x m =
    if (ns32 (s.waitClock x) - m.opnd).toNat < 2 ^ 31 then some ([(m.rd, 0)], s) else none := by
  unfold State.waitMet
  simp only [h]

theorem State.waitMet_delay (h : m.kind = 1) : s.waitMet x m =
    if (m.deadline.getD 0).toNat ≤ (s.waitClock x).toNat then some ([(m.rd, 0)], s) else none := by
  unfold State.waitMet
  simp only [h]

theorem State.waitMet_angle (h : m.kind = 2) : s.waitMet x m =
    if s.domState (m.arg % 16) ≠ 3 ∨ (s.dom (m.arg % 16)).losses ≠ m.losses then some ([(m.rd, 2)], s)
    else if s.angleMet m then some ([(m.rd, 0)], s) else none := by
  unfold State.waitMet
  simp only [h]

theorem State.waitMet_event (h : m.kind = 3) {v t : Word} {r : List (Word × Word)} (hq : (s.ctx x).evq = (v, t) :: r) : s.waitMet x m =
    some ([(m.rd, v), (nextG m.rd, t)], s.onCtx x (fun c => { c with evq := r })) := by
  unfold State.waitMet
  simp only [h, hq]

theorem State.waitMet_noEvent (h : m.kind = 3) (hq : (s.ctx x).evq = []) : s.waitMet x m = none := by
  unfold State.waitMet
  simp only [h, hq]

theorem State.waitMet_box (h : m.kind = 4) : s.waitMet x m =
    if !s.boxMine x m.arg then some ([(m.rd, toW stDenied)], s)
    else if s.go (waitBox m.arg) != m.arg.testBit 6 then some ([(m.rd, 0)], s) else none := by
  unfold State.waitMet
  simp only [h]

theorem State.waitMet_lock (h : m.kind = 5) (ha : m.arg < 256) : s.waitMet x m =
    if (s.lockRead (.ctx x) m.arg).1 = 1 then some ([(m.rd, 0)], (s.lockRead (.ctx x) m.arg).2) else none := by
  unfold State.waitMet
  simp only [h, if_pos ha]

/-- Reading a lock leaves every context. -/
theorem State.lockRead_ctx (s : State) (x : Fin 128) (k y : Nat) : (s.lockRead (.ctx x) k).2.ctx y = s.ctx y := by
  obtain ⟨he, -⟩ := (s.lockRead_owner (m := .ctx x) (fun _ => nofun) k).1
  rw [he]
  rfl

/-- Where the condition holds, the PC stays. -/
theorem State.waitMet_pc {regs : List (GReg × Word)} {t : State} (h : s.waitMet x m = some (regs, t)) :
    (t.ctx x).pc = (s.ctx x).pc := by
  have same : ∀ {p : Prop} [Decidable p] {l : List (GReg × Word)} {o : Option (List (GReg × Word) × State)},
      (if p then some (l, s) else o) = some (regs, t) → t = s ∨ o = some (regs, t) := by
    intro p _ l o hp
    split at hp
    · exact .inl (Prod.mk.inj (Option.some.inj hp)).2.symm
    · exact .inr hp
  unfold State.waitMet at h
  split at h
  · obtain rfl | h := same h
    · rfl
    · cases h
  · obtain rfl | h := same h
    · rfl
    · cases h
  · obtain rfl | h := same h
    · rfl
    · obtain rfl | h := same h
      · rfl
      · cases h
  · split at h
    · obtain ⟨-, rfl⟩ := Prod.mk.inj (Option.some.inj h)
      rw [State.ctx_onCtx_self]
    · cases h
  · obtain rfl | h := same h
    · rfl
    · obtain rfl | h := same h
      · rfl
      · cases h
  · split at h
    · dsimp only at h
      split at h
      · obtain ⟨-, rfl⟩ := Prod.mk.inj (Option.some.inj h)
        rw [State.lockRead_ctx]
      · cases h
    · obtain rfl | h := same h
      · rfl
      · cases h

end

/-! ## A first WAIT goes on or parks -/

section
variable {s : State} {x : Fin 128} {m : Monitor} {c : Nat}

/-- What it means that the context goes on, and that it parks. -/
def State.waitGoes (s t : State) (x : Nat) : Prop := t.ctxState x = 2 ∧ (t.ctx x).pc = (s.ctx x).pc + 4 ∧ (t.ctx x).prog = 0
def State.waitParks (s t : State) (x : Nat) : Prop :=
  t.ctxState x = 3 ∧ (t.ctx x).pc = (s.ctx x).pc ∧ (t.monHere x).isSome ∧ t.gpr = s.gpr

theorem State.setCtxState_monHere (s : State) (x v : Nat) : (s.setCtxState x v).monHere x = s.monHere x := by
  have level : (s.setCtxState x v).ilvl x = s.ilvl x := State.ilvl_congr rfl (State.setCtxState_rd _ _ _ (by decide) _ _)
  unfold State.monHere
  rw [level, State.setCtxState_ctx]

theorem State.waiting_pc (s : State) (x : Nat) (op : Nat) (m : Monitor) (c : Nat) :
    (((s.issued x op).waiting x m c).ctx x).pc = (s.ctx x).pc := by
  rw [State.waiting_ctx]
  exact s.issued_pc x op x

theorem State.waiting_goes {t : State} {regs : List (GReg × Word)}
    (h : ((s.issued x 0x50).waiting x m c).waitMet x m = some (regs, t)) : s.waitGoes (t.endWait x m regs) x := by
  obtain ⟨state, pc, prog⟩ := t.endWait_goes x m regs
  exact ⟨state, pc.trans (by rw [State.waitMet_pc h, State.waiting_pc]), prog⟩

theorem State.waiting_parks (hl : m.ilvl = s.ilvl x) (hp : m.pc = (s.ctx x).pc) :
    s.waitParks (((s.issued x 0x50).waiting x m c).setCtxState x 3) x ∧
      (((s.issued x 0x50).waiting x m c).setCtxState x 3).monHere x = some m := by
  have here : (((s.issued x 0x50).waiting x m c).setCtxState x 3).monHere x = some m := by
    rw [State.setCtxState_monHere]
    apply State.waiting_here
    · rw [hl, State.issued_ilvl]
    · rw [hp, State.issued_pc]
  refine ⟨⟨State.setCtxState_self _ _ (by decide), ?_, ?_, ?_⟩, here⟩
  · rw [State.setCtxState_ctx, State.waiting_pc]
  · rw [here]
    rfl
  · rw [State.setCtxState_gpr, State.waiting_gpr, State.issued_gpr]

end

/-! ## Whom a waiting context goes before -/

/-- The WAITs of the context itself do not bar it from a lock. -/
theorem State.waiting_lockLost (s : State) (x : Fin 128) (m : Monitor) (c k : Nat) :
    (s.waiting x m c).lockLost (.ctx x) k = s.lockLost (.ctx x) k := by
  have one : ∀ y, ((s.waiting x m c).waitsLock k y && decide (lockRank (.ctx (Fin.ofNat 128 y)) < lockRank (.ctx x))) =
      (s.waitsLock k y && decide (lockRank (.ctx (Fin.ofNat 128 y)) < lockRank (.ctx x))) := by
    intro y
    by_cases hy : y = x
    · have self : Fin.ofNat 128 y = x := by rw [hy]; exact Fin.ext (Nat.mod_eq_of_lt x.isLt)
      rw [self, decide_eq_false (Nat.lt_irrefl _), Bool.and_false, Bool.and_false]
    · have level : (s.waiting x m c).ilvl y = s.ilvl y := State.ilvl_congr (by rw [State.waiting_ctx_ne _ _ _ hy]) rfl
      have here : (s.waiting x m c).monHere y = s.monHere y := by
        unfold State.monHere
        rw [level, State.waiting_ctx_ne _ _ _ hy]
      unfold State.waitsLock
      rw [here]
      rfl
  unfold State.lockLost
  exact congrArg (List.any (List.range (32 * s.engines))) (funext one)

/-- A cycle of the master's clock does not look at the contexts or the free values. -/
theorem State.waiting_tick (s : State) (x : Nat) (m : Monitor) (c : Nat) (i : Nat) :
    (s.waiting x m c).tick.clock i = s.tick.clock i := by
  unfold State.tick
  by_cases unlocked : (!s.flag .droneStat 0) = true
  · rw [if_pos (show (!(s.waiting x m c).flag .droneStat 0) = true from unlocked), if_pos unlocked]
    rfl
  · rw [if_neg (show ¬(!(s.waiting x m c).flag .droneStat 0) = true from unlocked), if_neg unlocked]
    by_cases slews : s.slew ≠ 0 ∧ (s.now.toNat + 16) / 1024 ≠ s.now.toNat / 1024 ∧ s.pstate < 3
    · rw [if_pos slews, if_pos (show (s.waiting x m c).slew ≠ 0 ∧ ((s.waiting x m c).now.toNat + 16) / 1024 ≠
        (s.waiting x m c).now.toNat / 1024 ∧ (s.waiting x m c).pstate < 3 from slews)]
      rfl
    · rw [if_neg slews, if_neg (show ¬((s.waiting x m c).slew ≠ 0 ∧ ((s.waiting x m c).now.toNat + 16) / 1024 ≠
        (s.waiting x m c).now.toNat / 1024 ∧ (s.waiting x m c).pstate < 3) from slews)]
      rfl

theorem State.waiting_lockNext (s : State) (x : Fin 128) (m : Monitor) (c k : Nat) :
    (s.waiting x m c).lockNext (.ctx x) k = s.lockNext (.ctx x) k := by
  unfold State.lockNext
  rw [State.waiting_tick]
  rfl

/-- The next crossing lies ahead of the count. -/
theorem lt_nextAbove {u len a : Nat} (h : 0 < len) : u < nextAbove u len a := by
  have least : u ≤ nextAt u len a := by
    unfold nextAt
    rw [if_neg (by omega)]
    exact Nat.le_add_right _ _
  unfold nextAbove
  split
  · omega
  · omega

/-! ## The conditions, each at its first issue -/

/-- What the first issue of a WAIT sets up: from s the state w in which m is judged. -/
structure State.FirstWait (s w : State) (x : Fin 128) (m : Monitor) (kind : Nat) (rd rs : GReg) (arg : Nat) : Prop where
  kind : m.kind = kind
  rd : m.rd = rd
  opnd : m.opnd = s.g x rs
  arg : m.arg = arg
  losses : (w.dom (m.arg % 16)).losses = m.losses
  clock : w.waitClock x = (s.issued x 0x50).waitClock x
  evq : (w.ctx x).evq = (s.ctx x).evq
  regs : ∀ n i j, n ∉ [RegName.govIsl, .govWakeCnt, .engIssue, .ctxIssued] → w.rd n i j = s.rd n i j
  lost : ∀ k, (w.lockLost (.ctx x) k || w.lockNext (.ctx x) k) =
    ((s.issued x 0x50).lockLost (.ctx x) k || (s.issued x 0x50).lockNext (.ctx x) k)
  goes : ∀ regs t, w.waitMet x m = some (regs, t) → s.waitGoes (t.endWait x m regs) x
  parks : s.waitParks (w.setCtxState x 3) x
  here : (w.setCtxState x 3).monHere x = some m

theorem State.waiting_first (s : State) (x : Fin 128) (kind : Nat) (rd rs : GReg) (arg : Nat) (d : Option Stamp) (due c : Nat) :
    s.FirstWait ((s.issued x 0x50).waiting x ((s.issued x 0x50).monitor x kind rd rs arg d due) c) x
      ((s.issued x 0x50).monitor x kind rd rs arg d due) kind rd rs arg where
  kind := rfl
  rd := rfl
  opnd := s.issued_g x 0x50 x rs
  arg := rfl
  losses := by rw [State.waiting_dom]; rfl
  clock := State.waiting_waitClock ..
  evq := by rw [State.waiting_ctx]; exact s.issued_evq x 0x50 x
  regs n i j h := (State.waiting_rd _ _ _ _ n i j).trans (s.issued_rd x 0x50 n i j h)
  lost k := by rw [State.waiting_lockLost, State.waiting_lockNext]
  goes _ _ h := State.waiting_goes h
  parks := (State.waiting_parks (s.issued_ilvl x 0x50 x) (s.issued_pc x 0x50 x)).1
  here := (State.waiting_parks (s.issued_ilvl x 0x50 x) (s.issued_pc x 0x50 x)).2

section
variable {s : State} {x : Fin 128} {rd rs : GReg} {arg : BitVec 12} {fits : Bool}

/-- TIME, EVENT, MBOX and LOCK of a local lock wait without a deadline. -/
theorem State.wait_plain {kind : Nat} (h : s.starts x 0x50 = true) (hm : s.monHere x = none) (hf : fits = true) (ht : arg.toNat < 2048)
    (h1 : kind ≠ 1) (h2 : kind ≠ 2) (h4 : kind = 4 → s.selFitted (arg.toNat % 64) = true) (h5 : kind ≠ 5 ∨ arg.toNat < 256) :
    ∃ w m, s.wait x kind rd rs arg fits = w.judgeWait x m ∧ s.FirstWait w x m kind rd rs arg.toNat ∧ m.deadline = none := by
  have inside : ¬((kind = 2 ∧ s.domains ≤ arg.toNat) ∨ (kind = 4 ∧ !s.selFitted (arg.toNat % 64))) := by
    rintro (⟨h, -⟩ | ⟨h, hs⟩)
    · exact h2 h
    · simp [h4 h] at hs
  exact ⟨_, _, State.wait_eq h hf hm ht inside (State.newMonitor_plain h1 h2 h5), s.waiting_first .., rfl⟩

theorem State.wait_delay (h : s.starts x 0x50 = true) (hm : s.monHere x = none) (hf : fits = true) (ht : arg.toNat < 2048)
    (hd : (s.g x rs).toNat < 2 ^ 31) :
    ∃ w m, s.wait x 1 rd rs arg fits = w.judgeWait x m ∧ s.FirstWait w x m 1 rd rs arg.toNat ∧
      m.deadline = some (toS (((s.issued x 0x50).waitClock x).toNat + 16 * (s.g x rs).toNat)) := by
  refine ⟨_, _, State.wait_eq h hf hm ht (by simp) (State.newMonitor_delay (by rw [State.issued_g]; exact hd)), s.waiting_first .., ?_⟩
  refine congrArg (fun w : Word => some (toS (((s.issued x 0x50).waitClock x).toNat + 16 * w.toNat))) ?_
  exact s.issued_g ..

theorem State.domains_le (s : State) : s.domains ≤ 16 := by
  unfold State.domains State.tiles
  cases s.variant <;> decide

theorem State.issued_cycleLen (s : State) (x op d : Nat) : (s.issued x op).cycleLen d = s.cycleLen d := by
  unfold State.cycleLen State.npc State.fld State.flag
  rw [State.issued_rd _ _ _ _ _ _ (by decide), State.issued_rd _ _ _ _ _ _ (by decide)]

/-- An ANGLE within the cycle has its crossing ahead. -/
theorem State.wait_angle (h : s.starts x 0x50 = true) (hm : s.monHere x = none) (hf : fits = true) (hd : arg.toNat < s.domains) :
    ∃ w m, s.wait x 2 rd rs arg fits = w.judgeWait x m ∧ s.FirstWait w x m 2 rd rs arg.toNat ∧ m.deadline = none ∧
      ((s.g x rs).toNat * 65536 < s.cycleLen arg.toNat → w.angleMet m = false) := by
  have dom : arg.toNat % 16 = arg.toNat := Nat.mod_eq_of_lt (Nat.lt_of_lt_of_le hd s.domains_le)
  have ht : arg.toNat < 2048 := by have := s.domains_le; omega
  have inside : ¬((2 = 2 ∧ s.domains ≤ arg.toNat) ∨ (2 = 4 ∧ !s.selFitted (arg.toNat % 64))) := by omega
  have monitor := (s.issued x 0x50).newMonitor_angle x arg.toNat rd rs rfl
  by_cases hl : (s.g x rs).toNat * 65536 < s.cycleLen arg.toNat
  · rw [dom, State.issued_g, State.issued_cycleLen, if_pos hl] at monitor
    refine ⟨_, _, State.wait_eq h hf hm ht inside monitor, s.waiting_first .., rfl, fun _ => ?_⟩
    rw [State.waiting_angleMet, State.monitor_angleMet, dom]
    exact decide_eq_false (Nat.not_le.mpr (lt_nextAbove (by omega)))
  · rw [dom, State.issued_g, State.issued_cycleLen, if_neg hl] at monitor
    exact ⟨_, _, State.wait_eq h hf hm ht inside monitor, s.waiting_first .., rfl, fun h => absurd h hl⟩

end

/-! ## How each WAIT goes on or parks -/

section
variable {s w : State} {x : Fin 128} {m : Monitor} {kind arg : Nat} {rd rs : GReg}

/-- A condition that holds ends the WAIT with the registers it gives. -/
theorem State.FirstWait.met (f : s.FirstWait w x m kind rd rs arg) {v : Word} {t : State}
    (h : w.waitMet x m = some ([(m.rd, v)], t)) :
    w.judgeWait x m = t.endWait x m [(m.rd, v)] ∧ s.waitGoes (t.endWait x m [(m.rd, v)]) x ∧ (t.endWait x m [(m.rd, v)]).g x rd = v :=
  ⟨State.judgeWait_met h, f.goes _ _ h, by rw [← f.rd]; exact State.endWait_one ..⟩

/-- One that does not parks its context. -/
theorem State.FirstWait.unmet (f : s.FirstWait w x m kind rd rs arg) (h : w.waitMet x m = none) (hd : m.kind = 1 ∨ m.deadline = none) :
    w.judgeWait x m = w.setCtxState x 3 ∧ s.waitParks (w.setCtxState x 3) x :=
  ⟨State.judgeWait_parks h hd, f.parks⟩

theorem State.FirstWait.domState (f : s.FirstWait w x m kind rd rs arg) (d : Nat) : w.domState d = s.domState d :=
  congrArg (getF · 0 3) (f.regs .domStat d 0 (by decide))

theorem State.FirstWait.go (f : s.FirstWait w x m kind rd rs arg) (b : Nat) : w.go b = s.go b :=
  congrArg (getB · 0) (f.regs .mbCtrl b 0 (by decide))

theorem State.FirstWait.boxMine (f : s.FirstWait w x m kind rd rs arg) (a : Nat) : w.boxMine x a = s.boxMine x a := by
  unfold State.boxMine State.isSender State.isReceiver State.isBoxCtx State.boxCtx State.fld State.flag
  simp only [f.regs _ _ _ (show RegName.mbCfg ∉ [RegName.govIsl, .govWakeCnt, .engIssue, .ctxIssued] by decide)]

end

section
variable {s : State} {x : Fin 128} {rd rs : GReg} {arg : BitVec 12}

theorem exec_waitTime (h : s.starts x 0x50 = true) (hm : s.monHere x = none) :
    ((ns32 ((s.issued x 0x50).waitClock x) - s.g x rs).toNat < 2 ^ 31 →
      ∃ t, exec (.waitTime x rd rs 0) s = .next t ∧ s.waitGoes t x ∧ t.g x rd = 0) ∧
    (2 ^ 31 ≤ (ns32 ((s.issued x 0x50).waitClock x) - s.g x rs).toNat →
      ∃ t, exec (.waitTime x rd rs 0) s = .next t ∧ s.waitParks t x) := by
  obtain ⟨w, m, eq, f, hd⟩ := State.wait_plain (kind := 0) (rd := rd) (rs := rs) (arg := 0) h hm rfl (by decide) (by decide) (by decide)
    (fun h => absurd h (by decide)) (.inl (by decide))
  have acts : exec (.waitTime x rd rs 0) s = .next (w.judgeWait x m) := congrArg Host.Outcome.next eq
  have cond := State.waitMet_time (s := w) (x := x) f.kind
  rw [f.clock, f.opnd] at cond
  rw [acts]
  refine ⟨fun ht => ?_, fun ht => ?_⟩
  · obtain ⟨judged, goes, g⟩ := f.met (cond.trans (if_pos ht))
    exact ⟨_, congrArg _ judged, goes, g⟩
  · obtain ⟨judged, parks⟩ := f.unmet (cond.trans (if_neg (Nat.not_lt.mpr ht))) (.inr hd)
    exact ⟨_, congrArg _ judged, parks⟩

theorem exec_waitDelay (h : s.starts x 0x50 = true) (hm : s.monHere x = none) :
    (s.g x rs = 0 → ∃ t, exec (.waitDelay x rd rs 0) s = .next t ∧ s.waitGoes t x ∧ t.g x rd = 0) ∧
    (s.g x rs ≠ 0 → (s.g x rs).toNat < 2 ^ 31 → ((s.issued x 0x50).waitClock x).toNat + 16 * (s.g x rs).toNat < 2 ^ 64 →
      ∃ t, exec (.waitDelay x rd rs 0) s = .next t ∧ s.waitParks t x ∧
        (t.monHere x).bind (·.deadline) = some (toS (((s.issued x 0x50).waitClock x).toNat + 16 * (s.g x rs).toNat))) := by
  have first : (s.g x rs).toNat < 2 ^ 31 → ∃ w m, exec (.waitDelay x rd rs 0) s = .next (w.judgeWait x m) ∧
      s.FirstWait w x m 1 rd rs 0 ∧ m.deadline = some (toS (((s.issued x 0x50).waitClock x).toNat + 16 * (s.g x rs).toNat)) := fun hd => by
    obtain ⟨w, m, eq, f, hd⟩ := State.wait_delay (arg := 0) (rd := rd) h hm rfl (by decide) hd
    exact ⟨w, m, congrArg Host.Outcome.next eq, f, hd⟩
  refine ⟨fun h0 => ?_, fun h0 hl hr => ?_⟩
  · obtain ⟨w, m, acts, f, hd⟩ := first (by rw [h0]; decide)
    rw [h0] at hd
    have cond := State.waitMet_delay (s := w) (x := x) f.kind
    rw [f.clock, hd] at cond
    have passed : ((some (toS (((s.issued x 0x50).waitClock x).toNat + 16 * (0 : Word).toNat))).getD 0).toNat ≤
        ((s.issued x 0x50).waitClock x).toNat := Nat.mod_le _ _
    obtain ⟨judged, goes, g⟩ := f.met (cond.trans (if_pos passed))
    exact ⟨_, acts.trans (congrArg _ judged), goes, g⟩
  · obtain ⟨w, m, acts, f, hd⟩ := first hl
    have cond := State.waitMet_delay (s := w) (x := x) f.kind
    rw [f.clock, hd] at cond
    have positive : 0 < (s.g x rs).toNat := Nat.pos_of_ne_zero (fun e => h0 (BitVec.eq_of_toNat_eq e))
    have ahead : ¬((some (toS (((s.issued x 0x50).waitClock x).toNat + 16 * (s.g x rs).toNat))).getD 0).toNat ≤
        ((s.issued x 0x50).waitClock x).toNat := by
      have exact' : (toS (((s.issued x 0x50).waitClock x).toNat + 16 * (s.g x rs).toNat)).toNat = _ := Nat.mod_eq_of_lt hr
      rw [Option.getD_some, exact']
      omega
    obtain ⟨judged, parks⟩ := f.unmet (cond.trans (if_neg ahead)) (.inl f.kind)
    refine ⟨_, acts.trans (congrArg _ judged), parks, ?_⟩
    rw [f.here]
    exact hd

theorem exec_waitAngle (h : s.starts x 0x50 = true) (hm : s.monHere x = none) (hd : arg.toNat < s.domains) :
    (s.domState arg.toNat ≠ 3 → ∃ t, exec (.waitAngle x rd rs arg) s = .next t ∧ s.waitGoes t x ∧ t.g x rd = 2) ∧
    (s.domState arg.toNat = 3 → (s.g x rs).toNat * 65536 < s.cycleLen arg.toNat →
      ∃ t, exec (.waitAngle x rd rs arg) s = .next t ∧ s.waitParks t x) := by
  have dom : arg.toNat < 16 := Nat.lt_of_lt_of_le hd s.domains_le
  have fits : decide (getF arg 0 11 < 16) = true := decide_eq_true (Nat.lt_of_le_of_lt (Nat.mod_le _ _) dom)
  obtain ⟨w, m, eq, f, hn, far⟩ := State.wait_angle (rd := rd) (rs := rs) h hm fits hd
  have acts : exec (.waitAngle x rd rs arg) s = .next (w.judgeWait x m) := congrArg Host.Outcome.next eq
  have cond := State.waitMet_angle (s := w) (x := x) f.kind
  rw [f.losses, f.domState, f.arg, Nat.mod_eq_of_lt dom] at cond
  rw [acts]
  refine ⟨fun h3 => ?_, fun h3 hl => ?_⟩
  · obtain ⟨judged, goes, g⟩ := f.met (cond.trans (if_pos (.inl h3)))
    exact ⟨_, congrArg _ judged, goes, g⟩
  · have unmet : w.waitMet x m = none := by
      rw [cond, if_neg (by simp [h3]), far hl]
      rfl
    obtain ⟨judged, parks⟩ := f.unmet unmet (.inr hn)
    exact ⟨_, congrArg _ judged, parks⟩

theorem exec_waitEvent (h : s.starts x 0x50 = true) (hm : s.monHere x = none) :
    (∀ v tag r, (s.ctx x).evq = (v, tag) :: r → ∃ t, exec (.waitEvent x rd 0 0) s = .next t ∧ s.waitGoes t x ∧ t.g x rd = v ∧
      t.g x (rd + 1) = tag ∧ (t.ctx x).evq = r) ∧
    ((s.ctx x).evq = [] → ∃ t, exec (.waitEvent x rd 0 0) s = .next t ∧ s.waitParks t x) := by
  obtain ⟨w, m, eq, f, hd⟩ := State.wait_plain (kind := 3) (rd := rd) (rs := 0) (arg := 0) h hm rfl (by decide) (by decide) (by decide)
    (fun h => absurd h (by decide)) (.inl (by decide))
  have acts : exec (.waitEvent x rd 0 0) s = .next (w.judgeWait x m) := congrArg Host.Outcome.next eq
  rw [acts, ← f.evq]
  refine ⟨fun v tag r hq => ?_, fun hq => ?_⟩
  · have met := State.waitMet_event (s := w) (x := x) f.kind hq
    obtain ⟨first, second⟩ := (w.onCtx x (fun c => { c with evq := r })).endWait_two x m m.rd v tag
    rw [f.rd] at first second met
    refine ⟨_, congrArg _ (State.judgeWait_met met), f.goes _ _ met, first, second, ?_⟩
    rw [State.endWait_evq, State.ctx_onCtx_self]
  · obtain ⟨judged, parks⟩ := f.unmet (State.waitMet_noEvent f.kind hq) (.inr hd)
    exact ⟨_, congrArg _ judged, parks⟩

theorem exec_waitMbox (h : s.starts x 0x50 = true) (hm : s.monHere x = none) (ha : arg.toNat < 128) (hs : arg.toNat % 64 < 18) :
    (s.boxMine x arg.toNat = false → ∃ t, exec (.waitMbox x rd 0 arg) s = .next t ∧ s.waitGoes t x ∧ t.g x rd = 0x24) ∧
    (s.boxMine x arg.toNat = true → s.go (waitBox arg.toNat) ≠ arg.toNat.testBit 6 →
      ∃ t, exec (.waitMbox x rd 0 arg) s = .next t ∧ s.waitGoes t x ∧ t.g x rd = 0) ∧
    (s.boxMine x arg.toNat = true → s.go (waitBox arg.toNat) = arg.toNat.testBit 6 →
      ∃ t, exec (.waitMbox x rd 0 arg) s = .next t ∧ s.waitParks t x) := by
  have field : getF arg 0 11 = arg.toNat := Nat.mod_eq_of_lt (Nat.lt_trans ha (by decide))
  have sel : getF arg 0 6 = arg.toNat % 64 := rfl
  have fits : (decide (getF arg 0 11 < 128) && decide (getF arg 0 6 < 22) && (0 : GReg) == 0) = true := by
    rw [field, sel, decide_eq_true ha, decide_eq_true (by omega)]
    rfl
  obtain ⟨w, m, eq, f, hd⟩ := State.wait_plain (kind := 4) (rd := rd) (rs := 0) h hm fits (by omega) (by decide) (by decide)
    (fun _ => decide_eq_true (.inl hs)) (.inl (by decide))
  have acts : exec (.waitMbox x rd 0 arg) s = .next (w.judgeWait x m) := congrArg Host.Outcome.next eq
  have cond := State.waitMet_box (s := w) (x := x) f.kind
  rw [f.go, f.boxMine, f.arg] at cond
  rw [acts]
  refine ⟨fun hb => ?_, fun hb hg => ?_, fun hb hg => ?_⟩
  · obtain ⟨judged, goes, g⟩ := f.met (cond.trans (if_pos (by simp [hb])))
    exact ⟨_, congrArg _ judged, goes, g⟩
  · obtain ⟨judged, goes, g⟩ := f.met (cond.trans ((if_neg (by simp [hb])).trans (if_pos (by simpa using hg))))
    exact ⟨_, congrArg _ judged, goes, g⟩
  · obtain ⟨judged, parks⟩ := f.unmet (cond.trans ((if_neg (by simp [hb])).trans (if_neg (by simp [hg])))) (.inr hd)
    exact ⟨_, congrArg _ judged, parks⟩

theorem exec_waitLock (h : s.starts x 0x50 = true) (hm : s.monHere x = none) (ha : arg.toNat < 256) :
    let lost := (s.issued x 0x50).lockLost (.ctx x) arg.toNat || (s.issued x 0x50).lockNext (.ctx x) arg.toNat
    (s.rd .lockOwner arg.toNat = 0 → lost = false → ∃ t, exec (.waitLock x rd 0 arg) s = .next t ∧ s.waitGoes t x ∧
      t.g x rd = 0 ∧ t.rd .lockOwner arg.toNat = toW (5 + x * 256)) ∧
    (s.rd .lockOwner arg.toNat = 0 → lost = true → ∃ t, exec (.waitLock x rd 0 arg) s = .next t ∧ s.waitParks t x ∧
      t.rd .lockOwner arg.toNat = 0) ∧
    (s.rd .lockOwner arg.toNat ≠ 0 → s.rd .lockOwner arg.toNat ≠ toW (5 + x * 256) →
      ∃ t, exec (.waitLock x rd 0 arg) s = .next t ∧ s.waitParks t x ∧ t.rd .lockOwner arg.toNat = s.rd .lockOwner arg.toNat) := by
  intro lost
  have field : getF arg 0 11 = arg.toNat := Nat.mod_eq_of_lt (Nat.lt_trans ha (by decide))
  have fits : (decide (getF arg 0 11 < 320) && (0 : GReg) == 0) = true := by
    rw [field, decide_eq_true (by omega)]
    rfl
  obtain ⟨w, m, eq, f, hd⟩ := State.wait_plain (kind := 5) (rd := rd) (rs := 0) h hm fits (by omega) (by decide) (by decide)
    (fun h => absurd h (by decide)) (.inr ha)
  have acts : exec (.waitLock x rd 0 arg) s = .next (w.judgeWait x m) := congrArg Host.Outcome.next eq
  have cond := State.waitMet_lock (s := w) (x := x) f.kind (by rw [f.arg]; exact ha)
  have owner : w.rd .lockOwner arg.toNat = s.rd .lockOwner arg.toNat := f.regs _ _ _ (by decide)
  rw [f.arg, State.lockRead_eq (m := .ctx x) (fun _ => nofun)] at cond
  dsimp only at cond
  rw [f.lost, owner] at cond
  have parked : (w.setCtxState x 3).rd .lockOwner arg.toNat = s.rd .lockOwner arg.toNat :=
    (State.setCtxState_rd _ _ _ (by decide) _ _).trans owner
  have stays : ¬((s.rd .lockOwner arg.toNat = 0 ∧ lost = false) ∨ s.rd .lockOwner arg.toNat = lockCode (.ctx x)) → ∃ t,
      exec (.waitLock x rd 0 arg) s = .next t ∧ s.waitParks t x ∧ t.rd .lockOwner arg.toNat = s.rd .lockOwner arg.toNat := fun hn => by
    rw [if_neg hn, if_neg (by decide)] at cond
    obtain ⟨judged, parks⟩ := f.unmet cond (.inr hd)
    exact ⟨_, acts.trans (congrArg _ judged), parks, parked⟩
  have code : lockCode (.ctx x) ≠ 0 := lockCode_ne_zero (fun _ => nofun)
  refine ⟨fun ho hl => ?_, fun ho hl => ?_, fun ho hn => ?_⟩
  · rw [if_pos (if_pos (.inl ⟨ho, hl⟩)), if_pos ⟨ho, hl⟩] at cond
    obtain ⟨judged, goes, g⟩ := f.met cond
    refine ⟨_, acts.trans (congrArg _ judged), goes, g, ?_⟩
    rw [State.endWait_rd _ _ _ _ (by decide), State.rd_wr_self]
    rfl
  · obtain ⟨t, next, parks, same⟩ := stays (not_or.mpr ⟨fun h => by simp [hl] at h, fun h => code (h.symm.trans ho)⟩)
    exact ⟨t, next, parks, same.trans ho⟩
  · exact stays (not_or.mpr ⟨fun h => ho h.1, hn⟩)

end

/-! ## A parked WAIT ends -/

/-- A change that leaves the PC of its context leaves every PC. -/
theorem State.onCtx_pc (s : State) (x : Nat) (f : Ctx → Ctx) (hf : ∀ c, (f c).pc = c.pc) (y : Nat) :
    ((s.onCtx x f).ctx y).pc = (s.ctx y).pc := by
  by_cases hy : y = x
  · subst hy
    rw [State.ctx_onCtx_self, hf]
  · exact congrArg Ctx.pc (SMap.at_set_ne _ _ _ _ _ hy)

theorem State.wr_ctx (s : State) (n : RegName) (w : Word) (i j y : Nat) : (s.wr n w i j).ctx y = s.ctx y := rfl
theorem State.slockQ_pc (s : State) (q : SMap (List (Nat × Nat))) (y : Nat) : (State.ctx { s with slockQ := q } y).pc = (s.ctx y).pc := rfl
theorem State.setFld_ctx (s : State) (n : RegName) (lo len v i j y : Nat) : (s.setFld n lo len v i j).ctx y = s.ctx y := rfl
theorem State.bumpW_ctx (s : State) (n : RegName) (lo len i j k y : Nat) : (s.bumpW n lo len i j k).ctx y = s.ctx y := rfl

theorem State.lockReply_pc (s : State) (k x res y : Nat) : ((s.lockReply k x res).ctx y).pc = (s.ctx y).pc := by
  unfold State.lockReply
  extract_lets wanted t
  refine (State.onCtx_pc _ _ _ ?_ y).trans ?_
  · exact fun _ => rfl
  have same : t.ctx y = s.ctx y := by
    unfold t
    split
    · exact State.wr_ctx ..
    · rfl
  rw [same]

theorem State.mlSend_ctx (s : State) (ty dst : Nat) (payload : List Word) (y : Nat) :
    (s.mlSend ty dst false payload).ctx y = s.ctx y := by
  unfold State.mlSend
  dsimp only
  split
  · unfold State.mlRoute
    rw [if_neg Bool.false_ne_true]
    split
    · rfl
    · split <;> rfl
  · split <;> rfl

theorem State.answerLock_pc (s : State) (k dev x res y : Nat) : ((s.answerLock k dev x res).ctx y).pc = (s.ctx y).pc := by
  unfold State.answerLock
  split
  · exact s.lockReply_pc ..
  · rw [State.mlSend_ctx]

/-- Leaving the queue of a system lock leaves every PC. -/
theorem State.askLock_release_pc (s : State) (k x y : Nat) : ((s.askLock k .release x).ctx y).pc = (s.ctx y).pc := by
  have granted : ∀ t : State, ((t.grantNext k).ctx y).pc = (t.ctx y).pc := fun t => by
    unfold State.grantNext
    split
    · rfl
    · rw [State.answerLock_pc, State.wr_ctx]
      exact State.slockQ_pc ..
  unfold State.askLock
  split
  · unfold State.serveLock
    dsimp only
    split
    · exact granted s
    · split
      · exact State.slockQ_pc ..
      · rw [State.setFld_ctx, State.setFld_ctx, State.bumpW_ctx]
  · split
    · rfl
    · rw [State.mlSend_ctx]
      split <;> rfl

section
variable {s : State} {x : Fin 128} {ts : Stamp} {m : Monitor}

theorem exec_waitWake (hp : s.pstate < 3) (hw : s.canWake x = true) (hm : s.monHere x = some m) {regs : List (GReg × Word)} {u : State}
    (hu : (s.reachIn (islEngine (x / 32)) ts).waitMet x m = some (regs, u)) : ∃ t, exec (.waitWake x ts) s = .next t ∧ s.waitGoes t x := by
  have acts : exec (.waitWake x ts) s = .next ((u.wakeIsland (x / 32)).endWait x m regs) := by
    have here : (s.reachIn (islEngine (x / 32)) ts).monHere x = some m := hm
    refine congrArg Host.Outcome.next ((State.happens_eq hp hw _).trans ?_)
    simp only [here, hu]
  obtain ⟨r, b, woken, -⟩ := u.wakeIsland_spec (x / 32)
  have ctx : (u.wakeIsland (x / 32)).ctx x = u.ctx x := by rw [woken]; rfl
  obtain ⟨state, pc, prog⟩ := (u.wakeIsland (x / 32)).endWait_goes x m regs
  refine ⟨_, acts, state, pc.trans ?_, prog⟩
  rw [ctx, State.waitMet_pc hu]
  rfl

theorem exec_waitTimeout (hp : s.pstate < 3) (hw : s.canWake x = true) (hm : s.monHere x = some m)
    (hu : (s.reachIn (islEngine (x / 32)) ts).waitMet x m = none) (ht : (s.reachIn (islEngine (x / 32)) ts).timedOut x m = true) :
    ∃ t, exec (.waitTimeout x ts) s = .next t ∧ t.ctxState x = 2 ∧ (t.ctx x).pc = (s.ctx x).pc + 4 ∧
      (m.kind ≠ 3 → t.g x m.rd = 1) ∧ (m.kind = 3 → t.g x m.rd = 0 ∧ t.g x (m.rd + 1) = 0xF) := by
  have acts : exec (.waitTimeout x ts) s = .next ((s.reachIn (islEngine (x / 32)) ts).timeoutWait x m) := by
    have here : (s.reachIn (islEngine (x / 32)) ts).monHere x = some m := hm
    refine congrArg Host.Outcome.next ((State.happens_eq hp hw _).trans ?_)
    simp only [here, if_pos ht, State.judgeWait_timeout hu ht]
  refine ⟨_, acts, ?_⟩
  unfold State.timeoutWait
  extract_lets v
  have pc : (v.ctx x).pc = (s.ctx x).pc := by
    unfold v
    split
    · exact State.askLock_release_pc ..
    · rfl
  obtain ⟨state, next, -⟩ := v.endWait_goes x m (timeoutRegs m)
  refine ⟨state, next.trans (by rw [pc]), fun hk => ?_, fun hk => ?_⟩
  · rw [timeoutRegs, if_neg hk]
    exact State.endWait_one ..
  · rw [timeoutRegs, if_pos hk]
    exact State.endWait_two ..

end

/-- Settles O9: each condition by its own lemma, at the first issue and when parked. -/
theorem waits : Obligations.Waits := by
  unfold Obligations.Waits
  refine ⟨fun x rd rs arg s hm => ?issue, fun x ts m s hp hw hm => ⟨fun regs u hu => exec_waitWake hp hw hm hu,
    fun hu ht => exec_waitTimeout hp hw hm hu ht⟩⟩
  case issue =>
    intro a goes parks u now lost h
    obtain ⟨timeGoes, timeParks⟩ := exec_waitTime (rd := rd) (rs := rs) h hm
    obtain ⟨delayGoes, delayParks⟩ := exec_waitDelay (rd := rd) (rs := rs) h hm
    obtain ⟨eventGoes, eventParks⟩ := exec_waitEvent (rd := rd) h hm
    exact ⟨timeGoes, timeParks, delayGoes, delayParks, fun hd => (exec_waitAngle h hm hd).1, fun hd => (exec_waitAngle h hm hd).2,
      eventGoes, eventParks, exec_waitMbox h hm, exec_waitLock h hm⟩

end Sys2Proof.Machine
end

section
/-! PROOFS. Words that no instruction spells, and microcode of a patch (R173, R216 to R218). -/

namespace Sys2Proof.Machine

section
variable (s : State) (x op y : Nat)

/-- An instruction that is counted and one that is charged as well differ in what waits to be settled. -/
theorem State.issued_of_countIssue : ∃ u, s.issued x op = { s.countIssue x op with unsettled := u } :=
  (s.countIssue x op).chargeOp_spec x op

theorem State.countIssue_pc : ((s.countIssue x op).ctx y).pc = (s.ctx y).pc := by
  obtain ⟨u, h⟩ := s.issued_of_countIssue x op
  have := s.issued_pc x op y
  rwa [h] at this

theorem State.countIssue_privOf : (s.countIssue x op).privOf y = s.privOf y := by
  obtain ⟨u, h⟩ := s.issued_of_countIssue x op
  have := s.issued_privOf x op y
  rwa [h] at this

theorem State.countIssue_gpr : (s.countIssue x op).gpr = s.gpr := by
  obtain ⟨_, _, _, _, _, _, _, h, -⟩ := s.countIssue_spec x op
  rw [h]

theorem State.countIssue_taskMem : (s.countIssue x op).taskMem = s.taskMem := by
  obtain ⟨_, _, _, _, _, _, _, h, -⟩ := s.countIssue_spec x op
  rw [h]

theorem State.countIssue_micro : (s.countIssue x op).micro = s.micro := by
  obtain ⟨_, _, _, _, _, _, _, h, -⟩ := s.countIssue_spec x op
  rw [h]

theorem State.countIssue_startOf (e o : Nat) (b : Bool) : (s.countIssue x op).startOf e o b = s.startOf e o b := by
  obtain ⟨_, _, _, _, _, _, _, h, -⟩ := s.countIssue_spec x op
  rw [h]
  rfl

theorem State.countIssue_isBase (e o : Nat) : (s.countIssue x op).isBase e o = s.isBase e o := by
  obtain ⟨_, _, _, _, _, _, _, h, -⟩ := s.countIssue_spec x op
  rw [h]
  rfl

end

/-- What a faulted instruction leaves. -/
def State.faulted (s t : State) (x code : Nat) : Prop :=
  (t.ctx x).fault = some { code := code, pc := (s.ctx x).pc, addr := 0 } ∧ (t.ctx x).pc = (s.ctx x).pc ∧ t.gpr = s.gpr ∧
    t.taskMem = s.taskMem

theorem State.countIssue_raiseFault (s : State) (x op code : Nat) : s.faulted ((s.countIssue x op).raiseFault x code) x code := by
  unfold State.faulted State.raiseFault
  rw [State.ctx_onCtx_self, State.onCtx_gpr, State.onCtx_taskMem, State.countIssue_gpr, State.countIssue_taskMem]
  dsimp only
  rw [State.countIssue_pc]
  exact ⟨rfl, rfl, rfl, rfl⟩

section
variable {s : State} {x : Fin 128} {word : Word}

/-- Where an undefined word is fetched it is counted, and faults or runs what its opcode starts. -/
theorem exec_illegal (hd : decodeTask x word = .illegal x word) (hc : s.canIssue x = true)
    (hf : s.accFault x .fetch (s.ctx x).pc.toNat 4 4 = none) : exec (.illegal x word) s = .next
      (match s.startOf (x / 32) (fOp word) (opListed (fOp word)) with
      | none => (s.countIssue x (fOp word)).raiseFault x fcIllegal
      | some a =>
        if !(opListed (fOp word) && s.isBase (x / 32) (fOp word)) then State.microRun 8192 (s.countIssue x (fOp word)) x a []
        else (s.countIssue x (fOp word)).raiseFault x fcIllegal) := by
  refine congrArg Host.Outcome.next ((if_pos hd).trans ?_)
  unfold State.issue
  rw [if_neg (by simp [hc])]
  dsimp only
  rw [State.countIssue_fetch, hf, State.countIssue_startOf, State.countIssue_isBase]
  rfl

/-- A microword above the context's privilege faults with PRIV. -/
theorem State.microRun_priv {t : State} {y a fuel : Nat} {w0 w1 w2 w3 : Word} {r : List Word} (calls : List Nat)
    (hm : t.micro.at [] (8192 * (y / 32) + a) = w0 :: w1 :: w2 :: w3 :: r) (hp : getF w1 26 2 < t.privOf y) :
    State.microRun (fuel + 1) t y a calls = t.raiseFault y fcPriv := by
  rw [State.microRun, hm]
  exact if_pos hp

/-- A place of the patch area that no patch has written faults with ILLEGAL. -/
theorem State.microRun_unwritten {t : State} {y a fuel : Nat} (calls : List Nat)
    (hm : t.micro.at [] (8192 * (y / 32) + a) = []) (ha : 0x1C00 ≤ a) :
    State.microRun (fuel + 1) t y a calls = t.raiseFault y fcIllegal := by
  rw [State.microRun, hm]
  exact if_pos ha

end

/-- Settles O14: the word faults where its opcode starts nothing of its own, and else as its first microword does. -/
theorem illegalWords : Obligations.IllegalWords := by
  unfold Obligations.IllegalWords
  intro x word s hd e op
  refine ⟨⟨_, rfl⟩, fun hc hf => ?_⟩
  intro faults
  have acts := exec_illegal hd hc hf
  have raised {code : Nat} {t : State} (h : exec (.illegal x word) s = .next t) (ht : t = (s.countIssue x op).raiseFault x code) :
      faults code := ⟨t, h, ht ▸ s.countIssue_raiseFault x op code⟩
  refine ⟨fun h => raised acts ?base, fun a hs hb => ⟨fun w0 w1 w2 w3 r hm hp => raised acts ?priv, fun hm ha => raised acts ?unwritten⟩⟩
  case base =>
    obtain hn | ⟨hl, hb⟩ := h
    · rw [show s.startOf (x / 32) (fOp word) (opListed (fOp word)) = none from hn]
      rfl
    · split
      · rfl
      · exact if_neg (by simp [op, e] at hl hb; simp [hl, hb])
  all_goals
    have patched : (!(opListed (fOp word) && s.isBase (x / 32) (fOp word))) = true := by
      cases hl : opListed (fOp word)
      · rfl
      · rw [show s.isBase (x / 32) (fOp word) = false from hb hl]
        rfl
    rw [show s.startOf (x / 32) (fOp word) (opListed (fOp word)) = some a from hs]
    refine (if_pos patched).trans ?_
  case priv => exact State.microRun_priv [] (by rw [State.countIssue_micro]; exact hm) (by rw [State.countIssue_privOf]; exact hp)
  case unwritten => exact State.microRun_unwritten [] (by rw [State.countIssue_micro]; exact hm) ha

end Sys2Proof.Machine
end

section
/-! PROOFS. The instructions that ask other units (R159, R176, R180 to R186), and the mailboxes and locks of a task (R184, R185). -/

namespace Sys2Proof.Machine

/-! ## Requests to other units -/

/-- An instruction whose rest is known does that rest on the state in which it is counted. -/
theorem exec_issue {i : Instr} {s : State} {x op : Nat} {fits : Bool} {f : State → State} {t : State}
    (hi : exec i s = .next (s.issue x op fits f)) (h : s.starts x op = true) (hf : fits = true) (ht : f (s.issued x op) = t) :
    exec i s = .next t :=
  hi.trans (congrArg Host.Outcome.next ((State.issue_eq h hf f).trans ht))

section
variable {x : Fin 128} {rd rs : GReg} {imm : BitVec 16} {s : State}

theorem exec_regrd (h : s.starts x 0x3E = true) (hr : (s.issued x 0x3E).regFault x (s.ea x rs imm).toNat = none) :
    exec (.regrd x rd rs imm) s = .next (((s.issued x 0x3E).busRead (.ctx x) (s.ea x rs imm).toNat 4).2.await x
      [(rd, ((s.issued x 0x3E).busRead (.ctx x) (s.ea x rs imm).toNat 4).1)]) := by
  refine exec_issue rfl h rfl ?_
  dsimp only
  rw [State.issued_ea, hr]

theorem exec_regwr (h : s.starts x 0x3F = true) (hp : s.privOf x < 2) (hr : (s.issued x 0x3F).regFault x (s.ea x rs imm).toNat = none) :
    exec (.regwr x rd rs imm) s = .next
      (((s.issued x 0x3F).busWrite (.ctx x) (s.ea x rs imm).toNat 4 (s.g x rd)).await x []) := by
  refine exec_issue rfl h rfl ?_
  dsimp only
  rw [State.issued_privOf, if_neg (by omega), State.issued_ea, hr, State.issued_g]

theorem exec_regwr_priv (h : s.starts x 0x3F = true) (hp : 2 ≤ s.privOf x) :
    exec (.regwr x rd rs imm) s = .next ((s.issued x 0x3F).raiseFault x fcPriv) := by
  refine exec_issue rfl h rfl ?_
  dsimp only
  rw [State.issued_privOf, if_pos hp]

theorem exec_post (h : s.starts x 0x55 = true) (hi : imm.toNat < 128) :
    exec (.post x rd rs imm) s = .next (((s.issued x 0x55).postTo x imm.toNat (s.g x rs)).2.await x
      [(rd, toW ((s.issued x 0x55).postTo x imm.toNat (s.g x rs)).1)]) := by
  refine exec_issue rfl h (decide_eq_true hi) ?_
  dsimp only
  rw [State.issued_g]

theorem exec_arm (h : s.starts x 0x60 = true) (hf : s.accFault x .load (s.g x rs).toNat 24 4 = none)
    (hb : s.badWordIn (s.g x rs).toNat 24 = none) :
    let r := (s.issued x 0x60).armDecision (.ctx x) ((s.issued x 0x60).armBlock (s.g x rs).toNat)
    exec (.arm x rd rs) s = .next (r.2.await x [(rd, armWord r.1.1 (if r.1.1 = stOk then r.1.2.toNat else 0))] true) := by
  refine exec_issue rfl h rfl ?_
  dsimp only
  rw [State.issued_g, State.reading_eq (by rw [State.issued_accFault]; exact hf) (by rw [State.issued_badWordIn]; exact hb)]

theorem exec_cancel (h : s.starts x 0x61 = true) :
    let r := (s.issued x 0x61).cancelDecision (.ctx x) (getF (s.g x rs) 0 16)
    exec (.cancel x rd rs) s = .next (r.2.await x [(rd, armWord r.1 (getF (s.g x rs) 0 16))] true) := by
  refine exec_issue rfl h rfl ?_
  dsimp only
  rw [State.issued_g]

theorem State.issued_domains (s : State) (x op : Nat) : (s.issued x op).domains = s.domains := by
  unfold State.domains State.tiles
  rw [State.issued_variant]

theorem exec_cancelFlush (h : s.starts x 0x61 = true) (hd : getF (s.g x rs) 0 4 < s.domains) :
    let u := s.issued x 0x61
    let own := (u.entriesOf (getF (s.g x rs) 0 4)).filter (fun i => u.cancellable i && u.eOwner i == x.val)
    exec (.cancelFlush x rd rs) s =
      .next ((own.foldl (fun v i => v.cancelEntry i) u).await x [(rd, armWord stOk (getF (s.g x rs) 0 16))] true) := by
  refine exec_issue rfl h rfl ?_
  dsimp only
  rw [State.issued_g, State.issued_domains, if_neg (by omega)]
  rfl

theorem exec_tilewr (h : s.starts x 0x68 = true) (hi : imm.toNat < 0x1000) (hm : (s.issued x 0x68).tileMine x (getF (s.g x rs) 0 6) = true)
    (ho : (s.issued x 0x68).tileOffOk x imm.toNat = true) (ha : imm.toNat % 4 = 0) : exec (.tilewr x rd rs imm) s =
      .next (((s.issued x 0x68).tileWrite x (getF (s.g x rs) 0 6) imm.toNat (s.g x rd)).advance x) := by
  refine exec_issue rfl h (decide_eq_true hi) ?_
  dsimp only
  rw [State.issued_g, State.issued_g, hm, ho, if_neg (by decide), if_neg (by omega)]

theorem exec_commit (h : s.starts x 0x69 = true) (hi : imm.toNat < 256) (hm : (s.issued x 0x69).tileMine x (getF (s.g x rs) 0 6) = true) :
    exec (.commit x rs imm) s = .next (((s.issued x 0x69).tileWrite x (getF (s.g x rs) 0 6)
      (RegKey.offset ⟨.tileCommit, 0, 0⟩ - 0x100000) (imm.setWidth 32)).advance x) := by
  refine exec_issue rfl h (decide_eq_true hi) ?_
  dsimp only
  rw [State.issued_g, hm, if_neg (by decide)]
  rfl

theorem exec_portx (h : s.starts x 0x70 = true) (hi : imm.toNat < 0x1000)
    (hm : getB ((s.issued x 0x70).cr .ctxPorts x) (getF imm 0 5) = true) :
    let r := (s.issued x 0x70).portx x (getF imm 0 5) (getF imm 5 6) (s.g x rs) (getB imm 11)
    exec (.portx x rd rs imm) s = .next (r.2.await x [(rd, toW r.1)] true) := by
  refine exec_issue rfl h (decide_eq_true hi) ?_
  dsimp only
  rw [State.issued_g, hm, if_neg (by decide)]

theorem exec_log (h : s.starts x 0x71 = true) (hs : (s.issued x 0x71).logsFor x (getF (s.g x rs) 0 17) = true) :
    exec (.log x rd rs) s = .next ((((s.issued x 0x71).keepEvent 5 (128 * getF (s.g x rs) 0 17 + x) (s.g x rd) 0).logEventOf
      { src := 5, sel := x, value := s.g x rd, ts := (s.issued x 0x71).waitClock x } (getF (s.g x rs) 0 17)).advance x) := by
  refine exec_issue rfl h rfl ?_
  dsimp only
  rw [State.issued_g, State.issued_g, if_pos hs]
  rfl

theorem exec_log_other (h : s.starts x 0x71 = true) (hs : (s.issued x 0x71).logsFor x (getF (s.g x rs) 0 17) = false) :
    exec (.log x rd rs) s = .next (((s.issued x 0x71).bump .ctxErrcnt 0 8 (x / 32) (x % 32)).advance x) := by
  refine exec_issue rfl h rfl ?_
  dsimp only
  rw [State.issued_g, if_neg (by simp [hs])]

end

/-- Settles O11: each request on the state in which it is counted. -/
theorem taskRequests : Obligations.TaskRequests := by
  unfold Obligations.TaskRequests
  intro x rd rs imm s
  exact ⟨exec_regrd, exec_regwr, exec_regwr_priv, exec_post, exec_arm, exec_cancel, exec_cancelFlush, exec_tilewr, exec_commit, exec_portx,
    exec_log, exec_log_other⟩

/-! ## Mailboxes of a task -/

theorem State.issued_selFitted (s : State) (x op sel : Nat) : (s.issued x op).selFitted sel = s.selFitted sel := by
  unfold State.selFitted State.linkCount
  rw [State.issued_variant]

section
variable {x : Fin 128} {rd rs : GReg} {imm : BitVec 16} {s : State}

theorem exec_mboxSend (hs : selOk imm = true) (hc : countOk imm = true) (hfit : s.selFitted (getF imm 0 6) = true) (h : s.starts x 0x72 = true)
    (hk : getF imm 14 2 = 0) (hf : s.accFault x .load (s.g x rs).toNat (4 * boxCount imm) 4 = none)
    (hb : s.badWordIn (s.g x rs).toNat (4 * boxCount imm) = none) :
    let u := s.issued x 0x72
    let b := boxSel (getF imm 0 6) true
    exec (.mboxSend x rd rs imm) s = .next (
      if !u.isSender (.ctx x) b then u.await x [(rd, toW stDenied)] true
      else if u.go b then u.await x [(rd, toW stBusy)] true
      else (((List.range (boxCount imm)).foldl (fun v i => v.writeData (.ctx x) b i (v.tm ((s.g x rs).toNat + 4 * i))) u).writeGo (.ctx x) b).await x
        [(rd, toW stOk)] true) := by
  refine exec_issue rfl h (by rw [hs, hc, hk]; rfl) ?_
  dsimp only
  rw [State.issued_selFitted, hfit, if_neg (by decide), State.issued_g,
    State.reading_eq (by rw [State.issued_accFault]; exact hf) (by rw [State.issued_badWordIn]; exact hb)]
  rfl

theorem exec_mboxRecv (hs : selOk imm = true) (hc : countOk imm = true) (hfit : s.selFitted (getF imm 0 6) = true) (h : s.starts x 0x72 = true)
    (hk : getF imm 14 2 = 1) (hf : s.accFault x .store (s.g x rs).toNat (4 * boxCount imm) 4 = none) :
    let u := s.issued x 0x72
    let b := boxSel (getF imm 0 6) false
    exec (.mboxRecv x rd rs imm) s = .next (
      if !u.isReceiver (.ctx x) b then u.await x [(rd, toW stDenied)] true
      else if !u.go b then u.await x [(rd, toW stBusy)] true
      else (((List.range (boxCount imm)).foldl (fun v i => v.setTm ((s.g x rs).toNat + 4 * i) (v.rd .mbData b i)) u).writeDone (.ctx x) b).await x
        [(rd, toW stOk)] true) := by
  refine exec_issue rfl h (by rw [hs, hc, hk]; rfl) ?_
  dsimp only
  rw [State.issued_selFitted, hfit, if_neg (by decide), State.issued_g, State.writing_eq (by rw [State.issued_accFault]; exact hf)]
  rfl

theorem exec_mboxPeek (hs : selOk imm = true) (hc : countOk imm = true) (hfit : s.selFitted (getF imm 0 6) = true) (h : s.starts x 0x72 = true)
    (hk : getF imm 14 2 = 2) (hr : rs = 0) (ha : (s.issued x 0x72).boxAge (boxSel (getF imm 0 6) false) < 65536) :
    let u := s.issued x 0x72
    let b := boxSel (getF imm 0 6) false
    exec (.mboxPeek x rd rs imm) s = .next (u.await x [(rd, toW ((if u.go b then 65536 else 0) + u.boxAge b))] true) := by
  refine exec_issue rfl h (by rw [hs, hc, hk, hr]; rfl) ?_
  dsimp only
  rw [State.issued_selFitted, hfit, if_neg (by decide), if_pos ha]
  cases (s.issued x 0x72).go (boxSel (getF imm 0 6) false) <;> rfl

end

/-! ## Local locks of a task -/

theorem State.await_ctx (s : State) (x : Nat) (regs : List (GReg × Word)) (unit : Bool) :
    (s.await x regs unit).ctx x = { s.ctx x with out := some { regs := regs, pc := (s.ctx x).pc + 4, unit := unit } } := by
  unfold State.await
  rw [State.ctx_onCtx_self]

theorem State.await_rd (s : State) (x : Nat) (regs : List (GReg × Word)) (unit : Bool) (n : RegName) (i j : Nat) :
    (s.await x regs unit).rd n i j = s.rd n i j := rfl
theorem State.advance_rd (s : State) (x : Nat) (n : RegName) (i j : Nat) : (s.advance x).rd n i j = s.rd n i j := rfl
theorem State.advance_fld (s : State) (x : Nat) (n : RegName) (lo len i j : Nat) : (s.advance x).fld n lo len i j = s.fld n lo len i j := rfl

theorem State.onlyRegs_ctx {s t : State} {l : List RegName} (h : s.onlyRegs t l) (y : Nat) : t.ctx y = s.ctx y := by
  rw [h.1]
  rfl

/-- A freed lock leaves every context. -/
theorem State.freeLock_ctx (s : State) (k y : Nat) : (s.freeLock k).ctx y = s.ctx y := by
  unfold State.freeLock
  extract_lets t
  split
  · obtain ⟨he, -⟩ := (t.setFlag .lockFreed (k % 32) true (k / 32)).raise_stirs 190
    rw [he]
    rfl
  · rfl

/-- LOCK of a local lock answers whether the context holds it then. -/
theorem exec_lock_local {x : Fin 128} {rd : GReg} {imm : BitVec 16} {s : State} (hi : imm.toNat < 256) (h : s.starts x 0x73 = true) :
    exec (.lock x rd imm) s = .next (((s.issued x 0x73).lockRead (.ctx x) imm.toNat).2.await x
      [(rd, ((s.issued x 0x73).lockRead (.ctx x) imm.toNat).1)] true) := by
  refine exec_issue rfl h (decide_eq_true (by omega)) ?_
  dsimp only
  rw [if_pos hi]

theorem exec_unlock_local {x : Fin 128} {imm : BitVec 16} {s : State} (hi : imm.toNat < 256) (h : s.starts x 0x74 = true) :
    exec (.unlock x imm) s = .next (((s.issued x 0x74).lockRelease (.ctx x) imm.toNat).advance x) := by
  refine exec_issue rfl h (decide_eq_true (by omega)) ?_
  dsimp only
  rw [if_pos hi]

/-- Settles O12: the mailboxes case by case; a lock by what its read and its release leave. -/
theorem taskMailboxesAndLocks : Obligations.TaskMailboxesAndLocks := by
  unfold Obligations.TaskMailboxesAndLocks
  refine ⟨fun x rd rs imm s => ?mailboxes, fun x rd imm s hi => ⟨fun h => ?lock, fun h => ?unlock⟩⟩
  case mailboxes =>
    intro u a n o b gives hs hc hfit h
    refine ⟨fun hk hf hb => ?send, fun hk hf => ?recv, exec_mboxPeek hs hc hfit h⟩
    case send =>
      have acts := exec_mboxSend (rd := rd) hs hc hfit h hk hf hb
      refine ⟨fun hp => acts.trans (congrArg _ (if_pos ?_)), fun hp hg => acts.trans (congrArg _ ((if_neg ?_).trans (if_pos hg))),
        fun hp hg => acts.trans (congrArg _ ((if_neg ?_).trans (if_neg ?_)))⟩
      · rw [hp]; rfl
      · rw [hp]; decide
      · rw [hp]; decide
      · rw [hg]; decide
    case recv =>
      have acts := exec_mboxRecv (rd := rd) hs hc hfit h hk hf
      refine ⟨fun hp => acts.trans (congrArg _ (if_pos ?_)), fun hp hg => acts.trans (congrArg _ ((if_neg ?_).trans (if_pos ?_))),
        fun hp hg => acts.trans (congrArg _ ((if_neg ?_).trans (if_neg ?_)))⟩
      · rw [hp]; rfl
      · rw [hp]; decide
      · rw [hg]; rfl
      · rw [hp]; decide
      · rw [hg]; decide
  case lock =>
    have same : ∀ k, (s.issued x 0x73).rd .lockOwner k = s.rd .lockOwner k := fun k => s.issued_rd x 0x73 _ _ _ (by decide)
    obtain ⟨-, owner, others⟩ := (s.issued x 0x73).lockRead_owner (m := .ctx x) (fun _ => nofun) imm.toNat
    have value := congrArg Prod.fst ((s.issued x 0x73).lockRead_eq (m := .ctx x) (fun _ => nofun) imm.toNat)
    rw [same] at owner value
    refine ⟨_, exec_lock_local hi h, fun h0 hl => ?_, fun hn => ?_, ?_, fun k hk => ?_⟩
    · exact (State.await_rd ..).trans (owner.trans (if_pos ⟨h0, hl⟩))
    · refine (State.await_rd ..).trans (owner.trans ?_)
      exact if_neg (fun ⟨h0, hl⟩ => hn.elim (fun hne => hne h0) (fun ht => Bool.false_ne_true (hl.symm.trans ht)))
    · rw [State.await_ctx]
      exact congrArg (fun w => some [(rd, w)]) value
    · exact (State.await_rd ..).trans ((others k hk).trans (same k))
  case unlock =>
    have same : ∀ k, (s.issued x 0x74).rd .lockOwner k = s.rd .lockOwner k := fun k => s.issued_rd x 0x74 _ _ _ (by decide)
    have code : lockCode (.ctx x) ≠ 0 := lockCode_ne_zero (fun _ => nofun)
    refine ⟨_, exec_unlock_local hi h, ?_⟩
    simp only [State.advance_pc, State.advance_rd, State.advance_fld, ← show lockCode (.ctx x) = toW (5 + x * 256) from rfl]
    by_cases mine : s.rd .lockOwner imm.toNat = lockCode (.ctx x)
    · have held : (s.issued x 0x74).rd .lockOwner imm.toNat = lockCode (.ctx x) := (same _).trans mine
      rw [State.lockRelease_holder (by rw [held]; exact code) held, State.freeLock_ctx]
      obtain ⟨free, others, -⟩ := (s.issued x 0x74).freeLock_spec imm.toNat
      rw [State.issued_pc]
      exact ⟨rfl, fun _ => free, fun hn => absurd mine hn, fun k hk => (others k hk).trans (same k)⟩
    · obtain ⟨only, count, -, -⟩ := State.lockRelease_other (s := s.issued x 0x74) (m := .ctx x) hi
        (.inr (by rw [same]; exact mine))
      have keeps := only.2
      refine ⟨?_, fun hm => absurd hm mine, fun _ => ⟨?_, ?_⟩, fun k _ => ?_⟩
      · rw [State.onlyRegs_ctx only, State.issued_pc]
      · exact (keeps .lockOwner _ _ (by decide)).trans (same _)
      · refine count.trans ?_
        rw [State.fld, s.issued_rd x 0x74 _ _ _ (by decide)]
        rfl
      · exact (keeps .lockOwner _ _ (by decide)).trans (same k)

end Sys2Proof.Machine
end

section
/-! PROOFS. The long instructions (R187 to R189): words written one after another, the progress that PROG keeps, and the steps of BLKCP,
FILL and the table lookups. -/

namespace Sys2Proof.Machine

/-! ## Words in a memory -/

theorem wordOf_byteOf (w : Word) : wordOf (byteOf w 0) (byteOf w 1) (byteOf w 2) (byteOf w 3) = w := by
  apply BitVec.eq_of_toNat_eq
  have := w.isLt
  simp only [wordOf, byteOf, toW, BitVec.toNat_ofNat, Nat.shiftRight_eq_div_pow]
  omega

theorem Mem.word_putWord_self (m : Mem) (a : Nat) (w : Word) : (m.putWord a w).word a = w := by
  unfold Mem.word
  rw [show (m.putWord a w).byte a = byteOf w 0 from m.byte_putWord a w (by decide : 0 < 4), m.byte_putWord a w (by decide : 1 < 4),
    m.byte_putWord a w (by decide : 2 < 4), m.byte_putWord a w (by decide : 3 < 4)]
  exact wordOf_byteOf w

theorem Mem.word_putWord_ne (m : Mem) (a c : Nat) (w : Word) (h : c + 4 ≤ a ∨ a + 4 ≤ c) : (m.putWord a w).word c = m.word c := by
  unfold Mem.word
  rw [Mem.byte_putWord_ne _ _ _ _ (by omega), Mem.byte_putWord_ne _ _ _ _ (by omega), Mem.byte_putWord_ne _ _ _ _ (by omega),
    Mem.byte_putWord_ne _ _ _ _ (by omega)]

@[simp] theorem State.tm_setTm_self (s : State) (a : Nat) (w : Word) : (s.setTm a w).tm a = w := Mem.word_putWord_self ..

theorem State.tm_setTm_ne (s : State) (a c : Nat) (w : Word) (h : c + 4 ≤ a ∨ a + 4 ≤ c) : (s.setTm a w).tm c = s.tm c :=
  Mem.word_putWord_ne _ _ _ _ h

/-- Words stored from `dst` on, each a function of the state and its number. -/
def State.storeWords (s : State) (dst n : Nat) (f : State → Nat → Word) : State :=
  s.each (List.range n) (fun s i => s.setTm (dst + 4 * i) (f s i))

theorem State.storeWords_succ (s : State) (dst n : Nat) (f : State → Nat → Word) :
    s.storeWords dst (n + 1) f = (s.storeWords dst n f).setTm (dst + 4 * n) (f (s.storeWords dst n f) n) := by
  unfold State.storeWords State.each
  rw [List.range_succ, List.foldl_append]
  rfl

/-- What storing words leaves of the contexts and the registers. -/
theorem State.storeWords_frame (s : State) (dst n : Nat) (f : State → Nat → Word) :
    (∀ y, (s.storeWords dst n f).ctx y = s.ctx y) ∧ (s.storeWords dst n f).gpr = s.gpr := by
  induction n with
  | zero => exact ⟨fun _ => rfl, rfl⟩
  | succ n ih =>
    rw [State.storeWords_succ]
    exact ih

/-- Every byte beside the words stored is as before. -/
theorem State.storeWords_byte (s : State) (dst n : Nat) (f : State → Nat → Word) {c : Nat} (h : c < dst ∨ dst + 4 * n ≤ c) :
    (s.storeWords dst n f).taskMem.byte c = s.taskMem.byte c := by
  induction n with
  | zero => rfl
  | succ n ih =>
    rw [State.storeWords_succ, State.setTm_taskMem, Mem.byte_putWord_ne _ _ _ _ (by omega)]
    exact ih (by omega)

theorem State.storeWords_tm_beside (s : State) (dst n : Nat) (f : State → Nat → Word) {a : Nat} (h : a + 4 ≤ dst ∨ dst + 4 * n ≤ a) :
    (s.storeWords dst n f).tm a = s.tm a := by
  induction n with
  | zero => rfl
  | succ n ih =>
    rw [State.storeWords_succ, State.tm_setTm_ne _ _ _ _ (by omega)]
    exact ih (by omega)

/-- The words stored are those given, where each is the same in the states in between. -/
theorem State.storeWords_tm {s : State} {dst n : Nat} {f : State → Nat → Word} {g : Nat → Word}
    (hf : ∀ k, k < n → f (s.storeWords dst k f) k = g k) : ∀ i, i < n → (s.storeWords dst n f).tm (dst + 4 * i) = g i := by
  induction n with
  | zero => exact fun i hi => absurd hi (Nat.not_lt_zero i)
  | succ n ih =>
    intro i hi
    rw [State.storeWords_succ]
    obtain hn | rfl := Nat.lt_succ_iff_lt_or_eq.mp hi
    · rw [State.tm_setTm_ne _ _ _ _ (by omega)]
      exact ih (fun k hk => hf k (by omega)) i hn
    · rw [State.tm_setTm_self]
      exact hf i hi

/-! ## Progress in PROG -/

theorem progWord_fields {phase v : Nat} (hp : phase < 8) (hv : v < 2 ^ 28) :
    getB (progWord phase v) 31 = true ∧ getF (progWord phase v) 28 3 = phase ∧ getF (progWord phase v) 0 28 = v := by
  have value : (progWord phase v).toNat = 2 ^ 31 + phase * 2 ^ 28 + v := by
    rw [progWord, toW, BitVec.toNat_ofNat, Nat.mod_eq_of_lt hv]
    omega
  refine ⟨?_, ?_, ?_⟩
  · rw [getB, BitVec.getLsbD, value, Nat.testBit_eq_decide_div_mod_eq]
    simp only [decide_eq_true_eq]
    omega
  · rw [getF, value, Nat.shiftRight_eq_div_pow]
    omega
  · rw [getF, value, Nat.shiftRight_eq_div_pow]
    omega

theorem State.stepDone_longAt (s : State) (x : Nat) {phase v : Nat} (hp : phase < 8) (hv : v < 2 ^ 28) :
    (s.stepDone x phase v).longAt x = some (phase, v) := by
  obtain ⟨set, ph, pr⟩ := progWord_fields hp hv
  unfold State.longAt State.stepDone
  rw [State.ctx_onCtx_self]
  dsimp only
  rw [set, ph, pr]
  rfl

theorem State.stepDone_pc (s : State) (x phase v : Nat) : ((s.stepDone x phase v).ctx x).pc = (s.ctx x).pc := by
  unfold State.stepDone
  rw [State.ctx_onCtx_self]

theorem State.stepDone_gpr (s : State) (x phase v : Nat) : (s.stepDone x phase v).gpr = s.gpr := rfl

theorem State.longDone_ctx (s : State) (x : Nat) : (s.longDone x).ctx x = { s.ctx x with prog := 0, pc := (s.ctx x).pc + 4 } := by
  unfold State.longDone
  rw [State.ctx_onCtx_self]

@[simp] theorem State.issued_longAt (s : State) (x op y : Nat) : (s.issued x op).longAt y = s.longAt y := by
  unfold State.longAt
  rw [State.issued_prog]

/-! ## Block copy and fill -/

section
variable {x : Fin 128} {rd rs rt : GReg} {s : State}

theorem exec_blkcp_none (h : s.starts x 0x7A = true) (hn : (s.g x rt).toNat = 0) :
    exec (.blkcp x rd rs rt) s = .next (((s.issued x 0x7A).advance x).hold x 1) := by
  refine exec_issue rfl h rfl ?_
  dsimp only
  rw [State.issued_g s x 0x7A x rt, if_pos hn]

/-- The first step of BLKCP copies up to 8 words. -/
theorem exec_blkcp_first (h : s.starts x 0x7A = true) (hl : s.longAt x = none) (hn : (s.g x rt).toNat ≠ 0) {k : Nat}
    (hk : min 8 (s.g x rt).toNat = k) (hf : s.accFault x .load (s.g x rs).toNat (4 * k) 4 = none)
    (hb : s.badWordIn (s.g x rs).toNat (4 * k) = none) (hw : s.accFault x .store (s.g x rd).toNat (4 * k) 4 = none) :
    let v := (s.issued x 0x7A).storeWords (s.g x rd).toNat k (fun v i => v.tm ((s.g x rs).toNat + 4 * i))
    exec (.blkcp x rd rs rt) s = .next (if k < (s.g x rt).toNat then v.stepDone x 0 k else v.longDone x) := by
  refine exec_issue rfl h rfl ?_
  dsimp only
  simp only [State.issued_g, State.issued_longAt, hl, Option.map_none, Option.getD_none, Nat.mul_zero, Nat.add_zero, Nat.zero_add,
    Nat.sub_zero, hk, if_neg hn]
  rw [State.reading_eq (by rw [State.issued_accFault]; exact hf) (by rw [State.issued_badWordIn]; exact hb),
    State.writing_eq (by rw [State.issued_accFault]; exact hw)]
  rfl

theorem exec_fill_none (h : s.starts x 0x7B = true) (hn : (s.g x rt).toNat = 0) :
    exec (.fill x rd rs rt) s = .next (((s.issued x 0x7B).advance x).hold x 1) := by
  refine exec_issue rfl h rfl ?_
  dsimp only
  rw [State.issued_g s x 0x7B x rt, if_pos hn]

/-- The first step of FILL stores up to 16 words. -/
theorem exec_fill_first (h : s.starts x 0x7B = true) (hl : s.longAt x = none) (hn : (s.g x rt).toNat ≠ 0) {k : Nat}
    (hk : min 16 (s.g x rt).toNat = k) (hw : s.accFault x .store (s.g x rd).toNat (4 * k) 4 = none) :
    let v := (s.issued x 0x7B).storeWords (s.g x rd).toNat k (fun v _ => v.g x rs)
    exec (.fill x rd rs rt) s = .next (if k < (s.g x rt).toNat then v.stepDone x 0 k else v.longDone x) := by
  refine exec_issue rfl h rfl ?_
  dsimp only
  simp only [State.issued_g, State.issued_longAt, hl, Option.map_none, Option.getD_none, Nat.mul_zero, Nat.add_zero, Nat.zero_add,
    Nat.sub_zero, hk, if_neg hn]
  rw [State.writing_eq (by rw [State.issued_accFault]; exact hw)]
  rfl

/-- What a block instruction leaves when its last words are stored, and when more remain. -/
theorem State.storeWords_longDone (s : State) (x op dst n : Nat) (f : State → Nat → Word) :
    ((((s.issued x op).storeWords dst n f).longDone x).ctx x).pc = (s.ctx x).pc + 4 ∧
      ((((s.issued x op).storeWords dst n f).longDone x).ctx x).prog = 0 ∧
      ∀ c, c < dst ∨ dst + 4 * n ≤ c → (((s.issued x op).storeWords dst n f).longDone x).taskMem.byte c = s.taskMem.byte c := by
  obtain ⟨ctx, -⟩ := (s.issued x op).storeWords_frame dst n f
  rw [State.longDone_ctx, ctx]
  refine ⟨congrArg (· + 4) (s.issued_pc x op x), rfl, fun c hc => ?_⟩
  refine ((s.issued x op).storeWords_byte dst n f hc).trans ?_
  rw [State.issued_taskMem]

theorem State.storeWords_stepDone (s : State) (x op dst n : Nat) (f : State → Nat → Word) {k : Nat} (hk : k < 2 ^ 28) :
    ((((s.issued x op).storeWords dst n f).stepDone x 0 k).ctx x).pc = (s.ctx x).pc ∧
      (((s.issued x op).storeWords dst n f).stepDone x 0 k).longAt x = some (0, k) := by
  obtain ⟨ctx, -⟩ := (s.issued x op).storeWords_frame dst n f
  rw [State.stepDone_pc, ctx, State.issued_pc]
  exact ⟨rfl, State.stepDone_longAt _ _ (by decide) hk⟩

/-- A copy between two blocks apart gives the words of the first to the second. -/
theorem State.storeWords_copy {s : State} {x op src dst n : Nat} (hd : src + 4 * n ≤ dst ∨ dst + 4 * n ≤ src) : ∀ i, i < n →
    ((s.issued x op).storeWords dst n (fun v i => v.tm (src + 4 * i))).tm (dst + 4 * i) = s.tm (src + 4 * i) := by
  refine State.storeWords_tm (g := fun i => s.tm (src + 4 * i)) (fun k hk => ?_)
  rw [State.storeWords_tm_beside _ _ _ _ (by omega), State.issued_tm]

theorem State.storeWords_fill {s : State} {x op y dst n : Nat} {r : GReg} : ∀ i, i < n →
    ((s.issued x op).storeWords dst n (fun v _ => v.g y r)).tm (dst + 4 * i) = s.g y r := by
  refine State.storeWords_tm (g := fun _ => s.g y r) (fun k hk => ?_)
  unfold State.g
  rw [((s.issued x op).storeWords_frame dst k _).2, State.issued_gpr]

end

/-! ## Tables -/

/-- Words that are granted and correctable are all read. -/
theorem State.readAll_eq {s : State} {x : Nat} {as : List Nat} (h : ∀ a ∈ as, s.accFault x .load a 4 4 = none ∧ s.badWordIn a 4 = none)
    (f : List Word → State) : s.readAll x as f = f (as.map s.tm) := by
  unfold State.readAll
  split
  case h_1 t ht =>
    obtain ⟨a, ha, hs⟩ := List.exists_of_findSome?_eq_some ht
    obtain ⟨granted, good⟩ := h a ha
    rw [granted, good] at hs
    cases hs
  case h_2 => rfl

section
variable {x : Fin 128} {rd rs rt : GReg} {s : State}

theorem State.issued_readAll {op : Nat} {as : List Nat} (h : ∀ a ∈ as, s.accFault x .load a 4 4 = none ∧ s.badWordIn a 4 = none)
    (f : List Word → State) : (s.issued x op).readAll x as f = f (as.map s.tm) := by
  have tm : as.map (s.issued x op).tm = as.map s.tm := List.map_congr_left (fun a _ => s.issued_tm x op a)
  rw [State.readAll_eq (fun a ha => by rw [State.issued_accFault, State.issued_badWordIn]; exact h a ha), tm]

/-- TBL1 begins its search over all intervals. -/
theorem exec_tbl1_first (h : s.starts x 0x78 = true) (hl : s.longAt x = none) (hf : s.accFault x .load (s.g x rt).toNat 4 4 = none)
    (hb : s.badWordIn (s.g x rt).toNat 4 = none) (h2 : 2 ≤ (s.tm (s.g x rt).toNat).toNat) (hn : (s.tm (s.g x rt).toNat).toNat ≤ 1024) :
    exec (.tbl1 x rd rs rt) s = .next ((s.issued x 0x78).stepDone x 1 (((s.tm (s.g x rt).toNat).toNat - 2) * 1024)) := by
  refine exec_issue rfl h rfl ?_
  dsimp only
  rw [State.issued_g s x 0x78 x rt, State.issued_readAll (fun a ha => by rw [List.mem_singleton.mp ha]; exact ⟨hf, hb⟩)]
  simp only [List.map_cons, List.map_nil, List.getD_cons_zero, State.issued_longAt, hl]
  exact if_neg (by omega)

theorem exec_tbl2_first (h : s.starts x 0x79 = true) (hl : s.longAt x = none) (hf : s.accFault x .load (s.g x rt).toNat 4 4 = none)
    (hb : s.badWordIn (s.g x rt).toNat 4 = none) (h2 : 2 ≤ getF (s.tm (s.g x rt).toNat) 0 16) (hn : getF (s.tm (s.g x rt).toNat) 0 16 ≤ 256)
    (h2' : 2 ≤ getF (s.tm (s.g x rt).toNat) 16 16) (hn' : getF (s.tm (s.g x rt).toNat) 16 16 ≤ 256) :
    exec (.tbl2 x rd rs rt) s = .next ((s.issued x 0x79).stepDone x 1 ((getF (s.tm (s.g x rt).toNat) 0 16 - 2) * 256)) := by
  refine exec_issue rfl h rfl ?_
  dsimp only
  rw [State.issued_g s x 0x79 x rt, State.issued_readAll (fun a ha => by rw [List.mem_singleton.mp ha]; exact ⟨hf, hb⟩)]
  simp only [List.map_cons, List.map_nil, List.getD_cons_zero, State.issued_longAt, hl]
  exact if_neg (by omega)

/-- The last step of TBL1 interpolates between the breakpoints found. -/
theorem exec_tbl1_last {i : Nat} (h : s.starts x 0x78 = true) (hl : s.longAt x = some (2, i * 1024 + i)) (hi : i < 1024)
    (h2 : 2 ≤ (s.tm (s.g x rt).toNat).toNat) (hn : (s.tm (s.g x rt).toNat).toNat ≤ 1024)
    (hr : let t0 := (s.g x rt).toNat
      let n := (s.tm t0).toNat
      ∀ a ∈ [t0, t0 + 4 + 4 * i, t0 + 8 + 4 * i, t0 + 4 + 4 * n + 4 * i, t0 + 8 + 4 * n + 4 * i],
        s.accFault x .load a 4 4 = none ∧ s.badWordIn a 4 = none)
    (hlt : (s.tm ((s.g x rt).toNat + 4 + 4 * i)).toInt < (s.tm ((s.g x rt).toNat + 8 + 4 * i)).toInt) :
    let t0 := (s.g x rt).toNat
    let n := (s.tm t0).toNat
    exec (.tbl1 x rd rs rt) s = .next ((((s.issued x 0x78).setG x rd (intW (tblMix (s.tm (t0 + 4 + 4 * n + 4 * i)).toInt
      (s.tm (t0 + 8 + 4 * n + 4 * i)).toInt
      (tblF (s.g x rs).toInt (s.tm (t0 + 4 + 4 * i)).toInt (s.tm (t0 + 8 + 4 * i)).toInt)))).longDone x).hold x 16) := by
  obtain ⟨header, rest⟩ := List.forall_mem_cons.mp hr
  have index : (i * 1024 + i) % 1024 = i := by omega
  refine exec_issue rfl h rfl ?_
  dsimp only
  rw [State.issued_g s x 0x78 x rt, State.issued_g s x 0x78 x rs,
    State.issued_readAll (fun a ha => by rw [List.mem_singleton.mp ha]; exact header)]
  simp only [List.map_cons, List.map_nil, List.getD_cons_zero, State.issued_longAt, hl, index]
  rw [if_neg (by omega), State.issued_readAll rest]
  exact if_neg (Int.not_le.mpr hlt)

end

/-- What an interpolation leaves. -/
theorem State.interpolated (s : State) (x op n : Nat) (rd : GReg) (w : Word) :
    let t := (((s.issued x op).setG x rd w).longDone x).hold x n
    (t.ctx x).pc = (s.ctx x).pc + 4 ∧ (t.ctx x).prog = 0 ∧ t.g x rd = w := by
  intro t
  have ctx : t.ctx x = { ((s.issued x op).setG x rd w).longDone x |>.ctx x with
      readyAt := toS (t.now.toNat + 20 * n) } := by
    unfold t State.hold
    rw [State.ctx_onCtx_self]
    rfl
  rw [ctx, State.longDone_ctx, State.setG_ctx, State.issued_pc]
  exact ⟨rfl, rfl, State.g_setG_self ..⟩

/-- Settles O13: each step by its own lemma, with what storing words and interpolating leave. -/
theorem longInstructions : Obligations.LongInstructions := by
  unfold Obligations.LongInstructions
  refine ⟨fun x rd rs rt s hl => ?first, fun x rd rs rt i s => ?last⟩
  case first =>
    intro n src dst t0
    refine ⟨fun h hn => exec_blkcp_none h hn, fun h h1 h8 hf hb hw hd => ?copy, fun h h8 hf hb hw => ?copyMore,
      fun h hn => exec_fill_none h hn, fun h h1 h16 hw => ?fill, fun h h16 hw => ?fillMore,
      fun h hf hb h2 hn => ?tbl1, fun h hf hb h2 hn h2' hn' => ?tbl2⟩
    case copy =>
      have acts := (exec_blkcp_first h hl (show n ≠ 0 by omega) (show min 8 n = n by omega) hf hb hw).trans
        (congrArg _ (if_neg (Nat.lt_irrefl n)))
      obtain ⟨pc, prog, beside⟩ := s.storeWords_longDone x 0x7A dst n (fun v i => v.tm (src + 4 * i))
      exact ⟨_, acts, pc, prog, State.storeWords_copy hd, beside⟩
    case copyMore =>
      have acts := (exec_blkcp_first h hl (show n ≠ 0 by omega) (show min 8 n = 8 by omega) hf hb hw).trans (congrArg _ (if_pos h8))
      exact ⟨_, acts, s.storeWords_stepDone x 0x7A dst 8 (fun v i => v.tm (src + 4 * i)) (by decide)⟩
    case fill =>
      have acts := (exec_fill_first (rs := rs) h hl (show n ≠ 0 by omega) (show min 16 n = n by omega) hw).trans
        (congrArg _ (if_neg (Nat.lt_irrefl n)))
      obtain ⟨pc, prog, beside⟩ := s.storeWords_longDone x 0x7B dst n (fun v _ => v.g x rs)
      exact ⟨_, acts, pc, prog, State.storeWords_fill, beside⟩
    case fillMore =>
      have acts := (exec_fill_first (rs := rs) h hl (show n ≠ 0 by omega) (show min 16 n = 16 by omega) hw).trans (congrArg _ (if_pos h16))
      exact ⟨_, acts, s.storeWords_stepDone x 0x7B dst 16 (fun v _ => v.g x rs) (by decide)⟩
    case tbl1 =>
      have rows : (s.tm (s.g x rt).toNat).toNat ≤ 1024 := hn
      refine ⟨_, exec_tbl1_first h hl hf hb h2 hn, ?_, ?_, State.stepDone_longAt _ _ (by decide) (by omega)⟩
      · rw [State.stepDone_pc, State.issued_pc]
      · rw [State.stepDone_gpr, State.issued_gpr]
    case tbl2 =>
      have rows : getF (s.tm (s.g x rt).toNat) 0 16 ≤ 256 := hn
      refine ⟨_, exec_tbl2_first h hl hf hb h2 hn h2' hn', ?_, ?_, State.stepDone_longAt _ _ (by decide) (by omega)⟩
      · rw [State.stepDone_pc, State.issued_pc]
      · rw [State.stepDone_gpr, State.issued_gpr]
  case last =>
    intro t0 n v h hl hi h2 hn hr hlt
    exact ⟨_, exec_tbl1_last h hl hi h2 hn hr hlt, s.interpolated x 0x78 16 rd _⟩

end Sys2Proof.Machine
end

section
/-! PROOFS. Register writes that are refused (R2, R194, R304 to R311). -/

namespace Sys2Proof.Machine

/-- Every command of the table is an access to the register it names. -/
theorem exec_of_gateOf {c : Instr} {m : Master} {n : RegName} {i j : Nat} (h : gateOf c = some (m, n, i, j)) :
    ∃ f, ∀ s, exec c s = .next (s.access m n i j f) := by
  unfold gateOf at h
  split at h
  case h_57 => cases h
  all_goals
    cases h
    exact ⟨_, fun _ => rfl⟩

/-- The registers as the access finds them, but for those that waking its unit may change. -/
theorem State.arrived_keeps (s : State) (n : RegName) (i j : Nat) : s.keeps (s.arrived n i j) wakeRegs := fun a k l h =>
  ((s.tick.wakeFor_stirs _).2 a k l h).trans (s.tick_rd a k l)

/-- A refusal for ownership or a hold is counted in the upper half (R306). -/
theorem State.accErr_barred (s : State) (m : Master) (off : Nat) {r : AccReason} (h : r = .ownership ∨ r = .hold) :
    (s.accErr m off r).fld .sysAccerr 16 16 = (s.fld .sysAccerr 16 16 + 1) % 65536 ∧
    (s.accErr m off r).rd .sysAccerrSrc = accSrc m r := by
  have counted : s.accErr m off r =
      (((s.bumpW .sysAccerr 16 16).wr .sysAccerrAddr (toW off)).wr .sysAccerrSrc (accSrc m r)).raise 191 := by
    obtain rfl | rfl := h <;> rfl
  have raised := (State.raise_tells (((s.bumpW .sysAccerr 16 16).wr .sysAccerrAddr (toW off)).wr .sysAccerrSrc (accSrc m r)) 191).keeps
  rw [counted]
  constructor
  · rw [State.keeps_fld raised (by decide), State.fld, State.rd_wr_name _ _ _ _ _ _ _ _ (by decide),
      State.rd_wr_name _ _ _ _ _ _ _ _ (by decide)]
    exact s.fld_bumpW_self .sysAccerr 16 16 0 0 1 (by decide)
  · rw [raised _ _ _ (by decide), State.rd_wr_self]

/-- Every access error leaves its offset (R306). -/
theorem State.accErr_addr (s : State) (m : Master) (off : Nat) (r : AccReason) : (s.accErr m off r).rd .sysAccerrAddr = toW off := by
  unfold State.accErr
  extract_lets counted
  rw [(State.raise_tells _ 191).keeps _ _ _ (by decide), State.rd_wr_name _ _ _ _ _ _ _ _ (by decide), State.rd_wr_self]

section
variable {c : Instr} {m : Master} {n : RegName} {i j : Nat} {s : State} {r : AccReason}

/-- A command whose write is refused drops it. -/
theorem exec_refused (h : gateOf c = some (m, n, i, j)) (hp : s.pstate < 3) (ha : s.tick.keyAbsent ⟨n, i, j⟩ = false)
    (hr : (s.arrived n i j).refusal m (RegKey.unit ⟨n, i, j⟩) ⟨n, i, j⟩ = some r) :
    exec c s = .next ((s.arrived n i j).dropWrite m (RegKey.unit ⟨n, i, j⟩) ⟨n, i, j⟩ r) := by
  obtain ⟨f, acts⟩ := exec_of_gateOf h
  rw [acts, State.access_refused ha hp hr]

/-- What an access error for want of privilege leaves, from the state before the access. -/
theorem State.arrived_privilege (s : State) (m : Master) (n : RegName) (i j off : Nat) :
    (s.arrived n i j).keeps ((s.arrived n i j).accErr m off .privilege) accRegs ∧
    ((s.arrived n i j).accErr m off .privilege).fld .sysAccerr 0 16 = (s.fld .sysAccerr 0 16 + 1) % 65536 ∧
    ((s.arrived n i j).accErr m off .privilege).rd .sysAccerrAddr = toW off ∧
    ((s.arrived n i j).accErr m off .privilege).rd .sysAccerrSrc = accSrc m .privilege := by
  obtain ⟨count, src⟩ := (s.arrived n i j).accErr_counted m off (r := .privilege) (by decide) (by decide)
  rw [State.keeps_fld (s.arrived_keeps n i j) (by decide)] at count
  exact ⟨((s.arrived n i j).accErr_stirs m off .privilege).2, count, State.accErr_addr .., src⟩

/-- What a refusal of the host for ownership or a hold leaves. -/
theorem State.arrived_barred (s : State) (n : RegName) (i j u off : Nat) (h : r = .ownership ∨ r = .hold) :
    let z := s.arrived n i j
    let t := (z.bump .unitReq 8 8 u).accErr .host off r
    z.keeps t (.unitReq :: accRegs) ∧ t.fld .unitReq 8 8 u = min 255 (s.fld .unitReq 8 8 u + 1) ∧
      t.fld .sysAccerr 16 16 = (s.fld .sysAccerr 16 16 + 1) % 65536 ∧ t.rd .sysAccerrSrc = accSrc .host r := by
  intro z t
  have found := s.arrived_keeps n i j
  have bumped := (z.wr_onlyRegs .unitReq (addSat (z.rd .unitReq u) 8 8 1) u 0).2
  have err := ((z.bump .unitReq 8 8 u).accErr_stirs .host off r).2
  obtain ⟨count, src⟩ := (z.bump .unitReq 8 8 u).accErr_barred .host off h
  refine ⟨fun a k l hn => ?_, ?_, ?_, src⟩
  · obtain ⟨hreq, hacc⟩ := List.ne_and_not_mem_of_not_mem_cons hn
    exact (err a k l hacc).trans (bumped a k l (by simpa using hreq))
  · refine (State.keeps_fld err (by decide) _ _ _ _).trans ((z.fld_bump_self .unitReq 8 8 u 0 (by decide)).trans ?_)
    exact congrArg (fun v => min 255 (v + 1)) (State.keeps_fld found (by decide) _ _ _ _)
  · rw [count]
    have same : (z.bump .unitReq 8 8 u).fld .sysAccerr 16 16 = s.fld .sysAccerr 16 16 :=
      (State.keeps_fld bumped (by decide) _ _ _ _).trans (State.keeps_fld found (by decide) _ _ _ _)
    rw [same]

/-- A held unit's refusal of a service context counts at the context. -/
theorem State.arrived_held (s : State) (n : RegName) (i j a b : Nat) :
    (s.arrived n i j).onlyRegs ((s.arrived n i j).bump .ctxErrcnt 8 8 a b) [.ctxErrcnt] ∧
    ((s.arrived n i j).bump .ctxErrcnt 8 8 a b).fld .ctxErrcnt 8 8 a b = min 255 (s.fld .ctxErrcnt 8 8 a b + 1) := by
  refine ⟨(s.arrived n i j).wr_onlyRegs _ _ _ _, ((s.arrived n i j).fld_bump_self .ctxErrcnt 8 8 a b (by decide)).trans ?_⟩
  exact congrArg (fun v => min 255 (v + 1)) (State.keeps_fld (s.arrived_keeps n i j) (by decide) _ _ _ _)

end

/-- Settles O60: each refusal is the one that `refusal` names, and what it leaves is the access error counted. -/
theorem refusedWrites : Obligations.RefusedWrites := by
  unfold Obligations.RefusedWrites
  intro c m n i j s h k u z meets
  obtain ⟨f, acts⟩ := exec_of_gateOf h
  refine ⟨fun hp => ?deep, fun hp ha => ?absent, fun hu hf => ?unfitted, fun hm he hb => ?hostReadOnly, fun hm he hb hr => ?hostBarred,
    fun hm he hb => ?supervisor, fun hm x he => ⟨fun h1 hb hh => ?service, fun h2 hb hl => ?task, fun h0 => ?keystone⟩⟩
  case deep => rw [acts, State.access_deep hp]
  case absent => rw [acts, State.access_absent ha hp]
  case unfitted =>
    have gone : s.tick.fitted u = false := by
      unfold State.fitted State.tiles State.domains State.engines State.ports State.courses State.linkCount State.tiles at hf ⊢
      rw [State.tick_variant]
      exact hf
    unfold State.keyAbsent
    rw [show k.unit = u from rfl, gone, decide_eq_true hu]
    rfl
  all_goals
    obtain ⟨hp, ha⟩ := hm
    subst he
  case hostReadOnly =>
    exact ⟨_, exec_refused h hp ha (if_pos hb), s.arrived_privilege .host n i j k.offset⟩
  case hostBarred =>
    have refused : z.refusal .host u k = some (if z.flag .unitReq 3 u then .ownership else .hold) := by
      refine (if_neg (by rw [hb]; decide)).trans ?_
      by_cases owned : z.flag .unitReq 3 u = true
      · rw [if_pos owned, if_pos owned]
      · rw [if_neg owned, if_neg owned, if_pos (hr.resolve_left owned)]
    refine ⟨(z.bump .unitReq 8 8 u).accErr .host k.offset (if z.flag .unitReq 3 u then .ownership else .hold), ?_,
      s.arrived_barred n i j u k.offset ?_⟩
    · refine (exec_refused h hp ha refused).trans (congrArg _ ?_)
      split <;> rfl
    · split
      · exact .inl rfl
      · exact .inr rfl
  case supervisor =>
    obtain ⟨keeps, count, -, -⟩ := s.arrived_privilege .supervisor n i j k.offset
    exact ⟨_, exec_refused h hp ha (if_neg (by rw [hb]; decide)), keeps, count⟩
  case service =>
    have refused : z.refusal (.ctx x) u k = some .hold := by
      unfold State.refusal
      dsimp only
      rw [if_neg (by omega), if_neg hb, if_pos h1, if_pos hh]
    exact ⟨_, exec_refused h hp ha refused, s.arrived_held n i j _ _⟩
  case task =>
    have refused : z.refusal (.ctx x) u k = some .privilege := by
      have not0 : ¬z.privOf x = 0 := by omega
      have not1 : ¬z.privOf x = 1 := by omega
      refine (if_neg not0).trans ?_
      by_cases own : n.block = .chanter
      · exact if_pos own
      · exact (if_neg own).trans ((if_neg not1).trans ((if_neg hb).trans (if_neg hl)))
    obtain ⟨keeps, count, -, -⟩ := s.arrived_privilege (.ctx x) n i j k.offset
    exact ⟨_, exec_refused h hp ha refused, keeps, count⟩
  case keystone =>
    have allowed : z.refusal (.ctx x) u k = none := if_pos h0
    unfold State.lets
    dsimp only
    rw [show (s.arrived n i j).refusal (.ctx x) (RegKey.unit ⟨n, i, j⟩) ⟨n, i, j⟩ = none from allowed, ha, decide_eq_true hp]
    rfl

end Sys2Proof.Machine
end

section
/-! PROOFS. The test access port (R195, R399). -/

namespace Sys2Proof.Machine

theorem State.boundaryNow_preload (s : State) (bits : List Bool) : State.boundaryNow { s with boundary := bits } = s.boundaryNow := rfl

theorem State.boundaryNow_length (s : State) : s.boundaryNow.length = cellCount := by
  unfold State.boundaryNow
  rw [List.length_map, List.length_range]

theorem State.boundaryNow_getD (s : State) {n : Nat} (h : n < cellCount) : s.boundaryNow.getD n false =
    (match s.cellDrive n with | .high => true | .low => false | .hiz => s.cellLevel n) := by
  unfold State.boundaryNow
  rw [List.getD_eq_getElem?_getD, List.getElem?_map, List.getElem?_range h]
  rfl

/-- ENG_DEBUG writes a word of a context of a halted engine. -/
theorem exec_engDebug_halted {s : State} {w : DebugWrite} (he : w.e.val < s.engines) (hp : s.pstate < 3) (hh : s.halted w.e = true) :
    exec (.engDebug (some w)) s = .next ((s.loadTap .engDebug []).writeHalted (ctxOf w.e w.l) w.word w.v) := by
  have opened : ((s.loadTap .engDebug []).debugs w.e && (s.loadTap .engDebug []).halted w.e) = true := by
    show (true && decide (w.e.val < s.engines) && decide (s.pstate < 3) && s.halted w.e) = true
    rw [decide_eq_true he, decide_eq_true hp, hh]
    rfl
  exact congrArg Host.Outcome.next (if_pos opened)

/-- On an engine that is not halted it writes nothing. -/
theorem exec_engDebug_running {s : State} {w : DebugWrite} (hh : s.halted w.e = false) :
    exec (.engDebug (some w)) s = .next { s with jtag := .engDebug, scanned := [] } := by
  have closed : ¬((s.loadTap .engDebug []).debugs w.e && (s.loadTap .engDebug []).halted w.e) = true := by
    rw [show (s.loadTap .engDebug []).halted w.e = false from hh, Bool.and_false]
    decide
  exact congrArg Host.Outcome.next (if_neg closed)

/-- A register of the halted view below 16 is a general register. -/
theorem State.writeHalted_reg (s : State) (x : Nat) (q : GReg) (v : Word) : s.writeHalted x q.val v = s.setG x q v := by
  unfold State.writeHalted
  rw [if_pos q.isLt]
  congr 1
  exact Fin.ext (Nat.mod_eq_of_lt q.isLt)

/-- Word 16 of the halted view is PC. -/
theorem State.writeHalted_pc (s : State) (x : Nat) (v : Word) : s.writeHalted x 16 v = s.onCtx x (fun c => { c with pc := v }) := rfl

/-- Settles O44: the instructions as loaded; the halted view word by word. -/
theorem testAccessPort : Obligations.TestAccessPort := by
  unfold Obligations.TestAccessPort
  intro bits w s
  refine ⟨rfl, rfl, rfl, ?preload, rfl, rfl, rfl, ⟨s.boundaryNow_length, fun n => s.boundaryNow_getD⟩, rfl, fun he hp hh => ?halted,
    exec_engDebug_running⟩
  case preload =>
    refine congrArg Host.Outcome.next ?_
    unfold State.sampleTap
    rw [State.boundaryNow_preload]
    rfl
  case halted =>
    refine ⟨_, exec_engDebug_halted he hp hh, ?_, fun q hq => ?_, fun h16 => ?_⟩
    · unfold State.writeHalted
      split <;> rfl
    · rw [← hq, State.writeHalted_reg]
      exact ⟨State.g_setG_self .., rfl⟩
    · rw [h16, State.writeHalted_pc, State.ctx_onCtx_self]
      exact ⟨rfl, rfl⟩

end Sys2Proof.Machine
end

section
/-! PROOFS. Delivery and completion of interrupts, vectors, and the sleep of the endpoint (R340 to R347). -/

namespace Sys2Proof.Machine

/-! ## Bits of an array of registers -/

/-- A bit of an array set leaves the others. -/
theorem State.flag_setFlag_bit (s : State) (nm : RegName) (n k : Nat) (b : Bool) :
    (s.setFlag nm (n % 32) b (n / 32)).flag nm (k % 32) (k / 32) = if k = n then b else s.flag nm (k % 32) (k / 32) := by
  by_cases hk : k = n
  · rw [if_pos hk, hk]
    exact s.flag_setFlag_self nm _ b _ _ (Nat.mod_lt _ (by decide))
  · rw [if_neg hk]
    unfold State.setFlag State.flag
    by_cases hw : k / 32 = n / 32
    · rw [hw, State.rd_wr_self]
      exact getB_putB_ne _ _ _ _ (by omega)
    · rw [State.rd_wr_ne _ _ _ _ _ _ _ _ (fun e => hw (congrArg RegKey.i e))]

theorem State.setFlag_keeps (s : State) (nm : RegName) (k : Nat) (b : Bool) (i j : Nat) : s.keeps (s.setFlag nm k b i j) [nm] :=
  (s.wr_onlyRegs nm _ i j).2

theorem State.flag_setFlag_name (s : State) {n m : RegName} (h : m ≠ n) (k : Nat) (b : Bool) (i j k' i' j' : Nat) :
    (s.setFlag n k b i j).flag m k' i' j' = s.flag m k' i' j' := congrArg (getB · k') (s.rd_wr_name _ _ _ _ _ _ _ h)

/-! ## Delivery -/

section
variable (s : State) (n tgt k : Nat)

theorem State.deliver_rd (a : RegName) (i j : Nat) : (s.deliver n tgt).rd a i j =
    ((s.setFlag .intPendSet (n % 32) false (n / 32)).setFlag .intActive (n % 32) true (n / 32)).rd a i j := rfl

theorem State.deliver_flag (a : RegName) (b i j : Nat) : (s.deliver n tgt).flag a b i j =
    ((s.setFlag .intPendSet (n % 32) false (n / 32)).setFlag .intActive (n % 32) true (n / 32)).flag a b i j :=
  congrArg (getB · b) (s.deliver_rd n tgt a i j)

theorem State.deliver_active : (s.deliver n tgt).active k = if k = n then true else s.active k := by
  unfold State.active
  rw [State.deliver_flag, State.flag_setFlag_bit, State.flag_setFlag_name _ (by decide)]

theorem State.deliver_pend : (s.deliver n tgt).pend k = if k = n then false else s.pend k := by
  unfold State.pend
  rw [State.deliver_flag, State.flag_setFlag_name _ (by decide), State.flag_setFlag_bit]

theorem State.deliver_keeps : s.keeps (s.deliver n tgt) [.intPendSet, .intActive] := fun a i j h => by
  obtain ⟨h1, h2⟩ : a ≠ .intPendSet ∧ a ≠ .intActive := by simpa using h
  rw [State.deliver_rd, State.setFlag, State.rd_wr_name _ _ _ _ _ _ _ _ h2, State.setFlag, State.rd_wr_name _ _ _ _ _ _ _ _ h1]

end

theorem State.deliver_hostMem (s : State) (n tgt : Nat) : (s.deliver n tgt).hostMem = s.hostMem := rfl

/-- What delivering the sources of a list leaves. -/
theorem State.delivers_spec (l : List Nat) (tgt : Nat) (s : State) :
    s.keeps (l.foldl (fun s n => s.deliver n tgt) s) [.intPendSet, .intActive] ∧
    (l.foldl (fun s n => s.deliver n tgt) s).hostMem = s.hostMem ∧
    ∀ k, (k ∈ l ∨ s.active k = true → (l.foldl (fun s n => s.deliver n tgt) s).active k = true) ∧
      (k ∈ l ∨ s.pend k = false → (l.foldl (fun s n => s.deliver n tgt) s).pend k = false) := by
  induction l generalizing s with
  | nil => exact ⟨fun _ _ _ _ => rfl, rfl, fun k => ⟨fun h => h.resolve_left (by simp), fun h => h.resolve_left (by simp)⟩⟩
  | cons n r ih =>
    obtain ⟨keeps, mem, bits⟩ := ih (s.deliver n tgt)
    rw [State.deliver_hostMem] at mem
    rw [List.foldl_cons]
    refine ⟨fun a i j h => (keeps a i j h).trans (s.deliver_keeps n tgt a i j h), mem, fun k => ?_⟩
    obtain ⟨active, pend⟩ := bits k
    rw [State.deliver_active] at active
    rw [State.deliver_pend] at pend
    refine ⟨fun h => active ?_, fun h => pend ?_⟩
    all_goals
      rw [List.mem_cons] at h
      by_cases hk : k = n
      · exact .inr (if_pos hk)
      · rw [if_neg hk]
        exact (or_assoc.mp h).resolve_left hk

/-! ## Completion -/

/-- Of a completed source the ACTIVE bit goes; the registers that may change beside it count it or set its vector due. -/
theorem State.complete_eq (s : State) (n : Nat) : ∃ t, s.complete n = t ∧
    State.keeps (s.setFlag .intActive (n % 32) false (n / 32)) t [.intErr, .vecStat] := by
  refine ⟨_, rfl, ?_⟩
  unfold State.complete
  extract_lets a b c
  have same : State.keeps a b [.intErr, .vecStat] := fun _ _ _ _ => rfl
  have counted : State.keeps a c [.intErr, .vecStat] := fun x i j h =>
    State.rd_wr_name _ _ _ _ _ _ _ _ (fun e => h (e ▸ List.mem_cons_self))
  have flagged : State.keeps a (c.setFlag .vecStat 31 true (c.fld .intRoute 24 6 n)) [.intErr, .vecStat] := fun x i j h =>
    (c.setFlag_keeps .vecStat 31 true (c.fld .intRoute 24 6 n) 0 x i j (by simp at h ⊢; exact h.2)).trans (counted x i j h)
  split
  · split
    · exact flagged
    · exact counted
  · exact same

theorem State.complete_spec (s : State) (n : Nat) : (s.complete n).active n = false ∧ (∀ k, (s.complete n).pend k = s.pend k) ∧
    s.keeps (s.complete n) [.intActive, .intErr, .vecStat] := by
  obtain ⟨t, ht, kept⟩ := s.complete_eq n
  rw [ht]
  refine ⟨(State.keeps_flag kept (by decide) _ _ _).trans ((s.flag_setFlag_bit .intActive n n false).trans (if_pos rfl)),
    fun k => (State.keeps_flag kept (by decide) _ _ _).trans (s.flag_setFlag_name (by decide) _ _ _ _ _ _ _), fun x i j h => ?_⟩
  obtain ⟨h1, h2⟩ := List.ne_and_not_mem_of_not_mem_cons h
  exact (kept x i j h2).trans (s.setFlag_keeps _ _ _ _ _ x i j (by simpa using h1))

/-! ## Vectors -/

/-- From s to t vectors may have issued: only the registers of vectors and of the sources they deliver, who took them, and host memory
may change. -/
def State.vectorsTo (s t : State) : Prop :=
  t = { s with regs := t.regs, hostMem := t.hostMem, takenBy := t.takenBy } ∧ s.keeps t [.vecStat, .msixPba, .intPendSet, .intActive]

theorem State.vectorsTo.refl (s : State) : s.vectorsTo s := ⟨rfl, fun _ _ _ _ => rfl⟩

theorem State.vectorsTo.trans {s t u : State} (h : s.vectorsTo t) (h' : t.vectorsTo u) : s.vectorsTo u := by
  obtain ⟨ht, hk⟩ := h
  obtain ⟨hu, hk'⟩ := h'
  refine ⟨hu.trans ?_, fun n i j hn => (hk' n i j hn).trans (hk n i j hn)⟩
  rw [ht]

theorem State.vectorsTo.wr {s t : State} (h : s.vectorsTo t) {n : RegName} (hn : n ∈ [RegName.vecStat, .msixPba, .intPendSet, .intActive])
    (w : Word) (i j : Nat) : s.vectorsTo (t.wr n w i j) :=
  h.trans ⟨rfl, (t.wr_stirs hn w i j).2⟩

theorem State.vectorsTo.taken {s t : State} (h : s.vectorsTo t) (m : SMap Nat) : s.vectorsTo { t with takenBy := m } :=
  h.trans ⟨rfl, fun _ _ _ _ => rfl⟩

theorem State.vectorsTo.deliver {s t : State} (h : s.vectorsTo t) (n tgt : Nat) : s.vectorsTo (t.deliver n tgt) :=
  ((h.wr (by decide) _ _ _).wr (by decide) _ _ _).taken _

theorem State.vectorsTo.delivers {s t : State} (h : s.vectorsTo t) (l : List Nat) (tgt : Nat) :
    s.vectorsTo (l.foldl (fun s n => s.deliver n tgt) t) := by
  induction l generalizing t with
  | nil => exact h
  | cons n r ih => exact ih (h.deliver n tgt)

theorem State.vectorsTo.vectorFree {s t : State} (h : s.vectorsTo t) (v : Nat) : t.vectorFree v = s.vectorFree v := by
  obtain ⟨he, hk⟩ := h
  unfold State.vectorFree
  rw [State.keeps_flag hk (by decide), he]

/-- The sources of a vector are read from registers that its own do not touch. -/
theorem State.vectorSources_keeps {s t : State} (h : s.keeps t [.vecStat, .msixPba]) (v : Nat) : t.vectorSources v = s.vectorSources v := by
  unfold State.vectorSources State.pend State.enabled State.active State.target State.fld State.flag
  simp only [h .intPendSet _ _ (by decide), h .intEnSet _ _ (by decide), h .intActive _ _ (by decide), h .intRoute _ _ (by decide)]

/-- A vector whose MSI-X word is written: it gathers nothing and does not wait. -/
def State.vectorSent (s : State) (v : Nat) : State :=
  (State.wr { s with hostMem := s.hostMem.putWord (stampOf (s.rd .msixAddrLo v) (s.rd .msixAddrHi v)).toNat (s.rd .msixData v) }
    .vecStat 0 v).setFlag .msixPba (v % 32) false (v / 32)

theorem State.vectorSent_rd (s : State) (v : Nat) (n : RegName) (i j : Nat) : (s.vectorSent v).rd n i j =
    ((s.wr .vecStat 0 v).setFlag .msixPba (v % 32) false (v / 32)).rd n i j := rfl

theorem State.vectorSent_flag (s : State) (v : Nat) (n : RegName) (b i j : Nat) : (s.vectorSent v).flag n b i j =
    ((s.wr .vecStat 0 v).setFlag .msixPba (v % 32) false (v / 32)).flag n b i j := congrArg (getB · b) (s.vectorSent_rd v n i j)

theorem State.vectorSent_to (s : State) (v : Nat) : s.vectorsTo (s.vectorSent v) := by
  have written : ∀ m, s.vectorsTo { s with hostMem := m } := fun _ => ⟨rfl, fun _ _ _ _ => rfl⟩
  exact ((written _).wr (by decide) _ _ _).wr (by decide) _ _ _

theorem State.issueVector_free {s : State} {v : Nat} (h : s.vectorFree v = true) :
    s.issueVector v = (s.vectorSources v).foldl (fun s n => s.deliver n 128) (s.vectorSent v) := by
  have sources : (s.vectorSent v).vectorSources v = s.vectorSources v := by
    refine State.vectorSources_keeps (fun n i j hn => ?_) v
    obtain ⟨h1, h2⟩ : n ≠ .vecStat ∧ n ≠ .msixPba := by simpa using hn
    rw [State.vectorSent_rd, State.setFlag, State.rd_wr_name _ _ _ _ _ _ _ _ h2, State.rd_wr_name _ _ _ _ _ _ _ _ h1]
  unfold State.issueVector
  rw [if_pos h]
  exact congrArg (fun l => l.foldl (fun s n => s.deliver n 128) (s.vectorSent v)) sources

theorem State.issueVector_waits {s : State} {v : Nat} (h : s.vectorFree v = false) :
    s.issueVector v = (s.setFlag .vecStat 31 true v).setFlag .msixPba (v % 32) true (v / 32) := by
  unfold State.issueVector
  rw [if_neg (by rw [h]; decide)]

theorem State.issueVector_to (s : State) (v : Nat) : s.vectorsTo (s.issueVector v) := by
  by_cases h : s.vectorFree v = true
  · rw [State.issueVector_free h]
    exact (s.vectorSent_to v).delivers _ _
  · rw [State.issueVector_waits (by simpa using h)]
    exact ((State.vectorsTo.refl s).wr (by decide) _ _ _).wr (by decide) _ _ _

/-- What the issue of one vector leaves in VEC_STAT and in the PBA. -/
theorem State.issueVector_stat (s : State) (v k : Nat) :
    (k ≠ v → (s.issueVector v).rd .vecStat k = s.rd .vecStat k) ∧ (s.vectorFree v = true → (s.issueVector v).rd .vecStat v = 0) ∧
    (s.issueVector v).flag .msixPba (k % 32) (k / 32) = if k = v then !s.vectorFree v else s.flag .msixPba (k % 32) (k / 32) := by
  by_cases h : s.vectorFree v = true
  · obtain ⟨keeps, -, -⟩ := State.delivers_spec (s.vectorSources v) 128 (s.vectorSent v)
    rw [State.issueVector_free h]
    refine ⟨fun hk => ?_, fun _ => ?_, ?_⟩
    · rw [keeps _ _ _ (by decide), State.vectorSent_rd, State.setFlag, State.rd_wr_name _ _ _ _ _ _ _ _ (by decide)]
      exact s.rd_wr_ne _ _ _ _ _ _ _ (fun e => hk (congrArg RegKey.i e))
    · rw [keeps _ _ _ (by decide), State.vectorSent_rd, State.setFlag, State.rd_wr_name _ _ _ _ _ _ _ _ (by decide), State.rd_wr_self]
    · rw [State.keeps_flag keeps (by decide), State.vectorSent_flag, State.flag_setFlag_bit, State.flag,
        State.rd_wr_name _ _ _ _ _ _ _ _ (by decide), h]
      rfl
  · rw [Bool.not_eq_true] at h
    rw [State.issueVector_waits h, h]
    refine ⟨fun hk => ?_, nofun, ?_⟩
    · rw [State.setFlag, State.rd_wr_name _ _ _ _ _ _ _ _ (by decide)]
      exact s.rd_wr_ne _ _ _ _ _ _ _ (fun e => hk (congrArg RegKey.i e))
    · rw [State.flag_setFlag_bit, State.flag_setFlag_name _ (by decide)]
      rfl

theorem State.issueVector_waits_hostMem {s : State} {v : Nat} (h : s.vectorFree v = false) : (s.issueVector v).hostMem = s.hostMem := by
  rw [State.issueVector_waits h]
  rfl

/-- What the issue of vectors one after another leaves: each that is free is sent, and each that is not waits with its PBA bit. -/
theorem State.issueVectors_spec (l : List Nat) (s : State) : s.vectorsTo (l.foldl State.issueVector s) ∧
    (∀ k, k ∉ l → (l.foldl State.issueVector s).rd .vecStat k = s.rd .vecStat k ∧
      (l.foldl State.issueVector s).flag .msixPba (k % 32) (k / 32) = s.flag .msixPba (k % 32) (k / 32)) ∧
    (∀ k, k ∈ l → s.vectorFree k = true → (l.foldl State.issueVector s).rd .vecStat k = 0) ∧
    (∀ k, k ∈ l → (l.foldl State.issueVector s).flag .msixPba (k % 32) (k / 32) = !s.vectorFree k) ∧
    ((∀ k ∈ l, s.vectorFree k = false) → (l.foldl State.issueVector s).hostMem = s.hostMem) := by
  induction l generalizing s with
  | nil => exact ⟨.refl s, fun _ _ => ⟨rfl, rfl⟩, nofun, nofun, fun _ => rfl⟩
  | cons v r ih =>
    obtain ⟨rest, beside, sent, pba, mem⟩ := ih (s.issueVector v)
    have one := s.issueVector_to v
    rw [List.foldl_cons]
    refine ⟨one.trans rest, fun k hk => ?_, fun k hk hf => ?_, fun k hk => ?_, fun hf => ?_⟩
    · obtain ⟨hv, hr⟩ := List.ne_and_not_mem_of_not_mem_cons hk
      obtain ⟨stat, bit⟩ := beside k hr
      obtain ⟨same, -, flag⟩ := s.issueVector_stat v k
      exact ⟨stat.trans (same hv), bit.trans (flag.trans (if_neg hv))⟩
    · by_cases hr : k ∈ r
      · exact sent k hr (by rw [one.vectorFree]; exact hf)
      · obtain rfl := (List.mem_cons.mp hk).resolve_right hr
        obtain ⟨-, zero, -⟩ := s.issueVector_stat k k
        exact (beside k hr).1.trans (zero hf)
    · by_cases hr : k ∈ r
      · rw [pba k hr, one.vectorFree]
      · obtain rfl := (List.mem_cons.mp hk).resolve_right hr
        obtain ⟨-, -, flag⟩ := s.issueVector_stat k k
        exact (beside k hr).2.trans (flag.trans (if_pos rfl))
    · rw [mem (fun k hk => by rw [one.vectorFree]; exact hf k (List.mem_cons_of_mem _ hk))]
      exact State.issueVector_waits_hostMem (hf v List.mem_cons_self)

/-! ## The commands -/

theorem State.tick_supSource (s : State) : s.tick.supSource = s.supSource := by
  unfold State.supSource State.pend State.enabled State.active State.target State.prioOf State.fld State.flag
  simp only [State.tick_rd]

theorem State.tick_takenBy (s : State) : s.tick.takenBy = s.takenBy := by
  obtain ⟨_, _, h⟩ := s.tick_spec
  rw [h]

theorem State.tick_hostMem (s : State) : s.tick.hostMem = s.hostMem := by
  obtain ⟨_, _, h⟩ := s.tick_spec
  rw [h]

theorem State.tick_vectorFree (s : State) (v : Nat) : s.tick.vectorFree v = s.vectorFree v := by
  unfold State.vectorFree
  rw [State.tick_flag]
  obtain ⟨_, _, h⟩ := s.tick_spec
  rw [h]

theorem State.tick_keeps {s t : State} {l : List RegName} (h : s.tick.keeps t l) : s.keeps t l := fun n i j hn =>
  (h n i j hn).trans (s.tick_rd n i j)

theorem State.intGeneral_host (s : State) : s.intGeneral .host = true := by
  unfold State.intGeneral
  simp

section
variable {s : State} (hp : s.pstate < 3)
include hp

theorem exec_supClaim : exec (.supClaim .supervisor) s =
    .next ((s.tick.supClaim .supervisor).2.setRead 1 (s.tick.supClaim .supervisor).1) := by
  refine congrArg Host.Outcome.next ((if_neg (by omega)).trans (State.onBus_eq hp _))

theorem exec_supEoi (src : Byte) : exec (.supEoi .supervisor src) s = .next
    (if s.active src.toNat && s.takenBy.at 130 src.toNat == 129 then s.tick.complete src.toNat else s.tick.bumpW .intErr 0 16) := by
  refine congrArg Host.Outcome.next ((State.onBus_eq hp _).trans ?_)
  refine (if_neg (fun h => h.1 rfl)).trans ?_
  rw [show s.tick.active src.toNat = s.active src.toNat from s.tick_flag .., State.tick_takenBy]

theorem exec_hostEoi (src : Byte) : exec (.hostEoi .host src) s = .next
    (if s.active src.toNat && s.takenBy.at 130 src.toNat == 128 then s.tick.complete src.toNat else s.tick.bumpW .intErr 0 16) := by
  refine congrArg Host.Outcome.next ((State.onBus_eq hp _).trans ?_)
  refine (if_neg (by rw [State.intGeneral_host]; decide)).trans ?_
  rw [show s.tick.active src.toNat = s.active src.toNat from s.tick_flag .., State.tick_takenBy]

theorem exec_vectorIssue {vec : Fin 64} {ts : Stamp} (hd : s.vectorDue vec ts = true) : exec (.vectorIssue vec ts) s = .next
    (((s.vectorsBefore vec ts).foldl State.issueVector (s.reachIn islFabric ts)).issueVector vec) :=
  congrArg Host.Outcome.next (State.happens_eq hp hd _)

/-- A claim by the supervisor delivers the source it tells. -/
theorem exec_supClaim_some {p k : Nat} (h : s.supSource = some (p, k)) :
    exec (.supClaim .supervisor) s = .next ((s.tick.deliver k 129).setRead 1 (toW (k + 2 ^ 31))) := by
  have claim : s.tick.supClaim .supervisor = (toW (k + 2 ^ 31), s.tick.deliver k 129) := by
    unfold State.supClaim
    rw [if_neg (by decide), State.tick_supSource, h]
  rw [exec_supClaim hp, claim]

theorem exec_supClaim_none (h : s.supSource = none) : exec (.supClaim .supervisor) s = .next (s.tick.setRead 1 0) := by
  have claim : s.tick.supClaim .supervisor = (0, s.tick) := by
    unfold State.supClaim
    rw [if_neg (by decide), State.tick_supSource, h]
  rw [exec_supClaim hp, claim]

theorem exec_vecModWrite {vec : Fin 64} {v : Word} (hv : ¬(2 ≤ getF v 0 8 ∧ getF v 8 16 = 0)) :
    ∃ t, exec (.vecModWrite .host vec v) s = .next t ∧ s.tick.onlyRegs t [.vecMod, .vecStat] ∧ t.rd .vecMod vec = v &&& 0x80FFFFFF := by
  have acts : exec (.vecModWrite .host vec v) s = .next (s.tick.writeVecMod .host vec v) := congrArg _ (State.onBus_eq hp _)
  have stored : s.tick.onlyRegs (s.tick.wr .vecMod (v &&& 0x80FFFFFF) vec) [.vecMod, .vecStat] :=
    ⟨rfl, (s.tick.wr_stirs (by decide) _ _ _).2⟩
  refine ⟨_, acts, ?_⟩
  unfold State.writeVecMod
  rw [if_neg (by rw [State.intGeneral_host]; decide), if_neg hv]
  extract_lets t
  split
  · refine ⟨State.onlyRegs_trans stored ⟨rfl, (t.wr_stirs (by decide) _ _ _).2⟩, ?_⟩
    rw [State.setFlag, State.rd_wr_name _ _ _ _ _ _ _ _ (by decide)]
    exact State.rd_wr_self ..
  · exact ⟨stored, State.rd_wr_self ..⟩

end

/-- A vector that is due comes after those before it. -/
theorem State.not_mem_vectorsBefore (s : State) (v : Nat) (ts : Stamp) : v ∉ s.vectorsBefore v ts := by
  unfold State.vectorsBefore
  simp

theorem State.vectorsBefore_free {v k : Nat} {ts : Stamp} (s : State) (h : k ∈ s.vectorsBefore v ts) : s.vectorFree k = true := by
  unfold State.vectorsBefore at h
  simp only [List.mem_flatMap, List.mem_filter, Bool.and_eq_true] at h
  obtain ⟨_, -, ⟨-, ⟨-, free⟩, -⟩, -⟩ := h
  exact free

/-- The vector that the unmasking finds: enabled, and neither masked. -/
def State.unmasked (s : State) (vec : Nat) : State := { s.setFlag .msixVctrl 0 false vec with msixOn := true, msixMask := false }

theorem State.unmasked_rd (s : State) (vec : Nat) (n : RegName) (i j : Nat) :
    (s.unmasked vec).rd n i j = (s.setFlag .msixVctrl 0 false vec).rd n i j := rfl

theorem exec_vectorUnmask (vec : Fin 64) (ts : Stamp) (s : State) : ∃ t, exec (.vectorUnmask vec ts) s = .next t ∧
    t.flag .msixVctrl 0 vec = false ∧ t.msixOn = true ∧ t.msixMask = false ∧
    (s.vectorDue vec ts = false → t.hostMem = s.hostMem ∧ s.keeps t [.msixVctrl]) := by
  have keeps : s.keeps ((s.reachIn islFabric ts).unmasked vec) [.msixVctrl] := fun n i j h =>
    (State.unmasked_rd _ _ _ _ _).trans ((s.reachIn islFabric ts).setFlag_keeps .msixVctrl 0 false vec 0 n i j h)
  have due : ((s.reachIn islFabric ts).unmasked vec).vectorDue vec ts = s.vectorDue vec ts := by
    unfold State.vectorDue
    rw [State.keeps_flag keeps (by decide), State.keeps_fld keeps (by decide), State.keeps_fld keeps (by decide)]
    rfl
  have clear : ((s.reachIn islFabric ts).unmasked vec).flag .msixVctrl 0 vec = false := by
    rw [State.flag, State.unmasked_rd]
    exact (s.reachIn islFabric ts).flag_setFlag_self .msixVctrl 0 false vec 0 (by decide)
  have acts : exec (.vectorUnmask vec ts) s = .next (if s.vectorDue vec ts then ((s.reachIn islFabric ts).unmasked vec).issueVector vec
      else (s.reachIn islFabric ts).unmasked vec) := by
    rw [← due]
    rfl
  refine ⟨_, acts, ?_⟩
  by_cases hd : s.vectorDue vec ts = true
  · obtain ⟨eq, kept⟩ := ((s.reachIn islFabric ts).unmasked vec).issueVector_to vec
    rw [if_pos hd]
    refine ⟨(State.keeps_flag kept (by decide) _ _ _).trans clear, ?_, ?_, fun h => absurd (hd.symm.trans h) (by decide)⟩
    · rw [eq]
      rfl
    · rw [eq]
      rfl
  · rw [if_neg hd]
    exact ⟨clear, rfl, rfl, fun _ => ⟨rfl, keeps⟩⟩

theorem State.reachIn_vectorFree (s : State) (i : Nat) (ts : Stamp) (v : Nat) : (s.reachIn i ts).vectorFree v = s.vectorFree v := rfl
theorem State.reachIn_vectorSources (s : State) (i : Nat) (ts : Stamp) (v : Nat) :
    (s.reachIn i ts).vectorSources v = s.vectorSources v := rfl

/-- A vector that issues: its word in host memory, its registers clear, and its sources delivered. -/
theorem State.issueVector_sent {s : State} {v : Nat} (h : s.vectorFree v = true) :
    let addr := (stampOf (s.rd .msixAddrLo v) (s.rd .msixAddrHi v)).toNat
    (s.issueVector v).hostMem.word addr = s.rd .msixData v ∧ (s.issueVector v).rd .vecStat v = 0 ∧
      (s.issueVector v).flag .msixPba (v % 32) (v / 32) = false ∧
      (∀ k ∈ s.vectorSources v, (s.issueVector v).active k = true ∧ (s.issueVector v).pend k = false) ∧
      ∀ c, c < addr ∨ addr + 4 ≤ c → (s.issueVector v).hostMem.byte c = s.hostMem.byte c := by
  intro addr
  obtain ⟨-, zero, bit⟩ := s.issueVector_stat v v
  rw [if_pos rfl, h] at bit
  obtain ⟨-, mem, sources⟩ := State.delivers_spec (s.vectorSources v) 128 (s.vectorSent v)
  have stored : (s.issueVector v).hostMem = s.hostMem.putWord addr (s.rd .msixData v) := by
    rw [State.issueVector_free h]
    exact mem
  refine ⟨?_, zero h, bit, fun k hk => ?_, fun c hc => ?_⟩
  · rw [stored, Mem.word_putWord_self]
  · rw [State.issueVector_free h]
    obtain ⟨active, pend⟩ := sources k
    exact ⟨active (.inl hk), pend (.inl hk)⟩
  · rw [stored, Mem.byte_putWord_ne _ _ _ _ hc]

/-- What a claim leaves. -/
theorem State.claimed (s : State) (k : Nat) (w : Word) : ((s.deliver k 129).setRead 1 w).active k = true ∧
    ((s.deliver k 129).setRead 1 w).pend k = false ∧ ((s.deliver k 129).setRead 1 w).takenBy.at 130 k = 129 ∧
    s.keeps ((s.deliver k 129).setRead 1 w) [.intPendSet, .intActive] :=
  ⟨(s.deliver_active k 129 k).trans (if_pos rfl), (s.deliver_pend k 129 k).trans (if_pos rfl), SMap.at_set_self 130 s.takenBy k 129,
    s.deliver_keeps k 129⟩

/-! ## SLEEP_INTENT -/

/-- A vector gathers events. -/
def State.gathers (s : State) (i : Nat) : Bool := decide (i < 64) && s.fld .vecStat 0 8 i != 0

/-- The vectors that gather. -/
def State.gathering (s : State) : List Nat := (List.range 64).filter (fun v => s.fld .vecStat 0 8 v != 0)

theorem State.mem_gathering {s : State} {i : Nat} (h : s.gathers i = true) : i ∈ s.gathering := by
  obtain ⟨lt, some⟩ := Bool.and_eq_true_iff.mp h
  exact List.mem_filter.mpr ⟨List.mem_range.mpr (of_decide_eq_true lt), some⟩

theorem State.tick_flushVectors (s : State) : s.tick.flushVectors = s.gathering.foldl State.issueVector s.tick := by
  unfold State.flushVectors State.gathering
  simp only [State.tick_fld]
  rfl

/-- What a flush leaves where MSI-X is off, and where every vector that is not masked may issue. -/
theorem State.flush_spec (s : State) : s.tick.vectorsTo s.tick.flushVectors ∧
    (s.msixOn = false → s.tick.flushVectors.hostMem = s.hostMem ∧
      ∀ i, s.gathers i = true → s.tick.flushVectors.flag .msixPba (i % 32) (i / 32) = true) ∧
    (s.msixOn = true → s.msixMask = false → s.d3hot = false → (s.hostLink = .up ∨ s.hostLink = .l1) →
      ∀ i, s.gathers i = true → s.flag .msixVctrl 0 i = false → s.tick.flushVectors.rd .vecStat i = 0 ∧
        s.tick.flushVectors.flag .msixPba (i % 32) (i / 32) = false) := by
  rw [State.tick_flushVectors]
  obtain ⟨only, -, sent, pba, mem⟩ := State.issueVectors_spec s.gathering s.tick
  refine ⟨only, fun off => ?_, fun on unmasked awake linked i hi clear => ?_⟩
  · have barred : ∀ v, s.tick.vectorFree v = false := fun v => by
      rw [State.tick_vectorFree, State.vectorFree, off]
      rfl
    refine ⟨(mem (fun v _ => barred v)).trans s.tick_hostMem, fun i hi => ?_⟩
    rw [pba i (State.mem_gathering hi), barred]
    rfl
  · have free : s.tick.vectorFree i = true := by
      rw [State.tick_vectorFree, State.vectorFree, on, unmasked, clear, awake]
      obtain up | l1 := linked
      · rw [up]
        rfl
      · rw [l1]
        rfl
    refine ⟨sent i (State.mem_gathering hi) free, ?_⟩
    rw [pba i (State.mem_gathering hi), free]
    rfl

theorem State.flush_none {s : State} (h : ∀ i, i < 64 → s.fld .vecStat 0 8 i = 0) : s.tick.flushVectors = s.tick := by
  have none : s.gathering = [] := List.filter_eq_nil_iff.mpr (fun i hi => by simp [h i (List.mem_range.mp hi)])
  rw [State.tick_flushVectors, none]
  rfl

theorem State.tick_gpr (s : State) : s.tick.gpr = s.gpr := by
  obtain ⟨_, _, h⟩ := s.tick_spec
  rw [h]

theorem State.accErr_only (s : State) (m : Master) (off : Nat) (r : AccReason) : (s.accErr m off r).taskMem = s.taskMem ∧
    (s.accErr m off r).gpr = s.gpr ∧ (s.accErr m off r).hostMem = s.hostMem := by
  obtain ⟨eq, -⟩ := s.accErr_stirs m off r
  rw [eq]
  exact ⟨rfl, rfl, rfl⟩

/-- A write of the intent by any master leaves task memory and the general registers. -/
theorem State.writeHostPm_only (s : State) (m : Master) :
    (s.tick.writeHostPm m).taskMem = s.taskMem ∧ (s.tick.writeHostPm m).gpr = s.gpr := by
  unfold State.writeHostPm
  split
  · obtain ⟨⟨eq, -⟩, -⟩ := s.flush_spec
    rw [eq]
    exact ⟨s.tick_taskMem, s.tick_gpr⟩
  · obtain ⟨tm, gpr, -⟩ := (s.tick.bumpW .intErr 0 16).accErr_only m (RegKey.offset ⟨.hostPm, 0, 0⟩) .privilege
    exact ⟨tm.trans s.tick_taskMem, gpr.trans s.tick_gpr⟩

theorem State.tick_intGeneral (s : State) (m : Master) : s.tick.intGeneral m = s.intGeneral m := by
  unfold State.intGeneral State.isKeystone State.isService State.privOf State.psw State.ceil State.cf
  simp only [State.tick_fld]
  obtain ⟨_, _, h⟩ := s.tick_spec
  rw [h]
  rfl

/-- A master that may not write the intent is counted (R347). -/
theorem State.intDrop_counted (s : State) (m : Master) (off : Nat) :
    (s.intDrop m off).fld .sysAccerr 0 16 = (s.fld .sysAccerr 0 16 + 1) % 65536 ∧ (s.intDrop m off).hostMem = s.hostMem := by
  obtain ⟨count, -⟩ := (s.bumpW .intErr 0 16).accErr_counted m off (r := .privilege) (by decide) (by decide)
  obtain ⟨-, -, mem⟩ := (s.bumpW .intErr 0 16).accErr_only m off .privilege
  have same : (s.bumpW .intErr 0 16).fld .sysAccerr 0 16 = s.fld .sysAccerr 0 16 :=
    State.keeps_fld (s.wr_onlyRegs .intErr _ 0 0).2 (by decide) _ _ _ _
  rw [same] at count
  exact ⟨count, mem⟩

theorem exec_sleepIntent_write {s : State} (hp : s.pstate < 3) (m : Master) : exec (.sleepIntent (.write m)) s = .next
    (if s.intGeneral m then s.tick.flushVectors else s.tick.intDrop m (RegKey.offset ⟨.hostPm, 0, 0⟩)) := by
  refine congrArg Host.Outcome.next ((State.onBus_eq hp _).trans ?_)
  unfold State.writeHostPm
  rw [State.tick_intGeneral]

theorem exec_sleepIntent_l1 {s : State} (hp : s.pstate < 3) (hl : s.hostLink = .up) :
    exec (.sleepIntent .l1) s = .next { s.tick.flushVectors with hostLink := .l1 } := by
  refine congrArg Host.Outcome.next ((if_pos hl).trans ?_)
  rw [State.onBus_eq hp]

theorem State.onBus_deep {s : State} (hp : ¬s.pstate < 3) (f : State → State) : s.onBus f = s := if_pos (by omega)

/-- Whatever the event, task memory and the general registers stay. -/
theorem exec_sleepIntent_only (e : PmEvent) (s : State) :
    ∃ t, exec (.sleepIntent e) s = .next t ∧ t.taskMem = s.taskMem ∧ t.gpr = s.gpr := by
  cases e with
  | write m =>
    by_cases hp : s.pstate < 3
    · exact ⟨_, congrArg Host.Outcome.next (State.onBus_eq hp _), s.writeHostPm_only m⟩
    · exact ⟨_, congrArg Host.Outcome.next (State.onBus_deep hp _), rfl, rfl⟩
  | l1 =>
    by_cases hl : s.hostLink = .up
    · by_cases hp : s.pstate < 3
      · obtain ⟨⟨eq, -⟩, -⟩ := s.flush_spec
        refine ⟨_, exec_sleepIntent_l1 hp hl, ?_⟩
        rw [eq]
        exact ⟨s.tick_taskMem, s.tick_gpr⟩
      · have acts : exec (.sleepIntent .l1) s = .next { s with hostLink := .l1 } := by
          refine congrArg Host.Outcome.next ((if_pos hl).trans ?_)
          rw [State.onBus_deep hp]
        exact ⟨_, acts, rfl, rfl⟩
    · exact ⟨_, congrArg Host.Outcome.next (if_neg hl), rfl, rfl⟩
  | d3hot =>
    by_cases hl : s.hostLink = .up ∨ s.hostLink = .l1
    · exact ⟨_, congrArg Host.Outcome.next (if_pos hl), rfl, rfl⟩
    · exact ⟨_, congrArg Host.Outcome.next (if_neg hl), rfl, rfl⟩
  | l2 =>
    by_cases hl : s.d3hot = true ∧ s.hostLink = .l1
    · exact ⟨_, congrArg Host.Outcome.next (if_pos hl), rfl, rfl⟩
    · exact ⟨_, congrArg Host.Outcome.next (if_neg hl), rfl, rfl⟩
  | d0 =>
    by_cases hl : s.hostLink = .l1
    · exact ⟨_, congrArg Host.Outcome.next (if_pos hl), rfl, rfl⟩
    · exact ⟨_, congrArg Host.Outcome.next (if_neg hl), rfl, rfl⟩

/-- Where the link is in neither L0 nor L1, only the write acts. -/
theorem exec_sleepIntent_unlinked {e : PmEvent} {s : State} (hu : s.hostLink ≠ .up) (hl : s.hostLink ≠ .l1)
    (he : ∀ m, e ≠ .write m) : exec (.sleepIntent e) s = .next s := by
  cases e with
  | write m => exact absurd rfl (he m)
  | l1 => exact congrArg Host.Outcome.next (if_neg hu)
  | d3hot => exact congrArg Host.Outcome.next (if_neg (not_or.mpr ⟨hu, hl⟩))
  | l2 => exact congrArg Host.Outcome.next (if_neg (fun h => hl h.2))
  | d0 => exact congrArg Host.Outcome.next (if_neg hl)

/-- Settles O24: claims and completions from what delivering and completing a source leave; the vectors from what issuing leaves. -/
theorem deliveries : Obligations.Deliveries := by
  unfold Obligations.Deliveries
  refine ⟨fun vec src v ts s hp => ?events, fun e m s => ?sleep⟩
  case events =>
    refine ⟨fun p k hk => ?claim, fun hn => ?claimNone, fun ha ht => ?supEoi, fun ha ht => ?hostEoi, fun hn => ?hostEoiNone,
      fun hd hf hb => ?issue, fun hd => ?before, fun hd hf hb => ?waits, exec_vectorUnmask vec ts s, exec_vecModWrite hp⟩
    case claim =>
      obtain ⟨active, pend, taken, keeps⟩ := s.tick.claimed k (toW (k + 2 ^ 31))
      exact ⟨_, exec_supClaim_some hp hk, State.readOf_setRead .., active, pend, taken, State.tick_keeps keeps⟩
    case claimNone => exact ⟨_, exec_supClaim_none hp hn, State.readOf_setRead .., s.tick_regs⟩
    case' supEoi => have acts := (exec_supEoi hp src).trans (congrArg Host.Outcome.next (if_pos (by rw [ha, ht]; rfl)))
    case' hostEoi => have acts := (exec_hostEoi hp src).trans (congrArg Host.Outcome.next (if_pos (by rw [ha, ht]; rfl)))
    case' supEoi | hostEoi =>
      obtain ⟨active, pend, keeps⟩ := s.tick.complete_spec src.toNat
      exact ⟨_, acts, active, (pend src.toNat).trans (s.tick_flag ..), State.tick_keeps keeps⟩
    case hostEoiNone =>
      have other : ¬(s.active src.toNat && s.takenBy.at 130 src.toNat == 128) = true := by
        obtain ha | ht := hn
        · simp [ha]
        · simp [ht]
      refine ⟨_, (exec_hostEoi hp src).trans (congrArg Host.Outcome.next (if_neg other)), s.tick.wr_onlyRegs .intErr _ 0 0, ?_⟩
      refine (s.tick.fld_bumpW_self .intErr 0 16 0 0 1 (by decide)).trans ?_
      exact congrArg (fun v => (v + 1) % 65536) (s.tick_fld .intErr 0 16 0 0)
    case issue =>
      have acts := exec_vectorIssue hp hd
      rw [hb] at acts
      have free : (s.reachIn islFabric ts).vectorFree vec = true := hf
      exact ⟨_, acts, State.issueVector_sent free⟩
    case before =>
      refine ⟨_, exec_vectorIssue hp hd, fun k hk => ?_⟩
      obtain ⟨-, -, sent, -, -⟩ := State.issueVectors_spec (s.vectorsBefore vec ts) (s.reachIn islFabric ts)
      obtain ⟨beside, -, -⟩ := ((s.vectorsBefore vec ts).foldl State.issueVector (s.reachIn islFabric ts)).issueVector_stat vec k
      exact (beside (fun e => s.not_mem_vectorsBefore vec ts (e ▸ hk))).trans (sent k hk (s.vectorsBefore_free hk))
    case waits =>
      have acts := exec_vectorIssue hp hd
      have barred : (s.reachIn islFabric ts).vectorFree vec = false := hf
      rw [hb, List.foldl_nil, State.issueVector_waits barred] at acts
      refine ⟨_, acts, ?_, ?_, rfl⟩
      · exact (State.flag_setFlag_bit _ .msixPba vec vec true).trans (if_pos rfl)
      · rw [State.flag_setFlag_name _ (by decide)]
        exact State.flag_setFlag_self _ _ _ _ _ _ (by decide)
  case sleep =>
    intro gathers shown sent
    obtain ⟨⟨eq, -⟩, off, on⟩ := s.flush_spec
    refine ⟨exec_sleepIntent_only e s, fun hp hm => ?general, fun hp hm => ?dropped, fun hp hl hd => ?l1,
      fun h => congrArg Host.Outcome.next (if_pos h), fun hl hd => congrArg Host.Outcome.next (if_pos ⟨hd, hl⟩), fun hl => congrArg Host.Outcome.next (if_pos hl), exec_sleepIntent_unlinked⟩
    case general =>
      have acts := (exec_sleepIntent_write hp m).trans (congrArg Host.Outcome.next (if_pos hm))
      exact ⟨fun h => ⟨_, acts, off h⟩, fun h1 h2 h3 h4 => ⟨_, acts, on h1 h2 h3 h4⟩,
        fun hn => acts.trans (congrArg Host.Outcome.next (State.flush_none hn))⟩
    case dropped =>
      have acts := (exec_sleepIntent_write hp m).trans (congrArg Host.Outcome.next (if_neg (by rw [hm]; decide)))
      obtain ⟨count, mem⟩ := s.tick.intDrop_counted m (RegKey.offset ⟨.hostPm, 0, 0⟩)
      rw [State.tick_fld] at count
      exact ⟨_, acts, count, mem.trans s.tick_hostMem⟩
    case l1 => exact ⟨_, exec_sleepIntent_l1 hp hl, rfl, off, fun h1 h2 => on h1 h2 hd (.inl hl)⟩

end Sys2Proof.Machine
end

section
/-! PROOFS. Register writes on the bus (R5 to R7, R304, R306). -/

namespace Sys2Proof.Machine

/-- Registers whose write puts the read-write bits and clears the write-1-to-clear bits, and no more. -/
def plainRegs : List RegName :=
  [.lockWatch, .lockFreed, .govIen, .govEvt, .logIen, .logEvt, .logFlush, .logWmark, .calIen, .calEvt, .portIen,
    .portEvt, .portScrEntry, .dmaIen, .dmaEvt, .fltIen, .ctxEntry, .codeBase, .codeSize, .dataBase, .dataSize, .tabBase, .tabSize,
    .ctxIomask, .ctxTilesLo, .ctxTilesHi, .ctxPorts, .ctxNointLim]

/-- A plain register is written behind the gate of its unit. -/
theorem State.writeKey_plain (s : State) (m : Master) (v : Word) (i j : Nat) : ∀ n ∈ plainRegs,
    s.writeKey m ⟨n, i, j⟩ v = s.gate m n i j (·.plainWrite ⟨n, i, j⟩ v) := by
  unfold plainRegs
  simp only [List.forall_mem_cons, List.not_mem_nil, false_implies, implies_true, and_true]
  and_intros
  all_goals rfl

/-- Waking a unit touches no plain register. -/
theorem plainRegs_not_wake : ∀ n ∈ plainRegs, n ∉ wakeRegs := by decide

theorem exec_registerWrite {s : State} (hp : s.pstate < 3) (m : Master) (off width : Nat) (v : Word) :
    exec (.registerWrite m off width v) s = .next (s.tick.busWrite m off width v) :=
  congrArg Host.Outcome.next (State.onBus_eq hp _)

/-! ## What a write on the bus does -/

section
variable {s : State} {m : Master} {off width : Nat} {v : Word}

theorem State.busWrite_reg {k : RegKey} (hr : s.reachable off = true) (hw : taskWindow off = none) (hb : off < 0x80000000)
    (ha : off % 4 = 0) (hk : regAt off = some k) : s.busWrite m off 4 v = s.writeKey m k v := by
  unfold State.busWrite
  rw [if_neg (fun h => absurd h.1 (Nat.not_le.mpr hb)), hr, if_neg (by decide), hw]
  dsimp only
  rw [if_neg (fun h => absurd h.1 (by decide)), if_neg (by omega), hk]

theorem State.busWrite_reserved (hr : s.reachable off = true) (hw : taskWindow off = none) (hb : off < 0x80000000)
    (ha : off % 4 = 0) (hk : regAt off = none) : s.busWrite m off 4 v = s.accErr m off .reserved := by
  unfold State.busWrite
  rw [if_neg (fun h => absurd h.1 (Nat.not_le.mpr hb)), hr, if_neg (by decide), hw]
  dsimp only
  rw [if_neg (fun h => absurd h.1 (by decide)), if_neg (by omega), hk]

theorem State.busWrite_width (hr : s.reachable off = true) (hw : taskWindow off = none) (hb : off < 0x80000000)
    (h4 : width ≠ 4) (h8 : width ≠ 8) : s.busWrite m off width v = s.accErr m off .width := by
  unfold State.busWrite
  rw [if_neg (fun h => absurd h.1 (Nat.not_le.mpr hb)), hr, if_neg (by decide), hw]
  dsimp only
  rw [if_neg (fun h => h8 h.1), if_pos (.inl h4)]

theorem State.busWrite_task (hr : s.reachable off = true) (hl : 0x1000000 ≤ off) (hh : off < 0x13C0000) (hm : m ≠ .supervisor)
    (hw : width = 1 ∨ width = 2 ∨ width = 4) (ha : off % width = 0) : s.busWrite m off width v =
      if width = 1 then { s with taskMem := s.taskMem.putByte (off - 0x1000000) (byteOf v 0) }
      else if width = 2 then { s with taskMem := s.taskMem.putHalf (off - 0x1000000) v }
      else s.setTm (off - 0x1000000) v := by
  have window : taskWindow off = some (off - 0x1000000) := if_pos ⟨hl, by omega⟩
  unfold State.busWrite
  rw [if_neg (fun h => absurd h.1 (by unfold bar2Base; omega)), hr, if_neg (by decide), window]
  dsimp only
  have fits : ¬(!(width == 1 || width == 2 || width == 4) || off % width != 0) = true := by
    rw [ha]
    obtain rfl | rfl | rfl := hw <;> decide
  rw [if_neg hm, if_neg fits, if_neg (by omega)]
  obtain rfl | rfl | rfl := hw
  · rfl
  · rfl
  · rfl

theorem State.busWrite_task_supervisor (hr : s.reachable off = true) (hl : 0x1000000 ≤ off) (hh : off < 0x13C0000) :
    s.busWrite .supervisor off width v = s.accErr .supervisor off .privilege := by
  have window : taskWindow off = some (off - 0x1000000) := if_pos ⟨hl, by omega⟩
  unfold State.busWrite
  rw [if_neg (fun h => absurd h.1 (by unfold bar2Base; omega)), hr, if_neg (by decide), window]
  dsimp only
  rw [if_pos rfl]

end

theorem Mem.half_putHalf (m : Mem) (a : Nat) (w : Word) : (m.putHalf a w).half a = w.toNat % 65536 := by
  unfold Mem.half
  rw [show (m.putHalf a w).byte a = byteOf w 0 from m.byte_putHalf a w (by decide : 0 < 2), m.byte_putHalf a w (by decide : 1 < 2)]
  simp only [byteOf, BitVec.toNat_ofNat, Nat.shiftRight_eq_div_pow]
  omega

/-- A plain register written where the access is let through holds the bits put and cleared. -/
theorem State.plain_written {s : State} {m : Master} {k : RegKey} {v : Word} (hk : k.name ∈ plainRegs)
    (hl : s.lets m k.name k.i k.j = true) : (s.tick.writeKey m k v).rd k.name k.i k.j =
      ((s.rd k.name k.i k.j &&& ~~~(toW k.name.row.rw)) ||| (v &&& toW k.name.row.rw)) &&& ~~~(v &&& toW k.name.row.w1c) := by
  have hp : s.pstate < 3 := by
    unfold State.lets at hl
    simp only [Bool.and_eq_true, decide_eq_true_eq] at hl
    exact hl.1.2
  have gated : s.tick.writeKey m k v = (s.arrived k.name k.i k.j).plainWrite k v := by
    refine (s.tick.writeKey_plain m v k.i k.j k.name hk).trans ?_
    exact (State.onBus_eq hp _).symm.trans (State.access_eq hl _)
  rw [gated, State.plainWrite, State.rd_wr_self, s.arrived_keeps k.name k.i k.j _ _ _ (plainRegs_not_wake _ hk)]

/-- Settles O25: each form of a write by its own lemma. -/
theorem registerWrites : Obligations.RegisterWrites := by
  unfold Obligations.RegisterWrites
  intro m off v s hp hr a inTm
  have reach : s.tick.reachable off = true := (s.tick_reachable off).trans hr
  have acts := fun width => exec_registerWrite hp m off width v
  refine ⟨fun k hk hw hb ha hl hn => ?plain, fun hk hw hb ha => ?reserved, fun hw hb w h4 h8 => ?width, fun ht hm ha => ?word, fun ht hm ha => ?half,
    fun ht hm => ?byte, fun ht hm => ?supervisor⟩
  case plain => exact ⟨_, (acts 4).trans (congrArg _ (State.busWrite_reg reach hw hb ha hk)), State.plain_written hn hl⟩
  case reserved =>
    obtain ⟨count, addr⟩ := s.tick.accErr_reserved m off
    rw [State.tick_fld] at count
    obtain ⟨tm, -, -⟩ := s.tick.accErr_only m off .reserved
    refine ⟨_, (acts 4).trans (congrArg _ (State.busWrite_reserved reach hw hb ha hk)), State.tick_keeps (s.tick.accErr_stirs m off _).2,
      addr, count, State.pend_raise rfl, tm.trans s.tick_taskMem⟩
  case width =>
    obtain ⟨count, -⟩ := s.tick.accErr_counted m off (r := .width) (by decide) (by decide)
    rw [State.tick_fld] at count
    exact ⟨_, (acts w).trans (congrArg _ (State.busWrite_width reach hw hb h4 h8)), State.tick_keeps (s.tick.accErr_stirs m off _).2, count⟩
  case word =>
    refine ⟨_, (acts 4).trans (congrArg _ (State.busWrite_task reach ht.1 ht.2 hm (by decide) ha)), s.tick_regs, State.tm_setTm_self .., fun c hc => ?_⟩
    exact (Mem.byte_putWord_ne _ _ _ _ hc).trans (congrArg (Mem.byte · c) s.tick_taskMem)
  case half =>
    refine ⟨_, (acts 2).trans (congrArg _ (State.busWrite_task reach ht.1 ht.2 hm (by decide) ha)), s.tick_regs, Mem.half_putHalf .., fun c hc => ?_⟩
    exact (Mem.byte_putHalf_ne _ _ _ _ hc).trans (congrArg (Mem.byte · c) s.tick_taskMem)
  case byte =>
    refine ⟨_, (acts 1).trans (congrArg _ (State.busWrite_task reach ht.1 ht.2 hm (by decide) (Nat.mod_one _))), s.tick_regs, Mem.byte_putByte_self ..,
      fun c hc => ?_⟩
    exact (Mem.byte_putByte_ne _ _ _ _ hc).trans (congrArg (Mem.byte · c) s.tick_taskMem)
  case supervisor =>
    subst hm
    obtain ⟨tm, -, -⟩ := s.tick.accErr_only .supervisor off .privilege
    exact ⟨_, (acts 4).trans (congrArg _ (State.busWrite_task_supervisor reach ht.1 ht.2)), tm.trans s.tick_taskMem⟩

end Sys2Proof.Machine
end


section
/-! PROOFS. Registers after updates, the frame of registers that an operation may change, and what a fault record leaves. -/

namespace Sys2Proof.Machine

/-! ## Fields of a word, as rules of simp -/

@[simp] theorem getF_putF_same {n : Nat} (w : BitVec n) (lo len v : Nat) (h : lo + len ≤ n) :
    getF (putF w lo len v) lo len = v % 2 ^ len := getF_putF_self w lo len v h

@[simp] theorem getF_putF_off {n : Nat} (w : BitVec n) (lo len v lo' len' : Nat) (h : lo' + len' ≤ lo ∨ lo + len ≤ lo') :
    getF (putF w lo len v) lo' len' = getF w lo' len' := getF_putF_beside w lo len v lo' len' h

@[simp] theorem getF_putB_off {n : Nat} (w : BitVec n) (i lo len : Nat) (b : Bool) (h : i < lo ∨ lo + len ≤ i) :
    getF (putB w i b) lo len = getF w lo len := getF_putF_beside w i 1 _ lo len (by omega)

@[simp] theorem getB_putF_off {n : Nat} (w : BitVec n) (lo len v i : Nat) (h : i < lo ∨ lo + len ≤ i) :
    getB (putF w lo len v) i = getB w i := getLsbD_putF_outside w lo len v i h

@[simp] theorem getB_putB_same {n : Nat} (w : BitVec n) (i : Nat) (b : Bool) (h : i < n) : getB (putB w i b) i = b :=
  getB_putB_self w i b h

@[simp] theorem getB_putB_off {n : Nat} (w : BitVec n) (i j : Nat) (b : Bool) (h : j ≠ i) : getB (putB w i b) j = getB w j :=
  getB_putB_ne w i j b h

@[simp] theorem getF_addSat_same (w : Word) (lo len k : Nat) (h : lo + len ≤ 32) :
    getF (addSat w lo len k) lo len = min (2 ^ len - 1) (getF w lo len + k) := by
  have := Nat.two_pow_pos len
  unfold addSat satNat
  rw [getF_putF_self _ _ _ _ h, Nat.mod_eq_of_lt (by omega), Nat.min_comm]

@[simp] theorem getF_addSat_off (w : Word) (lo len k lo' len' : Nat) (h : lo' + len' ≤ lo ∨ lo + len ≤ lo') :
    getF (addSat w lo len k) lo' len' = getF w lo' len' := getF_putF_beside w lo len _ lo' len' h

@[simp] theorem getB_addSat_off (w : Word) (lo len k i : Nat) (h : i < lo ∨ lo + len ≤ i) :
    getB (addSat w lo len k) i = getB w i := getLsbD_putF_outside w lo len _ i h

theorem getF_lt {n : Nat} (w : BitVec n) (lo len : Nat) : getF w lo len < 2 ^ len := Nat.mod_lt _ (Nat.two_pow_pos len)

/-- A field read in two pieces. -/
theorem getF_add {n : Nat} (w : BitVec n) (lo a b : Nat) : getF w lo (a + b) = getF w lo a + 2 ^ a * getF w (lo + a) b := by
  unfold getF
  rw [Nat.pow_add, Nat.mod_mul, Nat.shiftRight_add, Nat.shiftRight_eq_div_pow _ a]

/-- A field of one bit. -/
theorem getF_bit {n : Nat} (w : BitVec n) (i : Nat) : getF w i 1 = (getB w i).toNat := by
  unfold getF getB
  rw [BitVec.getLsbD, Nat.toNat_testBit, Nat.shiftRight_eq_div_pow, Nat.pow_one]

theorem State.fld_lt (s : State) (n : RegName) (lo len i j : Nat) : s.fld n lo len i j < 2 ^ len := getF_lt _ _ _

/-! ## Registers through updates of other parts of the state -/

@[simp] theorem State.rd_wr_index (s : State) (n : RegName) (w : Word) (i i' j j' : Nat) (h : i' ≠ i) :
    (s.wr n w i j).rd n i' j' = s.rd n i' j' :=
  s.rd_wr_ne n n w i j i' j' (fun e => h (RegKey.mk.inj e).2.1)

@[simp] theorem State.rd_reach (s : State) (ts : Stamp) (n : RegName) (i j : Nat) : (s.reach ts).rd n i j = s.rd n i j := rfl
@[simp] theorem State.rd_reachIn (s : State) (k : Nat) (ts : Stamp) (n : RegName) (i j : Nat) :
    (s.reachIn k ts).rd n i j = s.rd n i j := rfl
@[simp] theorem State.reachIn_pstate (s : State) (k : Nat) (ts : Stamp) : (s.reachIn k ts).pstate = s.pstate := rfl
@[simp] theorem State.rd_setAhead (s : State) (k : Nat) (d : Int) (n : RegName) (i j : Nat) :
    (s.setAhead k d).rd n i j = s.rd n i j := rfl
theorem State.ahead_setAhead_self (s : State) (i : Nat) (d : Int) : (s.setAhead i d).ahead i = d := SMap.at_set_self _ _ _ _
theorem State.ahead_setAhead_ne (s : State) {i k : Nat} (d : Int) (h : k ≠ i) : (s.setAhead i d).ahead k = s.ahead k :=
  SMap.at_set_ne _ _ _ _ _ h
@[simp] theorem State.ahead_wr (s : State) (n : RegName) (w : Word) (i j k : Nat) : (s.wr n w i j).ahead k = s.ahead k := rfl

/-! ## The frame of registers -/

namespace State.keeps

variable {s t u : State} {l : List RegName}

theorem refl (s : State) (l : List RegName) : s.keeps s l := fun _ _ _ _ => rfl
theorem trans (h : s.keeps t l) (h' : t.keeps u l) : s.keeps u l := fun n i j hn => (h' n i j hn).trans (h n i j hn)
theorem mono {l' : List RegName} (h : s.keeps t l) (hl : l ⊆ l') : s.keeps t l' := fun n i j hn => h n i j (fun hm => hn (hl hm))
theorem wr (h : s.keeps t l) {n : RegName} (hn : n ∈ l) (w : Word) (i j : Nat) : s.keeps (t.wr n w i j) l :=
  h.trans (t.wr_stirs hn w i j).2
theorem ite {p : Prop} [Decidable p] (h : s.keeps t l) (h' : s.keeps u l) : s.keeps (if p then t else u) l := by
  split
  · exact h
  · exact h'
theorem when (h : s.keeps t l) (b : Bool) {f : State → State} (hf : ∀ v, State.keeps v (f v) l) : s.keeps (t.when b f) l :=
  .ite (h.trans (hf t)) h
theorem each (h : s.keeps t l) (as : List Nat) {f : State → Nat → State} (hf : ∀ v a, State.keeps v (f v a) l) :
    s.keeps (t.each as f) l := by
  unfold State.each
  induction as generalizing t with
  | nil => exact h
  | cons a r ih => exact ih (h.trans (hf t a))

end State.keeps

namespace State.onlyRegs

variable {s t u : State} {l : List RegName}

theorem refl (s : State) (l : List RegName) : s.onlyRegs s l := ⟨rfl, .refl s l⟩
theorem trans (h : s.onlyRegs t l) (h' : t.onlyRegs u l) : s.onlyRegs u l := State.onlyRegs_trans h h'
theorem mono {l' : List RegName} (h : s.onlyRegs t l) (hl : l ⊆ l') : s.onlyRegs t l' := ⟨h.1, State.keeps.mono h.2 hl⟩
theorem wr (h : s.onlyRegs t l) {n : RegName} (hn : n ∈ l) (w : Word) (i j : Nat) : s.onlyRegs (t.wr n w i j) l :=
  h.trans ⟨rfl, (t.wr_stirs hn w i j).2⟩
theorem ite {p : Prop} [Decidable p] (h : s.onlyRegs t l) (h' : s.onlyRegs u l) : s.onlyRegs (if p then t else u) l := by
  split
  · exact h
  · exact h'
theorem when (h : s.onlyRegs t l) (b : Bool) {f : State → State} (hf : ∀ v, State.onlyRegs v (f v) l) :
    s.onlyRegs (t.when b f) l := .ite (h.trans (hf t)) h
theorem each (h : s.onlyRegs t l) (as : List Nat) {f : State → Nat → State} (hf : ∀ v a, State.onlyRegs v (f v a) l) :
    s.onlyRegs (t.each as f) l := by
  unfold State.each
  induction as generalizing t with
  | nil => exact h
  | cons a r ih => exact ih (h.trans (hf t a))
theorem keeps (h : s.onlyRegs t l) : s.keeps t l := h.2
theorem regs (h : s.onlyRegs t l) : t = { s with regs := t.regs } := h.1

end State.onlyRegs

theorem State.each_cons (s : State) (a : Nat) (r : List Nat) (f : State → Nat → State) : s.each (a :: r) f = (f s a).each r f := rfl

/-- A loop over different members, each of which changes what is seen of itself only. -/
theorem State.each_seen {α : Type} {f : State → Nat → State} {seen : State → Nat → α} (g : α → α)
    (own : ∀ u i, seen (f u i) i = g (seen u i)) (other : ∀ u i k, k ≠ i → seen (f u i) k = seen u k)
    (s : State) {l : List Nat} (nd : l.Nodup) (k : Nat) :
    seen (s.each l f) k = if k ∈ l then g (seen s k) else seen s k := by
  induction l generalizing s with
  | nil => rfl
  | cons a r ih =>
    obtain ⟨ha, nr⟩ := List.nodup_cons.mp nd
    rw [State.each_cons, ih (f s a) nr]
    by_cases hk : k = a
    · subst hk
      rw [if_neg ha, if_pos List.mem_cons_self, own]
    · rw [other _ _ _ hk]
      simp only [List.mem_cons, hk, false_or]

/-! ## What a fault record leaves -/

/-- From s to t nothing changes but registers of the names listed, and what telling others uses: a latched wake, the links of
Mortar and what waits for one, and the count of the fault records. -/
def State.reports (s t : State) (l : List RegName) : Prop :=
  t = { s with
    regs := t.regs, waking := t.waking, vecFirst := t.vecFirst, wakePin := t.wakePin, links := t.links, parked := t.parked,
    fltTotal := t.fltTotal, lastEv := t.lastEv, offers := t.offers } ∧
  s.keeps t l

namespace State.reports

variable {s t u : State} {l : List RegName}

theorem refl (s : State) (l : List RegName) : s.reports s l := ⟨rfl, fun _ _ _ _ => rfl⟩
theorem trans (h : s.reports t l) (h' : t.reports u l) : s.reports u l := by
  obtain ⟨ht, hk⟩ := h
  obtain ⟨hu, hk'⟩ := h'
  refine ⟨hu.trans ?_, hk.trans hk'⟩
  rw [ht]
theorem mono {l' : List RegName} (h : s.reports t l) (hl : l ⊆ l') : s.reports t l' := ⟨h.1, h.2.mono hl⟩
theorem wr (h : s.reports t l) {n : RegName} (hn : n ∈ l) (w : Word) (i j : Nat) : s.reports (t.wr n w i j) l :=
  h.trans ⟨rfl, (t.wr_stirs hn w i j).2⟩
theorem ite {p : Prop} [Decidable p] (h : s.reports t l) (h' : s.reports u l) : s.reports (if p then t else u) l := by
  split
  · exact h
  · exact h'
theorem when (h : s.reports t l) (b : Bool) {f : State → State} (hf : ∀ v, State.reports v (f v) l) : s.reports (t.when b f) l :=
  .ite (h.trans (hf t)) h
theorem foldl {α : Type} (h : s.reports t l) {f : State → α → State} (hf : ∀ v a, State.reports v (f v a) l) (as : List α) :
    s.reports (as.foldl f t) l := by
  induction as generalizing t with
  | nil => exact h
  | cons a r ih => exact ih (h.trans (hf t a))

theorem waking (h : s.reports t l) (b : Bool) : s.reports { t with waking := b } l := h.trans ⟨rfl, fun _ _ _ _ => rfl⟩
theorem vecFirst (h : s.reports t l) (m : SMap Stamp) : s.reports { t with vecFirst := m } l := h.trans ⟨rfl, fun _ _ _ _ => rfl⟩
theorem wakePin (h : s.reports t l) (b : Bool) : s.reports { t with wakePin := b } l := h.trans ⟨rfl, fun _ _ _ _ => rfl⟩
theorem parked (h : s.reports t l) (p : List MFrame) : s.reports { t with parked := p } l := h.trans ⟨rfl, fun _ _ _ _ => rfl⟩
theorem fltTotal (h : s.reports t l) (m : SMap Nat) : s.reports { t with fltTotal := m } l := h.trans ⟨rfl, fun _ _ _ _ => rfl⟩

theorem keeps (h : s.reports t l) : s.keeps t l := h.2
theorem copies (h : s.reports t l) : t.copies = s.copies := by rw [h.1]
theorem stray (h : s.reports t l) : t.stray = s.stray := by rw [h.1]
theorem now (h : s.reports t l) : t.now = s.now := by rw [h.1]
theorem ahead (h : s.reports t l) (i : Nat) : t.ahead i = s.ahead i := congrArg (SMap.at 0 · i) h.copies

end State.reports

theorem State.wakeUp_reports (s : State) (l : List RegName) : s.reports s.wakeUp l :=
  .ite ((State.reports.refl s l).waking true) (.refl s l)

theorem State.countVector_reports (s : State) (v : Nat) : s.reports (s.countVector v) raiseRegs := by
  unfold State.countVector
  extract_lets noted counted issued
  have hn : s.reports noted raiseRegs := .ite ((State.reports.refl s _).vecFirst _) (.refl s _)
  have hc : s.reports counted raiseRegs := hn.wr (by decide) _ _ _
  have hi : s.reports issued raiseRegs := hc.when _ (fun u => (State.reports.refl u _).wr (by decide) _ _ _)
  exact .ite (hi.wakePin true) hi

theorem State.raise_reports (s : State) (n : Nat) : s.reports (s.raise n) raiseRegs := by
  unfold State.raise
  extract_lets pends woken again counted
  have hw : s.reports woken raiseRegs := ((State.reports.refl s _).wr (by decide) _ _ _).when _ (fun u => u.wakeUp_reports _)
  have hc : s.reports counted raiseRegs := .ite (hw.wr (by decide) _ _ _) hw
  have hv := (hc.trans (counted.countVector_reports (counted.fld .intRoute 24 6 n))).when again
    (f := (·.setFlag .vecStat 31 true (counted.fld .intRoute 24 6 n))) (fun u => (State.reports.refl u _).wr (by decide) _ _ _)
  exact .ite (.refl s _) (.ite hw (.ite hv hc))

/-- An event is noted in its register and raises its source where it is enabled. -/
theorem State.event_reports (s : State) (evt ien : RegName) (b src i : Nat) : s.reports (s.event evt ien b src i) (evt :: raiseRegs) :=
  ((State.reports.refl s _).wr List.mem_cons_self _ _ _).when _
    (fun u => (u.raise_reports src).mono (List.subset_cons_self _ _))

theorem State.sendOn_reports (s : State) (k : Nat) (f : MFrame) (l : List RegName) : s.reports (s.sendOn k f) l :=
  ⟨rfl, fun _ _ _ _ => rfl⟩

/-- A frame goes out on its links, waits for a path, or is dropped and counted. -/
theorem State.mlSend_reports (s : State) (ty dst : Nat) (b : Bool) (payload : List Word) :
    s.reports (s.mlSend ty dst b payload) [.mlCnt1] := by
  have parks : ∀ (t : State) p, t.reports { t with parked := p } [.mlCnt1] := fun _ _ => ⟨rfl, fun _ _ _ _ => rfl⟩
  unfold State.mlSend
  extract_lets f
  have routed : s.reports (s.mlRoute f none) [.mlCnt1] := by
    unfold State.mlRoute
    refine .ite ?_ ?_
    · have sent : s.reports (s.each (s.downlinks.filter (fun k => none ≠ some k)) (fun s k => s.sendOn k f)) [.mlCnt1] :=
        (State.reports.refl s _).foldl (fun v k => v.sendOn_reports k f _) _
      dsimp only
      split
      · exact .ite sent (sent.trans (State.sendOn_reports _ _ _ _))
      · exact sent
    · split
      · exact s.sendOn_reports _ _ _
      · exact .ite (parks s _) ((State.reports.refl s _).wr (by decide) _ _ _)
  exact .ite routed (.ite (parks s _) (.refl s _))

/-- The registers that a fault record may change (R366, R372 to R374). -/
def faultRegs : List RegName := [.fltRec, .fltSeq, .fltStat, .fltEvt, .mlCnt1] ++ raiseRegs

theorem State.fltEvent_reports (s : State) (b : Nat) : s.reports (s.fltEvent b) (.fltEvt :: raiseRegs) := s.event_reports _ _ _ _ _

theorem State.fltRefresh_reports (s : State) : s.reports s.fltRefresh [.fltStat] :=
  (((State.reports.refl s _).wr (by decide) _ _ _).wr (by decide) _ _ _).wr (by decide) _ _ _

/-- What follows the count of a fault record leaves that count. -/
theorem State.fault_reports (s : State) (kind unit phys : Nat) (failure : Bool) (ns : Nat) (a b : Word) (found : Option Stamp) :
    s.reports (s.fault kind unit phys failure ns a b found) faultRegs ∧
    (s.fault kind unit phys failure ns a b found).rd .fltSeq = s.rd .fltSeq + 1 := by
  unfold State.fault
  extract_lets t seq total w0 w3 ws lost kept summed counted missed fresh told again
  have hk : s.reports kept [.fltRec] := (State.reports.refl s _).foldl (fun v a => (State.reports.refl v _).wr (by decide) _ _ _) _
  have hs : s.reports summed [.fltRec] := hk.fltTotal _
  have hc : s.reports counted [.fltRec, .fltSeq] := (hs.mono (by decide)).wr (by decide) _ _ _
  have count : counted.rd .fltSeq = s.rd .fltSeq + 1 := by
    rw [show counted = summed.wr .fltSeq (toW (seq + 1)) from rfl, State.rd_wr_self]
    apply BitVec.eq_of_toNat_eq
    simp [seq, toW]
  have after : counted.reports (again.mlSend 9 0 true [toW again.devNum, toW kind, ns32 t])
      ([.fltStat, .fltEvt, .mlCnt1] ++ raiseRegs) := by
    have evented : ∀ (v : State) k, v.reports (v.fltEvent k) ([.fltStat, .fltEvt, .mlCnt1] ++ raiseRegs) :=
      fun v k => (v.fltEvent_reports k).mono (by decide)
    have hm := (State.reports.refl counted ([.fltStat, .fltEvt, .mlCnt1] ++ raiseRegs)).when lost (f := (·.bump .fltStat 16 8))
      (fun v => (State.reports.refl v _).wr (by decide) _ _ _)
    have hf := hm.trans ((State.fltRefresh_reports missed).mono (by decide))
    have ht : counted.reports told _ := .ite (hf.trans (evented _ _)) (.ite hf (hf.trans (evented _ _)))
    exact (ht.when _ (fun v => evented v 6)).trans ((again.mlSend_reports _ _ _ _).mono (by decide))
  exact ⟨(hc.mono (by decide)).trans (after.mono (by decide)), (after.keeps _ _ _ (by decide)).trans count⟩

end Sys2Proof.Machine
end


section
/-! PROOFS. The time base (R30 to R46): Gray code, the judgement of a copy, the vernier, the PLLs and holdover. -/

namespace Sys2Proof.Machine

/-! ## Gray code -/

/-- The first n steps of the decoding leave the word and its n-fold shift. -/
theorem ungray_steps (w : Word) (n : Nat) :
    (List.range n).foldl (fun a k => a ^^^ (grayOf w >>> k)) 0 = w ^^^ (w >>> n) := by
  induction n with
  | zero => simp
  | succ n ih =>
    rw [List.range_succ, List.foldl_append, ih]
    simp only [List.foldl_cons, List.foldl_nil, grayOf]
    ext i
    simp only [BitVec.getElem_xor, BitVec.getElem_ushiftRight, BitVec.getLsbD_xor, BitVec.getLsbD_ushiftRight]
    rw [show n + 1 + i = 1 + (n + i) by omega]
    cases w.getLsbD (n + i) <;> simp

theorem ungray_grayOf (w : Word) : ungray (grayOf w) = w := by
  refine (ungray_steps w 32).trans ?_
  rw [BitVec.ushiftRight_eq_zero (by decide : 32 ≤ 32)]
  simp

/-! ## Locking -/

theorem State.lockPll_unlocked {s : State} {ts : Stamp} (h : s.flag .droneStat 0 = false) :
    s.lockPll ts = ((s.setFlag .droneStat 0 true).setFlag .pllStat 0 true).reach (toS (divRound ts.toNat 16 * 16)) := by
  unfold State.lockPll
  rw [if_neg (by rw [h]; exact Bool.false_ne_true)]

theorem State.reach_now_locked {s : State} {ts : Stamp} (hp : s.pstate < 3) (hl : s.flag .droneStat 0 = true) :
    (s.reach ts).now.toNat = max s.now.toNat ts.toNat := by
  show (if s.now.toNat < (s.countAt ts).toNat ∧ s.pstate < 3 then s.countAt ts else s.now).toNat = _
  rw [show s.countAt ts = ts from if_pos hl]
  by_cases h : s.now.toNat < ts.toNat
  · rw [if_pos ⟨h, hp⟩]
    omega
  · rw [if_neg (fun e => h e.1)]
    omega

/-! ## Copies of islands -/

theorem sxNat_emod {x : Int} (hl : -(2 ^ 41) ≤ x) (hu : x < 2 ^ 41) : sxNat 42 ((x % 2 ^ 42).toNat) = x := by
  unfold sxNat
  simp only [Int.ofNat_eq_natCast]
  split <;> omega

/-- A judged copy, before it is noted as stray: its deviation is shown, it is moved by one tick where it deviates by more, and the
largest deviations are kept (R33). -/
def State.copyJudged (s : State) (i : Nat) (d : Int) : State :=
  let s := s.setFld .droneIsl 0 8 (encS 8 (clampInt (-127) 127 d)) i
  let s := s.when (decide (1 < d.natAbs)) (fun s => (s.bump .droneIsl 8 16 i).setAhead i (s.ahead i + (if 0 < d then -1 else 1)))
  let s := s.setFld .droneIsl 24 8 (max (s.fld .droneIsl 24 8 i) (satNat 8 d.natAbs)) i
  let s := s.setFld .droneStat 16 16 (max (s.fld .droneStat 16 16) (satNat 16 d.natAbs))
  s.setFlag .droneStat 4 (islands.any (fun k => decide (1 < (getS (s.rd .droneIsl k) 0 8).natAbs)))

theorem State.judgeCopy_eq (s : State) (i : Nat) (d : Int) : s.judgeCopy i d = (s.copyJudged i d).markStray i d := rfl

section
variable (s : State) (i : Nat) (d : Int)

theorem State.copyJudged_keeps : s.keeps (s.copyJudged i d) [.droneIsl, .droneStat] := by
  unfold State.copyJudged
  have shown := (State.keeps.refl s [.droneIsl, .droneStat]).wr (n := .droneIsl) (by decide)
    (putF (s.rd .droneIsl i) 0 8 (encS 8 (clampInt (-127) 127 d))) i 0
  have moved := shown.when (decide (1 < d.natAbs)) (f := fun s => (s.bump .droneIsl 8 16 i).setAhead i (s.ahead i + (if 0 < d then -1 else 1)))
    (fun v => (State.keeps.refl v _).wr (n := .droneIsl) (by decide) _ _ _)
  exact ((moved.wr (by decide) _ _ _).wr (by decide) _ _ _).wr (by decide) _ _ _

theorem encS_lt (len : Nat) (v : Int) : encS len v < 2 ^ len := by
  have pos : (0 : Int) < Int.ofNat (2 ^ len) := Int.ofNat_lt.2 (Nat.two_pow_pos len)
  exact (Int.toNat_lt (Int.emod_nonneg v (Int.ne_of_gt pos))).2 (Int.emod_lt_of_pos v pos)

theorem State.copyJudged_dev : (s.copyJudged i d).fld .droneIsl 0 8 i = encS 8 (clampInt (-127) 127 d) := by
  have := encS_lt 8 (clampInt (-127) 127 d)
  unfold State.copyJudged
  by_cases h : 1 < d.natAbs
  · simpa [State.when, State.fld, State.setFld, State.setFlag, State.bump, h]
  · simpa [State.when, State.fld, State.setFld, State.setFlag, State.bump, h]

/-- A deviation kept where it is the largest so far fits the field. -/
theorem max_satNat_mod {len a : Nat} (b : Nat) (h : a < 2 ^ len) : max a (satNat len b) % 2 ^ len = max a (min (2 ^ len - 1) b) := by
  unfold satNat
  rw [Nat.mod_eq_of_lt (by omega), Nat.min_comm]

theorem State.copyJudged_max : (s.copyJudged i d).fld .droneIsl 24 8 i = max (s.fld .droneIsl 24 8 i) (min 255 d.natAbs) := by
  refine Eq.trans ?_ (max_satNat_mod (len := 8) d.natAbs (s.fld_lt .droneIsl 24 8 i 0))
  unfold State.copyJudged
  by_cases h : 1 < d.natAbs
  · simp [State.when, State.fld, State.setFld, State.setFlag, State.bump, h]
  · simp [State.when, State.fld, State.setFld, State.setFlag, h]

theorem State.copyJudged_moves : (s.copyJudged i d).fld .droneIsl 8 16 i =
    if 1 < d.natAbs then min 65535 (s.fld .droneIsl 8 16 i + 1) else s.fld .droneIsl 8 16 i := by
  unfold State.copyJudged
  by_cases h : 1 < d.natAbs
  · simp [State.when, State.fld, State.setFld, State.setFlag, State.bump, h]
  · simp [State.when, State.fld, State.setFld, State.setFlag, h]

theorem State.copyJudged_ahead : (s.copyJudged i d).ahead i =
    s.ahead i + if 1 < d.natAbs then (if 0 < d then -1 else 1) else 0 := by
  unfold State.copyJudged
  by_cases h : 1 < d.natAbs
  · simp [State.when, State.setFld, State.setFlag, State.bump, State.ahead_setAhead_self, h]
  · simp [State.when, State.setFld, State.setFlag, h]

theorem State.copyJudged_worst : (s.copyJudged i d).fld .droneStat 16 16 = max (s.fld .droneStat 16 16) (min 65535 d.natAbs) := by
  refine Eq.trans ?_ (max_satNat_mod (len := 16) d.natAbs (s.fld_lt .droneStat 16 16 0 0))
  unfold State.copyJudged
  by_cases h : 1 < d.natAbs
  · simp [State.when, State.fld, State.setFld, State.setFlag, State.bump, h]
  · simp [State.when, State.fld, State.setFld, State.setFlag, h]

theorem State.copyJudged_beacon : (s.copyJudged i d).beacon = s.beacon := by
  unfold State.copyJudged
  by_cases h : 1 < d.natAbs
  · simp [State.when, State.setFld, State.setFlag, State.bump, h]
  · simp [State.when, State.setFld, State.setFlag, h]

theorem State.copyJudged_stray : (s.copyJudged i d).stray = s.stray := by
  unfold State.copyJudged
  by_cases h : 1 < d.natAbs
  · simp [State.when, State.setFld, State.setFlag, State.bump, h]
  · simp [State.when, State.setFld, State.setFlag, h]

theorem State.copyJudged_others {j : Nat} (hj : j ≠ i) :
    (s.copyJudged i d).rd .droneIsl j = s.rd .droneIsl j ∧ (s.copyJudged i d).ahead j = s.ahead j := by
  unfold State.copyJudged
  by_cases h : 1 < d.natAbs
  · simp [State.when, State.setFld, State.setFlag, State.bump, State.ahead_setAhead_ne, h, hj]
  · simp [State.when, State.setFld, State.setFlag, h, hj]

end

theorem State.markStray_spec (s : State) (i : Nat) (d : Int) : ∃ m, s.markStray i d = { s with stray := m } ∧
    (16 < d.natAbs → (m.at none i).isSome = true) ∧ (d.natAbs ≤ 16 → m = s.stray) := by
  unfold State.markStray
  by_cases near : d.natAbs ≤ 16
  · exact ⟨s.stray, if_pos (Or.inl near), by omega, fun _ => rfl⟩
  · by_cases known : (s.stray.at none i).isSome = true
    · exact ⟨s.stray, if_pos (Or.inr known), fun _ => known, fun _ => rfl⟩
    · exact ⟨_, if_neg (by simp [near, known]), fun _ => by rw [SMap.at_set_self]; rfl, fun h => absurd h near⟩

theorem State.markStray_stray (s : State) (i : Nat) (d : Int) : (16 < d.natAbs → ((s.markStray i d).stray.at none i).isSome = true) ∧
    (d.natAbs ≤ 16 → (s.markStray i d).stray = s.stray) := by
  obtain ⟨m, e, far, near⟩ := s.markStray_spec i d
  rw [e]
  exact ⟨far, near⟩
theorem State.markStray_keeps (s : State) (i : Nat) (d : Int) (l : List RegName) : s.keeps (s.markStray i d) l := by
  obtain ⟨m, e, -, -⟩ := s.markStray_spec i d
  rw [e]
  exact fun _ _ _ _ => rfl
theorem State.markStray_beacon (s : State) (i : Nat) (d : Int) : (s.markStray i d).beacon = s.beacon := by
  obtain ⟨m, e, -, -⟩ := s.markStray_spec i d
  rw [e]
theorem State.markStray_ahead (s : State) (i : Nat) (d : Int) (k : Nat) : (s.markStray i d).ahead k = s.ahead k := by
  obtain ⟨m, e, -, -⟩ := s.markStray_spec i d
  rw [e]
  rfl

/-! ## Beacon -/

/-- The state in which a copy is judged: the beacon's code is out, and the copy has drifted. -/
def State.beaconed (s : State) (i : Nat) (drift : Int) (ts : Stamp) : State :=
  State.setAhead { s with beacon := grayOf (BitVec.ofNat 32 (ts.toNat / 1024)) } i (s.ahead i + clampInt (-63) 63 drift)

theorem State.beaconed_ahead_self (s : State) (i : Nat) (drift : Int) (ts : Stamp) :
    (s.beaconed i drift ts).ahead i = s.ahead i + clampInt (-63) 63 drift := State.ahead_setAhead_self _ _ _
theorem State.beaconed_ahead_ne (s : State) {i j : Nat} (drift : Int) (ts : Stamp) (h : j ≠ i) :
    (s.beaconed i drift ts).ahead j = s.ahead j := State.ahead_setAhead_ne _ _ h

theorem State.judgeCopy_spec (s : State) (i : Nat) (d : Int) :
    (s.judgeCopy i d).fld .droneIsl 0 8 i = encS 8 (clampInt (-127) 127 d) ∧
    (s.judgeCopy i d).fld .droneIsl 24 8 i = max (s.fld .droneIsl 24 8 i) (min 255 d.natAbs) ∧
    (s.judgeCopy i d).fld .droneIsl 8 16 i =
      (if 1 < d.natAbs then min 65535 (s.fld .droneIsl 8 16 i + 1) else s.fld .droneIsl 8 16 i) ∧
    (s.judgeCopy i d).fld .droneStat 16 16 = max (s.fld .droneStat 16 16) (min 65535 d.natAbs) ∧
    (s.judgeCopy i d).beacon = s.beacon ∧
    (s.judgeCopy i d).ahead i = s.ahead i + (if 1 < d.natAbs then (if 0 < d then -1 else 1) else 0) ∧
    s.keeps (s.judgeCopy i d) [.droneIsl, .droneStat] ∧
    (∀ j, j ≠ i → (s.judgeCopy i d).rd .droneIsl j = s.rd .droneIsl j ∧ (s.judgeCopy i d).ahead j = s.ahead j) ∧
    (16 < d.natAbs → ((s.judgeCopy i d).stray.at none i).isSome = true) ∧ (d.natAbs ≤ 16 → (s.judgeCopy i d).stray = s.stray) := by
  rw [State.judgeCopy_eq]
  have same := (s.copyJudged i d).markStray_keeps i d []
  have fld := fun lo len => State.keeps_fld same (n := .droneIsl) (by decide) lo len i 0
  obtain ⟨far, near⟩ := (s.copyJudged i d).markStray_stray i d
  refine ⟨(fld _ _).trans (State.copyJudged_dev _ _ _), (fld _ _).trans (State.copyJudged_max _ _ _),
    (fld _ _).trans (State.copyJudged_moves _ _ _), (State.keeps_fld same (by decide) _ _ _ _).trans (State.copyJudged_worst _ _ _),
    (State.markStray_beacon _ _ _).trans (State.copyJudged_beacon _ _ _),
    (State.markStray_ahead _ _ _ _).trans (State.copyJudged_ahead _ _ _),
    (State.copyJudged_keeps _ _ _).trans (same.mono (by simp)), fun j hj => ?_, far,
    fun h => (near h).trans (State.copyJudged_stray _ _ _)⟩
  obtain ⟨shown, ahead⟩ := s.copyJudged_others i d hj
  exact ⟨(same _ _ _ (by decide)).trans shown, (State.markStray_ahead _ _ _ _).trans ahead⟩

/-- The deviation of a copy is that of its count from the beacon's, where it fits the field (R33). -/
theorem deviation_of_beacon {ts : Stamp} {x y z w : Int} (h : ts.toNat % 1024 = 0) (hl : -(2 ^ 41) ≤ x + y + z - w)
    (hu : x + y + z - w < 2 ^ 41) :
    sxNat 42 (((Int.ofNat ts.toNat + (x + y) + z - w -
      Int.ofNat ((ungray (grayOf (BitVec.ofNat 32 (ts.toNat / 1024)))).toNat * 1024)) % 2 ^ 42).toNat) = x + y + z - w := by
  refine Eq.trans ?_ (sxNat_emod hl hu)
  rw [ungray_grayOf, BitVec.toNat_ofNat]
  congr 2
  simp only [Int.ofNat_eq_natCast]
  omega

theorem exec_beacon {isl : Fin 91} {drift late : Int} {ts : Stamp} {s : State} (hp : s.pstate < 3) (h : ts.toNat % 1024 = 0)
    (hr : s.copyRuns isl.val = true) (hl : s.flag .droneStat 0 = true)
    (low : -(2 ^ 41) ≤ s.ahead isl.val + clampInt (-63) 63 drift + late - s.skewTrim isl.val)
    (high : s.ahead isl.val + clampInt (-63) 63 drift + late - s.skewTrim isl.val < 2 ^ 41) :
    exec (.beacon isl drift late ts) s = .next (((s.reachIn islMaster ts).beaconed isl.val drift ts).judgeCopy isl.val
      (s.ahead isl.val + clampInt (-63) 63 drift + late - s.skewTrim isl.val)) := by
  have go : (decide (ts.toNat % 1024 = 0) && (s.reachIn islMaster ts).copyRuns isl.val && (s.reachIn islMaster ts).flag .droneStat 0) = true := by
    simp only [Bool.and_eq_true, decide_eq_true_eq]
    exact ⟨⟨h, hr⟩, hl⟩
  refine congrArg Host.Outcome.next ((State.happens_eq hp go _).trans ?_)
  refine congrArg (State.judgeCopy _ _) ?_
  rw [State.ahead_setAhead_self]
  exact deviation_of_beacon h low high

/-! ## Islands, vernier, PLLs and holdover -/

/-- A copy that is reloaded is no longer stray. -/
def State.reloaded (s : State) (i : Nat) : State := State.loadCopy { s with stray := s.stray.set none i none } i

theorem State.reloaded_stray (s : State) (i : Nat) : (s.reloaded i).stray.at none i = none :=
  SMap.at_set_self (none : Option (Stamp × Int)) s.stray i none
theorem State.reloaded_ahead (s : State) (i : Nat) : (s.reloaded i).ahead i = 0 := SMap.at_set_self 0 s.copies i 0

theorem exec_islandReload {isl : Fin 91} {ts : Stamp} {s : State} (hp : s.pstate < 3) (h : 64 ≤ isl.val)
    (hs : (s.stray.at none isl.val).isSome = true) : ∃ t, exec (.islandReload isl ts) s = .next t ∧
      t.stray.at none isl.val = none ∧ t.ahead isl.val = 0 ∧ t.rd .droneIsl isl.val = s.rd .droneIsl isl.val ∧
      t.rd .fltSeq = s.rd .fltSeq + 1 := by
  obtain ⟨⟨t0, d⟩, he⟩ := Option.isSome_iff_exists.mp hs
  have go : (decide (64 ≤ isl.val) && ((s.reachIn islMaster ts).stray.at none isl.val).isSome) = true := by
    rw [Bool.and_eq_true]
    exact ⟨decide_eq_true h, hs⟩
  have he' : (s.reachIn islMaster ts).stray.at none isl.val = some (t0, d) := he
  refine ⟨_, congrArg Host.Outcome.next (State.happens_eq hp go _), ?_⟩
  simp only [he']
  obtain ⟨left, seq⟩ := State.fault_reports ((s.reachIn islMaster ts).reloaded isl.val) 0x0C
    (if 84 ≤ isl.val ∧ isl.val < 88 then isl.val - 4 else 255) isl.val false ((ts.toNat - t0.toNat) / 16) (intW d) 0 (some t0)
  refine ⟨?_, ?_, left.keeps _ _ _ (by decide), seq⟩
  · exact (congrArg (SMap.at none · isl.val) left.stray).trans (State.reloaded_stray _ _)
  · exact (left.ahead _).trans (State.reloaded_ahead _ _)

theorem exec_vernierCalibration {tile : Fin 64} {d : Int} {ts : Stamp} {s : State} (hp : s.pstate < 3) (h : ts.toNat % 16384 = 0)
    (hr : s.copyRuns tile = true) : ∃ t, exec (.vernierCalibration tile d ts) s = .next t ∧
      t.flag .droneVern 8 tile = decide (d.natAbs ≤ 4) ∧ s.keeps t [.droneVern] ∧
      t.fld .droneVern 16 16 tile = (if 2 < d.natAbs then min 65535 (s.fld .droneVern 16 16 tile + 1) else s.fld .droneVern 16 16 tile) ∧
      t.fld .droneVern 0 8 tile = (if d.natAbs ≤ 2 then s.fld .droneVern 0 8 tile
        else if 0 < d then s.fld .droneVern 0 8 tile - 1 else min 255 (s.fld .droneVern 0 8 tile + 1)) := by
  have go : (decide (ts.toNat % 16384 = 0) && (s.reachIn tile ts).copyRuns tile) = true := by
    rw [Bool.and_eq_true]
    exact ⟨decide_eq_true h, hr⟩
  have code := s.fld_lt .droneVern 0 8 tile 0
  refine ⟨_, congrArg Host.Outcome.next (State.happens_eq hp go _), ?_⟩
  have judged : s.keeps ((s.reachIn tile ts).setFlag .droneVern 8 (decide (d.natAbs ≤ 4)) tile) [.droneVern] :=
    (State.keeps.refl (s.reachIn tile ts) _).wr (by decide) _ _ _
  by_cases far : 2 < d.natAbs
  · simp only [if_pos far, if_neg (Nat.not_le.mpr far)]
    refine ⟨?_, ?_, ?_, ?_⟩
    · simp [State.flag, State.setFld, State.setFlag, State.bump]
    · exact (judged.wr (by decide) _ _ _).wr (by decide) _ _ _
    · simp [State.fld, State.setFld, State.setFlag, State.bump]
    · simp [State.fld, State.setFld, State.setFlag, State.bump] at code ⊢
      split <;> omega
  · simp only [if_neg far, if_pos (Nat.not_lt.mp far)]
    refine ⟨?_, judged, ?_, ?_⟩
    · simp [State.flag, State.setFlag]
    · simp [State.fld, State.setFlag]
    · simp [State.fld, State.setFlag]

/-- The first PLL gives way to the spare. -/
def State.pllSpared (s : State) : State :=
  ((((s.setFlag .pllStat 2 (s.fld .pllStat 2 1 == 0)).setFlag .pllStat 0 true).setFlag .pllStat 1 false).bump .pllStat 8 8).setFlag
    .fltSpare 8 false

theorem State.pllSpared_spec (s : State) : s.pllSpared.flag .pllStat 1 = false ∧ s.pllSpared.flag .pllStat 0 = true ∧
    s.pllSpared.flag .pllStat 2 = (!s.flag .pllStat 2) ∧ s.pllSpared.fld .pllStat 8 8 = min 255 (s.fld .pllStat 8 8 + 1) ∧
    s.pllSpared.rd .fltSeq = s.rd .fltSeq := by
  have other : (s.fld .pllStat 2 1 == 0) = !s.flag .pllStat 2 := by
    unfold State.fld State.flag
    rw [getF_bit]
    cases getB (s.rd .pllStat) 2 <;> rfl
  unfold State.pllSpared
  rw [other]
  simp [State.flag, State.fld, State.setFlag, State.bump]

theorem exec_pllSwitchover_spare {ts : Stamp} {s : State} (hp : s.pstate < 3) (hl : s.flag .droneStat 0 = true)
    (hs : s.flag .pllStat 1 = true) : ∃ t, exec (.pllSwitchover ts) s = .next t ∧ t.flag .pllStat 1 = false ∧
      t.flag .pllStat 0 = true ∧ t.flag .pllStat 2 = (!s.flag .pllStat 2) ∧ t.fld .pllStat 8 8 = min 255 (s.fld .pllStat 8 8 + 1) ∧
      t.rd .fltSeq = s.rd .fltSeq + 1 := by
  have hs' : (s.reachIn islMaster ts).flag .pllStat 1 = true := hs
  obtain ⟨left, seq⟩ := State.fault_reports (s.reachIn islMaster ts).pllSpared 0x09 255 (s.fld .pllStat 2 1) false 0 0 0 none
  have told := State.fltEvent_reports ((s.reachIn islMaster ts).pllSpared.fault 0x09 255 (s.fld .pllStat 2 1) false 0 0 0) 3
  have stat := (left.keeps.trans (told.keeps.mono (by decide))) .pllStat 0 0 (by decide)
  obtain ⟨spare, active, which, count, same⟩ := (s.reachIn islMaster ts).pllSpared_spec
  refine ⟨_, congrArg Host.Outcome.next ((State.happens_eq (s := s) (i := islMaster) (ok := fun s => s.flag .droneStat 0) hp hl _).trans
    (if_pos hs')), (congrArg (getB · 1) stat).trans spare, (congrArg (getB · 0) stat).trans active,
    (congrArg (getB · 2) stat).trans which, (congrArg (getF · 8 8) stat).trans count, ?_⟩
  exact (told.keeps .fltSeq 0 0 (by decide)).trans (seq.trans (congrArg (· + 1) same))

theorem exec_pllSwitchover_none {ts : Stamp} {s : State} (hp : s.pstate < 3) (hl : s.flag .droneStat 0 = true)
    (hs : s.flag .pllStat 1 = false) : ∃ t, exec (.pllSwitchover ts) s = .next t ∧ t.flag .pllStat 0 = false ∧
      t.rd .fltSeq = s.rd .fltSeq + 1 := by
  have hs' : ¬(s.reachIn islMaster ts).flag .pllStat 1 = true := by rw [Bool.not_eq_true]; exact hs
  obtain ⟨left, seq⟩ := State.fault_reports ((s.reachIn islMaster ts).setFlag .pllStat 0 false) 0x0A 255 (s.fld .pllStat 2 1) true 0 0 0 none
  refine ⟨_, congrArg Host.Outcome.next ((State.happens_eq (s := s) (i := islMaster) (ok := fun s => s.flag .droneStat 0) hp hl _).trans
    (if_neg hs')), ?_, seq.trans (congrArg (· + 1) ?_)⟩
  · exact (State.keeps_flag left.keeps (by decide) 0 0 0).trans (State.flag_setFlag_self _ _ _ _ _ _ (by decide))
  · exact State.rd_wr_name _ _ _ _ _ _ _ _ (by decide)

theorem exec_pllRetrain {locks : Bool} {ts : Stamp} {s : State} (hp : s.pstate < 3) (hl : s.flag .droneStat 0 = true)
    (hs : s.flag .pllStat 1 = false) : ∃ t, exec (.pllRetrain locks ts) s = .next t ∧ t.flag .pllStat 1 = locks ∧
      t.flag .fltSpare 8 = locks ∧ s.keeps t [.pllStat, .fltSpare] := by
  have go : ((s.reachIn islMaster ts).flag .droneStat 0 && !(s.reachIn islMaster ts).flag .pllStat 1) = true := by
    rw [Bool.and_eq_true]
    exact ⟨hl, congrArg (!·) hs⟩
  refine ⟨_, congrArg Host.Outcome.next (State.happens_eq hp go _), ?_, ?_, ?_⟩
  · simp [State.flag, State.setFlag]
  · simp [State.flag, State.setFlag]
  · exact ((State.keeps.refl (s.reachIn islMaster ts) _).wr (by decide) _ _ _).wr (by decide) _ _ _

theorem State.setHoldover_spec (s : State) (b : Bool) : (s.setHoldover b).flag .droneStat 1 = b ∧ (s.setHoldover b).flag .pllStat 5 = b ∧
    (s.setHoldover b).flag .pllStat 3 = (!b) ∧ s.keeps (s.setHoldover b) [.droneStat, .pllStat] := by
  unfold State.setHoldover
  refine ⟨?_, ?_, ?_, (((State.keeps.refl s _).wr (by decide) _ _ _).wr (by decide) _ _ _).wr (by decide) _ _ _⟩
  · simp [State.flag, State.setFlag]
  · simp [State.flag, State.setFlag]
  · simp [State.flag, State.setFlag]

theorem exec_refclkHoldover {ts : Stamp} {s : State} (hp : s.pstate < 3) (h : s.flag .droneStat 1 = false) :
    ∃ t, exec (.refclkHoldover ts) s = .next t ∧ t.flag .droneStat 1 = true ∧ t.flag .pllStat 5 = true ∧
      t.flag .pllStat 3 = false ∧ t.rd .fltSeq = s.rd .fltSeq + 1 := by
  have go : (!(s.reachIn islMaster ts).flag .droneStat 1) = true := congrArg (!·) h
  obtain ⟨held, pll, ref, left⟩ := (s.reachIn islMaster ts).setHoldover_spec true
  obtain ⟨told, seq⟩ := State.fault_reports ((s.reachIn islMaster ts).setHoldover true) 0x0B 255 0 false 0 0 0 none
  refine ⟨_, congrArg Host.Outcome.next (State.happens_eq hp go _), ?_, ?_, ?_, seq.trans (congrArg (· + 1) (left .fltSeq 0 0 (by decide)))⟩
  · exact (State.keeps_flag told.keeps (by decide) 1 0 0).trans held
  · exact (State.keeps_flag told.keeps (by decide) 5 0 0).trans pll
  · exact (State.keeps_flag told.keeps (by decide) 3 0 0).trans ref

/-! ## The statistics of the block are cleared -/

theorem State.clrDroneStats_onlyRegs (s : State) : s.onlyRegs s.clrDroneStats [.droneStat, .droneIsl, .droneVern] := by
  refine ((((State.onlyRegs.refl s _).wr (by decide) _ _ _).each _ fun v k => ?_).each _ fun v k => ?_)
  · exact ((State.onlyRegs.refl v _).wr (by decide) _ _ _).wr (by decide) _ _ _
  · exact (State.onlyRegs.refl v _).wr (by decide) _ _ _

/-- The statistics of a copy are cleared, and its deviation stays. -/
theorem State.clrDroneStats_spec (s : State) : s.clrDroneStats.fld .droneStat 16 16 = 0 ∧
    (∀ k ∈ islands, s.clrDroneStats.fld .droneIsl 8 24 k = 0 ∧ s.clrDroneStats.fld .droneIsl 0 8 k = s.fld .droneIsl 0 8 k) ∧
    ∀ k, k < 64 → s.clrDroneStats.fld .droneVern 16 16 k = 0 ∧ s.clrDroneStats.fld .droneVern 0 16 k = s.fld .droneVern 0 16 k := by
  unfold State.clrDroneStats
  extract_lets worst copies
  have hw : s.onlyRegs worst [.droneStat] := (State.onlyRegs.refl s _).wr (by decide) _ _ _
  have hc : worst.onlyRegs copies [.droneIsl] := (State.onlyRegs.refl worst _).each _ fun v k =>
    ((State.onlyRegs.refl v _).wr (by decide) _ _ _).wr (by decide) _ _ _
  have hv : copies.onlyRegs (copies.each (List.range 64) (fun s t => s.setFld .droneVern 16 16 0 t)) [.droneVern] :=
    (State.onlyRegs.refl copies _).each _ fun v k => (State.onlyRegs.refl v _).wr (by decide) _ _ _
  have isl : ∀ k, copies.rd .droneIsl k = if k ∈ islands then putF (putF (worst.rd .droneIsl k) 8 16 0) 24 8 0 else worst.rd .droneIsl k :=
    State.each_seen (seen := fun u k => u.rd .droneIsl k) (fun w => putF (putF w 8 16 0) 24 8 0)
      (fun u i => by simp [State.setFld]) (fun u i k h => by simp [State.setFld, h]) worst (by decide)
  have vern := State.each_seen (f := fun s t => s.setFld .droneVern 16 16 0 t) (seen := fun u k => u.rd .droneVern k)
    (fun w => putF w 16 16 0) (fun u i => by simp [State.setFld]) (fun u i k h => by simp [State.setFld, h]) copies
    (List.nodup_range (n := 64))
  refine ⟨?_, fun k hk => ?_, fun k hk => ?_⟩
  · rw [State.keeps_fld hv.keeps (by decide), State.keeps_fld hc.keeps (by decide)]
    exact State.fld_setFld_self _ _ _ _ _ _ _ (by decide)
  · rw [State.keeps_fld hv.keeps (by decide), State.keeps_fld hv.keeps (by decide), State.fld, State.fld, isl, if_pos hk,
      hw.keeps _ _ _ (by decide)]
    refine ⟨?_, by simp [State.fld]⟩
    rw [getF_add _ 8 16 8]
    simp
  · rw [State.fld, State.fld, vern, if_pos (List.mem_range.mpr hk), hc.keeps _ _ _ (by decide), hw.keeps _ _ _ (by decide)]
    refine ⟨by simp, by simp [State.fld]⟩

/-- Settles O28: each event by its own lemma, on the state that time has reached. -/
theorem timeBase : Obligations.TimeBase := by
  unfold Obligations.TimeBase
  intro m isl tile d drift late locks ts s hp i
  refine ⟨fun hu hb => ?lock, fun h hr hl low high => ?beacon, fun h hs => exec_islandReload hp h hs, fun h hr => exec_vernierCalibration hp h hr,
    fun hl hs => exec_pllSwitchover_spare hp hl hs, fun hl hs => exec_pllSwitchover_none hp hl hs,
    fun hl hs => exec_pllRetrain hp hl hs, fun h => exec_refclkHoldover hp h, fun h => ?exit, fun hl => ?clear⟩
  case lock =>
    refine ⟨_, congrArg Host.Outcome.next (State.lockPll_unlocked hu), ?_, ?_, ?_, ?_⟩
    · simp [State.flag, State.setFlag]
    · simp [State.flag, State.setFlag]
    · refine (State.reach_now_locked (s := (s.setFlag .droneStat 0 true).setFlag .pllStat 0 true)
        (by simpa [State.pstate, State.fld, State.setFlag] using hp) (by simp [State.flag, State.setFlag])).trans ?_
      exact congrArg (max s.now.toNat) ((BitVec.toNat_ofNat _ _).trans (Nat.mod_eq_of_lt hb))
    · exact ((State.keeps.refl s _).wr (by decide) _ _ _).wr (by decide) _ _ _
  case beacon =>
    have acts := exec_beacon (late := late) hp h hr hl low high
    obtain ⟨shown, worst, moves, big, beacon, ahead, judged, others, far, near⟩ := State.judgeCopy_spec
      ((s.reachIn islMaster ts).beaconed i drift ts) i (s.ahead i + clampInt (-63) 63 drift + late - s.skewTrim i)
    exact ⟨_, acts, beacon, (congrArg ungray beacon).trans (ungray_grayOf _), shown, worst, moves,
      ahead.trans (congrArg (· + _) (State.beaconed_ahead_self _ _ _ _)), big, judged,
      fun j hj => ⟨(others j hj).1, (others j hj).2.trans (State.beaconed_ahead_ne _ _ _ hj)⟩, far, near⟩
  case exit =>
    obtain ⟨held, pll, ref, left⟩ := (s.reachIn islMaster ts).setHoldover_spec false
    exact ⟨_, congrArg Host.Outcome.next (State.happens_eq (s := s) (i := islMaster) (ok := fun s => s.flag .droneStat 1) hp h _), held, pll, ref, left⟩
  case clear =>
    obtain ⟨worst, isl, vern⟩ := (s.arrived .droneCtrl 0 0).clrDroneStats_spec
    have same := s.arrived_keeps .droneCtrl 0 0
    refine ⟨_, congrArg Host.Outcome.next (State.access_eq hl _), State.clrDroneStats_onlyRegs _, worst, fun k hk => ?_, fun k hk => ?_⟩
    · obtain ⟨counts, dev⟩ := isl k hk
      exact ⟨counts, dev.trans (State.keeps_fld same (by decide) _ _ _ _)⟩
    · obtain ⟨count, code⟩ := vern k hk
      exact ⟨count, code.trans (State.keeps_fld same (by decide) _ _ _ _)⟩

end Sys2Proof.Machine
end


section
/-! PROOFS. What each operation of the tiles and of the calendar may change: its registers and the other parts of the state.
Each operation has one lemma here, with its name; every part that its list does not name stays as it was. -/

namespace Sys2Proof.Machine

set_option Elab.async false

/-- A part of the state that an operation may change: the registers of one name, or another field. -/
inductive StatePart where
  | reg (n : RegName)
  | variant | ownerKey | ownerSign | now | aoRem | copies | beacon | trimmed | stray | aoEntry | latch | lastRead | barData |
  readHi | chans | bridges | trips | slots | fols | stopAt | folMiss | switching | holdSpan | padHold | pinStill | launched |
  clockStop | stays | pinIn | unsensed | lines | edges | doms | entries | calAnswer | calTurn | calIssue | offers | lastEv |
  afterMark | dropping | logQ | sigs | logRecs | logLast | markAt | markSeq | sampler | portX | gpr | ctxs | lastIssue | cycleAt
  | govFine | govRem | admits | unsettled | settledAt | drawNow | drawPast | busyAt | courseAt | idleOff | sensors | pwrReq |
  waking | scrubPos | passCorr | lockTimes | startWait | feedAt | clrStrat | imageDigest | flashUp | flashQuad | epUp | subsys |
  aoAt | dmas | dmaLast | micro | dispatch | golden | goldenDispatch | goldenLost | patchEnd | heldChecks | repairs | jtag |
  boundary | scanned | scratch | links | routes | msgQ | parked | slew | coastAt | slockQ | fltTotal | fltAcked | paused |
  failed | spares | goAt | takenBy | vecFirst | goOld | doneAt | msixOn | msixMask | hostLink | d3hot | wakePin | replies |
  longOps | longNext | mgmtResp | mgmtOut | taskMem | badTm | badScript | logMem | hostMem | freeCtr | pending
  deriving DecidableEq

/-- The registers of a name as the table lists them. -/
def State.rows (s : State) (n : RegName) : List (RegKey × Word) := s.regs.filter (fun e => e.1.name == n)

/-- The part is the same in both states. -/
def StatePart.same (s t : State) : StatePart → Prop
  | .reg n => (∀ i j, t.rd n i j = s.rd n i j) ∧ t.rows n = s.rows n
  | .variant => t.variant = s.variant
  | .ownerKey => t.ownerKey = s.ownerKey
  | .ownerSign => t.ownerSign = s.ownerSign
  | .now => t.now = s.now
  | .aoRem => t.aoRem = s.aoRem
  | .copies => t.copies = s.copies
  | .beacon => t.beacon = s.beacon
  | .trimmed => t.trimmed = s.trimmed
  | .stray => t.stray = s.stray
  | .aoEntry => t.aoEntry = s.aoEntry
  | .latch => t.latch = s.latch
  | .lastRead => t.lastRead = s.lastRead
  | .barData => t.barData = s.barData
  | .readHi => t.readHi = s.readHi
  | .chans => t.chans = s.chans
  | .bridges => t.bridges = s.bridges
  | .trips => t.trips = s.trips
  | .slots => t.slots = s.slots
  | .fols => t.fols = s.fols
  | .stopAt => t.stopAt = s.stopAt
  | .folMiss => t.folMiss = s.folMiss
  | .switching => t.switching = s.switching
  | .holdSpan => t.holdSpan = s.holdSpan
  | .padHold => t.padHold = s.padHold
  | .pinStill => t.pinStill = s.pinStill
  | .launched => t.launched = s.launched
  | .clockStop => t.clockStop = s.clockStop
  | .stays => t.stays = s.stays
  | .pinIn => t.pinIn = s.pinIn
  | .unsensed => t.unsensed = s.unsensed
  | .lines => t.lines = s.lines
  | .edges => t.edges = s.edges
  | .doms => t.doms = s.doms
  | .entries => t.entries = s.entries
  | .calAnswer => t.calAnswer = s.calAnswer
  | .calTurn => t.calTurn = s.calTurn
  | .calIssue => t.calIssue = s.calIssue
  | .offers => t.offers = s.offers
  | .lastEv => t.lastEv = s.lastEv
  | .afterMark => t.afterMark = s.afterMark
  | .dropping => t.dropping = s.dropping
  | .logQ => t.logQ = s.logQ
  | .sigs => t.sigs = s.sigs
  | .logRecs => t.logRecs = s.logRecs
  | .logLast => t.logLast = s.logLast
  | .markAt => t.markAt = s.markAt
  | .markSeq => t.markSeq = s.markSeq
  | .sampler => t.sampler = s.sampler
  | .portX => t.portX = s.portX
  | .gpr => t.gpr = s.gpr
  | .ctxs => t.ctxs = s.ctxs
  | .lastIssue => t.lastIssue = s.lastIssue
  | .cycleAt => t.cycleAt = s.cycleAt
  | .govFine => t.govFine = s.govFine
  | .govRem => t.govRem = s.govRem
  | .admits => t.admits = s.admits
  | .unsettled => t.unsettled = s.unsettled
  | .settledAt => t.settledAt = s.settledAt
  | .drawNow => t.drawNow = s.drawNow
  | .drawPast => t.drawPast = s.drawPast
  | .busyAt => t.busyAt = s.busyAt
  | .courseAt => t.courseAt = s.courseAt
  | .idleOff => t.idleOff = s.idleOff
  | .sensors => t.sensors = s.sensors
  | .pwrReq => t.pwrReq = s.pwrReq
  | .waking => t.waking = s.waking
  | .scrubPos => t.scrubPos = s.scrubPos
  | .passCorr => t.passCorr = s.passCorr
  | .lockTimes => t.lockTimes = s.lockTimes
  | .startWait => t.startWait = s.startWait
  | .feedAt => t.feedAt = s.feedAt
  | .clrStrat => t.clrStrat = s.clrStrat
  | .imageDigest => t.imageDigest = s.imageDigest
  | .flashUp => t.flashUp = s.flashUp
  | .flashQuad => t.flashQuad = s.flashQuad
  | .epUp => t.epUp = s.epUp
  | .subsys => t.subsys = s.subsys
  | .aoAt => t.aoAt = s.aoAt
  | .dmas => t.dmas = s.dmas
  | .dmaLast => t.dmaLast = s.dmaLast
  | .micro => t.micro = s.micro
  | .dispatch => t.dispatch = s.dispatch
  | .golden => t.golden = s.golden
  | .goldenDispatch => t.goldenDispatch = s.goldenDispatch
  | .goldenLost => t.goldenLost = s.goldenLost
  | .patchEnd => t.patchEnd = s.patchEnd
  | .heldChecks => t.heldChecks = s.heldChecks
  | .repairs => t.repairs = s.repairs
  | .jtag => t.jtag = s.jtag
  | .boundary => t.boundary = s.boundary
  | .scanned => t.scanned = s.scanned
  | .scratch => t.scratch = s.scratch
  | .links => t.links = s.links
  | .routes => t.routes = s.routes
  | .msgQ => t.msgQ = s.msgQ
  | .parked => t.parked = s.parked
  | .slew => t.slew = s.slew
  | .coastAt => t.coastAt = s.coastAt
  | .slockQ => t.slockQ = s.slockQ
  | .fltTotal => t.fltTotal = s.fltTotal
  | .fltAcked => t.fltAcked = s.fltAcked
  | .paused => t.paused = s.paused
  | .failed => t.failed = s.failed
  | .spares => t.spares = s.spares
  | .goAt => t.goAt = s.goAt
  | .takenBy => t.takenBy = s.takenBy
  | .vecFirst => t.vecFirst = s.vecFirst
  | .goOld => t.goOld = s.goOld
  | .doneAt => t.doneAt = s.doneAt
  | .msixOn => t.msixOn = s.msixOn
  | .msixMask => t.msixMask = s.msixMask
  | .hostLink => t.hostLink = s.hostLink
  | .d3hot => t.d3hot = s.d3hot
  | .wakePin => t.wakePin = s.wakePin
  | .replies => t.replies = s.replies
  | .longOps => t.longOps = s.longOps
  | .longNext => t.longNext = s.longNext
  | .mgmtResp => t.mgmtResp = s.mgmtResp
  | .mgmtOut => t.mgmtOut = s.mgmtOut
  | .taskMem => t.taskMem = s.taskMem
  | .badTm => t.badTm = s.badTm
  | .badScript => t.badScript = s.badScript
  | .logMem => t.logMem = s.logMem
  | .hostMem => t.hostMem = s.hostMem
  | .freeCtr => t.freeCtr = s.freeCtr
  | .pending => t.pending = s.pending

theorem State.rows_wr (s : State) {n m : RegName} (w : Word) (i j : Nat) (h : m ≠ n) : (s.wr n w i j).rows m = s.rows m :=
  Table.filter_put _ _ s.regs ⟨n, i, j⟩ w _ fun _ => beq_eq_false_iff_ne.mpr h.symm

/-- From s to t only the parts listed may change. -/
def State.frame (s t : State) (l : List StatePart) : Prop := ∀ p, p ∉ l → p.same s t

theorem StatePart.same_refl (s : State) (p : StatePart) : p.same s s := by
  cases p
  case reg => exact ⟨fun _ _ => rfl, rfl⟩
  all_goals rfl

theorem StatePart.same_trans {s t u : State} {p : StatePart} (h : p.same s t) (h' : p.same t u) : p.same s u := by
  cases p
  case reg => exact ⟨fun i j => (h'.1 i j).trans (h.1 i j), h'.2.trans h.2⟩
  all_goals exact Eq.trans h' h

namespace State.frame

/-! ## How changes are put together -/

section
variable {s₀ s t u : State} {l l' : List StatePart}

theorem refl (s : State) (l : List StatePart) : s.frame s l := fun p _ => p.same_refl s
theorem trans (h : s.frame t l) (h' : t.frame u l) : s.frame u l := fun p hp => StatePart.same_trans (h p hp) (h' p hp)
theorem mono (h : s.frame t l) (hl : l ⊆ l') : s.frame t l' := fun p hp => h p (fun hm => hp (hl hm))
/-- What changes a part of the list only adds to a frame. -/
theorem add (h : s₀.frame s l) (hl : l' ⊆ l) (h' : s.frame u l') : s₀.frame u l := h.trans (h'.mono hl)
theorem add1 {p : StatePart} (h : s₀.frame s l) (hl : p ∈ l) (h' : s.frame u [p]) : s₀.frame u l :=
  h.add (fun q hq => by rw [List.mem_singleton.mp hq]; exact hl) h'
theorem add0 (h : s₀.frame s l) (h' : s.frame u []) : s₀.frame u l := h.add (List.nil_subset _) h'

/-- The registers of a name that is not listed. -/
theorem rd (h : s.frame t l) (n : RegName) (i j : Nat) (hn : .reg n ∉ l := by decide) : t.rd n i j = s.rd n i j := (h (.reg n) hn).1 i j
theorem fld (h : s.frame t l) (n : RegName) (lo len i j : Nat) (hn : .reg n ∉ l := by decide) :
    t.fld n lo len i j = s.fld n lo len i j := congrArg (getF · lo len) ((h (.reg n) hn).1 i j)
theorem flag (h : s.frame t l) (n : RegName) (b i j : Nat) (hn : .reg n ∉ l := by decide) :
    t.flag n b i j = s.flag n b i j := congrArg (getB · b) ((h (.reg n) hn).1 i j)

/-- The rows of the table, of a name that is not listed. -/
theorem rows (h : s.frame t l) (n : RegName) (hn : .reg n ∉ l := by decide) : t.rows n = s.rows n := (h (.reg n) hn).2

/-- The list names no register but those of ns. -/
def regsIn (l : List StatePart) (ns : List RegName) : Bool := l.all (fun p => match p with | .reg n => ns.contains n | _ => true)

theorem keeps (h : s.frame t l) {ns : List RegName} (hl : regsIn l ns = true := by decide) : s.keeps t ns := fun n i j hn =>
  (h (.reg n) (fun hm => hn (List.contains_iff_mem.mp (List.all_eq_true.mp hl _ hm)))).1 i j

theorem ite {p : Prop} [Decidable p] (h : s₀.frame s l) (h' : s₀.frame u l) : s₀.frame (if p then s else u) l := by
  split
  · exact h
  · exact h'
theorem dite {p : Prop} [Decidable p] {a : p → State} {b : ¬p → State} (ha : ∀ hp, s₀.frame (a hp) l)
    (hb : ∀ hp, s₀.frame (b hp) l) : s₀.frame (if hp : p then a hp else b hp) l := by
  split
  · exact ha _
  · exact hb _
/-- The same for the state that comes with an answer. -/
theorem ite2 {α : Type} {p : Prop} [Decidable p] {a b : α × State} (h : s₀.frame a.2 l) (h' : s₀.frame b.2 l) :
    s₀.frame (if p then a else b).2 l := by
  split
  · exact h
  · exact h'
theorem beside {α : Type} {a : α} (h : s₀.frame s l) : s₀.frame (a, s).2 l := h
theorem foldl {α : Type} {f : State → α → State} {as : List α} (h : s₀.frame s l) (hf : ∀ t a, s₀.frame t l → s₀.frame (f t a) l) :
    s₀.frame (as.foldl f s) l := by
  induction as generalizing s with
  | nil => exact h
  | cons a r ih => exact ih (hf s a h)
/-- A fold over states that come with a value. -/
theorem foldl2 {α β : Type} {f : β × State → α → β × State} {as : List α} {b : β} (h : s₀.frame s l)
    (hf : ∀ p a, s₀.frame p.2 l → s₀.frame (f p a).2 l) : s₀.frame (as.foldl f (b, s)).2 l := by
  generalize hp : (b, s) = p
  replace h : s₀.frame p.2 l := hp ▸ h
  clear hp
  induction as generalizing p with
  | nil => exact h
  | cons a as ih => exact ih (f p a) (hf p a h)

end

section
variable {s₀ s u : State} {parts : List StatePart}

/-! ## Single fields -/

theorem put_badTm {a} (h : s₀.frame s parts) (hl : .badTm ∈ parts := by decide) : s₀.frame { s with badTm := a } parts := by
  intro p hp
  have same := h p hp
  cases p
  case badTm => exact absurd hl hp
  all_goals exact same
theorem put_bridges {a} (h : s₀.frame s parts) (hl : .bridges ∈ parts := by decide) : s₀.frame { s with bridges := a } parts := by
  intro p hp
  have same := h p hp
  cases p
  case bridges => exact absurd hl hp
  all_goals exact same
theorem put_calTurn {a} (h : s₀.frame s parts) (hl : .calTurn ∈ parts := by decide) : s₀.frame { s with calTurn := a } parts := by
  intro p hp
  have same := h p hp
  cases p
  case calTurn => exact absurd hl hp
  all_goals exact same
theorem put_chans {a} (h : s₀.frame s parts) (hl : .chans ∈ parts := by decide) : s₀.frame { s with chans := a } parts := by
  intro p hp
  have same := h p hp
  cases p
  case chans => exact absurd hl hp
  all_goals exact same
theorem put_copies {a} (h : s₀.frame s parts) (hl : .copies ∈ parts := by decide) : s₀.frame { s with copies := a } parts := by
  intro p hp
  have same := h p hp
  cases p
  case copies => exact absurd hl hp
  all_goals exact same
theorem put_courseAt {a} (h : s₀.frame s parts) (hl : .courseAt ∈ parts := by decide) : s₀.frame { s with courseAt := a } parts := by
  intro p hp
  have same := h p hp
  cases p
  case courseAt => exact absurd hl hp
  all_goals exact same
theorem put_ctxs {a} (h : s₀.frame s parts) (hl : .ctxs ∈ parts := by decide) : s₀.frame { s with ctxs := a } parts := by
  intro p hp
  have same := h p hp
  cases p
  case ctxs => exact absurd hl hp
  all_goals exact same
theorem put_dmas {a} (h : s₀.frame s parts) (hl : .dmas ∈ parts := by decide) : s₀.frame { s with dmas := a } parts := by
  intro p hp
  have same := h p hp
  cases p
  case dmas => exact absurd hl hp
  all_goals exact same
theorem put_dropping {a} (h : s₀.frame s parts) (hl : .dropping ∈ parts := by decide) : s₀.frame { s with dropping := a } parts := by
  intro p hp
  have same := h p hp
  cases p
  case dropping => exact absurd hl hp
  all_goals exact same
theorem put_edges {a} (h : s₀.frame s parts) (hl : .edges ∈ parts := by decide) : s₀.frame { s with edges := a } parts := by
  intro p hp
  have same := h p hp
  cases p
  case edges => exact absurd hl hp
  all_goals exact same
theorem put_entries {a} (h : s₀.frame s parts) (hl : .entries ∈ parts := by decide) : s₀.frame { s with entries := a } parts := by
  intro p hp
  have same := h p hp
  cases p
  case entries => exact absurd hl hp
  all_goals exact same
theorem put_fltTotal {a} (h : s₀.frame s parts) (hl : .fltTotal ∈ parts := by decide) : s₀.frame { s with fltTotal := a } parts := by
  intro p hp
  have same := h p hp
  cases p
  case fltTotal => exact absurd hl hp
  all_goals exact same
theorem put_folMiss {a} (h : s₀.frame s parts) (hl : .folMiss ∈ parts := by decide) : s₀.frame { s with folMiss := a } parts := by
  intro p hp
  have same := h p hp
  cases p
  case folMiss => exact absurd hl hp
  all_goals exact same
theorem put_fols {a} (h : s₀.frame s parts) (hl : .fols ∈ parts := by decide) : s₀.frame { s with fols := a } parts := by
  intro p hp
  have same := h p hp
  cases p
  case fols => exact absurd hl hp
  all_goals exact same
theorem put_hostMem {a} (h : s₀.frame s parts) (hl : .hostMem ∈ parts := by decide) : s₀.frame { s with hostMem := a } parts := by
  intro p hp
  have same := h p hp
  cases p
  case hostMem => exact absurd hl hp
  all_goals exact same
theorem put_lastEv {a} (h : s₀.frame s parts) (hl : .lastEv ∈ parts := by decide) : s₀.frame { s with lastEv := a } parts := by
  intro p hp
  have same := h p hp
  cases p
  case lastEv => exact absurd hl hp
  all_goals exact same
theorem put_lastRead {a} (h : s₀.frame s parts) (hl : .lastRead ∈ parts := by decide) : s₀.frame { s with lastRead := a } parts := by
  intro p hp
  have same := h p hp
  cases p
  case lastRead => exact absurd hl hp
  all_goals exact same
theorem put_latch {a} (h : s₀.frame s parts) (hl : .latch ∈ parts := by decide) : s₀.frame { s with latch := a } parts := by
  intro p hp
  have same := h p hp
  cases p
  case latch => exact absurd hl hp
  all_goals exact same
theorem put_launched {a} (h : s₀.frame s parts) (hl : .launched ∈ parts := by decide) : s₀.frame { s with launched := a } parts := by
  intro p hp
  have same := h p hp
  cases p
  case launched => exact absurd hl hp
  all_goals exact same
theorem put_links {a} (h : s₀.frame s parts) (hl : .links ∈ parts := by decide) : s₀.frame { s with links := a } parts := by
  intro p hp
  have same := h p hp
  cases p
  case links => exact absurd hl hp
  all_goals exact same
theorem put_logQ {a} (h : s₀.frame s parts) (hl : .logQ ∈ parts := by decide) : s₀.frame { s with logQ := a } parts := by
  intro p hp
  have same := h p hp
  cases p
  case logQ => exact absurd hl hp
  all_goals exact same
theorem put_now {a} (h : s₀.frame s parts) (hl : .now ∈ parts := by decide) : s₀.frame { s with now := a } parts := by
  intro p hp
  have same := h p hp
  cases p
  case now => exact absurd hl hp
  all_goals exact same
theorem put_offers {a} (h : s₀.frame s parts) (hl : .offers ∈ parts := by decide) : s₀.frame { s with offers := a } parts := by
  intro p hp
  have same := h p hp
  cases p
  case offers => exact absurd hl hp
  all_goals exact same
theorem put_padHold {a} (h : s₀.frame s parts) (hl : .padHold ∈ parts := by decide) : s₀.frame { s with padHold := a } parts := by
  intro p hp
  have same := h p hp
  cases p
  case padHold => exact absurd hl hp
  all_goals exact same
theorem put_parked {a} (h : s₀.frame s parts) (hl : .parked ∈ parts := by decide) : s₀.frame { s with parked := a } parts := by
  intro p hp
  have same := h p hp
  cases p
  case parked => exact absurd hl hp
  all_goals exact same
theorem put_paused {a} (h : s₀.frame s parts) (hl : .paused ∈ parts := by decide) : s₀.frame { s with paused := a } parts := by
  intro p hp
  have same := h p hp
  cases p
  case paused => exact absurd hl hp
  all_goals exact same
theorem put_pinIn {a} (h : s₀.frame s parts) (hl : .pinIn ∈ parts := by decide) : s₀.frame { s with pinIn := a } parts := by
  intro p hp
  have same := h p hp
  cases p
  case pinIn => exact absurd hl hp
  all_goals exact same
theorem put_pinStill {a} (h : s₀.frame s parts) (hl : .pinStill ∈ parts := by decide) : s₀.frame { s with pinStill := a } parts := by
  intro p hp
  have same := h p hp
  cases p
  case pinStill => exact absurd hl hp
  all_goals exact same
theorem put_portX {a} (h : s₀.frame s parts) (hl : .portX ∈ parts := by decide) : s₀.frame { s with portX := a } parts := by
  intro p hp
  have same := h p hp
  cases p
  case portX => exact absurd hl hp
  all_goals exact same
theorem put_slew {a} (h : s₀.frame s parts) (hl : .slew ∈ parts := by decide) : s₀.frame { s with slew := a } parts := by
  intro p hp
  have same := h p hp
  cases p
  case slew => exact absurd hl hp
  all_goals exact same
theorem put_slots {a} (h : s₀.frame s parts) (hl : .slots ∈ parts := by decide) : s₀.frame { s with slots := a } parts := by
  intro p hp
  have same := h p hp
  cases p
  case slots => exact absurd hl hp
  all_goals exact same
theorem put_takenBy {a} (h : s₀.frame s parts) (hl : .takenBy ∈ parts := by decide) : s₀.frame { s with takenBy := a } parts := by
  intro p hp
  have same := h p hp
  cases p
  case takenBy => exact absurd hl hp
  all_goals exact same
theorem put_taskMem {a} (h : s₀.frame s parts) (hl : .taskMem ∈ parts := by decide) : s₀.frame { s with taskMem := a } parts := by
  intro p hp
  have same := h p hp
  cases p
  case taskMem => exact absurd hl hp
  all_goals exact same
theorem put_trips {a} (h : s₀.frame s parts) (hl : .trips ∈ parts := by decide) : s₀.frame { s with trips := a } parts := by
  intro p hp
  have same := h p hp
  cases p
  case trips => exact absurd hl hp
  all_goals exact same
theorem put_vecFirst {a} (h : s₀.frame s parts) (hl : .vecFirst ∈ parts := by decide) : s₀.frame { s with vecFirst := a } parts := by
  intro p hp
  have same := h p hp
  cases p
  case vecFirst => exact absurd hl hp
  all_goals exact same
theorem put_wakePin {a} (h : s₀.frame s parts) (hl : .wakePin ∈ parts := by decide) : s₀.frame { s with wakePin := a } parts := by
  intro p hp
  have same := h p hp
  cases p
  case wakePin => exact absurd hl hp
  all_goals exact same
theorem put_waking {a} (h : s₀.frame s parts) (hl : .waking ∈ parts := by decide) : s₀.frame { s with waking := a } parts := by
  intro p hp
  have same := h p hp
  cases p
  case waking => exact absurd hl hp
  all_goals exact same

/-! ## Operations -/

theorem wr {n : RegName} {w : Word} {i j : Nat} (h : s₀.frame s parts) (hl : .reg n ∈ parts := by decide) : s₀.frame (s.wr n w i j) parts := by
  intro p hp
  have same := h p hp
  cases p
  case reg m =>
    have ne : m ≠ n := fun e => hp (e ▸ hl)
    exact ⟨fun a b => (s.rd_wr_name n m w i j a b ne).trans (same.1 a b), (s.rows_wr w i j ne).trans same.2⟩
  all_goals exact same
theorem setFld {n : RegName} {lo len v i j : Nat} (h : s₀.frame s parts) (hl : .reg n ∈ parts := by decide) :
    s₀.frame (s.setFld n lo len v i j) parts := h.wr hl
theorem setFlag {n : RegName} {b : Nat} {v : Bool} {i j : Nat} (h : s₀.frame s parts) (hl : .reg n ∈ parts := by decide) :
    s₀.frame (s.setFlag n b v i j) parts := h.wr hl
theorem bump {n : RegName} {lo len i j k : Nat} (h : s₀.frame s parts) (hl : .reg n ∈ parts := by decide) :
    s₀.frame (s.bump n lo len i j k) parts := h.wr hl
theorem bumpW {n : RegName} {lo len i j k : Nat} (h : s₀.frame s parts) (hl : .reg n ∈ parts := by decide) :
    s₀.frame (s.bumpW n lo len i j k) parts := h.wr hl
theorem clr {n : RegName} {i j : Nat} (h : s₀.frame s parts) (hl : .reg n ∈ parts := by decide) : s₀.frame (s.clr n i j) parts := h.wr hl
theorem each {as : List Nat} {f : State → Nat → State} (h : s₀.frame s parts) (hf : ∀ t a, s₀.frame t parts → s₀.frame (f t a) parts) :
    s₀.frame (s.each as f) parts := h.foldl hf
theorem when {b : Bool} {f : State → State} (h : s₀.frame s parts) (hf : ∀ t, s₀.frame t parts → s₀.frame (f t) parts) :
    s₀.frame (s.when b f) parts := .ite (hf _ h) h
theorem reach {ts : Stamp} (hs : s₀.frame s parts) (hl : .now ∈ parts := by decide) : s₀.frame (s.reach ts) parts := by
  refine hs.add1 hl ?_
  have h₀ := refl s [.now]
  unfold State.reach
  exact .put_now h₀
theorem setAhead {i : Nat} {d : Int} (hs : s₀.frame s parts) (hl : .copies ∈ parts := by decide) : s₀.frame (s.setAhead i d)
    parts := by
  refine hs.add1 hl ?_
  have h₀ := refl s [.copies]
  unfold State.setAhead
  exact .put_copies h₀
theorem reachIn {i : Nat} {ts : Stamp} (hs : s₀.frame s parts) (hl : .now ∈ parts := by decide) : s₀.frame (s.reachIn i ts)
    parts := by
  refine hs.add1 hl ?_
  have h₀ := refl s [.now]
  unfold State.reachIn
  exact .reach h₀
def tickParts : List StatePart := [.now, .slew]
theorem tick (hs : s₀.frame s parts) (hl : tickParts ⊆ parts := by decide) : s₀.frame s.tick parts := by
  refine hs.add hl ?_
  have h₀ := refl s tickParts
  unfold State.tick
  exact .ite (.reach h₀) (.ite (.put_slew (.reach h₀)) (.reach h₀))
theorem wakeUp (hs : s₀.frame s parts) (hl : .waking ∈ parts := by decide) : s₀.frame s.wakeUp parts := by
  refine hs.add1 hl ?_
  have h₀ := refl s [.waking]
  unfold State.wakeUp
  exact .ite (.put_waking h₀) h₀
theorem setChan {g : Nat} {c : Chan} (hs : s₀.frame s parts) (hl : .chans ∈ parts := by decide) : s₀.frame (s.setChan g c) parts
    := by
  refine hs.add1 hl ?_
  have h₀ := refl s [.chans]
  unfold State.setChan
  exact .put_chans h₀
theorem onChan {g : Nat} {f : Chan → Chan} (hs : s₀.frame s parts) (hl : .chans ∈ parts := by decide) : s₀.frame (s.onChan g f)
    parts := by
  refine hs.add1 hl ?_
  have h₀ := refl s [.chans]
  unfold State.onChan
  exact .setChan h₀
theorem setBridge {b : Nat} {x : Bridge} (hs : s₀.frame s parts) (hl : .bridges ∈ parts := by decide) : s₀.frame (s.setBridge b
    x) parts := by
  refine hs.add1 hl ?_
  have h₀ := refl s [.bridges]
  unfold State.setBridge
  exact .put_bridges h₀
theorem setTrip {k : Nat} {x : TripIn} (hs : s₀.frame s parts) (hl : .trips ∈ parts := by decide) : s₀.frame (s.setTrip k x)
    parts := by
  refine hs.add1 hl ?_
  have h₀ := refl s [.trips]
  unfold State.setTrip
  exact .put_trips h₀
theorem setSlotX {k : Nat} {x : SlotX} (hs : s₀.frame s parts) (hl : .slots ∈ parts := by decide) : s₀.frame (s.setSlotX k x)
    parts := by
  refine hs.add1 hl ?_
  have h₀ := refl s [.slots]
  unfold State.setSlotX
  exact .put_slots h₀
theorem setFol {k : Nat} {x : Traj} (hs : s₀.frame s parts) (hl : .fols ∈ parts := by decide) : s₀.frame (s.setFol k x) parts :=
    by
  refine hs.add1 hl ?_
  have h₀ := refl s [.fols]
  unfold State.setFol
  exact .put_fols h₀
theorem setEntry {e : Nat} {x : Entry} (hs : s₀.frame s parts) (hl : .entries ∈ parts := by decide) : s₀.frame (s.setEntry e x)
    parts := by
  refine hs.add1 hl ?_
  have h₀ := refl s [.entries]
  unfold State.setEntry
  exact .put_entries h₀
theorem onEntry {e : Nat} {f : Entry → Entry} (hs : s₀.frame s parts) (hl : .entries ∈ parts := by decide) : s₀.frame (s.onEntry
    e f) parts := by
  refine hs.add1 hl ?_
  have h₀ := refl s [.entries]
  unfold State.onEntry
  exact .setEntry h₀
theorem setLatch {m : Nat} {w : Word} (hs : s₀.frame s parts) (hl : .latch ∈ parts := by decide) : s₀.frame (s.setLatch m w)
    parts := by
  refine hs.add1 hl ?_
  have h₀ := refl s [.latch]
  unfold State.setLatch
  exact .put_latch h₀
theorem setRead {m : Nat} {w : Word} (hs : s₀.frame s parts) (hl : .lastRead ∈ parts := by decide) : s₀.frame (s.setRead m w)
    parts := by
  refine hs.add1 hl ?_
  have h₀ := refl s [.lastRead]
  unfold State.setRead
  exact .put_lastRead h₀
theorem setEdges {c : Nat} {l : List (Stamp × Bool)} (hs : s₀.frame s parts) (hl : .edges ∈ parts := by decide) : s₀.frame
    (s.setEdges c l) parts := by
  refine hs.add1 hl ?_
  have h₀ := refl s [.edges]
  unfold State.setEdges
  exact .put_edges h₀
theorem setCtx {x : Nat} {c : Ctx} (hs : s₀.frame s parts) (hl : .ctxs ∈ parts := by decide) : s₀.frame (s.setCtx x c) parts :=
    by
  refine hs.add1 hl ?_
  have h₀ := refl s [.ctxs]
  unfold State.setCtx
  exact .put_ctxs h₀
theorem onCtx {x : Nat} {f : Ctx → Ctx} (hs : s₀.frame s parts) (hl : .ctxs ∈ parts := by decide) : s₀.frame (s.onCtx x f) parts
    := by
  refine hs.add1 hl ?_
  have h₀ := refl s [.ctxs]
  unfold State.onCtx
  exact .setCtx h₀
theorem setLink {k : Nat} {l : Link} (hs : s₀.frame s parts) (hl : .links ∈ parts := by decide) : s₀.frame (s.setLink k l) parts
    := by
  refine hs.add1 hl ?_
  have h₀ := refl s [.links]
  unfold State.setLink
  exact .put_links h₀
theorem onLink {k : Nat} {f : Link → Link} (hs : s₀.frame s parts) (hl : .links ∈ parts := by decide) : s₀.frame (s.onLink k f)
    parts := by
  refine hs.add1 hl ?_
  have h₀ := refl s [.links]
  unfold State.onLink
  exact .setLink h₀
theorem setPort {p : Nat} {x : PortX} (hs : s₀.frame s parts) (hl : .portX ∈ parts := by decide) : s₀.frame (s.setPort p x)
    parts := by
  refine hs.add1 hl ?_
  have h₀ := refl s [.portX]
  unfold State.setPort
  exact .put_portX h₀
theorem keepEvent {src sel : Nat} {value aux : Word} (hs : s₀.frame s parts) (hl : .lastEv ∈ parts := by decide) : s₀.frame
    (s.keepEvent src sel value aux) parts := by
  refine hs.add1 hl ?_
  have h₀ := refl s [.lastEv]
  unfold State.keepEvent
  exact .put_lastEv h₀
def offerParts : List StatePart := [.offers, .lastEv]
theorem offer {src sel : Nat} {value aux : Word} {ts : Stamp} (hs : s₀.frame s parts) (hl : offerParts ⊆ parts := by decide) :
    s₀.frame (s.offer src sel value aux ts) parts := by
  refine hs.add hl ?_
  have h₀ := refl s offerParts
  unfold State.offer
  exact .ite (.keepEvent h₀) (.put_offers (.keepEvent h₀))
theorem healTm {a : Nat} (hs : s₀.frame s parts) (hl : .badTm ∈ parts := by decide) : s₀.frame (s.healTm a) parts := by
  refine hs.add1 hl ?_
  have h₀ := refl s [.badTm]
  unfold State.healTm
  exact .put_badTm h₀
def setTmParts : List StatePart := [.taskMem, .badTm]
theorem setTm {a : Nat} {w : Word} (hs : s₀.frame s parts) (hl : setTmParts ⊆ parts := by decide) :
    s₀.frame (s.setTm a w) parts := hs.add hl (.healTm (.put_taskMem (refl s setTmParts)))
theorem setPaused {u : Nat} {b : Bool} (hs : s₀.frame s parts) (hl : .paused ∈ parts := by decide) : s₀.frame (s.setPaused u b)
    parts := by
  refine hs.add1 hl ?_
  have h₀ := refl s [.paused]
  unfold State.setPaused
  exact .put_paused h₀
def countVectorParts : List StatePart := [.reg .vecStat, .vecFirst, .wakePin]
theorem countVector {v : Nat} (hs : s₀.frame s parts) (hl : countVectorParts ⊆ parts := by decide) : s₀.frame (s.countVector v)
    parts := by
  refine hs.add hl ?_
  have h₀ := refl s countVectorParts
  unfold State.countVector
  exact .ite (.put_wakePin (.when (.bump (.ite (.put_vecFirst h₀) h₀)) (fun _ h1 => .setFlag h1))) (.when (.bump (.ite
    (.put_vecFirst h₀) h₀)) (fun _ h1 => .setFlag h1))
def raiseParts : List StatePart := [.reg .intPendSet, .reg .intErr, .reg .vecStat, .waking, .vecFirst, .wakePin]
theorem raise {n : Nat} (hs : s₀.frame s parts) (hl : raiseParts ⊆ parts := by decide) : s₀.frame (s.raise n) parts := by
  refine hs.add hl ?_
  have h₀ := refl s raiseParts
  unfold State.raise
  exact .ite h₀ (.ite (.when (.setFlag h₀) (fun _ h1 => .wakeUp h1)) (.ite (.when (.countVector (.ite (.bumpW (.when (.setFlag
    h₀) (fun _ h1 => .wakeUp h1))) (.when (.setFlag h₀) (fun _ h1 => .wakeUp h1)))) (fun _ h1 => .setFlag h1)) (.ite (.bumpW
    (.when (.setFlag h₀) (fun _ h1 => .wakeUp h1))) (.when (.setFlag h₀) (fun _ h1 => .wakeUp h1)))))
def eventParts : List StatePart := [.reg .intPendSet, .reg .intErr, .reg .vecStat, .waking, .vecFirst, .wakePin]
theorem event {evt ien : RegName} {b src i : Nat} (h : s₀.frame s parts) (he : .reg evt ∈ parts := by decide)
    (hl : raiseParts ⊆ parts := by decide) : s₀.frame (s.event evt ien b src i) parts := .when (.setFlag h he) (fun _ h1 => .raise h1 hl)
def leaveHeldParts : List StatePart := [.reg .chStat, .reg .pmPin]
theorem leaveHeld {t : Nat} (hs : s₀.frame s parts) (hl : leaveHeldParts ⊆ parts := by decide) : s₀.frame (s.leaveHeld t) parts
    := by
  refine hs.add hl ?_
  have h₀ := refl s leaveHeldParts
  unfold State.leaveHeld
  exact .each (.each h₀ (fun _ _ h1 => .setFlag h1)) (fun _ _ h1 => .setFlag h1)
def withUnitsParts : List StatePart := [.reg .chStat, .reg .pmPin, .reg .intPendSet, .reg .intErr, .reg .vecStat, .waking,
  .vecFirst, .wakePin]
theorem withUnits {us : List Nat} {f : State → State} (h : s₀.frame s parts) (hf : ∀ t, s₀.frame t parts → s₀.frame (f t) parts)
    (hl : withUnitsParts ⊆ parts := by decide) : s₀.frame (s.withUnits us f) parts :=
  .foldl (.each (hf _ h) (fun _ _ h1 => .leaveHeld h1 (List.Subset.trans (by decide) hl)))
    (fun _ _ h1 => .ite h1 (.raise h1 (List.Subset.trans (by decide) hl)))
def withUnitParts : List StatePart := [.reg .chStat, .reg .pmPin, .reg .intPendSet, .reg .intErr, .reg .vecStat, .waking,
  .vecFirst, .wakePin]
theorem withUnit {u : Nat} {f : State → State} (h : s₀.frame s parts) (hf : ∀ t, s₀.frame t parts → s₀.frame (f t) parts)
    (hl : withUnitsParts ⊆ parts := by decide) : s₀.frame (s.withUnit u f) parts := .withUnits h hf hl
def accErrParts : List StatePart := [.reg .sysAccerr, .reg .sysAccerrAddr, .reg .sysAccerrSrc, .reg .intPendSet, .reg .intErr,
  .reg .vecStat, .waking, .vecFirst, .wakePin]
theorem accErr {m : Master} {off : Nat} {r : AccReason} (hs : s₀.frame s parts) (hl : accErrParts ⊆ parts := by decide) :
    s₀.frame (s.accErr m off r) parts := by
  refine hs.add hl ?_
  have h₀ := refl s accErrParts
  unfold State.accErr
  refine .raise (.wr (.wr ?_))
  split
  all_goals exact .bumpW h₀
def postParts : List StatePart := [.reg .ctxStat, .ctxs]
theorem post {x : Nat} {value tag : Word} (hs : s₀.frame s parts) (hl : postParts ⊆ parts := by decide) : s₀.frame (s.post x
    value tag) parts := by
  refine hs.add hl ?_
  have h₀ := refl s postParts
  unfold State.post
  exact .ite (.onCtx h₀) (.bump h₀)
theorem sendOn {k : Nat} {f : MFrame} (hs : s₀.frame s parts) (hl : .links ∈ parts := by decide) : s₀.frame (s.sendOn k f) parts
    := by
  refine hs.add1 hl ?_
  have h₀ := refl s [.links]
  unfold State.sendOn
  exact .onLink h₀
def mlRouteParts : List StatePart := [.reg .mlCnt1, .links, .parked]
theorem mlRoute {f : MFrame} {frm : Option Nat} (hs : s₀.frame s parts) (hl : mlRouteParts ⊆ parts := by decide) : s₀.frame
    (s.mlRoute f frm) parts := by
  refine hs.add hl ?_
  have h₀ := refl s mlRouteParts
  unfold State.mlRoute
  split
  · have h := h₀.each (as := s.downlinks.filter (fun k => frm ≠ some k)) (f := fun s k => s.sendOn k f) fun _ _ h1 => .sendOn h1
    dsimp only
    split
    · exact .ite h (.sendOn h)
    · exact h
  · split
    · exact .sendOn h₀
    · exact .ite (.put_parked h₀) (.bump h₀)
def mlSendParts : List StatePart := [.reg .mlCnt1, .links, .parked]
theorem mlSend {ty dst : Nat} {bcast : Bool} {payload : List Word} (hs : s₀.frame s parts) (hl : mlSendParts ⊆ parts := by
    decide) : s₀.frame (s.mlSend ty dst bcast payload) parts := by
  refine hs.add hl ?_
  have h₀ := refl s mlSendParts
  unfold State.mlSend
  exact .ite (.mlRoute h₀) (.ite (.put_parked h₀) h₀)
def fltEventParts : List StatePart := [.reg .intPendSet, .reg .intErr, .reg .vecStat, .reg .fltEvt, .waking, .vecFirst,
  .wakePin]
theorem fltEvent {b : Nat} (hs : s₀.frame s parts) (hl : fltEventParts ⊆ parts := by decide) : s₀.frame (s.fltEvent b) parts :=
    by
  refine hs.add hl ?_
  have h₀ := refl s fltEventParts
  unfold State.fltEvent
  exact .event h₀
theorem fltRefresh (hs : s₀.frame s parts) (hl : .reg .fltStat ∈ parts := by decide) : s₀.frame s.fltRefresh parts := by
  refine hs.add1 hl ?_
  have h₀ := refl s [.reg .fltStat]
  unfold State.fltRefresh
  exact .setFlag (.setFlag (.setFld h₀))
def faultParts : List StatePart := [.reg .mlCnt1, .reg .intPendSet, .reg .intErr, .reg .vecStat, .reg .fltSeq, .reg .fltStat,
  .reg .fltEvt, .reg .fltRec, .waking, .links, .parked, .fltTotal, .vecFirst, .wakePin]
theorem fault {kind unit phys : Nat} {failure : Bool} {ns : Nat} {a b : Word} {found : Option Stamp} (hs : s₀.frame s parts) (hl
    : faultParts ⊆ parts := by decide) : s₀.frame (s.fault kind unit phys failure ns a b found) parts := by
  refine hs.add hl ?_
  have h₀ := refl s faultParts
  unfold State.fault
  exact .mlSend (.when (.ite (.fltEvent (.fltRefresh (.when (.wr (.put_fltTotal (.foldl h₀ fun _ _ h1 => .wr h1))) (fun _ h1 =>
    .bump h1)))) (.ite (.fltRefresh (.when (.wr (.put_fltTotal (.foldl h₀ fun _ _ h1 => .wr h1))) (fun _ h1 => .bump h1)))
    (.fltEvent (.fltRefresh (.when (.wr (.put_fltTotal (.foldl h₀ fun _ _ h1 => .wr h1))) (fun _ h1 => .bump h1)))))) (fun _
    h1 => .fltEvent h1))
theorem closePads {ps : List Nat} (hs : s₀.frame s parts) (hl : .padHold ∈ parts := by decide) : s₀.frame (s.closePads ps) parts
    := by
  refine hs.add1 hl ?_
  have h₀ := refl s [.padHold]
  unfold State.closePads
  exact .put_padHold h₀
theorem freePins {ps : List Nat} (hs : s₀.frame s parts) (hl : .pinStill ∈ parts := by decide) : s₀.frame (s.freePins ps) parts
    := by
  refine hs.add1 hl ?_
  have h₀ := refl s [.pinStill]
  unfold State.freePins
  exact .each h₀ (fun _ _ h1 => .put_pinStill h1)
theorem openPads {ps : List Nat} (hs : s₀.frame s parts) (hl : .padHold ∈ parts := by decide) : s₀.frame (s.openPads ps) parts
    := by
  refine hs.add1 hl ?_
  have h₀ := refl s [.padHold]
  unfold State.openPads
  exact .put_padHold h₀
def dropWriteParts : List StatePart := [.reg .sysAccerr, .reg .sysAccerrAddr, .reg .sysAccerrSrc, .reg .unitReq, .reg
  .ctxErrcnt, .reg .intPendSet, .reg .intErr, .reg .vecStat, .waking, .vecFirst, .wakePin]
theorem dropWrite {m : Master} {u : Nat} {k : RegKey} {r : AccReason} (hs : s₀.frame s parts) (hl : dropWriteParts ⊆ parts := by
    decide) : s₀.frame (s.dropWrite m u k r) parts := by
  refine hs.add hl ?_
  have h₀ := refl s dropWriteParts
  unfold State.dropWrite
  split
  · exact .bump h₀
  · exact .accErr (.bump h₀)
  · exact .accErr (.bump h₀)
  · exact .accErr h₀
def powerUpCourseParts : List StatePart := [.reg .chStat, .reg .pmPin, .reg .pmBank, .reg .govWakeCnt, .reg .govIsl, .reg
  .intPendSet, .reg .intErr, .reg .vecStat, .copies, .padHold, .waking, .vecFirst, .wakePin]
theorem powerUpCourse {k : Nat} (hs : s₀.frame s parts) (hl : powerUpCourseParts ⊆ parts := by decide) : s₀.frame
    (s.powerUpCourse k) parts := by
  refine hs.add hl ?_
  have h₀ := refl s powerUpCourseParts
  unfold State.powerUpCourse
  exact .ite h₀ (.withUnits (.wakeUp h₀) (fun _ h1 => .openPads (.bumpW (.setFlag (.setFlag (.each h1 (fun _ _ h2 => .setAhead
    h2)))))))
def wakeIslandParts : List StatePart := [.reg .govWakeCnt, .reg .govIsl, .waking]
theorem wakeIsland {b : Nat} (hs : s₀.frame s parts) (hl : wakeIslandParts ⊆ parts := by decide) : s₀.frame (s.wakeIsland b)
    parts := by
  refine hs.add hl ?_
  have h₀ := refl s wakeIslandParts
  unfold State.wakeIsland
  exact .ite (.bumpW (.setFlag (.wakeUp h₀))) h₀
def wakeForParts : List StatePart := [.reg .chStat, .reg .pmPin, .reg .pmBank, .reg .govWakeCnt, .reg .govIsl, .reg .intPendSet,
  .reg .intErr, .reg .vecStat, .copies, .padHold, .waking, .vecFirst, .wakePin]
theorem wakeFor {u : Nat} (hs : s₀.frame s parts) (hl : wakeForParts ⊆ parts := by decide) : s₀.frame (s.wakeFor u) parts := by
  refine hs.add hl ?_
  have h₀ := refl s wakeForParts
  unfold State.wakeFor
  exact .ite (.powerUpCourse h₀) (.ite (.wakeIsland h₀) (.ite (.wakeIsland h₀) (.ite (.wakeIsland h₀) (.ite (.powerUpCourse h₀)
    h₀))))
theorem launch {t c : Nat} {e : Stamp} (hs : s₀.frame s parts) (hl : .launched ∈ parts := by decide) : s₀.frame (s.launch t c e)
    parts := by
  refine hs.add1 hl ?_
  have h₀ := refl s [.launched]
  unfold State.launch
  exact .each h₀ (fun _ _ h1 => .put_launched h1)
def withSumParts : List StatePart := [.reg .intPendSet, .reg .intErr, .reg .vecStat, .waking, .vecFirst, .wakePin]
theorem withSum {t : Nat} {f : State → State} (h : s₀.frame s parts) (hf : ∀ t, s₀.frame t parts → s₀.frame (f t) parts)
    (hl : raiseParts ⊆ parts := by decide) : s₀.frame (s.withSum t f) parts := .ite (.raise (hf _ h) hl) (hf _ h)
def chDropParts : List StatePart := [.reg .chStat, .reg .chErrcnt]
theorem chDrop {t c : Nat} (hs : s₀.frame s parts) (hl : chDropParts ⊆ parts := by decide) : s₀.frame (s.chDrop t c) parts := by
  refine hs.add hl ?_
  have h₀ := refl s chDropParts
  unfold State.chDrop
  exact .bump (.setFlag h₀)
theorem noteCourse {t : Nat} (hs : s₀.frame s parts) (hl : .courseAt ∈ parts := by decide) : s₀.frame (s.noteCourse t) parts :=
    by
  refine hs.add1 hl ?_
  have h₀ := refl s [.courseAt]
  unfold State.noteCourse
  exact .put_courseAt h₀
def setRunParts : List StatePart := [.reg .chStat, .reg .pmPin, .reg .intPendSet, .reg .intErr, .reg .vecStat, .courseAt,
  .waking, .vecFirst, .wakePin]
theorem setRun {t c : Nat} {b : Bool} (hs : s₀.frame s parts) (hl : setRunParts ⊆ parts := by decide) : s₀.frame (s.setRun t c
    b) parts := by
  refine hs.add hl ?_
  have h₀ := refl s setRunParts
  unfold State.setRun
  exact .noteCourse (.withUnit h₀ (fun _ h1 => .each h1 (fun _ _ h2 => .setFlag h2)))
theorem setWide {n : RegName} {v t c : Nat} (h : s₀.frame s parts) (hl : .reg n ∈ parts := by decide) : s₀.frame (s.setWide n v t c) parts :=
  .ite ((h.wr hl).wr hl) (h.wr hl)
def blankParts : List StatePart := [.trips, .launched]
theorem blank {t c : Nat} {e : Stamp} (hs : s₀.frame s parts) (hl : blankParts ⊆ parts := by decide) : s₀.frame (s.blank t c e)
    parts := by
  refine hs.add hl ?_
  have h₀ := refl s blankParts
  unfold State.blank
  exact .each (.launch h₀) (fun _ _ h1 => .ite (.setTrip h1) h1)
def setSideParts : List StatePart := [.reg .brStat, .trips, .launched]
theorem setSide {t p : Nat} {high on : Bool} {e : Stamp} (hs : s₀.frame s parts) (hl : setSideParts ⊆ parts := by decide) :
    s₀.frame (s.setSide t p high on e) parts := by
  refine hs.add hl ?_
  have h₀ := refl s setSideParts
  unfold State.setSide
  exact .ite h₀ (.blank (.setFlag h₀))
theorem absent {t p : Nat} {high : Bool} (hs : s₀.frame s parts) (hl : .reg .brStat ∈ parts := by decide) : s₀.frame (s.absent t
    p high) parts := by
  refine hs.add1 hl ?_
  have h₀ := refl s [.reg .brStat]
  unfold State.absent
  exact .bump h₀
def bridgeStartParts : List StatePart := [.reg .brStat, .bridges, .trips, .launched]
theorem bridgeStart {t p : Nat} {e : Stamp} (hs : s₀.frame s parts) (hl : bridgeStartParts ⊆ parts := by decide) : s₀.frame
    (s.bridgeStart t p e) parts := by
  refine hs.add hl ?_
  have h₀ := refl s bridgeStartParts
  unfold State.bridgeStart
  exact .setBridge (.setSide (.setSide h₀))
def bridgeStopParts : List StatePart := [.reg .brStat, .bridges, .trips, .launched]
theorem bridgeStop {t p : Nat} {e : Stamp} (hs : s₀.frame s parts) (hl : bridgeStopParts ⊆ parts := by decide) : s₀.frame
    (s.bridgeStop t p e) parts := by
  refine hs.add hl ?_
  have h₀ := refl s bridgeStopParts
  unfold State.bridgeStop
  exact .setBridge (.setSide (.setSide h₀))
theorem endTripHold {t p : Nat} (hs : s₀.frame s parts) (hl : .chans ∈ parts := by decide) : s₀.frame (s.endTripHold t p) parts
    := by
  refine hs.add1 hl ?_
  have h₀ := refl s [.chans]
  unfold State.endTripHold
  exact .onChan (.onChan h₀)
def bridgeEdgeParts : List StatePart := [.reg .brStat, .chans, .bridges, .trips, .launched]
theorem bridgeEdge {t p : Nat} {up : Bool} {e : Stamp} (hs : s₀.frame s parts) (hl : bridgeEdgeParts ⊆ parts := by decide) :
    s₀.frame (s.bridgeEdge t p up e) parts := by
  refine hs.add hl ?_
  have h₀ := refl s bridgeEdgeParts
  unfold State.bridgeEdge
  refine .ite (.bridgeStart (.endTripHold h₀)) (.ite (.setBridge ?_) (.ite (.ite (.setBridge ?_) (.setBridge (.setSide ?_)))
    (.setBridge ?_)))
  · split
    · exact h₀
    · exact .ite h₀ (.ite (.setSide (.setBridge h₀)) (.absent h₀))
  · split
    · exact h₀
    · exact .ite h₀ (.ite (.setSide (.setBridge h₀)) (.absent h₀))
  · split
    · exact h₀
    · exact .ite h₀ (.ite (.setSide (.setBridge h₀)) (.absent h₀))
  · split
    · exact h₀
    · exact .ite h₀ (.ite (.setSide (.setBridge h₀)) (.absent h₀))
def driveParts : List StatePart := [.reg .brStat, .chans, .bridges, .trips, .launched]
theorem drive {t c n rank act fine : Nat} {base : Option Bool} (hs : s₀.frame s parts) (hl : driveParts ⊆ parts := by decide) :
    s₀.frame (s.drive t c n rank act fine base) parts := by
  refine hs.add hl ?_
  have h₀ := refl s driveParts
  unfold State.drive
  refine .ite ?_ ?_
  · dsimp only
    split
    · exact .bridgeEdge (.setChan h₀)
    · exact .setChan h₀
  · dsimp only
    split
    · exact .blank (.setChan h₀)
    · exact .setChan h₀
def copySetParts : List StatePart := [.reg .chAperiod, .reg .chAcmpa, .reg .chAcmpb, .reg .chAfrac, .reg .chAact, .bridges]
theorem copySet {t c : Nat} (hs : s₀.frame s parts) (hl : copySetParts ⊆ parts := by decide) : s₀.frame (s.copySet t c) parts :=
    by
  refine hs.add hl ?_
  have h₀ := refl s copySetParts
  unfold State.copySet
  exact .ite (.setBridge (.ite (.wr (.setWide (.ite (.wr (.setWide (.wr (.wr (.setWide (.setWide (.setWide h₀))))))) (.wr (.wr
    (.setWide (.setWide (.setWide h₀)))))))) (.ite (.wr (.setWide (.wr (.wr (.setWide (.setWide (.setWide h₀))))))) (.wr (.wr
    (.setWide (.setWide (.setWide h₀)))))))) (.ite (.wr (.setWide (.ite (.wr (.setWide (.wr (.wr (.setWide (.setWide (.setWide
    h₀))))))) (.wr (.wr (.setWide (.setWide (.setWide h₀)))))))) (.ite (.wr (.setWide (.wr (.wr (.setWide (.setWide (.setWide
    h₀))))))) (.wr (.wr (.setWide (.setWide (.setWide h₀)))))))
def handOverParts : List StatePart := [.reg .chAperiod, .reg .chAcmpa, .reg .chAcmpb, .reg .chAfrac, .reg .chAact, .reg .chStat,
  .reg .chErrcnt, .reg .brStat, .chans, .bridges, .trips, .launched]
theorem handOver {t c r : Nat} (hs : s₀.frame s parts) (hl : handOverParts ⊆ parts := by decide) : s₀.frame (s.handOver t c r)
    parts := by
  refine hs.add hl ?_
  have h₀ := refl s handOverParts
  unfold State.handOver
  exact .ite (.ite (.ite (.bridgeStart (.endTripHold h₀)) h₀) (.onChan h₀)) (.ite (.chDrop (.setFlag (.ite (.ite (.bridgeStart
    (.endTripHold h₀)) h₀) (.onChan h₀)))) (.onChan (.copySet (.setFlag (.ite (.ite (.bridgeStart (.endTripHold h₀)) h₀)
    (.onChan h₀))))))
def judgeStepParts : List StatePart := [.reg .chStat, .reg .chEvcnt, .reg .brStat, .reg .pmPin, .reg .intPendSet, .reg .intErr,
  .reg .vecStat, .chans, .bridges, .trips, .launched, .offers, .lastEv, .courseAt, .waking, .vecFirst, .wakePin]
theorem judgeStep {t c n cnt : Nat} {down : Bool} {base : Option Bool} {fin : Bool} (hs : s₀.frame s parts) (hl : judgeStepParts
    ⊆ parts := by decide) : s₀.frame (s.judgeStep t c n cnt down base fin) parts := by
  refine hs.add hl ?_
  have h₀ := refl s judgeStepParts
  unfold State.judgeStep
  exact .ite (.drive (.when (.when (.when (.when (.when h₀ (fun _ h1 => .setFlag h1)) (fun _ h1 => .bumpW (.setFlag h1))) (fun _
    h1 => .setFlag h1)) (fun _ h1 => .setFlag h1)) (fun _ h1 => .setFlag (.setRun h1)))) (.offer (.drive (.when (.when (.when
    (.when (.when h₀ (fun _ h1 => .setFlag h1)) (fun _ h1 => .bumpW (.setFlag h1))) (fun _ h1 => .setFlag h1)) (fun _ h1 =>
    .setFlag h1)) (fun _ h1 => .setFlag (.setRun h1)))))
theorem ditherStep {t c : Nat} (hs : s₀.frame s parts) (hl : .reg .chPwmstat ∈ parts := by decide) : s₀.frame (s.ditherStep t c)
    parts := by
  refine hs.add1 hl ?_
  have h₀ := refl s [.reg .chPwmstat]
  unfold State.ditherStep
  exact .setFld h₀
def stepZeroParts : List StatePart := [.reg .chCount, .reg .chAperiod, .reg .chAcmpa, .reg .chAcmpb, .reg .chAfrac, .reg
  .chAact, .reg .chPwmstat, .reg .chStat, .reg .chErrcnt, .reg .chEvcnt, .reg .brStat, .reg .pmPin, .reg .intPendSet, .reg
  .intErr, .reg .vecStat, .chans, .bridges, .trips, .launched, .offers, .lastEv, .courseAt, .waking, .vecFirst, .wakePin]
theorem stepZero {t c r acc : Nat} (hs : s₀.frame s parts) (hl : stepZeroParts ⊆ parts := by decide) : s₀.frame (s.stepZero t c
    r acc) parts := by
  refine hs.add hl ?_
  have h₀ := refl s stepZeroParts
  unfold State.stepZero
  exact .judgeStep (.setWide (.onChan (.ditherStep (.handOver (.onChan h₀)))))
def countStepParts : List StatePart := [.reg .chCount, .reg .chAperiod, .reg .chAcmpa, .reg .chAcmpb, .reg .chAfrac, .reg
  .chAact, .reg .chPwmstat, .reg .chStat, .reg .chErrcnt, .reg .chEvcnt, .reg .brStat, .reg .pmPin, .reg .intPendSet, .reg
  .intErr, .reg .vecStat, .chans, .bridges, .trips, .launched, .offers, .lastEv, .courseAt, .waking, .vecFirst, .wakePin]
theorem countStep {t c r : Nat} (hs : s₀.frame s parts) (hl : countStepParts ⊆ parts := by decide) : s₀.frame (s.countStep t c
    r) parts := by
  refine hs.add hl ?_
  have h₀ := refl s countStepParts
  unfold State.countStep
  exact .ite (.ite (.setChan h₀) (.ite (.ite (.stepZero h₀) (.judgeStep (.setChan (.setWide h₀)))) (.judgeStep (.when (.setChan
    (.setWide h₀)) (fun _ h1 => .handOver h1))))) (.ite (.judgeStep (.setChan (.setWide h₀))) (.ite (.judgeStep (.setChan
    (.setWide h₀))) (.ite (.setChan h₀) (.ite h₀ (.stepZero (.setChan h₀))))))
def startOneParts : List StatePart := [.reg .chCount, .reg .chAperiod, .reg .chAcmpa, .reg .chAcmpb, .reg .chAfrac, .reg
  .chAact, .reg .chPwmstat, .reg .chStat, .reg .chEvcnt, .reg .brStat, .reg .pmPin, .reg .intPendSet, .reg .intErr, .reg
  .vecStat, .chans, .bridges, .trips, .launched, .offers, .lastEv, .courseAt, .waking, .vecFirst, .wakePin]
theorem startOne {t c n acc : Nat} (hs : s₀.frame s parts) (hl : startOneParts ⊆ parts := by decide) : s₀.frame (s.startOne t c
    n acc) parts := by
  refine hs.add hl ?_
  have h₀ := refl s startOneParts
  unfold State.startOne
  exact .ite h₀ (.ite (.setFlag h₀) (.ite (.bridgeStart (.drive (.ite (.setChan (.setFld (.copySet (.each (.setFlag (.setRun
    (.onChan h₀))) (fun _ _ h1 => .setFlag h1))))) (.judgeStep (.setWide (.setChan (.setFld (.copySet (.each (.setFlag
    (.setRun (.onChan h₀))) (fun _ _ h1 => .setFlag h1)))))))))) (.drive (.ite (.setChan (.setFld (.copySet (.each (.setFlag
    (.setRun (.onChan h₀))) (fun _ _ h1 => .setFlag h1))))) (.judgeStep (.setWide (.setChan (.setFld (.copySet (.each
    (.setFlag (.setRun (.onChan h₀))) (fun _ _ h1 => .setFlag h1)))))))))))
def startMaskParts : List StatePart := [.reg .chCount, .reg .chAperiod, .reg .chAcmpa, .reg .chAcmpb, .reg .chAfrac, .reg
  .chAact, .reg .chPwmstat, .reg .chStat, .reg .chEvcnt, .reg .brStat, .reg .pmPin, .reg .intPendSet, .reg .intErr, .reg
  .vecStat, .chans, .bridges, .trips, .launched, .offers, .lastEv, .courseAt, .waking, .vecFirst, .wakePin]
theorem startMask {t mask n acc : Nat} (hs : s₀.frame s parts) (hl : startMaskParts ⊆ parts := by decide) : s₀.frame
    (s.startMask t mask n acc) parts := by
  refine hs.add hl ?_
  have h₀ := refl s startMaskParts
  unfold State.startMask
  exact .withSum h₀ (fun _ h1 => .each h1 (fun _ _ h2 => .ite (.setFlag h2) (.startOne h2)))
def stopOneParts : List StatePart := [.reg .chAperiod, .reg .chAcmpa, .reg .chAcmpb, .reg .chAfrac, .reg .chAact, .reg .chStat,
  .reg .chErrcnt, .reg .brStat, .reg .pmPin, .reg .intPendSet, .reg .intErr, .reg .vecStat, .bridges, .trips, .launched,
  .courseAt, .waking, .vecFirst, .wakePin]
theorem stopOne {t c n : Nat} (hs : s₀.frame s parts) (hl : stopOneParts ⊆ parts := by decide) : s₀.frame (s.stopOne t c n)
    parts := by
  refine hs.add hl ?_
  have h₀ := refl s stopOneParts
  unfold State.stopOne
  exact .ite h₀ (.each (.ite (.bridgeStop (.setRun (.ite (.ite (.chDrop (.setFlag h₀)) (.copySet (.setFlag h₀))) h₀))) (.setRun
    (.ite (.ite (.chDrop (.setFlag h₀)) (.copySet (.setFlag h₀))) h₀))) (fun _ _ h1 => .each (.setFlag h1) (fun _ _ h2 =>
    .setFlag h2)))
def stopMaskParts : List StatePart := [.reg .chAperiod, .reg .chAcmpa, .reg .chAcmpb, .reg .chAfrac, .reg .chAact, .reg .chStat,
  .reg .chErrcnt, .reg .brStat, .reg .pmPin, .reg .intPendSet, .reg .intErr, .reg .vecStat, .bridges, .trips, .launched,
  .courseAt, .waking, .vecFirst, .wakePin]
theorem stopMask {t mask n : Nat} (hs : s₀.frame s parts) (hl : stopMaskParts ⊆ parts := by decide) : s₀.frame (s.stopMask t
    mask n) parts := by
  refine hs.add hl ?_
  have h₀ := refl s stopMaskParts
  unfold State.stopMask
  exact .withSum h₀ (fun _ h1 => .each h1 (fun _ _ h2 => .stopOne h2))
def commitMaskParts : List StatePart := [.reg .chStat, .chans]
theorem commitMask {t mask n : Nat} (hs : s₀.frame s parts) (hl : commitMaskParts ⊆ parts := by decide) : s₀.frame (s.commitMask
    t mask n) parts := by
  refine hs.add hl ?_
  have h₀ := refl s commitMaskParts
  unfold State.commitMask
  exact .each h₀ (fun _ _ h1 => .ite (.onChan (.setFlag h1)) h1)
def loadFolParts : List StatePart := [.fols, .folMiss]
theorem loadFol {t f : Nat} (hs : s₀.frame s parts) (hl : loadFolParts ⊆ parts := by decide) : s₀.frame (s.loadFol t f) parts :=
    by
  refine hs.add hl ?_
  have h₀ := refl s loadFolParts
  unfold State.loadFol
  exact .put_folMiss (.setFol h₀)
def angleCompareParts : List StatePart := [.reg .chStat, .reg .brStat, .chans, .bridges, .trips, .launched]
theorem angleCompare {t c n : Nat} (hs : s₀.frame s parts) (hl : angleCompareParts ⊆ parts := by decide) : s₀.frame
    (s.angleCompare t c n) parts := by
  refine hs.add hl ?_
  have h₀ := refl s angleCompareParts
  unfold State.angleCompare
  exact .ite h₀ (.ite (.drive (.setFlag (.ite (.drive (.setFlag h₀)) (.ite (.drive (.setFlag h₀)) h₀)))) (.ite (.drive (.setFlag
    (.ite (.drive (.setFlag h₀)) (.ite (.drive (.setFlag h₀)) h₀)))) (.ite (.drive (.setFlag h₀)) (.ite (.drive (.setFlag h₀))
    h₀))))
def writeChCtrlParts : List StatePart := [.reg .chCtrl, .reg .chStat, .reg .chErrcnt]
theorem writeChCtrl {t c : Nat} {v0 : Word} (hs : s₀.frame s parts) (hl : writeChCtrlParts ⊆ parts := by decide) : s₀.frame
    (s.writeChCtrl t c v0) parts := by
  refine hs.add hl ?_
  have h₀ := refl s writeChCtrlParts
  unfold State.writeChCtrl
  exact .ite (.chDrop h₀) (.wr h₀)
def writeShadowParts : List StatePart := [.reg .chPeriod, .reg .chCmpa, .reg .chCmpb, .reg .chFrac, .reg .chAct, .reg .chRatio,
  .reg .chPwmctrl, .reg .chAperiod, .reg .chAcmpa, .reg .chAcmpb, .reg .chAfrac, .reg .chAact, .reg .chErrcnt, .reg .brDt, .reg
  .brMinpw, .bridges]
theorem writeShadow {t c : Nat} {r : ShadowReg} {v : Word} (hs : s₀.frame s parts) (hl : writeShadowParts ⊆ parts := by decide) :
    s₀.frame (s.writeShadow t c r v) parts := by
  refine hs.add hl ?_
  have h₀ := refl s writeShadowParts
  have name : .reg (shadowReg r) ∈ writeShadowParts := by cases r <;> decide
  have active : ∀ a, shadowActive r = some a → .reg a ∈ writeShadowParts := by cases r <;> simp [shadowActive, writeShadowParts]
  unfold State.writeShadow
  refine .ite h₀ (.ite (.bump h₀) (.ite (.ite (.wr h₀ name) (.setBridge (.wr h₀ name))) ?_))
  dsimp only
  split
  next a ha => exact .ite (.wr h₀ name) (.wr (.wr h₀ name) (active a ha))
  · exact .wr h₀ name
theorem dropTrips {k : Nat} (hs : s₀.frame s parts) (hl : .trips ∈ parts := by decide) : s₀.frame (s.dropTrips k) parts := by
  refine hs.add1 hl ?_
  have h₀ := refl s [.trips]
  unfold State.dropTrips
  exact .each h₀ (fun _ _ h1 => .ite (.setTrip h1) h1)
def setPinParts : List StatePart := [.trips, .pinIn]
theorem setPin {p : Nat} {level : Bool} (hs : s₀.frame s parts) (hl : setPinParts ⊆ parts := by decide) : s₀.frame (s.setPin p
    level) parts := by
  refine hs.add hl ?_
  have h₀ := refl s setPinParts
  unfold State.setPin
  exact .dropTrips (.put_pinIn h₀)
theorem ackCapture {t c : Nat} (hs : s₀.frame s parts) (hl : .reg .chCapvHi ∈ parts := by decide) : s₀.frame (s.ackCapture t c)
    parts := by
  refine hs.add1 hl ?_
  have h₀ := refl s [.reg .chCapvHi]
  unfold State.ackCapture
  exact .setFlag (.setFlag h₀)
def linkedReadParts : List StatePart := [.latch, .lastRead]
theorem linkedRead {m : Master} {lo hi : Word} (hs : s₀.frame s parts) (hl : linkedReadParts ⊆ parts := by decide) : s₀.frame
    (s.linkedRead m lo hi) parts := by
  refine hs.add hl ?_
  have h₀ := refl s linkedReadParts
  unfold State.linkedRead
  exact .setLatch (.setRead h₀)
def lateStartParts : List StatePart := [.reg .chCount, .reg .chAperiod, .reg .chAcmpa, .reg .chAcmpb, .reg .chAfrac, .reg
  .chAact, .reg .chPwmstat, .reg .chStat, .reg .chEvcnt, .reg .tileStartArm, .reg .tileStat, .reg .brStat, .reg .pmPin, .reg
  .intPendSet, .reg .intErr, .reg .vecStat, .chans, .bridges, .trips, .launched, .offers, .lastEv, .courseAt, .waking,
  .vecFirst, .wakePin]
theorem lateStart {t n : Nat} (hs : s₀.frame s parts) (hl : lateStartParts ⊆ parts := by decide) : s₀.frame (s.lateStart t n)
    parts := by
  refine hs.add hl ?_
  have h₀ := refl s lateStartParts
  unfold State.lateStart
  exact .startMask (.setFlag (.setFlag h₀))
def armStartParts : List StatePart := [.reg .chCount, .reg .chAperiod, .reg .chAcmpa, .reg .chAcmpb, .reg .chAfrac, .reg
  .chAact, .reg .chPwmstat, .reg .chStat, .reg .chEvcnt, .reg .tileStartArm, .reg .tileStat, .reg .brStat, .reg .pmPin, .reg
  .intPendSet, .reg .intErr, .reg .vecStat, .chans, .bridges, .trips, .launched, .offers, .lastEv, .courseAt, .waking,
  .vecFirst, .wakePin]
theorem armStart {t mask : Nat} (hs : s₀.frame s parts) (hl : armStartParts ⊆ parts := by decide) : s₀.frame (s.armStart t mask)
    parts := by
  refine hs.add hl ?_
  have h₀ := refl s armStartParts
  unfold State.armStart
  exact .ite (.lateStart (.wr h₀)) (.wr h₀)
def stopTileParts : List StatePart := [.reg .chCount, .reg .chAperiod, .reg .chAcmpa, .reg .chAcmpb, .reg .chAfrac, .reg
  .chAact, .reg .chPwmstat, .reg .chStat, .reg .chErrcnt, .reg .chEvcnt, .reg .tileStartArm, .reg .brStat, .reg .pmPin, .reg
  .intPendSet, .reg .intErr, .reg .vecStat, .chans, .bridges, .trips, .launched, .offers, .lastEv, .courseAt, .waking,
  .vecFirst, .wakePin]
theorem stopTile {t mask : Nat} (hs : s₀.frame s parts) (hl : stopTileParts ⊆ parts := by decide) : s₀.frame (s.stopTile t mask)
    parts := by
  refine hs.add hl ?_
  have h₀ := refl s stopTileParts
  unfold State.stopTile
  exact .ite (.startMask (.setFlag (.stopMask h₀))) (.stopMask h₀)
def clrTileParts : List StatePart := [.reg .chErrcnt, .reg .chEvcnt, .reg .tripCnt, .reg .brStat]
theorem clrTile {t : Nat} (hs : s₀.frame s parts) (hl : clrTileParts ⊆ parts := by decide) : s₀.frame (s.clrTile t) parts := by
  refine hs.add hl ?_
  have h₀ := refl s clrTileParts
  unfold State.clrTile
  exact .clr (.each (.each h₀ (fun _ _ h1 => .clr (.clr h1))) (fun _ _ h1 => .setFld h1))
def writeBrCtrlParts : List StatePart := [.reg .chStat, .reg .chErrcnt, .reg .brCtrl, .reg .intPendSet, .reg .intErr, .reg
  .vecStat, .waking, .vecFirst, .wakePin]
theorem writeBrCtrl {t p : Nat} {v : Word} (hs : s₀.frame s parts) (hl : writeBrCtrlParts ⊆ parts := by decide) : s₀.frame
    (s.writeBrCtrl t p v) parts := by
  refine hs.add hl ?_
  have h₀ := refl s writeBrCtrlParts
  unfold State.writeBrCtrl
  exact .ite h₀ (.ite (.withSum h₀ (fun _ h1 => .chDrop h1)) (.wr h₀))
def latchTripsParts : List StatePart := [.reg .chStat, .reg .tripStat, .chans]
theorem latchTrips {t : Nat} {inB : Bool} (hs : s₀.frame s parts) (hl : latchTripsParts ⊆ parts := by decide) : s₀.frame
    (s.latchTrips t inB) parts := by
  refine hs.add hl ?_
  have h₀ := refl s latchTripsParts
  unfold State.latchTrips
  exact .each h₀ (fun _ _ h1 => .onChan (.setFlag (.setFlag h1)))
def clearTripsParts : List StatePart := [.reg .chStat, .reg .tripStat, .reg .tripCnt, .reg .intPendSet, .reg .intErr, .reg
  .vecStat, .chans, .waking, .vecFirst, .wakePin]
theorem clearTrips {t mask : Nat} (hs : s₀.frame s parts) (hl : clearTripsParts ⊆ parts := by decide) : s₀.frame (s.clearTrips t
    mask) parts := by
  refine hs.add hl ?_
  have h₀ := refl s clearTripsParts
  unfold State.clearTrips
  exact .ite h₀ (.withSum h₀ (fun _ h1 => .each h1 (fun _ _ h2 => .ite (.when (.when h2 (fun _ h3 => .bump h3)) (fun _ h3 =>
    .bump h3)) (.onChan (.setFlag (.setFlag h2))))))
def writeTripLvlParts : List StatePart := [.reg .chStat, .reg .chErrcnt, .reg .tripLvl, .reg .intPendSet, .reg .intErr, .reg
  .vecStat, .waking, .vecFirst, .wakePin]
theorem writeTripLvl {t : Nat} {v : Word} (hs : s₀.frame s parts) (hl : writeTripLvlParts ⊆ parts := by decide) : s₀.frame
    (s.writeTripLvl t v) parts := by
  refine hs.add hl ?_
  have h₀ := refl s writeTripLvlParts
  unfold State.writeTripLvl
  exact .ite h₀ (.withSum h₀ (fun _ h1 => .ite (.wr h1) (.each (.each h1 (fun _ _ h2 => .chDrop h2)) (fun _ _ h2 => .chDrop
    h2))))
def storePinParts : List StatePart := [.reg .pmPin, .pinStill]
theorem storePin {p : Nat} {v : Word} (hs : s₀.frame s parts) (hl : storePinParts ⊆ parts := by decide) : s₀.frame (s.storePin p
    v) parts := by
  refine hs.add hl ?_
  have h₀ := refl s storePinParts
  unfold State.storePin
  exact .freePins (.wr h₀)
theorem onSlot {t k : Nat} {f : SlotX → SlotX} (hs : s₀.frame s parts) (hl : .slots ∈ parts := by decide) : s₀.frame (s.onSlot t
    k f) parts := by
  refine hs.add1 hl ?_
  have h₀ := refl s [.slots]
  unfold State.onSlot
  exact .setSlotX h₀
def fillSlotParts : List StatePart := [.reg .slotCtrl, .reg .slotAngle, .reg .slotDelay, .reg .slotClose, .reg .slotGuard, .reg
  .calSlotuse, .slots]
theorem fillSlot {t k d handle ch act angle delay close guard : Nat} (hs : s₀.frame s parts) (hl : fillSlotParts ⊆ parts := by
    decide) : s₀.frame (s.fillSlot t k d handle ch act angle delay close guard) parts := by
  refine hs.add hl ?_
  have h₀ := refl s fillSlotParts
  unfold State.fillSlot
  exact .setFld (.setSlotX (.wr (.wr (.wr (.wr (.wr h₀))))))
theorem dropSlot {t k : Nat} (hs : s₀.frame s parts) (hl : .reg .slotCtrl ∈ parts := by decide) : s₀.frame (s.dropSlot t k)
    parts := by
  refine hs.add1 hl ?_
  have h₀ := refl s [.reg .slotCtrl]
  unfold State.dropSlot
  exact .setFld (.setFlag h₀)
def judgeSlotParts : List StatePart := [.reg .slotCtrl, .slots]
theorem judgeSlot {t k n : Nat} (hs : s₀.frame s parts) (hl : judgeSlotParts ⊆ parts := by decide) : s₀.frame (s.judgeSlot t k
    n) parts := by
  refine hs.add hl ?_
  have h₀ := refl s judgeSlotParts
  unfold State.judgeSlot
  exact .ite (.onSlot (.setFlag h₀)) (.onSlot h₀)
def slotEdgeParts : List StatePart := [.reg .brStat, .chans, .bridges, .trips, .slots, .launched]
theorem slotEdge {t k act : Nat} {e : Stamp} {delayed : Bool} (hs : s₀.frame s parts) (hl : slotEdgeParts ⊆ parts := by decide)
    : s₀.frame (s.slotEdge t k act e delayed) parts := by
  refine hs.add hl ?_
  have h₀ := refl s slotEdgeParts
  unfold State.slotEdge
  exact .ite (.onSlot (.onChan (.drive h₀))) (.drive h₀)
def burstStartParts : List StatePart := [.reg .chCount, .reg .chPwmstat, .reg .chStat, .reg .chEvcnt, .reg .brStat, .reg .pmPin,
  .reg .intPendSet, .reg .intErr, .reg .vecStat, .chans, .bridges, .trips, .launched, .offers, .lastEv, .courseAt, .waking,
  .vecFirst, .wakePin]
theorem burstStart {t k : Nat} {e : Stamp} (hs : s₀.frame s parts) (hl : burstStartParts ⊆ parts := by decide) : s₀.frame
    (s.burstStart t k e) parts := by
  refine hs.add hl ?_
  have h₀ := refl s burstStartParts
  unfold State.burstStart
  exact .judgeStep (.setFld (.setWide (.onChan h₀)))
def slotLowParts : List StatePart := [.reg .brStat, .chans, .bridges, .trips, .slots, .launched]
theorem slotLow {t k : Nat} {e : Stamp} {delayed : Bool} (hs : s₀.frame s parts) (hl : slotLowParts ⊆ parts := by decide) :
    s₀.frame (s.slotLow t k e delayed) parts := by
  refine hs.add hl ?_
  have h₀ := refl s slotLowParts
  unfold State.slotLow
  exact .slotEdge (.onChan h₀)
theorem clearSlot {t k n : Nat} (hs : s₀.frame s parts) (hl : .slots ∈ parts := by decide) : s₀.frame (s.clearSlot t k n) parts
    := by
  refine hs.add1 hl ?_
  have h₀ := refl s [.slots]
  unfold State.clearSlot
  exact .onSlot h₀
def fixSlotsParts : List StatePart := [.reg .slotCtrl, .slots]
theorem fixSlots {t f n : Nat} {old new : Traj} (hs : s₀.frame s parts) (hl : fixSlotsParts ⊆ parts := by decide) : s₀.frame
    (s.fixSlots t f n old new) parts := by
  refine hs.add hl ?_
  have h₀ := refl s fixSlotsParts
  unfold State.fixSlots
  exact .each h₀ (fun _ _ h1 => .ite h1 (.ite (.ite (.setFlag (.onSlot h1)) (.onSlot h1)) (.ite (.onSlot h1) h1)))
def logEventParts : List StatePart := [.reg .logEvt, .reg .intPendSet, .reg .intErr, .reg .vecStat, .waking, .vecFirst,
  .wakePin]
theorem logEvent {b : Nat} (hs : s₀.frame s parts) (hl : logEventParts ⊆ parts := by decide) : s₀.frame (s.logEvent b) parts :=
    by
  refine hs.add hl ?_
  have h₀ := refl s logEventParts
  unfold State.logEvent
  exact .event h₀
def setDroppingParts : List StatePart := [.reg .logStat, .dropping]
theorem setDropping {k : Nat} {ring queue : Bool} (hs : s₀.frame s parts) (hl : setDroppingParts ⊆ parts := by decide) :
    s₀.frame (s.setDropping k ring queue) parts := by
  refine hs.add hl ?_
  have h₀ := refl s setDroppingParts
  unfold State.setDropping
  exact .setFlag (.put_dropping h₀)
def logDropParts : List StatePart := [.reg .logStat, .reg .logEvt, .reg .logCnt, .reg .catW3, .reg .intPendSet, .reg .intErr,
  .reg .vecStat, .dropping, .waking, .vecFirst, .wakePin]
theorem logDrop {r : LogRec} {queue : Bool} (hs : s₀.frame s parts) (hl : logDropParts ⊆ parts := by decide) : s₀.frame
    (s.logDrop r queue) parts := by
  refine hs.add hl ?_
  have h₀ := refl s logDropParts
  unfold State.logDrop
  exact .ite (.logEvent (.setDropping (.when (.bumpW (.bump (.bump h₀))) (fun _ h1 => .logEvent h1)))) (.setDropping (.when
    (.bumpW (.bump (.bump h₀))) (fun _ h1 => .logEvent h1)))
def logArriveParts : List StatePart := [.reg .logStat, .reg .logEvt, .reg .logCntMisc, .reg .logCnt, .reg .catW3, .reg
  .intPendSet, .reg .intErr, .reg .vecStat, .dropping, .logQ, .waking, .vecFirst, .wakePin]
theorem logArrive {r : LogRec} (hs : s₀.frame s parts) (hl : logArriveParts ⊆ parts := by decide) : s₀.frame (s.logArrive r)
    parts := by
  refine hs.add hl ?_
  have h₀ := refl s logArriveParts
  unfold State.logArrive
  exact .ite (.bumpW h₀) (.ite (.logDrop h₀) (.ite (.logDrop h₀) (.put_logQ h₀)))
def logMakeParts : List StatePart := [.reg .logStat, .reg .logEvt, .reg .logCntMisc, .reg .logCnt, .reg .catW3, .reg
  .intPendSet, .reg .intErr, .reg .vecStat, .dropping, .logQ, .waking, .vecFirst, .wakePin]
theorem logMake {sig : Nat} {value aux : Word} {ts : Stamp} {snap : Bool} (hs : s₀.frame s parts) (hl : logMakeParts ⊆ parts :=
    by decide) : s₀.frame (s.logMake sig value aux ts snap) parts := by
  refine hs.add hl ?_
  have h₀ := refl s logMakeParts
  unfold State.logMake
  exact .logArrive h₀
def snapshotParts : List StatePart := [.reg .logStat, .reg .logEvt, .reg .logCntMisc, .reg .logCnt, .reg .catW3, .reg
  .intPendSet, .reg .intErr, .reg .vecStat, .dropping, .logQ, .waking, .vecFirst, .wakePin]
theorem snapshot {sig : Nat} {ts : Stamp} (hs : s₀.frame s parts) (hl : snapshotParts ⊆ parts := by decide) : s₀.frame
    (s.snapshot sig ts) parts := by
  refine hs.add hl ?_
  have h₀ := refl s snapshotParts
  unfold State.snapshot
  exact .ite (.bumpW h₀) (.logMake h₀)
def portEventParts : List StatePart := [.reg .portEvt, .reg .intPendSet, .reg .intErr, .reg .vecStat, .waking, .vecFirst,
  .wakePin]
theorem portEvent {p b : Nat} (hs : s₀.frame s parts) (hl : portEventParts ⊆ parts := by decide) : s₀.frame (s.portEvent p b)
    parts := by
  refine hs.add hl ?_
  have h₀ := refl s portEventParts
  unfold State.portEvent
  exact .event h₀
def notQueuedParts : List StatePart := [.reg .portEvt, .reg .portCnt2, .reg .intPendSet, .reg .intErr, .reg .vecStat, .waking,
  .vecFirst, .wakePin]
theorem notQueued {p : Nat} (hs : s₀.frame s parts) (hl : notQueuedParts ⊆ parts := by decide) : s₀.frame (s.notQueued p) parts
    := by
  refine hs.add hl ?_
  have h₀ := refl s notQueuedParts
  unfold State.notQueued
  exact .portEvent (.bump h₀)
def portTriggerParts : List StatePart := [.reg .govWakeCnt, .reg .govIsl, .reg .portEvt, .reg .portCnt2, .reg .intPendSet, .reg
  .intErr, .reg .vecStat, .portX, .waking, .vecFirst, .wakePin]
theorem portTrigger {p : Nat} {t : Txn} (hs : s₀.frame s parts) (hl : portTriggerParts ⊆ parts := by decide) : s₀.frame
    (s.portTrigger p t).2 parts := by
  refine hs.add hl ?_
  have h₀ := refl s portTriggerParts
  unfold State.portTrigger
  exact .ite2 (.notQueued (.wakeIsland h₀)) (.setPort (.wakeIsland h₀))
theorem setPhase {idx v : Nat} (hs : s₀.frame s parts) (hl : .reg .entryW6 ∈ parts := by decide) : s₀.frame (s.setPhase idx v)
    parts := by
  refine hs.add1 hl ?_
  have h₀ := refl s [.reg .entryW6]
  unfold State.setPhase
  exact .setFld h₀
def calEventParts : List StatePart := [.reg .calEvt, .reg .intPendSet, .reg .intErr, .reg .vecStat, .waking, .vecFirst,
  .wakePin]
theorem calEvent {d b : Nat} (hs : s₀.frame s parts) (hl : calEventParts ⊆ parts := by decide) : s₀.frame (s.calEvent d b) parts
    := by
  refine hs.add hl ?_
  have h₀ := refl s calEventParts
  unfold State.calEvent
  exact .event h₀
def countStatusParts : List StatePart := [.reg .calCnt0, .reg .calCnt1, .reg .calCnt2, .reg .calCnt3]
theorem countStatus {d st : Nat} (hs : s₀.frame s parts) (hl : countStatusParts ⊆ parts := by decide) : s₀.frame (s.countStatus
    d st) parts := by
  refine hs.add hl ?_
  have h₀ := refl s countStatusParts
  unfold State.countStatus
  split
  · exact .bumpW h₀
  · exact .bumpW h₀
  · exact .bumpW h₀
  · exact .bump h₀
  · exact .bumpW h₀
  · exact .bump h₀
  · exact .bumpW h₀
def putRecordParts : List StatePart := [.reg .calEvt, .reg .calCqWr, .reg .calCnt0, .reg .calCnt1, .reg .calCnt2, .reg .calCnt3,
  .reg .intPendSet, .reg .intErr, .reg .vecStat, .waking, .vecFirst, .wakePin, .taskMem, .badTm]
theorem putRecord {d st : Nat} {ws : List Word} (hs : s₀.frame s parts) (hl : putRecordParts ⊆ parts := by decide) : s₀.frame
    (s.putRecord d st ws) parts := by
  refine hs.add hl ?_
  have h₀ := refl s putRecordParts
  unfold State.putRecord
  refine .ite (.calEvent (.bump (.countStatus h₀))) ?_
  split
  · exact .calEvent (.calEvent (.wr (.foldl (.countStatus h₀) fun _ _ h1 => .setTm h1)))
  · exact .calEvent (.calEvent (.wr (.foldl (.countStatus h₀) fun _ _ h1 => .setTm h1)))
  · exact .calEvent (.calEvent (.wr (.foldl (.countStatus h₀) fun _ _ h1 => .setTm h1)))
  · exact .calEvent (.calEvent (.wr (.foldl (.countStatus h₀) fun _ _ h1 => .setTm h1)))
  · exact .calEvent (.wr (.foldl (.countStatus h₀) fun _ _ h1 => .setTm h1))
def notifyParts : List StatePart := [.reg .calSupnote, .reg .calSupnoteCnt, .reg .ctxStat, .reg .intPendSet, .reg .intErr, .reg
  .vecStat, .ctxs, .waking, .vecFirst, .wakePin]
theorem notify {idx : Nat} {w0 : Word} (hs : s₀.frame s parts) (hl : notifyParts ⊆ parts := by decide) : s₀.frame (s.notify idx
    w0) parts := by
  refine hs.add hl ?_
  have h₀ := refl s notifyParts
  unfold State.notify
  exact .ite h₀ (.ite (.post h₀) (.ite (.raise h₀) (.raise (.bumpW (.wr h₀)))))
def recordParts : List StatePart := [.reg .calSupnote, .reg .calSupnoteCnt, .reg .calEvt, .reg .calCqWr, .reg .calCnt0, .reg
  .calCnt1, .reg .calCnt2, .reg .calCnt3, .reg .entryW6, .reg .ctxStat, .reg .intPendSet, .reg .intErr, .reg .vecStat, .offers,
  .lastEv, .ctxs, .waking, .vecFirst, .wakePin, .taskMem, .badTm]
theorem record {idx st detail : Nat} {time : Stamp} {x : Entry} (hs : s₀.frame s parts) (hl : recordParts ⊆ parts := by decide)
    : s₀.frame (s.record idx st detail time x) parts := by
  refine hs.add hl ?_
  have h₀ := refl s recordParts
  unfold State.record
  exact .ite (.offer (.notify (.setFld (.putRecord h₀)))) (.notify (.setFld (.putRecord h₀)))
def freeEntryParts : List StatePart := [.reg .entryW6, .reg .entryW7, .entries]
theorem freeEntry {idx : Nat} (hs : s₀.frame s parts) (hl : freeEntryParts ⊆ parts := by decide) : s₀.frame (s.freeEntry idx)
    parts := by
  refine hs.add hl ?_
  have h₀ := refl s freeEntryParts
  unfold State.freeEntry
  exact .setEntry (.wr (.setFld (.setPhase h₀)))
def rearmParts : List StatePart := [.reg .entryW6, .reg .entryW7, .entries]
theorem rearm {idx : Nat} (hs : s₀.frame s parts) (hl : rearmParts ⊆ parts := by decide) : s₀.frame (s.rearm idx) parts := by
  refine hs.add hl ?_
  have h₀ := refl s rearmParts
  unfold State.rearm
  exact .ite (.freeEntry h₀) (.setEntry (.setPhase (.wr (.bumpW h₀))))
def finishParts : List StatePart := [.reg .calSupnote, .reg .calSupnoteCnt, .reg .calEvt, .reg .calCqWr, .reg .calCnt0, .reg
  .calCnt1, .reg .calCnt2, .reg .calCnt3, .reg .entryW6, .reg .entryW7, .reg .ctxStat, .reg .intPendSet, .reg .intErr, .reg
  .vecStat, .entries, .offers, .lastEv, .ctxs, .waking, .vecFirst, .wakePin, .taskMem, .badTm]
theorem finish {idx : Nat} {time : Stamp} (hs : s₀.frame s parts) (hl : finishParts ⊆ parts := by decide) : s₀.frame (s.finish
    idx time) parts := by
  refine hs.add hl ?_
  have h₀ := refl s finishParts
  unfold State.finish
  exact .ite (.rearm (.record h₀)) (.freeEntry (.record h₀))
def endedParts : List StatePart := [.reg .calSupnote, .reg .calSupnoteCnt, .reg .calEvt, .reg .calCqWr, .reg .calCnt0, .reg
  .calCnt1, .reg .calCnt2, .reg .calCnt3, .reg .entryW6, .reg .entryW7, .reg .ctxStat, .reg .intPendSet, .reg .intErr, .reg
  .vecStat, .entries, .offers, .lastEv, .ctxs, .waking, .vecFirst, .wakePin, .taskMem, .badTm]
theorem ended {idx : Nat} {e : Stamp} (hs : s₀.frame s parts) (hl : endedParts ⊆ parts := by decide) : s₀.frame (s.ended idx e)
    parts := by
  refine hs.add hl ?_
  have h₀ := refl s endedParts
  unfold State.ended
  exact .ite (.setPhase (.onEntry h₀)) (.finish (.onEntry h₀))
def lateNowParts : List StatePart := [.reg .calSupnote, .reg .calSupnoteCnt, .reg .calEvt, .reg .calCqWr, .reg .calCnt0, .reg
  .calCnt1, .reg .calCnt2, .reg .calCnt3, .reg .entryW6, .reg .entryW7, .reg .ctxStat, .reg .intPendSet, .reg .intErr, .reg
  .vecStat, .entries, .offers, .lastEv, .ctxs, .waking, .vecFirst, .wakePin, .taskMem, .badTm]
theorem lateNow {idx detail : Nat} {e : Stamp} (hs : s₀.frame s parts) (hl : lateNowParts ⊆ parts := by decide) : s₀.frame
    (s.lateNow idx detail e) parts := by
  refine hs.add hl ?_
  have h₀ := refl s lateNowParts
  unfold State.lateNow
  exact .finish (.onEntry h₀)
def endAsParts : List StatePart := [.reg .calSupnote, .reg .calSupnoteCnt, .reg .calEvt, .reg .calCqWr, .reg .calCnt0, .reg
  .calCnt1, .reg .calCnt2, .reg .calCnt3, .reg .entryW6, .reg .entryW7, .reg .ctxStat, .reg .intPendSet, .reg .intErr, .reg
  .vecStat, .entries, .offers, .lastEv, .ctxs, .waking, .vecFirst, .wakePin, .taskMem, .badTm]
theorem endAs {idx st detail : Nat} (hs : s₀.frame s parts) (hl : endAsParts ⊆ parts := by decide) : s₀.frame (s.endAs idx st
    detail) parts := by
  refine hs.add hl ?_
  have h₀ := refl s endAsParts
  unfold State.endAs
  exact .freeEntry (.record h₀)
def stageParts : List StatePart := [.reg .slotCtrl, .reg .slotAngle, .reg .slotDelay, .reg .slotClose, .reg .slotGuard, .reg
  .calSlotuse, .reg .entryW6, .reg .entryW7, .slots, .entries]
theorem stage {idx t k : Nat} (hs : s₀.frame s parts) (hl : stageParts ⊆ parts := by decide) : s₀.frame (s.stage idx t k) parts
    := by
  refine hs.add hl ?_
  have h₀ := refl s stageParts
  unfold State.stage
  exact .fillSlot (.wr (.setPhase (.onEntry h₀)))
def stageWaitingParts : List StatePart := [.reg .slotCtrl, .reg .slotAngle, .reg .slotDelay, .reg .slotClose, .reg .slotGuard,
  .reg .calSlotuse, .reg .entryW6, .reg .entryW7, .slots, .entries]
theorem stageWaiting {t : Nat} (hs : s₀.frame s parts) (hl : stageWaitingParts ⊆ parts := by decide) : s₀.frame (s.stageWaiting
    t) parts := by
  refine hs.add hl ?_
  have h₀ := refl s stageWaitingParts
  unfold State.stageWaiting
  refine .ite h₀ ?_
  split
  · exact h₀
  · dsimp only
    split
    · exact h₀
    · exact .stage (.onEntry h₀)
def stageAllParts : List StatePart := [.reg .slotCtrl, .reg .slotAngle, .reg .slotDelay, .reg .slotClose, .reg .slotGuard, .reg
  .calSlotuse, .reg .entryW6, .reg .entryW7, .slots, .entries]
theorem stageAll {t : Nat} (hs : s₀.frame s parts) (hl : stageAllParts ⊆ parts := by decide) : s₀.frame (s.stageAll t) parts :=
    by
  refine hs.add hl ?_
  have h₀ := refl s stageAllParts
  unfold State.stageAll
  exact .each h₀ (fun _ _ h1 => .stageWaiting h1)
def releaseSlotParts : List StatePart := [.reg .slotCtrl, .reg .slotAngle, .reg .slotDelay, .reg .slotClose, .reg .slotGuard,
  .reg .calSlotuse, .reg .entryW6, .reg .entryW7, .slots, .entries]
theorem releaseSlot {t k : Nat} (hs : s₀.frame s parts) (hl : releaseSlotParts ⊆ parts := by decide) : s₀.frame (s.releaseSlot t
    k) parts := by
  refine hs.add hl ?_
  have h₀ := refl s releaseSlotParts
  unfold State.releaseSlot
  exact .stageWaiting (.dropSlot h₀)
def loseSlotParts : List StatePart := [.reg .slotCtrl, .reg .slotAngle, .reg .slotDelay, .reg .slotClose, .reg .slotGuard, .reg
  .calSlotuse, .reg .entryW6, .reg .entryW7, .reg .intPendSet, .reg .intErr, .reg .vecStat, .slots, .entries, .waking,
  .vecFirst, .wakePin]
theorem loseSlot {t k : Nat} (hs : s₀.frame s parts) (hl : loseSlotParts ⊆ parts := by decide) : s₀.frame (s.loseSlot t k) parts
    := by
  refine hs.add hl ?_
  have h₀ := refl s loseSlotParts
  unfold State.loseSlot
  exact .releaseSlot (.setPhase (.onEntry (.withSum h₀ (fun _ h1 => .onSlot h1))))
def recheckSlotsParts : List StatePart := [.reg .slotCtrl, .reg .slotAngle, .reg .slotDelay, .reg .slotClose, .reg .slotGuard,
  .reg .calSlotuse, .reg .entryW6, .reg .entryW7, .reg .intPendSet, .reg .intErr, .reg .vecStat, .slots, .entries, .waking,
  .vecFirst, .wakePin]
theorem recheckSlots {t : Nat} (hs : s₀.frame s parts) (hl : recheckSlotsParts ⊆ parts := by decide) : s₀.frame (s.recheckSlots
    t) parts := by
  refine hs.add hl ?_
  have h₀ := refl s recheckSlotsParts
  unfold State.recheckSlots
  exact .each h₀ (fun _ _ h1 => .ite (.loseSlot h1) h1)
theorem acted {idx : Nat} {e cross : Stamp} {target : Nat} {jumped late trip : Bool} {detail : Nat} (hs : s₀.frame s parts) (hl
    : .entries ∈ parts := by decide) : s₀.frame (s.acted idx e cross target jumped late trip detail) parts := by
  refine hs.add1 hl ?_
  have h₀ := refl s [.entries]
  unfold State.acted
  exact .onEntry h₀
def fireSlotParts : List StatePart := [.reg .chCount, .reg .chPwmstat, .reg .chStat, .reg .chEvcnt, .reg .brStat, .reg
  .slotCtrl, .reg .slotAngle, .reg .slotDelay, .reg .slotClose, .reg .slotGuard, .reg .pmPin, .reg .calSupnote, .reg
  .calSupnoteCnt, .reg .calEvt, .reg .calCqWr, .reg .calCnt0, .reg .calCnt1, .reg .calCnt2, .reg .calCnt3, .reg .calSlotuse,
  .reg .entryW6, .reg .entryW7, .reg .ctxStat, .reg .intPendSet, .reg .intErr, .reg .vecStat, .chans, .bridges, .trips, .slots,
  .launched, .entries, .offers, .lastEv, .ctxs, .courseAt, .waking, .vecFirst, .wakePin, .taskMem, .badTm]
theorem fireSlot {t k : Nat} {due e : Stamp} {delayed : Bool} (hs : s₀.frame s parts) (hl : fireSlotParts ⊆ parts := by decide)
    : s₀.frame (s.fireSlot t k due e delayed) parts := by
  refine hs.add hl ?_
  have h₀ := refl s fireSlotParts
  unfold State.fireSlot
  exact .ite (.releaseSlot (.lateNow (.onEntry h₀))) (.ite (.releaseSlot (.lateNow (.withSum (.setFlag (.setFlag (.onEntry h₀)))
    (fun _ h1 => .onSlot h1)))) (.ite (.releaseSlot (.ended (.withSum (.acted (.onEntry h₀)) (fun _ h1 => .slotEdge h1))))
    (.ite (.setFld (.withSum (.setPhase (.acted (.onEntry h₀))) (fun _ h1 => .burstStart h1))) (.onSlot (.setFld (.withSum
    (.setPhase (.acted (.onEntry h₀))) (fun _ h1 => .slotEdge h1)))))))
def closeSlotParts : List StatePart := [.reg .brStat, .reg .slotCtrl, .reg .slotAngle, .reg .slotDelay, .reg .slotClose, .reg
  .slotGuard, .reg .calSupnote, .reg .calSupnoteCnt, .reg .calEvt, .reg .calCqWr, .reg .calCnt0, .reg .calCnt1, .reg .calCnt2,
  .reg .calCnt3, .reg .calSlotuse, .reg .entryW6, .reg .entryW7, .reg .ctxStat, .reg .intPendSet, .reg .intErr, .reg .vecStat,
  .chans, .bridges, .trips, .slots, .launched, .entries, .offers, .lastEv, .ctxs, .waking, .vecFirst, .wakePin, .taskMem,
  .badTm]
theorem closeSlot {t k : Nat} {e : Stamp} {delayed guarded : Bool} (hs : s₀.frame s parts) (hl : closeSlotParts ⊆ parts := by
    decide) : s₀.frame (s.closeSlot t k e delayed guarded) parts := by
  refine hs.add hl ?_
  have h₀ := refl s closeSlotParts
  unfold State.closeSlot
  exact .releaseSlot (.ended (.onEntry (.ite (.setFlag (.withSum h₀ (fun _ h1 => .slotLow h1))) (.withSum h₀ (fun _ h1 =>
    .slotLow h1)))))
def ownCloseParts : List StatePart := [.reg .brStat, .reg .slotCtrl, .reg .slotAngle, .reg .slotDelay, .reg .slotClose, .reg
  .slotGuard, .reg .calSupnote, .reg .calSupnoteCnt, .reg .calEvt, .reg .calCqWr, .reg .calCnt0, .reg .calCnt1, .reg .calCnt2,
  .reg .calCnt3, .reg .calSlotuse, .reg .entryW6, .reg .entryW7, .reg .ctxStat, .reg .intPendSet, .reg .intErr, .reg .vecStat,
  .chans, .bridges, .trips, .slots, .launched, .entries, .offers, .lastEv, .ctxs, .waking, .vecFirst, .wakePin, .taskMem,
  .badTm]
theorem ownClose {t k act : Nat} {ts : Stamp} (hs : s₀.frame s parts) (hl : ownCloseParts ⊆ parts := by decide) : s₀.frame
    (s.ownClose t k act ts) parts := by
  refine hs.add hl ?_
  have h₀ := refl s ownCloseParts
  unfold State.ownClose
  refine .ite h₀ ?_
  split
  · exact .ite h₀ (.closeSlot h₀)
  · exact h₀
def makeClearParts : List StatePart := [.reg .brStat, .reg .slotCtrl, .reg .slotAngle, .reg .slotDelay, .reg .slotClose, .reg
  .slotGuard, .reg .calSlotuse, .reg .entryW6, .reg .entryW7, .reg .intPendSet, .reg .intErr, .reg .vecStat, .chans, .bridges,
  .trips, .slots, .launched, .entries, .waking, .vecFirst, .wakePin]
theorem makeClear {t k n : Nat} (hs : s₀.frame s parts) (hl : makeClearParts ⊆ parts := by decide) : s₀.frame (s.makeClear t k
    n) parts := by
  refine hs.add hl ?_
  have h₀ := refl s makeClearParts
  unfold State.makeClear
  exact .releaseSlot (.ite (.withSum h₀ (fun _ h1 => .slotLow h1)) h₀)
def writeFolParts : List StatePart := [.reg .chStat, .reg .chErrcnt, .reg .folCtrl, .reg .folAngle, .reg .slotCtrl, .reg
  .slotAngle, .reg .slotDelay, .reg .slotClose, .reg .slotGuard, .reg .calSlotuse, .reg .entryW6, .reg .entryW7, .reg
  .intPendSet, .reg .intErr, .reg .vecStat, .slots, .fols, .folMiss, .entries, .courseAt, .waking, .vecFirst, .wakePin]
theorem writeFol {t f : Nat} {v : Word} (hs : s₀.frame s parts) (hl : writeFolParts ⊆ parts := by decide) : s₀.frame (s.writeFol
    t f v) parts := by
  refine hs.add hl ?_
  have h₀ := refl s writeFolParts
  unfold State.writeFol
  exact .ite (.withSum h₀ (fun _ h1 => .each h1 (fun _ _ h2 => .chDrop h2))) (.recheckSlots (.noteCourse (.ite (.loadFol (.wr
    h₀)) (.ite (.setFol (.wr (.wr h₀))) (.wr h₀)))))
def setChCtrlParts : List StatePart := [.reg .chCtrl, .reg .chStat, .reg .chErrcnt, .reg .slotCtrl, .reg .slotAngle, .reg
  .slotDelay, .reg .slotClose, .reg .slotGuard, .reg .calSlotuse, .reg .entryW6, .reg .entryW7, .reg .intPendSet, .reg .intErr,
  .reg .vecStat, .slots, .entries, .waking, .vecFirst, .wakePin]
theorem setChCtrl {t c : Nat} {v : Word} (hs : s₀.frame s parts) (hl : setChCtrlParts ⊆ parts := by decide) : s₀.frame
    (s.setChCtrl t c v) parts := by
  refine hs.add hl ?_
  have h₀ := refl s setChCtrlParts
  unfold State.setChCtrl
  exact .recheckSlots (.withSum h₀ (fun _ h1 => .writeChCtrl h1))
def issueActParts : List StatePart := [.reg .ctxStat, .reg .govWakeCnt, .reg .govIsl, .reg .logStat, .reg .logEvt, .reg
  .logCntMisc, .reg .logCnt, .reg .catW3, .reg .portEvt, .reg .portCnt2, .reg .mlCnt1, .reg .intPendSet, .reg .intErr, .reg
  .vecStat, .dropping, .logQ, .portX, .ctxs, .waking, .links, .parked, .vecFirst, .wakePin]
theorem issueAct {idx : Nat} {e : Stamp} (hs : s₀.frame s parts) (hl : issueActParts ⊆ parts := by decide) : s₀.frame
    (s.issueAct idx e).2 parts := by
  refine hs.add hl ?_
  have h₀ := refl s issueActParts
  unfold State.issueAct
  split
  · exact .portTrigger h₀
  · exact .snapshot h₀
  · exact .post h₀
  · exact .mlSend h₀
def calDecidesParts : List StatePart := [.now, .calTurn]
theorem calDecides {r : Requester} (hs : s₀.frame s parts) (hl : calDecidesParts ⊆ parts := by decide) : s₀.frame (s.calDecides
    r) parts := by
  refine hs.add hl ?_
  have h₀ := refl s calDecidesParts
  unfold State.calDecides
  exact .put_calTurn (.ite (.reachIn h₀) h₀)
def armDecisionParts : List StatePart := [.reg .entryW0, .reg .entryW1, .reg .entryW2, .reg .entryW3, .reg .entryW4, .reg
  .entryW5, .reg .entryW6, .reg .entryW7, .now, .entries, .calTurn]
theorem armDecision {r : Requester} {ws : ArmWords} (hs : s₀.frame s parts) (hl : armDecisionParts ⊆ parts := by decide) :
    s₀.frame (s.armDecision r ws).2 parts := by
  refine hs.add hl ?_
  have h₀ : s.frame (s.calDecides r) armDecisionParts := .calDecides (refl s armDecisionParts)
  unfold State.armDecision
  refine .ite2 h₀ (.ite2 h₀ (.ite2 h₀ (.ite2 h₀ ?_)))
  split
  · exact h₀
  · exact .setEntry (.wr (.wr (.wr (.wr (.wr (.wr (.wr (.wr h₀))))))))
def cancelEntryParts : List StatePart := [.reg .calSupnote, .reg .calSupnoteCnt, .reg .calEvt, .reg .calCqWr, .reg .calCnt0,
  .reg .calCnt1, .reg .calCnt2, .reg .calCnt3, .reg .entryW6, .reg .entryW7, .reg .ctxStat, .reg .intPendSet, .reg .intErr, .reg
  .vecStat, .slots, .entries, .offers, .lastEv, .ctxs, .waking, .vecFirst, .wakePin, .taskMem, .badTm]
theorem cancelEntry {idx : Nat} (hs : s₀.frame s parts) (hl : cancelEntryParts ⊆ parts := by decide) : s₀.frame (s.cancelEntry
    idx) parts := by
  refine hs.add hl ?_
  have h₀ := refl s cancelEntryParts
  unfold State.cancelEntry
  exact .endAs (.ite (.clearSlot h₀) h₀)
def cancelDecisionParts : List StatePart := [.reg .calSupnote, .reg .calSupnoteCnt, .reg .calEvt, .reg .calCqWr, .reg .calCnt0,
  .reg .calCnt1, .reg .calCnt2, .reg .calCnt3, .reg .entryW6, .reg .entryW7, .reg .ctxStat, .reg .intPendSet, .reg .intErr, .reg
  .vecStat, .now, .slots, .entries, .calTurn, .offers, .lastEv, .ctxs, .waking, .vecFirst, .wakePin, .taskMem, .badTm]
theorem cancelDecision {r : Requester} {handle : Nat} (hs : s₀.frame s parts) (hl : cancelDecisionParts ⊆ parts := by decide) :
    s₀.frame (s.cancelDecision r handle).2 parts := by
  refine hs.add hl ?_
  have h₀ := refl s cancelDecisionParts
  unfold State.cancelDecision
  refine .ite2 (.setEntry (.calDecides h₀)) (.ite2 (.ite2 (.calDecides h₀) (.bumpW (.calDecides h₀))) (.ite2 ?_ (.ite2
    (.calDecides h₀) (.ite2 (.cancelEntry (.calDecides h₀)) (.bumpW (.calDecides h₀))))))
  split
  · exact .bump (.calDecides h₀)
  · exact .calDecides h₀
def flushDecisionParts : List StatePart := [.reg .calSupnote, .reg .calSupnoteCnt, .reg .calEvt, .reg .calCqWr, .reg .calCnt0,
  .reg .calCnt1, .reg .calCnt2, .reg .calCnt3, .reg .entryW6, .reg .entryW7, .reg .ctxStat, .reg .intPendSet, .reg .intErr, .reg
  .vecStat, .now, .slots, .entries, .calTurn, .offers, .lastEv, .ctxs, .waking, .vecFirst, .wakePin, .taskMem, .badTm]
theorem flushDecision {r : Requester} {d : Nat} (hs : s₀.frame s parts) (hl : flushDecisionParts ⊆ parts := by decide) :
    s₀.frame (s.flushDecision r d).2 parts := by
  refine hs.add hl ?_
  have h₀ := refl s flushDecisionParts
  unfold State.flushDecision
  exact .each (.calDecides h₀) (fun _ _ h1 => .cancelEntry h1)
def barTileParts : List StatePart := [.reg .brStat, .reg .slotCtrl, .reg .calSupnote, .reg .calSupnoteCnt, .reg .calEvt, .reg
  .calCqWr, .reg .calCnt0, .reg .calCnt1, .reg .calCnt2, .reg .calCnt3, .reg .entryW6, .reg .entryW7, .reg .ctxStat, .reg
  .intPendSet, .reg .intErr, .reg .vecStat, .chans, .bridges, .trips, .slots, .launched, .entries, .offers, .lastEv, .ctxs,
  .waking, .vecFirst, .wakePin, .taskMem, .badTm]
theorem barTile {t detail : Nat} (hs : s₀.frame s parts) (hl : barTileParts ⊆ parts := by decide) : s₀.frame (s.barTile t
    detail) parts := by
  refine hs.add hl ?_
  have h₀ := refl s barTileParts
  unfold State.barTile
  exact .each h₀ (fun _ _ h1 => .ite h1 (.ite (.dropSlot (.setPhase h1)) (.finish (.onEntry (.dropSlot (.slotEdge (.onChan
    h1)))))))
theorem calErr (hs : s₀.frame s parts) (hl : .reg .calStat ∈ parts := by decide) : s₀.frame s.calErr parts := by
  refine hs.add1 hl ?_
  have h₀ := refl s [.reg .calStat]
  unfold State.calErr
  exact .setFlag h₀
def writePartParts : List StatePart := [.reg .calStat, .reg .calPart]
theorem writePart {d : Nat} {v : Word} (hs : s₀.frame s parts) (hl : writePartParts ⊆ parts := by decide) : s₀.frame
    (s.writePart d v) parts := by
  refine hs.add hl ?_
  have h₀ := refl s writePartParts
  unfold State.writePart
  exact .ite (.calErr h₀) (.wr h₀)
def writeCqRdParts : List StatePart := [.reg .calStat, .reg .calCqRd]
theorem writeCqRd {d : Nat} {v : Word} (hs : s₀.frame s parts) (hl : writeCqRdParts ⊆ parts := by decide) : s₀.frame
    (s.writeCqRd d v) parts := by
  refine hs.add hl ?_
  have h₀ := refl s writeCqRdParts
  unfold State.writeCqRd
  exact .ite (.wr h₀) (.calErr h₀)
def writeCqParts : List StatePart := [.reg .calStat, .reg .calCqBase, .reg .calCqSize]
theorem writeCq {d : Nat} {size : Bool} {v : Word} (hs : s₀.frame s parts) (hl : writeCqParts ⊆ parts := by decide) : s₀.frame
    (s.writeCq d size v) parts := by
  refine hs.add hl ?_
  have h₀ := refl s writeCqParts
  unfold State.writeCq
  exact .ite (.calErr h₀) (.ite (.ite (.wr h₀) (.calErr h₀)) (.ite (.wr h₀) (.calErr h₀)))
def clrCalParts : List StatePart := [.reg .calCnt0, .reg .calCnt1, .reg .calCnt2, .reg .calCnt3, .reg .calSlotuse]
theorem clrCal (hs : s₀.frame s parts) (hl : clrCalParts ⊆ parts := by decide) : s₀.frame s.clrCal parts := by
  refine hs.add hl ?_
  have h₀ := refl s clrCalParts
  unfold State.clrCal
  exact .each (.each h₀ (fun _ _ h1 => .clr (.clr (.clr (.clr h1))))) (fun _ _ h1 => .wr h1)
def deliverParts : List StatePart := [.reg .intPendSet, .reg .intActive, .takenBy]
theorem deliver {n tgt : Nat} (hs : s₀.frame s parts) (hl : deliverParts ⊆ parts := by decide) : s₀.frame (s.deliver n tgt)
    parts := by
  refine hs.add hl ?_
  have h₀ := refl s deliverParts
  unfold State.deliver
  exact .put_takenBy (.setFlag (.setFlag h₀))
def issueVectorParts : List StatePart := [.reg .intPendSet, .reg .intActive, .reg .vecStat, .reg .msixPba, .takenBy, .hostMem]
theorem issueVector {v : Nat} (hs : s₀.frame s parts) (hl : issueVectorParts ⊆ parts := by decide) :
    s₀.frame (s.issueVector v) parts := by
  refine hs.add hl ?_
  have h₀ := refl s issueVectorParts
  unfold State.issueVector
  exact .ite (.each (.setFlag (.wr (.put_hostMem h₀))) (fun _ _ h1 => .deliver h1)) (.setFlag (.setFlag h₀))
theorem setDma {c : Nat} {x : Dma} (hs : s₀.frame s parts) (hl : .dmas ∈ parts := by decide) : s₀.frame (s.setDma c x) parts :=
    by
  refine hs.add1 hl ?_
  have h₀ := refl s [.dmas]
  unfold State.setDma
  exact .put_dmas h₀
theorem onDma {c : Nat} {f : Dma → Dma} (hs : s₀.frame s parts) (hl : .dmas ∈ parts := by decide) : s₀.frame (s.onDma c f) parts
    := by
  refine hs.add1 hl ?_
  have h₀ := refl s [.dmas]
  unfold State.onDma
  exact .setDma h₀
def dmaEventParts : List StatePart := [.reg .intPendSet, .reg .intErr, .reg .vecStat, .reg .dmaEvt, .waking, .vecFirst,
  .wakePin]
theorem dmaEvent {c b : Nat} (hs : s₀.frame s parts) (hl : dmaEventParts ⊆ parts := by decide) : s₀.frame (s.dmaEvent c b) parts
    := by
  refine hs.add hl ?_
  have h₀ := refl s dmaEventParts
  unfold State.dmaEvent
  exact .event h₀
theorem burstNow {c : Nat} (hs : s₀.frame s parts) (hl : .dmas ∈ parts := by decide) : s₀.frame (s.burstNow c) parts := by
  refine hs.add1 hl ?_
  have h₀ := refl s [.dmas]
  unfold State.burstNow
  exact .onDma h₀
def bellKeptParts : List StatePart := [.reg .dmaStat, .dmas]
theorem bellKept {c : Nat} (hs : s₀.frame s parts) (hl : bellKeptParts ⊆ parts := by decide) : s₀.frame (s.bellKept c) parts :=
    by
  refine hs.add hl ?_
  have h₀ := refl s bellKeptParts
  unfold State.bellKept
  exact .ite (.setFlag (.onDma h₀)) h₀
def writePauseParts : List StatePart := [.reg .chStat, .reg .pmPin, .reg .intPendSet, .reg .intErr, .reg .vecStat, .reg
  .dmaCtrl, .reg .dmaStat, .reg .dmaEvt, .waking, .dmas, .vecFirst, .wakePin]
theorem writePause {c : Nat} {on : Bool} (hs : s₀.frame s parts) (hl : writePauseParts ⊆ parts := by decide) : s₀.frame
    (s.writePause c on) parts := by
  refine hs.add hl ?_
  have h₀ := refl s writePauseParts
  unfold State.writePause
  exact .ite h₀ (.ite (.dmaEvent (.setFlag (.withUnit h₀ (fun _ h1 => .setFlag h1)))) (.ite (.setFlag (.withUnit h₀ (fun _ h1 =>
    .setFlag h1))) (.bellKept (.burstNow (.setFlag (.withUnit h₀ (fun _ h1 => .setFlag h1)))))))
def dmaReleasedParts : List StatePart := [.reg .dmaStat, .dmas]
theorem dmaReleased {c : Nat} (hs : s₀.frame s parts) (hl : dmaReleasedParts ⊆ parts := by decide) : s₀.frame (s.dmaReleased c)
    parts := by
  refine hs.add hl ?_
  have h₀ := refl s dmaReleasedParts
  unfold State.dmaReleased
  exact .when (.onDma h₀) (fun _ h1 => .bellKept (.burstNow h1))
theorem writeCmdMbox {v : Word} (hs : s₀.frame s parts) (hl : .reg .sysCmdMbox ∈ parts := by decide) : s₀.frame (s.writeCmdMbox
    v) parts := by
  refine hs.add1 hl ?_
  have h₀ := refl s [.reg .sysCmdMbox]
  unfold State.writeCmdMbox
  exact .each h₀ (fun _ _ h1 => .setFlag h1)
def clrSysParts : List StatePart := [.reg .sysAccerr, .reg .unitReq]
theorem clrSys (hs : s₀.frame s parts) (hl : clrSysParts ⊆ parts := by decide) : s₀.frame s.clrSys parts := by
  refine hs.add hl ?_
  have h₀ := refl s clrSysParts
  unfold State.clrSys
  exact .clr (.each h₀ (fun _ _ h1 => .setFld h1))
def setUnitParts : List StatePart := [.reg .chStat, .reg .pmPin, .reg .intPendSet, .reg .intErr, .reg .vecStat, .reg .dmaCtrl,
  .reg .dmaStat, .reg .dmaEvt, .waking, .dmas, .paused, .vecFirst, .wakePin]
theorem setUnit {u v : Nat} (hs : s₀.frame s parts) (hl : setUnitParts ⊆ parts := by decide) : s₀.frame (s.setUnit u v) parts :=
    by
  refine hs.add hl ?_
  have h₀ := refl s setUnitParts
  unfold State.setUnit
  exact .ite (.withUnit h₀ (fun _ h1 => .setPaused h1)) (.ite (.writePause h₀) h₀)
def heldChangeParts : List StatePart := [.reg .brStat, .reg .slotCtrl, .reg .slotAngle, .reg .slotDelay, .reg .slotClose, .reg
  .slotGuard, .reg .calSupnote, .reg .calSupnoteCnt, .reg .calEvt, .reg .calCqWr, .reg .calCnt0, .reg .calCnt1, .reg .calCnt2,
  .reg .calCnt3, .reg .calSlotuse, .reg .entryW6, .reg .entryW7, .reg .ctxStat, .reg .intPendSet, .reg .intErr, .reg .vecStat,
  .reg .dmaStat, .chans, .bridges, .trips, .slots, .launched, .entries, .offers, .lastEv, .ctxs, .waking, .dmas, .vecFirst,
  .wakePin, .taskMem, .badTm]
theorem heldChange {u : Nat} {was : Bool} (hs : s₀.frame s parts) (hl : heldChangeParts ⊆ parts := by decide) : s₀.frame
    (s.heldChange u was) parts := by
  refine hs.add hl ?_
  have h₀ := refl s heldChangeParts
  unfold State.heldChange
  exact .ite (.dmaReleased (.ite (.each (.ite (.stageAll (.ite (.barTile h₀) h₀)) (.ite (.barTile h₀) h₀)) (fun _ _ h1 =>
    .stageAll h1)) (.ite (.stageAll (.ite (.barTile h₀) h₀)) (.ite (.barTile h₀) h₀)))) (.ite (.each (.ite (.stageAll (.ite
    (.barTile h₀) h₀)) (.ite (.barTile h₀) h₀)) (fun _ _ h1 => .stageAll h1)) (.ite (.stageAll (.ite (.barTile h₀) h₀)) (.ite
    (.barTile h₀) h₀)))
def supReqParts : List StatePart := [.reg .sysAccerr, .reg .sysAccerrAddr, .reg .sysAccerrSrc, .reg .unitReq, .reg .chStat, .reg
  .brStat, .reg .slotCtrl, .reg .slotAngle, .reg .slotDelay, .reg .slotClose, .reg .slotGuard, .reg .pmPin, .reg .calSupnote,
  .reg .calSupnoteCnt, .reg .calEvt, .reg .calCqWr, .reg .calCnt0, .reg .calCnt1, .reg .calCnt2, .reg .calCnt3, .reg
  .calSlotuse, .reg .entryW6, .reg .entryW7, .reg .ctxStat, .reg .intPendSet, .reg .intErr, .reg .vecStat, .reg .dmaCtrl, .reg
  .dmaStat, .reg .dmaEvt, .chans, .bridges, .trips, .slots, .launched, .entries, .offers, .lastEv, .ctxs, .waking, .dmas,
  .paused, .vecFirst, .wakePin, .taskMem, .badTm]
theorem supReq {u req : Nat} (hs : s₀.frame s parts) (hl : supReqParts ⊆ parts := by decide) : s₀.frame (s.supReq u req) parts
    := by
  refine hs.add hl ?_
  have h₀ := refl s supReqParts
  unfold State.supReq
  exact .ite h₀ (.ite (.accErr h₀) (.heldChange (.ite (.setUnit (.withUnit h₀ (fun _ h1 => .setFld h1))) (.withUnit h₀ (fun _ h1
    => .setFld h1)))))

end

end State.frame

end Sys2Proof.Machine
end


section
/-! PROOFS. Counting, CH_CTRL and shadow registers of channels (R54, R55, R63, R64, R92, R95). -/

namespace Sys2Proof.Machine

set_option Elab.async false

/-! ## What is seen through a frame -/

namespace State.frame

variable {s t : State} {l : List StatePart}

theorem chan (h : s.frame t l) (g : Nat) (hn : .chans ∉ l := by decide) : t.chan g = s.chan g := by
  unfold State.chan
  rw [(h .chans hn : t.chans = s.chans)]
theorem hasBridge (h : s.frame t l) (hn : .variant ∉ l := by decide) : t.hasBridge = s.hasBridge := by
  unfold State.hasBridge
  rw [(h .variant hn : t.variant = s.variant)]
theorem bridged (h : s.frame t l) (b c : Nat) (hn : .variant ∉ l := by decide) (hb : .reg .brCtrl ∉ l := by decide) :
    t.bridged b c = s.bridged b c := by
  unfold State.bridged
  rw [h.hasBridge hn, h.flag _ _ _ _ hb]
theorem linked (h : s.frame t l) (b c : Nat) (hn : .reg .chCtrl ∉ l := by decide) : t.linked b c = s.linked b c := h.flag _ _ _ _ hn
theorem running (h : s.frame t l) (b c : Nat) (hn : .reg .chStat ∉ l := by decide) : t.running b c = s.running b c := h.flag _ _ _ _ hn

end State.frame

/-! ## Waking leaves what a channel does -/

/-- A loop whose steps leave what is seen leaves it as well. -/
theorem State.foldl_seen {α β : Type} (seen : State → α) {f : State → β → State} (hf : ∀ u a, seen (f u a) = seen u)
    (s : State) (as : List β) : seen (as.foldl f s) = seen s := by
  induction as generalizing s with
  | nil => rfl
  | cons a r ih => exact (ih (f s a)).trans (hf s a)

theorem State.flag_setFlag_off (s : State) (n : RegName) (v : Bool) {b k : Nat} (i j i' j' : Nat) (h : k ≠ b) :
    (s.setFlag n b v i j).flag n k i' j' = s.flag n k i' j' := by
  by_cases hk : (⟨n, i', j'⟩ : RegKey) = ⟨n, i, j⟩
  · obtain ⟨-, rfl, rfl⟩ := RegKey.mk.inj hk
    simp [State.flag, State.setFlag, h]
  · exact congrArg (getB · k) (s.rd_wr_ne n n _ i j i' j' hk)

section
variable (s : State) {b : Nat} (hb : b ≠ 9) (t c : Nat)
include hb

/-- A tile that leaves HELD clears SAFE only (R102). -/
theorem State.leaveHeld_chStat (v : Nat) : (s.leaveHeld v).flag .chStat b t c = s.flag .chStat b t c := by
  unfold State.leaveHeld State.each
  refine (State.foldl_seen (fun u => u.flag .chStat b t c) (fun u a => u.flag_setFlag_off _ _ _ _ _ _ hb) _ _).trans ?_
  exact State.foldl_seen (fun u => u.flag .chStat b t c) (fun u a => u.flag_setFlag_name (by decide) _ _ _ _ _ _ _) _ _

theorem State.withUnits_chStat (us : List Nat) (f : State → State) :
    (s.withUnits us f).flag .chStat b t c = (f s).flag .chStat b t c := by
  unfold State.withUnits State.each
  refine (State.foldl_seen (fun u => u.flag .chStat b t c) (fun u a => ?_) _ _).trans
    (State.foldl_seen (fun u => u.flag .chStat b t c) (fun u a => u.leaveHeld_chStat hb t c a) _ _)
  split
  · rfl
  · exact State.frame.flag (.raise (.refl u State.frame.raiseParts)) _ _ _ _

theorem State.powerUpCourse_chStat (k : Nat) : (s.powerUpCourse k).flag .chStat b t c = s.flag .chStat b t c := by
  unfold State.powerUpCourse
  by_cases h : (!s.flag .pmBank 2 k) = true
  · rw [if_pos h]
  · rw [if_neg h]
    refine (State.withUnits_chStat _ hb t c _ _).trans ?_
    exact State.frame.flag (.openPads (.bumpW (.setFlag (.setFlag (.each (.wakeUp (.refl s [.waking, .copies, .reg .pmBank,
      .reg .govIsl, .reg .govWakeCnt, .padHold])) fun _ _ h => .setAhead h))))) _ _ _ _

omit hb in
theorem State.wakeIsland_chStat (k : Nat) : (s.wakeIsland k).flag .chStat b t c = s.flag .chStat b t c := by
  unfold State.wakeIsland
  by_cases h : s.flag .govIsl k = true
  · rw [if_pos h]
    exact State.frame.flag (.bumpW (.setFlag (.wakeUp (.refl s [.waking, .reg .govIsl, .reg .govWakeCnt])))) _ _ _ _
  · rw [if_neg h]

theorem State.wakeFor_chStat (u : Nat) : (s.wakeFor u).flag .chStat b t c = s.flag .chStat b t c := by
  have either : ∀ {p : Prop} [Decidable p] {x y : State}, x.flag .chStat b t c = s.flag .chStat b t c →
      y.flag .chStat b t c = s.flag .chStat b t c → (if p then x else y).flag .chStat b t c = s.flag .chStat b t c := by
    intro p _ x y hx hy
    split
    · exact hx
    · exact hy
  have course := s.powerUpCourse_chStat hb t c
  have island := s.wakeIsland_chStat (b := b) t c
  exact either (course _) (either (island _) (either (island _) (either (island _) (either (course _) rfl))))

theorem State.arrived_chStat (n : RegName) (i j : Nat) : (s.arrived n i j).flag .chStat b t c = s.flag .chStat b t c :=
  (State.wakeFor_chStat _ hb t c _).trans (congrArg (getB · b) (s.tick_rd _ _ _))

end

theorem State.arrived_running (s : State) (n : RegName) (i j t c : Nat) : (s.arrived n i j).running t c = s.running t c :=
  s.arrived_chStat (by decide) t c n i j

/-! ## What a step does -/

/-- CH_STAT and CH_EVCNT after the flags of a step that ends no ONE_SHOT. -/
def State.stepFlags (s : State) (t c cnt : Nat) (down : Bool) : State :=
  let j := s.judgeOf t c
  let s := s.when (cnt == j.top) (·.setFlag .chStat 3 true t c)
  let s := s.when (cnt == 0) (fun s => (s.setFlag .chStat 4 true t c).bumpW .chEvcnt 16 16 t c)
  let s := s.when (j.cmp j.ca j.fa cnt down).isSome (·.setFlag .chStat 5 true t c)
  s.when (j.cmp j.cb j.fb cnt down).isSome (·.setFlag .chStat 6 true t c)

/-- After its flags a step drives the output, and offers its events to the log. -/
theorem State.judgeStep_eq (s : State) (t c n cnt : Nat) (down : Bool) (base : Option Bool) : ∃ rank act fine,
    ((s.stepFlags t c cnt down).drive t c n rank act fine base).frame (s.judgeStep t c n cnt down base) [.offers, .lastEv] := by
  refine ⟨((s.judgeOf t c).decides cnt down).1, ((s.judgeOf t c).decides cnt down).2.1, ((s.judgeOf t c).decides cnt down).2.2 +
    (if (s.stepFlags t c cnt down).presc t c = 1 then ((s.stepFlags t c cnt down).chan (8 * t + c)).acc else 0), ?_⟩
  exact .ite (.refl _ _) (.offer (.refl _ _))

/-! ## What acts on a channel that belongs to no pair -/

section
variable {s : State} {t c : Nat} (hl : s.linked t c = false) (hb : s.bridged t c = false)

/-- A decision changes the level and what belongs to it, and no counting. -/
theorem Chan.decide_spec (k : Chan) (n rank act fine : Nat) (base : Option Bool) : ∃ p y r l h e u,
    (k.decide n rank act fine base).1 =
      { k with prev := p, cyc := y, rank := r, level := l, tripHold := h, edgeAt := e, edgeUp := u } := by
  unfold Chan.decide
  split
  · exact ⟨_, _, _, _, _, _, _, rfl⟩
  · extract_lets p l e c
    split
    · exact ⟨_, _, _, _, _, _, _, rfl⟩
    · exact ⟨_, _, _, _, _, _, _, rfl⟩

theorem State.chan_setChan (s : State) (g : Nat) (k : Chan) : (s.setChan g k).chan g = k := SMap.at_set_self _ _ _ _

theorem State.blank_frame (s : State) (t c : Nat) (e : Stamp) : s.frame (s.blank t c e) [.trips, .launched] := .blank (.refl s _)

include hb in
/-- Outside a bridge pair a drive changes the channel, and what its edge launches and blanks. -/
theorem State.drive_single (n rank act fine : Nat) (base : Option Bool) :
    (s.setChan (8 * t + c) ((s.chan (8 * t + c)).decide n rank act fine base).1).frame (s.drive t c n rank act fine base)
      [.trips, .launched] := by
  unfold State.drive
  rcases hd : (s.chan (8 * t + c)).decide n rank act fine base with ⟨k, e⟩
  simp only [hd, hb, Bool.false_eq_true, if_false]
  cases e with
  | none => exact .refl _ _
  | some e => exact .blank (.refl _ _)

include hb in
/-- What a drive does to its own channel outside a bridge pair. -/
theorem State.drive_chan (n rank act fine : Nat) (base : Option Bool) : ∃ p y r l h e u,
    (s.drive t c n rank act fine base).chan (8 * t + c) =
      { s.chan (8 * t + c) with prev := p, cyc := y, rank := r, level := l, tripHold := h, edgeAt := e, edgeUp := u } := by
  obtain ⟨p, y, r, l, h, e, u, hk⟩ := (s.chan (8 * t + c)).decide_spec n rank act fine base
  refine ⟨p, y, r, l, h, e, u, ?_⟩
  exact ((State.drive_single hb n rank act fine base).chan _).trans ((State.chan_setChan _ _ _).trans hk)

theorem State.stepFlags_frame (s : State) (t c cnt : Nat) (down : Bool) :
    s.frame (s.stepFlags t c cnt down) [.reg .chStat, .reg .chEvcnt] :=
  .when (.when (.when (.when (.refl s _) fun _ h => .setFlag h) fun _ h => .bumpW (.setFlag h)) fun _ h => .setFlag h)
    fun _ h => .setFlag h

/-- The step to 0 shows BOT. -/
theorem State.stepFlags_bot (s : State) (t c : Nat) (down : Bool) : (s.stepFlags t c 0 down).flag .chStat 4 t c = true := by
  have late : ∀ (u : State) x k, k ≠ 4 → u.flag .chStat 4 t c = true → (u.when x (·.setFlag .chStat k true t c)).flag .chStat 4 t c = true := by
    intro u x k hk h
    unfold State.when
    split
    · exact (u.flag_setFlag_off _ _ _ _ _ _ (Ne.symm hk)).trans h
    · exact h
  exact late _ _ 6 (by decide) (late _ _ 5 (by decide) (by simp [State.when, State.flag, State.setFlag, State.bumpW, State.setFld]))

include hb in
/-- A step outside a bridge pair leaves the counting of its channel to the step's own case. -/
theorem State.judgeStep_chan (n cnt : Nat) (down : Bool) (base : Option Bool) : ∃ p y r l h e u,
    (s.judgeStep t c n cnt down base).chan (8 * t + c) =
      { s.chan (8 * t + c) with prev := p, cyc := y, rank := r, level := l, tripHold := h, edgeAt := e, edgeUp := u } := by
  obtain ⟨rank, act, fine, told⟩ := s.judgeStep_eq t c n cnt down base
  have flags := s.stepFlags_frame t c cnt down
  obtain ⟨p, y, r, l, h, e, u, hk⟩ := State.drive_chan ((flags.bridged t c).trans hb) n rank act fine base
  exact ⟨p, y, r, l, h, e, u, (told.chan _).trans (hk.trans (by rw [flags.chan]))⟩

/-! ## Counting up -/

@[simp] theorem State.rd_setChan (s : State) (g : Nat) (k : Chan) (n : RegName) (i j : Nat) : (s.setChan g k).rd n i j = s.rd n i j := rfl
@[simp] theorem State.rd_onChan (s : State) (g : Nat) (f : Chan → Chan) (n : RegName) (i j : Nat) :
    (s.onChan g f).rd n i j = s.rd n i j := rfl
@[simp] theorem State.rd_wr_second (s : State) (n : RegName) (w : Word) (i i' j j' : Nat) (h : j' ≠ j) :
    (s.wr n w i j).rd n i' j' = s.rd n i' j' :=
  s.rd_wr_ne n n w i j i' j' (fun e => h (RegKey.mk.inj e).2.2)

include hl in
theorem State.wide_single (n : RegName) : s.wide n t c = (s.rd n t c).toNat := by
  unfold State.wide
  rw [hl]
  rfl

include hl in
theorem State.setWide_single (n : RegName) (v : Nat) : s.setWide n v t c = s.wr n (toW v) t c := by
  unfold State.setWide
  rw [hl]
  rfl

include hl in
theorem State.countStep_below (hm : s.mode t c = 1) (h : (s.rd .chCount t c).toNat < (s.chan (8 * t + c)).top) (r : Nat) :
    s.countStep t c r = ((s.wr .chCount (toW ((s.rd .chCount t c).toNat + 1)) t c).setChan (8 * t + c)
      { s.chan (8 * t + c) with stepNs := r }).judgeStep t c r ((s.rd .chCount t c).toNat + 1) false := by
  unfold State.countStep
  simp only [hm, State.wide_single hl, State.setWide_single hl]
  rw [if_neg (by decide), if_neg (by decide), if_pos h]

include hl in
theorem State.countStep_wraps (hm : s.mode t c = 1) (h : (s.chan (8 * t + c)).top ≤ (s.rd .chCount t c).toNat)
    (burst : (s.chan (8 * t + c)).burst = 0) (acc : (s.chan (8 * t + c)).hold = true ∨ (s.chan (8 * t + c)).acc + s.fineStep t c < 16)
    (r : Nat) : s.countStep t c r = (s.setChan (8 * t + c) { s.chan (8 * t + c) with burst := 0 }).stepZero t c r
      (((s.chan (8 * t + c)).acc + s.fineStep t c) % 16) := by
  have carries : ¬((!(s.chan (8 * t + c)).hold) = true ∧ 16 ≤ (s.chan (8 * t + c)).acc + s.fineStep t c) := by
    rcases acc with held | small
    · simp [held]
    · omega
  unfold State.countStep
  simp only [hm, State.wide_single hl]
  rw [if_neg (by decide), if_neg (by decide), if_neg (Nat.not_lt.mpr h), if_neg carries, if_neg (by omega), burst]

include hl in
theorem State.countStep_holds (hm : s.mode t c = 1) (h : (s.chan (8 * t + c)).top ≤ (s.rd .chCount t c).toNat)
    (hold : (s.chan (8 * t + c)).hold = false) (acc : 16 ≤ (s.chan (8 * t + c)).acc + s.fineStep t c) (r : Nat) :
    s.countStep t c r = s.setChan (8 * t + c) { s.chan (8 * t + c) with hold := true, stepNs := r } := by
  unfold State.countStep
  simp only [hm, State.wide_single hl]
  rw [if_neg (by decide), if_neg (by decide), if_neg (Nat.not_lt.mpr h), if_pos ⟨by simp [hold], acc⟩]

include hl hb in
/-- A step below TOP counts up, and the channel has stepped in that cycle. -/
theorem State.countStep_below_spec (hm : s.mode t c = 1) (h : (s.rd .chCount t c).toNat < (s.chan (8 * t + c)).top) (r : Nat) :
    (s.countStep t c r).rd .chCount t c = toW ((s.rd .chCount t c).toNat + 1) ∧
    ((s.countStep t c r).chan (8 * t + c)).stepNs = r ∧
    ∀ d, d ≠ c → (s.countStep t c r).rd .chCount t d = s.rd .chCount t d := by
  rw [State.countStep_below hl hm h r]
  obtain ⟨z, hz, own, other, step, frees⟩ : ∃ z, (s.wr .chCount (toW ((s.rd .chCount t c).toNat + 1)) t c).setChan (8 * t + c)
      { s.chan (8 * t + c) with stepNs := r } = z ∧ z.rd .chCount t c = toW ((s.rd .chCount t c).toNat + 1) ∧
      (∀ d, d ≠ c → z.rd .chCount t d = s.rd .chCount t d) ∧ (z.chan (8 * t + c)).stepNs = r ∧ z.bridged t c = false := by
    refine ⟨_, rfl, by rw [State.rd_setChan, State.rd_wr_self], fun d hd => ?_, by rw [State.chan_setChan], ?_⟩
    · rw [State.rd_setChan, State.rd_wr_second _ _ _ _ _ _ _ hd]
    · exact (State.frame.bridged (.setChan (.wr (.refl s [.reg .chCount, .chans]))) _ _).trans hb
  rw [hz]
  have judged := State.frame.judgeStep (t := t) (c := c) (n := r) (cnt := (s.rd .chCount t c).toNat + 1) (down := false)
    (base := none) (fin := false) (.refl z State.frame.judgeStepParts)
  obtain ⟨p, y, k, l, e, x, w, kept⟩ := State.judgeStep_chan frees r ((s.rd .chCount t c).toNat + 1) false none
  refine ⟨(judged.rd .chCount _ _).trans own, ?_, fun d hd => (judged.rd .chCount _ _).trans (other d hd)⟩
  rw [kept]
  exact step

include hl in
/-- The step to 0 of a carrier outside a pair. -/
theorem State.stepZero_spec (r acc : Nat) : (s.stepZero t c r acc).rd .chCount t c = 0 ∧
    (s.stepZero t c r acc).flag .chStat 4 t c = true ∧ ∀ d, d ≠ c → (s.stepZero t c r acc).rd .chCount t d = s.rd .chCount t d := by
  obtain ⟨z, hz, e⟩ : ∃ z, s.frame z (State.frame.handOverParts ++ [.reg .chPwmstat]) ∧
      s.stepZero t c r acc = (z.setWide .chCount 0 t c).judgeStep t c r 0 true :=
    ⟨_, .onChan (.ditherStep (.handOver (.onChan (.refl s _)))), rfl⟩
  rw [e, State.setWide_single ((hz.linked t c).trans hl)]
  obtain ⟨rank, act, fine, told⟩ := (z.wr .chCount (toW 0) t c).judgeStep_eq t c r 0 true none
  have driven := State.frame.drive (t := t) (c := c) (n := r) (rank := rank) (act := act) (fine := fine) (base := none)
    (.refl ((z.wr .chCount (toW 0) t c).stepFlags t c 0 true) State.frame.driveParts)
  have flags := (z.wr .chCount (toW 0) t c).stepFlags_frame t c 0 true
  refine ⟨?_, ?_, fun d hd => ?_⟩
  · rw [told.rd .chCount, driven.rd .chCount, flags.rd .chCount, State.rd_wr_self]
    rfl
  · rw [told.flag .chStat, driven.flag .chStat]
    exact State.stepFlags_bot _ _ _ _
  · rw [told.rd .chCount, driven.rd .chCount, flags.rd .chCount, State.rd_wr_second _ _ _ _ _ _ _ hd, hz.rd .chCount]

end

/-! ## The row of counting -/

theorem tileOf_chOf (g : Nat) : 8 * tileOf g + chOf g = g := Nat.div_add_mod g 8

theorem State.withSum_frame (s : State) (t : Nat) (f : State → State) : (f s).frame (s.withSum t f) State.frame.raiseParts :=
  .ite (.raise (.refl _ _)) (.refl _ _)

/-- A channel's step in tile cycle n. -/
def State.channelStepped (s : State) (t c g n : Nat) : State :=
  if s.modeF t c = 5 ∧ (s.chan g).burst = 0 then
    if (s.chan g).stepNs < n then
      ((s.when (s.pendingBy t c n) (·.handOver t c n)).onChan g (fun k => { k with stepNs := n })).angleCompare t c n
    else s
  else if (s.chan g).stepNs + s.presc t c ≤ n then s.countStep t c ((s.chan g).stepNs + s.presc t c)
  else s

theorem State.channelStepped_counts {s : State} {t c g n : Nat} (hm : s.modeF t c = 1) (due : (s.chan g).stepNs + s.presc t c ≤ n) :
    s.channelStepped t c g n = s.countStep t c ((s.chan g).stepNs + s.presc t c) := by
  unfold State.channelStepped
  rw [if_neg (fun h => absurd (h.1.symm.trans hm) (by decide)), if_pos due]

theorem exec_channelStep_eq (g : Fin 512) (ts : Stamp) (s : State) : exec (.channelStep g ts) s =
    .next (s.happens (tileOf g) ts (fun s => s.tileRuns (tileOf g) && s.running (tileOf g) (chOf g) && s.lead (tileOf g) (chOf g) == chOf g)
      (fun s => s.withSum (tileOf g) (fun s => s.channelStepped (tileOf g) (chOf g) g (nsOf ts)))) := rfl

section
variable {g : Fin 512} {ts : Stamp} {s : State} (hp : s.pstate < 3)
  (hl : s.linked (tileOf g) (chOf g) = false) (hb : s.bridged (tileOf g) (chOf g) = false)
  (runs : s.tileRuns (tileOf g) = true) (on : s.running (tileOf g) (chOf g) = true)
  (due : (s.chan g).stepNs + s.presc (tileOf g) (chOf g) ≤ nsOf ts)
  (hm : s.modeF (tileOf g) (chOf g) = 1)
include hp hl hb runs on due hm

theorem exec_channelStep : ∃ u, exec (.channelStep g ts) s = .next u ∧
    ((s.reachIn (tileOf g) ts).countStep (tileOf g) (chOf g) ((s.chan g).stepNs + s.presc (tileOf g) (chOf g))).frame u
      State.frame.raiseParts := by
  have lead : s.lead (tileOf g) (chOf g) = chOf g := by
    unfold State.lead
    rw [hl, hb]
    rfl
  have go : ((s.reachIn (tileOf g) ts).tileRuns (tileOf g) && (s.reachIn (tileOf g) ts).running (tileOf g) (chOf g) &&
      (s.reachIn (tileOf g) ts).lead (tileOf g) (chOf g) == chOf g) = true := by
    simp only [Bool.and_eq_true, beq_iff_eq]
    exact ⟨⟨runs, on⟩, lead⟩
  refine ⟨_, (exec_channelStep_eq _ _ _).trans (congrArg Host.Outcome.next (State.happens_eq hp go _)), ?_⟩
  have left := (s.reachIn (tileOf g) ts).withSum_frame (tileOf g) (fun s => s.channelStepped (tileOf g) (chOf g) g (nsOf ts))
  rwa [State.channelStepped_counts (s := s.reachIn (tileOf g) ts) hm due] at left

section
variable (burst : (s.chan g).burst = 0)
include burst

omit hp hl hb runs on due in
theorem State.mode_of_modeF : (s.reachIn (tileOf g) ts).mode (tileOf g) (chOf g) = 1 := by
  unfold State.mode
  rw [tileOf_chOf]
  exact (if_neg (Nat.not_lt.mpr (Nat.le_zero.mpr burst))).trans hm

/-- Below TOP a step counts up (R54). -/
theorem channelStep_counts (h : (s.rd .chCount (tileOf g) (chOf g)).toNat < (s.chan g).top) :
    ∃ u, exec (.channelStep g ts) s = .next u ∧
      u.rd .chCount (tileOf g) (chOf g) = toW ((s.rd .chCount (tileOf g) (chOf g)).toNat + 1) ∧
      (u.chan g).stepNs = (s.chan g).stepNs + s.presc (tileOf g) (chOf g) ∧
      ∀ d, d ≠ chOf g → u.rd .chCount (tileOf g) d = s.rd .chCount (tileOf g) d := by
  obtain ⟨u, acts, left⟩ := exec_channelStep hp hl hb runs on due hm
  refine ⟨u, acts, ?_⟩
  obtain ⟨count, step, others⟩ := State.countStep_below_spec (s := s.reachIn (tileOf g) ts) hl hb (State.mode_of_modeF hm burst)
    (by rw [tileOf_chOf]; exact h) ((s.chan g).stepNs + s.presc (tileOf g) (chOf g))
  refine ⟨(left.rd .chCount _ _).trans count, ?_, fun d hd => (left.rd .chCount _ _).trans (others d hd)⟩
  rw [left.chan]
  rwa [tileOf_chOf] at step

/-- From TOP a step goes to 0 (R54), where no fine tick carries. -/
theorem channelStep_wraps (h : (s.chan g).top ≤ (s.rd .chCount (tileOf g) (chOf g)).toNat)
    (acc : (s.chan g).hold = true ∨ (s.chan g).acc + s.fineStep (tileOf g) (chOf g) < 16) :
    ∃ u, exec (.channelStep g ts) s = .next u ∧ u.rd .chCount (tileOf g) (chOf g) = 0 ∧ u.flag .chStat 4 (tileOf g) (chOf g) = true ∧
      ∀ d, d ≠ chOf g → u.rd .chCount (tileOf g) d = s.rd .chCount (tileOf g) d := by
  obtain ⟨u, acts, left⟩ := exec_channelStep hp hl hb runs on due hm
  rw [State.countStep_wraps (s := s.reachIn (tileOf g) ts) hl (State.mode_of_modeF hm burst) (by rw [tileOf_chOf]; exact h)
    (by rw [tileOf_chOf]; exact burst) (by rw [tileOf_chOf]; exact acc)] at left
  obtain ⟨zero, bot, others⟩ := State.stepZero_spec (s := (s.reachIn (tileOf g) ts).setChan (8 * tileOf g + chOf g)
    { (s.reachIn (tileOf g) ts).chan (8 * tileOf g + chOf g) with burst := 0 }) (t := tileOf g) (c := chOf g) hl
    ((s.chan g).stepNs + s.presc (tileOf g) (chOf g)) ((((s.reachIn (tileOf g) ts).chan (8 * tileOf g + chOf g)).acc +
      (s.reachIn (tileOf g) ts).fineStep (tileOf g) (chOf g)) % 16)
  exact ⟨u, acts, (left.rd .chCount _ _).trans zero, (left.flag .chStat _ _ _).trans bot,
    fun d hd => (left.rd .chCount _ _).trans (others d hd)⟩

/-- A fine tick that carries holds the count for one step (R61). -/
theorem channelStep_holds (h : (s.chan g).top ≤ (s.rd .chCount (tileOf g) (chOf g)).toNat) (hold : (s.chan g).hold = false)
    (acc : 16 ≤ (s.chan g).acc + s.fineStep (tileOf g) (chOf g)) :
    ∃ u, exec (.channelStep g ts) s = .next u ∧ u.rd .chCount (tileOf g) (chOf g) = s.rd .chCount (tileOf g) (chOf g) ∧
      (u.chan g).hold = true ∧ ∀ d, d ≠ chOf g → u.rd .chCount (tileOf g) d = s.rd .chCount (tileOf g) d := by
  obtain ⟨u, acts, left⟩ := exec_channelStep hp hl hb runs on due hm
  rw [State.countStep_holds (s := s.reachIn (tileOf g) ts) hl (State.mode_of_modeF hm burst) (by rw [tileOf_chOf]; exact h)
    (by rw [tileOf_chOf]; exact hold) (by rw [tileOf_chOf]; exact acc), tileOf_chOf] at left
  refine ⟨u, acts, left.rd .chCount _ _, ?_, fun d _ => left.rd .chCount _ _⟩
  rw [left.chan, State.chan_setChan]

end
end

/-! ## CH_CTRL -/

/-- A field that a mask leaves whole. -/
theorem getF_and_ones {n : Nat} (v m : BitVec n) (lo len : Nat) (h : ∀ i, i < len → m.getLsbD (lo + i) = true) :
    getF (v &&& m) lo len = getF v lo len := by
  apply Nat.eq_of_testBit_eq
  intro i
  simp only [getF, Nat.testBit_mod_two_pow, Nat.testBit_shiftRight, BitVec.testBit_toNat, BitVec.getLsbD_and]
  by_cases hi : i < len
  · rw [h i hi, Bool.and_true]
  · simp [hi]

/-- The bits of CH_CTRL that are stored; LINK is a bit of even channels (R65). -/
def chCtrlMask (c : Nat) : Word := if c % 2 = 0 then 0x37FFF else 0x37FF7

theorem getF_chCtrlMask (v : Word) (c : Nat) : getF (v &&& chCtrlMask c) 0 3 = getF v 0 3 ∧
    getF (v &&& chCtrlMask c) 4 2 = getF v 4 2 ∧ getF (v &&& chCtrlMask c) 12 2 = getF v 12 2 := by
  unfold chCtrlMask
  split
  all_goals exact ⟨getF_and_ones _ _ _ _ (by decide), getF_and_ones _ _ _ _ (by decide), getF_and_ones _ _ _ _ (by decide)⟩

theorem State.writeChCtrl_stores {s : State} {t c : Nat} {v : Word} (hr : s.running t c = false)
    (ho : s.running t (c + 1 - 2 * (c % 2)) = false) (hb : s.bridged t c = false) (hm : getF v 0 3 ≤ 5) (h4 : getF v 4 2 ≠ 3)
    (h12 : getF v 12 2 ≠ 3) : s.writeChCtrl t c v = s.wr .chCtrl (v &&& chCtrlMask c) t c := by
  obtain ⟨mode, trig, init⟩ := getF_chCtrlMask v c
  unfold chCtrlMask at *
  unfold State.writeChCtrl
  refine if_neg ?_
  simp only [mode, trig, init, hr, ho, hb]
  simp [hm, h4, h12]

theorem State.writeChCtrl_drops {s : State} {t c : Nat} {v : Word} (h : 5 < getF v 0 3 ∨ getF v 4 2 = 3 ∨ getF v 12 2 = 3 ∨
    (s.running t c = true ∧ getF v 0 3 ≠ s.fld .chCtrl 0 3 t c)) : s.writeChCtrl t c v = s.chDrop t c := by
  obtain ⟨mode, trig, init⟩ := getF_chCtrlMask v c
  unfold chCtrlMask at *
  unfold State.writeChCtrl
  refine if_pos ?_
  simp only [mode, trig, init]
  rcases h with h | h | h | ⟨on, h⟩
  · simp [h]
  · simp [h]
  · simp [h]
  · have h' : getF v 0 3 ≠ getF (s.rd .chCtrl t c) 0 3 := h
    simp [on, h']

theorem State.chDrop_spec (s : State) (t c : Nat) : (s.chDrop t c).rd .chCtrl t c = s.rd .chCtrl t c ∧
    (s.chDrop t c).flag .chStat 10 t c = true ∧ (s.chDrop t c).fld .chErrcnt 8 8 t c = min 255 (s.fld .chErrcnt 8 8 t c + 1) := by
  unfold State.chDrop
  simp [State.fld, State.flag, State.setFlag, State.bump]

/-- What a write of CH_CTRL leaves to the slots and the sum of its tile. -/
theorem State.setChCtrl_frame (s : State) (t c : Nat) (v : Word) :
    (s.writeChCtrl t c v).frame (s.setChCtrl t c v) State.frame.recheckSlotsParts :=
  .recheckSlots ((s.withSum_frame t _).mono (by decide))

/-- What arriving at a register may change: the time, and what wakes. -/
def arrivedParts : List StatePart := [.now, .slew] ++ State.frame.wakeForParts

theorem State.arrived_frame (s : State) (n : RegName) (i j : Nat) : s.frame (s.arrived n i j) arrivedParts :=
  .wakeFor (.tick (.refl s _))

/-! ## Shadow registers -/

theorem exec_shadowWrite_single (m : Master) (g : Fin 512) {r : ShadowReg} (v : Word) (s : State) (hd : r ≠ .brDt) (hm : r ≠ .brMinpw) :
    exec (.shadowWrite m g r v) s = .next (s.access m (shadowReg r) (tileOf g) (chOf g) (·.writeShadow (tileOf g) (chOf g) r v)) := by
  cases r with
  | brDt => exact absurd rfl hd
  | brMinpw => exact absurd rfl hm
  | period | cmpa | cmpb | frac | act | ratio | pwmctrl => rfl

theorem exec_shadowWrite_pair (m : Master) (g : Fin 512) {r : ShadowReg} (v : Word) (s : State) (hr : r = .brDt ∨ r = .brMinpw) :
    exec (.shadowWrite m g r v) s = .next (s.access m (shadowReg r) (tileOf g) (chOf g / 2) (·.writeShadow (tileOf g) (chOf g) r v)) := by
  rcases hr with rfl | rfl
  · rfl
  · rfl

@[simp] theorem State.running_wr (s : State) (n : RegName) (w : Word) (i j t c : Nat) (h : .chStat ≠ n) :
    (s.wr n w i j).running t c = s.running t c := congrArg (getB · 0) (s.rd_wr_name _ _ _ _ _ _ _ h)

section
variable {s : State} {t c : Nat} {r : ShadowReg} (v : Word) (hl : s.linked t c = false) (hp : s.flag .chStat 2 t c = false)
  (hh : (s.chan (8 * t + c)).handNs = 0)
include hl hp hh

/-- A register of a set that is not PENDING is written, and where the channel stands still its active register with it (R92). -/
theorem State.writeShadow_active {a : RegName} (ha : shadowActive r = some a) : s.writeShadow t c r v =
    if s.running t c then s.wr (shadowReg r) (v &&& shadowMask r) t c
    else (s.wr (shadowReg r) (v &&& shadowMask r) t c).wr a (v &&& shadowMask r) t c := by
  cases r with
  | period | cmpa | cmpb | frac | act =>
    cases ha
    simp [State.writeShadow, hl, hp, hh, shadowReg, shadowActive]
  | ratio | pwmctrl | brDt | brMinpw => cases ha

theorem State.writeShadow_passive (hd : r ≠ .brDt) (hm : r ≠ .brMinpw) (ha : shadowActive r = none) :
    s.writeShadow t c r v = s.wr (shadowReg r) (v &&& shadowMask r) t c := by
  cases r with
  | period | cmpa | cmpb | frac | act => cases ha
  | ratio | pwmctrl => simp [State.writeShadow, hl, hp, hh, shadowReg, shadowActive]
  | brDt => exact absurd rfl hd
  | brMinpw => exact absurd rfl hm

theorem State.writeShadow_single (hd : r ≠ .brDt) (hm : r ≠ .brMinpw) :
    (s.writeShadow t c r v).rd (shadowReg r) t c = v &&& shadowMask r ∧
    ∀ a, shadowActive r = some a → (s.writeShadow t c r v).rd a t c = if s.running t c then s.rd a t c else v &&& shadowMask r := by
  cases ha : shadowActive r with
  | none =>
    rw [State.writeShadow_passive v hl hp hh hd hm ha]
    exact ⟨State.rd_wr_self _ _ _ _ _, nofun⟩
  | some a =>
    have other : shadowReg r ≠ a := by
      rintro rfl
      cases r <;> cases ha
    rw [State.writeShadow_active v hl hp hh ha]
    cases on : s.running t c
    · exact ⟨(State.rd_wr_name _ _ _ _ _ _ _ _ other).trans (State.rd_wr_self _ _ _ _ _), fun _ h => by
        cases h
        exact State.rd_wr_self _ _ _ _ _⟩
    · exact ⟨State.rd_wr_self _ _ _ _ _, fun _ h => by
        cases h
        exact State.rd_wr_name _ _ _ _ _ _ _ _ (Ne.symm other)⟩

end

theorem State.writeShadow_pending {s : State} {t c : Nat} {r : ShadowReg} (v : Word) (hd : r ≠ .brDt) (hm : r ≠ .brMinpw)
    (hl : s.linked t c = false) (hp : s.flag .chStat 2 t c = true) : s.writeShadow t c r v = s.bump .chErrcnt 0 8 t c := by
  cases r with
  | brDt => exact absurd rfl hd
  | brMinpw => exact absurd rfl hm
  | period | cmpa | cmpb | frac | act | ratio | pwmctrl => simp [State.writeShadow, hl, hp]

theorem State.writeShadow_pair {s : State} {t c : Nat} {r : ShadowReg} (v : Word) (hr : r = .brDt ∨ r = .brMinpw)
    (hb : s.hasBridge = true) (hp : s.flag .chStat 2 t (c - c % 2) = false) (hh : (s.chan (8 * t + (c - c % 2))).handNs = 0) :
    (s.writeShadow t c r v).rd (shadowReg r) t (c / 2) = v &&& shadowMask r := by
  have kept : ∀ (z : State) k b i j, (z.setBridge k b).rd (shadowReg r) i j = z.rd (shadowReg r) i j := fun _ _ _ _ _ => rfl
  rcases hr with rfl | rfl
  all_goals
    simp [State.writeShadow, hb, hp, hh]
    split
    · exact State.rd_wr_self _ _ _ _ _
    · exact (kept _ _ _ _ _).trans (State.rd_wr_self _ _ _ _ _)

/-- Waking writes no register of an active set or a shadow set. -/
theorem shadow_not_arrived (r : ShadowReg) : .reg (shadowReg r) ∉ arrivedParts ∧
    ∀ a, shadowActive r = some a → .reg a ∉ arrivedParts := by
  cases r with
  | period | cmpa | cmpb | frac | act =>
    refine ⟨by decide, fun a ha => ?_⟩
    cases ha
    decide
  | ratio | pwmctrl | brDt | brMinpw => exact ⟨by decide, nofun⟩

/-! ## The counts of a tile -/

theorem State.clrTile_spec (s : State) (t : Nat) : (s.clrTile t).rd .tripCnt t = 0 ∧
    (∀ d, d < 8 → (s.clrTile t).rd .chErrcnt t d = 0 ∧ (s.clrTile t).rd .chEvcnt t d = 0) ∧
    ∀ p, p < 4 → (s.clrTile t).fld .brStat 0 24 t p = 0 := by
  have err := fun d => State.each_seen (f := fun s c => (s.clr .chErrcnt t c).clr .chEvcnt t c) (seen := fun u k => u.rd .chErrcnt t k)
    (fun _ => 0) (fun u i => by simp [State.clr]) (fun u i k h => by simp [State.clr, h]) s (List.nodup_range (n := 8)) d
  have ev := fun d => State.each_seen (f := fun s c => (s.clr .chErrcnt t c).clr .chEvcnt t c) (seen := fun u k => u.rd .chEvcnt t k)
    (fun _ => 0) (fun u i => by simp [State.clr]) (fun u i k h => by simp [State.clr, h]) s (List.nodup_range (n := 8)) d
  unfold State.clrTile
  extract_lets counts bridges
  have hb : counts.frame bridges [.reg .brStat] := .each (.refl counts _) fun _ _ h => .setFld h
  have stat := fun p => State.each_seen (f := fun s p => s.setFld .brStat 0 24 0 t p) (seen := fun u k => u.rd .brStat t k)
    (fun w => putF w 0 24 0) (fun u i => by simp [State.setFld]) (fun u i k h => by simp [State.setFld, h]) counts
    (List.nodup_range (n := 4)) p
  have hc : bridges.frame (bridges.clr .tripCnt t) [.reg .tripCnt] := .clr (.refl bridges _)
  refine ⟨State.rd_wr_self _ _ _ _ _, fun d hd => ⟨?_, ?_⟩, fun p hp => ?_⟩
  · rw [hc.rd .chErrcnt, hb.rd .chErrcnt]
    exact (err d).trans (if_pos (List.mem_range.mpr hd))
  · rw [hc.rd .chEvcnt, hb.rd .chEvcnt]
    exact (ev d).trans (if_pos (List.mem_range.mpr hd))
  · rw [hc.fld .brStat]
    refine (congrArg (getF · 0 24) ((stat p).trans (if_pos (List.mem_range.mpr hp)))).trans ?_
    simp

/-- Settles O29: a step by the case of its count, on the state that time has reached; a write on the state in which it arrives. -/
theorem channelCounting : Obligations.ChannelCounting := by
  unfold Obligations.ChannelCounting
  intro m g r v tile ts s hp t c k plain due others
  have arrived := fun n i j => s.arrived_frame n i j
  refine ⟨fun ⟨hl, hb⟩ ⟨runs, on, ns⟩ hm burst h => channelStep_counts hp hl hb runs on ns hm burst h,
    fun ⟨hl, hb⟩ ⟨runs, on, ns⟩ hm burst h acc => channelStep_wraps hp hl hb runs on ns hm burst h acc,
    fun ⟨hl, hb⟩ ⟨runs, on, ns⟩ hm burst h hold acc => channelStep_holds hp hl hb runs on ns hm burst h hold acc,
    fun hw hr ho hb mode trig init => ?stored, fun hw h => ?dropped, fun hd hm hw hl pend hand => ?shadow, fun hd hm hw hl pend => ?pending,
    fun hr hw hb pend hand => ?pair, fun hw => ?clear⟩
  case stored =>
    refine ⟨_, congrArg Host.Outcome.next (State.access_eq hw _), ?_⟩
    refine ((State.setChCtrl_frame _ t c v).rd .chCtrl _ _).trans ?_
    rw [State.writeChCtrl_stores ((s.arrived_running _ _ _ _ _).trans hr) ((s.arrived_running _ _ _ _ _).trans ho)
      (((arrived _ _ _).bridged _ _).trans hb) mode trig init]
    exact State.rd_wr_self _ _ _ _ _
  case dropped =>
    have left := State.setChCtrl_frame (s.arrived .chCtrl t c) t c v
    have h' : 5 < getF v 0 3 ∨ getF v 4 2 = 3 ∨ getF v 12 2 = 3 ∨
        ((s.arrived .chCtrl t c).running t c = true ∧ getF v 0 3 ≠ (s.arrived .chCtrl t c).fld .chCtrl 0 3 t c) := by
      rwa [s.arrived_running, (arrived _ _ _).fld .chCtrl]
    rw [State.writeChCtrl_drops h'] at left
    obtain ⟨same, err, count⟩ := (s.arrived .chCtrl t c).chDrop_spec t c
    refine ⟨_, congrArg Host.Outcome.next (State.access_eq hw _), (left.rd .chCtrl _ _).trans (same.trans ((arrived _ _ _).rd .chCtrl _ _)),
      (left.flag .chStat _ _ _).trans err, (left.fld .chErrcnt _ _ _ _).trans (count.trans ?_)⟩
    rw [(arrived _ _ _).fld .chErrcnt]
  case shadow =>
    obtain ⟨own, active⟩ := State.writeShadow_single (s := s.arrived (shadowReg r) t c) v (((arrived _ _ _).linked _ _).trans hl)
      ((s.arrived_chStat (by decide) _ _ _ _ _).trans pend) (by rw [(arrived _ _ _).chan]; exact (congrArg (fun x => (s.chan x).handNs) (tileOf_chOf g)).trans hand) hd hm
    refine ⟨_, (exec_shadowWrite_single m g v s hd hm).trans (congrArg Host.Outcome.next (State.access_eq hw _)), own, fun a ha => (active a ha).trans ?_⟩
    rw [s.arrived_running, (arrived _ _ _).rd a _ _ ((shadow_not_arrived r).2 a ha)]
  case pending =>
    have shown := State.writeShadow_pending (s := s.arrived (shadowReg r) t c) v hd hm (((arrived _ _ _).linked _ _).trans hl)
      ((s.arrived_chStat (by decide) _ _ _ _ _).trans pend)
    refine ⟨_, (exec_shadowWrite_single m g v s hd hm).trans (congrArg Host.Outcome.next ((State.access_eq hw _).trans shown)), ?_, ?_⟩
    · have other : shadowReg r ≠ .chErrcnt := by cases r <;> decide
      exact (State.rd_wr_name _ _ _ _ _ _ _ _ other).trans ((arrived _ _ _).rd _ _ _ (shadow_not_arrived r).1)
    · refine (State.fld_bump_self _ _ _ _ _ _ (by decide)).trans ?_
      exact congrArg (fun v => min 255 (v + 1)) ((arrived _ _ _).fld .chErrcnt _ _ _ _)
  case pair =>
    refine ⟨_, (exec_shadowWrite_pair m g v s hr).trans (congrArg Host.Outcome.next (State.access_eq hw _)), ?_⟩
    exact State.writeShadow_pair v hr ((arrived _ _ _).hasBridge.trans hb) ((s.arrived_chStat (by decide) _ _ _ _ _).trans pend)
      (by rw [(arrived _ _ _).chan]; exact hand)
  case clear =>
    obtain ⟨trips, counts, stat⟩ := (s.arrived .tileCtrl tile 0).clrTile_spec tile
    exact ⟨_, congrArg Host.Outcome.next (State.access_eq hw _), trips, counts, stat⟩

end Sys2Proof.Machine
end


section
/-! PROOFS. Starts, stops and commits of channels (R56, R69 to R72, R93). -/

namespace Sys2Proof.Machine

set_option Elab.async false

/-! ## HELD does not come from what runs -/

theorem State.ownCode_ne_held (s : State) (u : Nat) : s.ownCode u ≠ codeHeld := by
  unfold State.ownCode
  dsimp only
  repeat' split
  all_goals decide

theorem State.held_iff (s : State) (u : Nat) : s.held u = true ↔
    s.fitted u = true ∧ s.rd .sysId ≠ 0 ∧ s.failed.contains u = false ∧ s.holdSet u = true := by
  have own := s.ownCode_ne_held u
  have zero : s.rd .sysId ≠ 0 ↔ (s.rd .sysId == 0) = false := by simp
  unfold State.held State.unitCode
  rw [zero]
  cases s.fitted u <;> cases (s.rd .sysId == 0) <;> cases s.failed.contains u <;> cases s.holdSet u <;>
    simp [own, show codeFailed ≠ codeHeld by decide, show 0 ≠ codeHeld by decide]

namespace State.frame

variable {s t : State} {l : List StatePart}

theorem fitted (h : s.frame t l) (u : Nat) (hn : .variant ∉ l := by decide) : t.fitted u = s.fitted u := by
  unfold State.fitted State.tiles State.domains State.engines State.ports State.linkCount State.courses State.tiles
  rw [(h .variant hn : t.variant = s.variant)]

theorem held (h : s.frame t l) (u : Nat) (hv : .variant ∉ l := by decide) (hi : .reg .sysId ∉ l := by decide)
    (hf : .failed ∉ l := by decide) (hs : .reg .unitState ∉ l := by decide) (hr : .reg .unitReq ∉ l := by decide) :
    t.held u = s.held u := by
  rw [Bool.eq_iff_iff, State.held_iff, State.held_iff, h.fitted u hv, h.rd .sysId _ _ hi, (h .failed hf : t.failed = s.failed)]
  unfold State.holdSet
  rw [h.flag .unitState _ _ _ hs, h.fld .unitReq _ _ _ _ hr]

end State.frame

/-- Units whose hold does not change: source 191 is all that can follow. -/
theorem State.withUnits_frame {s : State} (us : List Nat) {f : State → State} (h : ∀ u, (f s).held u = s.held u) :
    (f s).frame (s.withUnits us f) State.frame.raiseParts := by
  have none : us.filter (fun u => decide (u < 64) && s.held u && !(f s).held u) = [] := by
    rw [List.filter_eq_nil_iff]
    intro u _
    rw [h u]
    cases s.held u <;> simp
  unfold State.withUnits
  dsimp only
  rw [none]
  exact .foldl (.refl _ _) fun v u hv => .ite hv (.raise hv)

/-- What waking islands and Courses may change: no hold of a unit, so neither CH_STAT nor PM_PIN. -/
def wokenParts : List StatePart :=
  [.waking, .copies, .reg .pmBank, .reg .govIsl, .reg .govWakeCnt, .padHold] ++ State.frame.raiseParts

theorem State.powerUpCourse_frame (s : State) (k : Nat) : s.frame (s.powerUpCourse k) wokenParts := by
  unfold State.powerUpCourse
  refine .ite (.refl s _) (State.frame.trans ?_ ((State.withUnits_frame _ fun v => ?_).mono (by decide)))
  · exact .openPads (.bumpW (.setFlag (.setFlag (.each (.wakeUp (.refl s _)) fun _ _ h => .setAhead h))))
  · exact State.frame.held (.openPads (.bumpW (.setFlag (.setFlag (.each (.refl s.wakeUp wokenParts) fun _ _ h => .setAhead h))))) v

theorem State.wakeIsland_frame (s : State) (b : Nat) : s.frame (s.wakeIsland b) wokenParts := by
  unfold State.wakeIsland
  exact .ite (.bumpW (.setFlag (.wakeUp (.refl s _)))) (.refl s _)

theorem State.wakeFor_woken (s : State) (u : Nat) : s.frame (s.wakeFor u) wokenParts := by
  unfold State.wakeFor
  exact .ite (s.powerUpCourse_frame _) (.ite (s.wakeIsland_frame _) (.ite (s.wakeIsland_frame _) (.ite (s.wakeIsland_frame _)
    (.ite (s.powerUpCourse_frame _) (.refl s _)))))

theorem State.arrived_woken (s : State) (n : RegName) (i j : Nat) : s.frame (s.arrived n i j) ([.now, .slew] ++ wokenParts) :=
  .add (.tick (.refl s _)) (by decide) (State.wakeFor_woken _ _)

/-- Waking leaves CH_STAT as it is. -/
theorem State.arrived_rd_chStat (s : State) (n : RegName) (i j t c : Nat) : (s.arrived n i j).rd .chStat t c = s.rd .chStat t c :=
  (s.arrived_woken n i j).rd .chStat t c

/-! ## RUN -/

theorem State.setRun_frame (s : State) (t c : Nat) (b : Bool) :
    (s.each (s.pairOf t c) (fun s c => s.setFlag .chStat 0 b t c)).frame (s.setRun t c b) (.courseAt :: State.frame.raiseParts) := by
  refine .noteCourse ((State.withUnits_frame [t] fun u => ?_).mono (by decide))
  exact State.frame.held (.each (.refl s [.reg .chStat]) fun _ _ h => .setFlag h) u

/-- RUN of the channels of a pair, and of no other. -/
theorem State.setRun_flag (s : State) (t c d : Nat) (b : Bool) :
    (s.setRun t c b).rd .chStat t d = if d ∈ s.pairOf t c then putB (s.rd .chStat t d) 0 b else s.rd .chStat t d := by
  have nodup : (s.pairOf t c).Nodup := by
    unfold State.pairOf
    split <;> simp
  refine ((s.setRun_frame t c b).rd .chStat _ _).trans ?_
  exact State.each_seen (f := fun s c => s.setFlag .chStat 0 b t c) (seen := fun u k => u.rd .chStat t k) (fun w => putB w 0 b)
    (fun u i => by simp [State.setFlag]) (fun u i k h => by simp [State.setFlag, h]) s nodup d

/-! ## Channels that a start or a stop does not name -/

/-- What starts, stops and commits may change. -/
def startStopParts : List StatePart := [.reg .chStat, .reg .chCount, .chans] ++ State.frame.stopOneParts ++ State.frame.startOneParts

/-- From s to t, CH_STAT and CH_COUNT of channel c of the tile stay as they were. -/
structure State.leaves (t c : Nat) (s u : State) : Prop where
  stat : u.rd .chStat t c = s.rd .chStat t c
  count : u.rd .chCount t c = s.rd .chCount t c
  frame : s.frame u startStopParts

namespace State.leaves

variable {t c : Nat} {s u v : State}

theorem refl (s : State) : s.leaves t c s := ⟨rfl, rfl, .refl _ _⟩
theorem trans (h : State.leaves t c s u) (h' : State.leaves t c u v) : State.leaves t c s v :=
  ⟨h'.stat.trans h.stat, h'.count.trans h.count, h.frame.trans h'.frame⟩
theorem ite {p : Prop} [Decidable p] (h : State.leaves t c s u) (h' : State.leaves t c s v) : State.leaves t c s (if p then u else v) := by
  split
  · exact h
  · exact h'

/-- What changes neither register of the channel. -/
theorem of_frame {l : List StatePart} (h : s.frame u l) (hl : l ⊆ startStopParts := by decide)
    (hs : .reg .chStat ∉ l := by decide) (hc : .reg .chCount ∉ l := by decide) : State.leaves t c s u :=
  ⟨h.rd _ _ _ hs, h.rd _ _ _ hc, h.mono hl⟩

theorem pairOf (h : State.leaves t c s u) (d : Nat) : u.pairOf t d = s.pairOf t d := by
  unfold State.pairOf
  rw [h.frame.linked, h.frame.bridged]

theorem running (h : State.leaves t c s u) : u.running t c = s.running t c := congrArg (getB · 0) h.stat

/-- A loop over members that leave the channel. -/
theorem each {f : State → Nat → State} {as : List Nat} (hf : ∀ v a, a ∈ as → State.leaves t c s v → State.leaves t c v (f v a)) :
    State.leaves t c s (s.each as f) := by
  suffices ∀ u, State.leaves t c s u → State.leaves t c s (u.each as f) from this s (refl s)
  induction as with
  | nil => exact fun u h => h
  | cons a r ih =>
    exact fun u h => ih (fun v b hb => hf v b (List.mem_cons_of_mem _ hb)) _ (h.trans (hf u a List.mem_cons_self h))

end State.leaves

theorem State.self_mem_pairOf (s : State) (t d : Nat) : d ∈ s.pairOf t d := by
  unfold State.pairOf
  split <;> simp

section
variable {t c d : Nat} {s : State} (hc : c ∉ s.pairOf t d)

theorem State.setFlag_leaves (k : Nat) (b : Bool) (h : d ≠ c) : State.leaves t c s (s.setFlag .chStat k b t d) :=
  ⟨s.rd_wr_second _ _ _ _ _ _ (Ne.symm h), s.rd_wr_name _ _ _ _ _ _ _ (by decide), .setFlag (.refl s _)⟩

include hc

theorem State.ne_of_not_pair : d ≠ c := fun h => hc (h ▸ s.self_mem_pairOf t d)

theorem State.setRun_leaves (b : Bool) : State.leaves t c s (s.setRun t d b) := by
  refine ⟨(s.setRun_flag t d c b).trans (if_neg hc), ?_, .setRun (.refl s _)⟩
  exact State.frame.rd (.setRun (.refl s State.frame.setRunParts)) .chCount _ _

theorem State.pairFlags_leaves (k : Nat) (b : Bool) : State.leaves t c s (s.each (s.pairOf t d) (fun s c => s.setFlag .chStat k b t c)) :=
  .each fun v _ ha _ => v.setFlag_leaves k b (fun h => hc (h ▸ ha))

theorem State.setCount_leaves (v : Nat) : State.leaves t c s (s.setWide .chCount v t d) := by
  have hd := Ne.symm (State.ne_of_not_pair hc)
  refine ⟨State.frame.rd (.setWide (.refl s [.reg .chCount])) .chStat _ _, ?_, .setWide (.refl s _)⟩
  unfold State.setWide
  dsimp only
  split
  next h =>
    have pair : c ≠ d + 1 := fun e => hc (by
      unfold State.pairOf
      simp only [Bool.and_eq_true] at h
      simp [h.1, e])
    rw [State.rd_wr_second _ _ _ _ _ _ _ pair, State.rd_wr_second _ _ _ _ _ _ _ hd]
  · exact State.rd_wr_second _ _ _ _ _ _ _ hd

theorem State.judgeStep_leaves (n cnt : Nat) (down : Bool) (base : Option Bool) :
    State.leaves t c s (s.judgeStep t d n cnt down base) := by
  obtain ⟨rank, act, fine, told⟩ := s.judgeStep_eq t d n cnt down base
  have hd := Ne.symm (State.ne_of_not_pair hc)
  have flags : State.leaves t c s (s.stepFlags t d cnt down) := by
    refine ⟨?_, (s.stepFlags_frame t d cnt down).rd .chCount _ _, (s.stepFlags_frame t d cnt down).mono (by decide)⟩
    have keeps : ∀ (u : State) x k, (u.when x (·.setFlag .chStat k true t d)).rd .chStat t c = u.rd .chStat t c := by
      intro u x k
      unfold State.when
      split
      · exact u.rd_wr_second _ _ _ _ _ _ hd
      · rfl
    have bot : ∀ (u : State) x, (u.when x (fun s => (s.setFlag .chStat 4 true t d).bumpW .chEvcnt 16 16 t d)).rd .chStat t c =
        u.rd .chStat t c := by
      intro u x
      unfold State.when
      split
      · exact (State.rd_wr_name _ _ _ _ _ _ _ _ (by decide)).trans (u.rd_wr_second _ _ _ _ _ _ hd)
      · rfl
    exact (keeps _ _ _).trans ((keeps _ _ _).trans ((bot _ _).trans (keeps _ _ _)))
  exact flags.trans ((State.leaves.of_frame (.drive (.refl _ State.frame.driveParts))).trans (.of_frame told))

theorem State.startOne_leaves (n acc : Nat) : State.leaves t c s (s.startOne t d n acc) := by
  have hd := State.ne_of_not_pair hc
  have away : ∀ {u : State}, State.leaves t c s u → c ∉ u.pairOf t d := fun h => by rwa [h.pairOf]
  unfold State.startOne
  extract_lets g m pairOk fine ran fresh safe copied phase old init level a set counted driven
  have h0 : State.leaves t c s (s.onChan g (fun k => { k with burst := 0, capPrev := none, delayEnd := 0 })) :=
    .of_frame (.onChan (.refl s [.chans]))
  have h1 : State.leaves t c s ran := h0.trans (State.setRun_leaves (away h0) true)
  have h2 : State.leaves t c s fresh := h1.trans (State.setFlag_leaves 2 false hd)
  have h3 : State.leaves t c s safe := h2.trans (State.pairFlags_leaves (away h2) 9 false)
  have h4 : State.leaves t c s copied := h3.trans (.of_frame (.copySet (.refl safe State.frame.copySetParts)))
  have h5 : State.leaves t c s phase := h4.trans (.of_frame (.setFld (.refl copied [.reg .chPwmstat])))
  have h6 : State.leaves t c s set := h5.trans (.of_frame (.setChan (.refl phase [.chans])))
  have h7 : State.leaves t c s counted := by
    have wide := h6.trans (State.setCount_leaves (away h6) 0)
    exact .ite h6 (wide.trans (State.judgeStep_leaves (away wide) _ _ _ _))
  have h8 : State.leaves t c s driven := h7.trans (.of_frame (.drive (.refl counted State.frame.driveParts)))
  exact .ite (.refl s) (.ite (State.setFlag_leaves 10 true hd) (.ite
    (h8.trans (.of_frame (.bridgeStart (.refl driven State.frame.bridgeStartParts)))) h8))

theorem State.stopOne_leaves (n : Nat) : State.leaves t c s (s.stopOne t d n) := by
  have hd := State.ne_of_not_pair hc
  have away : ∀ {u : State}, State.leaves t c s u → c ∉ u.pairOf t d := fun h => by rwa [h.pairOf]
  unfold State.stopOne
  extract_lets taken handed still bridge
  have h1 : State.leaves t c s taken := State.setFlag_leaves 2 false hd
  have h2 : State.leaves t c s handed := by
    refine .ite (.ite ?_ (h1.trans (.of_frame (.copySet (.refl taken State.frame.copySetParts))))) (.refl s)
    exact (h1.trans (State.setFlag_leaves 10 true hd)).trans (.of_frame (.bump (.refl _ [.reg .chErrcnt])))
  have h3 : State.leaves t c s still := h2.trans (State.setRun_leaves (away h2) false)
  have h4 : State.leaves t c s bridge := .ite (h3.trans (.of_frame (.bridgeStop (.refl still State.frame.bridgeStopParts)))) h3
  refine .ite (.refl s) (h4.trans (.each fun v a ha hv => ?_))
  have ne : a ≠ c := fun e => away h4 (e ▸ (List.mem_filter.mp ha).1)
  exact (v.setFlag_leaves 9 true ne).trans (.of_frame (.each (.refl _ [.reg .pmPin]) fun _ _ h => .setFlag h))

end

/-- A channel that a mask names governs itself, so no other that it names runs and stops with it. -/
theorem State.named_apart {s : State} {t mask c d : Nat} (hc : c ∈ s.named t mask) (hd : d ∈ s.named t mask) (h : d ≠ c) :
    c ∉ s.pairOf t d := by
  intro hp
  have lead : ∀ {x}, x ∈ s.named t mask → s.lead t x = x := by
    intro x hx
    refine Classical.byContradiction fun e => ?_
    have := (List.mem_filter.mp hx).2
    simp [e] at this
  have lc := lead hc
  have ld := lead hd
  by_cases pair : (s.linked t d || s.bridged t d) = true
  · have even : d % 2 = 0 := by
      unfold State.lead at ld
      rw [if_pos pair] at ld
      omega
    have hcd : c = d + 1 := by
      unfold State.pairOf at hp
      rw [if_pos pair] at hp
      simpa [Ne.symm h] using hp
    have partner : (s.linked t c || s.bridged t c) = true := by
      unfold State.linked State.bridged at *
      rw [hcd, show d + 1 - (d + 1) % 2 = d - d % 2 by omega, show (d + 1) / 2 = d / 2 by omega]
      exact pair
    unfold State.lead at lc
    rw [if_pos partner] at lc
    omega
  · unfold State.pairOf at hp
    rw [if_neg pair] at hp
    exact h (List.mem_singleton.mp hp).symm

theorem State.named_nodup (s : State) (t mask : Nat) : (s.named t mask).Nodup := List.Pairwise.filter _ List.nodup_range

theorem State.frame.pairOf {s u : State} (h : s.frame u startStopParts) (t d : Nat) : u.pairOf t d = s.pairOf t d := by
  unfold State.pairOf
  rw [h.linked, h.bridged]

/-- A loop over named channels reaches one of them in a state that has left it alone, and leaves it alone afterwards. -/
theorem State.each_named {s : State} {t mask c : Nat} {f : State → Nat → State} (hc : c ∈ s.named t mask)
    (other : ∀ v a, c ∉ v.pairOf t a → State.leaves t c v (f v a)) (own : ∀ v : State, v.frame (f v c) startStopParts) :
    ∃ v, State.leaves t c s v ∧ State.leaves t c (f v c) (s.each (s.named t mask) f) := by
  obtain ⟨l, r, split⟩ := List.append_of_mem hc
  have nodup := s.named_nodup t mask
  rw [split] at nodup
  obtain ⟨-, nr, apart⟩ := List.nodup_append.mp nodup
  have apart' : ∀ a, a ∈ s.named t mask → a ≠ c → ∀ v, s.frame v startStopParts → c ∉ v.pairOf t a := fun a ha ne v hv => by
    rw [hv.pairOf]
    exact State.named_apart hc ha ne
  have before : State.leaves t c s (s.each l f) := .each fun v a ha hv =>
    other v a (apart' a (split ▸ List.mem_append_left _ ha) (fun e => apart a ha c List.mem_cons_self e) v hv.frame)
  refine ⟨s.each l f, before, ?_⟩
  have parts : s.each (s.named t mask) f = (f (s.each l f) c).each r f := by
    rw [split]
    exact List.foldl_append
  rw [parts]
  exact .each fun v a ha hv => other v a (apart' a (split ▸ List.mem_append_right _ (List.mem_cons_of_mem _ ha))
    (fun e => (List.nodup_cons.mp nr).1 (e ▸ ha)) v ((before.frame.trans (own _)).trans hv.frame))

/-! ## What starting and stopping do to their own channel -/

section
variable {s : State} {t c : Nat}

/-- A step's flags leave RUN. -/
theorem State.stepFlags_run (s : State) (t c cnt : Nat) (down : Bool) : (s.stepFlags t c cnt down).running t c = s.running t c := by
  have keeps : ∀ (u : State) x k, k ≠ 0 → (u.when x (·.setFlag .chStat k true t c)).running t c = u.running t c := by
    intro u x k hk
    unfold State.when
    split
    · exact u.flag_setFlag_off _ _ _ _ _ _ (Ne.symm hk)
    · rfl
  have bot : ∀ (u : State) x, (u.when x (fun s => (s.setFlag .chStat 4 true t c).bumpW .chEvcnt 16 16 t c)).running t c =
      u.running t c := by
    intro u x
    unfold State.when
    split
    · exact (State.running_wr _ _ _ _ _ _ _ (by decide)).trans (u.flag_setFlag_off _ _ _ _ _ _ (by decide))
    · rfl
  exact (keeps _ _ _ (by decide)).trans ((keeps _ _ _ (by decide)).trans ((bot _ _).trans (keeps _ _ _ (by decide))))

theorem State.judgeStep_run (s : State) (t c n cnt : Nat) (down : Bool) (base : Option Bool) :
    (s.judgeStep t c n cnt down base).running t c = s.running t c := by
  obtain ⟨rank, act, fine, told⟩ := s.judgeStep_eq t c n cnt down base
  exact (told.running _ _).trans ((State.frame.running (.drive (.refl _ State.frame.driveParts)) _ _).trans (s.stepFlags_run _ _ _ _))

theorem State.setRun_own (s : State) (t c : Nat) (b : Bool) : (s.setRun t c b).running t c = b := by
  unfold State.running State.flag
  rw [s.setRun_flag, if_pos (s.self_mem_pairOf t c)]
  exact getB_putB_self _ _ _ (by decide)

/-- A channel of no pair that may start runs from count 0 (R56, R70). -/
theorem State.startOne_ready (hl : s.linked t c = false) (hb : s.bridged t c = false) (low : 1 ≤ s.modeF t c) (high : s.modeF t c ≤ 4)
    (period : periodMin (s.modeF t c) ≤ (s.rd .chPeriod t c).toNat) (n acc : Nat) :
    (s.startOne t c n acc).running t c = true ∧ (s.startOne t c n acc).rd .chCount t c = 0 := by
  unfold State.startOne
  extract_lets g m pairOk fine ran fresh safe copied phase old init level a set counted driven
  have ok : pairOk = true := by simp [pairOk, hl, hb]
  have r1 : ran.running t c = true := State.setRun_own _ _ _ _
  have r2 : fresh.running t c = true := (ran.flag_setFlag_off _ _ _ _ _ _ (by decide)).trans r1
  have r3 : safe.running t c = true := by
    refine Eq.trans ?_ r2
    exact State.foldl_seen (fun u => u.running t c) (fun u a => u.flag_setFlag_off _ _ _ _ _ _ (by decide)) fresh _
  have f3 : s.frame safe [.chans, .reg .chStat, .reg .pmPin, .reg .intPendSet, .reg .intErr, .reg .vecStat, .courseAt, .waking,
    .vecFirst, .wakePin] := .each (.setFlag (.setRun (.onChan (.refl s _)))) fun _ _ h => .setFlag h
  have fset : safe.frame set (State.frame.copySetParts ++ [.reg .chPwmstat, .chans]) :=
    .setChan (.setFld (.copySet (.refl safe _)))
  have r6 : set.running t c = true := (fset.running _ _).trans r3
  have l6 : set.linked t c = false := (fset.linked _ _).trans ((f3.linked _ _).trans hl)
  have hm5 : ¬m = 5 := by
    have : m ≤ 4 := high
    omega
  have e7 : counted = (set.setWide .chCount 0 t c).judgeStep t c n 0 true (some level) := if_neg hm5
  have f7 := State.frame.judgeStep (t := t) (c := c) (n := n) (cnt := 0) (down := true) (base := some level) (fin := false)
    (.refl (set.setWide .chCount 0 t c) State.frame.judgeStepParts)
  have fd : counted.frame driven State.frame.driveParts := .drive (.refl _ _)
  have hb' : driven.bridged t c = false := by
    rw [fd.bridged, e7, f7.bridged, State.setWide_single l6, State.frame.bridged (.wr (.refl set [.reg .chCount])), fset.bridged, f3.bridged]
    exact hb
  have last : (if m = 0 ∨ 5 < m then s else if s.wide .chPeriod t c < periodMin m ∨ (!pairOk) = true then s.setFlag .chStat 10 true t c
      else if driven.bridged t c = true then driven.bridgeStart t (c / 2) (toS (16 * n + a)) else driven) = driven := by
    have hm : 1 ≤ m ∧ m ≤ 4 := ⟨low, high⟩
    have hp : ¬(s.rd .chPeriod t c).toNat < periodMin m := Nat.not_lt.mpr period
    rw [if_neg (by omega), State.wide_single hl, if_neg (by simp [hp, ok]), if_neg (by simp [hb'])]
  rw [last]
  refine ⟨(fd.running _ _).trans ?_, (fd.rd .chCount _ _).trans ?_⟩
  · rw [e7, State.judgeStep_run, State.setWide_single l6, State.running_wr _ _ _ _ _ _ _ (by decide)]
    exact r6
  · rw [e7, f7.rd .chCount, State.setWide_single l6, State.rd_wr_self]
    rfl

/-- A running channel that is stopped stands still with its count (R72). -/
theorem State.stopOne_running (hr : s.running t c = true) (n : Nat) :
    (s.stopOne t c n).running t c = false ∧ (s.stopOne t c n).rd .chCount t c = s.rd .chCount t c := by
  refine ⟨?_, State.frame.rd (.stopOne (.refl s State.frame.stopOneParts)) .chCount _ _⟩
  unfold State.stopOne
  extract_lets taken handed still bridge
  rw [if_neg (by simp [hr])]
  have r1 : still.running t c = false := State.setRun_own _ _ _ _
  have r2 : bridge.running t c = false := by
    have h := State.frame.running (.bridgeStop (t := t) (p := c / 2) (e := toS (16 * n)) (.refl still State.frame.bridgeStopParts)) t c
    show (if still.bridged t c = true then _ else _ : State).running t c = false
    split
    · exact h.trans r1
    · exact r1
  refine Eq.trans ?_ r2
  refine State.foldl_seen (fun u => u.running t c) (fun u a => ?_) bridge _
  refine (State.frame.running (.each (.refl _ [.reg .pmPin]) fun _ _ h => .setFlag h) t c).trans ?_
  exact u.flag_setFlag_off _ _ _ _ _ _ (by decide)

end

/-! ## The rows -/

section
variable {s : State} {t c mask : Nat} (hc : c ∈ s.named t mask)

theorem State.startMask_frame (s : State) (t mask n acc : Nat) :
    (s.each (s.named t mask) (fun s c => if s.running t c then s.setFlag .chStat 10 true t c else s.startOne t c n acc)).frame
      (s.startMask t mask n acc) State.frame.raiseParts := s.withSum_frame t _

theorem State.frame.modeF {s u : State} (h : s.frame u startStopParts) (t c : Nat) : u.modeF t c = s.modeF t c := by
  unfold State.modeF State.lead
  rw [h.linked, h.bridged, h.fld .chCtrl]

include hc

theorem State.startMask_member (n acc : Nat) : ∃ v, State.leaves t c s v ∧
    State.leaves t c (if v.running t c then v.setFlag .chStat 10 true t c else v.startOne t c n acc) (s.startMask t mask n acc) := by
  obtain ⟨v, before, after⟩ := State.each_named (f := fun s c => if s.running t c then s.setFlag .chStat 10 true t c else s.startOne t c n acc) hc
    (fun v a ha => .ite (State.setFlag_leaves 10 true (State.ne_of_not_pair ha)) (State.startOne_leaves ha n acc))
    (fun v => .ite (.setFlag (.refl v _)) (.startOne (.refl v _)))
  exact ⟨v, before, after.trans (.of_frame (s.startMask_frame t mask n acc))⟩


/-- A named channel that may start and stands still starts. -/
theorem State.startMask_starts (hl : s.linked t c = false) (hb : s.bridged t c = false) (low : 1 ≤ s.modeF t c) (high : s.modeF t c ≤ 4)
    (period : periodMin (s.modeF t c) ≤ (s.rd .chPeriod t c).toNat) (hr : s.running t c = false) (n acc : Nat) :
    (s.startMask t mask n acc).running t c = true ∧ (s.startMask t mask n acc).rd .chCount t c = 0 := by
  obtain ⟨v, before, after⟩ := State.startMask_member hc n acc
  rw [before.running, if_neg (by simp [hr])] at after
  have hm := before.frame.modeF t c
  obtain ⟨run, count⟩ := State.startOne_ready (s := v) (t := t) (c := c) ((before.frame.linked _ _).trans hl)
    ((before.frame.bridged _ _).trans hb) (hm ▸ low) (hm ▸ high) (by rw [hm, before.frame.rd .chPeriod]; exact period) n acc
  exact ⟨after.running.trans run, after.count.trans count⟩

/-- A named channel that runs is left running, with CFG_ERR (R69). -/
theorem State.startMask_runs (hr : s.running t c = true) (n acc : Nat) : (s.startMask t mask n acc).running t c = true ∧
    (s.startMask t mask n acc).rd .chCount t c = s.rd .chCount t c ∧ (s.startMask t mask n acc).flag .chStat 10 t c = true := by
  obtain ⟨v, before, after⟩ := State.startMask_member hc n acc
  rw [before.running, if_pos hr] at after
  refine ⟨after.running.trans ?_, after.count.trans ?_, (congrArg (getB · 10) after.stat).trans (State.flag_setFlag_self _ _ _ _ _ _ (by decide))⟩
  · exact (v.flag_setFlag_off _ _ _ _ _ _ (by decide)).trans (before.running.trans hr)
  · exact (v.rd_wr_name _ _ _ _ _ _ _ (by decide)).trans before.count

/-- A named channel that runs is stopped. -/
theorem State.stopMask_stops (hr : s.running t c = true) (n : Nat) : (s.stopMask t mask n).running t c = false ∧
    (s.stopMask t mask n).rd .chCount t c = s.rd .chCount t c := by
  obtain ⟨v, before, after⟩ := State.each_named (f := fun s c => s.stopOne t c n) hc (fun v a ha => State.stopOne_leaves ha n)
    (fun v => .stopOne (.refl v _))
  have told := State.leaves.of_frame (t := t) (c := c) (s.withSum_frame t (fun s => s.each (s.named t mask) (fun s c => s.stopOne t c n)))
  obtain ⟨still, count⟩ := State.stopOne_running (before.running.trans hr) n
  exact ⟨told.running.trans (after.running.trans still), told.count.trans (after.count.trans (count.trans before.count))⟩

end

/-- The channels of a mask without one are none. -/
theorem State.named_none (s : State) (t : Nat) : s.named t 0 = [] := by
  unfold State.named
  rw [List.filter_eq_nil_iff]
  intro c _
  split
  · simp
  · split <;> simp

theorem State.startMask_none (s : State) (t n acc : Nat) : s.startMask t 0 n acc = s := by
  unfold State.startMask State.withSum
  dsimp only
  rw [s.named_none]
  exact if_neg (fun h => h.2 h.1)

/-- What a commit makes of CH_STAT and of a channel (R93). -/
def committed (n : Nat) (x : Word × Chan) : Word × Chan :=
  if getB x.1 0 && !getB x.1 2 then (putB x.1 2 true, { x.2 with pendNs := n }) else x

theorem State.chan_setChan_ne (s : State) {g k : Nat} (x : Chan) (h : k ≠ g) : (s.setChan g x).chan k = s.chan k :=
  SMap.at_set_ne _ _ _ _ _ h

theorem State.commitMask_seen (s : State) (t mask n c : Nat) :
    ((s.commitMask t mask n).rd .chStat t c, (s.commitMask t mask n).chan (8 * t + c)) =
      if c ∈ s.named t mask then committed n (s.rd .chStat t c, s.chan (8 * t + c)) else (s.rd .chStat t c, s.chan (8 * t + c)) := by
  refine State.each_seen (seen := fun u k => (u.rd .chStat t k, u.chan (8 * t + k))) (committed n) (fun u i => ?_) (fun u i k h => ?_) s
    (s.named_nodup t mask) c
  · have same : (u.running t i && !u.flag .chStat 2 t i) = (getB (u.rd .chStat t i) 0 && !getB (u.rd .chStat t i) 2) := rfl
    dsimp only [committed]
    rw [same]
    by_cases h : (getB (u.rd .chStat t i) 0 && !getB (u.rd .chStat t i) 2) = true
    · rw [if_pos h, if_pos h, State.onChan, State.rd_setChan, State.chan_setChan]
      exact congrArg (·, _) (State.rd_wr_self _ _ _ _ _)
    · rw [if_neg h, if_neg h]
  · by_cases run : (u.running t i && !u.flag .chStat 2 t i) = true
    · rw [if_pos run, State.onChan, State.rd_setChan, State.chan_setChan_ne _ _ (by omega)]
      exact congrArg (·, _) (u.rd_wr_second _ _ _ _ _ _ h)
    · rw [if_neg run]

/-- A channel that a commit does not name, or that stands still, keeps its CH_STAT. -/
theorem State.commitMask_spares {s : State} {t c mask : Nat} (h : c ∉ s.named t mask ∨ s.running t c = false) (n : Nat) :
    (s.commitMask t mask n).rd .chStat t c = s.rd .chStat t c := by
  refine (congrArg Prod.fst (s.commitMask_seen t mask n c)).trans ?_
  rcases h with h | h
  · rw [if_neg h]
  · have same : committed n (s.rd .chStat t c, s.chan (8 * t + c)) = (s.rd .chStat t c, s.chan (8 * t + c)) := by
      unfold State.running State.flag at h
      simp [committed, h]
    rw [same, ite_self]

theorem State.commitMask_names {s : State} {t c mask : Nat} (hc : c ∈ s.named t mask) (hr : s.running t c = true)
    (hp : s.flag .chStat 2 t c = false) (n : Nat) :
    (s.commitMask t mask n).flag .chStat 2 t c = true ∧ ((s.commitMask t mask n).chan (8 * t + c)).pendNs = n := by
  have seen := s.commitMask_seen t mask n c
  have done : committed n (s.rd .chStat t c, s.chan (8 * t + c)) =
      (putB (s.rd .chStat t c) 2 true, { s.chan (8 * t + c) with pendNs := n }) := by
    unfold State.running State.flag at hr
    unfold State.flag at hp
    simp [committed, hr, hp]
  rw [if_pos hc, done, Prod.mk.injEq] at seen
  obtain ⟨stat, chan⟩ := seen
  exact ⟨(congrArg (getB · 2) stat).trans (getB_putB_self _ _ _ (by decide)), by rw [chan]⟩

/-- A stop with no start armed is the stop of its mask. -/
theorem State.stopTile_unarmed {s : State} {t : Nat} (h : s.flag .tileStartArm 8 t = false) (mask : Nat) :
    s.stopTile t mask = s.stopMask t mask (s.nextNs t) := by
  unfold State.stopTile
  dsimp only
  rw [h]
  exact if_neg (by simp)

/-- A start whose armed time is still to come, or one of no channel, is only stored (R70). -/
theorem State.armStart_early {s : State} {t mask : Nat} (h : mask % 256 = 0 ∨ s.nextNs t ≤ nsOf (s.armTime t)) :
    s.armStart t mask = s.wr .tileStartArm (toW (mask % 256 + if mask % 256 = 0 then 0 else 256)) t := by
  have time : ∀ v, (s.wr .tileStartArm v t).armTime t = s.armTime t := fun v => by
    unfold State.armTime
    rw [s.rd_wr_name _ _ _ _ _ _ _ (by decide), s.rd_wr_name _ _ _ _ _ _ _ (by decide)]
  unfold State.armStart
  dsimp only
  rw [time]
  exact if_neg fun ⟨named, late⟩ => h.elim named (Nat.not_le.mpr late)

/-- Settles O30: each mask by what it does to a channel that it names, and by what the others leave. -/
theorem startStopCommit : Obligations.StartStopCommit := by
  unfold Obligations.StartStopCommit
  intro m tile c mask ts s hp t md ready armed
  have arrived := fun n i j => s.arrived_frame n i j
  have named : ∀ n i j k, (s.arrived n i j).named t k = s.named t k := fun n i j k => by
    unfold State.named State.lead
    simp only [(arrived n i j).linked, (arrived n i j).bridged]
  have stat := fun n i j => s.arrived_rd_chStat n i j t c
  have mode : ∀ n i j, (s.arrived n i j).modeF t c = md := fun n i j => by
    unfold State.modeF State.lead
    rw [(arrived n i j).linked, (arrived n i j).bridged, (arrived n i j).fld .chCtrl]
    rfl
  refine ⟨fun hw ⟨hl, hb, low, high, period⟩ hc hr => ?start, fun hw hc hr => ?again, fun hw h => ?none, fun hw ha hc hr => ?stop,
    fun hw h => ?arm, fun runs flag due ⟨hl, hb, low, high, period⟩ hc hr => ?armedStart, fun hw hc hr hp => ?commit, fun hw h => ?spare⟩
  case start =>
    refine ⟨_, congrArg Host.Outcome.next (State.access_eq hw _), ?_⟩
    exact State.startMask_starts (by rwa [named]) (((arrived _ _ _).linked _ _).trans hl) (((arrived _ _ _).bridged _ _).trans hb)
      (by rwa [mode]) (by rwa [mode]) (by rw [mode, (arrived _ _ _).rd .chPeriod]; exact period) ((s.arrived_running _ _ _ _ _).trans hr) _ _
  case again =>
    obtain ⟨run, count, err⟩ := State.startMask_runs (s := s.arrived .tileStart t 0) (t := t) (c := c) (mask := mask.toNat) (by rwa [named])
      ((s.arrived_running _ _ _ _ _).trans hr) ((s.arrived .tileStart t 0).nextNs t) 0
    exact ⟨_, congrArg Host.Outcome.next (State.access_eq hw _), run, count.trans ((arrived _ _ _).rd .chCount _ _), err⟩
  case none =>
    subst h
    refine ⟨_, congrArg Host.Outcome.next (State.access_eq hw _), fun d _ => ?_⟩
    exact (congrArg (State.rd · .chStat t d) (State.startMask_none _ _ _ _)).trans (s.arrived_rd_chStat _ _ _ _ _)
  case stop =>
    have unarmed : (s.arrived .tileStop t 0).flag .tileStartArm 8 t = false := ((arrived _ _ _).flag .tileStartArm _ _ _).trans ha
    obtain ⟨still, count⟩ := State.stopMask_stops (s := s.arrived .tileStop t 0) (t := t) (c := c) (mask := mask.toNat) (by rwa [named])
      ((s.arrived_running _ _ _ _ _).trans hr) ((s.arrived .tileStop t 0).nextNs t)
    refine ⟨_, congrArg Host.Outcome.next ((State.access_eq hw _).trans (State.stopTile_unarmed unarmed _)), still, ?_⟩
    exact count.trans ((arrived _ _ _).rd .chCount _ _)
  case arm =>
    have small : mask.toNat % 256 = mask.toNat := Nat.mod_eq_of_lt mask.isLt
    have time : (s.arrived .tileStartArm t 0).armTime t = s.armTime t := by
      unfold State.armTime
      rw [(arrived _ _ _).rd .tileStartAtLo, (arrived _ _ _).rd .tileStartAtHi]
    have early : mask.toNat % 256 = 0 ∨ (s.arrived .tileStartArm t 0).nextNs t ≤ nsOf ((s.arrived .tileStartArm t 0).armTime t) := by
      rw [time]
      exact h.imp_left fun e => by rw [e]; rfl
    have none : (mask.toNat = 0) = (mask = 0) := propext (BitVec.toNat_eq (y := 0#8)).symm
    refine ⟨_, congrArg Host.Outcome.next ((State.access_eq hw _).trans (State.armStart_early early)), ?_, fun d _ => ?_⟩
    · rw [State.rd_wr_self, small]
      simp only [none]
    · exact (State.running_wr _ _ _ _ _ _ _ (by decide)).trans (s.arrived_running _ _ _ _ _)
  case armedStart =>
    have go : (fun s : State => s.tileRuns t && s.flag .tileStartArm 8 t && decide (nsOf (s.armDue t) ≤ nsOf ts)) (s.reachIn t ts) = true := by
      have h : (s.tileRuns t && s.flag .tileStartArm 8 t && decide (nsOf (s.armDue t) ≤ nsOf ts)) = true := by
        rw [runs, flag, due]
        simp
      exact h
    refine ⟨_, congrArg Host.Outcome.next ((State.happens_eq hp go _).trans (if_pos due)), ?_⟩
    have fr : s.frame ((s.reachIn t ts).setFlag .tileStartArm 8 false t) [.now, .slew, .copies, .reg .tileStartArm] :=
      .setFlag (.reachIn (.refl s _))
    have named' : c.val ∈ ((s.reachIn t ts).setFlag .tileStartArm 8 false t).named t armed := by
      unfold State.named State.lead at hc ⊢
      simpa only [fr.linked, fr.bridged] using hc
    have mode' : ((s.reachIn t ts).setFlag .tileStartArm 8 false t).modeF t c = md := by
      unfold State.modeF State.lead
      rw [fr.linked, fr.bridged, fr.fld .chCtrl]
      rfl
    obtain ⟨run, count⟩ := State.startMask_starts named' ((fr.linked _ _).trans hl) ((fr.bridged _ _).trans hb) (by rwa [mode'])
      (by rwa [mode']) (by rw [mode', fr.rd .chPeriod]; exact period) ((fr.running _ _).trans hr) (nsOf ts) (fineOf (s.armTime t))
    refine ⟨run, count, (State.frame.flag (.startMask (.refl _ State.frame.startMaskParts)) .tileStartArm _ _ _).trans ?_⟩
    exact State.flag_setFlag_self _ _ _ _ _ _ (by decide)
  case commit =>
    obtain ⟨pend, ns⟩ := State.commitMask_names (s := s.arrived .tileCommit t 0) (t := t) (c := c) (mask := mask.toNat) (by rwa [named])
      ((s.arrived_running _ _ _ _ _).trans hr) ((congrArg (getB · 2) (stat _ _ _)).trans hp) ((s.arrived .tileCommit t 0).nextNs t)
    exact ⟨_, congrArg Host.Outcome.next (State.access_eq hw _), pend, ns⟩
  case spare =>
    refine ⟨_, congrArg Host.Outcome.next (State.access_eq hw _), ?_⟩
    exact (State.commitMask_spares (by rwa [named, s.arrived_running]) _).trans (stat _ _ _)

end Sys2Proof.Machine
end


section
/-! PROOFS. The SYS block and the PCIe endpoint (R8, R302, R308, R309, R312, R346). -/

namespace Sys2Proof.Machine

set_option Elab.async false

/-! ## UNIT_REQ -/

/-- What following units tell after an effect on them. -/
theorem State.withUnits_told (s : State) (us : List Nat) (f : State → State) :
    (f s).frame (s.withUnits us f) State.frame.withUnitsParts := by
  unfold State.withUnits
  exact .foldl (.each (.refl (f s) _) fun _ _ hv => .leaveHeld hv) fun _ _ hv => .ite hv (.raise hv)

/-- A supervisor's request that is accepted is kept (R309). -/
theorem State.supReq_kept {s : State} {u req : Nat} (hu : u < 148) (hf : s.fitted u = true) (hr : req < 6)
    (allowed : 1 ≤ req ∧ req ≤ 4 → unitSetAllows u req = true) : (s.supReq u req).fld .unitReq 4 3 u = req := by
  have fits : ¬(6 ≤ req ∨ (1 ≤ req ∧ req ≤ 4 ∧ (!unitSetAllows u req) = true)) := by
    rintro (h | ⟨h1, h4, no⟩)
    · omega
    · rw [allowed ⟨h1, h4⟩] at no
      cases no
  have away : ¬(148 ≤ u ∨ (!s.fitted u) = true) := by
    rw [hf]
    simp
    omega
  have stored : (s.withUnit u (·.setFld .unitReq 4 3 req u)).fld .unitReq 4 3 u = req := by
    refine ((s.withUnits_told [u] _).fld .unitReq _ _ _ _).trans ((State.fld_setFld_self _ _ _ _ _ _ _ (by decide)).trans ?_)
    exact Nat.mod_eq_of_lt (by omega)
  unfold State.supReq
  extract_lets off was kept acted
  rw [if_neg away, if_neg fits]
  refine Eq.trans ?_ stored
  exact (State.frame.fld (.heldChange (.refl acted State.frame.heldChangeParts)) .unitReq _ _ _ _).trans
    (State.frame.fld (.ite (.setUnit (.refl kept State.frame.setUnitParts)) (.refl kept _)) .unitReq _ _ _ _)

/-- A request of no meaning, or one that the unit does not allow, is counted. -/
theorem State.supReq_dropped {s : State} {u req : Nat} (hu : u < 148) (hf : s.fitted u = true)
    (no : 6 ≤ req ∨ (1 ≤ req ∧ req ≤ 4 ∧ unitSetAllows u req = false)) :
    s.supReq u req = s.accErr .supervisor (RegKey.offset ⟨.unitReq, u, 0⟩) .encoding := by
  have away : ¬(148 ≤ u ∨ (!s.fitted u) = true) := by
    rw [hf]
    simp
    omega
  unfold State.supReq
  dsimp only
  rw [if_neg away, if_pos (by simpa using no)]

theorem State.supReq_absent {s : State} {u : Nat} (h : 148 ≤ u ∨ s.fitted u = false) (req : Nat) : s.supReq u req = s := by
  unfold State.supReq
  dsimp only
  rw [if_pos (by simpa using h)]

/-! ## CLR_CNT and SYS_CMD_MBOX -/

theorem State.clrSys_unitReq (s : State) {u : Nat} (hu : u < 256) : s.clrSys.rd .unitReq u = putF (s.rd .unitReq u) 8 8 0 := by
  unfold State.clrSys
  rw [State.clr, State.rd_wr_name _ _ _ _ _ _ _ _ (by decide)]
  refine (State.each_seen (seen := fun v k => v.rd .unitReq k) (fun w => putF w 8 8 0) (fun v i => ?_) (fun v i k h => ?_) s
    List.nodup_range u).trans (if_pos (List.mem_range.mpr hu))
  · exact State.rd_wr_self _ _ _ _ _
  · exact v.rd_wr_index _ _ _ _ _ _ h

theorem State.clrSys_onlyRegs (s : State) : s.onlyRegs s.clrSys [.unitReq, .sysAccerr] :=
  .wr (.each (.refl s _) _ fun v _ => .wr (.refl v _) (by decide) _ _ _) (by decide) _ _ _

theorem State.writeCmdMbox_onlyRegs (s : State) (v : Word) : s.onlyRegs (s.writeCmdMbox v) [.sysCmdMbox] :=
  .each (.refl s _) _ fun u _ => .wr (.refl u _) (by decide) _ _ _

/-- The bits of idle pairs take the value written (R312). -/
theorem State.writeCmdMbox_flag (s : State) (v : Word) {k : Nat} (hk : k < 18) : (s.writeCmdMbox v).flag .sysCmdMbox k =
    if !s.go (inBox k) && !s.go (outBox k) && (s.repliesOf k).isEmpty then getB v k else s.flag .sysCmdMbox k := by
  have small : k < 32 := by omega
  have pairs : ∀ {l : List Nat}, l.Nodup → ∀ u : State,
      (u.each l (fun s k => s.setFlag .sysCmdMbox k (getB v k))).flag .sysCmdMbox k = if k ∈ l then getB v k else u.flag .sysCmdMbox k := by
    intro l
    induction l with
    | nil => exact fun _ _ => rfl
    | cons a r ih =>
      intro nodup u
      obtain ⟨-, nr⟩ := List.nodup_cons.mp nodup
      rw [State.each_cons, ih nr]
      by_cases e : k = a
      · subst e
        rw [if_pos List.mem_cons_self, State.flag_setFlag_self _ _ _ _ _ _ small, ite_self]
      · rw [State.flag_setFlag_off _ _ _ _ _ _ _ e]
        simp only [List.mem_cons, e, false_or]
  unfold State.writeCmdMbox
  rw [pairs (List.nodup_range.filter _)]
  simp [hk]

/-! ## The endpoint -/

/-- The MSI-X table of a vector. -/
def State.msix (s : State) (v : Nat) : Word × Word × Word × Word :=
  (s.rd .msixAddrLo v, s.rd .msixAddrHi v, s.rd .msixData v, s.rd .msixVctrl v)

/-- The MSI-X table as PERST# leaves it. -/
def State.msixCleared (s : State) : State :=
  s.each (List.range 64) (fun s v => (((s.clr .msixAddrLo v).clr .msixAddrHi v).clr .msixData v).wr .msixVctrl 1 v)

theorem State.msixCleared_msix (s : State) {v : Nat} (hv : v < 64) : s.msixCleared.msix v = (0, 0, 0, 1) := by
  refine (State.each_seen (seen := State.msix) (fun _ => (0, 0, 0, 1)) (fun u i => ?_) (fun u i k h => ?_) s List.nodup_range v).trans
    (if_pos (List.mem_range.mpr hv))
  · simp [State.msix, State.clr]
  · simp [State.msix, State.clr, State.rd_wr_index _ _ _ _ _ _ _ h]

theorem State.msixCleared_onlyRegs (s : State) :
    s.onlyRegs s.msixCleared [.msixAddrLo, .msixAddrHi, .msixData, .msixVctrl] :=
  .each (.refl s _) _ fun u _ => .wr (.wr (.wr (.wr (.refl u _) (by decide) _ _ _) (by decide) _ _ _) (by decide) _ _ _) (by decide) _ _ _

/-- The endpoint as PERST# leaves it, but for its registers. -/
def State.endpointReset (s : State) : State :=
  { s with hostLink := .reset, d3hot := false, msixOn := false, msixMask := false }.setLatch 0 0

theorem exec_perstAssert (s : State) : exec .perstAssert s = .next s.msixCleared.endpointReset := rfl

theorem State.endpointReset_rd (s : State) (n : RegName) (i j : Nat) : s.endpointReset.rd n i j = s.rd n i j := rfl

/-- Settles O27, register by register; the vectors of a trained link are those of `issueVectors_spec`. -/
theorem systemAndEndpoint : Obligations.SystemAndEndpoint := by
  unfold Obligations.SystemAndEndpoint
  intro m unit req v s hp idle
  have sup : exec (.supReqWrite unit req) s = .next (s.tick.supReq unit req.toNat) :=
    congrArg Host.Outcome.next (State.onBus_eq hp _)
  have fitted : s.tick.fitted unit = s.fitted unit := State.frame.fitted (.tick (.refl s [.now, .slew])) _
  refine ⟨fun hu hf hr allowed => ?kept, fun hu hf no => ?dropped, fun h => ?absent, fun hw => ?clear, fun hw => ?mailboxes, ?assert, ?release,
    fun hl up => ?trained⟩
  case kept => exact ⟨_, sup, State.supReq_kept hu (fitted.trans hf) hr allowed⟩
  case dropped =>
    refine ⟨_, sup.trans (congrArg _ (State.supReq_dropped hu (fitted.trans hf) no)), ?_, ?_⟩
    · refine (State.frame.rd (.accErr (.refl s.tick State.frame.accErrParts)) .unitReq _ _).trans (s.tick_rd _ _ _)
    · exact (s.tick.accErr_counted _ _ (by decide) (by decide)).1.trans (by rw [State.tick_fld])
  case absent => exact sup.trans (congrArg _ (State.supReq_absent (h.imp_right fitted.trans) _))
  case clear =>
    refine ⟨_, congrArg Host.Outcome.next (State.access_eq hw _), State.clrSys_onlyRegs _, State.rd_wr_self _ _ _ _ _, fun u hu => ?_⟩
    have seen := (s.arrived .sysCtrl 0 0).clrSys_unitReq hu
    have same : (s.arrived .sysCtrl 0 0).rd .unitReq u = s.rd .unitReq u := (s.arrived_frame _ _ _).rd .unitReq _ _
    unfold State.fld
    rw [seen, same]
    exact ⟨getF_putF_same _ _ _ _ (by decide), getF_putF_off _ _ _ _ _ _ (by decide)⟩
  case mailboxes =>
    refine ⟨_, congrArg Host.Outcome.next (State.access_eq hw _), State.writeCmdMbox_onlyRegs _ _, fun k hk => ?_⟩
    have fr := s.arrived_frame .sysCmdMbox 0 0
    refine (State.writeCmdMbox_flag _ v hk).trans ?_
    unfold State.go State.repliesOf
    rw [fr.flag .mbCtrl, fr.flag .mbCtrl, fr.flag .sysCmdMbox, (fr .replies (by decide) : _ = s.replies)]
    rfl
  case assert =>
    have table := fun i hi => s.msixCleared_msix (v := i) hi
    refine ⟨_, exec_perstAssert s, rfl, rfl, rfl, State.latchOf_setLatch _ _ _, fun i hi => ?_, fun n i j hn => ?_⟩
    · simpa [State.msix, State.endpointReset_rd] using table i hi
    · exact (s.msixCleared.endpointReset_rd n i j).trans (s.msixCleared_onlyRegs.keeps n i j hn)
  case release =>
    by_cases h : s.hostLink = .reset
    · exact ⟨_, congrArg Host.Outcome.next (if_pos h), (if_pos h).symm, rfl, rfl⟩
    · exact ⟨_, congrArg Host.Outcome.next (if_neg h), (if_neg h).symm, rfl, rfl⟩
  case trained =>
    have run : exec .pcieLinkTrained s = .next (((List.range 64).filter (fun v => s.flag .vecStat 31 v)).foldl State.issueVector
        { s with hostLink := .up, d3hot := false, wakePin := false }) := by
      refine congrArg Host.Outcome.next (if_neg ?_)
      rw [up]
      simp [hl]
      omega
    obtain ⟨only, -, sent, -, -⟩ := State.issueVectors_spec ((List.range 64).filter (fun v => s.flag .vecStat 31 v))
      { s with hostLink := .up, d3hot := false, wakePin := false }
    refine ⟨_, run, ?_, ?_, fun on unmasked awake i hi pend clear => ?_⟩
    · rw [only.1]
    · rw [only.1]
    · refine sent i (by simp [hi, pend]) ?_
      show (s.msixOn && !s.msixMask && !s.flag .msixVctrl 0 i && !false && (HostLink.up == .up || HostLink.up == .l1)) = true
      rw [on, unmasked, clear]
      rfl

end Sys2Proof.Machine
end


section
/-! PROOFS. Captures, pins, Courses and islands (R17, R42, R66 to R68, R80, R84, R115, R234, R388). -/

namespace Sys2Proof.Machine

set_option Elab.async false

/-! ## Edges -/

theorem State.each_same {α : Type} (seen : State → α) {f : State → Nat → State} (hf : ∀ u a, seen (f u a) = seen u) (s : State)
    (as : List Nat) : seen (s.each as f) = seen s := State.foldl_seen seen hf s as

/-- A pad's level is taken, and of the trips only what they accepted is dropped. -/
theorem State.setPin_seen {α : Type} (seen : State → α) (hs : ∀ (u : State) k x, seen (u.setTrip k x) = seen u) (s : State) (p : Nat)
    (level : Bool) : seen (s.setPin p level) = seen { s with pinIn := s.pinIn.set false p level } := by
  unfold State.setPin State.dropTrips
  refine State.each_same seen (fun u i => ?_) _ _
  by_cases h : ((u.trip (16 * (p / 32) + i)).accepted && !u.tripIn (8 * (p / 32) + i / 2) (i % 2 == 1)) = true
  · exact (congrArg seen (if_pos h)).trans (hs _ _ _)
  · exact congrArg seen (if_neg h)

theorem State.setPin_regs (s : State) (p : Nat) (level : Bool) : (s.setPin p level).regs = s.regs :=
  s.setPin_seen (·.regs) (fun _ _ _ => rfl) p level

theorem State.setPin_pinIn (s : State) (p : Nat) (level : Bool) : (s.setPin p level).pinIn = s.pinIn.set false p level :=
  s.setPin_seen (·.pinIn) (fun _ _ _ => rfl) p level

section
variable {s : State} {con : Consumer} {lv : Bool} {since ts : Stamp}

/-- The pad of a consumer at a new level, at the time of its filter's judgement. -/
def State.padAt (s : State) (con : Consumer) (lv : Bool) (ts : Stamp) : State :=
  (s.reachIn (consumerIsland con) ts).setPin (s.consumerPin con) lv

theorem State.padAt_frame (s : State) (con : Consumer) (lv : Bool) (ts : Stamp) : s.frame (s.padAt con lv ts) [.now, .pinIn, .trips] :=
  .setPin (.reachIn (.refl s _))

theorem State.frame.consumerPin {s u : State} {l : List StatePart} (h : s.frame u l) (con : Consumer) (hc : .reg .chCtrl ∉ l := by decide)
    (hd : .reg .domIn ∉ l := by decide) (hp : .reg .phmCtrl ∉ l := by decide) : u.consumerPin con = s.consumerPin con := by
  cases con with
  | capture g => exact congrArg (32 * (tileOf g / 8) + ·) (h.fld .chCtrl _ _ _ _ hc)
  | primary d => exact h.fld .domIn _ _ _ _ hd
  | phase d => exact h.fld .domIn _ _ _ _ hd
  | phm d i => exact h.fld .phmCtrl _ _ _ _ hp

/-- The stamp that waits with an edge: a capture keeps the instant until it lands (R66). -/
def edgeTold (con : Consumer) (since : Stamp) (trim : Int) : Stamp := match con with
  | .capture _ => since
  | _ => trimmedBy since trim

/-- What an edge that is not taken leaves: the pad. -/
theorem exec_filter_refuses (h : (s.padAt con lv ts).takes con lv = false ∨ ¬since.toNat + 16 * (s.padAt con lv ts).filterNs con ≤ ts.toNat) :
    exec (.inputFilterAccept con lv since ts) s = .next (s.padAt con lv ts) := by
  have no : (!(s.padAt con lv ts).takes con lv || decide (ts.toNat < since.toNat + 16 * (s.padAt con lv ts).filterNs con)) = true := by
    rcases h with h | h
    · rw [h, Bool.not_false, Bool.true_or]
    · rw [decide_eq_true (Nat.not_le.mp h), Bool.or_true]
  exact congrArg Host.Outcome.next (if_pos no)

variable (takes : (s.padAt con lv ts).takes con lv = true) (stood : since.toNat + 16 * (s.padAt con lv ts).filterNs con ≤ ts.toNat)

include takes stood

theorem filter_lets : ¬(!(s.padAt con lv ts).takes con lv || decide (ts.toNat < since.toNat + 16 * (s.padAt con lv ts).filterNs con)) = true := by
  rw [takes, decide_eq_false (Nat.not_lt.mpr stood)]
  decide

theorem exec_filter_keeps (free : ∀ q, con = .capture q → (s.chan q).capNs = 0 ∨ (s.chan q).capNs ≠ nsOf since) :
    ∃ f : Chan → Chan, ∃ g : Nat, exec (.inputFilterAccept con lv since ts) s = .next (((s.padAt con lv ts).setEdges (consumerIx con)
        ((s.padAt con lv ts).edgesOf (consumerIx con) ++ [(edgeTold con since ((s.padAt con lv ts).pinTrim
          ((s.padAt con lv ts).consumerPin con)), lv)])).onChan g f) ∨
      exec (.inputFilterAccept con lv since ts) s = .next ((s.padAt con lv ts).setEdges (consumerIx con)
        ((s.padAt con lv ts).edgesOf (consumerIx con) ++ [(edgeTold con since ((s.padAt con lv ts).pinTrim
          ((s.padAt con lv ts).consumerPin con)), lv)])) := by
  have go := filter_lets takes stood
  cases con with
  | capture g =>
    have first : ¬(((s.padAt (.capture g) lv ts).chan g).capNs = nsOf since ∧ ((s.padAt (.capture g) lv ts).chan g).capNs ≠ 0) := by
      rw [(s.padAt_frame _ _ _).chan]
      rcases free g rfl with h | h
      · exact fun both => both.2 h
      · exact fun both => h both.1
    exact ⟨_, g, .inl (congrArg Host.Outcome.next ((if_neg go).trans (if_neg first)))⟩
  | primary d => exact ⟨id, 0, .inr (congrArg Host.Outcome.next (if_neg go))⟩
  | phase d => exact ⟨id, 0, .inr (congrArg Host.Outcome.next (if_neg go))⟩
  | phm d i => exact ⟨id, 0, .inr (congrArg Host.Outcome.next (if_neg go))⟩

/-- An edge that is taken waits behind the others of its consumer. -/
theorem exec_filter_takes (free : ∀ q, con = .capture q → (s.chan q).capNs = 0 ∨ (s.chan q).capNs ≠ nsOf since) :
    ∃ u, exec (.inputFilterAccept con lv since ts) s = .next u ∧ u.regs = s.regs ∧ u.pinIn = (s.padAt con lv ts).pinIn ∧
      u.edges = s.edges.set [] (consumerIx con) (s.edgesOf (consumerIx con) ++
        [(edgeTold con since ((s.padAt con lv ts).pinTrim (s.consumerPin con)), lv)]) := by
  have fr := s.padAt_frame con lv ts
  obtain ⟨f, g, acts⟩ := exec_filter_keeps takes stood free
  rw [fr.consumerPin] at acts
  have regs : (s.padAt con lv ts).regs = s.regs := State.setPin_regs _ _ _
  have edges : (s.padAt con lv ts).edges = s.edges := fr .edges (by decide)
  revert acts
  unfold State.edgesOf
  rw [edges]
  generalize s.padAt con lv ts = z at *
  rintro (acts | acts)
  · exact ⟨_, acts, regs, rfl, congrArg (SMap.set [] · _ _) edges⟩
  · exact ⟨_, acts, regs, rfl, congrArg (SMap.set [] · _ _) edges⟩

end

/-- A capture loses the second edge of one tile cycle (R68). -/
theorem exec_filter_loses {s : State} {q : Fin 512} {lv : Bool} {since ts : Stamp} (takes : (s.padAt (.capture q) lv ts).takes (.capture q) lv = true)
    (stood : since.toNat + 16 * (s.padAt (.capture q) lv ts).filterNs (.capture q) ≤ ts.toNat)
    (same : (s.chan q).capNs = nsOf since) (some : (s.chan q).capNs ≠ 0) :
    exec (.inputFilterAccept (.capture q) lv since ts) s =
      .next ((s.padAt (.capture q) lv ts).bump .chErrcnt 16 8 (tileOf q) (chOf q)) := by
  have second : ((s.padAt (.capture q) lv ts).chan q).capNs = nsOf since ∧ ((s.padAt (.capture q) lv ts).chan q).capNs ≠ 0 := by
    rw [(s.padAt_frame _ _ _).chan]
    exact ⟨same, some⟩
  exact congrArg Host.Outcome.next ((if_neg (filter_lets takes stood)).trans (if_pos second))

/-! ## Captures -/

/-- A capture in its registers (R66). -/
def State.land (s : State) (g : Nat) (e : Stamp) (up : Bool) (r : List (Stamp × Bool)) : State :=
  let t := tileOf g
  let c := chOf g
  let full := s.flag .chCapvHi 31 t c
  let gap := match (s.chan g).capPrev with
    | some e' => min 0x7FFFFFFF (nsOf e - nsOf e')
    | none => 0x7FFFFFFF
  let s := (s.onChan g (fun k => { k with capPrev := some e })).offer 2 g (toW (gap + b2n up * 2 ^ 31)) 0 e
  let s := ((s.setEdges g r).wr .chCapvLo (captureWords e up full).1 t c).wr .chCapvHi (captureWords e up full).2 t c
  let s := s.when full (·.bump .chErrcnt 24 8 t c)
  (s.bumpW .chEvcnt 0 16 t c).setFlag .chStat 7 true t c

theorem exec_captureLanding {s : State} {g : Fin 512} {ts e : Stamp} {up : Bool} {r : List (Stamp × Bool)} (hp : s.pstate < 3)
    (runs : s.tileRuns (tileOf g) = true) (edges : s.edgesOf g = (e, up) :: r) (due : nsOf e + s.filterNs (.capture g) + 3 ≤ nsOf ts) :
    exec (.captureLanding g ts) s = .next ((s.reachIn (tileOf g) ts).withSum (tileOf g) (fun z =>
      z.land g (trimmedBy e (s.edgeTrim (s.physTile (tileOf g)) (fineOf e) (s.consumerPin (.capture g)))) up r)) := by
  have waits : (s.reachIn (tileOf g) ts).edgesOf g = (e, up) :: r := edges
  refine congrArg Host.Outcome.next ((State.happens_eq hp runs _).trans ?_)
  dsimp only
  rw [waits]
  exact if_neg (Nat.not_lt.mpr due)

/-- The registers of a capture that landed. -/
theorem State.land_spec (s : State) (g : Nat) (e : Stamp) (up : Bool) (r : List (Stamp × Bool)) :
    let z := s.land g e up r
    z.rd .chCapvLo (tileOf g) (chOf g) = ns32 e ∧
    z.rd .chCapvHi (tileOf g) (chOf g) = (captureWords e up (s.flag .chCapvHi 31 (tileOf g) (chOf g))).2 ∧
    z.flag .chStat 7 (tileOf g) (chOf g) = true ∧ z.edgesOf g = r ∧
    z.fld .chEvcnt 0 16 (tileOf g) (chOf g) = (s.fld .chEvcnt 0 16 (tileOf g) (chOf g) + 1) % 65536 := by
  unfold State.land
  extract_lets t c full gap offered written
  have lost : written.frame (written.when full (·.bump .chErrcnt 24 8 t c)) [.reg .chErrcnt] := .when (.refl written _) fun _ h => .bump h
  have all : written.frame (((written.when full (·.bump .chErrcnt 24 8 t c)).bumpW .chEvcnt 0 16 t c).setFlag .chStat 7 true t c)
      [.reg .chErrcnt, .reg .chEvcnt, .reg .chStat] := .setFlag (.bumpW (.when (.refl written _) fun _ h => .bump h))
  have before : s.frame written [.chans, .lastEv, .offers, .edges, .reg .chCapvLo, .reg .chCapvHi] :=
    .wr (.wr (.setEdges (.offer (.onChan (.refl s _)))))
  refine ⟨(all.rd .chCapvLo t c).trans ?_, (all.rd .chCapvHi t c).trans (State.rd_wr_self _ _ _ _ _), State.flag_setFlag_self _ _ _ _ _ _ (by decide),
    ?_, ?_⟩
  · exact (State.rd_wr_name _ _ _ _ _ _ _ _ (by decide)).trans (State.rd_wr_self _ _ _ _ _)
  · have edges : _ = written.edges := all .edges (by decide)
    exact (congrArg (SMap.at [] · g) edges).trans (SMap.at_set_self _ _ _ _)
  · refine (congrArg (getF · 0 16) (State.rd_wr_name _ _ _ _ _ _ _ _ (by decide))).trans ?_
    refine (State.fld_bumpW_self _ _ _ _ _ _ _ (by decide)).trans ?_
    exact congrArg (fun v => (v + 1) % 65536) ((lost.fld .chEvcnt _ _ _ _).trans (before.fld .chEvcnt _ _ _ _))

/-! ## Pads of a Course -/

/-- A map after a value for each of the keys listed. -/
theorem SMap.at_foldl_set {α : Type} [DecidableEq α] (d : α) (m : SMap α) (ks : List Nat) (v : Nat → α) (k : Nat) :
    SMap.at d (ks.foldl (fun m p => m.set d p (v p)) m) k = if k ∈ ks then v k else SMap.at d m k := by
  induction ks generalizing m with
  | nil => rfl
  | cons a r ih =>
    rw [List.foldl_cons, ih]
    by_cases hr : k ∈ r
    · rw [if_pos hr, if_pos (List.mem_cons_of_mem _ hr)]
    · rw [if_neg hr]
      by_cases ha : k = a
      · subst ha
        rw [SMap.at_set_self, if_pos List.mem_cons_self]
      · rw [SMap.at_set_ne _ _ _ _ _ ha, if_neg (by simp [ha, hr])]

theorem State.closePads_padHold (s : State) {ps : List Nat} {p : Nat} (hp : p ∈ ps) :
    (s.closePads ps).padHold.at none p = some (s.pinDrive p) :=
  (SMap.at_foldl_set none s.padHold ps (fun p => some (s.pinDrive p)) p).trans (if_pos hp)

theorem State.openPads_padHold (s : State) {ps : List Nat} {p : Nat} (hp : p ∈ ps) : (s.openPads ps).padHold.at none p = none :=
  (SMap.at_foldl_set none s.padHold ps (fun _ => none) p).trans (if_pos hp)

/-- A Course powered down: its pads keep what they drive (R84, R234). -/
def State.coursePoweredDown (s : State) (k : Nat) : State :=
  ((s.closePads ((coursePins k).filter (fun p => s.fld .pmPin 6 2 p == 1))).setFlag .pmBank 2 true k).setFlag .govIsl (8 + k) true

theorem State.coursePoweredDown_spec (s : State) (k : Nat) (hk : k < 8) :
    let u := s.withUnits (courseUnits k) (·.coursePoweredDown k)
    u.flag .pmBank 2 k = true ∧ u.flag .govIsl (8 + k) = true ∧
      ∀ p ∈ coursePins k, s.fld .pmPin 6 2 p = 1 → u.padHold.at none p = some (s.pinDrive p) := by
  intro u
  have told := s.withUnits_told (courseUnits k) (·.coursePoweredDown k)
  refine ⟨(told.flag .pmBank 2 _ _).trans ?_, (told.flag .govIsl (8 + k) _ _).trans (State.flag_setFlag_self _ _ _ _ _ _ (by omega)), fun p hp out => ?_⟩
  · exact (State.flag_setFlag_name _ (by decide) _ _ _ _ _ _ _).trans (State.flag_setFlag_self _ _ _ _ _ _ (by decide))
  · have kept : _ = (s.coursePoweredDown k).padHold := told .padHold (by decide)
    refine (congrArg (SMap.at none · p) kept).trans (s.closePads_padHold (List.mem_filter.mpr ⟨hp, ?_⟩))
    rw [out]
    rfl

theorem exec_coursePowerDown {s : State} {k : Fin 8} {ts : Stamp} (hp : s.pstate < 3) (hk : k.val < s.courses) (on : s.flag .govCtrl 1 = true)
    (up : s.flag .pmBank 2 k = false) (idle : s.courseIdle k = true) (due : (s.courseAt.at 0 k).toNat + 160000 ≤ ts.toNat) :
    exec (.coursePowerDown k ts) s = .next ((s.reachIn islFabric ts).withUnits (courseUnits k) (·.coursePoweredDown k)) := by
  have go : (decide (k.val < s.courses) && s.flag .govCtrl 1 && !s.flag .pmBank 2 k && s.courseIdle k &&
      decide ((s.courseAt.at 0 k).toNat + 160000 ≤ ts.toNat)) = true := by
    rw [decide_eq_true hk, on, up, idle, decide_eq_true due]
    rfl
  exact congrArg Host.Outcome.next (State.happens_eq hp go _)

/-- A Course powered up, before its units tell (R234). -/
def State.coursePoweredUp (s : State) (k : Nat) : State :=
  ((((s.each (List.range 8) (fun s i => s.setAhead (8 * k + i) 0)).setFlag .pmBank 2 false k).setFlag .govIsl (8 + k) false).bumpW
    .govWakeCnt 16 16).openPads (coursePins k)

theorem State.coursePoweredUp_spec (s : State) {k : Nat} (hk : k < 8) :
    (s.coursePoweredUp k).flag .pmBank 2 k = false ∧ (s.coursePoweredUp k).flag .govIsl (8 + k) = false ∧
      (s.coursePoweredUp k).fld .govWakeCnt 16 16 = (s.fld .govWakeCnt 16 16 + 1) % 65536 ∧
      ∀ p ∈ coursePins k, (s.coursePoweredUp k).padHold.at none p = none := by
  unfold State.coursePoweredUp
  generalize ahead : s.each (List.range 8) (fun s i => s.setAhead (8 * k + i) 0) = a
  have kept : s.frame a [.copies] := ahead ▸ .each (.refl s _) fun _ _ h => .setAhead h
  have bank : (a.setFlag .pmBank 2 false k).frame ((((a.setFlag .pmBank 2 false k).setFlag .govIsl (8 + k) false).bumpW
    .govWakeCnt 16 16).openPads (coursePins k)) [.reg .govIsl, .reg .govWakeCnt, .padHold] := .openPads (.bumpW (.setFlag (.refl _ _)))
  refine ⟨(bank.flag .pmBank _ _ _).trans (State.flag_setFlag_self _ _ _ _ _ _ (by decide)), ?_, ?_, fun p hp => State.openPads_padHold _ hp⟩
  · have isl : ((a.setFlag .pmBank 2 false k).setFlag .govIsl (8 + k) false).frame ((((a.setFlag .pmBank 2 false k).setFlag .govIsl (8 + k)
      false).bumpW .govWakeCnt 16 16).openPads (coursePins k)) [.reg .govWakeCnt, .padHold] := .openPads (.bumpW (.refl _ _))
    exact (isl.flag .govIsl _ _ _).trans (State.flag_setFlag_self _ _ _ _ _ _ (by omega))
  · have count : s.frame ((a.setFlag .pmBank 2 false k).setFlag .govIsl (8 + k) false) [.copies, .reg .pmBank, .reg .govIsl] :=
      .setFlag (.setFlag (kept.mono (by decide)))
    have bumped := State.fld_bumpW_self ((a.setFlag .pmBank 2 false k).setFlag .govIsl (8 + k) false) .govWakeCnt 16 16 0 0 1 (by decide)
    rw [count.fld .govWakeCnt] at bumped
    exact (State.frame.fld (.openPads (.refl _ [.padHold])) .govWakeCnt _ _ _ _).trans bumped

/-- A Course powers up: its tile islands run again and its pads are released (R234). -/
theorem State.powerUpCourse_spec {s : State} {k : Nat} (hk : k < 8) (down : s.flag .pmBank 2 k = true) :
    (s.powerUpCourse k).flag .pmBank 2 k = false ∧ (s.powerUpCourse k).flag .govIsl (8 + k) = false ∧
      (s.powerUpCourse k).fld .govWakeCnt 16 16 = (s.fld .govWakeCnt 16 16 + 1) % 65536 ∧
      ∀ p ∈ coursePins k, (s.powerUpCourse k).padHold.at none p = none := by
  have acts : s.powerUpCourse k = s.wakeUp.withUnits (courseUnits k) (·.coursePoweredUp k) := if_neg (by simp [down])
  have told := s.wakeUp.withUnits_told (courseUnits k) (·.coursePoweredUp k)
  obtain ⟨bank, isl, count, pads⟩ := s.wakeUp.coursePoweredUp_spec hk
  have pad : (s.wakeUp.withUnits (courseUnits k) (·.coursePoweredUp k)).padHold = (s.wakeUp.coursePoweredUp k).padHold :=
    told .padHold (by decide)
  rw [acts]
  refine ⟨(told.flag .pmBank _ _ _).trans bank, (told.flag .govIsl _ _ _).trans isl, (told.fld .govWakeCnt _ _ _ _).trans (count.trans ?_),
    fun p hp => (congrArg (SMap.at none · p) pad).trans (pads p hp)⟩
  rw [State.frame.fld (.wakeUp (.refl s [.waking])) .govWakeCnt]

theorem State.wakeIsland_woken {s : State} {b : Nat} (hb : b < 32) (down : s.flag .govIsl b = true) :
    (s.wakeIsland b).flag .govIsl b = false ∧ (s.wakeIsland b).fld .govWakeCnt 0 16 = (s.fld .govWakeCnt 0 16 + 1) % 65536 ∧
      s.wakeUp.onlyRegs (s.wakeIsland b) [.govIsl, .govWakeCnt] := by
  have acts : s.wakeIsland b = (s.wakeUp.setFlag .govIsl b false).bumpW .govWakeCnt 0 16 := if_pos down
  rw [acts]
  refine ⟨(congrArg (getB · b) (State.rd_wr_name _ _ _ _ _ _ _ _ (by decide))).trans (State.flag_setFlag_self _ _ _ _ _ _ hb),
    (State.fld_bumpW_self _ _ _ _ _ _ _ (by decide)).trans ?_, .wr (.wr (.refl _ _) (by decide) _ _ _) (by decide) _ _ _⟩
  have kept : s.frame (s.wakeUp.setFlag .govIsl b false) [.waking, .reg .govIsl] := .setFlag (.wakeUp (.refl s _))
  exact congrArg (fun v => (v + 1) % 65536) (kept.fld .govWakeCnt _ _ _ _)

/-! ## The rows -/

/-- The acknowledging read of a capture: its words, and FULL and OVERRUN cleared (R67). -/
theorem State.ackRead_spec (s : State) (m : Master) (t c : Nat) :
    let u := (s.linkedRead m (s.rd .chCapvLo t c) (s.rd .chCapvHi t c)).ackCapture t c
    u.readOf (masterIx m) = s.rd .chCapvLo t c ∧ u.latchOf (masterIx m) = s.rd .chCapvHi t c ∧ u.fld .chCapvHi 30 2 t c = 0 ∧
      u.rd .chCapvLo t c = s.rd .chCapvLo t c := by
  intro u
  have kept : (s.linkedRead m (s.rd .chCapvLo t c) (s.rd .chCapvHi t c)).frame u [.reg .chCapvHi] := .setFlag (.setFlag (.refl _ _))
  refine ⟨?_, ?_, ?_, kept.rd .chCapvLo _ _⟩
  · exact (congrArg (SMap.at 0 · (masterIx m)) (kept .lastRead (by decide))).trans (SMap.at_set_self _ _ _ _)
  · exact (congrArg (SMap.at 0 · (masterIx m)) (kept .latch (by decide))).trans (SMap.at_set_self _ _ _ _)
  · have cleared : u.rd .chCapvHi t c = putB (putB (s.rd .chCapvHi t c) 31 false) 30 false := by
      refine (State.rd_wr_self _ _ _ _ _).trans (congrArg (putB · 30 false) ?_)
      exact State.rd_wr_self _ _ _ _ _
    unfold State.fld
    rw [cleared, getF_add _ 30 1 1, getF_bit, getF_bit, getB_putB_self _ _ _ (by decide), getB_putB_off _ _ _ _ (by decide),
      getB_putB_self _ _ _ (by decide)]
    rfl

/-- Settles O31: an edge at its filter, a capture at its registers, then pins, Courses and islands. -/
theorem capturesAndPins : Obligations.CapturesAndPins := by
  unfold Obligations.CapturesAndPins
  intro m g con lv pin course isl v since ts s hp t c ix pin0 z stood told
  refine ⟨exec_filter_refuses, fun ht hs free => ?takes, fun q hq ht hs same some => ?loses, fun e up r runs waits due => ?lands,
    fun ht => ?acks, fun hw ok => ?stored, fun hw bad => ?dropped, fun hk on up idle due => ?down, fun down => ?up, fun up => ?upAlready,
    fun down => ?wakes, fun hk => ?supply⟩
  case takes =>
    obtain ⟨u, acts, regs, pad, edges⟩ := exec_filter_takes ht hs free
    refine ⟨u, acts, ?_, regs, fun j hj => ?_, ?_⟩
    · have same : edgeTold con since (z.pinTrim pin0) = told := by
        cases con <;> rfl
      rw [← same]
      exact (congrArg (SMap.at [] · ix) edges).trans (SMap.at_set_self _ _ _ _)
    · exact (congrArg (SMap.at [] · j) edges).trans (SMap.at_set_ne _ _ _ _ _ hj)
    · exact (congrArg (SMap.at false · pin0) (pad.trans (State.setPin_pinIn _ _ _))).trans (SMap.at_set_self _ _ _ _)
  case loses =>
    subst hq
    have fr := s.padAt_frame (.capture q) lv ts
    have counted : s.frame ((s.padAt (.capture q) lv ts).bump .chErrcnt 16 8 (tileOf q) (chOf q)) [.now, .pinIn, .trips, .reg .chErrcnt] :=
      .bump (fr.mono (by decide))
    refine ⟨_, exec_filter_loses ht hs same some, counted .edges (by decide), (State.fld_bump_self _ _ _ _ _ _ (by decide)).trans ?_⟩
    exact congrArg (fun v => min 255 (v + 1)) (fr.fld .chErrcnt _ _ _ _)
  case lands =>
    obtain ⟨lo, hi, full, edges, count⟩ := (s.reachIn (tileOf g) ts).land_spec g
      (trimmedBy e (s.edgeTrim (s.physTile (tileOf g)) (fineOf e) (s.consumerPin (.capture g)))) up r
    have tells := (s.reachIn (tileOf g) ts).withSum_frame (tileOf g) (fun z =>
      z.land g (trimmedBy e (s.edgeTrim (s.physTile (tileOf g)) (fineOf e) (s.consumerPin (.capture g)))) up r)
    refine ⟨_, exec_captureLanding hp runs waits due, (tells.rd .chCapvLo _ _).trans lo, (tells.rd .chCapvHi _ _).trans hi,
      (tells.flag .chStat _ _ _).trans full, ?_, (tells.fld .chEvcnt _ _ _ _).trans count⟩
    exact (congrArg (SMap.at [] · g.val) (tells .edges (by decide))).trans edges
  case acks =>
    have woken : s.frame (s.tick.wakeFor t) ([.now, .slew] ++ wokenParts) := .add (.tick (.refl s _)) (by decide) (State.wakeFor_woken _ _)
    obtain ⟨lo, hi, flags, kept⟩ := (s.tick.wakeFor t).ackRead_spec m t c
    refine ⟨_, congrArg Host.Outcome.next ((if_neg (Nat.not_le.mpr ht)).trans (State.onBus_eq hp _)), ?_, ?_, flags, ?_⟩
    · exact lo.trans (woken.rd .chCapvLo _ _)
    · exact hi.trans (woken.rd .chCapvHi _ _)
    · exact kept.trans (woken.rd .chCapvLo _ _)
  case stored =>
    have freed := State.frame.freePins (ps := [pin.val]) (.refl ((s.arrived .pmPin pin 0).wr .pmPin (v &&& 0x3F7FFF) pin) [.pinStill])
    refine ⟨_, congrArg Host.Outcome.next ((State.access_eq hw _).trans (if_pos ok)), ?_, fun p hne => ?_⟩
    · exact (freed.rd .pmPin _ _).trans (State.rd_wr_self _ _ _ _ _)
    · exact (freed.rd .pmPin _ _).trans ((State.rd_wr_index _ _ _ _ _ _ _ hne).trans ((s.arrived_woken _ _ _).rd .pmPin _ _))
  case dropped =>
    have woken := s.arrived_woken .pmPin pin 0
    refine ⟨_, congrArg Host.Outcome.next ((State.access_eq hw _).trans (if_neg (by simp [bad]))), fun p => ?_, ?_⟩
    · exact (State.frame.rd (.accErr (.refl (s.arrived .pmPin pin 0) State.frame.accErrParts)) .pmPin _ _).trans (woken.rd .pmPin _ _)
    · refine ((s.arrived .pmPin pin 0).accErr_counted _ _ (by decide) (by decide)).1.trans ?_
      rw [woken.fld .sysAccerr]
  case down =>
    obtain ⟨bank, isl, pads⟩ := (s.reachIn islFabric ts).coursePoweredDown_spec course course.isLt
    exact ⟨_, exec_coursePowerDown hp hk on up idle due, bank, isl, pads⟩
  case up => exact ⟨_, rfl, State.powerUpCourse_spec course.isLt down⟩
  case upAlready => exact congrArg Host.Outcome.next (if_pos (by simp [up]))
  case wakes => exact ⟨_, rfl, State.wakeIsland_woken (by omega) down⟩
  case supply =>
    refine ⟨_, congrArg Host.Outcome.next (if_pos hk), State.flag_setFlag_self _ _ _ _ _ _ (by decide), ?_⟩
    exact .wr (.refl s _) (by decide) _ _ _

end Sys2Proof.Machine
end


section
/-! PROOFS. Bridge pairs and trips (R99 to R109). -/

namespace Sys2Proof.Machine

set_option Elab.async false

/-! ## Sides -/

namespace State.frame

variable {s u : State} {l : List StatePart}

theorem trip (h : s.frame u l) (k : Nat) (hn : .trips ∉ l := by decide) : u.trip k = s.trip k := by
  unfold State.trip
  rw [(h .trips hn : u.trips = s.trips)]

theorem bridge (h : s.frame u l) (k : Nat) (hn : .bridges ∉ l := by decide) : u.bridge k = s.bridge k := by
  unfold State.bridge
  rw [(h .bridges hn : u.bridges = s.bridges)]

end State.frame

section
variable (s : State) (t p : Nat)

theorem sideBit_lt (high : Bool) : sideBit high < 32 := by
  cases high <;> decide

theorem sideBit_high (high : Bool) : 24 ≤ sideBit high := by
  cases high <;> decide

theorem sideBit_ne (high : Bool) : sideBit (!high) ≠ sideBit high := by
  cases high <;> decide

theorem State.setSide_rd (high on : Bool) (e : Stamp) : (s.setSide t p high on e).rd .brStat t p =
    if s.sideOn t p high = on then s.rd .brStat t p else putB (s.rd .brStat t p) (sideBit high) on := by
  unfold State.setSide
  by_cases h : s.sideOn t p high = on
  · rw [if_pos (beq_iff_eq.mpr h), if_pos h]
  · rw [if_neg (fun e => h (beq_iff_eq.mp e)), if_neg h]
    exact (State.frame.rd (.blank (.refl _ State.frame.blankParts)) .brStat _ _).trans (State.rd_wr_self _ _ _ _ _)

theorem State.setSide_bridge (high on : Bool) (e : Stamp) (k : Nat) : (s.setSide t p high on e).bridge k = s.bridge k :=
  State.frame.bridge (.setSide (.refl s State.frame.setSideParts)) k

theorem State.setSide_own (high on : Bool) (e : Stamp) : (s.setSide t p high on e).sideOn t p high = on := by
  unfold State.sideOn State.flag
  rw [s.setSide_rd]
  split
  next h => exact h
  next => exact getB_putB_self _ _ _ (sideBit_lt high)

theorem State.setSide_other (high on : Bool) (e : Stamp) : (s.setSide t p high on e).sideOn t p (!high) = s.sideOn t p (!high) := by
  unfold State.sideOn State.flag
  rw [s.setSide_rd]
  split
  · rfl
  · exact getB_putB_off _ _ _ _ (sideBit_ne high)

/-- A side leaves the counts of BR_STAT. -/
theorem State.setSide_fld (high on : Bool) (e : Stamp) {lo len : Nat} (h : lo + len ≤ 24) :
    (s.setSide t p high on e).fld .brStat lo len t p = s.fld .brStat lo len t p := by
  unfold State.fld
  rw [s.setSide_rd]
  have := sideBit_high high
  split
  · rfl
  · exact getF_putB_off _ _ _ _ _ (.inr (by omega))

/-- A count of BR_STAT leaves the sides. -/
theorem State.bump_sideOn {lo len : Nat} (h : lo + len ≤ 24) (q : Bool) : (s.bump .brStat lo len t p).sideOn t p q = s.sideOn t p q := by
  unfold State.sideOn State.flag State.bump
  have := sideBit_high q
  rw [State.rd_wr_self, getB_addSat_off _ _ _ _ _ (.inr (by omega))]

theorem State.bridge_setBridge (k : Nat) (b : Bridge) : (s.setBridge k b).bridge k = b := SMap.at_set_self _ _ _ _

theorem State.setBridge_nextCommand (k : Nat) (b : Bridge) (c : Nat) (want : Bool) (w : Nat) :
    (s.setBridge k b).nextCommand t c want w = s.nextCommand t c want w := rfl

end

/-! ## Dead times -/

section
variable {s : State} {t : Fin 64} {p : Fin 4} {ts w : Stamp} {hi : Bool} (hp : s.pstate < 3) (runs : s.tileRuns t = true)
include hp runs

section
variable (pair : s.bridged t (2 * p) = true) (due : (s.bridge (4 * t + p)).due = some (hi, w))
  (noExt : (s.bridge (4 * t + p)).ext = none) (elapsed : w.toNat ≤ ts.toNat)
include pair due noExt elapsed

/-- A side whose dead time is over rises where no command to fall comes (R100). -/
theorem exec_deadTime_rises (stays : s.nextCommand t (2 * p) (!hi) w.toNat = none) : exec (.deadTimeExpiry t p ts) s =
    .next ((((s.reachIn t ts).setBridge (4 * t + p) { s.bridge (4 * t + p) with due := none }).setBridge (4 * t + p)
      { s.bridge (4 * t + p) with due := none, roseAt := w }).setSide t p hi true w) := by
  have go : (s.tileRuns t && s.bridged t (2 * p)) = true := by rw [runs, pair, Bool.and_self]
  refine congrArg Host.Outcome.next ((State.happens_eq hp go _).trans ?_)
  have waits : ((s.reachIn t ts).bridge (4 * t + p)).due = some (hi, w) := due
  have ends : ¬(ts.toNat < w.toNat ∨ ((s.reachIn t ts).bridge (4 * t + p)).ext.isSome = true) := by
    rw [show ((s.reachIn t ts).bridge (4 * t + p)).ext = none from noExt]
    simp [elapsed]
  have next : ∀ b, ((s.reachIn t ts).setBridge (4 * t + p) b).nextCommand t (2 * p) (!hi) w.toNat = none := fun _ => stays
  dsimp only
  rw [waits]
  dsimp only
  rw [if_neg ends, next]
  exact if_pos rfl

/-- A pulse that would end before its minimum is left out, and counted (R101). -/
theorem exec_deadTime_absent {e : Nat} (falls : s.nextCommand t (2 * p) (!hi) w.toNat = some e)
    (short : e < w.toNat + max 1 ((s.bridge (4 * t + p)).minpw.toNat % 65536)) : exec (.deadTimeExpiry t p ts) s =
    .next (((s.reachIn t ts).setBridge (4 * t + p) { s.bridge (4 * t + p) with due := none }).absent t p hi) := by
  have go : (s.tileRuns t && s.bridged t (2 * p)) = true := by rw [runs, pair, Bool.and_self]
  refine congrArg Host.Outcome.next ((State.happens_eq hp go _).trans ?_)
  have waits : ((s.reachIn t ts).bridge (4 * t + p)).due = some (hi, w) := due
  have ends : ¬(ts.toNat < w.toNat ∨ ((s.reachIn t ts).bridge (4 * t + p)).ext.isSome = true) := by
    rw [show ((s.reachIn t ts).bridge (4 * t + p)).ext = none from noExt]
    simp [elapsed]
  have next : ∀ b, ((s.reachIn t ts).setBridge (4 * t + p) b).nextCommand t (2 * p) (!hi) w.toNat = some e := fun _ => falls
  dsimp only
  rw [waits]
  dsimp only
  rw [if_neg ends, next]
  exact if_neg (by
    rw [decide_eq_true_eq]
    exact Nat.not_le.mpr short)

end

/-- An extended side falls (R101). -/
theorem exec_minpwExtension (ext : (s.bridge (4 * t + p)).ext = some (hi, w)) (elapsed : w.toNat ≤ ts.toNat) :
    exec (.minpwExtension t p ts) s = .next ((((s.reachIn t ts).setBridge (4 * t + p)
      { s.bridge (4 * t + p) with ext := none, fellAt := w }).setSide t p hi false w).bump .brStat 16 8 t p) := by
  refine congrArg Host.Outcome.next ((State.happens_eq hp runs _).trans ?_)
  have waits : ((s.reachIn t ts).bridge (4 * t + p)).ext = some (hi, w) := ext
  dsimp only
  rw [waits]
  exact if_neg (Nat.not_lt.mpr elapsed)

end

/-! ## Loops -/

/-- What each member of a loop keeps holds after it. -/
theorem State.each_inv {I : State → Prop} {f : State → Nat → State} {l : List Nat} {s : State} (start : I s)
    (keep : ∀ u a, a ∈ l → I u → I (f u a)) : I (s.each l f) := by
  induction l generalizing s with
  | nil => exact start
  | cons a r ih => exact ih (keep s a List.mem_cons_self start) fun u b hb => keep u b (List.mem_cons_of_mem _ hb)

/-- What one member of a loop brings about and none undoes holds after it. -/
theorem State.each_sets {I P : State → Prop} {f : State → Nat → State} {l : List Nat} {c : Nat} {s : State} (hc : c ∈ l) (start : I s)
    (keep : ∀ u a, I u → I (f u a)) (sets : ∀ u, I u → P (f u c)) (kept : ∀ u a, P u → P (f u a)) : P (s.each l f) := by
  obtain ⟨before, after, rfl⟩ := List.append_of_mem hc
  have reached : I (s.each before f) := State.each_inv start fun u a _ => keep u a
  have parts : s.each (before ++ c :: after) f = (f (s.each before f) c).each after f := List.foldl_append
  rw [parts]
  exact State.each_inv (sets _ reached) fun u a _ => kept u a

/-! ## Trips -/

namespace State.frame

variable {s u : State} {l : List StatePart}

theorem tripPin (h : s.frame u l) (t : Nat) (inB : Bool) (hn : .reg .pmTrip ∉ l := by decide) : u.tripPin t inB = s.tripPin t inB := by
  unfold State.tripPin
  dsimp only
  rw [h.flag .pmTrip _ _ _ hn, h.fld .pmTrip _ _ _ _ hn]

theorem tripCtrl (h : s.frame u l) (t : Nat) (inB : Bool) (ha : .reg .tripCtrlA ∉ l := by decide) (hb : .reg .tripCtrlB ∉ l := by decide) :
    u.tripCtrl t inB = s.tripCtrl t inB := by
  unfold State.tripCtrl
  rw [h.rd .tripCtrlA _ _ ha, h.rd .tripCtrlB _ _ hb]

theorem tripChans (h : s.frame u l) (t : Nat) (inB : Bool) (hn : .reg .tripLvl ∉ l := by decide) :
    u.tripChans t inB = s.tripChans t inB := by
  unfold State.tripChans
  simp only [h.flag .tripLvl _ _ _ hn]

theorem tripIn (h : s.frame u l) (t : Nat) (inB : Bool) (ht : .reg .pmTrip ∉ l := by decide) (ha : .reg .tripCtrlA ∉ l := by decide)
    (hb : .reg .tripCtrlB ∉ l := by decide) (hv : .variant ∉ l := by decide) (hp : .pinIn ∉ l := by decide) :
    u.tripIn t inB = s.tripIn t inB := by
  unfold State.tripIn
  rw [h.tripPin t inB ht, h.tripCtrl t inB ha hb, h.hasBridge hv, (h .pinIn hp : u.pinIn = s.pinIn)]

theorem tiles (h : s.frame u l) (hn : .variant ∉ l := by decide) : u.tiles = s.tiles := by
  unfold State.tiles
  rw [(h .variant hn : u.variant = s.variant)]

theorem frozen (h : s.frame u l) (t : Nat) (ht : .reg .tileCtrl ∉ l := by decide) (hc : .variant ∉ l := by decide)
    (he : .reg .engDbg ∉ l := by decide) : u.frozen t = s.frozen t := by
  unfold State.frozen State.engines State.halted
  simp only [h.tiles hc, h.flag .tileCtrl _ _ _ ht, h.flag .engDbg _ _ _ he]

theorem tileClock (h : s.frame u l) (t : Nat) (hs : .switching ∉ l := by decide) (ha : .stopAt ∉ l := by decide)
    (hn : .now ∉ l := by decide) (hc : .copies ∉ l := by decide) : u.tileClock t = s.tileClock t := by
  unfold State.tileClock State.clock State.ahead
  rw [(h .switching hs : u.switching = s.switching), (h .stopAt ha : u.stopAt = s.stopAt), (h .now hn : u.now = s.now),
    (h .copies hc : u.copies = s.copies)]

theorem runTime (h : s.frame u l) (a b : Nat) (hn : .stays ∉ l := by decide) : u.runTime a b = s.runTime a b := by
  unfold State.runTime
  rw [(h .stays hn : u.stays = s.stays)]

theorem stillTripped (h : s.frame u l) (t c : Nat) (inB : Bool) (hn : .reg .tripLvl ∉ l := by decide) (hx : .trips ∉ l := by decide)
    (ht : .reg .pmTrip ∉ l := by decide) (ha : .reg .tripCtrlA ∉ l := by decide)
    (hb : .reg .tripCtrlB ∉ l := by decide) (hv : .variant ∉ l := by decide) (hp : .pinIn ∉ l := by decide) :
    u.stillTripped t c inB = s.stillTripped t c inB := by
  unfold State.stillTripped State.trip
  rw [h.tripChans t inB hn, h.tripIn t inB ht ha hb hv hp, (h .trips hx : u.trips = s.trips)]

end State.frame

/-- The marks of a trip on a channel, set or cleared. -/
theorem State.tripMark_flags (s : State) (t a : Nat) (b : Bool) (f : Chan → Chan) {c : Nat} (hc : c < 32) :
    (((s.setFlag .tripStat a b t).setFlag .chStat 8 b t a).onChan (8 * t + a) f).flag .tripStat c t =
      (if c = a then b else s.flag .tripStat c t) ∧
    (((s.setFlag .tripStat a b t).setFlag .chStat 8 b t a).onChan (8 * t + a) f).flag .chStat 8 t c =
      (if c = a then b else s.flag .chStat 8 t c) := by
  unfold State.onChan State.flag
  rw [State.rd_setChan, State.rd_setChan]
  refine ⟨(congrArg (getB · c) (State.rd_wr_name _ _ _ _ _ _ _ _ (by decide))).trans ?_, ?_⟩
  · split
    next e => exact e ▸ State.flag_setFlag_self _ _ _ _ _ _ hc
    next e => exact State.flag_setFlag_off _ _ _ _ _ _ _ e
  · split
    next e => exact e ▸ State.flag_setFlag_self _ _ _ _ _ _ (by decide)
    next e =>
      refine (congrArg (getB · 8) (State.rd_wr_second _ _ _ _ _ _ _ e)).trans ?_
      exact congrArg (getB · 8) (State.rd_wr_name _ _ _ _ _ _ _ _ (by decide))

theorem State.latchTrips_sets (s : State) (t : Nat) (inB : Bool) {c : Nat} (hc : c ∈ s.tripChans t inB) :
    (s.latchTrips t inB).flag .tripStat c t = true ∧ (s.latchTrips t inB).flag .chStat 8 t c = true := by
  have hc8 : c < 32 := by
    have := List.mem_range.mp (List.mem_filter.mp hc).1
    omega
  unfold State.latchTrips
  refine State.each_sets (I := fun _ => True) (P := fun u => u.flag .tripStat c t = true ∧ u.flag .chStat 8 t c = true) hc trivial
    (fun _ _ _ => trivial) (fun u _ => ?_) (fun u a ⟨stat, trip⟩ => ?_)
  · have marks := u.tripMark_flags t c true (fun k => { k with tripHold := false }) hc8
    rwa [if_pos rfl, if_pos rfl] at marks
  · have marks := u.tripMark_flags t a true (fun k => { k with tripHold := false }) hc8
    rwa [stat, trip, ite_self] at marks

theorem State.trip_setTrip (s : State) (k : Nat) (x : TripIn) : (s.setTrip k x).trip k = x := SMap.at_set_self _ _ _ _

/-- What a trip input holds of its time and its blanking is left by a pad's change. -/
theorem State.setPin_trip (s : State) (p : Nat) (level : Bool) (i : Nat) : ((s.setPin p level).trip i).since = (s.trip i).since ∧
    ((s.setPin p level).trip i).blanking = (s.trip i).blanking ∧ ((s.setPin p level).trip i).blankEnd = (s.trip i).blankEnd := by
  unfold State.setPin State.dropTrips
  refine State.each_inv (I := fun u => (u.trip i).since = (s.trip i).since ∧ (u.trip i).blanking = (s.trip i).blanking ∧
    (u.trip i).blankEnd = (s.trip i).blankEnd) ⟨rfl, rfl, rfl⟩ fun u a _ hu => ?_
  dsimp only
  split
  · by_cases e : i = 16 * (p / 32) + a
    · have own := fun x => SMap.at_set_self {} u.trips (16 * (p / 32) + a) x
      unfold State.setTrip State.trip at *
      rw [e] at hu ⊢
      dsimp only
      rw [own]
      exact hu
    · have other := fun x => SMap.at_set_ne {} u.trips (16 * (p / 32) + a) i x e
      unfold State.setTrip State.trip at *
      dsimp only
      rw [other]
      exact hu
  · exact hu

/-- An accepted trip in the registers of its tile (R104, R106). -/
def State.tripAccepted (s : State) (t : Nat) (inB : Bool) (x : TripIn) (since : Stamp) : State :=
  let i := 2 * t + b2n inB
  let s := s.setTrip i { x with accepted := true, since := since, blanking := false }
  let s := s.bump .tripCnt (if inB then 16 else 0) 16 t
  let s := if inB then s.wr .tripTimeB (ns32 since) t else s.wr .tripTimeA (ns32 since) t
  s.latchTrips t inB

theorem State.tripAccepted_spec (s : State) (t : Nat) (inB : Bool) (x : TripIn) (since : Stamp) :
    let u := s.tripAccepted t inB x since
    (u.trip (2 * t + b2n inB)).accepted = true ∧
    (∀ c ∈ s.tripChans t inB, u.flag .tripStat c t = true ∧ u.flag .chStat 8 t c = true) ∧
    u.rd (if inB then .tripTimeB else .tripTimeA) t = ns32 since ∧
    u.fld .tripCnt (if inB then 16 else 0) 16 t = min 65535 (s.fld .tripCnt (if inB then 16 else 0) 16 t + 1) := by
  unfold State.tripAccepted
  extract_lets i taken counted stamped
  have latched : stamped.frame (stamped.latchTrips t inB) State.frame.latchTripsParts := .latchTrips (.refl _ _)
  have before : s.frame stamped [.trips, .reg .tripCnt, .reg .tripTimeA, .reg .tripTimeB] :=
    .ite (.wr (.bump (.setTrip (.refl s _)))) (.wr (.bump (.setTrip (.refl s _))))
  have timed : counted.frame stamped [.reg .tripTimeA, .reg .tripTimeB] := .ite (.wr (.refl _ _)) (.wr (.refl _ _))
  refine ⟨?_, fun c hc => stamped.latchTrips_sets t inB (by rwa [before.tripChans]), ?_, ?_⟩
  · have own : taken.trip i = { x with accepted := true, since := since, blanking := false } := State.trip_setTrip _ _ _
    have same : (stamped.latchTrips t inB).trip i = taken.trip i := (latched.trip i).trans (timed.trip i)
    rw [same, own]
  · cases inB with
    | true => exact (latched.rd .tripTimeB _ _).trans (State.rd_wr_self _ _ _ _ _)
    | false => exact (latched.rd .tripTimeA _ _).trans (State.rd_wr_self _ _ _ _ _)
  · refine (latched.fld .tripCnt _ _ _ _).trans ((timed.fld .tripCnt _ _ _ _).trans ((State.fld_bump_self _ _ _ _ _ _ (by cases inB <;> decide)).trans ?_))
    rfl

section
variable {s : State} {tile : Fin 64} {inB : Bool} {since ts : Stamp} {q : Nat}

/-- A trip that nothing forbids is accepted (R104 to R106). -/
theorem exec_tripAccept (hb : s.hasBridge = true) (awake : s.pstate < 2) (inTiles : tile < s.tiles) (powered : s.flag .pmBank 2 (tile / 8) = false)
    (pin : s.tripPin tile inB = some q) (on : getB (s.tripCtrl tile inB) 0 = true) (new : (s.trip (2 * tile + b2n inB)).since ≠ since)
    (clear : (s.trip (2 * tile + b2n inB)).blankAt (if s.frozen tile then (s.reachIn tile ts).tileClock tile else ts) = false)
    (stood : 16 * max 1 (getF (s.tripCtrl tile inB) 8 8) ≤ s.runTime (max since.toNat (s.trip (2 * tile + b2n inB)).blankEnd.toNat) ts.toNat) :
    let z := (s.reachIn tile ts).setPin q (!getB (s.tripCtrl tile inB) 1)
    exec (.tripAccept tile inB since ts) s = .next (z.withSum tile (·.tripAccepted tile inB (z.trip (2 * tile + b2n inB)) since)) := by
  intro z
  have fr : s.frame z [.now, .pinIn, .trips] := .setPin (.reachIn (.refl s _))
  have pin' : (s.reachIn tile ts).tripPin tile inB = some q := pin
  have ctrl : z.tripCtrl tile inB = s.tripCtrl tile inB := fr.tripCtrl _ _
  have asserted : z.tripIn tile inB = true := by
    have level : z.pinIn.at false q = !getB (s.tripCtrl tile inB) 1 := by
      rw [State.setPin_pinIn]
      exact SMap.at_set_self _ _ _ _
    unfold State.tripIn
    rw [fr.tripPin, pin]
    dsimp only
    rw [fr.hasBridge, hb, ctrl, on, level]
    simp
  obtain ⟨since', blanking, blankEnd⟩ := (s.reachIn tile ts).setPin_trip q (!getB (s.tripCtrl tile inB) 1) (2 * tile + b2n inB)
  have told : (s.reachIn tile ts).frame z [.pinIn, .trips] := .setPin (.refl _ _)
  have tiles : z.tiles = s.tiles := fr.tiles
  have blank : (z.trip (2 * tile + b2n inB)).blankAt (if z.frozen tile then z.tileClock tile else ts) = false := by
    unfold TripIn.blankAt at clear ⊢
    rw [fr.frozen, told.tileClock, blanking, blankEnd]
    exact clear
  have run : ¬z.runTime (max since.toNat (z.trip (2 * tile + b2n inB)).blankEnd.toNat) ts.toNat <
      16 * max 1 (getF (z.tripCtrl tile inB) 8 8) := by
    rw [fr.runTime, ctrl, blankEnd]
    exact Nat.not_lt.mpr stood
  have fresh : ((z.trip (2 * tile + b2n inB)).since == since) = false := by
    rw [since']
    exact beq_eq_false_iff_ne.mpr new
  have pstate : z.pstate = s.pstate := fr.fld .govPstate _ _ _ _
  have open_ : (!z.tripIn tile inB || decide (z.tiles ≤ tile.val) || decide (2 ≤ z.pstate) || z.flag .pmBank 2 (tile / 8) ||
      (z.trip (2 * tile + b2n inB)).blankAt (if z.frozen tile then z.tileClock tile else ts) ||
      decide (z.runTime (max since.toNat (z.trip (2 * tile + b2n inB)).blankEnd.toNat) ts.toNat <
        16 * max 1 (getF (z.tripCtrl tile inB) 8 8)) ||
      ((z.trip (2 * tile + b2n inB)).accepted && (z.trip (2 * tile + b2n inB)).since == since)) = false := by
    rw [asserted, tiles, decide_eq_false (Nat.not_le.mpr inTiles), pstate, decide_eq_false (Nat.not_le.mpr awake), fr.flag .pmBank, powered,
      blank, decide_eq_false run, fresh, Bool.and_false]
    rfl
  show execTripAccept tile inB since ts s = _
  unfold execTripAccept
  dsimp only
  rw [pin']
  dsimp only
  rw [show (s.reachIn tile ts).tripCtrl tile inB = s.tripCtrl tile inB from rfl,
    show (s.reachIn tile ts).setPin q (!getB (s.tripCtrl tile inB) 1) = z from rfl]
  clear_value z
  exact congrArg Host.Outcome.next (if_neg (Bool.eq_false_iff.mp open_))

/-- An input without a pin accepts nothing. -/
theorem exec_tripAccept_none (pin : s.tripPin tile inB = none) : exec (.tripAccept tile inB since ts) s = .next (s.reachIn tile ts) := by
  have pin' : (s.reachIn tile ts).tripPin tile inB = none := pin
  show execTripAccept tile inB since ts s = _
  unfold execTripAccept
  dsimp only
  rw [pin']

end

/-! ## Clearing -/

section
variable {s : State} {t c mask : Nat} (hb : s.hasBridge = true) (hc : c < 8)

/-- What a clear of one channel's trip does (R107). -/
def State.clearTrip (t : Nat) (s : State) (c : Nat) : State :=
  let a := s.stillTripped t c false
  let b := s.stillTripped t c true
  if a || b then (s.when a (·.bump .tripCnt 0 16 t)).when b (·.bump .tripCnt 16 16 t)
  else
    ((s.setFlag .tripStat c false t).setFlag .chStat 8 false t c).onChan (8 * t + c)
      (fun k => { k with tripHold := true })

theorem State.clearTrip_frame (s : State) (t c : Nat) : s.frame (s.clearTrip t c) [.reg .tripCnt, .reg .tripStat, .reg .chStat, .chans] :=
  .ite (.when (.when (.refl s _) fun _ h => .bump h) fun _ h => .bump h) (.onChan (.setFlag (.setFlag (.refl s _))))

theorem State.clearTrip_kept {a : Nat} (h : s.stillTripped t a false = true ∨ s.stillTripped t a true = true) :
    (s.clearTrip t a).flag .tripStat c t = s.flag .tripStat c t := by
  have still : (s.stillTripped t a false || s.stillTripped t a true) = true := by
    rcases h with h | h <;> simp [h]
  have acts : s.clearTrip t a = (s.when (s.stillTripped t a false) (·.bump .tripCnt 0 16 t)).when (s.stillTripped t a true)
    (·.bump .tripCnt 16 16 t) := if_pos still
  rw [acts]
  exact State.frame.flag (l := [.reg .tripCnt]) (.when (.when (.refl s _) fun _ h => .bump h) fun _ h => .bump h) .tripStat _ _ _

theorem State.clearTrip_done {a : Nat} (h : ¬(s.stillTripped t a false || s.stillTripped t a true) = true) : s.clearTrip t a =
    ((s.setFlag .tripStat a false t).setFlag .chStat 8 false t a).onChan (8 * t + a) (fun k => { k with tripHold := true }) := if_neg h

include hb in
theorem State.clearTrips_eq : s.clearTrips t mask = s.withSum t (fun s =>
    s.each ((List.range 8).filter (fun c => mask.testBit c && s.flag .tripStat c t)) (State.clearTrip t)) := by
  unfold State.clearTrips
  rw [hb]
  rfl

include hc

theorem State.clearTrip_other {a : Nat} (h : c ≠ a) : (s.clearTrip t a).flag .tripStat c t = s.flag .tripStat c t := by
  by_cases still : (s.stillTripped t a false || s.stillTripped t a true) = true
  · exact State.clearTrip_kept (by simpa using still)
  · rw [State.clearTrip_done still]
    exact (s.tripMark_flags t a false _ (by omega)).1.trans (if_neg h)

theorem State.clearTrip_own (ha : s.stillTripped t c false = false) (hb : s.stillTripped t c true = false) :
    (s.clearTrip t c).flag .tripStat c t = false := by
  rw [State.clearTrip_done (by simp [ha, hb])]
  exact (s.tripMark_flags t c false _ (by omega)).1.trans (if_pos rfl)

/-- A trip that is not set is not set by a clear. -/
theorem State.clearTrip_clear (a : Nat) (h : s.flag .tripStat c t = false) : (s.clearTrip t a).flag .tripStat c t = false := by
  by_cases still : (s.stillTripped t a false || s.stillTripped t a true) = true
  · exact (State.clearTrip_kept (by simpa using still)).trans h
  · rw [State.clearTrip_done still]
    refine (s.tripMark_flags t a false _ (by omega)).1.trans ?_
    rw [h, ite_self]

include hb

/-- A trip that a clear names and that no input holds is cleared (R107). -/
theorem State.clearTrips_clears (named : mask.testBit c = true) (ha : s.stillTripped t c false = false)
    (hb' : s.stillTripped t c true = false) : (s.clearTrips t mask).flag .tripStat c t = false := by
  rw [State.clearTrips_eq hb, (s.withSum_frame t _).flag .tripStat]
  by_cases set : s.flag .tripStat c t = true
  · refine State.each_sets (I := fun u => s.frame u [.reg .tripCnt, .reg .tripStat, .reg .chStat, .chans])
      (P := fun u => u.flag .tripStat c t = false) (c := c) (by simp [hc, named, set]) (.refl s _) (fun u a h => h.trans (u.clearTrip_frame t a))
      (fun u h => State.clearTrip_own hc ((h.stillTripped t c false).trans ha) ((h.stillTripped t c true).trans hb')) (fun u a => State.clearTrip_clear hc a)
  · exact State.each_inv (I := fun u => u.flag .tripStat c t = false) (by simpa using set) fun u a _ => State.clearTrip_clear hc a

/-- A trip that a clear does not name or that an input holds stays. -/
theorem State.clearTrips_keeps {inB : Bool} (h : mask.testBit c = false ∨ s.stillTripped t c inB = true) :
    (s.clearTrips t mask).flag .tripStat c t = s.flag .tripStat c t := by
  rw [State.clearTrips_eq hb, (s.withSum_frame t _).flag .tripStat]
  refine (State.each_inv (I := fun u => s.frame u [.reg .tripCnt, .reg .tripStat, .reg .chStat, .chans] ∧
    u.flag .tripStat c t = s.flag .tripStat c t) ⟨.refl s _, rfl⟩ fun u a ha ⟨fr, same⟩ => ⟨fr.trans (u.clearTrip_frame t a), ?_⟩).2
  refine Eq.trans ?_ same
  by_cases e : c = a
  · subst e
    rcases h with no | still
    · have := (List.mem_filter.mp ha).2
      rw [no] at this
      cases this
    · have held : u.stillTripped t c inB = true := (fr.stillTripped t c inB).trans still
      exact State.clearTrip_kept (by cases inB <;> simp [held])
  · exact State.clearTrip_other hc e

end

/-- Settles O32: sides by `setSide`, trips by what an input takes, latches and clears. -/
theorem bridgesAndTrips : Obligations.BridgesAndTrips := by
  unfold Obligations.BridgesAndTrips
  intro m tile p inB mask since ts v s hp hb t b i x z
  have bridged := fun n i j => ((s.arrived_frame n i j).hasBridge).trans hb
  refine ⟨fun hw still still' fits => ?stored, fun hw runs => ?drops, fun hi w runs pair due noExt elapsed stays => ?rises,
    fun hi w e runs pair due noExt elapsed falls short => ?absent, fun hi w runs ext elapsed => ?falls,
    fun q awake inTiles powered pin on new clear stood => ?accepts, fun none => ?noPin, fun runs blanking ended => ?blankEnds,
    fun c hw hc named ha hb' => ?clears, fun c hw hc h => ?keeps, fun hw single pairs => ?level⟩
  case stored =>
    have fr := s.arrived_frame .brCtrl t p
    have runs := s.arrived_running .brCtrl t p t
    have go : ¬((s.arrived .brCtrl t p).running t (2 * p) || (s.arrived .brCtrl t p).running t (2 * p + 1) || (getB v 0 &&
        ((s.arrived .brCtrl t p).linked t (2 * p) || bothHigh ((s.arrived .brCtrl t p).rd .tripLvl t) p))) = true := by
      rw [runs, runs, still, still', fr.linked, fr.rd .tripLvl]
      cases h : getB v 0 with
      | false => simp
      | true =>
        obtain ⟨link, lvl⟩ := fits h
        rw [link, lvl]
        decide
    refine ⟨_, congrArg Host.Outcome.next ((State.access_eq hw _).trans ((if_neg ?_).trans (if_neg go))), State.rd_wr_self _ _ _ _ _⟩
    rw [bridged]
    decide
  case drops =>
    have fr := s.arrived_frame .brCtrl t p
    have run : ((s.arrived .brCtrl t p).running t (2 * p) || (s.arrived .brCtrl t p).running t (2 * p + 1) || (getB v 0 &&
        ((s.arrived .brCtrl t p).linked t (2 * p) || bothHigh ((s.arrived .brCtrl t p).rd .tripLvl t) p))) = true := by
      rw [s.arrived_running, runs, Bool.true_or, Bool.true_or]
    have told := (s.arrived .brCtrl t p).withSum_frame t (·.chDrop t (2 * p))
    have dropped := ((s.arrived .brCtrl t p).chDrop_spec t (2 * p)).2.1
    refine ⟨_, congrArg Host.Outcome.next ((State.access_eq hw _).trans ((if_neg ?_).trans (if_pos run))), ?_, (told.flag .chStat _ _ _).trans dropped⟩
    · rw [bridged]
      decide
    · refine (told.rd .brCtrl _ _).trans ?_
      exact (State.frame.rd (.chDrop (.refl _ State.frame.chDropParts)) .brCtrl _ _).trans (fr.rd .brCtrl _ _)
  case rises =>
    refine ⟨_, exec_deadTime_rises hp runs pair due noExt elapsed stays, State.setSide_own _ _ _ _ _ _, State.setSide_other _ _ _ _ _ _, ?_⟩
    rw [State.setSide_bridge]
    exact ⟨congrArg Bridge.due (State.bridge_setBridge _ _ _), congrArg Bridge.roseAt (State.bridge_setBridge _ _ _)⟩
  case absent =>
    refine ⟨_, exec_deadTime_absent hp runs pair due noExt elapsed falls short, fun q => State.bump_sideOn _ _ _ (by cases hi <;> decide) q,
      congrArg Bridge.due (State.bridge_setBridge _ _ _), ?_⟩
    exact State.fld_bump_self _ _ _ _ _ _ (by cases hi <;> decide)
  case falls =>
    have kept : (((s.reachIn t ts).setBridge (4 * t + p) { b with ext := none, fellAt := w }).setSide t p hi false w).bridge (4 * t + p) =
        { b with ext := none, fellAt := w } := (State.setSide_bridge _ _ _ _ _ _ _).trans (State.bridge_setBridge _ _ _)
    refine ⟨_, exec_minpwExtension hp runs ext elapsed, (State.bump_sideOn _ _ _ (by decide) _).trans (State.setSide_own _ _ _ _ _ _),
      congrArg Bridge.ext kept, congrArg Bridge.fellAt kept, ?_⟩
    · refine (State.fld_bump_self _ _ _ _ _ _ (by decide)).trans ?_
      rw [State.setSide_fld _ _ _ _ _ _ (by decide)]
      rfl
  case accepts =>
    obtain ⟨taken, marks, time, count⟩ := (z.setPin q (!getB (s.tripCtrl t inB) 1)).tripAccepted_spec t inB
      ((z.setPin q (!getB (s.tripCtrl t inB) 1)).trip i) since
    have fr : s.frame (z.setPin q (!getB (s.tripCtrl t inB) 1)) [.now, .pinIn, .trips] := .setPin (.reachIn (.refl s _))
    have told := (z.setPin q (!getB (s.tripCtrl t inB) 1)).withSum_frame t (·.tripAccepted t inB ((z.setPin q (!getB (s.tripCtrl t inB) 1)).trip i) since)
    rw [fr.fld .tripCnt] at count
    rw [fr.tripChans] at marks
    refine ⟨_, exec_tripAccept hb awake inTiles powered pin on new clear stood, ?_, fun c hc => ?_, (told.rd _ _ _ ?_).trans time,
      (told.fld .tripCnt _ _ _ _).trans ?_⟩
    · exact (congrArg TripIn.accepted (told.trip i)).trans taken
    · obtain ⟨stat, chan⟩ := marks c hc
      exact ⟨(told.flag .tripStat _ _ _).trans stat, (told.flag .chStat _ _ _).trans chan⟩
    · cases inB <;> decide
    · exact count
  case noPin => exact ⟨_, exec_tripAccept_none none, rfl, rfl⟩
  case blankEnds =>
    have go : (s.tileRuns t && x.blanking && decide (x.blankEnd.toNat ≤ ts.toNat)) = true := by
      rw [runs, blanking, decide_eq_true ended]
      rfl
    exact ⟨_, congrArg Host.Outcome.next (State.happens_eq hp go _), congrArg TripIn.blanking (State.trip_setTrip _ _ _), rfl⟩
  case clears =>
    have fr := s.arrived_frame .tripStat t 0
    refine ⟨_, congrArg Host.Outcome.next (State.access_eq hw _), State.clearTrips_clears (bridged _ _ _) hc named ?_ ?_⟩
    · exact (fr.stillTripped _ _ _).trans ha
    · exact (fr.stillTripped _ _ _).trans hb'
  case keeps =>
    have fr := s.arrived_frame .tripStat t 0
    refine ⟨_, congrArg Host.Outcome.next (State.access_eq hw _), ?_⟩
    refine (State.clearTrips_keeps (inB := inB) (bridged _ _ _) hc (h.imp_right ?_)).trans (fr.flag .tripStat _ _ _)
    exact (fr.stillTripped _ _ _).trans
  case level =>
    have fr := s.arrived_frame .tripLvl t 0
    have bad : (List.range 8).filter (fun c => getF v (4 * c + 2) 2 == 3) = [] := by
      rw [List.filter_eq_nil_iff]
      intro c hc
      simpa using single c (List.mem_range.mp hc)
    have high : (List.range 4).filter (fun q => (s.arrived .tripLvl t 0).flag .brCtrl 0 t q && bothHigh v q) = [] := by
      rw [List.filter_eq_nil_iff]
      intro q hq
      rw [fr.flag .brCtrl, Bool.and_eq_true]
      rintro ⟨on, both⟩
      rw [pairs q (List.mem_range.mp hq) on] at both
      cases both
    have acts : (s.arrived .tripLvl t 0).writeTripLvl t v = (s.arrived .tripLvl t 0).withSum t (fun z =>
        if ((List.range 8).filter (fun c => getF v (4 * c + 2) 2 == 3)).isEmpty &&
          ((List.range 4).filter (fun q => z.flag .brCtrl 0 t q && bothHigh v q)).isEmpty then z.wr .tripLvl v t
        else (z.each ((List.range 8).filter (fun c => getF v (4 * c + 2) 2 == 3)) (fun s c => s.chDrop t c)).each
          ((List.range 4).filter (fun q => z.flag .brCtrl 0 t q && bothHigh v q)) (fun s p => s.chDrop t (2 * p))) := by
      refine if_neg ?_
      rw [bridged]
      decide
    refine ⟨_, congrArg Host.Outcome.next ((State.access_eq hw _).trans acts), ?_⟩
    refine (State.frame.rd (State.withSum_frame _ t _) .tripLvl _ _).trans ?_
    rw [bad, high]
    exact State.rd_wr_self _ _ _ _ _

end Sys2Proof.Machine
end


section
/-! PROOFS. Angle followers and match slots (R73 to R78). -/

namespace Sys2Proof.Machine

set_option Elab.async false

/-! ## Edges that slots make -/

/-- The level that an act makes of a channel's level (R75): HIGH, LOW, or the other one. -/
def actLevel (act : Nat) (was : Bool) : Bool := if act = 1 then true else if act = 2 then false else !was

/-- The first edge of a cycle decides the level. -/
theorem Chan.decide_level (k : Chan) {n act : Nat} (rank fine : Nat) (fresh : k.cyc ≠ n) (some : act ≠ 0) :
    (k.decide n rank act fine).1.level = actLevel act k.level := by
  have new : n ≠ k.cyc := Ne.symm fresh
  unfold Chan.decide actLevel
  rw [if_neg (by simp [some, new]), if_neg new]
  match act with
  | 0 => exact absurd rfl some
  | 1 => cases h : k.level <;> rfl
  | 2 => cases h : k.level <;> rfl
  | n + 3 => cases h : k.level <;> simp

section
variable {s : State} {t k : Nat}

theorem State.chan_onChan (s : State) (g : Nat) (f : Chan → Chan) : (s.onChan g f).chan g = f (s.chan g) := s.chan_setChan g _

theorem State.slotX_onSlot (s : State) (t k : Nat) (f : SlotX → SlotX) : (s.onSlot t k f).slotX (slotIx t k) = f (s.slotX (slotIx t k)) :=
  SMap.at_set_self _ _ _ _

theorem State.entry_onEntry (s : State) (i : Nat) (f : Entry → Entry) : (s.onEntry i f).entry i = f (s.entry i) := SMap.at_set_self _ _ _ _

/-- The edge of a slot on a channel of no bridge pair, the first of its cycle. -/
theorem State.slotEdge_chan (hb : s.bridged t (s.slotCh t k) = false) {act : Nat} {e : Stamp} (fresh : (s.chan (8 * t + s.slotCh t k)).cyc ≠ nsOf e)
    (some : act ≠ 0) (delayed : Bool) :
    ((s.slotEdge t k act e delayed).chan (8 * t + s.slotCh t k)).level = actLevel act (s.chan (8 * t + s.slotCh t k)).level ∧
      ((s.slotEdge t k act e delayed).chan (8 * t + s.slotCh t k)).burst = (s.chan (8 * t + s.slotCh t k)).burst := by
  have level : ((s.drive t (s.slotCh t k) (nsOf e) k act (fineOf e)).chan (8 * t + s.slotCh t k)).level =
      actLevel act (s.chan (8 * t + s.slotCh t k)).level := by
    rw [(State.drive_single hb (nsOf e) k act (fineOf e) none).chan, State.chan_setChan]
    exact Chan.decide_level _ _ _ fresh some
  have burst : ((s.drive t (s.slotCh t k) (nsOf e) k act (fineOf e)).chan (8 * t + s.slotCh t k)).burst =
      (s.chan (8 * t + s.slotCh t k)).burst := by
    obtain ⟨p, y, r, l, h, e', u, hk⟩ := State.drive_chan hb (nsOf e) k act (fineOf e) none
    rw [hk]
  unfold State.slotEdge
  dsimp only
  cases delayed with
  | false => exact ⟨level, burst⟩
  | true =>
    rw [if_pos rfl, State.frame.chan (.onSlot (.refl _ [.slots])), State.chan_onChan]
    exact ⟨level, burst⟩

/-- A slot's output goes LOW, and no burst is left. -/
theorem State.slotLow_chan (hb : s.bridged t (s.slotCh t k) = false) {e : Stamp} (fresh : (s.chan (8 * t + s.slotCh t k)).cyc ≠ nsOf e) (delayed : Bool) :
    ((s.slotLow t k e delayed).chan (8 * t + s.slotCh t k)).level = false ∧
      ((s.slotLow t k e delayed).chan (8 * t + s.slotCh t k)).burst = 0 := by
  have own := s.chan_onChan (8 * t + s.slotCh t k) (fun x => { x with burst := 0, hold := false })
  have edge := State.slotEdge_chan (s := s.onChan (8 * t + s.slotCh t k) (fun x => { x with burst := 0, hold := false })) (t := t) (k := k)
    (act := 2) (e := e) hb (by rw [show State.slotCh (State.onChan _ _ _) t k = s.slotCh t k from rfl, own]; exact fresh) (by decide) delayed
  obtain ⟨level, burst⟩ := edge
  exact ⟨level, burst.trans (congrArg Chan.burst own)⟩

/-- What a close leaves of its channel. -/
theorem State.closeSlot_chan (hb : s.bridged t (s.slotCh t k) = false) {e : Stamp} (fresh : (s.chan (8 * t + s.slotCh t k)).cyc ≠ nsOf e)
    (delayed guarded : Bool) : ((s.closeSlot t k e delayed guarded).chan (8 * t + s.slotCh t k)).level = false ∧
      ((s.closeSlot t k e delayed guarded).chan (8 * t + s.slotCh t k)).burst = 0 := by
  have low := s.withSum_frame t (·.slotLow t k e delayed)
  unfold State.closeSlot
  extract_lets idx lowered flagged detail noted
  have kept : lowered.frame ((noted.ended idx e).releaseSlot t k) (.reg .slotCtrl :: .entries :: State.frame.endedParts ++ State.frame.releaseSlotParts) :=
    .releaseSlot (.ended (.onEntry (.ite (.setFlag (.refl _ _)) (.refl _ _))))
  rw [kept.chan, low.chan]
  exact State.slotLow_chan hb fresh delayed

end

/-! ## Firing -/

section
variable {s : State} {t k : Nat} {due e : Stamp} {delayed : Bool} (open_ : s.calHeld = false) (run : s.running t (s.slotCh t k) = true)
  (mode : s.modeF t (s.slotCh t k) = 5) (hb : s.bridged t (s.slotCh t k) = false) (fresh : (s.chan (8 * t + s.slotCh t k)).cyc ≠ nsOf e)

/-- The entry of a slot that fires, its action made. -/
def State.fired (s : State) (t k : Nat) (e : Stamp) (delayed : Bool) : State :=
  let idx := s.slotIdx t k
  let c := s.slotCh t k
  let f := s.slotFol t k
  let s := s.onEntry idx (fun x => { x with firedNs := nsOf e })
  let x := s.entry idx
  let passed := s.flag .slotCtrl 12 t k
  let cross := (s.slotCross t k).getD e
  let fast := (s.fol (folIx t f)).fastAt (nsOf cross)
  let detail := max (if passed then (if x.waited then 5 else 4) else b2n fast) (if delayed then 2 else 0)
  s.acted idx e cross x.target (s.flag .slotCtrl 10 t k) passed (s.flag .tripStat c t) detail

theorem State.fired_frame (s : State) (t k : Nat) (e : Stamp) (delayed : Bool) : s.frame (s.fired t k e delayed) [.entries] :=
  .acted (.onEntry (.refl s _))

include open_ run mode

theorem State.fireSlot_edge (act : s.slotAct t k ≤ 3) : s.fireSlot t k due e delayed =
    ((((s.fired t k e delayed).withSum t (·.slotEdge t k (s.slotAct t k) e delayed)).ended (s.slotIdx t k) e).releaseSlot t k) := by
  have goes : ¬(!s.running t (s.slotCh t k) || s.modeF t (s.slotCh t k) != 5) = true := by
    rw [run, mode]
    decide
  have shut : ¬s.calHeld = true := by
    rw [open_]
    decide
  exact (if_neg shut).trans ((if_neg goes).trans (if_pos act))

theorem State.fireSlot_opens (act : s.slotAct t k = 4 ∨ s.slotAct t k = 5) : ∃ f, s.fireSlot t k due e delayed =
    (((((s.fired t k e delayed).setPhase (s.slotIdx t k) 4).withSum t (·.slotEdge t k 1 e delayed)).setFld .slotCtrl 8 2 1 t k).onSlot t k f) := by
  have goes : ¬(!s.running t (s.slotCh t k) || s.modeF t (s.slotCh t k) != 5) = true := by
    rw [run, mode]
    decide
  have shut : ¬s.calHeld = true := by
    rw [open_]
    decide
  exact ⟨_, (if_neg shut).trans ((if_neg goes).trans ((if_neg (by omega)).trans (if_neg (by omega))))⟩

include hb fresh

/-- A slot that fires an edge makes it (R75). -/
theorem State.fireSlot_level (low : 1 ≤ s.slotAct t k) (high : s.slotAct t k ≤ 3) :
    ((s.fireSlot t k due e delayed).chan (8 * t + s.slotCh t k)).level = actLevel (s.slotAct t k) (s.chan (8 * t + s.slotCh t k)).level := by
  have fr := s.fired_frame t k e delayed
  have ch : (s.fired t k e delayed).slotCh t k = s.slotCh t k := fr.fld .slotCtrl _ _ _ _
  have edge := (State.slotEdge_chan (s := s.fired t k e delayed) (t := t) (k := k) (act := s.slotAct t k) (e := e) (by rw [ch, fr.bridged]; exact hb)
    (by rw [ch, fr.chan]; exact fresh) (by omega) delayed).1
  rw [State.fireSlot_edge open_ run mode high, State.frame.chan (.releaseSlot (.ended (.refl _
    (State.frame.endedParts ++ State.frame.releaseSlotParts)))), (State.withSum_frame _ t _).chan]
  rw [ch, fr.chan] at edge
  exact edge

/-- A slot that opens: its output HIGH, its phase and its entry's (R76). -/
theorem State.fireSlot_open (act : s.slotAct t k = 4 ∨ s.slotAct t k = 5) :
    ((s.fireSlot t k due e delayed).chan (8 * t + s.slotCh t k)).level = true ∧ (s.fireSlot t k due e delayed).slotPhase t k = 1 ∧
      (s.fireSlot t k due e delayed).ePhase (s.slotIdx t k) = 4 := by
  obtain ⟨f, acts⟩ := State.fireSlot_opens (due := due) (e := e) (delayed := delayed) open_ run mode act
  have fr : s.frame ((s.fired t k e delayed).setPhase (s.slotIdx t k) 4) [.entries, .reg .entryW6] := .setPhase ((s.fired_frame t k e delayed).mono (by decide))
  rw [acts]
  generalize hz : (s.fired t k e delayed).setPhase (s.slotIdx t k) 4 = z at fr ⊢
  have ch : z.slotCh t k = s.slotCh t k := fr.fld .slotCtrl _ _ _ _
  have edge := (State.slotEdge_chan (s := z) (t := t) (k := k) (act := 1) (e := e) (by rw [ch, fr.bridged]; exact hb)
    (by rw [ch, fr.chan]; exact fresh) (by decide) delayed).1
  rw [ch] at edge
  have told := z.withSum_frame t (·.slotEdge t k 1 e delayed)
  have after : (z.withSum t (·.slotEdge t k 1 e delayed)).frame (((z.withSum t (·.slotEdge t k 1 e delayed)).setFld .slotCtrl 8 2 1 t k).onSlot t k f)
    [.slots, .reg .slotCtrl] := .onSlot (.setFld (.refl _ _))
  have phase := State.fld_setFld_self (z.withSum t (·.slotEdge t k 1 e delayed)) .slotCtrl 8 2 1 t k (by decide)
  refine ⟨?_, ?_, ?_⟩
  · rw [after.chan, told.chan]
    exact edge
  · exact (State.frame.fld (.onSlot (.refl _ [.slots])) .slotCtrl _ _ _ _).trans phase
  · refine (after.fld .entryW6 _ _ _ _).trans ((told.fld .entryW6 _ _ _ _).trans ((State.frame.fld (.slotEdge (.refl z State.frame.slotEdgeParts))
      .entryW6 _ _ _ _).trans ?_))
    rw [← hz]
    exact State.fld_setFld_self _ _ _ _ _ _ _ (by decide)

end

/-! ## Losing and clearing -/

namespace State.frame

variable {s u : State} {l : List StatePart}

theorem entry (h : s.frame u l) (i : Nat) (hn : .entries ∉ l := by decide) : u.entry i = s.entry i := by
  unfold State.entry
  rw [(h .entries hn : u.entries = s.entries)]

theorem fol (h : s.frame u l) (i : Nat) (hn : .fols ∉ l := by decide) : u.fol i = s.fol i := by
  unfold State.fol
  rw [(h .fols hn : u.fols = s.fols)]

theorem dom (h : s.frame u l) (i : Nat) (hn : .doms ∉ l := by decide) : u.dom i = s.dom i := by
  unfold State.dom
  rw [(h .doms hn : u.doms = s.doms)]

end State.frame

/-- What an update of one entry keeps is kept of every entry. -/
theorem State.onEntry_seen {α : Type} {g : Entry → α} {f : Entry → Entry} (hf : ∀ x, g (f x) = g x) (s : State) (i j : Nat) :
    g ((s.onEntry i f).entry j) = g (s.entry j) := by
  by_cases h : j = i
  · subst h
    rw [State.entry_onEntry, hf]
  · exact congrArg g (SMap.at_set_ne _ _ _ _ _ h)

theorem State.stage_noEffect (s : State) (a t k i : Nat) : ((s.stage a t k).entry i).noEffect = (s.entry i).noEffect := by
  unfold State.stage
  dsimp only
  refine Eq.trans ?_ (State.onEntry_seen (g := Entry.noEffect) (f := fun x => { x with
    delay := (s.eLead a).2, target := s.eTarget a, waits := false }) (fun _ => rfl) s a i)
  exact congrArg Entry.noEffect (State.frame.entry (.fillSlot (.wr (.setPhase (.refl _
    (State.frame.fillSlotParts ++ [.reg .entryW6, .reg .entryW7]))))) i)

theorem State.stageWaiting_noEffect (s : State) (t i : Nat) : ((s.stageWaiting t).entry i).noEffect = (s.entry i).noEffect := by
  unfold State.stageWaiting
  split
  · rfl
  · split
    · rfl
    · dsimp only
      split
      · rfl
      next a _ _ =>
        refine Eq.trans ?_ (State.onEntry_seen (g := Entry.noEffect) (f := fun x => { x with waited := true }) (fun _ => rfl) s a i)
        exact State.stage_noEffect _ _ _ _ _

/-- The entry of a slot that is lost has no effect any more (R78). -/
theorem State.loseSlot_noEffect (s : State) (t k : Nat) : ((s.loseSlot t k).entry (s.slotIdx t k)).noEffect = true := by
  unfold State.loseSlot State.releaseSlot
  rw [State.stageWaiting_noEffect]
  have kept := State.frame.entry (.dropSlot (t := t) (k := k) (.setPhase (idx := s.slotIdx t k) (v := 2)
    (.refl ((s.withSum t (·.onSlot t k (fun x => { x with noEffect := true }))).onEntry (s.slotIdx t k) (fun x => { x with noEffect := true }))
      [.reg .entryW6, .reg .slotCtrl]))) (s.slotIdx t k)
  rw [kept, State.entry_onEntry]

/-- A clear of an open output (R77). -/
theorem State.makeClear_open {s : State} {t k n : Nat} (act : s.slotPhase t k = 1 ∨ s.slotPhase t k = 2) (hb : s.bridged t (s.slotCh t k) = false)
    (fresh : (s.chan (8 * t + s.slotCh t k)).cyc ≠ nsOf (toS (16 * n))) :
    ((s.makeClear t k n).chan (8 * t + s.slotCh t k)).level = false := by
  have opened : (s.slotPhase t k == 1 || s.slotPhase t k == 2) = true := by simpa using act
  have acts : s.makeClear t k n = (s.withSum t (·.slotLow t k (toS (16 * n)))).releaseSlot t k := by
    unfold State.makeClear
    dsimp only
    rw [if_pos opened]
  rw [acts, State.frame.chan (.releaseSlot (.refl _ State.frame.releaseSlotParts)), (State.withSum_frame _ t _).chan]
  exact (State.slotLow_chan hb fresh false).1

theorem State.makeClear_shut {s : State} {t k n : Nat} (act : s.slotPhase t k = 0 ∨ s.slotPhase t k = 3) : (s.makeClear t k n).chans = s.chans := by
  have shut : ¬(s.slotPhase t k == 1 || s.slotPhase t k == 2) = true := by
    rcases act with h | h <;> simp [h]
  have acts : s.makeClear t k n = s.releaseSlot t k := by
    unfold State.makeClear
    dsimp only
    rw [if_neg shut]
  rw [acts]
  exact (State.frame.releaseSlot (.refl s State.frame.releaseSlotParts) : s.frame _ _) .chans (by decide)

/-! ## Followers -/

/-- The running ANGLE_MATCH channels of a follower. -/
def State.folUsers (s : State) (t f : Nat) : List Nat :=
  (List.range 8).filter (fun c => s.running t c && s.modeF t c == 5 && s.fld .chCtrl 16 2 t c == f)

theorem State.arrived_folUsers (s : State) (n : RegName) (i j t f : Nat) : (s.arrived n i j).folUsers t f = s.folUsers t f := by
  have fr := s.arrived_frame n i j
  unfold State.folUsers State.modeF State.lead
  simp only [s.arrived_running, fr.linked, fr.bridged, fr.fld .chCtrl]

/-- FOL_CTRL as it is stored, and what an enabled follower takes (R73). -/
theorem State.writeFol_stores {s : State} {t f : Nat} {v : Word} (h : getF v 4 4 = s.folDom t f ∨ s.folUsers t f = []) :
    (s.writeFol t f v).rd .folCtrl t f = v &&& 0xF1 ∧
      (getB v 0 = true → (s.writeFol t f v).fol (4 * t + f) = (s.dom (getF v 4 4)).traj) := by
  have go : ¬(getF v 4 4 ≠ s.folDom t f ∧ (!(s.folUsers t f).isEmpty) = true) := by
    rcases h with h | h
    · exact fun both => both.1 h
    · rw [h]
      simp
  unfold State.writeFol
  extract_lets users n was angle stored taken
  rw [if_neg (show ¬(getF v 4 4 ≠ s.folDom t f ∧ (!users.isEmpty) = true) from go)]
  have after : taken.frame ((taken.noteCourse t).recheckSlots t) (.courseAt :: State.frame.recheckSlotsParts) := .recheckSlots (.noteCourse (.refl _ _))
  have before : stored.frame taken [.fols, .folMiss, .reg .folAngle] :=
    .ite (.loadFol (.refl _ _)) (.ite (.setFol (.wr (.refl _ _))) (.refl _ _))
  refine ⟨(after.rd .folCtrl _ _).trans ((before.rd .folCtrl _ _).trans (State.rd_wr_self _ _ _ _ _)), fun on => (after.fol _).trans ?_⟩
  have loads : taken = stored.loadFol t f := if_pos on
  have dom : stored.folDom t f = getF v 4 4 := by
    exact (congrArg (getF · 4 4) (State.rd_wr_self _ _ _ _ _)).trans (getF_and_ones _ _ _ _ (by decide))
  rw [loads]
  refine (SMap.at_set_self _ _ _ _).trans ?_
  rw [dom]
  rfl

/-- A change of DOMAIN under a running channel is dropped. -/
theorem State.writeFol_drops {s : State} {t f : Nat} {v : Word} (other : getF v 4 4 ≠ s.folDom t f) (used : s.folUsers t f ≠ []) :
    (s.writeFol t f v).rd .folCtrl t f = s.rd .folCtrl t f ∧ (s.writeFol t f v).fol (4 * t + f) = s.fol (4 * t + f) := by
  have stop : getF v 4 4 ≠ s.folDom t f ∧ (!(s.folUsers t f).isEmpty) = true := ⟨other, by simpa using used⟩
  have acts : s.writeFol t f v = s.withSum t (fun z => z.each (s.folUsers t f) (fun s c => s.chDrop t c)) := if_pos stop
  have dropped : s.frame (s.each (s.folUsers t f) (fun s c => s.chDrop t c)) State.frame.chDropParts := .each (.refl s _) fun _ _ h => .chDrop h
  have told := s.withSum_frame t (fun z => z.each (s.folUsers t f) (fun s c => s.chDrop t c))
  rw [acts, told.rd .folCtrl, told.fol]
  exact ⟨dropped.rd .folCtrl _ _, dropped.fol _⟩

/-! ## The rows -/

/-- A slot that is judged stays valid (R74). -/
theorem State.judgeSlot_spec (s : State) (t k n : Nat) : ((s.judgeSlot t k n).slotX (slotIx t k)).judged = true ∧
    (s.judgeSlot t k n).slotValid t k = s.slotValid t k := by
  have valid : ∀ (z : State) f, (z.onSlot t k f).slotValid t k = z.slotValid t k := fun _ _ => rfl
  unfold State.judgeSlot
  extract_lets x u len lenAc d next
  split
  · rw [State.slotX_onSlot, valid]
    exact ⟨rfl, State.flag_setFlag_off _ _ _ _ _ _ _ (by decide)⟩
  · rw [State.slotX_onSlot, valid]
    exact ⟨rfl, rfl⟩

section
variable {s : State} {t : Fin 64} {k : Fin 16} {ts : Stamp} (hp : s.pstate < 3) (runs : s.tileRuns t = true) (valid : s.slotValid t k = true)
include hp runs valid

theorem exec_slotLoad (first : (s.slotX (slotIx t k)).judged = false) : exec (.slotLoad t k ts) s = .next (
    if (s.reachIn t ts).slotFolOk t k then (s.reachIn t ts).judgeSlot t k (nsOf ts) else (s.reachIn t ts).loseSlot t k) := by
  have go : (s.tileRuns t && s.slotValid t k && !(s.slotX (slotIx t k)).judged) = true := by
    rw [runs, valid, first]
    rfl
  exact congrArg Host.Outcome.next (State.happens_eq hp go _)

theorem exec_slotFire {due e : Stamp} {late : Bool} (dom : s.domState (s.slotX (slotIx t k)).dom = 3) (hd : s.slotFireDue t k = some due)
    (made : s.madeAt t (s.slotCh t k) due = (e, late)) (reached : nsOf e ≤ nsOf ts) :
    exec (.slotFire t k ts) s = .next ((s.reachIn t ts).fireSlot t k due e late) := by
  have go : (s.tileRuns t && s.slotValid t k && s.domState (s.slotX (slotIx t k)).dom == 3) = true := by
    rw [runs, valid, dom]
    rfl
  refine congrArg Host.Outcome.next ((State.happens_eq hp go _).trans ?_)
  have hd' : (s.reachIn t ts).slotFireDue t k = some due := hd
  have made' : (s.reachIn t ts).madeAt t ((s.reachIn t ts).slotCh t k) due = (e, late) := made
  dsimp only
  rw [hd']
  dsimp only
  rw [made']
  exact if_neg (Nat.not_lt.mpr reached)

/-- The own close of a slot, where the guard does not come first (R76). -/
theorem State.ownClose_closes {due g e : Stamp} {late : Bool} {act : Nat} (kind : s.slotAct t k = act) (hd : s.slotCloseDue t k = some due)
    (hg : s.guardDue t k = some g) (before : due.toNat ≤ g.toNat) (made : s.madeAt t (s.slotCh t k) due = (e, late))
    (reached : nsOf e ≤ nsOf ts) : s.happens t ts (fun s => s.tileRuns t) (·.ownClose t k act ts) = (s.reachIn t ts).closeSlot t k e late false := by
  have mine : ¬(!(s.reachIn t ts).slotValid t k || (s.reachIn t ts).slotAct t k != act) = true := by
    rw [show (s.reachIn t ts).slotValid t k = true from valid, show (s.reachIn t ts).slotAct t k = act from kind]
    simp
  have hd' : (s.reachIn t ts).slotCloseDue t k = some due := hd
  have hg' : (s.reachIn t ts).guardDue t k = some g := hg
  have made' : (s.reachIn t ts).madeAt t ((s.reachIn t ts).slotCh t k) due = (e, late) := made
  rw [State.happens_eq hp runs]
  unfold State.ownClose
  rw [if_neg mine, hd', hg']
  dsimp only
  rw [made']
  exact if_neg (fun h => h.elim (Nat.not_lt.mpr before) (Nat.not_lt.mpr reached))

theorem exec_guarded {g e : Stamp} {late : Bool} (hg : s.guardDue t k = some g) (after : ∀ d, s.slotCloseDue t k = some d → g.toNat < d.toNat)
    (made : s.madeAt t (s.slotCh t k) g = (e, late)) (reached : nsOf e ≤ nsOf ts) :
    exec (.guarded t k ts) s = .next ((s.reachIn t ts).closeSlot t k e late true) := by
  have go : (s.tileRuns t && s.slotValid t k) = true := by rw [runs, valid, Bool.and_self]
  refine congrArg Host.Outcome.next ((State.happens_eq hp go _).trans ?_)
  have hg' : (s.reachIn t ts).guardDue t k = some g := hg
  have made' : (s.reachIn t ts).madeAt t ((s.reachIn t ts).slotCh t k) g = (e, late) := made
  have same : (s.reachIn t ts).slotCloseDue t k = s.slotCloseDue t k := rfl
  dsimp only
  rw [hg']
  dsimp only
  rw [made', same]
  have late' : decide (nsOf ts < nsOf e) = false := decide_eq_false (Nat.not_lt.mpr reached)
  cases hd : s.slotCloseDue t k with
  | none => exact if_neg (by simp [late'])
  | some d => exact if_neg (by simp [late', after d hd])

theorem exec_burstEnd {e : Stamp} (phase : s.slotPhase t k = 2) (clear : (s.slotX (slotIx t k)).clear = none) (he : s.burstEnd? t k = some e)
    (reached : nsOf e ≤ nsOf ts) : exec (.burstEnd t k ts) s = .next ((s.reachIn t ts).closeSlot t k e false false) := by
  have go : (s.tileRuns t && s.slotValid t k && s.slotPhase t k == 2 && (s.slotX (slotIx t k)).clear.isNone) = true := by
    rw [runs, valid, phase, clear]
    rfl
  refine congrArg Host.Outcome.next ((State.happens_eq hp go _).trans ?_)
  have he' : (s.reachIn t ts).burstEnd? t k = some e := he
  rw [he']
  exact if_neg (Nat.not_lt.mpr reached)

theorem exec_slotClear {n : Nat} (clear : (s.slotX (slotIx t k)).clear = some n) (reached : n ≤ nsOf ts) :
    exec (.slotClear t k ts) s = .next ((s.reachIn t ts).makeClear t k n) := by
  have go : (s.tileRuns t && s.slotValid t k) = true := by rw [runs, valid, Bool.and_self]
  refine congrArg Host.Outcome.next ((State.happens_eq hp go _).trans ?_)
  have clear' : ((s.reachIn t ts).slotX (slotIx t k)).clear = some n := clear
  rw [clear']
  exact if_neg (Nat.not_lt.mpr reached)

end

/-- A follower that takes its domain's tooth update holds it (R75). -/
theorem exec_followerUpdate {s : State} {t : Fin 64} {f : Fin 4} {ts : Stamp} {q} (hp : s.pstate < 3) (runs : s.tileRuns t = true)
    (on : s.folOn t f = true) (run : (s.fol (4 * t + f)).run = true) (last : (s.dom (s.folDom t f)).last = some q)
    (new : q.te ≠ (s.fol (4 * t + f)).te) (later : (s.fol (4 * t + f)).ns < nsOf ts) :
    ∃ u, exec (.followerUpdate t f ts) s = .next u ∧ u.fol (4 * t + f) = ((s.fol (4 * t + f)).apply q (nsOf ts)).1 := by
  have go : (s.tileRuns t && s.folOn t f && (s.fol (4 * t + f)).run) = true := by
    rw [runs, on, run]
    rfl
  have last' : ((s.reachIn t ts).dom ((s.reachIn t ts).folDom t f)).last = some q := last
  have fresh : ¬(q.te = ((s.reachIn t ts).fol (folIx t f)).te ∨ nsOf ts ≤ ((s.reachIn t ts).fol (folIx t f)).ns) := by
    rintro (h | h)
    · exact new h
    · exact absurd later (Nat.not_lt.mpr h)
  have acts : exec (.followerUpdate t f ts) s = .next (
      let z := ((s.reachIn t ts).setFol (4 * t + f) ((s.fol (4 * t + f)).apply q (nsOf ts)).1).fixSlots t f (nsOf ts) (s.fol (4 * t + f))
        ((s.fol (4 * t + f)).apply q (nsOf ts)).1
      if ((s.fol (4 * t + f)).apply q (nsOf ts)).2.1 then z.bumpW .folStat 16 16 t f else z) := by
    refine congrArg Host.Outcome.next ((State.happens_eq hp go _).trans ?_)
    dsimp only
    rw [last']
    exact if_neg fresh
  refine ⟨_, acts, ?_⟩
  dsimp only
  rw [State.frame.fol (.ite (.bumpW (.fixSlots (.refl ((s.reachIn t ts).setFol (4 * t + f) ((s.fol (4 * t + f)).apply q (nsOf ts)).1)
    (.reg .folStat :: State.frame.fixSlotsParts)))) (.fixSlots (.refl _ _)))]
  exact SMap.at_set_self _ _ _ _

/-- Settles O33: a slot's output goes by `slotEdge_chan`, and what ends the slot leaves its channel. -/
theorem followersAndSlots : Obligations.FollowersAndSlots := by
  unfold Obligations.FollowersAndSlots
  intro m tile slot f v ts s hp t k c x idx runs free level users
  refine ⟨fun hw h => ?stores, fun hw other used => ?drops, fun q run on runs last new later => ?updates,
    fun ⟨run, valid⟩ first ok => ?judges, fun ⟨run, valid⟩ first bad => ?loses,
    fun due e late ⟨run, valid⟩ dom hd made reached held on mode ⟨hb, fresh⟩ => ⟨fun low high => ?fires, fun act => ?opens⟩,
    fun due g e late ⟨run, valid⟩ act hd hg before made reached ⟨hb, fresh⟩ => ?duration,
    fun due g e late ⟨run, valid⟩ act hd hg before made reached ⟨hb, fresh⟩ => ?angle,
    fun g e late ⟨run, valid⟩ hg after made reached ⟨hb, fresh⟩ => ?guards,
    fun e ⟨run, valid⟩ phase clear he reached ⟨hb, fresh⟩ => ?bursts,
    fun n ⟨run, valid⟩ clear reached => ⟨fun act ⟨hb, fresh⟩ => ?clears, fun act => ?shuts⟩⟩
  case stores =>
    have fr := s.arrived_frame .folCtrl t f
    have allowed : getF v 4 4 = (s.arrived .folCtrl t f).folDom t f ∨ (s.arrived .folCtrl t f).folUsers t f = [] := by
      rw [s.arrived_folUsers]
      exact h.imp_left fun e => e.trans (fr.fld .folCtrl _ _ _ _).symm
    obtain ⟨stored, taken⟩ := State.writeFol_stores allowed
    exact ⟨_, congrArg Host.Outcome.next (State.access_eq hw _), stored, fun on => (taken on).trans (congrArg Dom.traj (fr.dom _))⟩
  case drops =>
    have fr := s.arrived_frame .folCtrl t f
    obtain ⟨ctrl, fol⟩ := State.writeFol_drops (s := s.arrived .folCtrl t f) (t := t) (f := f) (v := v)
      (fun e => other (e.trans (fr.fld .folCtrl _ _ _ _))) (by rw [s.arrived_folUsers]; exact used)
    exact ⟨_, congrArg Host.Outcome.next (State.access_eq hw _), ctrl.trans (fr.rd .folCtrl _ _), fol.trans (fr.fol _)⟩
  case updates => exact exec_followerUpdate hp run on runs last new later
  case judges =>
    obtain ⟨judged, kept⟩ := (s.reachIn tile ts).judgeSlot_spec tile slot (nsOf ts)
    exact ⟨_, (exec_slotLoad hp run valid first).trans (congrArg _ (if_pos ok)), judged, kept.trans valid⟩
  case loses =>
    have bad' : ¬(s.reachIn tile ts).slotFolOk tile slot = true := by
      rw [show (s.reachIn tile ts).slotFolOk tile slot = false from bad]
      decide
    exact ⟨_, (exec_slotLoad hp run valid first).trans (congrArg _ (if_neg bad')), (s.reachIn tile ts).loseSlot_noEffect tile slot⟩
  case fires =>
    exact ⟨_, exec_slotFire hp run valid dom hd made reached, State.fireSlot_level (s := s.reachIn tile ts) held on mode hb fresh low high⟩
  case opens => exact ⟨_, exec_slotFire hp run valid dom hd made reached, State.fireSlot_open (s := s.reachIn tile ts) held on mode hb fresh act⟩
  case duration =>
    exact ⟨_, congrArg Host.Outcome.next (State.ownClose_closes hp run valid act hd hg before made reached), (State.closeSlot_chan (s := s.reachIn tile ts) hb fresh _ _).1⟩
  case angle =>
    exact ⟨_, congrArg Host.Outcome.next (State.ownClose_closes hp run valid act hd hg before made reached), (State.closeSlot_chan (s := s.reachIn tile ts) hb fresh _ _).1⟩
  case guards => exact ⟨_, exec_guarded hp run valid hg after made reached, (State.closeSlot_chan (s := s.reachIn tile ts) hb fresh _ _).1⟩
  case bursts => exact ⟨_, exec_burstEnd hp run valid phase clear he reached, State.closeSlot_chan (s := s.reachIn tile ts) hb fresh _ _⟩
  case clears => exact ⟨_, exec_slotClear hp run valid clear reached, State.makeClear_open (s := s.reachIn tile ts) act hb fresh⟩
  case shuts => exact ⟨_, exec_slotClear hp run valid clear reached, State.makeClear_shut (s := s.reachIn tile ts) act⟩

end Sys2Proof.Machine
end


section
/-! PROOFS. The calendar's decisions (R21, R77, R142 to R147, R158, R159). -/

namespace Sys2Proof.Machine

set_option Elab.async false

/-! ## Arming -/

theorem State.calDecides_frame (s : State) (r : Requester) : s.frame (s.calDecides r) [.now, .calTurn] := .calDecides (.refl s _)

theorem State.calDecides_regs (s : State) (r : Requester) : (s.calDecides r).regs = s.regs := by
  unfold State.calDecides
  dsimp only
  split <;> rfl

/-- The words of an arm that is taken, in the registers of entry i (R141, R142). -/
def State.armStored (s : State) (r : Requester) (ws : ArmWords) (i handle phase : Nat) : State :=
  ((((((((s.wr .entryW0 (putF ws.w0 16 8 (ownerCode r)) i).wr .entryW1 ws.w1 i).wr .entryW2 ws.w2 i).wr .entryW3 ws.w3 i).wr .entryW4 ws.w4 i).wr
    .entryW5 ws.w5 i).wr .entryW6 (toW (handle + phase * 65536)) i).wr .entryW7 0 i)

theorem State.armStored_words (s : State) (r : Requester) (ws : ArmWords) (i handle phase : Nat) :
    let u := s.armStored r ws i handle phase
    u.rd .entryW0 i = putF ws.w0 16 8 (ownerCode r) ∧ u.rd .entryW1 i = ws.w1 ∧ u.rd .entryW2 i = ws.w2 ∧ u.rd .entryW3 i = ws.w3 ∧
      u.rd .entryW4 i = ws.w4 ∧ u.rd .entryW5 i = ws.w5 ∧ u.rd .entryW6 i = toW (handle + phase * 65536) := by
  unfold State.armStored
  simp

theorem State.armStored_keeps (s : State) (r : Requester) (ws : ArmWords) (i handle phase : Nat) : s.onlyRegs (s.armStored r ws i handle phase)
    [.entryW0, .entryW1, .entryW2, .entryW3, .entryW4, .entryW5, .entryW6, .entryW7] :=
  .wr (.wr (.wr (.wr (.wr (.wr (.wr (.wr (.refl s _) (by decide) _ _ _) (by decide) _ _ _) (by decide) _ _ _) (by decide) _ _ _) (by decide) _ _ _)
    (by decide) _ _ _) (by decide) _ _ _) (by decide) _ _ _

theorem State.armStored_others (s : State) (r : Requester) (ws : ArmWords) {i j : Nat} (handle phase : Nat) (n : RegName) (h : j ≠ i) :
    (s.armStored r ws i handle phase).rd n j = s.rd n j := by
  have away : ∀ (u : State) m w, (u.wr m w i).rd n j = u.rd n j := fun u m w => u.rd_wr_ne _ _ _ _ _ _ _ (fun e => h (RegKey.mk.inj e).2.1)
  unfold State.armStored
  simp only [away]

section
variable {s : State} {r : Requester} {ws : ArmWords}

/-- The decision as it stands, where the request is the next in its turn (R145). -/
theorem exec_armDecision {ts : Stamp} {a : Nat × Word} {u : State} (h : (s.reachIn islFabric ts).armDecision r ws = (a, u)) :
    exec (.calendarArmDecision r ws ts) s = .next { u with calAnswer := a } := by
  show execCalendarArmDecision r ws ts s = _
  unfold execCalendarArmDecision
  rw [h]

theorem State.arm_absent (h : (s.calDecides r).armAbsent ws = true) : s.armDecision r ws = ((stAbsent, 0), s.calDecides r) := if_pos h

variable (present : (s.calDecides r).armAbsent ws = false)
include present

theorem State.arm_denied (h : (s.calDecides r).armDenied r ws = true) : s.armDecision r ws = ((stDenied, 0), s.calDecides r) :=
  (if_neg (by simp [present])).trans (if_pos h)

variable (allowed : (s.calDecides r).armDenied r ws = false)
include allowed

theorem State.arm_off (h : (s.calDecides r).domState (getF ws.w0 0 4) = 0) :
    s.armDecision r ws = ((stState, toW ((s.calDecides r).unitCode (64 + getF ws.w0 0 4))), s.calDecides r) :=
  (if_neg (by simp [present])).trans ((if_neg (by simp [allowed])).trans (if_pos h))

variable (on : (s.calDecides r).domState (getF ws.w0 0 4) ≠ 0)
include on

theorem State.arm_bad (h : (s.calDecides r).armBad ws = true) : s.armDecision r ws = ((stParam, 0), s.calDecides r) :=
  (if_neg (by simp [present])).trans ((if_neg (by simp [allowed])).trans ((if_neg on).trans (if_pos h)))

variable (good : (s.calDecides r).armBad ws = false)
include good

theorem State.arm_full (h : (s.calDecides r).freeIndex (getF ws.w0 0 4) = none) : s.armDecision r ws = ((stNospace, 0), s.calDecides r) := by
  refine (if_neg (by simp [present])).trans ((if_neg (by simp [allowed])).trans ((if_neg on).trans ((if_neg (by simp [good])).trans ?_)))
  rw [h]

/-- The arm that is taken, in its registers and its entry (R142, R147). -/
def State.armTaken (s : State) (r : Requester) (ws : ArmWords) (i : Nat) : State :=
  let d := getF ws.w0 0 4
  let gen := (s.entry i).gen
  let sync := s.domState d == 3
  let s := s.armStored r ws i (gen * 8192 + i) (if sync then 2 else 1)
  s.setEntry i { gen := gen, due := if sync then s.firstDue i (s.domU d (2 * (s.fabNow + 1))) else 0 }

theorem State.arm_taken {i : Nat} (h : (s.calDecides r).freeIndex (getF ws.w0 0 4) = some i) : s.armDecision r ws =
    ((stOk, toW (((s.calDecides r).entry i).gen * 8192 + i)), (s.calDecides r).armTaken r ws i) := by
  refine (if_neg (by simp [present])).trans ((if_neg (by simp [allowed])).trans ((if_neg on).trans ((if_neg (by simp [good])).trans ?_)))
  rw [h]
  rfl

end

/-! ## Cancelling -/

/-- A field beside the one written, of any index. -/
theorem State.fld_setFld_off (s : State) (n : RegName) {lo len lo' len' : Nat} (v i j i' j' : Nat) (h : lo' + len' ≤ lo ∨ lo + len ≤ lo') :
    (s.setFld n lo len v i j).fld n lo' len' i' j' = s.fld n lo' len' i' j' := by
  by_cases hk : (⟨n, i', j'⟩ : RegKey) = ⟨n, i, j⟩
  · obtain ⟨-, rfl, rfl⟩ := RegKey.mk.inj hk
    simp [State.fld, State.setFld, h]
  · exact congrArg (getF · lo' len') (s.rd_wr_ne _ _ _ _ _ _ _ hk)

theorem State.record_ePhase (s : State) (idx st detail : Nat) (time : Stamp) (x : Entry) (j : Nat) :
    (s.record idx st detail time x).ePhase j = s.ePhase j := by
  unfold State.record
  extract_lets d act dur err w0 w2 w3 put marked told
  have before : s.frame put State.frame.putRecordParts := .putRecord (.refl s _)
  have after : marked.frame (if told.flag .entryW0 10 idx then told.offer 6 d w0 (if dur.isSome then w3 else w2) time else told)
      (State.frame.notifyParts ++ [.offers, .lastEv]) := .ite (.offer (.notify (.refl _ _))) (.notify (.refl _ _))
  exact (after.fld .entryW6 _ _ _ _).trans ((put.fld_setFld_off _ _ _ _ _ _ (by decide)).trans (before.fld .entryW6 _ _ _ _))

theorem State.record_entry (s : State) (idx st detail : Nat) (time : Stamp) (x : Entry) (j : Nat) :
    (s.record idx st detail time x).entry j = s.entry j :=
  State.frame.entry (.record (.refl s State.frame.recordParts)) j

theorem State.freeEntry_ePhase (s : State) (idx j : Nat) : (s.freeEntry idx).ePhase j = if j = idx then 0 else s.ePhase j := by
  have written : (s.freeEntry idx).ePhase j = (s.setPhase idx 0).ePhase j := by
    unfold State.freeEntry
    refine (State.frame.fld (.setEntry (.wr (.refl _ [.entries, .reg .entryW7]))) .entryW6 _ _ _ _).trans ?_
    exact State.fld_setFld_off _ _ _ _ _ _ _ (by decide)
  rw [written]
  split
  next e => exact e ▸ State.fld_setFld_self _ _ _ _ _ _ _ (by decide)
  next e => exact congrArg (getF · 16 3) (State.rd_wr_index _ _ _ _ _ _ _ e)

theorem State.freeEntry_gen (s : State) (idx : Nat) : ((s.freeEntry idx).entry idx).gen = nextGen (s.entry idx).gen :=
  congrArg Entry.gen (SMap.at_set_self _ _ _ _)

/-- A cancel frees its entry, and leaves every other one in its phase (R158). -/
theorem State.cancelEntry_spec (s : State) (idx : Nat) : (∀ j, (s.cancelEntry idx).ePhase j = if j = idx then 0 else s.ePhase j) ∧
    ((s.cancelEntry idx).entry idx).gen = nextGen (s.entry idx).gen := by
  unfold State.cancelEntry State.endAs
  extract_lets t cleared
  have fr : s.frame cleared [.slots] := .ite (.clearSlot (.refl s _)) (.refl s _)
  refine ⟨fun j => ?_, ?_⟩
  · rw [State.freeEntry_ePhase, State.record_ePhase]
    exact congrArg (if j = idx then 0 else ·) (fr.fld .entryW6 _ _ _ _)
  · rw [State.freeEntry_gen, State.record_entry, fr.entry]

section
variable {s : State} {r : Requester} {h : Nat}

theorem exec_cancelDecision {handle : BitVec 16} {ts : Stamp} {st : Nat} {u : State}
    (h : (s.reachIn islFabric ts).cancelDecision r handle.toNat = (st, u)) :
    exec (.calendarCancelDecision r handle ts) s = .next { u with calAnswer := (st, toW handle.toNat) } := by
  show execCalendarCancelDecision r handle ts s = _
  unfold execCalendarCancelDecision
  rw [h]

/-- The handle of an entry that has ended (R158). -/
def State.endedHandle (s : State) (h : Nat) : Prop :=
  s.ePhase (h % 8192) = 0 ∧ h / 8192 % 8 ≠ 0 ∧ (s.entry (h % 8192)).gen = nextGen (h / 8192 % 8)

theorem State.endedHandle_iff (s : State) (h : Nat) : s.endedHandle h ↔
    (s.ePhase (h % 8192) == 0 && h / 8192 % 8 != 0 && (s.entry (h % 8192)).gen == nextGen (h / 8192 % 8)) = true := by
  unfold State.endedHandle
  simp [and_assoc]

/-- What a cancel that comes too late leaves: its count. -/
def State.tooLate (s : State) (idx : Nat) : State := s.bumpW .calCnt2 16 16 (s.eDom idx)

theorem State.cancel_outranks (ended : (s.calDecides r).endedHandle h)
    (first : ((s.calDecides r).entry (h % 8192)).cancelled = (s.calDecides r).fabNow + 1) :
    ∃ x, s.cancelDecision r h = (stOk, (s.calDecides r).setEntry (h % 8192) x) := by
  rw [State.endedHandle_iff] at ended
  refine ⟨{ (s.calDecides r).entry (h % 8192) with cancelled := 0 }, if_pos ?_⟩
  rw [ended, first]
  simp

/-- Whether a cancel comes from a task that does not own the entry. -/
def State.cancelDenied (s : State) (r : Requester) (idx : Nat) : Bool := s.taskReq r && s.eOwner idx != ownerCode r

variable (later : (s.calDecides r).endedHandle h → ((s.calDecides r).entry (h % 8192)).cancelled ≠ (s.calDecides r).fabNow + 1)
include later

theorem State.cancel_later : ¬((s.calDecides r).ePhase (h % 8192) == 0 && h / 8192 % 8 != 0 &&
    ((s.calDecides r).entry (h % 8192)).gen == nextGen (h / 8192 % 8) &&
    ((s.calDecides r).entry (h % 8192)).cancelled == (s.calDecides r).fabNow + 1) = true := by
  rw [Bool.and_eq_true, ← State.endedHandle_iff]
  rintro ⟨ended, first⟩
  exact later ended (beq_iff_eq.mp first)

theorem State.cancel_acts (ended : (s.calDecides r).endedHandle h)
    (acts : ((s.calDecides r).entry (h % 8192)).justFired (nsOf ((s.calDecides r).clock islFabric)) = true) : s.cancelDecision r h =
    if (s.calDecides r).cancelDenied r (h % 8192) then (stDenied, s.calDecides r) else (stTooLate, (s.calDecides r).tooLate (h % 8192)) := by
  have late := State.cancel_later later
  rw [State.endedHandle_iff] at ended
  refine (if_neg late).trans (if_pos ?_)
  rw [ended, acts]
  rfl

variable (idle : (s.calDecides r).endedHandle h → ((s.calDecides r).entry (h % 8192)).justFired (nsOf ((s.calDecides r).clock islFabric)) = false)
include idle

omit later in
theorem State.cancel_idle : ¬((s.calDecides r).ePhase (h % 8192) == 0 && h / 8192 % 8 != 0 &&
    ((s.calDecides r).entry (h % 8192)).gen == nextGen (h / 8192 % 8) &&
    ((s.calDecides r).entry (h % 8192)).justFired (nsOf ((s.calDecides r).clock islFabric))) = true := by
  rw [Bool.and_eq_true, ← State.endedHandle_iff]
  rintro ⟨ended, acts⟩
  rw [idle ended] at acts
  cases acts

theorem State.cancel_stale (stale : (s.calDecides r).ePhase (h % 8192) = 0 ∨ h / 8192 % 8 = 0 ∨
      h / 8192 % 8 ≠ ((s.calDecides r).entry (h % 8192)).gen) :
    ∃ u, s.cancelDecision r h = (stStale, u) ∧ (s.calDecides r).frame u [.reg .calCnt3] := by
  refine ⟨_, (if_neg (State.cancel_later later)).trans ((if_neg (State.cancel_idle idle)).trans (if_pos stale)), ?_⟩
  split
  · exact .bump (.refl _ _)
  · exact .refl _ _

omit later idle

variable (running : ¬(s.calDecides r).endedHandle h) (live : ¬((s.calDecides r).ePhase (h % 8192) = 0 ∨ h / 8192 % 8 = 0 ∨
  h / 8192 % 8 ≠ ((s.calDecides r).entry (h % 8192)).gen))
include running live

theorem State.cancel_live : s.cancelDecision r h = if (s.calDecides r).cancelDenied r (h % 8192) then (stDenied, s.calDecides r)
      else if (s.calDecides r).cancellable (h % 8192) &&
        !((s.calDecides r).entry (h % 8192)).justFired (nsOf ((s.calDecides r).clock islFabric))
      then (stOk, (s.calDecides r).cancelEntry (h % 8192)) else (stTooLate, (s.calDecides r).tooLate (h % 8192)) :=
  (if_neg (State.cancel_later fun e => (running e).elim)).trans ((if_neg (State.cancel_idle fun e => (running e).elim)).trans (if_neg live))

variable (allowed : ¬(s.calDecides r).cancelDenied r (h % 8192) = true)
include allowed

theorem State.cancel_ends (can : (s.calDecides r).cancellable (h % 8192) = true)
    (idle : ((s.calDecides r).entry (h % 8192)).justFired (nsOf ((s.calDecides r).clock islFabric)) = false) :
    s.cancelDecision r h = (stOk, (s.calDecides r).cancelEntry (h % 8192)) := by
  refine (State.cancel_live running live).trans ((if_neg allowed).trans (if_pos ?_))
  rw [can, idle]
  rfl

theorem State.cancel_late (not : (s.calDecides r).cancellable (h % 8192) = false ∨
      ((s.calDecides r).entry (h % 8192)).justFired (nsOf ((s.calDecides r).clock islFabric)) = true) :
    s.cancelDecision r h = (stTooLate, (s.calDecides r).tooLate (h % 8192)) := by
  refine (State.cancel_live running live).trans ((if_neg allowed).trans (if_neg ?_))
  rcases not with h | h
  · rw [h]
    simp
  · rw [h]
    simp

end

/-! ## Flushing -/

/-- The entries that a flush ends (R159). -/
def State.flushed (s : State) (r : Requester) (d : Nat) : List Nat :=
  (s.entriesOf d).filter (fun i => s.cancellable i && (!s.taskReq r || s.eOwner i == ownerCode r))

theorem State.flush_ePhase (s : State) (l : List Nat) : (∀ i ∈ l, (s.each l (fun s i => s.cancelEntry i)).ePhase i = 0) ∧
    ∀ i, i ∉ l → (s.each l (fun s i => s.cancelEntry i)).ePhase i = s.ePhase i := by
  have one := fun (u : State) a j => (u.cancelEntry_spec a).1 j
  refine ⟨fun i hi => ?_, fun i hi => ?_⟩
  · refine State.each_sets (I := fun _ => True) (P := fun u => u.ePhase i = 0) hi trivial (fun _ _ _ => trivial)
      (fun u _ => (one u i i).trans (if_pos rfl)) fun u a zero => ?_
    rw [one, zero, ite_self]
  · refine State.each_inv (I := fun u => u.ePhase i = s.ePhase i) rfl fun u a ha same => ?_
    exact (one u a i).trans ((if_neg (fun e : i = a => hi (e ▸ ha))).trans same)

theorem State.keeps.answer {s u : State} {l : List RegName} (h : s.keeps u l) (a : Nat × Word) : s.keeps { u with calAnswer := a } l :=
  fun n i j hn => h n i j hn

theorem State.answer_seen (s : State) (a : Nat × Word) : ({ s with calAnswer := a } : State).calAnswer = a ∧
    ({ s with calAnswer := a } : State).regs = s.regs ∧ ({ s with calAnswer := a } : State).entries = s.entries := ⟨rfl, rfl, rfl⟩

theorem State.answer_rd (s : State) (a : Nat × Word) (n : RegName) (i j : Nat) : ({ s with calAnswer := a } : State).rd n i j = s.rd n i j := rfl

theorem State.setEntry_rd (s : State) (k : Nat) (x : Entry) (n : RegName) (i j : Nat) : (s.setEntry k x).rd n i j = s.rd n i j := rfl

theorem ownerCode_lt (r : Requester) : ownerCode r < 256 := by
  cases r with
  | ctx x => exact Nat.lt_trans x.isLt (by decide)
  | keystone => decide
  | supervisor => decide
  | host => decide

/-- The registers of an arm that is taken (R141, R147). -/
theorem State.armTaken_spec (s : State) (r : Requester) (ws : ArmWords) (i : Nat) :
    let u := s.armTaken r ws i
    (u.eDom i = getF ws.w0 0 4 ∧ u.eOwner i = ownerCode r ∧ u.rd .entryW1 i = ws.w1 ∧ u.rd .entryW2 i = ws.w2 ∧ u.rd .entryW3 i = ws.w3 ∧
      u.rd .entryW4 i = ws.w4 ∧ u.rd .entryW5 i = ws.w5 ∧
      u.rd .entryW6 i = toW ((s.entry i).gen * 8192 + i + (if s.domState (getF ws.w0 0 4) = 3 then 2 else 1) * 65536)) ∧
    s.keeps u [.entryW0, .entryW1, .entryW2, .entryW3, .entryW4, .entryW5, .entryW6, .entryW7] ∧ ∀ n j, j ≠ i → u.rd n j = s.rd n j := by
  have sync : (if (s.domState (getF ws.w0 0 4) == 3) = true then 2 else 1) = (if s.domState (getF ws.w0 0 4) = 3 then 2 else 1) := by simp
  have kept := (s.armStored_keeps r ws i ((s.entry i).gen * 8192 + i) (if s.domState (getF ws.w0 0 4) == 3 then 2 else 1)).keeps
  obtain ⟨w0, w1, w2, w3, w4, w5, w6⟩ :=
    s.armStored_words r ws i ((s.entry i).gen * 8192 + i) (if s.domState (getF ws.w0 0 4) == 3 then 2 else 1)
  have same : ∀ n j k, (s.armTaken r ws i).rd n j k = (s.armStored r ws i ((s.entry i).gen * 8192 + i)
    (if s.domState (getF ws.w0 0 4) == 3 then 2 else 1)).rd n j k := fun n j k => State.setEntry_rd _ _ _ _ _ _
  simp only [State.eDom, State.eOwner, State.eF, State.fld, State.keeps, same]
  refine ⟨⟨?_, ?_, w1, w2, w3, w4, w5, w6.trans (by rw [sync])⟩, kept, fun n j hj => s.armStored_others r ws _ _ n hj⟩
  · rw [w0]
    exact getF_putF_off _ _ _ _ _ _ (by decide)
  · rw [w0]
    exact (getF_putF_same _ _ _ _ (by decide)).trans (Nat.mod_eq_of_lt (ownerCode_lt r))

/-- The arm that is taken as the requester sees it. -/
theorem State.armTaken_answered {s z : State} (rd : ∀ n i j, z.rd n i j = s.rd n i j) (r : Requester) (ws : ArmWords) (i : Nat) (a : Nat × Word) :
    let t : State := { z.armTaken r ws i with calAnswer := a }
    t.calAnswer = a ∧ t.rd .entryW1 i = ws.w1 ∧ t.rd .entryW2 i = ws.w2 ∧ t.rd .entryW3 i = ws.w3 ∧ t.rd .entryW4 i = ws.w4 ∧
      t.rd .entryW5 i = ws.w5 ∧ t.eDom i = getF ws.w0 0 4 ∧ t.eOwner i = ownerCode r ∧
      t.rd .entryW6 i = toW ((z.entry i).gen * 8192 + i + (if z.domState (getF ws.w0 0 4) = 3 then 2 else 1) * 65536) ∧
      s.keeps t [.entryW0, .entryW1, .entryW2, .entryW3, .entryW4, .entryW5, .entryW6, .entryW7] ∧ ∀ n j, j ≠ i → t.rd n j = s.rd n j := by
  obtain ⟨⟨dom, owner, w1, w2, w3, w4, w5, w6⟩, kept, others⟩ := z.armTaken_spec r ws i
  generalize z.armTaken r ws i = u at *
  exact ⟨rfl, w1, w2, w3, w4, w5, dom, owner, w6, State.keeps.answer (fun n i j hn => (kept n i j hn).trans (rd n i j)) _,
    fun n j hj => (others n j hj).trans (rd n j 0)⟩

/-- Settles O34: the arm by the tests of R145 in their order, the cancel by what has become of its entry. -/
theorem calendarDecisions : Obligations.CalendarDecisions := by
  unfold Obligations.CalendarDecisions
  intro r ws handle dom ts s z d h idx gen x acts outranks ended barred late no mine
  have fr : s.frame z [.now, .calTurn] := .calDecides (.reachIn (.refl s _))
  have regs : z.regs = s.regs := State.calDecides_regs _ _
  have rd : ∀ n i j, z.rd n i j = s.rd n i j := fun n i j => (fr (.reg n) (by simp)).1 i j
  have denied : ∀ (b : Bool), (z.cancelDenied r idx = b) → (barred ↔ b = true) := by
    rintro b rfl
    show _ ↔ (z.taskReq r && z.eOwner idx != ownerCode r) = true
    rw [Bool.and_eq_true, bne_iff_ne]
  have tooLate : (s.reachIn islFabric ts).cancelDecision r h = (stTooLate, z.tooLate idx) → late := fun e => by
    exact ⟨_, exec_cancelDecision e, rfl, State.keeps.answer (State.frame.keeps (.bumpW (fr.mono (by decide)) (hl :=
      (by decide : .reg .calCnt2 ∈ [StatePart.now, .calTurn, .reg .calCnt2])))) _⟩
  have live : z.ePhase idx ≠ 0 → gen ≠ 0 → gen = x.gen → ¬(z.ePhase idx = 0 ∨ gen = 0 ∨ gen ≠ x.gen) := fun h1 h2 h3 h =>
    h.elim h1 (fun h => h.elim h2 (fun h => h h3))
  have deniedAnswer : (s.reachIn islFabric ts).cancelDecision r h = (stDenied, z) →
      exec (.calendarCancelDecision r handle ts) s = no stDenied (toW h) := fun e => exec_cancelDecision e
  refine ⟨fun h => exec_armDecision (State.arm_absent h), fun p h => exec_armDecision (State.arm_denied p h),
    fun p a h => exec_armDecision (State.arm_off p a h), fun p a o h => exec_armDecision (State.arm_bad p a o h),
    fun p a o g h => exec_armDecision (State.arm_full p a o g h), fun i p a o g free => ?taken, fun gone idle => ?stale, fun e first => ?outranks,
    fun e later fired => ⟨fun no => ?deniedEnded, fun ok => ?lateEnded⟩, fun phase some same => ⟨fun no => ?deniedLive, fun ok can idle => ?cancels,
    fun ok not => ?lateLive⟩, fun far => ?absent, fun near => ?flushes⟩
  case taken =>
    exact ⟨_, exec_armDecision (State.arm_taken p a o g free), State.armTaken_answered rd r ws i _⟩
  case stale =>
    obtain ⟨u, acts, kept⟩ := State.cancel_stale (fun e => (idle e).1) (fun e => (idle e).2) gone
    have kept : s.keeps u [.calCnt3] := State.frame.keeps (l := [.now, .calTurn, .reg .calCnt3]) ((fr.mono (by decide)).trans (kept.mono (by decide)))
    exact ⟨_, exec_cancelDecision acts, rfl, kept.answer _⟩
  case outranks =>
    obtain ⟨x, acts⟩ := State.cancel_outranks e first
    exact ⟨_, exec_cancelDecision acts, rfl, regs⟩
  case deniedEnded =>
    refine deniedAnswer ((State.cancel_acts (fun _ => later) e fired).trans (if_pos ?_))
    exact (denied _ rfl).mp no
  case lateEnded =>
    refine tooLate ((State.cancel_acts (fun _ => later) e fired).trans (if_neg ?_))
    exact fun h => ok ((denied _ rfl).mpr h)
  case deniedLive =>
    exact deniedAnswer ((State.cancel_live (phase ·.1) (live phase some same)).trans (if_pos ((denied _ rfl).mp no)))
  case cancels =>
    have acts := State.cancel_ends (phase ·.1) (live phase some same) (fun h => ok ((denied _ rfl).mpr h)) can idle
    obtain ⟨phases, gen'⟩ := z.cancelEntry_spec idx
    exact ⟨_, exec_cancelDecision acts, rfl, (phases idx).trans (if_pos rfl), gen'⟩
  case lateLive =>
    exact tooLate (State.cancel_late (phase ·.1) (live phase some same) (fun h => ok ((denied _ rfl).mpr h)) not)
  case absent => exact ⟨_, if_pos far, rfl, rfl⟩
  case flushes =>
    obtain ⟨freed, others⟩ := z.flush_ePhase mine
    exact ⟨_, if_neg (Nat.not_le.mpr near), rfl, freed, fun i hi => (others i hi).trans (fr.fld .entryW6 _ _ _ _)⟩

end Sys2Proof.Machine
end


section
/-! PROOFS. The calendar stages, issues and keeps its registers (R140, R149 to R151, R156). -/

namespace Sys2Proof.Machine

set_option Elab.async false

/-! ## The entries of a domain -/

theorem State.entriesUsed_eq (s : State) :
    s.entriesUsed = ((s.rows .entryW6).filter (fun e => decide (getF e.2 16 3 ≠ 0))).map (fun e => e.1.i) := by
  unfold State.entriesUsed State.rows
  rw [List.filter_filter]
  congr 2
  funext e
  exact Bool.and_comm _ _

namespace State.frame

variable {s u : State} {l : List StatePart}

theorem entriesUsed (h : s.frame u l) (hn : .reg .entryW6 ∉ l := by decide) : u.entriesUsed = s.entriesUsed := by
  rw [State.entriesUsed_eq, State.entriesUsed_eq, h.rows .entryW6 hn]

theorem entriesOf (h : s.frame u l) (d : Nat) (hn : .reg .entryW6 ∉ l := by decide) (h0 : .reg .entryW0 ∉ l := by decide) :
    u.entriesOf d = s.entriesOf d := by
  unfold State.entriesOf State.eDom State.eF
  simp only [h.entriesUsed hn, h.fld .entryW0 _ _ _ _ h0]

theorem ctx (h : s.frame u l) (x : Nat) (hn : .ctxs ∉ l := by decide) : u.ctx x = s.ctx x := by
  unfold State.ctx
  rw [(h .ctxs hn : u.ctxs = s.ctxs)]

end State.frame

/-! ## Staging -/

theorem getF_toW {n lo len : Nat} (h : n < 2 ^ 32) : getF (toW n) lo len = n / 2 ^ lo % 2 ^ len := by
  unfold getF toW
  rw [BitVec.toNat_ofNat, Nat.mod_eq_of_lt h, Nat.shiftRight_eq_div_pow]

/-- The word of SLOT_CTRL of a slot that is filled (R148). -/
theorem slotCtrl_fields {ch act handle : Nat} (hc : ch < 8) (ha : act < 16) (hh : handle < 65536) :
    let w := toW (1 + ch * 2 + act * 16 + handle * 65536)
    getB w 0 = true ∧ getF w 1 3 = ch ∧ getF w 4 4 = act ∧ getF w 16 13 = handle % 8192 := by
  intro w
  have small : 1 + ch * 2 + act * 16 + handle * 65536 < 2 ^ 32 := by omega
  have valid : getF w 0 1 = 1 := (getF_toW small).trans (by omega)
  rw [getF_bit] at valid
  refine ⟨?_, (getF_toW small).trans (by omega), (getF_toW small).trans (by omega), (getF_toW small).trans (by omega)⟩
  cases h : getB w 0 with
  | true => rfl
  | false =>
    rw [h] at valid
    cases valid

theorem State.fillSlot_ctrl (s : State) (t k d handle ch act angle delay close guard : Nat) (j : Nat) :
    (s.fillSlot t k d handle ch act angle delay close guard).rd .slotCtrl t j =
      if j = k then toW (1 + ch * 2 + act * 16 + handle * 65536) else s.rd .slotCtrl t j := by
  unfold State.fillSlot
  extract_lets ctrl turned timed placed
  have after : ctrl.frame (placed.setFld .calSlotuse 8 5 (max (placed.fld .calSlotuse 8 5 t) (placed.slotsUsed t)) t)
      [.slots, .reg .slotAngle, .reg .slotDelay, .reg .slotClose, .reg .slotGuard, .reg .calSlotuse] :=
    .setFld (.setSlotX (.wr (.wr (.wr (.wr (.refl ctrl _))))))
  refine (after.rd .slotCtrl _ _).trans ?_
  split
  next e => exact e ▸ State.rd_wr_self _ _ _ _ _
  next e => exact State.rd_wr_second _ _ _ _ _ _ _ e

/-- An entry in its slot (R148, R149). -/
theorem State.stage_spec (s : State) (idx t k : Nat) :
    let u := s.stage idx t k
    u.slotValid t k = true ∧ u.ePhase idx = 3 ∧ u.slotIdx t k = s.fld .entryW6 0 13 idx ∧ u.slotCh t k = s.eF .entryW3 0 3 idx ∧
      u.slotAct t k = s.eAct idx ∧ u.rd .entryW7 idx = toW (t + k * 64) ∧ ∀ j, j ≠ k → u.slotValid t j = s.slotValid t j := by
  obtain ⟨f, d, angle, delay, close, guard, staged⟩ : ∃ f d angle delay close guard, s.stage idx t k =
      (((s.onEntry idx f).setPhase idx 3).wr .entryW7 (toW (t + k * 64)) idx).fillSlot t k d
        ((((s.onEntry idx f).setPhase idx 3).wr .entryW7 (toW (t + k * 64)) idx).fld .entryW6 0 16 idx)
        ((((s.onEntry idx f).setPhase idx 3).wr .entryW7 (toW (t + k * 64)) idx).eF .entryW3 0 3 idx) (s.eAct idx) angle delay close guard :=
    ⟨_, _, _, _, _, _, rfl⟩
  generalize hy : (s.onEntry idx f).setPhase idx 3 = y at staged
  generalize hz : y.wr .entryW7 (toW (t + k * 64)) idx = z at staged
  have fr : s.frame z [.entries, .reg .entryW6, .reg .entryW7] := by
    subst hy hz
    exact .wr (.setPhase (.onEntry (.refl s _)))
  have tail : y.frame z [.reg .entryW7] := hz ▸ .wr (.refl y _)
  have handle : z.fld .entryW6 0 16 idx = s.fld .entryW6 0 16 idx := by
    rw [tail.fld .entryW6, ← hy]
    exact State.fld_setFld_off _ _ _ _ _ _ _ (by decide)
  have phase : z.ePhase idx = 3 := by
    refine (tail.fld .entryW6 _ _ _ _).trans ?_
    rw [← hy]
    exact State.fld_setFld_self _ _ _ _ _ _ _ (by decide)
  have channel : z.eF .entryW3 0 3 idx = s.eF .entryW3 0 3 idx := fr.fld .entryW3 _ _ _ _
  have filled : z.frame (s.stage idx t k) State.frame.fillSlotParts := staged ▸ .fillSlot (.refl z _)
  have own := fun j => z.fillSlot_ctrl t k d (z.fld .entryW6 0 16 idx) (z.eF .entryW3 0 3 idx) (s.eAct idx) angle delay close guard j
  rw [← staged, handle, channel] at own
  obtain ⟨valid, chan, act, index⟩ := slotCtrl_fields (s.fld_lt .entryW3 0 3 idx 0) (s.fld_lt .entryW0 4 4 idx 0) (s.fld_lt .entryW6 0 16 idx 0)
  have ctrl := (own k).trans (if_pos rfl)
  refine ⟨(congrArg (getB · 0) ctrl).trans valid, (filled.fld .entryW6 _ _ _ _).trans phase, (congrArg (getF · 16 13) ctrl).trans (index.trans ?_),
    (congrArg (getF · 1 3) ctrl).trans chan, (congrArg (getF · 4 4) ctrl).trans act, (filled.rd .entryW7 _ _).trans ?_, fun j hj => ?_⟩
  · exact Nat.mod_mod_of_dvd _ (by decide)
  · rw [← hz]
    exact State.rd_wr_self _ _ _ _ _
  · refine (congrArg (getB · 0) ((own j).trans (if_neg hj))).trans ?_
    exact congrArg (getB · 0) (fr.rd .slotCtrl _ _)

/-! ## Issuing -/

section
variable {s : State} {idx : Nat} (quiet : s.flag .entryW0 9 idx = false)
include quiet

/-- The record of an entry that notifies nobody. -/
theorem State.record_quiet (st detail : Nat) (time : Stamp) (x : Entry) :
    s.frame (s.record idx st detail time x) (State.frame.putRecordParts ++ [.reg .entryW6, .offers, .lastEv]) := by
  unfold State.record
  extract_lets d act dur err w0 w2 w3 put marked told
  have before : s.frame marked (State.frame.putRecordParts ++ [.reg .entryW6]) := .setFld (.putRecord (.refl s _))
  have none : told = marked := by
    unfold told State.notify
    dsimp only
    rw [before.flag .entryW0 9, quiet]
    rfl
  rw [none]
  exact .ite (.offer (before.mono (by decide))) (before.mono (by decide))

theorem State.finish_quiet (time : Stamp) :
    s.frame (s.finish idx time) (State.frame.putRecordParts ++ [.offers, .lastEv] ++ State.frame.rearmParts ++ State.frame.freeEntryParts) := by
  unfold State.finish
  extract_lets x recorded
  have written := (State.record_quiet quiet x.status x.detail (x.first.getD time) x).mono
    (l' := State.frame.putRecordParts ++ [.offers, .lastEv] ++ State.frame.rearmParts ++ State.frame.freeEntryParts) (by decide)
  exact .ite (.rearm written) (.freeEntry written)

end

section
variable {s : State} {idx : Nat} (quiet : s.flag .entryW0 9 idx = false)
include quiet

theorem State.ended_quiet (e : Stamp) : s.frame (s.ended idx e)
    (State.frame.putRecordParts ++ [.offers, .lastEv] ++ State.frame.rearmParts ++ State.frame.freeEntryParts) := by
  unfold State.ended
  extract_lets noted
  have first : s.frame noted [.entries] := .onEntry (.refl s _)
  have last := (State.finish_quiet (s := noted) (idx := idx) ((first.flag .entryW0 9 _ _).trans quiet) e)
  exact .ite (.setPhase (first.mono (by decide))) ((first.mono (by decide)).trans last)

end

theorem State.post_takes {s : State} {x : Nat} (running : s.ctxState x = 2) (room : (s.ctx x).evq.length < 8) (value tag : Word) :
    ((s.post x value tag).ctx x).evq = (s.ctx x).evq ++ [(value, tag)] := by
  unfold State.post
  dsimp only
  rw [if_pos ⟨.inl running, room⟩]
  exact congrArg Ctx.evq (SMap.at_set_self _ _ _ _)

/-- What an issue makes of its entry (R151). -/
def State.issueMade (s : State) (i cyc : Nat) : State :=
  let x := s.entry i
  let e := toS (32 * cyc)
  let (late, s) := ({ s with calIssue := cyc }).issueAct i e
  let s := s.acted i e (x.cross.getD e) x.target x.jumped (decide (late ≠ 0)) false (max x.detail late)
  let s := if late ≠ 0 then s.onEntry i (fun x => { x with span := false }) else s
  s.ended i e

theorem State.issueMade_eq (s : State) (i cyc : Nat) : ∃ z : State, z.frame (s.issueMade i cyc) (.entries :: State.frame.endedParts) ∧
    z = (({ s with calIssue := cyc } : State).issueAct i (toS (32 * cyc))).2 ∧ ∃ y : State, z.frame y [.entries] ∧
      s.issueMade i cyc = y.ended i (toS (32 * cyc)) := by
  unfold State.issueMade
  extract_lets x e
  rcases hr : ({ s with calIssue := cyc } : State).issueAct i e with ⟨late, z⟩
  dsimp only
  have fr : z.frame (if late ≠ 0 then (z.acted i e (x.cross.getD e) x.target x.jumped (decide (late ≠ 0)) false (max x.detail late)).onEntry i
      (fun x => { x with span := false }) else z.acted i e (x.cross.getD e) x.target x.jumped (decide (late ≠ 0)) false (max x.detail late)) [.entries] :=
    .ite (.onEntry (.acted (.refl z _))) (.acted (.refl z _))
  exact ⟨z, .ended (fr.mono (by decide)), rfl, _, fr, rfl⟩

theorem State.issueMade_calIssue (s : State) (i cyc : Nat) : (s.issueMade i cyc).calIssue = cyc := by
  obtain ⟨z, after, hz, -⟩ := s.issueMade_eq i cyc
  have before : ({ s with calIssue := cyc } : State).frame z State.frame.issueActParts := hz ▸ .issueAct (.refl _ _)
  exact (after .calIssue (by decide)).trans (before .calIssue (by decide))

/-- A POST entry posts its event (R151). -/
theorem State.issueMade_post {s : State} {i : Nat} (cyc : Nat) (act : s.eAct i = 9) (quiet : s.flag .entryW0 9 i = false)
    (running : s.ctxState (s.rd .entryW3 i).toNat = 2) (room : (s.ctx (s.rd .entryW3 i).toNat).evq.length < 8) :
    ((s.issueMade i cyc).ctx (s.rd .entryW3 i).toNat).evq =
      (s.ctx (s.rd .entryW3 i).toNat).evq ++ [(s.rd .entryW4 i, evTag 0 (s.eDom i))] := by
  obtain ⟨z, -, hz, y, fr, made⟩ := s.issueMade_eq i cyc
  have posted : z = ({ s with calIssue := cyc } : State).post (s.rd .entryW3 i).toNat (s.rd .entryW4 i) (evTag 0 (s.eDom i)) := by
    rw [hz]
    unfold State.issueAct
    dsimp only
    rw [show State.eAct ({ s with calIssue := cyc } : State) i = 9 from act]
    rfl
  have event : (z.ctx (s.rd .entryW3 i).toNat).evq = (s.ctx (s.rd .entryW3 i).toNat).evq ++ [(s.rd .entryW4 i, evTag 0 (s.eDom i))] := by
    have taken := State.post_takes (s := ({ s with calIssue := cyc } : State)) running room (s.rd .entryW4 i) (evTag 0 (s.eDom i))
    rw [posted]
    exact taken
  have before : ({ s with calIssue := cyc } : State).frame y (.entries :: State.frame.postParts) :=
    State.frame.trans (posted ▸ .post (.refl _ _)) (fr.mono (by decide))
  have ended := State.ended_quiet (s := y) ((before.flag .entryW0 9 _ _).trans quiet) (toS (32 * cyc))
  rw [made, ended.ctx, fr.ctx]
  exact event

section
variable {s : State} {e : Fin 8192} {ts : Stamp} (hp : s.pstate < 3)
include hp

section
variable (stageable : s.stageable e (nsOf ts) = true) (open_ : s.calHeld = false) (free : s.tileBars (s.eTile e) = false)
  (alone : ∀ j ∈ s.entriesOf (s.eDom e), j ≠ e.val → s.eTile j ≠ s.eTile e)
include stageable open_ free alone

omit hp in
theorem staging_lets : (s.stageable e (nsOf ts) && !s.calHeld && !s.tileBars (s.eTile e)) = true ∧
    (!(s.entriesOf (s.eDom e)).all (fun j => j == e.val || s.eTile j != s.eTile e || !s.stageable j (nsOf ts) ||
      decide (s.eTarget e < s.eTarget j ∨ (s.eTarget e = s.eTarget j ∧ e.val < j)))) = false := by
  refine ⟨by rw [stageable, open_, free]; rfl, ?_⟩
  rw [Bool.not_eq_false', List.all_eq_true]
  intro j hj
  by_cases h : j = e.val
  · simp [h]
  · simp [alone j hj h]

theorem exec_staging_stages {k : Nat} (hk : s.freeSlot (s.eTile e) = some k) :
    exec (.staging e ts) s = .next ((s.reachIn islFabric ts).stage e (s.eTile e) k) := by
  obtain ⟨go, first⟩ := staging_lets stageable open_ free alone
  refine congrArg Host.Outcome.next ((State.happens_eq hp go _).trans ((if_neg (Bool.eq_false_iff.mp first)).trans ?_))
  rw [show (s.reachIn islFabric ts).freeSlot ((s.reachIn islFabric ts).eTile e) = some k from hk]
  rfl

theorem exec_staging_waits (full : s.freeSlot (s.eTile e) = none) (new : (s.entry e).waits = false) : exec (.staging e ts) s =
    .next (((s.reachIn islFabric ts).onEntry e (fun x => { x with waits := true })).bump .calSlotuse 16 16 (s.eTile e)) := by
  obtain ⟨go, first⟩ := staging_lets stageable open_ free alone
  refine congrArg Host.Outcome.next ((State.happens_eq hp go _).trans ((if_neg (Bool.eq_false_iff.mp first)).trans ?_))
  rw [show (s.reachIn islFabric ts).freeSlot ((s.reachIn islFabric ts).eTile e) = none from full]
  exact if_neg (Bool.eq_false_iff.mp new)

end

theorem exec_issue_now {due : Nat} (phase : s.ePhase e = 2) (open_ : s.calHeld = false) (hd : (s.entry e).issueDue = some due)
    (alone : ∀ p ∈ s.issueList, p.2.2 = e.val) (reached : max (divUp due 32) (s.calIssue + 1) ≤ fabCycle ts) :
    exec (.calendarActionIssue e ts) s = .next ((s.reachIn islFabric ts).issueMade e (max (divUp due 32) (s.calIssue + 1))) := by
  have first : s.issueList.all (issueBefore (due, if (s.entry e).jumped then (s.entry e).target else 0, e.val)) = true := by
    rw [List.all_eq_true]
    intro p hm
    obtain ⟨a, -, listed⟩ := List.mem_filterMap.mp hm
    dsimp only at listed
    by_cases h : s.ePhase a = 2
    · rw [if_pos h] at listed
      obtain ⟨time, issued, rfl⟩ := Option.map_eq_some_iff.mp listed
      have same : a = e.val := alone _ hm
      subst same
      rw [hd] at issued
      cases issued
      simp [issueBefore]
    · rw [if_neg h] at listed
      cases listed
  have due_ : (s.ePhase e == 2) = true := beq_iff_eq.mpr phase
  refine congrArg Host.Outcome.next ((State.happens_eq hp due_ _).trans ?_)
  have hd' : ((s.reachIn islFabric ts).entry e).issueDue = some due := hd
  have goes : ¬(!(s.reachIn islFabric ts).issueList.all (issueBefore (due, if (s.entry e).jumped then (s.entry e).target else 0, e.val)) ||
      decide (fabCycle ts < max (divUp due 32) (s.calIssue + 1))) = true := by
    rw [show (s.reachIn islFabric ts).issueList = s.issueList from rfl, first, decide_eq_false (Nat.not_lt.mpr reached)]
    decide
  rw [hd']
  exact (if_neg (Bool.eq_false_iff.mp open_)).trans (if_neg goes)

end

/-! ## The registers -/

theorem State.calErr_spec (s : State) : s.calErr.flag .calStat 16 = true ∧ s.onlyRegs s.calErr [.calStat] :=
  ⟨State.flag_setFlag_self _ _ _ _ _ _ (by decide), .wr (.refl s _) (by decide) _ _ _⟩

/-- The counts of a domain's calendar. -/
def State.calCounts (s : State) (d : Nat) : Word × Word × Word × Word := (s.rd .calCnt0 d, s.rd .calCnt1 d, s.rd .calCnt2 d, s.rd .calCnt3 d)

theorem State.clrCal_spec (s : State) : s.onlyRegs s.clrCal [.calCnt0, .calCnt1, .calCnt2, .calCnt3, .calSlotuse] ∧
    ∀ d, d < 16 → s.clrCal.rd .calCnt0 d = 0 ∧ s.clrCal.rd .calCnt1 d = 0 ∧ s.clrCal.rd .calCnt2 d = 0 ∧ s.clrCal.rd .calCnt3 d = 0 := by
  unfold State.clrCal
  extract_lets cleared
  refine ⟨.each (.each (.refl s _) _ fun u _ => .wr (.wr (.wr (.wr (.refl u _) (by decide) _ _ _) (by decide) _ _ _) (by decide) _ _ _)
    (by decide) _ _ _) _ fun u _ => .wr (.refl u _) (by decide) _ _ _, fun d hd => ?_⟩
  have used : cleared.frame (cleared.each (List.range 64) (fun s t => s.wr .calSlotuse (toW (s.slotsUsed t * 256)) t)) [.reg .calSlotuse] :=
    .each (.refl _ _) fun _ _ h => .wr h
  have counts : cleared.calCounts d = (0, 0, 0, 0) := by
    refine (State.each_seen (seen := State.calCounts) (fun _ => (0, 0, 0, 0)) (fun u i => ?_) (fun u i k h => ?_) s List.nodup_range d).trans
      (if_pos (List.mem_range.mpr hd))
    · simp [State.calCounts, State.clr]
    · simp [State.calCounts, State.clr, State.rd_wr_index _ _ _ _ _ _ _ h]
  rw [used.rd .calCnt0, used.rd .calCnt1, used.rd .calCnt2, used.rd .calCnt3]
  simpa [State.calCounts] using counts

theorem State.partBad_frame {s u : State} {l : List StatePart} (h : s.frame u l) (d : Nat) (v : Word) (hp : .reg .calPart ∉ l := by decide)
    (hv : .variant ∉ l := by decide) : u.partBad d v = s.partBad d v := by
  unfold State.partBad State.domains
  simp only [h.fld .calPart _ _ _ _ hp, h.tiles hv]

/-- Settles O35: entries by what staging and issuing make of them, registers by what each write takes. -/
theorem calendarWork : Obligations.CalendarWork := by
  unfold Obligations.CalendarWork
  intro m e dom size v ts s hp i t d z2 rd n due1 bad
  have err : ∀ r c, (exec c s = .next (s.arrived r d 0).calErr) → bad r c := fun r c h => ⟨_, h, State.calErr_spec _⟩
  refine ⟨fun k ⟨st, op, free, alone⟩ hk => ?stages, fun ⟨st, op, free, alone⟩ full new => ?waits, fun due phase op hd alone reached => ?issues,
    fun hw good none => ?part, fun hw h => ?partBad, fun hw small fits => ?read, fun hw big => ?readBad, fun hw empty fits => ?base,
    fun hw empty fits => ?size, fun hw used => ?usedBad, fun hw => ?clear⟩
  case stages => exact ⟨_, exec_staging_stages hp st op free alone hk, (s.reachIn islFabric ts).stage_spec i t k⟩
  case waits =>
    refine ⟨_, exec_staging_waits hp st op free alone full new, ?_, ?_⟩
    · exact congrArg Entry.waits ((s.reachIn islFabric ts).entry_onEntry i (fun x => { x with waits := true }))
    · exact State.frame.keeps (l := [.now, .entries, .reg .calSlotuse]) (.bump (.onEntry (.reachIn (.refl s _))))
  case issues =>
    exact ⟨_, exec_issue_now hp phase op hd alone reached, State.issueMade_calIssue _ _ _, fun act quiet running room =>
      State.issueMade_post (s := s.reachIn islFabric ts) _ act quiet running room⟩
  case part =>
    have fr := s.arrived_frame .calPart d 0
    have go : ¬((s.arrived .calPart d 0).partBad d v || !((s.arrived .calPart d 0).entriesOf d).isEmpty) = true := by
      rw [State.partBad_frame fr, good, fr.entriesOf, none]
      decide
    exact ⟨_, congrArg Host.Outcome.next ((State.access_eq hw _).trans (if_neg go)), State.rd_wr_self _ _ _ _ _, .wr (.refl _ _) (by decide) _ _ _⟩
  case partBad =>
    have fr := s.arrived_frame .calPart d 0
    refine err _ _ (congrArg Host.Outcome.next ((State.access_eq hw _).trans (if_pos ?_)))
    rw [State.partBad_frame fr, fr.entriesOf]
    rcases h with h | h
    · rw [h, Bool.true_or]
    · rw [Bool.or_eq_true]
      exact .inr (congrArg Bool.not (Bool.eq_false_iff.2 fun he => h (List.isEmpty_iff.1 he)))
  case read =>
    have fr := s.arrived_frame .calCqRd d 0
    refine ⟨_, congrArg Host.Outcome.next ((State.access_eq hw _).trans (if_pos ?_)), State.rd_wr_self _ _ _ _ _, .wr (.refl _ _) (by decide) _ _ _⟩
    rw [fr.fld .calCqSize, fr.fld .calCqRd, fr.fld .calCqWr]
    exact ⟨small, fits⟩
  case readBad =>
    have fr := s.arrived_frame .calCqRd d 0
    refine err _ _ (congrArg Host.Outcome.next ((State.access_eq hw _).trans (if_neg ?_)))
    rw [fr.fld .calCqSize]
    exact fun h => absurd h.1 (Nat.not_lt.mpr big)
  case base =>
    have fr := s.arrived_frame .calCqBase d 0
    have still : ¬(s.arrived .calCqBase d 0).fld .calCqWr 0 13 d ≠ (s.arrived .calCqBase d 0).fld .calCqRd 0 13 d := by
      rw [fr.fld .calCqWr, fr.fld .calCqRd]
      exact Classical.not_not.mpr empty
    have fits' : queueFits (v &&& 0x3FFFF0).toNat ((s.arrived .calCqBase d 0).fld .calCqSize 0 4 d) = true := by rwa [fr.fld .calCqSize]
    exact ⟨_, congrArg Host.Outcome.next ((State.access_eq hw _).trans ((if_neg still).trans ((if_neg (by decide)).trans (if_pos fits')))),
      State.rd_wr_self _ _ _ _ _, .wr (.refl _ _) (by decide) _ _ _⟩
  case size =>
    have fr := s.arrived_frame .calCqSize d 0
    have still : ¬(s.arrived .calCqSize d 0).fld .calCqWr 0 13 d ≠ (s.arrived .calCqSize d 0).fld .calCqRd 0 13 d := by
      rw [fr.fld .calCqWr, fr.fld .calCqRd]
      exact Classical.not_not.mpr empty
    have fits' : queueFits ((s.arrived .calCqSize d 0).rd .calCqBase d).toNat (getF v 0 4) = true := by rwa [fr.rd .calCqBase]
    exact ⟨_, congrArg Host.Outcome.next ((State.access_eq hw _).trans ((if_neg still).trans ((if_pos rfl).trans (if_pos fits')))),
      State.rd_wr_self _ _ _ _ _, .wr (.refl _ _) (by decide) _ _ _⟩
  case usedBad =>
    have fr := s.arrived_frame (if size then .calCqSize else .calCqBase) d 0
    refine err _ _ (congrArg Host.Outcome.next ((State.access_eq hw _).trans (if_pos ?_)))
    rw [fr.fld .calCqWr, fr.fld .calCqRd]
    exact used
  case clear => exact ⟨_, congrArg Host.Outcome.next (State.access_eq hw _), State.clrCal_spec _⟩

end Sys2Proof.Machine
end

section
/-! PROOFS. Statements that leave INT_ERR out of the registers an event may change. R341: a source raised while its completion is
under way is delivered again and counts in INT_ERR.REFIRE, so each of them fails in a state whose source is completed in the fabric
cycle of the event. -/

namespace Sys2Proof.Machine

set_option Elab.async false

/-- Source `n` is enabled and its delivery is completed in fabric cycle `cyc - 1` (R341). -/
def State.completing (s : State) (n cyc : Nat) : State :=
  { s.setFlag .intEnSet (n % 32) true (n / 32) with doneAt := s.doneAt.set 0 n cyc }

/-- A repeat is counted in INT_ERR. -/
def refires (o : Host.Outcome State Fault Refusal) (s : State) : Bool :=
  match o with
  | .next t => t.rd .intErr != s.rd .intErr
  | _ => false

theorem not_keeps_of_refires {o : Host.Outcome State Fault Refusal} {s t : State} {l : List RegName} (e : o = .next t)
    (kept : s.keeps t l) (h : refires o s = true) (hl : .intErr ∉ l := by decide) : False := by
  subst e
  exact bne_iff_ne.1 h (kept .intErr 0 0 hl)

/-- The device after reset, with SYS_ID set. -/
def started : State := State.reset.wr .sysId 1

/-! ## Domains -/

/-- The event of a dropped write interrupts in the cycle of the write. -/
def domDropping : State := (started.setFlag .domIen 10 true 0).completing 64 21

/-- Refutes O36: the event of a dropped write may also count in INT_ERR.REFIRE (R341). -/
theorem not_domainRegisters : ¬ Obligations.DomainRegisters := fun all => by
  obtain ⟨-, -, -, -, -, drop, -⟩ := all .host 0 0xC 0 0 domDropping (by decide)
  obtain ⟨t, ht, -, -, kept⟩ := drop ⟨.domRatio, 0, 0⟩ (by decide) (by decide) (by decide) (by decide) (by decide) (by decide)
  exact not_keeps_of_refires ht kept (by decide)

/-- A domain in HALF with a late tooth, whose event interrupts. -/
def toothMissing : State := ((started.setFld .domStat 0 3 2 0).setFlag .domIen 6 true 0).completing 64 1

/-- Refutes O37: the event of a late tooth may also count in INT_ERR.REFIRE (R341). -/
theorem not_primaryWheel : ¬ Obligations.PrimaryWheel := fun all => by
  obtain ⟨-, -, -, -, -, -, late, -⟩ := all 0 0 0 [] toothMissing (by decide)
  obtain ⟨t, ht, -, -, -, kept⟩ := late (by decide) (by decide) (by decide) (by decide) (by decide)
  exact not_keeps_of_refires ht kept (by decide)

/-! ## Governor, masking and the log -/

/-- The event of a Governor's dropped write interrupts in the cycle of the write. -/
def govDropping : State := (started.setFlag .govIen 7 true).completing 181 21

/-- Refutes O39: the event of a dropped write may also count in INT_ERR.REFIRE (R341). -/
theorem not_governor : ¬ Obligations.Governor := fun all => by
  obtain ⟨-, -, drop, -⟩ := all.2 .host .thresh 0 govDropping (by decide)
  obtain ⟨t, ht, -, -, kept⟩ := drop (by decide) (by decide) (by decide)
  exact not_keeps_of_refires ht kept (by decide)

/-- The corrected errors of a scrub pass have reached their limit, and the event interrupts. -/
def scrubbing : State := ((started.setFlag .fltIen 7 true).wr .fltMemLim 0).completing 189 1

/-- Refutes O47: the event at the limit of corrected errors may also count in INT_ERR.REFIRE (R341). -/
theorem not_faultMasking : ¬ Obligations.FaultMasking := fun all => by
  obtain ⟨-, -, -, -, corrected, -⟩ := all .host 0 .taskMemory 0 0 0 scrubbing (by decide)
  obtain ⟨t, ht, -, kept⟩ := corrected
  exact not_keeps_of_refires ht kept (by decide)

/-- The event of a write that the log drops interrupts in the cycle of the write. -/
def logDropping : State := (started.setFlag .logIen 3 true).completing 173 21

/-- Refutes O48: the event of a dropped write may also count in INT_ERR.REFIRE (R341). -/
theorem not_logRegisters : ¬ Obligations.LogRegisters := fun all => by
  obtain ⟨-, -, -, ring, -⟩ := all .host 0 false 0 logDropping
  obtain ⟨t, ht, ⟨kept, -⟩, -⟩ := (ring (by decide)).2 (by decide)
  exact not_keeps_of_refires ht kept (by decide)

/-- The log's oldest record has waited for the flush time, and the event interrupts. -/
def logFlushing : State := { ((started.setFlag .logIen 0 true).wr .logFlush 1).completing 170 1 with logRecs := [(0, 0, 0)] }

/-- Refutes O49: the event of the flush time may also count in INT_ERR.REFIRE (R341). -/
theorem not_logRecords : ¬ Obligations.LogRecords := fun all => by
  obtain ⟨-, -, -, -, -, -, -, -, flush, -⟩ := all 0 0 0 0 16 logFlushing (by decide)
  obtain ⟨t, ht, -, kept⟩ := (flush 0 0 0 [] (by decide) (by decide) (by decide)).1 (by decide)
  exact not_keeps_of_refires ht kept (by decide)

/-! ## DMA, ports and Mortar -/

/-- A change of a unit's state interrupts in the cycle of the write. -/
def unitChanging : State := started.completing 191 21

/-- Refutes O50: the change of the channel's state may also count in INT_ERR.REFIRE (R341). -/
theorem not_dmaRegisters : ¬ Obligations.DmaRegisters := fun all => by
  obtain ⟨-, ctrl, -⟩ := all .host 0 true .share ⟨0, 0, false⟩ 0 0 unitChanging
  obtain ⟨-, enable, -⟩ := ctrl (by decide)
  obtain ⟨t, ht, -, -, -, -, -, kept, -⟩ := enable (by decide)
  exact not_keeps_of_refires ht kept (by decide)

/-- DMA channel 0 is enabled with an owned descriptor at address 0 of task memory, and the change of its state interrupts. -/
def fetching : State := { (started.wr .dmaCtrl 0x11 0).completing 191 1 with taskMem := [(3, 128)] }

/-- Refutes O51: the change of the channel's state may also count in INT_ERR.REFIRE (R341). -/
theorem not_dmaTransfers : ¬ Obligations.DmaTransfers := fun all => by
  obtain ⟨fetch, -⟩ := all 0 0 fetching (by decide)
  obtain ⟨t, ht, -, -, -, kept⟩ := fetch (by decide) (by decide)
  exact not_keeps_of_refires ht kept (by decide)

/-- Refutes O52: the change of the port's state may also count in INT_ERR.REFIRE (R341). -/
theorem not_portRegisters : ¬ Obligations.PortRegisters := fun all => by
  obtain ⟨config, -⟩ := all .host 0 .cfg .tt 0 5 0 unitChanging
  obtain ⟨-, store, -⟩ := config (by decide)
  obtain ⟨t, ht, -, kept, -⟩ := store (by decide) (by decide)
  exact not_keeps_of_refires ht kept (by decide)

/-- Link 0 is up, and the event of a bad frame interrupts. -/
def linkErring : State := ((started.setFld .mlLstat 0 2 2 0).setFlag .mlIen 3 true 0).completing 144 1

/-- A frame out of sequence. -/
def outOfOrder : RxFrame := { frame := ⟨0, 0, 0, false, 0, []⟩, seq := 1, crc := 0 }

/-- Refutes O54: the event of a bad frame may also count in INT_ERR.REFIRE (R341). -/
theorem not_mortarLinks : ¬ Obligations.MortarLinks := fun all => by
  obtain ⟨-, -, -, -, -, -, -, bad, -⟩ := all 0 ⟨0, false, 0, 0, false, false⟩ outOfOrder false 0 0 0 0 0 0 linkErring (by decide)
  obtain ⟨t, ht, -, -, -, -, kept⟩ := bad (by decide) (.inr (by decide))
  exact not_keeps_of_refires ht kept (by decide +kernel)

/-- Mortar is enabled, and the event of a fault notice interrupts. -/
def noticed : State := ((started.setFlag .mlCtrl 0 true).setFlag .mlIen 4 true 0).completing 144 1

/-- Refutes O55: the event of a fault notice may also count in INT_ERR.REFIRE (R341). -/
theorem not_mortarSystem : ¬ Obligations.MortarSystem := fun all => by
  obtain ⟨-, -, -, -, -, -, -, -, -, -, -, -, -, -, -, -, -, -, -, -, -, notice⟩ := all .host 0 false 0 0 0 0 0 0 0 0 0 ⟨0, 0, 0, .ack⟩ 0 noticed (by decide)
  obtain ⟨t, ht, -, -, -, kept⟩ := notice (by decide)
  exact not_keeps_of_refires ht kept (by decide)

end Sys2Proof.Machine
end

section
/-! PROOFS. The management path (R304, R321 to R324). -/

namespace Sys2Proof.Machine

set_option Elab.async false

/-! ## Frames -/

section
variable {s : State} {f : MgmtFrame} {g : State → State}

theorem State.slotsFire_awake (l : List Nat) (none : s.pwrReq = none) (low : s.pstate < 2) : s.slotsFire l = s := by
  unfold State.slotsFire
  rw [none]
  exact ite_eq_left_iff.2 fun _ => if_pos low

theorem State.slotsFire_asleep (l : List Nat) (none : s.pwrReq = none) (high : 2 ≤ s.pstate) : s.slotsFire l = s.latchWake l := by
  unfold State.slotsFire State.latchWake
  rw [none]
  dsimp only
  rw [if_neg (Nat.not_lt.2 high)]
  split
  · rfl
  · rfl

theorem State.latchWake_frame (s : State) (l : List Nat) : s.frame (s.latchWake l) [.reg .wwStat, .waking] := by
  have h₀ := State.frame.refl s [.reg .wwStat, .waking]
  exact .ite h₀ (.put_waking (.each h₀ fun _ _ h => .setFlag h))

/-- The response that was due is on its way. -/
def State.answering (s : State) : State := { s with mgmtOut := s.mgmtResp }

/-- A discarded frame counts in SYS_MGMT, and the next response tells (R322). -/
def State.discard (s : State) (lo st : Nat) (a : Word) : State := (s.bump .sysMgmt lo 8).respond st 0 a

theorem State.discard_spec (s : State) (lo st : Nat) (a : Word) (h : lo + 8 ≤ 32) :
    s.onlyRegs { s.discard lo st a with mgmtResp := s.mgmtResp } [.sysMgmt] ∧
    (s.discard lo st a).fld .sysMgmt lo 8 = min 255 (s.fld .sysMgmt lo 8 + 1) := by
  refine ⟨⟨rfl, fun n i j hn => ?_⟩, State.fld_bump_self s _ _ _ _ _ h⟩
  exact s.rd_wr_name _ _ _ _ _ _ _ (fun e => hn (List.mem_singleton.2 e))

/-- What a frame does in Run and Still: the one that is BUSY, those that are discarded, and a good one (R321, R322). -/
def State.mgmtJudged (s : State) (f : MgmtFrame) (g : State → State) : State :=
  if f.early then { s with mgmtOut := (4, 0, s.mgmtResp.2.2) }
  else if f.bits ≠ 72 then s.answering.discard 8 2 f.a
  else if f.crc.toNat ≠ mgmtCrc f.a f.d then s.answering.discard 0 1 f.a
  else g s.answering

theorem State.mgmtFrame_awake (none : s.pwrReq = none) (low : s.pstate < 2) : s.mgmtFrame f g = s.mgmtJudged f g := by
  unfold State.mgmtFrame State.mgSelect
  rw [if_neg (by omega), State.slotsFire_awake _ none low]
  rfl

theorem State.mgmtFrame_asleep (none : s.pwrReq = none) (high : 3 ≤ s.pstate) : ∃ l,
    s.mgmtFrame f g = ({ s with mgmtOut := (5, 0, getF f.a 0 24), mgmtResp := (5, 0, getF f.a 0 24) } : State).latchWake l :=
  ⟨_, (if_pos high).trans (State.slotsFire_asleep (s := { s with mgmtOut := (5, 0, getF f.a 0 24), mgmtResp := (5, 0, getF f.a 0 24) })
    _ none (Nat.le_of_succ_le high))⟩

theorem State.mgmtFrame_good (none : s.pwrReq = none) (good : s.pstate < 2 ∧ f.early = false ∧ f.bits = 72 ∧ f.crc.toNat = mgmtCrc f.a f.d) :
    s.mgmtFrame f g = g s.answering := by
  obtain ⟨low, early, bits, crc⟩ := good
  rw [State.mgmtFrame_awake none low, State.mgmtJudged, early, if_neg (by decide), if_neg (Classical.not_not.2 bits), if_neg (Classical.not_not.2 crc)]

/-- A read or write in Run or Still, from the first tick on (R323). -/
theorem State.mgmtAct_access (none : s.pwrReq = none)
    (good : s.pstate < 2 ∧ f.early = false ∧ f.bits = 72 ∧ f.crc.toNat = mgmtCrc f.a f.d) (acts : getB f.a 30 = false) :
    s.mgmtAct f = if getB f.a 31 then s.answering.tick.mgmtWrites f.a f.d else s.answering.tick.mgmtReads f.a := by
  have awake : s.answering.pstate < 3 := Nat.lt_succ_of_lt good.1
  refine (State.mgmtFrame_good none good).trans ?_
  exact (if_neg (acts ▸ Bool.false_ne_true)).trans (State.onBus_eq (s := s.answering) awake _)

end

/-! ## What a good frame does -/

section
variable {s : State} {a d : Word}

theorem not_unready (ready : s.mgmtReady (getF a 0 28) = true) : ¬(!s.mgmtReady (getF a 0 28)) = true := by
  rw [ready]
  decide

theorem not_outside (zero : getF a 28 2 = 0) {b : Bool} (h : b = true) : ¬(getF a 28 2 ≠ 0 ∨ (!b) = true) := by
  rw [zero, h]
  decide

theorem State.mgmtReads_unready (h : s.mgmtReady (getF a 0 28) = false) : s.mgmtReads a = s.respond 5 0 a :=
  if_pos (congrArg Bool.not h)

theorem State.mgmtReads_denied (ready : s.mgmtReady (getF a 0 28) = true) (h : supReads (getF a 0 28) = false) :
    s.mgmtReads a = (s.accErr .supervisor (getF a 0 28) .privilege).respond 3 0 a :=
  (if_neg (not_unready ready)).trans (if_pos (.inr (congrArg Bool.not h)))

theorem State.mgmtReads_answer (ready : s.mgmtReady (getF a 0 28) = true) (zero : getF a 28 2 = 0)
    (h : supReads (getF a 0 28) = true) : (s.mgmtReads a).mgmtResp = (0, (s.busRead .supervisor (getF a 0 28) 4).1, getF a 0 24) :=
  congrArg State.mgmtResp ((if_neg (not_unready ready)).trans (if_neg (not_outside zero h)))

theorem State.mgmtWrites_denied (ready : s.mgmtReady (getF a 0 28) = true) (h : supMayWrite (getF a 0 28) = false) :
    s.mgmtWrites a d = (s.accErr .supervisor (getF a 0 28) .privilege).respond 3 0 a :=
  (if_neg (not_unready ready)).trans (if_pos (.inr (congrArg Bool.not h)))

theorem State.mgmtWrites_done (ready : s.mgmtReady (getF a 0 28) = true) (zero : getF a 28 2 = 0)
    (h : supMayWrite (getF a 0 28) = true) : s.mgmtWrites a d = (let t := s.busWrite .supervisor (getF a 0 28) 4 d
      t.respond (if t.rd .sysAccerr != s.rd .sysAccerr && (t.fld .sysAccerrSrc 16 4 == 2 || t.fld .sysAccerrSrc 16 4 == 3) then 3
        else 0) 0 a) :=
  (if_neg (not_unready ready)).trans (if_neg (not_outside zero h))

theorem State.accErr_once (m : Master) (off : Nat) (st : Nat) (r : Word) :
    (s.tick.accErr m off .privilege |>.respond st r a).fld .sysAccerr 0 16 = (s.fld .sysAccerr 0 16 + 1) % 65536 :=
  (s.tick.accErr_counted m off (by decide) (by decide)).1.trans (by rw [State.tick_fld])

end

/-! ## The obligation -/

/-- A write was refused, as the frame's master reads it in SYS_ACCERR (R306). -/
theorem barred_iff (t z : State) : (t.rd .sysAccerr != z.rd .sysAccerr && (t.fld .sysAccerrSrc 16 4 == 2 || t.fld .sysAccerrSrc 16 4 == 3)) = true ↔
    t.rd .sysAccerr ≠ z.rd .sysAccerr ∧ (t.fld .sysAccerrSrc 16 4 = 2 ∨ t.fld .sysAccerrSrc 16 4 = 3) := by
  rw [Bool.and_eq_true, Bool.or_eq_true, bne_iff_ne, beq_iff_eq, beq_iff_eq]

/-- The checks that every frame meets (R321, R322, R324). -/
theorem State.mgmtAct_rows (s : State) (f : MgmtFrame) (none : s.pwrReq = none) :
    (3 ≤ s.pstate → (s.mgmtAct f).mgmtOut = (5, 0, getF f.a 0 24) ∧ (s.mgmtAct f).mgmtResp = (5, 0, getF f.a 0 24) ∧
      s.keeps (s.mgmtAct f) [.wwStat]) ∧
    (s.pstate < 2 → f.early = true → s.mgmtAct f = { s with mgmtOut := (4, 0, s.mgmtResp.2.2) }) ∧
    (s.pstate < 2 → f.early = false → f.bits ≠ 72 → s.mgmtAct f = s.answering.discard 8 2 f.a) ∧
    (s.pstate < 2 → f.early = false → f.bits = 72 → f.crc.toNat ≠ mgmtCrc f.a f.d →
      s.mgmtAct f = s.answering.discard 0 1 f.a) := by
  refine ⟨fun high => ?asleep, fun low early => ?busy, fun low early bits => ?length, fun low early bits crc => ?check⟩
  case asleep =>
    obtain ⟨l, hl⟩ := State.mgmtFrame_asleep (f := f) (g := _) none high
    have fr := State.latchWake_frame { s with mgmtOut := (5, 0, getF f.a 0 24), mgmtResp := (5, 0, getF f.a 0 24) } l
    unfold State.mgmtAct
    rw [hl]
    exact ⟨fr .mgmtOut (by decide), fr .mgmtResp (by decide), fun n i j hn => fr.rd n i j (by simpa using hn)⟩
  all_goals
    unfold State.mgmtAct
    rw [State.mgmtFrame_awake none low, State.mgmtJudged, early]
  case busy => rfl
  case length => rw [if_neg Bool.false_ne_true, if_pos bits]
  case check => rw [if_neg Bool.false_ne_true, if_neg (Classical.not_not.2 bits), if_pos crc]

/-- Settles O45: by the checks of a frame, and what a good one does. -/
theorem managementFrames : Obligations.ManagementFrames := by
  unfold Obligations.ManagementFrames
  intro f s none off out z wrote barred good rows
  have checked : ∀ c : MgmtFrame → Instr, (∀ f s, exec (c f) s = .next (s.mgmtAct f)) → rows c := fun c hc => by
    obtain ⟨asleep, busy, length, check⟩ := s.mgmtAct_rows f none
    refine ⟨fun high => ⟨_, hc f s, asleep high⟩, fun low early => (hc f s).trans (congrArg _ (busy low early)),
      fun low early bits => ⟨_, (hc f s).trans (congrArg _ (length low early bits)), rfl, s.answering.discard_spec 8 2 f.a (by decide)⟩,
      fun low early bits crc => ⟨_, (hc f s).trans (congrArg _ (check low early bits crc)), rfl,
        s.answering.discard_spec 0 1 f.a (by decide)⟩⟩
  have access : good → getB f.a 30 = false → s.mgmtAct f = if getB f.a 31 then z.mgmtWrites f.a f.d else z.mgmtReads f.a :=
    fun hg h30 => State.mgmtAct_access none hg h30
  refine ⟨checked _ fun _ _ => rfl, checked _ fun _ _ => rfl, checked _ fun _ _ => rfl, fun hg h30 => ?nop,
    fun hg h30 h31 ready => ?unready, fun hg h30 h31 ready zero may => ?reads, fun hg h30 h31 ready may => ?readDenied,
    fun hg h30 h31 ready zero may => ?writes, fun hg h30 h31 ready may => ?writeDenied⟩
  case nop =>
    refine congrArg Host.Outcome.next ((State.mgmtFrame_good none hg).trans ?_)
    rw [h30]
    rfl
  case unready =>
    refine congrArg Host.Outcome.next ((access hg h30).trans ?_)
    rw [h31]
    exact State.mgmtReads_unready ready
  case reads =>
    refine ⟨_, congrArg Host.Outcome.next ((access hg h30).trans ?_), State.mgmtReads_answer ready zero may⟩
    rw [h31]
    rfl
  case readDenied =>
    refine ⟨_, congrArg Host.Outcome.next ((access hg h30).trans ?_), rfl, out.accErr_once .supervisor off 3 0⟩
    rw [h31]
    exact State.mgmtReads_denied ready may
  case writes =>
    have done : s.mgmtAct f = _ := (access hg h30).trans ((if_pos h31).trans (State.mgmtWrites_done ready zero may))
    refine ⟨fun hb => congrArg Host.Outcome.next (done.trans ?_), fun hb => congrArg Host.Outcome.next (done.trans ?_)⟩
    · exact congrArg (fun c => wrote.respond c 0 f.a) (if_neg fun h => hb ((barred_iff _ _).1 h))
    · exact congrArg (fun c => wrote.respond c 0 f.a) (if_pos ((barred_iff _ _).2 hb))
  case writeDenied =>
    refine ⟨_, congrArg Host.Outcome.next ((access hg h30).trans ?_), rfl, out.accErr_once .supervisor off 3 0⟩
    rw [h31]
    exact State.mgmtWrites_denied ready may

end Sys2Proof.Machine
end


section
/-! PROOFS. What each operation on contexts and engines may change. -/

namespace Sys2Proof.Machine

set_option Elab.async false

namespace State.frame

section
variable {s₀ s u : State} {parts : List StatePart}

theorem put_badScript {a} (h : s₀.frame s parts) (hl : .badScript ∈ parts := by decide) : s₀.frame { s with badScript := a } parts := by
  intro p hp
  have same := h p hp
  cases p
  case badScript => exact absurd hl hp
  all_goals exact same
theorem put_busyAt {a} (h : s₀.frame s parts) (hl : .busyAt ∈ parts := by decide) : s₀.frame { s with busyAt := a } parts := by
  intro p hp
  have same := h p hp
  cases p
  case busyAt => exact absurd hl hp
  all_goals exact same
theorem put_cycleAt {a} (h : s₀.frame s parts) (hl : .cycleAt ∈ parts := by decide) : s₀.frame { s with cycleAt := a } parts := by
  intro p hp
  have same := h p hp
  cases p
  case cycleAt => exact absurd hl hp
  all_goals exact same
theorem put_dispatch {a} (h : s₀.frame s parts) (hl : .dispatch ∈ parts := by decide) : s₀.frame { s with dispatch := a } parts := by
  intro p hp
  have same := h p hp
  cases p
  case dispatch => exact absurd hl hp
  all_goals exact same
theorem put_doneAt {a} (h : s₀.frame s parts) (hl : .doneAt ∈ parts := by decide) : s₀.frame { s with doneAt := a } parts := by
  intro p hp
  have same := h p hp
  cases p
  case doneAt => exact absurd hl hp
  all_goals exact same
theorem put_failed {a} (h : s₀.frame s parts) (hl : .failed ∈ parts := by decide) : s₀.frame { s with failed := a } parts := by
  intro p hp
  have same := h p hp
  cases p
  case failed => exact absurd hl hp
  all_goals exact same
theorem put_freeCtr {a} (h : s₀.frame s parts) (hl : .freeCtr ∈ parts := by decide) : s₀.frame { s with freeCtr := a } parts := by
  intro p hp
  have same := h p hp
  cases p
  case freeCtr => exact absurd hl hp
  all_goals exact same
theorem put_goAt {a} (h : s₀.frame s parts) (hl : .goAt ∈ parts := by decide) : s₀.frame { s with goAt := a } parts := by
  intro p hp
  have same := h p hp
  cases p
  case goAt => exact absurd hl hp
  all_goals exact same
theorem put_goOld {a} (h : s₀.frame s parts) (hl : .goOld ∈ parts := by decide) : s₀.frame { s with goOld := a } parts := by
  intro p hp
  have same := h p hp
  cases p
  case goOld => exact absurd hl hp
  all_goals exact same
theorem put_golden {a} (h : s₀.frame s parts) (hl : .golden ∈ parts := by decide) : s₀.frame { s with golden := a } parts := by
  intro p hp
  have same := h p hp
  cases p
  case golden => exact absurd hl hp
  all_goals exact same
theorem put_goldenDispatch {a} (h : s₀.frame s parts) (hl : .goldenDispatch ∈ parts := by decide) : s₀.frame { s with goldenDispatch := a } parts := by
  intro p hp
  have same := h p hp
  cases p
  case goldenDispatch => exact absurd hl hp
  all_goals exact same
theorem put_goldenLost {a} (h : s₀.frame s parts) (hl : .goldenLost ∈ parts := by decide) : s₀.frame { s with goldenLost := a } parts := by
  intro p hp
  have same := h p hp
  cases p
  case goldenLost => exact absurd hl hp
  all_goals exact same
theorem put_gpr {a} (h : s₀.frame s parts) (hl : .gpr ∈ parts := by decide) : s₀.frame { s with gpr := a } parts := by
  intro p hp
  have same := h p hp
  cases p
  case gpr => exact absurd hl hp
  all_goals exact same
theorem put_lastIssue {a} (h : s₀.frame s parts) (hl : .lastIssue ∈ parts := by decide) : s₀.frame { s with lastIssue := a } parts := by
  intro p hp
  have same := h p hp
  cases p
  case lastIssue => exact absurd hl hp
  all_goals exact same
theorem put_lockTimes {a} (h : s₀.frame s parts) (hl : .lockTimes ∈ parts := by decide) : s₀.frame { s with lockTimes := a } parts := by
  intro p hp
  have same := h p hp
  cases p
  case lockTimes => exact absurd hl hp
  all_goals exact same
theorem put_logRecs {a} (h : s₀.frame s parts) (hl : .logRecs ∈ parts := by decide) : s₀.frame { s with logRecs := a } parts := by
  intro p hp
  have same := h p hp
  cases p
  case logRecs => exact absurd hl hp
  all_goals exact same
theorem put_longOps {a} (h : s₀.frame s parts) (hl : .longOps ∈ parts := by decide) : s₀.frame { s with longOps := a } parts := by
  intro p hp
  have same := h p hp
  cases p
  case longOps => exact absurd hl hp
  all_goals exact same
theorem put_micro {a} (h : s₀.frame s parts) (hl : .micro ∈ parts := by decide) : s₀.frame { s with micro := a } parts := by
  intro p hp
  have same := h p hp
  cases p
  case micro => exact absurd hl hp
  all_goals exact same
theorem put_patchEnd {a} (h : s₀.frame s parts) (hl : .patchEnd ∈ parts := by decide) : s₀.frame { s with patchEnd := a } parts := by
  intro p hp
  have same := h p hp
  cases p
  case patchEnd => exact absurd hl hp
  all_goals exact same
theorem put_replies {a} (h : s₀.frame s parts) (hl : .replies ∈ parts := by decide) : s₀.frame { s with replies := a } parts := by
  intro p hp
  have same := h p hp
  cases p
  case replies => exact absurd hl hp
  all_goals exact same
theorem put_slockQ {a} (h : s₀.frame s parts) (hl : .slockQ ∈ parts := by decide) : s₀.frame { s with slockQ := a } parts := by
  intro p hp
  have same := h p hp
  cases p
  case slockQ => exact absurd hl hp
  all_goals exact same
theorem put_stopAt {a} (h : s₀.frame s parts) (hl : .stopAt ∈ parts := by decide) : s₀.frame { s with stopAt := a } parts := by
  intro p hp
  have same := h p hp
  cases p
  case stopAt => exact absurd hl hp
  all_goals exact same
theorem put_unsettled {a} (h : s₀.frame s parts) (hl : .unsettled ∈ parts := by decide) : s₀.frame { s with unsettled := a } parts := by
  intro p hp
  have same := h p hp
  cases p
  case unsettled => exact absurd hl hp
  all_goals exact same
theorem put_cycleAt_patchEnd {a b} (h : s₀.frame s parts) (ha : .cycleAt ∈ parts := by decide) (hb : .patchEnd ∈ parts := by
    decide) : s₀.frame { s with cycleAt := a, patchEnd := b } parts := by
  intro p hp
  have same := h p hp
  cases p
  case cycleAt => exact absurd ha hp
  case patchEnd => exact absurd hb hp
  all_goals exact same
theorem put_lastIssue_cycleAt {a b} (h : s₀.frame s parts) (ha : .lastIssue ∈ parts := by decide) (hb : .cycleAt ∈ parts := by
    decide) : s₀.frame { s with lastIssue := a, cycleAt := b } parts := by
  intro p hp
  have same := h p hp
  cases p
  case lastIssue => exact absurd ha hp
  case cycleAt => exact absurd hb hp
  all_goals exact same
theorem put_takenBy_doneAt {a b} (h : s₀.frame s parts) (ha : .takenBy ∈ parts := by decide) (hb : .doneAt ∈ parts := by decide)
    : s₀.frame { s with takenBy := a, doneAt := b } parts := by
  intro p hp
  have same := h p hp
  cases p
  case takenBy => exact absurd ha hp
  case doneAt => exact absurd hb hp
  all_goals exact same

theorem touch {e : Nat} (hs : s₀.frame s parts) (hl : .busyAt ∈ parts := by decide) : s₀.frame (s.touch e) parts := by
  refine hs.add1 hl ?_
  have h₀ := refl s [.busyAt]
  unfold State.touch
  exact .put_busyAt h₀
theorem drawn (hs : s₀.frame s parts) (hl : .freeCtr ∈ parts := by decide) : s₀.frame s.drawn parts := by
  refine hs.add1 hl ?_
  have h₀ := refl s [.freeCtr]
  unfold State.drawn
  exact .put_freeCtr h₀
theorem setReplies {c : Nat} {l : List (List Word)} (hs : s₀.frame s parts) (hl : .replies ∈ parts := by decide) : s₀.frame
    (s.setReplies c l) parts := by
  refine hs.add1 hl ?_
  have h₀ := refl s [.replies]
  unfold State.setReplies
  exact .put_replies h₀
theorem setG {x : Nat} {r : GReg} {w : Word} (hs : s₀.frame s parts) (hl : .gpr ∈ parts := by decide) : s₀.frame (s.setG x r w)
    parts := by
  refine hs.add1 hl ?_
  have h₀ := refl s [.gpr]
  unfold State.setG
  exact .put_gpr h₀
theorem setCr {n : RegName} {w : Word} {x : Nat} (h : s₀.frame s parts) (hl : .reg n ∈ parts := by decide) : s₀.frame (s.setCr n w x) parts :=
  h.wr hl
theorem setCf {n : RegName} {lo len v x : Nat} (h : s₀.frame s parts) (hl : .reg n ∈ parts := by decide) :
    s₀.frame (s.setCf n lo len v x) parts := h.wr hl
def setCtxStateParts : List StatePart := [.reg .ctxStat, .busyAt]
theorem setCtxState {x v : Nat} (hs : s₀.frame s parts) (hl : setCtxStateParts ⊆ parts := by decide) : s₀.frame (s.setCtxState x
    v) parts := by
  refine hs.add hl ?_
  have h₀ := refl s setCtxStateParts
  unfold State.setCtxState
  exact .touch (.setCf h₀)
theorem setFailed {u : Nat} (hs : s₀.frame s parts) (hl : .failed ∈ parts := by decide) : s₀.frame (s.setFailed u) parts := by
  refine hs.add1 hl ?_
  have h₀ := refl s [.failed]
  unfold State.setFailed
  exact .put_failed h₀
def raisePrvParts : List StatePart := [.reg .prvPendSet, .waking]
theorem raisePrv {e p : Nat} (hs : s₀.frame s parts) (hl : raisePrvParts ⊆ parts := by decide) : s₀.frame (s.raisePrv e p) parts
    := by
  refine hs.add hl ?_
  have h₀ := refl s raisePrvParts
  unfold State.raisePrv
  exact .ite (.when (.setFlag h₀) (fun _ h1 => .wakeUp h1)) h₀
def lostWordParts : List StatePart := [.reg .mlCnt1, .reg .intPendSet, .reg .intErr, .reg .vecStat, .reg .fltSeq, .reg .fltStat,
  .reg .fltMem, .reg .fltEvt, .reg .fltRec, .waking, .links, .parked, .fltTotal, .vecFirst, .wakePin]
theorem lostWord {unit code idx : Nat} (hs : s₀.frame s parts) (hl : lostWordParts ⊆ parts := by decide) : s₀.frame (s.lostWord
    unit code idx) parts := by
  refine hs.add hl ?_
  have h₀ := refl s lostWordParts
  unfold State.lostWord
  exact .fault (.bump h₀)
theorem stillPins {t : Nat} (hs : s₀.frame s parts) (hl : .pinStill ∈ parts := by decide) : s₀.frame (s.stillPins t) parts := by
  refine hs.add1 hl ?_
  have h₀ := refl s [.pinStill]
  unfold State.stillPins
  exact .each h₀ (fun _ _ h1 => .put_pinStill h1)
def shiftTileParts : List StatePart := [.chans, .bridges, .trips, .slots, .fols]
theorem shiftTile {t d : Nat} {all : Bool} (hs : s₀.frame s parts) (hl : shiftTileParts ⊆ parts := by decide) : s₀.frame
    (s.shiftTile t d all) parts := by
  refine hs.add hl ?_
  have h₀ := refl s shiftTileParts
  unfold State.shiftTile
  exact .ite (.each (.each (.each h₀ (fun _ _ h1 => .onChan h1)) (fun _ _ h1 => .setBridge h1)) (fun _ _ h1 => .ite (.setTrip
    h1) h1)) (.each (.each (.each (.each (.each h₀ (fun _ _ h1 => .onChan h1)) (fun _ _ h1 => .setBridge h1)) (fun _ _ h1 =>
    .ite (.setTrip h1) h1)) (fun _ _ h1 => .setFol h1)) (fun _ _ h1 => .setSlotX h1))
def syncTileParts : List StatePart := [.chans, .bridges, .trips, .slots, .fols, .stopAt, .folMiss, .pinStill]
theorem syncTile {t : Nat} (hs : s₀.frame s parts) (hl : syncTileParts ⊆ parts := by decide) : s₀.frame (s.syncTile t) parts :=
    by
  refine hs.add hl ?_
  have h₀ := refl s syncTileParts
  unfold State.syncTile
  split
  · exact .put_stopAt (.when h₀ (fun _ h1 => .stillPins h1))
  · exact .each (.shiftTile (.put_stopAt (.freePins h₀))) (fun _ _ h1 => .loadFol h1)
  · exact h₀
def syncTilesParts : List StatePart := [.chans, .bridges, .trips, .slots, .fols, .stopAt, .folMiss, .pinStill]
theorem syncTiles (hs : s₀.frame s parts) (hl : syncTilesParts ⊆ parts := by decide) : s₀.frame s.syncTiles parts := by
  refine hs.add hl ?_
  have h₀ := refl s syncTilesParts
  unfold State.syncTiles
  exact .each h₀ (fun _ _ h1 => .syncTile h1)
def logCfgErrParts : List StatePart := [.reg .logEvt, .reg .logCfgerr, .reg .intPendSet, .reg .intErr, .reg .vecStat, .waking,
  .vecFirst, .wakePin]
theorem logCfgErr {sig status : Nat} (hs : s₀.frame s parts) (hl : logCfgErrParts ⊆ parts := by decide) : s₀.frame (s.logCfgErr
    sig status) parts := by
  refine hs.add hl ?_
  have h₀ := refl s logCfgErrParts
  unfold State.logCfgErr
  exact .logEvent (.wr h₀)
theorem finishOp {n status : Nat} {res : List Word} (hs : s₀.frame s parts) (hl : .longOps ∈ parts := by decide) : s₀.frame
    (s.finishOp n status res) parts := by
  refine hs.add1 hl ?_
  have h₀ := refl s [.longOps]
  unfold State.finishOp
  exact .put_longOps h₀
theorem keepGo {b : Nat} (hs : s₀.frame s parts) (hl : .goOld ∈ parts := by decide) : s₀.frame (s.keepGo b) parts := by
  refine hs.add1 hl ?_
  have h₀ := refl s [.goOld]
  unfold State.keepGo
  exact .put_goOld h₀
def noteParts : List StatePart := [.reg .intPendSet, .reg .intErr, .reg .vecStat, .waking, .vecFirst, .wakePin]
theorem note {b : Nat} (hs : s₀.frame s parts) (hl : noteParts ⊆ parts := by decide) : s₀.frame (s.note b) parts := by
  refine hs.add hl ?_
  have h₀ := refl s noteParts
  unfold State.note
  exact .ite (.raise h₀) h₀
def goSetParts : List StatePart := [.reg .intPendSet, .reg .intErr, .reg .vecStat, .waking, .vecFirst, .wakePin]
theorem goSet {b : Nat} (hs : s₀.frame s parts) (hl : goSetParts ⊆ parts := by decide) : s₀.frame (s.goSet b) parts := by
  refine hs.add hl ?_
  have h₀ := refl s goSetParts
  unfold State.goSet
  exact .ite (.raise h₀) (.ite (.raise h₀) (.ite (.raise h₀) (.note h₀)))
def goClearedParts : List StatePart := [.reg .intPendSet, .reg .prvPendSet, .reg .intErr, .reg .vecStat, .waking, .vecFirst,
  .wakePin]
theorem goCleared {b : Nat} (hs : s₀.frame s parts) (hl : goClearedParts ⊆ parts := by decide) : s₀.frame (s.goCleared b) parts
    := by
  refine hs.add hl ?_
  have h₀ := refl s goClearedParts
  unfold State.goCleared
  exact .ite (.raisePrv h₀) (.ite (.raisePrv h₀) (.ite (.raisePrv h₀) (.note h₀)))
def setGoParts : List StatePart := [.reg .mbCtrl, .reg .intPendSet, .reg .intErr, .reg .vecStat, .waking, .goAt, .vecFirst,
  .goOld, .wakePin]
theorem setGo {b : Nat} (hs : s₀.frame s parts) (hl : setGoParts ⊆ parts := by decide) : s₀.frame (s.setGo b) parts := by
  refine hs.add hl ?_
  have h₀ := refl s setGoParts
  unfold State.setGo
  exact .goSet (.put_goAt (.wr (.keepGo h₀)))
def clearGoParts : List StatePart := [.reg .mbCtrl, .reg .intPendSet, .reg .prvPendSet, .reg .intErr, .reg .vecStat, .waking,
  .vecFirst, .goOld, .wakePin]
theorem clearGo {b : Nat} (hs : s₀.frame s parts) (hl : clearGoParts ⊆ parts := by decide) : s₀.frame (s.clearGo b) parts := by
  refine hs.add hl ?_
  have h₀ := refl s clearGoParts
  unfold State.clearGo
  exact .goCleared (.wr (.keepGo h₀))
theorem setStall {k : Nat} {b : Bool} (hs : s₀.frame s parts) (hl : .reg .sysCmdStat ∈ parts := by decide) : s₀.frame
    (s.setStall k b) parts := by
  refine hs.add1 hl ?_
  have h₀ := refl s [.reg .sysCmdStat]
  unfold State.setStall
  exact .setFlag h₀
def pumpReplyParts : List StatePart := [.reg .sysCmdStat, .reg .mbData, .reg .mbCtrl, .reg .intPendSet, .reg .intErr, .reg
  .vecStat, .waking, .goAt, .vecFirst, .goOld, .wakePin, .replies]
theorem pumpReply {k : Nat} (hs : s₀.frame s parts) (hl : pumpReplyParts ⊆ parts := by decide) : s₀.frame (s.pumpReply k) parts
    := by
  refine hs.add hl ?_
  have h₀ := refl s pumpReplyParts
  unfold State.pumpReply
  split
  · exact h₀
  · exact .ite h₀ (.setGo (.setStall (.setReplies (.foldl h₀ fun _ _ h1 => .ite (.wr h1) h1))))
def freeLockParts : List StatePart := [.reg .lockOwner, .reg .lockFreed, .reg .intPendSet, .reg .intErr, .reg .vecStat, .waking,
  .vecFirst, .wakePin]
theorem freeLock {k : Nat} (hs : s₀.frame s parts) (hl : freeLockParts ⊆ parts := by decide) : s₀.frame (s.freeLock k) parts :=
    by
  refine hs.add hl ?_
  have h₀ := refl s freeLockParts
  unfold State.freeLock
  exact .ite (.raise (.setFlag (.clr h₀))) (.clr h₀)
def completeParts : List StatePart := [.reg .intActive, .reg .intErr, .reg .vecStat, .takenBy, .doneAt]
theorem complete {n : Nat} (hs : s₀.frame s parts) (hl : completeParts ⊆ parts := by decide) : s₀.frame (s.complete n) parts :=
    by
  refine hs.add hl ?_
  have h₀ := refl s completeParts
  unfold State.complete
  exact .ite (.ite (.setFlag (.bumpW (.put_takenBy_doneAt (.setFlag h₀)))) (.bumpW (.put_takenBy_doneAt (.setFlag h₀))))
    (.put_takenBy_doneAt (.setFlag h₀))
def deliverPrvParts : List StatePart := [.reg .prvPendSet, .reg .prvActive, .takenBy]
theorem deliverPrv {e p : Nat} (hs : s₀.frame s parts) (hl : deliverPrvParts ⊆ parts := by decide) : s₀.frame (s.deliverPrv e p)
    parts := by
  refine hs.add hl ?_
  have h₀ := refl s deliverPrvParts
  unfold State.deliverPrv
  exact .put_takenBy (.setFlag (.setFlag h₀))
def completePrvParts : List StatePart := [.reg .prvActive, .reg .intErr, .takenBy]
theorem completePrv {e p : Nat} (hs : s₀.frame s parts) (hl : completePrvParts ⊆ parts := by decide) : s₀.frame (s.completePrv e
    p) parts := by
  refine hs.add hl ?_
  have h₀ := refl s completePrvParts
  unfold State.completePrv
  exact .ite (.bumpW (.put_takenBy (.setFlag h₀))) (.put_takenBy (.setFlag h₀))
def completeAllParts : List StatePart := [.reg .intActive, .reg .prvActive, .reg .intErr, .reg .vecStat, .takenBy, .doneAt]
theorem completeAll {x : Nat} (hs : s₀.frame s parts) (hl : completeAllParts ⊆ parts := by decide) : s₀.frame (s.completeAll x)
    parts := by
  refine hs.add hl ?_
  have h₀ := refl s completeAllParts
  unfold State.completeAll
  exact .each (.each h₀ (fun _ _ h1 => .complete h1)) (fun _ _ h1 => .completePrv h1)
def lockReplyParts : List StatePart := [.reg .mlSlockOwner, .ctxs]
theorem lockReply {k x res : Nat} (hs : s₀.frame s parts) (hl : lockReplyParts ⊆ parts := by decide) : s₀.frame (s.lockReply k x
    res) parts := by
  refine hs.add hl ?_
  have h₀ := refl s lockReplyParts
  unfold State.lockReply
  exact .onCtx (.ite (.wr h₀) h₀)
def answerLockParts : List StatePart := [.reg .mlSlockOwner, .reg .mlCnt1, .ctxs, .links, .parked]
theorem answerLock {k dev x res : Nat} (hs : s₀.frame s parts) (hl : answerLockParts ⊆ parts := by decide) : s₀.frame
    (s.answerLock k dev x res) parts := by
  refine hs.add hl ?_
  have h₀ := refl s answerLockParts
  unfold State.answerLock
  exact .ite (.lockReply h₀) (.mlSend h₀)
def grantNextParts : List StatePart := [.reg .mlSlockOwner, .reg .mlCnt1, .ctxs, .links, .parked, .slockQ]
theorem grantNext {k : Nat} (hs : s₀.frame s parts) (hl : grantNextParts ⊆ parts := by decide) : s₀.frame (s.grantNext k) parts
    := by
  refine hs.add hl ?_
  have h₀ := refl s grantNextParts
  unfold State.grantNext
  split
  · exact .clr h₀
  · exact .answerLock (.wr (.put_slockQ h₀))
def serveLockParts : List StatePart := [.reg .mlSlockOwner, .reg .mlCnt1, .reg .lockStat, .ctxs, .links, .parked, .slockQ]
theorem serveLock {k : Nat} {op : LockOp} {dev x : Nat} (hs : s₀.frame s parts) (hl : serveLockParts ⊆ parts := by decide) :
    s₀.frame (s.serveLock k op dev x) parts := by
  refine hs.add hl ?_
  have h₀ := refl s serveLockParts
  unfold State.serveLock
  split
  · exact .ite (.grantNext h₀) (.ite (.put_slockQ h₀) (.setFld (.setFld (.bumpW h₀))))
  · exact .ite (.answerLock h₀) (.ite (.answerLock (.wr h₀)) (.answerLock h₀))
  · exact .ite (.answerLock h₀) (.ite (.answerLock (.wr h₀)) (.ite h₀ (.put_slockQ h₀)))
def askLockParts : List StatePart := [.reg .mlSlockOwner, .reg .mlCnt1, .reg .lockStat, .ctxs, .links, .parked, .slockQ]
theorem askLock {k : Nat} {op : LockOp} {x : Nat} (hs : s₀.frame s parts) (hl : askLockParts ⊆ parts := by decide) : s₀.frame
    (s.askLock k op x) parts := by
  refine hs.add hl ?_
  have h₀ := refl s askLockParts
  unfold State.askLock
  refine .ite (.serveLock h₀) (.ite ?_ (.mlSend (.ite (.clr h₀) h₀)))
  split
  · exact .lockReply h₀
  · exact h₀
def startCtxParts : List StatePart := [.reg .ctxStat, .gpr, .ctxs, .busyAt]
theorem startCtx {x : Nat} (hs : s₀.frame s parts) (hl : startCtxParts ⊆ parts := by decide) : s₀.frame (s.startCtx x) parts :=
    by
  refine hs.add hl ?_
  have h₀ := refl s startCtxParts
  unfold State.startCtx
  exact .setCtxState (.setCtx (.each h₀ (fun _ _ h1 => .put_gpr h1)))
def freeLocksParts : List StatePart := [.reg .mlSlockOwner, .reg .mlCnt1, .reg .lockOwner, .reg .lockFreed, .reg .lockStat, .reg
  .intPendSet, .reg .intErr, .reg .vecStat, .ctxs, .waking, .links, .parked, .slockQ, .vecFirst, .wakePin]
theorem freeLocks {x : Nat} (hs : s₀.frame s parts) (hl : freeLocksParts ⊆ parts := by decide) : s₀.frame (s.freeLocks x) parts
    := by
  refine hs.add hl ?_
  have h₀ := refl s freeLocksParts
  unfold State.freeLocks
  exact .each (.each h₀ (fun _ _ h1 => .freeLock h1)) (fun _ _ h1 => .askLock h1)
def flushOwnParts : List StatePart := [.reg .calSupnote, .reg .calSupnoteCnt, .reg .calEvt, .reg .calCqWr, .reg .calCnt0, .reg
  .calCnt1, .reg .calCnt2, .reg .calCnt3, .reg .entryW6, .reg .entryW7, .reg .ctxStat, .reg .intPendSet, .reg .intErr, .reg
  .vecStat, .slots, .entries, .offers, .lastEv, .ctxs, .waking, .vecFirst, .wakePin, .taskMem, .badTm]
theorem flushOwn {x : Nat} (hs : s₀.frame s parts) (hl : flushOwnParts ⊆ parts := by decide) : s₀.frame (s.flushOwn x) parts :=
    by
  refine hs.add hl ?_
  have h₀ := refl s flushOwnParts
  unfold State.flushOwn
  exact .ite (.each h₀ (fun _ _ h1 => .each h1 (fun _ _ h2 => .cancelEntry h2))) h₀
def endWorkParts : List StatePart := [.reg .calSupnote, .reg .calSupnoteCnt, .reg .calEvt, .reg .calCqWr, .reg .calCnt0, .reg
  .calCnt1, .reg .calCnt2, .reg .calCnt3, .reg .entryW6, .reg .entryW7, .reg .ctxStat, .reg .mlSlockOwner, .reg .mlCnt1, .reg
  .lockOwner, .reg .lockFreed, .reg .lockStat, .reg .intPendSet, .reg .intActive, .reg .prvActive, .reg .intErr, .reg .vecStat,
  .slots, .entries, .offers, .lastEv, .ctxs, .waking, .links, .parked, .slockQ, .takenBy, .vecFirst, .doneAt, .wakePin,
  .taskMem, .badTm]
theorem endWork {x : Nat} (hs : s₀.frame s parts) (hl : endWorkParts ⊆ parts := by decide) : s₀.frame (s.endWork x) parts := by
  refine hs.add hl ?_
  have h₀ := refl s endWorkParts
  unfold State.endWork
  exact .completeAll (.flushOwn (.freeLocks (.onCtx (.each h₀ (fun _ _ h1 => .ite (.askLock h1) h1)))))
def stopNowParts : List StatePart := [.reg .calSupnote, .reg .calSupnoteCnt, .reg .calEvt, .reg .calCqWr, .reg .calCnt0, .reg
  .calCnt1, .reg .calCnt2, .reg .calCnt3, .reg .entryW6, .reg .entryW7, .reg .ctxStat, .reg .mlSlockOwner, .reg .mlCnt1, .reg
  .lockOwner, .reg .lockFreed, .reg .lockStat, .reg .intPendSet, .reg .intActive, .reg .prvActive, .reg .intErr, .reg .vecStat,
  .slots, .entries, .offers, .lastEv, .ctxs, .busyAt, .waking, .links, .parked, .slockQ, .takenBy, .vecFirst, .doneAt, .wakePin,
  .taskMem, .badTm]
theorem stopNow {x : Nat} (hs : s₀.frame s parts) (hl : stopNowParts ⊆ parts := by decide) : s₀.frame (s.stopNow x) parts := by
  refine hs.add hl ?_
  have h₀ := refl s stopNowParts
  unfold State.stopNow
  exact .setCtxState (.onCtx (.endWork h₀))
def ctxCmdParts : List StatePart := [.reg .calSupnote, .reg .calSupnoteCnt, .reg .calEvt, .reg .calCqWr, .reg .calCnt0, .reg
  .calCnt1, .reg .calCnt2, .reg .calCnt3, .reg .entryW6, .reg .entryW7, .reg .ctxStat, .reg .mlSlockOwner, .reg .mlCnt1, .reg
  .lockOwner, .reg .lockFreed, .reg .lockStat, .reg .intPendSet, .reg .intActive, .reg .prvActive, .reg .intErr, .reg .vecStat,
  .slots, .entries, .offers, .lastEv, .gpr, .ctxs, .busyAt, .waking, .links, .parked, .slockQ, .takenBy, .vecFirst, .doneAt,
  .wakePin, .taskMem, .badTm]
theorem ctxCmd {x : Nat} {start stop : Bool} (hs : s₀.frame s parts) (hl : ctxCmdParts ⊆ parts := by decide) : s₀.frame
    (s.ctxCmd x start stop) parts := by
  refine hs.add hl ?_
  have h₀ := refl s ctxCmdParts
  unfold State.ctxCmd
  exact .ite (.ite (.onCtx (.ite (.startCtx h₀) h₀)) (.stopNow (.ite (.startCtx h₀) h₀))) (.ite (.startCtx h₀) h₀)
def lostEntryParts : List StatePart := [.reg .calEvt, .reg .calCqWr, .reg .calCnt0, .reg .calCnt1, .reg .calCnt2, .reg .calCnt3,
  .reg .entryW6, .reg .entryW7, .reg .intPendSet, .reg .intErr, .reg .vecStat, .slots, .entries, .waking, .vecFirst, .wakePin,
  .taskMem, .badTm]
theorem lostEntry {idx : Nat} (hs : s₀.frame s parts) (hl : lostEntryParts ⊆ parts := by decide) : s₀.frame (s.lostEntry idx)
    parts := by
  refine hs.add hl ?_
  have h₀ := refl s lostEntryParts
  unfold State.lostEntry
  dsimp only
  split
  · exact .ite (.clearSlot h₀) h₀
  · exact .freeEntry (.putRecord (.ite (.clearSlot h₀) h₀))
def lostLogParts : List StatePart := [.reg .logCntMisc, .logRecs]
theorem lostLog {idx : Nat} (hs : s₀.frame s parts) (hl : lostLogParts ⊆ parts := by decide) : s₀.frame (s.lostLog idx) parts :=
    by
  refine hs.add hl ?_
  have h₀ := refl s lostLogParts
  unfold State.lostLog
  exact .bump (.put_logRecs h₀)
def lostGoldenParts : List StatePart := [.reg .csStat, .golden, .goldenDispatch, .goldenLost]
theorem lostGolden {e addr : Nat} (hs : s₀.frame s parts) (hl : lostGoldenParts ⊆ parts := by decide) : s₀.frame (s.lostGolden e
    addr) parts := by
  refine hs.add hl ?_
  have h₀ := refl s lostGoldenParts
  unfold State.lostGolden
  dsimp only
  split
  · exact .ite (.put_golden (.setFlag h₀)) (.put_goldenDispatch (.setFlag h₀))
  · exact .put_goldenLost (.setFlag h₀)
def uncorrectableParts : List StatePart := [.reg .calEvt, .reg .calCqWr, .reg .calCnt0, .reg .calCnt1, .reg .calCnt2, .reg
  .calCnt3, .reg .entryW6, .reg .entryW7, .reg .csStat, .reg .logEvt, .reg .logCntMisc, .reg .logCfgerr, .reg .catW0, .reg
  .mlCnt1, .reg .intPendSet, .reg .intErr, .reg .vecStat, .reg .fltSeq, .reg .fltStat, .reg .fltMem, .reg .fltEvt, .reg .fltRec,
  .slots, .entries, .logRecs, .waking, .golden, .goldenDispatch, .goldenLost, .links, .parked, .fltTotal, .vecFirst, .wakePin,
  .taskMem, .badTm, .badScript]
theorem uncorrectable {mem : GuardedMem} {idx : Nat} (hs : s₀.frame s parts) (hl : uncorrectableParts ⊆ parts := by decide) :
    s₀.frame (s.uncorrectable mem idx) parts := by
  refine hs.add hl ?_
  have h₀ := refl s uncorrectableParts
  unfold State.uncorrectable
  split
  · exact .put_badTm (.lostWord h₀)
  · exact .lostEntry (.lostWord h₀)
  · exact .logCfgErr (.setFld (.lostWord h₀))
  · exact .lostLog (.lostWord h₀)
  · exact .put_badScript (.lostWord h₀)
  · exact .lostGolden (.lostWord h₀)
  · exact .lostWord h₀
theorem sealRec (hs : s₀.frame s parts) (hl : .reg .startRec ∈ parts := by decide) : s₀.frame s.sealRec parts := by
  refine hs.add1 hl ?_
  have h₀ := refl s [.reg .startRec]
  unfold State.sealRec
  exact .setFld h₀
def haltStartParts : List StatePart := [.reg .startFeed, .reg .startRec]
theorem haltStart (hs : s₀.frame s parts) (hl : haltStartParts ⊆ parts := by decide) : s₀.frame s.haltStart parts := by
  refine hs.add hl ?_
  have h₀ := refl s haltStartParts
  unfold State.haltStart
  exact .sealRec (.setFlag (.setFld (.setFld h₀)))
def putDmaByteParts : List StatePart := [.taskMem, .hostMem]
theorem putDmaByte {sp a : Nat} {b : Byte} (hs : s₀.frame s parts) (hl : putDmaByteParts ⊆ parts := by decide) :
    s₀.frame (s.putDmaByte sp a b) parts := by
  refine hs.add hl ?_
  have h₀ := refl s putDmaByteParts
  unfold State.putDmaByte
  exact .ite (.put_hostMem h₀) (.ite (.put_taskMem h₀) h₀)
def putDmaWordParts : List StatePart := [.taskMem, .badTm, .hostMem]
theorem putDmaWord {sp a : Nat} {w : Word} (hs : s₀.frame s parts) (hl : putDmaWordParts ⊆ parts := by decide) : s₀.frame
    (s.putDmaWord sp a w) parts := by
  refine hs.add hl ?_
  have h₀ := refl s putDmaWordParts
  unfold State.putDmaWord
  exact .ite (.healTm (.foldl h₀ fun _ _ h1 => .putDmaByte h1)) (.foldl h₀ fun _ _ h1 => .putDmaByte h1)
def putDmaWordsParts : List StatePart := [.taskMem, .badTm, .hostMem]
theorem putDmaWords {sp a : Nat} {ws : List Word} (hs : s₀.frame s parts) (hl : putDmaWordsParts ⊆ parts := by decide) :
    s₀.frame (s.putDmaWords sp a ws) parts := by
  refine hs.add hl ?_
  have h₀ := refl s putDmaWordsParts
  unfold State.putDmaWords
  exact .foldl h₀ fun _ _ h1 => .putDmaWord h1
def dmaHaltParts : List StatePart := [.reg .chStat, .reg .pmPin, .reg .logStat, .reg .logEvt, .reg .mlCnt1, .reg .intPendSet,
  .reg .intErr, .reg .vecStat, .reg .dmaStat, .reg .dmaErrAddrLo, .reg .dmaErrAddrHi, .reg .dmaErrDir, .reg .dmaEvt, .reg
  .dmaCnt, .reg .fltSeq, .reg .fltStat, .reg .fltMem, .reg .fltEvt, .reg .fltRec, .waking, .links, .parked, .fltTotal,
  .vecFirst, .wakePin]
theorem dmaHalt {c kind cause sp : Nat} {addr : Nat} {write : Bool} (hs : s₀.frame s parts) (hl : dmaHaltParts ⊆ parts := by
    decide) : s₀.frame (s.dmaHalt c kind cause sp addr write) parts := by
  refine hs.add hl ?_
  have h₀ := refl s dmaHaltParts
  unfold State.dmaHalt
  exact .ite (.logEvent (.setFlag (.when (.dmaEvent (.bump (.wr (.wr (.wr (.withUnit h₀ (fun _ h1 => .setFld (.setFlag (.setFlag
    h1))))))))) (fun _ h1 => .lostWord h1)))) (.when (.dmaEvent (.bump (.wr (.wr (.wr (.withUnit h₀ (fun _ h1 => .setFld
    (.setFlag (.setFlag h1))))))))) (fun _ h1 => .lostWord h1))
def queueReplyParts : List StatePart := [.reg .sysCmdStat, .reg .mbData, .reg .mbCtrl, .reg .intPendSet, .reg .intErr, .reg
  .vecStat, .waking, .goAt, .vecFirst, .goOld, .wakePin, .replies]
theorem queueReply {k : Nat} {ws : List Word} (hs : s₀.frame s parts) (hl : queueReplyParts ⊆ parts := by decide) : s₀.frame
    (s.queueReply k ws) parts := by
  refine hs.add hl ?_
  have h₀ := refl s queueReplyParts
  unfold State.queueReply
  exact .pumpReply (.setReplies h₀)
def taskReplyParts : List StatePart := [.ctxs, .taskMem, .badTm]
theorem taskReply {x : Nat} {buf size : Nat} {ws : List Word} {st : Nat} (hs : s₀.frame s parts) (hl : taskReplyParts ⊆ parts :=
    by decide) : s₀.frame (s.taskReply x buf size ws st) parts := by
  refine hs.add hl ?_
  have h₀ := refl s taskReplyParts
  unfold State.taskReply
  exact .ite h₀ (.onCtx (.foldl h₀ fun _ _ h1 => .setTm h1))
theorem endLong {n : Nat} (hs : s₀.frame s parts) (hl : .longOps ∈ parts := by decide) : s₀.frame (s.endLong n) parts := by
  refine hs.add1 hl ?_
  have h₀ := refl s [.longOps]
  unfold State.endLong
  exact .put_longOps h₀
def sendCompletionParts : List StatePart := [.reg .sysCmdStat, .reg .mbData, .reg .mbCtrl, .reg .intPendSet, .reg .intErr, .reg
  .vecStat, .reg .dmaEvt, .ctxs, .waking, .dmas, .goAt, .vecFirst, .goOld, .wakePin, .replies, .longOps, .taskMem, .badTm,
  .hostMem]
theorem sendCompletion {o : LongOp} {st : Nat} {res : List Word} (hs : s₀.frame s parts) (hl : sendCompletionParts ⊆ parts := by
    decide) : s₀.frame (s.sendCompletion o st res) parts := by
  refine hs.add hl ?_
  have h₀ := refl s sendCompletionParts
  unfold State.sendCompletion
  split
  · exact .ite (.endLong h₀) (.ite (.setStall h₀) (.queueReply (.endLong h₀)))
  · exact .ite (.endLong h₀) (.ite (.setStall h₀) (.queueReply (.endLong h₀)))
  · refine .ite (.onDma (.endLong h₀)) (.ite (.endLong h₀) ?_)
    split
    · exact .ite h₀ (.ite (.dmaEvent (.putDmaWord (.putDmaWords (.endLong h₀)))) (.putDmaWord (.putDmaWords (.endLong h₀))))
  · split
    · exact .taskReply (.endLong h₀)
def completeLongParts : List StatePart := [.reg .sysCmdStat, .reg .mbData, .reg .mbCtrl, .reg .intPendSet, .reg .intErr, .reg
  .vecStat, .reg .dmaEvt, .ctxs, .waking, .dmas, .goAt, .vecFirst, .goOld, .wakePin, .replies, .longOps, .taskMem, .badTm,
  .hostMem]
theorem completeLong {n : Nat} (hs : s₀.frame s parts) (hl : completeLongParts ⊆ parts := by decide) : s₀.frame (s.completeLong
    n) parts := by
  refine hs.add hl ?_
  have h₀ := refl s completeLongParts
  unfold State.completeLong
  split
  · split
    · exact .sendCompletion h₀
    · exact h₀
  · exact h₀
def finishNowParts : List StatePart := [.reg .sysCmdStat, .reg .mbData, .reg .mbCtrl, .reg .intPendSet, .reg .intErr, .reg
  .vecStat, .reg .dmaEvt, .ctxs, .waking, .dmas, .goAt, .vecFirst, .goOld, .wakePin, .replies, .longOps, .taskMem, .badTm,
  .hostMem]
theorem finishNow {n st : Nat} {res : List Word} (hs : s₀.frame s parts) (hl : finishNowParts ⊆ parts := by decide) : s₀.frame
    (s.finishNow n st res) parts := by
  refine hs.add hl ?_
  have h₀ := refl s finishNowParts
  unfold State.finishNow
  exact .completeLong (.finishOp h₀)
theorem raiseFault {x code : Nat} {addr : Nat} (hs : s₀.frame s parts) (hl : .ctxs ∈ parts := by decide) : s₀.frame
    (s.raiseFault x code addr) parts := by
  refine hs.add1 hl ?_
  have h₀ := refl s [.ctxs]
  unfold State.raiseFault
  exact .onCtx h₀
def noteCheckParts : List StatePart := [.reg .mcLast, .reg .mcTime, .reg .ctxCause, .reg .ctxFaultPc]
theorem noteCheck {e code l : Nat} (hs : s₀.frame s parts) (hl : noteCheckParts ⊆ parts := by decide) : s₀.frame (s.noteCheck e
    code l) parts := by
  refine hs.add hl ?_
  have h₀ := refl s noteCheckParts
  unfold State.noteCheck
  exact .wr (.wr (.wr (.setFld (.setFld h₀))))
def memoryCheckParts : List StatePart := [.reg .csStat, .reg .mcLast, .reg .mcTime, .reg .ctxCause, .reg .ctxFaultPc, .reg
  .mlCnt1, .reg .intPendSet, .reg .intErr, .reg .vecStat, .reg .fltSeq, .reg .fltStat, .reg .fltMem, .reg .fltEvt, .reg .fltRec,
  .ctxs, .waking, .links, .parked, .fltTotal, .vecFirst, .wakePin]
theorem memoryCheck {x addr : Nat} (hs : s₀.frame s parts) (hl : memoryCheckParts ⊆ parts := by decide) : s₀.frame
    (s.memoryCheck x addr) parts := by
  refine hs.add hl ?_
  have h₀ := refl s memoryCheckParts
  unfold State.memoryCheck
  exact .raiseFault (.noteCheck (.bump (.lostWord h₀)))
theorem hold {x n : Nat} (hs : s₀.frame s parts) (hl : .ctxs ∈ parts := by decide) : s₀.frame (s.hold x n) parts := by
  refine hs.add1 hl ?_
  have h₀ := refl s [.ctxs]
  unfold State.hold
  exact .onCtx h₀
def countIssueParts : List StatePart := [.reg .engIssue, .reg .ctxIssued, .reg .govWakeCnt, .reg .govIsl, .now, .ctxs,
  .lastIssue, .cycleAt, .busyAt, .waking]
theorem countIssue {x op : Nat} (hs : s₀.frame s parts) (hl : countIssueParts ⊆ parts := by decide) : s₀.frame (s.countIssue x
    op) parts := by
  refine hs.add hl ?_
  have h₀ := refl s countIssueParts
  unfold State.countIssue
  exact .hold (.put_lastIssue_cycleAt (.touch (.bumpW (.bumpW (.wakeIsland (.reach h₀))))))
theorem chargeWords {x c n : Nat} (hs : s₀.frame s parts) (hl : .unsettled ∈ parts := by decide) : s₀.frame (s.chargeWords x c
    n) parts := by
  refine hs.add1 hl ?_
  have h₀ := refl s [.unsettled]
  unfold State.chargeWords
  exact .put_unsettled h₀
theorem chargeOp {x op : Nat} (hs : s₀.frame s parts) (hl : .unsettled ∈ parts := by decide) : s₀.frame (s.chargeOp x op) parts
    := by
  refine hs.add1 hl ?_
  have h₀ := refl s [.unsettled]
  unfold State.chargeOp
  split
  · exact .chargeWords (.each h₀ (fun _ _ h1 => .chargeWords h1))
  · exact .each h₀ (fun _ _ h1 => .chargeWords h1)
def setNointParts : List StatePart := [.reg .ctxErrcnt, .ctxs]
theorem setNoint {x : Nat} {v afresh : Bool} (hs : s₀.frame s parts) (hl : setNointParts ⊆ parts := by decide) : s₀.frame
    (s.setNoint x v afresh) parts := by
  refine hs.add hl ?_
  have h₀ := refl s setNointParts
  unfold State.setNoint
  exact .ite (.ite (.bump (.onCtx h₀)) (.onCtx h₀)) (.onCtx h₀)
def deliverToParts : List StatePart := [.reg .intPendSet, .reg .intActive, .reg .prvPendSet, .reg .prvActive, .takenBy]
theorem deliverTo {x n : Nat} (hs : s₀.frame s parts) (hl : deliverToParts ⊆ parts := by decide) : s₀.frame (s.deliverTo x n)
    parts := by
  refine hs.add hl ?_
  have h₀ := refl s deliverToParts
  unfold State.deliverTo
  exact .ite (.deliver h₀) (.deliverPrv h₀)
def reportDoneParts : List StatePart := [.reg .intActive, .reg .prvActive, .reg .intErr, .reg .vecStat, .takenBy, .doneAt]
theorem reportDone {x n : Nat} (hs : s₀.frame s parts) (hl : reportDoneParts ⊆ parts := by decide) : s₀.frame (s.reportDone x n)
    parts := by
  refine hs.add hl ?_
  have h₀ := refl s reportDoneParts
  unfold State.reportDone
  exact .ite (.ite (.complete h₀) h₀) (.ite (.completePrv h₀) h₀)
def enterHandlerParts : List StatePart := [.reg .ctxStat, .reg .intPendSet, .reg .intActive, .reg .prvPendSet, .reg .prvActive,
  .ctxs, .busyAt, .takenBy, .taskMem, .badTm]
theorem enterHandler {x l n : Nat} (hs : s₀.frame s parts) (hl : enterHandlerParts ⊆ parts := by decide) : s₀.frame
    (s.enterHandler x l n) parts := by
  refine hs.add hl ?_
  have h₀ := refl s enterHandlerParts
  unfold State.enterHandler
  refine .ite (.raiseFault h₀) ?_
  split
  · exact .raiseFault h₀
  · exact .hold (.setCtxState (.deliverTo (.onCtx (.foldl h₀ fun _ _ h1 => .setTm h1))))
def faultNowParts : List StatePart := [.reg .calSupnote, .reg .calSupnoteCnt, .reg .calEvt, .reg .calCqWr, .reg .calCnt0, .reg
  .calCnt1, .reg .calCnt2, .reg .calCnt3, .reg .entryW6, .reg .entryW7, .reg .ctxStat, .reg .ctxErrcnt, .reg .ctxCause, .reg
  .ctxFaultPc, .reg .mlSlockOwner, .reg .mlCnt1, .reg .lockOwner, .reg .lockFreed, .reg .lockStat, .reg .intPendSet, .reg
  .intActive, .reg .prvActive, .reg .intErr, .reg .vecStat, .reg .fltSeq, .reg .fltStat, .reg .fltEvt, .reg .fltRec, .slots,
  .entries, .offers, .lastEv, .ctxs, .busyAt, .waking, .links, .parked, .slockQ, .fltTotal, .takenBy, .vecFirst, .doneAt,
  .wakePin, .taskMem, .badTm]
theorem faultNow {x kind : Nat} {f : CtxFault} (hs : s₀.frame s parts) (hl : faultNowParts ⊆ parts := by decide) : s₀.frame
    (s.faultNow x kind f) parts := by
  refine hs.add hl ?_
  have h₀ := refl s faultNowParts
  unfold State.faultNow
  exact .fltEvent (.fault (.endWork (.onCtx (.bump (.setCr (.setCr (.setCtxState h₀)))))))
def renameParts : List StatePart := [.reg .entryW0, .reg .catW1, .reg .portNotify, .reg .mlSsCtrl, .reg .mbCfg, .reg .intRoute,
  .takenBy]
theorem rename {x y : Nat} (hs : s₀.frame s parts) (hl : renameParts ⊆ parts := by decide) : s₀.frame (s.rename x y) parts := by
  refine hs.add hl ?_
  have h₀ := refl s renameParts
  unfold State.rename
  exact .each (.ite (.setFld (.each (.each (.each (.each (.each h₀ (fun _ _ h1 => .setFld h1)) (fun _ _ h1 => .setFld h1)) (fun
    _ _ h1 => .setFld (.setFld h1))) (fun _ _ h1 => .setFld h1)) (fun _ _ h1 => .setFld h1))) (.each (.each (.each (.each
    (.each h₀ (fun _ _ h1 => .setFld h1)) (fun _ _ h1 => .setFld h1)) (fun _ _ h1 => .setFld (.setFld h1))) (fun _ _ h1 =>
    .setFld h1)) (fun _ _ h1 => .setFld h1))) (fun _ _ h1 => .put_takenBy h1)
theorem noteMove {x : Nat} {y : Option Nat} (hs : s₀.frame s parts) (hl : .reg .fltMove ∈ parts := by decide) : s₀.frame
    (s.noteMove x y) parts := by
  refine hs.add1 hl ?_
  have h₀ := refl s [.reg .fltMove]
  unfold State.noteMove
  exact .wr h₀
def repairWordParts : List StatePart := [.micro, .dispatch]
theorem repairWord {e addr : Nat} (hs : s₀.frame s parts) (hl : repairWordParts ⊆ parts := by decide) : s₀.frame (s.repairWord e
    addr) parts := by
  refine hs.add hl ?_
  have h₀ := refl s repairWordParts
  unfold State.repairWord
  exact .ite (.put_micro h₀) (.put_dispatch h₀)
def lockstepCheckParts : List StatePart := [.reg .csStat, .reg .mcLast, .reg .mcTime, .reg .ctxCause, .reg .ctxFaultPc, .reg
  .mlCnt1, .reg .intPendSet, .reg .intErr, .reg .vecStat, .reg .fltSeq, .reg .fltStat, .reg .fltEvt, .reg .fltRec, .waking,
  .lockTimes, .links, .parked, .fltTotal, .vecFirst, .wakePin, .freeCtr]
theorem lockstepCheck {e l : Nat} (hs : s₀.frame s parts) (hl : lockstepCheckParts ⊆ parts := by decide) : s₀.frame
    (s.lockstepCheck e l) parts := by
  refine hs.add hl ?_
  have h₀ := refl s lockstepCheckParts
  unfold State.lockstepCheck
  exact .fault (.drawn (.noteCheck (.bump (.put_lockTimes h₀))))
def patchRecParts : List StatePart := [.micro, .dispatch, .golden, .goldenDispatch, .goldenLost]
theorem patchRec {e : Nat} {r : PatchRec} (hs : s₀.frame s parts) (hl : patchRecParts ⊆ parts := by decide) : s₀.frame
    (s.patchRec e r) parts := by
  refine hs.add hl ?_
  have h₀ := refl s patchRecParts
  unfold State.patchRec
  exact .foldl h₀ fun _ _ h1 => .repairWord (.put_goldenLost (.ite (.put_golden h1) (.put_goldenDispatch h1)))
def patchHoldParts : List StatePart := [.cycleAt, .patchEnd, .freeCtr]
theorem patchHold {e : Nat} (hs : s₀.frame s parts) (hl : patchHoldParts ⊆ parts := by decide) : s₀.frame (s.patchHold e) parts
    := by
  refine hs.add hl ?_
  have h₀ := refl s patchHoldParts
  unfold State.patchHold
  exact .put_cycleAt_patchEnd (.drawn h₀)
def setHaltParts : List StatePart := [.reg .chStat, .reg .pmPin, .reg .engDbg, .reg .intPendSet, .reg .intErr, .reg .vecStat,
  .chans, .bridges, .trips, .slots, .fols, .stopAt, .folMiss, .pinStill, .waking, .vecFirst, .wakePin]
theorem setHalt {e : Nat} {b : Bool} (hs : s₀.frame s parts) (hl : setHaltParts ⊆ parts := by decide) : s₀.frame (s.setHalt e b)
    parts := by
  refine hs.add hl ?_
  have h₀ := refl s setHaltParts
  unfold State.setHalt
  exact .syncTiles (.withUnits h₀ (fun _ h1 => .setFlag h1))
def ringReplyParts : List StatePart := [.reg .chStat, .reg .pmPin, .reg .logStat, .reg .logEvt, .reg .mlCnt1, .reg .intPendSet,
  .reg .intErr, .reg .vecStat, .reg .dmaStat, .reg .dmaProg, .reg .dmaErrAddrLo, .reg .dmaErrAddrHi, .reg .dmaErrDir, .reg
  .dmaEvt, .reg .dmaCnt, .reg .fltSeq, .reg .fltStat, .reg .fltMem, .reg .fltEvt, .reg .fltRec, .waking, .links, .parked,
  .fltTotal, .vecFirst, .wakePin, .taskMem, .badTm, .hostMem]
theorem ringReply {c : Nat} (hs : s₀.frame s parts) (hl : ringReplyParts ⊆ parts := by decide) : s₀.frame (s.ringReply c) parts
    := by
  refine hs.add hl ?_
  have h₀ := refl s ringReplyParts
  unfold State.ringReply
  dsimp only
  split
  · exact .dmaHalt h₀
  · exact .ite h₀ (.wr (.putDmaWord (.putDmaWords h₀)))

end

end State.frame

end Sys2Proof.Machine
end

section
/-! PROOFS. Interrupt entry, RETE and the NOINT limit (R197 to R204). -/

namespace Sys2Proof.Machine

set_option Elab.async false

/-! ## What the windows and the PSW of a context rest on -/

theorem State.psw_congr {s t : State} {x : Nat} (hp : (t.ctx x).psw = (s.ctx x).psw)
    (hc : t.rd .ctxCtrl (x / 32) (x % 32) = s.rd .ctxCtrl (x / 32) (x % 32)) : t.psw x = s.psw x := by
  unfold State.psw State.ceil State.cf State.fld
  rw [hp, hc]

/-- The registers that hold the windows of a context. -/
def windowRegs : List RegName := [.codeBase, .codeSize, .dataBase, .dataSize, .tabBase, .tabSize]

theorem State.grants_congr {s t : State} {x : Nat} (hp : t.psw x = s.psw x) (hr : ∀ n ∈ windowRegs, t.cr n x = s.cr n x)
    (k : AccKind) (a n : Nat) : t.grants x k a n = s.grants x k a n := by
  have priv : t.privOf x = s.privOf x := by
    unfold State.privOf
    rw [hp]
  have code : t.inWindow x .codeBase .codeSize a n = s.inWindow x .codeBase .codeSize a n := by
    unfold State.inWindow
    rw [hr .codeBase (by decide), hr .codeSize (by decide)]
  have data : t.inWindow x .dataBase .dataSize a n = s.inWindow x .dataBase .dataSize a n := by
    unfold State.inWindow
    rw [hr .dataBase (by decide), hr .dataSize (by decide)]
  have table : t.inWindow x .tabBase .tabSize a n = s.inWindow x .tabBase .tabSize a n := by
    unfold State.inWindow
    rw [hr .tabBase (by decide), hr .tabSize (by decide)]
  unfold State.grants
  rw [priv, code, data, table]

theorem State.vectorOf_congr {s t : State} {x : Nat} (hp : t.psw x = s.psw x) (hr : ∀ n ∈ windowRegs, t.cr n x = s.cr n x)
    (hm : t.taskMem = s.taskMem) (l : Nat) : t.vectorOf x l = s.vectorOf x l := by
  unfold State.vectorOf State.tm
  simp only [hr .codeBase (by decide), hm, State.grants_congr hp hr]

theorem State.frameOk_congr {s t : State} {x : Nat} (hp : t.psw x = s.psw x) (hr : ∀ n ∈ windowRegs, t.cr n x = s.cr n x) (a : Word) :
    t.frameOk x a = s.frameOk x a := by
  unfold State.frameOk
  rw [State.grants_congr hp hr]

/-- The registers of a context that entry, return and faults rest on. -/
def entryRegs : List RegName := .ctxCtrl :: .ctxNointLim :: windowRegs

/-- A frame that lists none of them leaves what they say. -/
theorem State.frame.context {s t : State} {l : List StatePart} (h : s.frame t l) (x : Nat) (hc : .ctxs ∉ l := by decide)
    (hm : .taskMem ∉ l := by decide) (hr : ∀ n ∈ entryRegs, StatePart.reg n ∉ l := by decide) :
    t.ctx x = s.ctx x ∧ t.psw x = s.psw x ∧ (∀ a, t.frameOk x a = s.frameOk x a) ∧ ∀ k, t.vectorOf x k = s.vectorOf x k := by
  have ctx : t.ctx x = s.ctx x := h.ctx x hc
  have psw : t.psw x = s.psw x := State.psw_congr (congrArg Ctx.psw ctx) (h.rd .ctxCtrl _ _ (hr _ (by decide)))
  have regs : ∀ n ∈ windowRegs, t.cr n x = s.cr n x := fun n hn =>
    h.rd n _ _ (hr n (List.mem_cons_of_mem _ (List.mem_cons_of_mem _ hn)))
  exact ⟨ctx, psw, State.frameOk_congr psw regs, State.vectorOf_congr psw regs (h .taskMem hm)⟩

/-! ## The frame -/

/-- The words of the frame that entry pushes (R199). -/
def State.frameWords (s : State) (x : Nat) : List Word :=
  [(s.ctx x).pc, s.psw x, (s.ctx x).cause, (s.ctx x).prog, s.g x 0, s.g x 1, s.g x 2, s.g x 3]

/-- The frame is on the stack. -/
def State.framed (s : State) (x : Nat) (a : Word) : State := s.storeWords a.toNat 8 fun _ i => (s.frameWords x).getD i 0

theorem State.framed_tm (s : State) (x : Nat) (a : Word) : ∀ i, i < 8 → (s.framed x a).tm (a.toNat + 4 * i) = (s.frameWords x).getD i 0 :=
  State.storeWords_tm fun _ _ => rfl

theorem State.framed_frame (s : State) (x : Nat) (a : Word) : s.frame (s.framed x a) [.taskMem, .badTm] := by
  exact .each (.refl s _) fun _ _ h => .setTm h

/-- PSW in a handler of level l (R199). -/
def handlerPsw (p : Word) (l : Nat) : Word := putB (putB (putF p 8 5 l) psNoint false) psOverstay false

theorem State.pswFrom_ilvl (s : State) (x : Nat) (w : Word) : getF (s.pswFrom x w) 8 5 = getF w 8 5 := by
  unfold State.pswFrom
  split
  · rfl
  · exact getF_putF_off _ _ _ _ _ _ (.inr (by decide))

theorem State.pswFrom_bit (s : State) (x : Nat) (w : Word) {b : Nat} (h : 6 ≤ b) : getB (s.pswFrom x w) b = getB w b := by
  unfold State.pswFrom
  split
  · rfl
  · exact getB_putF_off _ _ _ _ _ (.inr h)

/-- The context as the handler begins: v its address, a its stack, l its level and n its source. -/
def Ctx.handling (c : Ctx) (v a p : Word) (l n : Nat) : Ctx := { c with pc := v, sp := a, psw := handlerPsw p l, cause := causeOf l n, prog := 0 }

theorem State.enterHandler_stack {s : State} {x : Nat} (l n : Nat) (bad : s.frameOk x ((s.ctx x).sp - 32) = false) :
    s.enterHandler x l n = s.raiseFault x fcStack := if_pos (congrArg Bool.not bad)

theorem State.enterHandler_vector {s : State} {x l : Nat} (n : Nat) (ok : s.frameOk x ((s.ctx x).sp - 32) = true)
    (vec : s.vectorOf x l = none) : s.enterHandler x l n = s.raiseFault x fcVector := by
  unfold State.enterHandler
  dsimp only
  rw [ok, vec]
  rfl

theorem State.deliverTo_marks (s : State) (x : Nat) {n : Nat} (h : n < 256) :
    (s.deliverTo x n).active n = true ∧ (s.deliverTo x n).pend n = false := by
  unfold State.deliverTo
  rw [if_pos h]
  exact ⟨(s.deliver_active n x n).trans (if_pos rfl), (s.deliver_pend n x n).trans (if_pos rfl)⟩

/-- The end of entry: the source marked, and the context READY after 10 cycles. -/
def State.entryDone (s : State) (x n : Nat) : State := ((s.deliverTo x n).setCtxState x 2).hold x 10

theorem State.entryDone_ctx (s : State) (x n : Nat) : ∃ r, (s.entryDone x n).ctx x = { s.ctx x with readyAt := r } := by
  refine ⟨toS (((s.deliverTo x n).setCtxState x 2).now.toNat + 20 * 10), (State.ctx_onCtx_self ..).trans ?_⟩
  rw [State.setCtxState_ctx, (State.frame.deliverTo (.refl s State.frame.deliverToParts) : s.frame (s.deliverTo x n) _).ctx x]

/-- What the end of entry touches. -/
def entryDoneParts : List StatePart := .ctxs :: State.frame.setCtxStateParts ++ State.frame.deliverToParts

theorem State.entryDone_frame (s : State) (x n : Nat) : s.frame (s.entryDone x n) entryDoneParts :=
  .hold (.setCtxState (.deliverTo (.refl s _)))

theorem State.entryDone_state (s : State) (x n : Nat) : (s.entryDone x n).ctxState x = 2 := by
  have fr : ((s.deliverTo x n).setCtxState x 2).frame (s.entryDone x n) [.ctxs] := .hold (.refl _ _)
  exact (fr.fld .ctxStat 0 3 _ _).trans ((s.deliverTo x n).setCtxState_self x (by decide))

theorem State.entryDone_marks (s : State) (x : Nat) {n : Nat} (h : n < 256) :
    (s.entryDone x n).active n = true ∧ (s.entryDone x n).pend n = false := by
  have fr : (s.deliverTo x n).frame (s.entryDone x n) (.ctxs :: State.frame.setCtxStateParts) := .hold (.setCtxState (.refl _ _))
  obtain ⟨active, pend⟩ := s.deliverTo_marks x h
  exact ⟨(fr.flag .intActive _ _ _).trans active, (fr.flag .intPendSet _ _ _).trans pend⟩

theorem State.entryDone_psw (s : State) (x n : Nat) : (s.entryDone x n).psw x = s.psw x := by
  obtain ⟨r, ctx⟩ := s.entryDone_ctx x n
  exact State.psw_congr ((congrArg Ctx.psw ctx).trans rfl) ((s.entryDone_frame x n).rd .ctxCtrl _ _)

/-- The handler begins: the context has its frame on the stack and the handler's values. -/
def State.begun (u : State) (x l n : Nat) (v a : Word) : State := u.onCtx x (fun c => c.handling v a (u.psw x) l n)

theorem State.enterHandler_eq {s : State} {x l : Nat} {v : Word} (n : Nat) (ok : s.frameOk x ((s.ctx x).sp - 32) = true)
    (vec : s.vectorOf x l = some v) : s.enterHandler x l n =
      ((s.framed x ((s.ctx x).sp - 32)).begun x l n v ((s.ctx x).sp - 32)).entryDone x n := by
  unfold State.enterHandler
  dsimp only
  rw [ok, vec]
  rfl

/-- PSW and the level in a handler (R199). -/
theorem State.psw_handling (s : State) (x l n : Nat) (v a p : Word) :
    let t := s.onCtx x (fun c => c.handling v a p l n)
    t.ilvl x = l % 32 ∧ getB (t.psw x) psNoint = false := by
  intro t
  have psw : t.psw x = s.pswFrom x (handlerPsw p l) := s.psw_onCtx_self x _
  unfold State.ilvl
  rw [psw, State.pswFrom_ilvl, State.pswFrom_bit _ _ _ (by decide), handlerPsw]
  rw [getF_putB_off _ _ _ _ _ (.inl (by decide)), getF_putB_off _ _ _ _ _ (.inl (by decide)), getF_putF_same _ _ _ _ (by decide),
    getB_putB_off _ _ _ _ (by decide), getB_putB_same _ _ _ (by decide)]
  exact ⟨rfl, rfl⟩

theorem State.begun_ctx (u : State) (x l n : Nat) (v a : Word) : (u.begun x l n v a).ctx x = (u.ctx x).handling v a (u.psw x) l n :=
  State.ctx_onCtx_self ..

/-- What entry leaves of the context (R199). -/
theorem State.entered_ctx (u : State) (x l n : Nat) (v a : Word) {t : State} (ht : (u.begun x l n v a).entryDone x n = t) :
    (t.ctx x).pc = v ∧ (t.ctx x).sp = a ∧ (t.ctx x).cause = causeOf l n ∧ (t.ctx x).prog = 0 ∧ t.ilvl x = l % 32 ∧
    getB (t.psw x) psNoint = false ∧ t.ctxState x = 2 := by
  obtain ⟨level, noint⟩ := u.psw_handling x l n v a (u.psw x)
  have psw := (u.begun x l n v a).entryDone_psw x n
  have state := (u.begun x l n v a).entryDone_state x n
  obtain ⟨r, ctx⟩ := (u.begun x l n v a).entryDone_ctx x n
  rw [u.begun_ctx] at ctx
  rw [ht] at psw state ctx
  exact ⟨congrArg Ctx.pc ctx, congrArg Ctx.sp ctx, congrArg Ctx.cause ctx, congrArg Ctx.prog ctx,
    (congrArg (getF · 8 5) psw).trans level, (congrArg (getB · psNoint) psw).trans noint, state⟩

/-- What entry leaves of everything else. -/
theorem State.entered_rest (u : State) (x l n : Nat) (v a : Word) {t : State} (ht : (u.begun x l n v a).entryDone x n = t) :
    t.gpr = u.gpr ∧ t.taskMem = u.taskMem ∧ (n < 256 → t.active n = true ∧ t.pend n = false) := by
  subst ht
  have done := (u.begun x l n v a).entryDone_frame x n
  exact ⟨done .gpr (by decide), done .taskMem (by decide), fun h => (u.begun x l n v a).entryDone_marks x h⟩

/-- Entry from a state of its own: the frame's words, and what the handler finds. -/
theorem State.entry_spec (u : State) (x l n : Nat) (v a : Word) {t : State} (ht : ((u.framed x a).begun x l n v a).entryDone x n = t) :
    t.gpr = u.gpr ∧ (∀ i, i < 8 → t.tm (a.toNat + 4 * i) = (u.frameWords x).getD i 0) ∧
    (n < 256 → t.active n = true ∧ t.pend n = false) ∧
    ∀ b, b < a.toNat ∨ a.toNat + 32 ≤ b → t.taskMem.byte b = u.taskMem.byte b := by
  obtain ⟨gpr, mem, marks⟩ := State.entered_rest _ _ _ _ _ _ ht
  have words := u.framed_tm x a
  have beside : ∀ b, b < a.toNat ∨ a.toNat + 32 ≤ b → (u.framed x a).taskMem.byte b = u.taskMem.byte b :=
    fun b hb => State.storeWords_byte _ _ _ _ hb
  refine ⟨gpr.trans ((u.framed_frame x a) .gpr (by decide)), fun i hi => ?_, marks, fun b hb => ?_⟩
  · exact (congrArg (Mem.word · _) mem).trans (words i hi)
  · exact (congrArg (Mem.byte · b) mem).trans (beside b hb)

section
variable {x : Fin 128} {ts : Stamp} {s : State}

/-- The state at which entry is made: time has passed and the island is awake. -/
def State.entryAt (s : State) (x : Nat) (ts : Stamp) : State := (s.reachIn (islEngine (x / 32)) ts).wakeIsland (x / 32)

theorem State.entryAt_frame (s : State) (x : Nat) (ts : Stamp) : s.frame (s.entryAt x ts) (.now :: State.frame.wakeIslandParts) :=
  .wakeIsland (.reachIn (.refl s _))

theorem exec_interruptEntry {l n : Nat} (hp : s.pstate < 3) (fitted : x.val / 32 < s.engines)
    (boundary : (s.reachIn (islEngine (x / 32)) ts).atBoundary x = true)
    (chosen : (s.reachIn (islEngine (x / 32)) ts).chosen (s.reachIn (islEngine (x / 32)) ts).now x = true)
    (taken : (s.reachIn (islEngine (x / 32)) ts).takable x ((s.reachIn (islEngine (x / 32)) ts).ilvl x) = some (l, n)) :
    exec (.interruptEntry x ts) s = .next ((s.entryAt x ts).enterHandler x l n) := by
  refine congrArg Host.Outcome.next ((State.happens_eq hp ?_ _).trans ?_)
  · have here : x.val / 32 < (s.reachIn (islEngine (x / 32)) ts).engines := fitted
    rw [boundary, chosen, decide_eq_true here]
    rfl
  · rw [taken]
    rfl

end

/-! ## RETE -/

/-- The words of the frame on top of the stack of context x. -/
def State.frameWord (s : State) (x i : Nat) : Word := s.tm ((s.ctx x).sp.toNat + 4 * i)

/-- The registers of the frame are back. -/
def State.unframed (s : State) (x : Nat) : State :=
  (((s.setG x 0 (s.frameWord x 4)).setG x 1 (s.frameWord x 5)).setG x 2 (s.frameWord x 6)).setG x 3 (s.frameWord x 7)

theorem State.unframed_frame (s : State) (x : Nat) : s.frame (s.unframed x) [.gpr] := .setG (.setG (.setG (.setG (.refl s _))))

/-- The context that the frame describes, NOINT still clear. -/
def State.frameCtx (s : State) (x : Nat) (c : Ctx) : Ctx := { c with
  pc := s.frameWord x 0, sp := c.sp + 32, psw := putB (s.frameWord x 1 &&& 0x1FFF) psNoint false, cause := s.frameWord x 2,
  prog := s.frameWord x 3 }

/-- RETE has taken the frame back (R203). -/
def State.returned (s : State) (x : Nat) : State :=
  ((s.unframed x).onCtx x (s.frameCtx x)).setNoint x (getB (s.frameWord x 1) psNoint) true

/-- NOINT has lasted too long: cleared, marked and counted (R204). -/
def State.overstayed (s : State) (x : Nat) : State :=
  (s.onCtx x (fun c => { c with psw := putB (putB c.psw psNoint false) psOverstay true })).bump .ctxErrcnt 24 8 (x / 32) (x % 32)

theorem State.overstayed_ctx (s : State) (x : Nat) :
    (s.overstayed x).ctx x = { s.ctx x with psw := putB (putB (s.ctx x).psw psNoint false) psOverstay true } :=
  (State.frame.bump (.refl _ [.reg .ctxErrcnt]) : State.frame _ (s.overstayed x) _).ctx x |>.trans (State.ctx_onCtx_self ..)

theorem State.setNoint_spec (s : State) (x : Nat) (v afresh : Bool) : ∃ p at', (s.setNoint x v afresh).ctx x = { s.ctx x with
    psw := p, nointAt := at' } ∧ getF p 8 5 = getF (s.ctx x).psw 8 5 := by
  unfold State.setNoint
  dsimp only
  by_cases afresh' : (v && (!getB (s.psw x) psNoint || afresh)) = true
  · rw [if_pos afresh']
    by_cases none_ : s.cf .ctxNointLim 0 12 x = 0
    · rw [if_pos none_]
      refine ⟨_, (s.ctx x).nointAt, s.overstayed_ctx x, ?_⟩
      rw [getF_putB_off _ _ _ _ _ (.inl (by decide)), getF_putB_off _ _ _ _ _ (.inl (by decide))]
    · rw [if_neg none_]
      exact ⟨_, _, State.ctx_onCtx_self .., getF_putB_off _ _ _ _ _ (.inl (by decide))⟩
  · rw [if_neg afresh']
    exact ⟨_, _, State.ctx_onCtx_self .., getF_putB_off _ _ _ _ _ (.inl (by decide))⟩

theorem State.setNoint_of {s : State} {x : Nat} {c : Ctx} (h : s.ctx x = c) (v afresh : Bool) : ∃ p at',
    (s.setNoint x v afresh).ctx x = { c with psw := p, nointAt := at' } ∧ getF p 8 5 = getF c.psw 8 5 := h ▸ s.setNoint_spec x v afresh

theorem State.getF_masked (w : Word) : getF (w &&& 0x1FFF) 8 5 = getF w 8 5 := by
  have h : ∀ n : Nat, (n &&& 8191) >>> 8 % 32 = n >>> 8 % 32 := fun n => by
    rw [show (8191 : Nat) = 2 ^ 13 - 1 from rfl, Nat.and_two_pow_sub_one_eq_mod, Nat.shiftRight_eq_div_pow, Nat.shiftRight_eq_div_pow]
    omega
  unfold getF
  simpa using h w.toNat

/-- What RETE leaves (R203). -/
theorem State.returned_spec (s : State) (x : Nat) {t : State} (ht : s.returned x = t) :
    (t.ctx x).pc = s.frameWord x 0 ∧ (t.ctx x).sp = (s.ctx x).sp + 32 ∧ (t.ctx x).cause = s.frameWord x 2 ∧
    (t.ctx x).prog = s.frameWord x 3 ∧ t.ilvl x = getF (s.frameWord x 1) 8 5 ∧ t.gpr = (s.unframed x).gpr ∧ t.taskMem = s.taskMem := by
  have kept : ((s.unframed x).onCtx x (s.frameCtx x)).frame (s.returned x) State.frame.setNointParts := .setNoint (.refl _ _)
  have base : ((s.unframed x).onCtx x (s.frameCtx x)).ctx x = s.frameCtx x (s.ctx x) :=
    (State.ctx_onCtx_self ..).trans (congrArg (s.frameCtx x) ((s.unframed_frame x).ctx x))
  have gpr : (s.returned x).gpr = (s.unframed x).gpr := kept .gpr (by decide)
  have whole : s.frame (s.returned x) (.gpr :: State.frame.setNointParts) :=
    .setNoint (.onCtx ((s.unframed_frame x).mono (by decide)))
  have mem : (s.returned x).taskMem = s.taskMem := whole .taskMem (by decide)
  have made : ∃ p at', (s.returned x).ctx x = { s.frameCtx x (s.ctx x) with psw := p, nointAt := at' } ∧
      getF p 8 5 = getF (s.frameCtx x (s.ctx x)).psw 8 5 := State.setNoint_of base _ _
  obtain ⟨p, at', ctx, level⟩ := made
  subst ht
  generalize s.returned x = t at *
  refine ⟨congrArg Ctx.pc ctx, congrArg Ctx.sp ctx, congrArg Ctx.cause ctx, congrArg Ctx.prog ctx, ?_, gpr, mem⟩
  have psw : t.psw x = t.pswFrom x p := congrArg (t.pswFrom x) (congrArg Ctx.psw ctx)
  unfold State.ilvl
  rw [psw, State.pswFrom_ilvl, level]
  exact (getF_putB_off _ _ _ _ _ (.inl (by decide))).trans (State.getF_masked _)

theorem State.unframed_g (s : State) (x : Nat) : (s.unframed x).g x 0 = s.frameWord x 4 ∧ (s.unframed x).g x 1 = s.frameWord x 5 ∧
    (s.unframed x).g x 2 = s.frameWord x 6 ∧ (s.unframed x).g x 3 = s.frameWord x 7 ∧
    ∀ q : GReg, 4 ≤ q.val → (s.unframed x).g x q = s.g x q := by
  refine ⟨?_, ?_, ?_, State.g_setG_self .., fun q hq => ?_⟩
  · exact (State.g_setG_ne _ _ _ (by decide)).trans ((State.g_setG_ne _ _ _ (by decide)).trans
      ((State.g_setG_ne _ _ _ (by decide)).trans (State.g_setG_self ..)))
  · exact (State.g_setG_ne _ _ _ (by decide)).trans ((State.g_setG_ne _ _ _ (by decide)).trans (State.g_setG_self ..))
  · exact (State.g_setG_ne _ _ _ (by decide)).trans (State.g_setG_self ..)
  · have apart : ∀ r : GReg, r.val < 4 → q ≠ r := fun r hr he => absurd hq (by rw [he]; omega)
    exact (State.g_setG_ne _ _ _ (apart 3 (by decide))).trans ((State.g_setG_ne _ _ _ (apart 2 (by decide))).trans
      ((State.g_setG_ne _ _ _ (apart 1 (by decide))).trans (State.g_setG_ne _ _ _ (apart 0 (by decide)))))

theorem exec_rete {x : Fin 128} {s : State} (h : s.starts x 0x54 = true) (level : s.ilvl x < 16) (cause : getF (s.ctx x).cause 0 8 ≠ 1)
    (ok : s.frameOk x (s.ctx x).sp = true) (good : s.badWordIn (s.ctx x).sp.toNat 32 = none)
    (none_ : (s.issued x 0x54).takable x (getF (s.frameWord x 1) 8 5) = none) (priv : s.ceil x ≤ getF (s.frameWord x 1) 4 2)
    (up : s.ilvl x < getF (s.frameWord x 1) 8 5) : exec (.rete x) s = .next ((s.issued x 0x54).returned x) := by
  have word : ∀ i, (s.issued x 0x54).tm ((((s.issued x 0x54).ctx x).sp).toNat + 4 * i) = s.frameWord x i := fun i => by
    rw [State.issued_tm, State.issued_sp]
    rfl
  have ok' : (s.issued x 0x54).frameOk x ((s.issued x 0x54).ctx x).sp = true := by
    rw [State.issued_sp, ← ok]
    exact State.frameOk_congr (s.issued_psw x 0x54 x) (fun n hn => s.issued_rd x 0x54 n _ _ (by revert n; decide)) _
  have cause' : getF ((s.issued x 0x54).ctx x).cause 0 8 ≠ 1 := by rwa [State.issued_cause]
  have level' : (s.issued x 0x54).ilvl x = s.ilvl x := s.issued_ilvl x 0x54 x
  have ceil' : (s.issued x 0x54).ceil x = s.ceil x := s.issued_cf x 0x54 (by decide) ..
  have good' : (s.issued x 0x54).badWordIn (((s.issued x 0x54).ctx x).sp).toNat 32 = none := by
    rw [State.issued_sp, State.issued_badWordIn, good]
  refine exec_issue rfl h rfl ?_
  have last : ¬(getF (s.frameWord x 1) 4 2 < (s.issued x 0x54).ceil x ∨ getF (s.frameWord x 1) 8 5 ≤ (s.issued x 0x54).ilvl x) := by
    rw [ceil', level']
    omega
  unfold State.returned State.unframed State.frameCtx State.frameWord
  rw [← word] at none_ last
  generalize s.issued x 0x54 = u at *
  dsimp only
  rw [if_neg cause', if_neg (by rw [ok', level']; simp; omega), good']
  dsimp only
  rw [none_]
  dsimp only
  rw [if_neg last]

/-! ## The obligation -/

theorem State.issued_frameWord (s : State) (x op i : Nat) : (s.issued x op).frameWord x i = s.frameWord x i := by
  unfold State.frameWord
  rw [State.issued_tm, State.issued_sp]

theorem State.g_congr {s t : State} (h : t.gpr = s.gpr) (x : Nat) (q : GReg) : t.g x q = s.g x q := by
  unfold State.g
  rw [h]

theorem State.frameWords_congr {s t : State} {x : Nat} (hc : t.ctx x = s.ctx x) (hp : t.psw x = s.psw x) (hg : t.gpr = s.gpr) :
    t.frameWords x = s.frameWords x := by
  unfold State.frameWords State.g
  rw [hc, hp, hg]

/-- A fault at entry: the context keeps PC, and memory stays. -/
theorem State.raiseFault_spec {s u : State} {x : Nat} (ctx : u.ctx x = s.ctx x) (mem : u.taskMem = s.taskMem) (code : Nat) {t : State}
    (ht : u.raiseFault x code = t) :
    (t.ctx x).fault = some { code := code, pc := (s.ctx x).pc, addr := 0 } ∧ (t.ctx x).pc = (s.ctx x).pc ∧ t.taskMem = s.taskMem := by
  subst ht
  rw [← ctx, ← mem]
  have here : (u.raiseFault x code).ctx x = { u.ctx x with fault := some { code := code, pc := (u.ctx x).pc, addr := 0 } } :=
    State.ctx_onCtx_self ..
  exact ⟨congrArg Ctx.fault here, (congrArg Ctx.pc here).trans rfl, rfl⟩

theorem exec_interruptEntry_none {x : Fin 128} {ts : Stamp} {s z : State} (hz : s.reachIn (islEngine (x / 32)) ts = z)
    (h : z.atBoundary x = false ∨ z.chosen z.now x = false ∨ z.takable x (z.ilvl x) = none) :
    exec (.interruptEntry x ts) s = .next z := by
  subst hz
  refine congrArg Host.Outcome.next ?_
  by_cases ok : (decide ((s.reachIn (islEngine (x / 32)) ts).pstate < 3) && (decide (x.val / 32 < (s.reachIn (islEngine (x / 32)) ts).engines) &&
      (s.reachIn (islEngine (x / 32)) ts).atBoundary x &&
      (s.reachIn (islEngine (x / 32)) ts).chosen (s.reachIn (islEngine (x / 32)) ts).now x)) = true
  · refine (if_pos ok).trans ?_
    simp only [Bool.and_eq_true] at ok
    obtain ⟨-, ⟨-, boundary⟩, chosen⟩ := ok
    obtain no | no | none_ := h
    · exact absurd (boundary.symm.trans no) (by decide)
    · exact absurd (chosen.symm.trans no) (by decide)
    · rw [none_]
  · exact if_neg ok

theorem exec_rete_base {x : Fin 128} {s : State} (h : s.starts x 0x54 = true) (level : s.ilvl x = 16)
    (cause : getF (s.ctx x).cause 0 8 ≠ 1) : exec (.rete x) s = .next ((s.issued x 0x54).raiseFault x fcReturn) := by
  have cause' : getF ((s.issued x 0x54).ctx x).cause 0 8 ≠ 1 := by rwa [State.issued_cause]
  have level' : (s.issued x 0x54).ilvl x = 16 := (s.issued_ilvl x 0x54 x).trans level
  refine exec_issue rfl h rfl ?_
  generalize s.issued x 0x54 = u at *
  dsimp only
  rw [if_neg cause', if_pos (.inl level')]

theorem State.overstayed_spec (s : State) {x : Nat} {t : State} (ht : s.overstayed x = t) :
    getB (t.psw x) psNoint = false ∧ getB (t.psw x) psOverstay = true ∧ t.cf .ctxErrcnt 24 8 x = min 255 (s.cf .ctxErrcnt 24 8 x + 1) ∧
    (t.ctx x).pc = (s.ctx x).pc ∧ t.gpr = s.gpr ∧ t.taskMem = s.taskMem := by
  have fr : s.frame (s.overstayed x) [.ctxs, .reg .ctxErrcnt] := .bump (.onCtx (.refl s _))
  have ctx := s.overstayed_ctx x
  have count : (s.overstayed x).cf .ctxErrcnt 24 8 x = min 255 (s.cf .ctxErrcnt 24 8 x + 1) :=
    State.fld_bump_self _ .ctxErrcnt 24 8 (x / 32) (x % 32) (by decide)
  have gpr := fr .gpr (by decide)
  have mem := fr .taskMem (by decide)
  rw [ht] at ctx count gpr mem
  have psw : t.psw x = t.pswFrom x (putB (putB (s.ctx x).psw psNoint false) psOverstay true) :=
    congrArg (t.pswFrom x) (congrArg Ctx.psw ctx)
  refine ⟨?_, ?_, count, (congrArg Ctx.pc ctx).trans rfl, gpr, mem⟩
  · rw [psw, State.pswFrom_bit _ _ _ (by decide), getB_putB_off _ _ _ _ (by decide), getB_putB_same _ _ _ (by decide)]
  · rw [psw, State.pswFrom_bit _ _ _ (by decide), getB_putB_same _ _ _ (by decide)]

/-- Settles O41: entry, its faults, RETE and the end of NOINT are each followed through the context they act on. -/
theorem interruptEntryAndReturn : Obligations.InterruptEntryAndReturn := by
  intro x ts s hp c a u w z taken faults
  have fr := s.entryAt_frame x ts
  obtain ⟨ctx, psw, frameOk, vectorOf⟩ := fr.context x
  have gpr := fr .gpr (by decide)
  have mem := fr .taskMem (by decide)
  have go : ∀ {l n}, taken l n → exec (.interruptEntry x ts) s = .next ((s.entryAt x ts).enterHandler x l n) :=
    fun ⟨fitted, boundary, chosen, takes⟩ => exec_interruptEntry hp fitted boundary chosen takes
  refine ⟨?enters, ?stack, ?vector, ?stays, ?returns, ?inBase, ?overstays⟩
  case enters =>
    intro l n v take ok vec
    have hw := State.frameWords_congr ctx psw gpr
    refine ⟨_, (go take).trans (congrArg Host.Outcome.next (State.enterHandler_eq n (v := v) ?_ ?_)), ?_⟩
    · rw [frameOk, ctx]
      exact ok
    · rw [vectorOf]
      exact vec
    · obtain ⟨pc, sp, cause, prog, level, noint, state⟩ := State.entered_ctx _ x l n v (((s.entryAt x ts).ctx x).sp - 32) rfl
      obtain ⟨same, words, marks, beside⟩ := (s.entryAt x ts).entry_spec x l n v (((s.entryAt x ts).ctx x).sp - 32) rfl
      generalize State.entryDone _ _ _ = t at *
      generalize s.entryAt x ts = y at *
      rw [ctx] at sp words beside
      rw [hw] at words
      rw [mem] at beside
      exact ⟨pc, sp, cause, prog, level, noint, state, same.trans gpr, words, marks, beside⟩
  case stack =>
    intro l n take bad
    exact ⟨_, go take, State.raiseFault_spec ctx mem _ (State.enterHandler_stack l n (by rw [frameOk, ctx]; exact bad)).symm⟩
  case vector =>
    intro l n take ok vec
    exact ⟨_, go take, State.raiseFault_spec ctx mem _ (State.enterHandler_vector n (by rw [frameOk, ctx]; exact ok)
      (by rw [vectorOf]; exact vec)).symm⟩
  case stays => exact exec_interruptEntry_none rfl
  case returns =>
    intro start level cause ok good none_ priv up
    obtain ⟨pc, sp, cause', prog, level', same, memory⟩ := (u 0x54).returned_spec x rfl
    obtain ⟨g0, g1, g2, g3, others⟩ := (u 0x54).unframed_g x
    have word : ∀ i, (u 0x54).frameWord x i = w i := s.issued_frameWord x 0x54
    refine ⟨_, exec_rete start level cause ok good none_ priv up, pc.trans (word 0), sp.trans ?_, cause'.trans (word 2), prog.trans (word 3),
      ?_, ?_, ?_, ?_, level'.trans (congrArg (getF · 8 5) (word 1)), fun q hq => ?_, memory.trans (s.issued_taskMem x 0x54)⟩
    · rw [State.issued_sp]
    all_goals refine (State.g_congr same x _).trans ?_
    · exact g0.trans (word 4)
    · exact g1.trans (word 5)
    · exact g2.trans (word 6)
    · exact g3.trans (word 7)
    · exact (others q hq).trans (s.issued_g x 0x54 x q)
  case inBase => exact exec_rete_base
  case overstays =>
    intro set_ late
    have reached : s.frame (s.reachIn (islEngine (x / 32)) ts) [.now] := .reachIn (.refl s _)
    obtain ⟨ctx', psw', -, -⟩ := reached.context x
    have limit : z.cf .ctxNointLim 0 12 x = s.cf .ctxNointLim 0 12 x := reached.fld .ctxNointLim 0 12 _ _
    have count : z.cf .ctxErrcnt 24 8 x = s.cf .ctxErrcnt 24 8 x := reached.fld .ctxErrcnt 24 8 _ _
    obtain ⟨noint, over_, counted, pc, regs, memory⟩ := z.overstayed_spec (x := x) rfl
    refine ⟨_, congrArg Host.Outcome.next (State.happens_eq hp ?_ _), noint, over_, count ▸ counted,
      pc.trans (congrArg Ctx.pc ctx'), regs.trans (reached .gpr (by decide)), memory.trans (reached .taskMem (by decide))⟩
    exact Bool.and_eq_true_iff.2 ⟨psw'.symm ▸ set_, decide_eq_true (by rw [ctx', limit]; exact late)⟩

end Sys2Proof.Machine
end

section
/-! PROOFS. What the end of a context's work leaves of a context: its state, and all of it but the event queue, an outstanding reply
and parked TRAPs. -/

namespace Sys2Proof.Machine

set_option Elab.async false

/-- c' is c but for its event queue and its outstanding reply, and it has no reply where c has none. -/
def Ctx.onlooker (c c' : Ctx) : Prop := ∃ q o, c' = { c with evq := q, out := o } ∧ (c.out = none → o = none)

theorem Ctx.onlooker_refl (c : Ctx) : c.onlooker c := ⟨c.evq, c.out, rfl, id⟩

theorem Ctx.onlooker_trans {a b c : Ctx} (h : a.onlooker b) (h' : b.onlooker c) : a.onlooker c := by
  obtain ⟨q, o, rfl, kept⟩ := h
  obtain ⟨q', o', rfl, kept'⟩ := h'
  exact ⟨q', o', rfl, fun none_ => kept' (kept none_)⟩

/-- From s to t every context keeps its state and all of itself but what others may bring it. -/
structure State.onlooks (s t : State) : Prop where
  ctx : ∀ x, (s.ctx x).onlooker (t.ctx x)
  state : ∀ x, t.ctxState x = s.ctxState x

theorem State.ctx_onCtx_ne (s : State) {x y : Nat} (f : Ctx → Ctx) (h : y ≠ x) : (s.onCtx x f).ctx y = s.ctx y := SMap.at_set_ne _ _ _ _ _ h

namespace State.onlooks

variable {s t u : State}

theorem refl (s : State) : s.onlooks s := ⟨fun x => (s.ctx x).onlooker_refl, fun _ => rfl⟩

theorem trans (h : s.onlooks t) (h' : t.onlooks u) : s.onlooks u :=
  ⟨fun x => Ctx.onlooker_trans (h.ctx x) (h'.ctx x), fun x => (h'.state x).trans (h.state x)⟩

theorem of_frame {l : List StatePart} (h : s.frame t l) (hc : .ctxs ∉ l := by decide) (hr : .reg .ctxStat ∉ l := by decide) : s.onlooks t :=
  ⟨fun x => (h.ctx x hc) ▸ (s.ctx x).onlooker_refl, fun _ => h.fld .ctxStat 0 3 _ _ hr⟩

theorem each {l : List Nat} {f : State → Nat → State} (hf : ∀ (u : State) (a : Nat), u.onlooks (f u a)) : s.onlooks (s.each l f) :=
  State.each_inv (I := fun u => s.onlooks u) (refl s) fun u a _ h => h.trans (hf u a)

theorem ite {p : Prop} [Decidable p] (h : s.onlooks t) (h' : s.onlooks u) : s.onlooks (if p then t else u) := by
  split
  · exact h
  · exact h'

/-- A change of one context that an onlooker may undergo. -/
theorem onCtx {x : Nat} {f : Ctx → Ctx} (hf : ∀ c : Ctx, c.onlooker (f c)) : s.onlooks (s.onCtx x f) := by
  refine ⟨fun y => ?_, fun _ => rfl⟩
  by_cases here : y = x
  · rw [here, State.ctx_onCtx_self]
    exact hf _
  · rw [State.ctx_onCtx_ne _ _ here]
    exact Ctx.onlooker_refl _

/-- A posted event joins the queue, or counts a loss beside the state. -/
theorem post (s : State) (x : Nat) (v w : Word) : s.onlooks (s.post x v w) := by
  unfold State.post
  refine .ite (onCtx fun c => ⟨_, c.out, rfl, id⟩) ⟨fun y => Ctx.onlooker_refl _, fun y => ?_⟩
  exact s.fld_setFld_off .ctxStat _ _ _ _ _ (by decide)

theorem lockReply (s : State) (k x res : Nat) : s.onlooks (s.lockReply k x res) := by
  unfold State.lockReply
  dsimp only
  have marked : s.onlooks (if res = 1 ∧ !s.flag .mlCtrl 1 ∧ ((s.ctx x).mons.any (fun m => m.kind == 5 && m.arg == 256 + k) ||
      (s.ctx x).out.any (fun r => r.sysLock == some k)) then s.wr .mlSlockOwner (toW (s.devNum + x * 65536 + 2 ^ 31)) k else s) :=
    .ite (of_frame (.wr (.refl s [.reg .mlSlockOwner]))) (refl s)
  exact marked.trans (onCtx fun c => ⟨c.evq, _, rfl, fun none_ => by rw [none_]; rfl⟩)

theorem answerLock (s : State) (k dev x res : Nat) : s.onlooks (s.answerLock k dev x res) :=
  .ite (lockReply s k x res) (of_frame (.mlSend (.refl s State.frame.mlSendParts)))

theorem grantNext (s : State) (k : Nat) : s.onlooks (s.grantNext k) := by
  unfold State.grantNext
  split
  · exact of_frame (.clr (.refl s [.reg .mlSlockOwner]))
  · exact (of_frame (.wr (.put_slockQ (.refl s [.slockQ, .reg .mlSlockOwner])))).trans (answerLock ..)

theorem serveLock (s : State) (k : Nat) (op : LockOp) (dev x : Nat) : s.onlooks (s.serveLock k op dev x) := by
  unfold State.serveLock
  have given : s.onlooks ((s.wr .mlSlockOwner (toW (dev + x * 65536 + 2 ^ 31)) k).answerLock k dev x 1) :=
    (of_frame (.wr (.refl s [.reg .mlSlockOwner]))).trans (answerLock ..)
  split
  · exact .ite (grantNext s k) (.ite (of_frame (.put_slockQ (.refl s [.slockQ])))
      (of_frame (.setFld (.setFld (.bumpW (.refl s [.reg .lockStat]))))))
  · exact .ite (answerLock ..) (.ite given (answerLock ..))
  · exact .ite (answerLock ..) (.ite given (.ite (refl s) (of_frame (.put_slockQ (.refl s [.slockQ])))))

theorem askLock (s : State) (k : Nat) (op : LockOp) (x : Nat) : s.onlooks (s.askLock k op x) := by
  unfold State.askLock
  refine .ite (serveLock ..) (.ite ?_ (of_frame (.mlSend (.ite (.clr (.refl s (.reg .mlSlockOwner :: State.frame.mlSendParts))) (.refl s _)))))
  split
  · exact lockReply ..
  · exact refl s

theorem freeLocks (s : State) (x : Nat) : s.onlooks (s.freeLocks x) :=
  (each fun u k => of_frame (.freeLock (.refl u State.frame.freeLockParts))).trans (each fun u k => askLock u k .release x)

theorem notify (s : State) (idx : Nat) (w : Word) : s.onlooks (s.notify idx w) := by
  unfold State.notify
  exact .ite (refl s) (.ite (post ..) (.ite (of_frame (.raise (.refl s State.frame.raiseParts)))
    (of_frame (.raise (.bumpW (.wr (.refl s (.reg .calSupnote :: .reg .calSupnoteCnt :: State.frame.raiseParts))))))))

theorem record (s : State) (idx st detail : Nat) (time : Stamp) (x : Entry) : s.onlooks (s.record idx st detail time x) := by
  unfold State.record
  extract_lets d act dur err w0 w2 w3 put marked told
  have before : s.frame marked (.reg .entryW6 :: State.frame.putRecordParts) := .setFld (.putRecord (.refl s _))
  exact (of_frame before).trans ((notify marked idx w0).trans (.ite (of_frame (.offer (.refl told State.frame.offerParts))) (refl told)))

theorem cancelEntry (s : State) (idx : Nat) : s.onlooks (s.cancelEntry idx) := by
  unfold State.cancelEntry State.endAs
  extract_lets t cleared
  have before : s.frame cleared [.slots] := .ite (.clearSlot (.refl s _)) (.refl s _)
  exact (of_frame before).trans ((record ..).trans (of_frame (.freeEntry (.refl _ State.frame.freeEntryParts))))

theorem flushOwn (s : State) (x : Nat) : s.onlooks (s.flushOwn x) := by
  unfold State.flushOwn
  exact .ite (each fun u d => each fun v i => cancelEntry v i) (refl s)

theorem completeAll (s : State) (x : Nat) : s.onlooks (s.completeAll x) := of_frame (.completeAll (.refl s State.frame.completeAllParts))

end State.onlooks

/-! ## The end of a context's work -/

/-- The context without its WAITs, its outstanding reply and its TRAPs. -/
def Ctx.idle (c : Ctx) : Ctx := { c with mons := [], out := none, traps := [] }

/-- The system locks that the context waits for are given up. -/
def State.unwaiting (s : State) (x : Nat) : State :=
  s.each (((s.ctx x).mons.filter (fun m => m.kind == 5 && decide (256 ≤ m.arg))).map (fun m => m.arg - 256))
    (fun s k => if k < 64 then s.askLock k .release x else s)

theorem State.unwaiting_onlooks (s : State) (x : Nat) : s.onlooks (s.unwaiting x) :=
  .each fun u _ => .ite (.askLock ..) (.refl u)

theorem State.endWork_onlooks (s : State) (x : Nat) : ((s.unwaiting x).onCtx x Ctx.idle).onlooks (s.endWork x) :=
  (State.onlooks.freeLocks _ x).trans ((State.onlooks.flushOwn _ x).trans (State.onlooks.completeAll _ x))

/-- The context is as it was, but for what ended and what others brought it. -/
theorem State.endWork_spec (s : State) (x : Nat) : (∃ q, (s.endWork x).ctx x = { (s.ctx x).idle with evq := q }) ∧
    (s.endWork x).ctxState x = s.ctxState x := by
  have first := s.unwaiting_onlooks x
  have last := s.endWork_onlooks x
  obtain ⟨q, o, before, -⟩ := first.ctx x
  have ctx := last.ctx x
  rw [State.ctx_onCtx_self, before] at ctx
  obtain ⟨q', o', after, none_⟩ := ctx
  refine ⟨⟨q', after.trans ?_⟩, (last.state x).trans (first.state x)⟩
  rw [none_ rfl]
  rfl

end Sys2Proof.Machine
end
section
/-! PROOFS. Faults, machine checks and retirement (R195, R197, R205, R206, R212 to R215, R369). -/

namespace Sys2Proof.Machine

set_option Elab.async false

/-- Every record takes the next number (R371). -/
theorem State.fault_seq (s : State) (kind unit phys : Nat) (failure : Bool) (ns : Nat) (a b : Word) (found : Option Stamp) :
    (s.fault kind unit phys failure ns a b found).rd .fltSeq = s.rd .fltSeq + 1 := by
  unfold State.fault
  extract_lets t seq total w0 w3 ws lost kept counted numbered full refreshed told late
  have after : numbered.frame (late.mlSend 9 0 true [toW late.devNum, toW kind, ns32 t])
      (.reg .fltStat :: State.frame.fltEventParts ++ State.frame.mlSendParts) :=
    have full' : numbered.frame refreshed (.reg .fltStat :: State.frame.fltEventParts ++ State.frame.mlSendParts) :=
      .fltRefresh (.when (.refl _ _) fun _ h => .bump h)
    .mlSend (.when (.ite (.fltEvent full') (.ite full' (.fltEvent full'))) fun _ h => .fltEvent h)
  have self : numbered.rd .fltSeq = toW (seq + 1) := State.rd_wr_self ..
  refine (after.rd .fltSeq 0 0).trans (self.trans ?_)
  exact BitVec.eq_of_toNat_eq (by simp [toW, seq])

/-- The context is FAULTED, with its cause and PC, and its work has yet to end (R205). -/
def State.faulting (s : State) (x : Nat) (f : CtxFault) : State :=
  ((((s.setCtxState x 5).setCr .ctxCause (toW f.code) x).setCr .ctxFaultPc f.pc x).bump .ctxErrcnt 16 8 (x / 32) (x % 32)).onCtx x
    (fun c => { c with fault := none, stopping := false })

theorem State.faulting_spec (s : State) (x : Nat) (f : CtxFault) : (s.faulting x f).ctx x = { s.ctx x with fault := none, stopping := false } ∧
    (s.faulting x f).ctxState x = 5 ∧ (s.faulting x f).cr .ctxCause x = toW f.code ∧ (s.faulting x f).cr .ctxFaultPc x = f.pc := by
  have cause : ((s.setCtxState x 5).setCr .ctxCause (toW f.code) x).frame (s.faulting x f) [.reg .ctxFaultPc, .reg .ctxErrcnt, .ctxs] :=
    .onCtx (.bump (.wr (.refl _ _)))
  have pc : (((s.setCtxState x 5).setCr .ctxCause (toW f.code) x).setCr .ctxFaultPc f.pc x).frame (s.faulting x f) [.reg .ctxErrcnt, .ctxs] :=
    .onCtx (.bump (.refl _ _))
  have state : (s.setCtxState x 5).frame (s.faulting x f) [.reg .ctxCause, .reg .ctxFaultPc, .reg .ctxErrcnt, .ctxs] :=
    .onCtx (.bump (.wr (.wr (.refl _ _))))
  have ctx : s.frame ((((s.setCtxState x 5).setCr .ctxCause (toW f.code) x).setCr .ctxFaultPc f.pc x).bump .ctxErrcnt 16 8 (x / 32) (x % 32))
      (.reg .ctxCause :: .reg .ctxFaultPc :: .reg .ctxErrcnt :: State.frame.setCtxStateParts) := .bump (.wr (.wr (.setCtxState (.refl s _))))
  refine ⟨(State.ctx_onCtx_self ..).trans ?_, (state.fld .ctxStat 0 3 _ _).trans (s.setCtxState_self x (by decide)),
    (cause.rd .ctxCause _ _).trans (State.rd_wr_self ..), (pc.rd .ctxFaultPc _ _).trans (State.rd_wr_self ..)⟩
  rw [ctx.ctx x]

/-- What a fault leaves (R205). -/
theorem State.faultNow_spec (s : State) (x kind : Nat) (f : CtxFault) : (∃ q, (s.faultNow x kind f).ctx x =
      { (s.ctx x).idle with fault := none, stopping := false, evq := q }) ∧ (s.faultNow x kind f).ctxState x = 5 ∧
    (s.faultNow x kind f).cr .ctxCause x = toW f.code ∧ (s.faultNow x kind f).cr .ctxFaultPc x = f.pc ∧
    (s.faultNow x kind f).rd .fltSeq = s.rd .fltSeq + 1 := by
  obtain ⟨ctx, state, cause, pc⟩ := s.faulting_spec x f
  obtain ⟨⟨q, ended⟩, state'⟩ := (s.faulting x f).endWork_spec x
  have before : (s.faulting x f).frame ((s.faulting x f).endWork x) State.frame.endWorkParts := .endWork (.refl _ _)
  have seq : s.frame ((s.faulting x f).endWork x)
      (.reg .ctxErrcnt :: .reg .ctxCause :: .reg .ctxFaultPc :: State.frame.setCtxStateParts ++ State.frame.endWorkParts) :=
    .endWork (.onCtx (.bump (.wr (.wr (.setCtxState (.refl s _))))))
  have recorded : ((s.faulting x f).endWork x).frame (s.faultNow x kind f) State.frame.faultParts := .fltEvent (.fault (.refl _ _))
  have number : (s.faultNow x kind f).rd .fltSeq = ((s.faulting x f).endWork x).rd .fltSeq + 1 := by
    have last : (((s.faulting x f).endWork x).fault kind (80 + x / 32) 0 false 0 (if f.code = fcMemory then toW f.addr else f.pc)
        (toW (f.code + x * 256))).frame (s.faultNow x kind f) State.frame.fltEventParts := .fltEvent (.refl _ _)
    exact (last.rd .fltSeq 0 0).trans (State.fault_seq ..)
  refine ⟨⟨q, (recorded.ctx x).trans (ended.trans ?_)⟩, (recorded.fld .ctxStat 0 3 _ _).trans (state'.trans state),
    (recorded.rd .ctxCause _ _).trans ((before.rd .ctxCause _ _).trans cause),
    (recorded.rd .ctxFaultPc _ _).trans ((before.rd .ctxFaultPc _ _).trans pc), number.trans (congrArg (· + 1) (seq.rd .fltSeq 0 0))⟩
  rw [ctx]
  rfl

/-! ## A service context starts again -/

/-- Register r of context x is 0. -/
def State.clearG (s : State) (x r : Nat) : State := { s with gpr := s.gpr.set 0 (16 * x + r) 0 }

theorem State.clearG_g (s : State) (x r : Nat) (q : GReg) : (s.clearG x r).g x q = if q.val = r then 0 else s.g x q := by
  show SMap.at 0 (s.gpr.set 0 (16 * x + r) 0) (16 * x + q.val) = _
  by_cases here : q.val = r
  · rw [if_pos here, here, SMap.at_set_self]
  · rw [if_neg here, SMap.at_set_ne _ _ _ _ _ (by omega)]
    rfl

/-- All registers of context x are 0. -/
def State.clearedRegs (s : State) (x : Nat) : State := s.each (List.range 16) (fun s r => s.clearG x r)

theorem State.clearedRegs_g (s : State) (x : Nat) (q : GReg) : (s.clearedRegs x).g x q = 0 := by
  refine State.each_sets (I := fun _ => True) (P := fun u => u.g x q = 0) (List.mem_range.2 q.isLt) trivial (fun _ _ _ => trivial)
    (fun u _ => (u.clearG_g x q.val q).trans (if_pos rfl)) fun u a zero => ?_
  rw [State.clearG_g, zero, ite_self]

theorem State.clearedRegs_frame (s : State) (x : Nat) : s.frame (s.clearedRegs x) [.gpr] := .each (.refl s _) fun _ _ h => .put_gpr h

/-- The context that a start makes of the registers (R190). -/
def State.fresh (s : State) (x : Nat) : Ctx :=
  { pc := s.cr .ctxEntry x, sp := s.cr .dataBase x + s.cr .dataSize x, psw := toW (s.ceil x * 16 + 0x1000) }

theorem State.startCtx_eq (s : State) (x : Nat) : s.startCtx x = ((s.clearedRegs x).setCtx x ((s.clearedRegs x).fresh x)).setCtxState x 2 := rfl

theorem State.fresh_congr {s t : State} {l : List StatePart} (h : s.frame t l) (x : Nat)
    (hr : ∀ n ∈ [RegName.ctxEntry, .dataBase, .dataSize, .ctxCtrl], StatePart.reg n ∉ l := by decide) : t.fresh x = s.fresh x := by
  unfold State.fresh State.ceil
  rw [show t.cr .ctxEntry x = s.cr .ctxEntry x from h.rd .ctxEntry _ _ (hr _ (by decide)),
    show t.cr .dataBase x = s.cr .dataBase x from h.rd .dataBase _ _ (hr _ (by decide)),
    show t.cr .dataSize x = s.cr .dataSize x from h.rd .dataSize _ _ (hr _ (by decide)),
    show t.cf .ctxCtrl 6 2 x = s.cf .ctxCtrl 6 2 x from h.fld .ctxCtrl 6 2 _ _ (hr _ (by decide))]

theorem State.startCtx_spec (s : State) (x : Nat) : (s.startCtx x).ctx x = s.fresh x ∧ (s.startCtx x).ctxState x = 2 ∧
    ∀ q, (s.startCtx x).g x q = 0 := by
  rw [State.startCtx_eq, State.fresh_congr (s.clearedRegs_frame x) x]
  have zero := s.clearedRegs_g x
  generalize s.clearedRegs x = u at *
  exact ⟨(State.setCtxState_ctx ..).trans (SMap.at_set_self ..), State.setCtxState_self _ x (by decide), zero⟩

/-- What a halt of a channel touches where no word of the device's own memory is lost. -/
def dmaHaltParts : List StatePart := [.reg .chStat, .reg .pmPin, .reg .logStat, .reg .logEvt, .reg .intPendSet, .reg .intErr, .reg .vecStat,
  .reg .dmaStat, .reg .dmaErrAddrLo, .reg .dmaErrAddrHi, .reg .dmaErrDir, .reg .dmaEvt, .reg .dmaCnt, .waking, .vecFirst, .wakePin]

theorem State.dmaHalt_quiet (s : State) (c kind sp addr : Nat) {cause : Nat} (write : Bool) (h : cause ≠ 6) :
    s.frame (s.dmaHalt c kind cause sp addr write) dmaHaltParts := by
  unfold State.dmaHalt
  extract_lets halted noted counted lost
  have before : s.frame counted dmaHaltParts :=
    .dmaEvent (.bump (.wr (.wr (.wr (.withUnit (.refl s _) fun _ h => .setFld (.setFlag (.setFlag h)))))))
  have same : lost = counted := by
    unfold lost State.when
    rw [if_neg (by simp [h])]
  rw [same]
  exact .ite (.logEvent (.setFlag before)) before

theorem State.dmaFails_write {s : State} {sp a n cause addr : Nat} (h : s.dmaFails sp a n true = some (cause, addr)) : cause ≠ 6 := by
  unfold State.dmaFails at h
  split at h
  · split at h
    · exact absurd h nofun
    · rw [Option.some.injEq, Prod.mk.injEq] at h
      omega
  · exact absurd h nofun

/-- What the reply to a packet of a ring touches. -/
def ringParts : List StatePart := .reg .dmaProg :: .taskMem :: .badTm :: .hostMem :: dmaHaltParts

theorem State.ringReply_quiet (s : State) (c : Nat) : s.frame (s.ringReply c) ringParts := by
  unfold State.ringReply
  dsimp only
  split
  case h_1 cause addr fails => exact (s.dmaHalt_quiet c 3 _ addr true (State.dmaFails_write fails)).mono (by decide)
  case h_2 => exact .ite (.refl s _) (.wr (.putDmaWord (.putDmaWords (.refl s _))))

theorem State.taskReply_pc (s : State) (x buf size : Nat) (ws : List Word) (st y : Nat) :
    ((s.taskReply x buf size ws st).ctx y).pc = (s.ctx y).pc := by
  unfold State.taskReply
  split
  · rfl
  · have fr : s.frame ((ws.take size).zipIdx.foldl (fun s (w, i) => s.setTm (buf + 4 * i) w) s) [.taskMem, .badTm] :=
      .foldl (.refl s _) fun _ _ h => .setTm h
    exact (State.onCtx_pc _ x (fun c => { c with traps := c.traps.map (fun t =>
      if waitsReply buf t then { t with answer := some (st, toW (ws.take size).length) } else t) }) (fun _ => rfl) y).trans
      (congrArg Ctx.pc (fr.ctx y))

/-- The answer to a command that a restart of the service finds in work (R206): what it touches, and that no PC moves. -/
def busyParts : List StatePart := .ctxs :: .dmas :: ringParts ++ State.frame.clearGoParts ++ State.frame.queueReplyParts

theorem State.taskCommand_refused (s : State) (x : Nat) (t : TrapCall) (op : Nat) (pk : Packet) (st : Nat) :
    s.frame (s.taskCommand x t op pk (some st)) State.frame.taskReplyParts ∧
    ∀ y, ((s.taskCommand x t op pk (some st)).ctx y).pc = (s.ctx y).pc := by
  unfold State.taskCommand
  dsimp only
  have fr : s.frame (s.onCtx x (fun k => { k with traps := k.traps.map (fun c => if c == t then { c with pk := none } else c) }))
      State.frame.taskReplyParts := .onCtx (.refl s _)
  have pc := State.onCtx_pc s x (fun k => { k with traps := k.traps.map (fun c => if c == t then { c with pk := none } else c) }) fun _ => rfl
  generalize s.onCtx x _ = u at *
  split
  · exact ⟨fr, pc⟩
  · exact ⟨.taskReply fr, fun y => (State.taskReply_pc ..).trans (pc y)⟩

theorem State.answerBusy_spec (s : State) (p : CmdPath) : s.frame (s.answerBusy p) busyParts ∧
    ∀ y, ((s.answerBusy p).ctx y).pc = (s.ctx y).pc := by
  have plain : ∀ {t : State}, s.frame t (.dmas :: ringParts ++ State.frame.clearGoParts ++ State.frame.queueReplyParts) →
      s.frame t busyParts ∧ ∀ y, (t.ctx y).pc = (s.ctx y).pc := fun h => ⟨h.mono (by decide), fun y => congrArg Ctx.pc (h.ctx y)⟩
  have box : ∀ (q : CmdPath) (k b : Nat) (ws : List Word), s.frame (if (!(s.go b && s.mayTake q k)) = true then s else (s.clearGo b).queueReply k ws)
      (.dmas :: ringParts ++ State.frame.clearGoParts ++ State.frame.queueReplyParts) :=
    fun _ _ _ _ => .ite (.refl s _) (.queueReply (.clearGo (.refl s _)))
  unfold State.answerBusy
  cases p with
  | hostBox k => exact plain (box _ _ _ _)
  | supBox j => exact plain (box _ _ _ _)
  | ring c =>
    refine plain (.ite (.refl s _) ?_)
    exact .trans (.onDma (.refl s _)) (State.frame.mono (State.ringReply_quiet _ c) (by decide))
  | task x =>
    dsimp only
    split
    case h_1 =>
      obtain ⟨fr, pc⟩ := State.taskCommand_refused s x _ _ _ stBusy
      exact ⟨fr.mono (by decide), pc⟩
    case h_2 => exact ⟨.refl s _, fun _ => rfl⟩

/-! ## The uncorrectable word -/

theorem State.memoryCheck_spec (s : State) (x addr : Nat) : (s.memoryCheck x addr).ctx x =
      { s.ctx x with fault := some { code := fcMemory, pc := (s.ctx x).pc, addr := addr } } ∧
    (s.memoryCheck x addr).fld .csStat 24 8 (x / 32) = min 255 (s.fld .csStat 24 8 (x / 32) + 1) := by
  have lost : s.frame (s.lostWord 255 1 (addr / 4)) State.frame.lostWordParts := .lostWord (.refl s _)
  have noted : s.frame (((s.lostWord 255 1 (addr / 4)).bump .csStat 24 8 (x / 32)).noteCheck (x / 32) fcMemory (x % 32))
      (.reg .csStat :: State.frame.lostWordParts ++ State.frame.noteCheckParts) := .noteCheck (.bump (.lostWord (.refl s _)))
  have after : ((s.lostWord 255 1 (addr / 4)).bump .csStat 24 8 (x / 32)).frame (s.memoryCheck x addr) (.ctxs :: State.frame.noteCheckParts) :=
    .raiseFault (.noteCheck (.refl _ _))
  refine ⟨(State.ctx_onCtx_self ..).trans (by rw [noted.ctx x]), (after.fld .csStat 24 8 _ _).trans ?_⟩
  exact (State.fld_bump_self _ .csStat 24 8 (x / 32) 0 (by decide)).trans (congrArg (fun v => min 255 (v + 1)) (lost.fld .csStat 24 8 _ _))

/-- The read is cancelled and the context faulted (R215). -/
def State.memoryFault (s : State) (x a : Nat) : State := (s.onCtx x (fun c => { c with out := none })).memoryCheck x (a / 4 * 4)

/-- The fault of an uncorrectable word at a. -/
def Ctx.wordFault (c : Ctx) (a : Nat) : CtxFault := { code := fcMemory, pc := c.pc, addr := a / 4 * 4 }

theorem State.memoryFault_frame (s : State) (x a : Nat) : s.frame (s.memoryFault x a) State.frame.memoryCheckParts :=
  .memoryCheck (.onCtx (.refl s _))

theorem State.memoryFault_spec (s : State) (x a : Nat) : ((s.memoryFault x a).ctx x).fault = some ((s.ctx x).wordFault a) ∧
    (s.memoryFault x a).fld .csStat 24 8 (x / 32) = min 255 (s.fld .csStat 24 8 (x / 32) + 1) := by
  obtain ⟨ctx, count⟩ := (s.onCtx x (fun c => { c with out := none })).memoryCheck_spec x (a / 4 * 4)
  refine ⟨(congrArg Ctx.fault ctx).trans ?_, count⟩
  rw [State.ctx_onCtx_self]
  rfl

section
variable {x : Fin 128} {ts : Stamp} {s : State} {f : CtxFault}

theorem exec_taskFault (hp : s.pstate < 3) (loc : 3 ≤ x.val % 32) (run : (s.reachIn (islEngine (x / 32)) ts).halted (x.val / 32) = false)
    (fault : ((s.reachIn (islEngine (x / 32)) ts).ctx x).fault = some f) :
    exec (.taskFault x ts) s = .next ((s.reachIn (islEngine (x / 32)) ts).faultNow x 0x10 f) := by
  refine congrArg Host.Outcome.next ((State.happens_eq hp ?_ _).trans ?_)
  · rw [decide_eq_true loc, run]
    rfl
  · rw [fault]

/-- The service starts again and answers the command that it was in, if it was in one. -/
def State.serviceAgain (s : State) (x : Nat) (f : CtxFault) (during : Option CmdPath) : State :=
  match during with
  | some p => ((s.faultNow x 0x11 f).startCtx x).answerBusy p
  | none => (s.faultNow x 0x11 f).startCtx x

theorem exec_serviceFault (during : Option CmdPath) (hp : s.pstate < 3) (loc : x.val % 32 = 1 ∨ x.val % 32 = 2)
    (run : (s.reachIn (islEngine (x / 32)) ts).halted (x.val / 32) = false)
    (fault : ((s.reachIn (islEngine (x / 32)) ts).ctx x).fault = some f) :
    exec (.serviceFault x during ts) s = .next ((s.reachIn (islEngine (x / 32)) ts).serviceAgain x f during) := by
  refine congrArg Host.Outcome.next ((State.happens_eq hp ?_ _).trans ?_)
  · rw [run]
    obtain one | two := loc
    · rw [one]
      rfl
    · rw [two]
      rfl
  · rw [fault]
    rfl

/-- What the event does to a context whose fault is f (R206). -/
def State.faultTaken (s : State) (x : Nat) (f : CtxFault) : State :=
  if x % 32 = 0 ∨ s.halted (x / 32) then s
  else if x % 32 < 3 then (s.faultNow x 0x11 f).startCtx x
  else s.faultNow x 0x10 f

theorem exec_mcMemory {a : Nat} {z : State} (hz : s.reachIn (islEngine (x / 32)) ts = z) (hp : s.pstate < 3) (fitted : x.val / 32 < z.engines)
    (bad : z.badTm.contains (a / 4 * 4) = true) (ready : z.ctxState x = 2) (well : (z.ctx x).fault = none) :
    exec (.mcMemory x a ts) s = .next ((z.memoryFault x a).faultTaken x ((z.ctx x).wordFault a)) := by
  refine congrArg Host.Outcome.next ((State.happens_eq hp ?_ _).trans ?_)
  · rw [hz, decide_eq_true fitted, bad, ready]
    rfl
  · obtain ⟨fault, -⟩ := z.memoryFault_spec x a
    rw [hz]
    dsimp only
    rw [well]
    exact (congrArg (fun o => match o with
      | some f => (z.memoryFault x a).faultTaken x f
      | none => z.memoryFault x a) fault)

end

/-! ## Machine checks of the control store -/

/-- What a check notes of the engine and its context (R212). -/
theorem State.noteCheck_spec (s : State) (e code : Nat) (l : Fin 32) (h : code < 256) : (s.noteCheck e code l).fld .mcLast 16 8 e = code ∧
    (s.noteCheck e code l).fld .mcLast 24 5 e = l.val ∧ (s.noteCheck e code l).rd .mcTime e = ns32 (s.clock (islEngine e)) ∧
    (s.noteCheck e code l).rd .ctxCause e l = toW code ∧ (s.noteCheck e code l).rd .ctxFaultPc e l = (s.ctx (ctxOf e l)).pc := by
  have word : ((s.setFld .mcLast 16 8 code e).setFld .mcLast 24 5 l e).frame (s.noteCheck e code l) [.reg .mcTime, .reg .ctxCause, .reg .ctxFaultPc] :=
    .wr (.wr (.wr (.refl _ _)))
  have time : (((s.setFld .mcLast 16 8 code e).setFld .mcLast 24 5 l e).wr .mcTime (ns32 (s.clock (islEngine e))) e).frame (s.noteCheck e code l)
      [.reg .ctxCause, .reg .ctxFaultPc] := .wr (.wr (.refl _ _))
  have cause : ((((s.setFld .mcLast 16 8 code e).setFld .mcLast 24 5 l e).wr .mcTime (ns32 (s.clock (islEngine e))) e).wr .ctxCause (toW code) e
      l).frame (s.noteCheck e code l) [.reg .ctxFaultPc] := .wr (.refl _ _)
  refine ⟨(word.fld .mcLast 16 8 _ _).trans ?_, (word.fld .mcLast 24 5 _ _).trans ?_, (time.rd .mcTime _ _).trans ?_,
    (cause.rd .ctxCause _ _).trans (State.rd_wr_self ..), State.rd_wr_self ..⟩
  · exact (State.fld_setFld_off _ _ _ _ _ _ _ (by decide)).trans
      ((State.fld_setFld_self _ .mcLast 16 8 code e 0 (by decide)).trans (Nat.mod_eq_of_lt h))
  · exact (State.fld_setFld_self _ .mcLast 24 5 l e 0 (by decide)).trans (Nat.mod_eq_of_lt l.isLt)
  · exact State.rd_wr_self ..

/-- The check is noted: what the obligation asks of it. -/
def State.notes (s t : State) (e : Nat) (l : Fin 32) (code : Nat) : Prop :=
  t.fld .mcLast 16 8 e = code ∧ t.fld .mcLast 24 5 e = l.val ∧ t.rd .mcTime e = ns32 (s.clock (islEngine e)) ∧
    t.rd .ctxCause e l = toW code ∧ t.rd .ctxFaultPc e l = (s.ctx (ctxOf e l)).pc

theorem State.notes.of_frame {s t u : State} {e : Nat} {l : Fin 32} {code : Nat} {ps : List StatePart} (h : s.notes t e l code) (fr : t.frame u ps)
    (hr : ∀ n ∈ [RegName.mcLast, .mcTime, .ctxCause, .ctxFaultPc], StatePart.reg n ∉ ps := by decide) : s.notes u e l code := by
  obtain ⟨kind, ctx, time, cause, pc⟩ := h
  exact ⟨(fr.fld .mcLast _ _ _ _ (hr _ (by decide))).trans kind, (fr.fld .mcLast _ _ _ _ (hr _ (by decide))).trans ctx,
    (fr.rd .mcTime _ _ (hr _ (by decide))).trans time, (fr.rd .ctxCause _ _ (hr _ (by decide))).trans cause,
    (fr.rd .ctxFaultPc _ _ (hr _ (by decide))).trans pc⟩

theorem State.notes.after {s t u : State} {e : Nat} {l : Fin 32} {code : Nat} {ps : List StatePart} (h : t.notes u e l code) (fr : s.frame t ps)
    (hn : .now ∉ ps := by decide) (hc : .copies ∉ ps := by decide) (hx : .ctxs ∉ ps := by decide) : s.notes u e l code := by
  have clock : t.clock (islEngine e) = s.clock (islEngine e) := by
    unfold State.clock State.ahead
    rw [fr .now hn, fr .copies hc]
  obtain ⟨kind, ctx, time, cause, pc⟩ := h
  exact ⟨kind, ctx, time.trans (congrArg ns32 clock), cause, pc.trans (congrArg Ctx.pc (fr.ctx _ hx))⟩

/-- The mismatch is timed. -/
def State.mismatched (s : State) (e : Nat) : State := { s with lockTimes := s.lockTimes.set [] e (s.now :: (s.lockTimes.at [] e).take 2) }

theorem State.mismatched_frame (s : State) (e : Nat) : s.frame (s.mismatched e) [.lockTimes] := .put_lockTimes (.refl s _)

theorem State.mismatched_head (s : State) (e : Nat) : ((s.mismatched e).lockTimes.at [] e).head? = some s.now :=
  congrArg List.head? (SMap.at_set_self [] s.lockTimes e (s.now :: (s.lockTimes.at [] e).take 2))

/-- What the lockstep check leaves (R214). -/
theorem State.lockstepCheck_spec (s : State) (e : Nat) (l : Fin 32) : s.notes (s.lockstepCheck e l) e l fcLockstep ∧
    (s.lockstepCheck e l).fld .csStat 16 8 e = min 255 (s.fld .csStat 16 8 e + 1) ∧
    (s.lockstepCheck e l).rd .fltSeq = s.rd .fltSeq + 1 ∧ ((s.lockstepCheck e l).lockTimes.at [] e).head? = some s.now := by
  have timed := s.mismatched_frame e
  have counted : s.frame ((s.mismatched e).bump .csStat 16 8 e) [.lockTimes, .reg .csStat] := .bump (timed.mono (by decide))
  have noted : s.frame (((s.mismatched e).bump .csStat 16 8 e).noteCheck e fcLockstep l)
      (.lockTimes :: .reg .csStat :: State.frame.noteCheckParts) := .noteCheck (counted.mono (by decide))
  have after : (((s.mismatched e).bump .csStat 16 8 e).noteCheck e fcLockstep l).frame (s.lockstepCheck e l) (.freeCtr :: State.frame.faultParts) :=
    .fault (.drawn (.refl _ _))
  have whole : ((s.mismatched e).bump .csStat 16 8 e).frame (s.lockstepCheck e l) (.freeCtr :: State.frame.noteCheckParts ++ State.frame.faultParts) :=
    .fault (.drawn (.noteCheck (.refl _ _)))
  have since : (s.mismatched e).frame (s.lockstepCheck e l) (.reg .csStat :: .freeCtr :: State.frame.noteCheckParts ++ State.frame.faultParts) :=
    .fault (.drawn (.noteCheck (.bump (.refl _ _))))
  have note : ((s.mismatched e).bump .csStat 16 8 e).notes (((s.mismatched e).bump .csStat 16 8 e).noteCheck e fcLockstep l) e l fcLockstep :=
    State.noteCheck_spec _ e fcLockstep l (by decide)
  refine ⟨(note.of_frame after).after counted, (whole.fld .csStat 16 8 _ _).trans ?_, ?_,
    (congrArg (fun m => (SMap.at [] m e).head?) (since .lockTimes (by decide))).trans (s.mismatched_head e)⟩
  · exact (State.fld_bump_self _ .csStat 16 8 e 0 (by decide)).trans (congrArg (fun v => min 255 (v + 1)) (timed.fld .csStat 16 8 _ _))
  · have drawn : s.frame (((s.mismatched e).bump .csStat 16 8 e).noteCheck e fcLockstep l).drawn
        (.freeCtr :: .lockTimes :: .reg .csStat :: State.frame.noteCheckParts) := .drawn (noted.mono (by decide))
    exact (State.fault_seq ..).trans (congrArg (· + 1) (drawn.rd .fltSeq 0 0))

theorem State.frame.put_repairs {s₀ s : State} {parts : List StatePart} {a} (h : s₀.frame s parts) (hl : .repairs ∈ parts := by decide) :
    s₀.frame { s with repairs := a } parts := by
  intro p hp
  have same := h p hp
  cases p
  case repairs => exact absurd hl hp
  all_goals exact same

/-- The failure of the word is kept (R212). -/
def State.failedAt (s : State) (e addr : Nat) : State :=
  { s with repairs := s.repairs.set [] e ((addr, s.now) :: (s.repairs.at [] e).filter (fun p => decide (s.now.toNat ≤ p.2.toNat + 16000000))) }

theorem State.failedAt_frame (s : State) (e addr : Nat) : s.frame (s.failedAt e addr) [.repairs] := .put_repairs (.refl s _)

/-- The failure of the word is kept and noted. -/
def State.failedWord (s : State) (e l addr : Nat) : State := (s.failedAt e addr).noteCheck e fcParity l

theorem State.failedWord_notes (s : State) (e addr : Nat) (l : Fin 32) : s.notes (s.failedWord e l addr) e l fcParity :=
  State.notes.after (State.noteCheck_spec _ e fcParity l (by decide)) (s.failedAt_frame e addr)

theorem State.failedWord_frame (s : State) (e l addr : Nat) : s.frame (s.failedWord e l addr) (.repairs :: State.frame.noteCheckParts) :=
  .noteCheck ((s.failedAt_frame e addr).mono (by decide))

/-- The word is counted and repaired (R212). -/
def State.repaired (s : State) (e addr : Nat) : State := ((s.bump .csStat 8 8 e).setFld .mcLast 0 14 addr e).repairWord e addr

theorem State.repaired_spec (s : State) (e addr : Nat) (h : addr < 16384) : (s.repaired e addr).fld .csStat 8 8 e = min 255 (s.fld .csStat 8 8 e + 1) ∧
    (s.repaired e addr).fld .mcLast 0 14 e = addr ∧ (∀ lo len, 14 ≤ lo → (s.repaired e addr).fld .mcLast lo len e = s.fld .mcLast lo len e) := by
  have count : (s.bump .csStat 8 8 e).frame (s.repaired e addr) (.reg .mcLast :: State.frame.repairWordParts) := .repairWord (.setFld (.refl _ _))
  have word : ((s.bump .csStat 8 8 e).setFld .mcLast 0 14 addr e).frame (s.repaired e addr) State.frame.repairWordParts := .repairWord (.refl _ _)
  have before : s.frame (s.bump .csStat 8 8 e) [.reg .csStat] := .bump (.refl s _)
  refine ⟨(count.fld .csStat _ _ _ _).trans (State.fld_bump_self _ .csStat 8 8 e 0 (by decide)), (word.fld .mcLast _ _ _ _).trans ?_, fun lo len h' => ?_⟩
  · exact (State.fld_setFld_self _ .mcLast 0 14 addr e 0 (by decide)).trans (Nat.mod_eq_of_lt h)
  · exact (word.fld .mcLast _ _ _ _).trans ((State.fld_setFld_off _ _ _ _ _ _ _ (.inr h')).trans (before.fld .mcLast _ _ _ _))

/-! ## Retirement (R369) -/

/-- The context x is EMPTY, and every reference to it names y, where the context stands as before. -/
def State.moveEnd (s : State) (x y was : Nat) : State :=
  (((((s.setCr .ctxStat (s.cr .ctxStat x) y).setCtxState y was).setCtxState x 0).setCtx x {}).rename x y).noteMove x (some y)

theorem State.moveEnd_failed (s : State) (x y was : Nat) : (s.moveEnd x y was).failed = s.failed := by
  have stat : s.frame (((s.setCr .ctxStat (s.cr .ctxStat x) y).setCtxState y was).setCtxState x 0) State.frame.setCtxStateParts :=
    .setCtxState (.setCtxState (.wr (.refl s _)))
  unfold State.moveEnd
  generalize ((s.setCr .ctxStat (s.cr .ctxStat x) y).setCtxState y was).setCtxState x 0 = u at *
  have last : u.frame (((u.setCtx x {}).rename x y).noteMove x (some y)) (.ctxs :: .reg .fltMove :: State.frame.renameParts) :=
    .noteMove (.rename (.setCtx (.refl u _)))
  exact (last .failed (by decide)).trans (stat .failed (by decide))

theorem State.moveCtx_failed (s : State) (x was : Nat) : (s.moveCtx x was).failed = s.failed := by
  have locks : (s.freeLocks x).failed = s.failed := (State.frame.freeLocks (.refl s State.frame.freeLocksParts)) .failed (by decide)
  unfold State.moveCtx
  generalize s.freeLocks x = u at *
  dsimp only
  split
  case h_1 =>
    have fr : u.frame ((((u.setCr .ctxCause (toW fcLockstep) x).setCtxState x 5).noteMove x none).fltEvent 2)
        (.reg .ctxCause :: .reg .fltMove :: State.frame.setCtxStateParts ++ State.frame.fltEventParts) :=
      .fltEvent (.noteMove (.setCtxState (.wr (.refl u _))))
    exact (fr .failed (by decide)).trans locks
  case h_2 y _ =>
    have regs : (ctxRegs.foldl (fun s n => s.setCr n (s.cr n x) y) u).failed = u.failed :=
      State.foldl_seen (f := fun s n => s.setCr n (s.cr n x) y) State.failed (fun _ _ => rfl) u ctxRegs
    generalize ctxRegs.foldl (fun s n => s.setCr n (s.cr n x) y) u = v at *
    have gprs : v.frame (v.each (List.range 16) (fun s r => s.setG y (Fin.ofNat 16 r) (s.g x (Fin.ofNat 16 r)))) [.gpr] :=
      .each (.refl v _) fun _ _ h => .setG h
    generalize v.each (List.range 16) _ = w at *
    have moved : w.frame (((w.setCtx y (w.ctx x)).setLatch (2 + y) (w.latchOf (2 + x)))) [.ctxs, .latch] := .setLatch (.setCtx (.refl w _))
    generalize (w.setCtx y (w.ctx x)).setLatch (2 + y) (w.latchOf (2 + x)) = m at *
    exact (m.moveEnd_failed x y was).trans ((moved .failed (by decide)).trans ((gprs .failed (by decide)).trans (regs.trans locks)))

theorem mem_insertRising (n : Nat) (l : List Nat) : n ∈ insertRising n l := by
  induction l with
  | nil => exact List.mem_singleton.2 rfl
  | cons m r ih =>
    unfold insertRising
    split
    · exact List.mem_cons_self ..
    · split
      · next same => exact same ▸ List.mem_cons_self ..
      · exact List.mem_cons_of_mem _ ih

/-- An engine retires where another stays. -/
theorem State.retire_failed {s : State} {e : Nat} (runs : s.failed.contains (80 + e) = false) (others : 2 ≤ s.liveEngines.length) :
    (s.retire e).failed.contains (80 + e) = true := by
  unfold State.retire
  rw [if_neg (by rw [runs]; decide), if_neg (by omega)]
  extract_lets failed spared live renamed tasks order was moving moved
  have told : failed.failed = (s.setFailed (80 + e)).failed := (s.withUnits_told [80 + e] (·.setFailed (80 + e))) .failed (by decide)
  have names : failed.frame renamed (.reg .fltSpare :: State.frame.renameParts) := .each (.setFld (.refl _ _)) fun _ _ h => .rename h
  have stand : renamed.frame moving State.frame.setCtxStateParts := .each (.refl _ _) fun _ _ h => .setCtxState h
  have places : moved.failed = moving.failed :=
    State.foldl_seen (f := fun s (p : Nat × Nat) => s.moveCtx p.1 p.2) State.failed (fun u p => u.moveCtx_failed p.1 p.2) moving (order.zip was)
  have last : moved.frame (moved.drawn.fault 4 (80 + e) 0 false (Config.freeNs moved.freeCtr % 100001) (toW e) 0) (.freeCtr :: State.frame.faultParts) :=
    .fault (.drawn (.refl _ _))
  rw [last .failed (by decide), places, stand .failed (by decide), names .failed (by decide), told]
  exact List.contains_iff_mem.2 (mem_insertRising _ _)

theorem State.fld_setFld_index (s : State) (n : RegName) {lo len lo' len' : Nat} (v i j i' j' : Nat) (h : i' ≠ i) :
    (s.setFld n lo len v i j).fld n lo' len' i' j' = s.fld n lo' len' i' j' :=
  congrArg (getF · lo' len') (s.rd_wr_index n _ i i' j j' h)

theorem State.haltStart_startHalted (s : State) : s.haltStart.startHalted = true := by
  unfold State.haltStart State.sealRec State.startHalted
  extract_lets noted counted
  have feed : counted.frame (counted.setFlag .startFeed 0 false) [.reg .startFeed] := .setFlag (.refl _ _)
  have state : noted.fld .startRec 20 2 0 = 1 := s.fld_setFld_self .startRec 20 2 1 0 0 (by decide)
  refine beq_iff_eq.2 ((State.fld_setFld_index _ _ _ _ _ _ _ (by decide)).trans ((feed.fld .startRec _ _ _ _).trans ?_))
  exact (State.fld_setFld_index _ _ _ _ _ _ _ (by decide)).trans state

theorem State.haltDevice_failed (s : State) : s.haltDevice.failed = s.failed := by
  unfold State.haltDevice
  extract_lets src r
  have kept : r.frame r.haltStart State.frame.haltStartParts := .haltStart (.refl r _)
  exact kept .failed (by decide)

theorem State.haltDevice_startHalted (s : State) : s.haltDevice.startHalted = true := State.haltStart_startHalted _

/-- The last engine does not retire: the device halts. -/
theorem State.retire_last {s : State} {e : Nat} (runs : s.failed.contains (80 + e) = false) (last : s.liveEngines.length ≤ 1) :
    (s.retire e).failed = s.failed ∧ (s.retire e).startHalted = true := by
  unfold State.retire
  rw [if_neg (by rw [runs]; decide), if_pos last]
  have recorded : s.frame (s.fault 4 (80 + e) 0 true 0 (toW e) 0) State.frame.faultParts := .fault (.refl s _)
  have failed := recorded .failed (by decide)
  generalize s.fault 4 (80 + e) 0 true 0 (toW e) 0 = u at *
  exact ⟨u.haltDevice_failed.trans failed, u.haltDevice_startHalted⟩

/-- What says which engines run. -/
theorem State.frame.live {s t : State} {l : List StatePart} (h : s.frame t l) (hv : .variant ∉ l := by decide) (hf : .failed ∉ l := by decide) :
    t.liveEngines = s.liveEngines ∧ ∀ e, t.engLive e = s.engLive e := by
  unfold State.liveEngines State.engLive State.engines State.tiles
  rw [h .variant hv, h .failed hf]
  exact ⟨rfl, fun _ => rfl⟩

theorem State.engLive_iff {s : State} {e : Nat} (h : s.engLive e = true) : s.failed.contains (80 + e) = false := by
  unfold State.engLive at h
  rw [Bool.and_eq_true, Bool.not_eq_true'] at h
  exact h.2

/-- An engine retires after what touches neither the engines nor their number. -/
theorem State.retire_after {s t : State} {e : Nat} {l : List StatePart} (h : s.frame t l) (runs : s.failed.contains (80 + e) = false)
    (hv : .variant ∉ l := by decide) (hf : .failed ∉ l := by decide) :
    (2 ≤ s.liveEngines.length → (t.retire e).failed.contains (80 + e) = true) ∧
    (s.liveEngines.length ≤ 1 → (t.retire e).failed = s.failed ∧ (t.retire e).startHalted = true) := by
  obtain ⟨live, -⟩ := h.live hv hf
  have same := h .failed hf
  rw [← live, ← same]
  rw [← same] at runs
  exact ⟨State.retire_failed runs, State.retire_last runs⟩

/-! ## Parity (R212) -/

/-- Failures of the word at key within the last 1 ms. -/
def State.failuresAt (s : State) (e key : Nat) : List (Nat × Stamp) :=
  ((s.repairs.at [] e).filter (fun p => decide (s.now.toNat ≤ p.2.toNat + 16000000))).filter (fun p => p.1 == key)

theorem State.parityCheck_eq (s : State) (e l key : Nat) (golden : Bool) : s.parityCheck e l key golden =
    let u := s.failedWord e l key
    if !golden then (u.when (!u.goldenLost.contains (goldenKey e key)) (·.uncorrectable (.golden (Fin.ofNat 4 e)) key)).retire e
    else if u.goldenLost.contains (goldenKey e key) || decide (2 ≤ (s.failuresAt e key).length) then u.retire e
    else (u.repaired e key).drawn.fault 0x02 (80 + e) 0 false (Config.freeNs (u.repaired e key).freeCtr % 1001) (toW key) 0 := rfl

theorem State.parityCheck_repairs {s : State} {e l key : Nat} (kept : s.goldenLost.contains (goldenKey e key) = false)
    (few : (s.failuresAt e key).length < 2) : s.parityCheck e l key true =
      (((s.failedWord e l key).repaired e key).drawn).fault 0x02 (80 + e) 0 false
        (Config.freeNs ((s.failedWord e l key).repaired e key).freeCtr % 1001) (toW key) 0 := by
  have lost : (s.failedWord e l key).goldenLost = s.goldenLost := (s.failedWord_frame e l key) .goldenLost (by decide)
  have no : ¬(((s.failedWord e l key).goldenLost.contains (goldenKey e key) || decide (2 ≤ (s.failuresAt e key).length)) = true) := by
    rw [lost, kept, decide_eq_false (by omega)]
    decide
  exact (s.parityCheck_eq e l key true).trans ((if_neg (by decide)).trans (if_neg no))

theorem State.parityCheck_retires {s : State} {e l key : Nat} (golden : Bool)
    (h : golden = true → s.goldenLost.contains (goldenKey e key) = true ∨ 2 ≤ (s.failuresAt e key).length)
    (runs : s.failed.contains (80 + e) = false) (others : 2 ≤ s.liveEngines.length) :
    (s.parityCheck e l key golden).failed.contains (80 + e) = true := by
  have noted := s.failedWord_frame e l key
  cases golden with
  | false =>
    have lost : s.frame ((s.failedWord e l key).when (!(s.failedWord e l key).goldenLost.contains (goldenKey e key))
        (·.uncorrectable (.golden (Fin.ofNat 4 e)) key)) (.repairs :: State.frame.noteCheckParts ++ State.frame.uncorrectableParts) :=
      .when (noted.mono (by decide)) fun _ h => .uncorrectable h
    rw [State.parityCheck_eq]
    generalize s.failedWord e l key = u at *
    rw [if_pos (by decide)]
    exact (State.retire_after lost runs).1 others
  | true =>
    have lost : (s.failedWord e l key).goldenLost = s.goldenLost := noted .goldenLost (by decide)
    have yes : ((s.failedWord e l key).goldenLost.contains (goldenKey e key) || decide (2 ≤ (s.failuresAt e key).length)) = true := by
      rw [lost, Bool.or_eq_true, decide_eq_true_iff]
      exact h rfl
    have all : s.parityCheck e l key true = (s.failedWord e l key).retire e :=
      (s.parityCheck_eq e l key true).trans ((if_neg (by decide)).trans (if_pos yes))
    rw [all]
    exact (State.retire_after noted runs).1 others

/-- What a repaired word leaves (R212). -/
theorem State.parityCheck_spec {s : State} {e key : Nat} {l : Fin 32} (kept : s.goldenLost.contains (goldenKey e key) = false)
    (few : (s.failuresAt e key).length < 2) (small : key < 16384) {t : State} (ht : s.parityCheck e l key true = t) :
    t.fld .csStat 8 8 e = min 255 (s.fld .csStat 8 8 e + 1) ∧ s.notes t e l fcParity ∧ t.fld .mcLast 0 14 e = key ∧
    t.rd .fltSeq = s.rd .fltSeq + 1 ∧ t.ctxs = s.ctxs ∧ t.gpr = s.gpr ∧ t.taskMem = s.taskMem ∧ t.failed = s.failed := by
  have noted := s.failedWord_frame e l key
  obtain ⟨count, word, others⟩ := (s.failedWord e l key).repaired_spec e key small
  have mended : (s.failedWord e l key).frame ((s.failedWord e l key).repaired e key) (.reg .csStat :: .reg .mcLast :: State.frame.repairWordParts) :=
    .repairWord (.setFld (.bump (.refl _ _)))
  have note : s.notes ((s.failedWord e l key).repaired e key) e l fcParity := by
    obtain ⟨kind, ctx, time, cause, pc⟩ := s.failedWord_notes e key l
    exact ⟨(others 16 8 (by decide)).trans kind, (others 24 5 (by decide)).trans ctx, (mended.rd .mcTime _ _).trans time,
      (mended.rd .ctxCause _ _).trans cause, (mended.rd .ctxFaultPc _ _).trans pc⟩
  have before : s.frame ((s.failedWord e l key).repaired e key).drawn
      (.freeCtr :: .repairs :: .reg .csStat :: .reg .mcLast :: State.frame.noteCheckParts ++ State.frame.repairWordParts) :=
    .drawn (.trans (noted.mono (by decide)) (mended.mono (by decide)))
  rw [State.parityCheck_repairs kept few] at ht
  have last : ((s.failedWord e l key).repaired e key).frame t (.freeCtr :: State.frame.faultParts) := ht ▸ .fault (.drawn (.refl _ _))
  have whole : s.frame t (.freeCtr :: .repairs :: .reg .csStat :: .reg .mcLast :: State.frame.noteCheckParts ++ State.frame.repairWordParts ++
      State.frame.faultParts) := ht ▸ .fault (before.mono (by decide))
  have seq : t.rd .fltSeq = s.rd .fltSeq + 1 := by
    rw [← ht]
    exact (State.fault_seq ..).trans (congrArg (· + 1) (before.rd .fltSeq 0 0))
  exact ⟨(last.fld .csStat _ _ _ _).trans (count.trans (congrArg (fun v => min 255 (v + 1)) (noted.fld .csStat _ _ _ _))), note.of_frame last,
    (last.fld .mcLast _ _ _ _).trans word, seq, whole .ctxs (by decide), whole .gpr (by decide), whole .taskMem (by decide), whole .failed (by decide)⟩

section
variable {e : Fin 4} {ts : Stamp} {s z : State}

theorem exec_mcParity {l : Fin 32} {addr : Fin 8192} {disp golden : Bool} (hz : s.reachIn (islEngine e) ts = z) (hp : s.pstate < 3)
    (live : z.engLive e = true) (run : z.halted e = false) :
    exec (.mcParity e l addr disp golden ts) s = .next (z.parityCheck e l (if disp then 8192 + addr.val % 256 else addr.val) golden) := by
  refine congrArg Host.Outcome.next ((State.happens_eq hp ?_ _).trans ?_)
  · rw [hz]
    exact live
  · rw [hz]
    exact (if_neg (by rw [run]; decide)).trans (if_neg (by rw [live]; decide))

/-- The check waits for the resume (R195). -/
def State.holdCheck (s : State) (e : Nat) (c : HeldCheck) : State :=
  { s with heldChecks := s.heldChecks.set [] e (s.heldChecks.at [] e ++ [c]) }

theorem State.holdCheck_spec (s : State) (e : Nat) (c : HeldCheck) : (s.holdCheck e c).regs = s.regs ∧ (s.holdCheck e c).failed = s.failed ∧
    (s.holdCheck e c).heldChecks.at [] e = s.heldChecks.at [] e ++ [c] :=
  ⟨rfl, rfl, SMap.at_set_self [] s.heldChecks e (s.heldChecks.at [] e ++ [c])⟩

theorem exec_mcLockstep {l : Fin 32} (hz : s.reachIn (islEngine e) ts = z) (hp : s.pstate < 3) (live : z.engLive e = true) :
    exec (.mcLockstep e l ts) s = .next (if z.halted e then z.holdCheck e { l := l, word := none } else z.lockstepCheck e l) := by
  refine congrArg Host.Outcome.next ((State.happens_eq hp ?_ _).trans ?_)
  · rw [hz]
    exact live
  · rw [hz]
    unfold State.machineCheck State.checkNow
    rw [live]
    rfl

/-- What precedes a retirement: a fault of Keystone's own context is recorded, or the mismatches are spent. -/
def State.retiring (s : State) (e : Nat) : State :=
  match (s.ctx (ctxOf e 0)).fault with
  | some f => (((s.setCr .ctxCause (toW f.code) (ctxOf e 0)).setCr .ctxFaultPc f.pc (ctxOf e 0)).onCtx (ctxOf e 0)
      (fun c => { c with fault := none })).fault 0x12 (80 + e) 0 false 0 f.pc (toW (f.code + ctxOf e 0 * 256))
  | none => { s with lockTimes := s.lockTimes.set [] e [] }

/-- What it touches. -/
def retiringParts : List StatePart := .ctxs :: .lockTimes :: .reg .ctxCause :: .reg .ctxFaultPc :: State.frame.faultParts

theorem State.retiring_frame (s : State) (e : Nat) : s.frame (s.retiring e) retiringParts := by
  unfold State.retiring
  split
  · exact .fault (.onCtx (.wr (.wr (.refl s _))))
  · exact .put_lockTimes (.refl s _)

theorem exec_engineRetired (hz : s.reachIn (islEngine e) ts = z) (hp : s.pstate < 3) (fitted : e.val < z.engines) (must : z.mustRetire e = true) :
    exec (.engineRetired e ts) s = .next ((z.retiring e).retire e) := by
  refine congrArg Host.Outcome.next ((State.happens_eq hp ?_ _).trans ?_)
  · rw [hz, decide_eq_true fitted, must]
    rfl
  · rw [hz]
    unfold State.retiring
    cases (z.ctx (ctxOf e 0)).fault with
    | some f => rfl
    | none => rfl

end

/-! ## The obligation -/

/-- Where the fault is taken (R205, R206). -/
theorem State.faultTaken_task {s : State} {x : Nat} (f : CtxFault) (run : s.halted (x / 32) = false) (loc : 3 ≤ x % 32) :
    s.faultTaken x f = s.faultNow x 0x10 f := (if_neg (by rw [run]; simp; omega)).trans (if_neg (by omega))

theorem State.faultTaken_service {s : State} {x : Nat} (f : CtxFault) (run : s.halted (x / 32) = false) (loc : x % 32 = 1 ∨ x % 32 = 2) :
    s.faultTaken x f = (s.faultNow x 0x11 f).startCtx x := (if_neg (by rw [run]; simp; omega)).trans (if_pos (by omega))

theorem State.faultTaken_frame (s : State) (x : Nat) (f : CtxFault) :
    s.frame (s.faultTaken x f) (State.frame.faultNowParts ++ State.frame.startCtxParts) :=
  .ite (.refl s _) (.ite (.startCtx (.faultNow (.refl s _))) (.faultNow (.refl s _)))

/-- What the start of a service after a fault leaves (R206). -/
theorem State.restarted_spec (s : State) (x : Nat) (f : CtxFault) {t : State} (ht : (s.faultNow x 0x11 f).startCtx x = t) :
    t.ctxState x = 2 ∧ (t.ctx x).pc = s.cr .ctxEntry x ∧ t.cr .ctxCause x = toW f.code ∧ (∀ q, t.g x q = 0) ∧ t.rd .fltSeq = s.rd .fltSeq + 1 := by
  obtain ⟨-, -, cause, -, seq⟩ := s.faultNow_spec x 0x11 f
  obtain ⟨ctx, state, zero⟩ := (s.faultNow x 0x11 f).startCtx_spec x
  have fresh : (s.faultNow x 0x11 f).fresh x = s.fresh x := State.fresh_congr (.faultNow (.refl s State.frame.faultNowParts)) x
  have last : (s.faultNow x 0x11 f).frame ((s.faultNow x 0x11 f).startCtx x) State.frame.startCtxParts := .startCtx (.refl _ _)
  rw [ht] at ctx state zero last
  exact ⟨state, (congrArg Ctx.pc ctx).trans (congrArg Ctx.pc fresh), (last.rd .ctxCause _ _).trans cause, zero, (last.rd .fltSeq 0 0).trans seq⟩

theorem State.serviceAgain_spec (s : State) (x : Nat) (f : CtxFault) (during : Option CmdPath) {t : State} (ht : s.serviceAgain x f during = t) :
    t.ctxState x = 2 ∧ (t.ctx x).pc = s.cr .ctxEntry x ∧ t.cr .ctxCause x = toW f.code ∧ (∀ q, t.g x q = 0) ∧ t.rd .fltSeq = s.rd .fltSeq + 1 := by
  obtain ⟨state, pc, cause, zero, seq⟩ := s.restarted_spec x f rfl
  unfold State.serviceAgain at ht
  generalize (s.faultNow x 0x11 f).startCtx x = u at *
  cases during with
  | none => exact ht ▸ ⟨state, pc, cause, zero, seq⟩
  | some p =>
    obtain ⟨fr, pcs⟩ := u.answerBusy_spec p
    dsimp only at ht
    rw [ht] at fr pcs
    exact ⟨(fr.fld .ctxStat 0 3 _ _).trans state, (pcs x).trans pc, (fr.rd .ctxCause _ _).trans cause,
      fun q => (State.g_congr (fr .gpr (by decide)) x q).trans (zero q), (fr.rd .fltSeq 0 0).trans seq⟩

/-- What the memory's fault leaves of every context (R215). -/
theorem State.memoryTaken_spec (s : State) {x : Nat} (a : Nat) (run : s.halted (x / 32) = false) {t : State}
    (ht : (s.memoryFault x a).faultTaken x ((s.ctx x).wordFault a) = t) :
    t.fld .csStat 24 8 (x / 32) = min 255 (s.fld .csStat 24 8 (x / 32) + 1) ∧
    (3 ≤ x % 32 → t.ctxState x = 5 ∧ t.cr .ctxCause x = toW fcMemory ∧ t.gpr = s.gpr) ∧
    (x % 32 = 1 ∨ x % 32 = 2 → t.ctxState x = 2 ∧ (t.ctx x).pc = s.cr .ctxEntry x) ∧
    (x % 32 = 0 → (t.ctx x).fault = some ((s.ctx x).wordFault a) ∧ t.gpr = s.gpr) := by
  obtain ⟨fault, count⟩ := s.memoryFault_spec x a
  have fr := s.memoryFault_frame x a
  have run' : (s.memoryFault x a).halted (x / 32) = false := (fr.flag .engDbg 0 _ _).trans run
  have taken := (s.memoryFault x a).faultTaken_frame x ((s.ctx x).wordFault a)
  refine ⟨ht ▸ (taken.fld .csStat 24 8 _ _).trans count, fun loc => ?_, fun loc => ?_, fun loc => ?_⟩
  · obtain ⟨-, state, cause, -⟩ := (s.memoryFault x a).faultNow_spec x 0x10 ((s.ctx x).wordFault a)
    have kept : s.frame ((s.memoryFault x a).faultNow x 0x10 ((s.ctx x).wordFault a)) (State.frame.memoryCheckParts ++ State.frame.faultNowParts) :=
      .faultNow (fr.mono (by decide))
    rw [State.faultTaken_task _ run' loc] at ht
    exact ht ▸ ⟨state, cause, kept .gpr (by decide)⟩
  · rw [State.faultTaken_service _ run' loc] at ht
    obtain ⟨state, pc, -⟩ := State.restarted_spec _ _ _ ht
    exact ⟨state, pc.trans (fr.rd .ctxEntry _ _)⟩
  · rw [← ht, State.faultTaken, if_pos (.inl loc)]
    exact ⟨fault, fr .gpr (by decide)⟩

/-- Settles O42: each fault and check is followed to what it notes and what it leaves. -/
theorem faultsAndMachineChecks : Obligations.FaultsAndMachineChecks := by
  intro x e addr l a disp during ts s hp z key again live noted
  have reached : ∀ i, s.frame (s.reachIn i ts) [.now] := fun i => .reachIn (.refl s _)
  have hz := reached (islEngine e)
  have hx := reached (islEngine (x / 32))
  have run : ∀ {n : Nat}, s.halted n = false → (s.reachIn (islEngine (x / 32)) ts).halted n = false := fun h => (hx.flag .engDbg 0 _ _).trans h
  have lives : s.engLive e = true → z.engLive e = true := fun h => (hz.live.2 e).trans h
  have halts : z.halted e = s.halted e := hz.flag .engDbg 0 _ _
  have count : z.liveEngines = s.liveEngines := hz.live.1
  have lost : z.goldenLost = s.goldenLost := hz .goldenLost (by decide)
  have failed : z.failed = s.failed := hz .failed (by decide)
  have before : z.failuresAt e key = again := by
    unfold State.failuresAt
    rw [hz .repairs (by decide)]
  have small : key < 16384 := by
    unfold key
    split <;> omega
  have told : ∀ {t : State} {code : Nat}, z.notes t e l code → noted t code := fun ⟨kind, ctx, time, cause, pc⟩ =>
    ⟨kind, ctx, time, cause, pc.trans (congrArg Ctx.pc (hz.ctx _))⟩
  refine ⟨?task, ?service, ?memory, ?repairs, ?golden, ?retires, ?lockstep, ?held, ?engine⟩
  case task =>
    intro f loc going fault
    obtain ⟨⟨q, ctx⟩, state, cause, pc, seq⟩ := (s.reachIn (islEngine (x / 32)) ts).faultNow_spec x 0x10 f
    have kept : s.frame ((s.reachIn (islEngine (x / 32)) ts).faultNow x 0x10 f) (.now :: State.frame.faultNowParts) := .faultNow (hx.mono (by decide))
    exact ⟨_, exec_taskFault hp loc (run going) ((congrArg Ctx.fault (hx.ctx x)).trans fault), state, cause, pc,
      (congrArg Ctx.fault ctx).trans rfl, (congrArg Ctx.out ctx).trans rfl, seq.trans (congrArg (· + 1) (hx.rd .fltSeq 0 0)), kept .gpr (by decide)⟩
  case service =>
    intro f loc going fault
    obtain ⟨state, pc, cause, zero, seq⟩ := (s.reachIn (islEngine (x / 32)) ts).serviceAgain_spec x f during rfl
    exact ⟨_, exec_serviceFault during hp loc (run going) ((congrArg Ctx.fault (hx.ctx x)).trans fault), state, pc.trans (hx.rd .ctxEntry _ _),
      cause, zero, seq.trans (congrArg (· + 1) (hx.rd .fltSeq 0 0))⟩
  case memory =>
    intro fitted bad ready going well
    obtain ⟨count, task, service, keystone⟩ := (s.reachIn (islEngine (x / 32)) ts).memoryTaken_spec a (run going) rfl
    have gpr := hx .gpr (by decide)
    have ctx := hx.ctx x
    refine ⟨_, exec_mcMemory rfl hp fitted ((congrArg (fun m => List.contains m (a / 4 * 4)) (hx .badTm (by decide))).trans bad)
      ((hx.fld .ctxStat 0 3 _ _).trans ready) ((congrArg Ctx.fault ctx).trans well),
      count.trans (congrArg (fun v => min 255 (v + 1)) (hx.fld .csStat _ _ _ _)), fun loc => ?_, fun loc => ?_, fun loc => ?_⟩
    · obtain ⟨state, cause, regs⟩ := task loc
      exact ⟨state, cause, regs.trans gpr⟩
    · obtain ⟨state, pc⟩ := service loc
      exact ⟨state, pc.trans (hx.rd .ctxEntry _ _)⟩
    · obtain ⟨fault, regs⟩ := keystone loc
      exact ⟨fault.trans (by rw [ctx]; rfl), regs.trans gpr⟩
  case repairs =>
    intro ⟨on, going⟩ kept few
    obtain ⟨counted, note, word, seq, ctxs, gpr, mem, fail⟩ := State.parityCheck_spec (s := z) (e := e) (l := l) (by rw [lost]; exact kept)
      (by rw [before]; exact few) small rfl
    exact ⟨_, exec_mcParity rfl hp (lives on) (halts.trans going), counted.trans (congrArg (fun v => min 255 (v + 1)) (hz.fld .csStat _ _ _ _)),
      told note, word, seq.trans (congrArg (· + 1) (hz.rd .fltSeq 0 0)), ctxs.trans (hz .ctxs (by decide)), gpr.trans (hz .gpr (by decide)),
      mem.trans (hz .taskMem (by decide)), fail.trans failed⟩
  case golden =>
    intro ⟨on, going⟩ others
    exact ⟨_, exec_mcParity rfl hp (lives on) (halts.trans going), State.parityCheck_retires false nofun
      (State.engLive_iff (lives on)) (count ▸ others)⟩
  case retires =>
    intro ⟨on, going⟩ others why
    exact ⟨_, exec_mcParity rfl hp (lives on) (halts.trans going), State.parityCheck_retires true (fun _ => by rw [lost, before]; exact why)
      (State.engLive_iff (lives on)) (count ▸ others)⟩
  case lockstep =>
    intro ⟨on, going⟩
    obtain ⟨note, counted, seq, head⟩ := z.lockstepCheck_spec e l
    have kept : z.frame (z.lockstepCheck e l) State.frame.lockstepCheckParts := .lockstepCheck (.refl z _)
    refine ⟨_, (exec_mcLockstep rfl hp (lives on)).trans (congrArg Host.Outcome.next (if_neg ?_)),
      counted.trans (congrArg (fun v => min 255 (v + 1)) (hz.fld .csStat _ _ _ _)), told note, seq.trans (congrArg (· + 1) (hz.rd .fltSeq 0 0)),
      (kept .ctxs (by decide)).trans (hz .ctxs (by decide)), (kept .gpr (by decide)).trans (hz .gpr (by decide)), head⟩
    rw [halts, going]
    decide
  case held =>
    intro on going
    obtain ⟨regs, fail, checks⟩ := z.holdCheck_spec e { l := l, word := none }
    exact ⟨_, (exec_mcLockstep rfl hp (lives on)).trans (congrArg Host.Outcome.next (if_pos (halts.trans going))), regs, fail.trans failed, checks⟩
  case engine =>
    intro fitted must on
    have must' : z.mustRetire e = true := by
      unfold State.mustRetire at must ⊢
      rw [hz .lockTimes (by decide), hz.ctx]
      exact must
    have runs : z.failed.contains (80 + e.val) = false := failed ▸ on
    obtain ⟨goes, halt⟩ := State.retire_after (z.retiring_frame e) runs
    rw [count] at goes halt
    refine ⟨fun h => ⟨_, exec_engineRetired rfl hp fitted must', goes h⟩, fun h => ?_⟩
    obtain ⟨fail, stop⟩ := halt h
    exact ⟨_, exec_engineRetired rfl hp fitted must', fail.trans failed, stop⟩

end Sys2Proof.Machine
end
